-- ==== Sys2Proof/Word.lean ====
section
/-!
DEFINITION. The byte type and the little-endian packing every chapter uses (R5), on `Nat` and `Int`.
-/

namespace Sys2Proof

/-- One byte of a record, a message or a memory. -/
abbrev Byte := BitVec 8

/-- The `n` low bytes of a number, least significant first (R5). -/
def leBytes : Nat → Nat → List Byte
  | 0, _ => []
  | n + 1, v => BitVec.ofNat 8 v :: leBytes n (v / 256)

/-- The number that bytes spell, least significant first (R5). -/
def ofLeBytes : List Byte → Nat
  | [] => 0
  | b :: bs => b.toNat + 256 * ofLeBytes bs

/-- Two's complement of `n` bits of an integer, as a number. -/
def toTwos (n : Nat) (v : Int) : Nat := (v % (2 ^ n : Nat)).toNat

/-- The integer that `n` bits of two's complement stand for. -/
def ofTwos (n : Nat) (v : Nat) : Int :=
  if 2 * (v % 2 ^ n) < 2 ^ n then ((v % 2 ^ n : Nat) : Int) else ((v % 2 ^ n : Nat) : Int) - (2 ^ n : Nat)

end Sys2Proof
end

