-- ==== Sys2Proof/Syntax.lean ====
section
/-!
DEFINITION. The commands the block takes from outside and the events that step it: one constructor of `Instr`
for each row of spec/opcode_table.json, with the operands its rule needs (a phase, a rail, a source number; the
sample or measurement the event rests on; the message of an object-protocol transaction).
-/

namespace Sys2Proof

/-- The sampled inputs of the part: what FRAME_TICK takes in at a tick (R39). -/
inductive Sig where
  /-- rising edges of the 32.768 kHz clock since the last tick -/
  | rtcEdges
  /-- SYNC_IN frequency measured, in Hz; 0 when absent -/
  | syncHz
  /-- phase error to SYNC_IN, in 0.1 ns -/
  | syncPhase
  /-- PLL lock -/
  | pllLock
  /-- a crystal edge was seen since the last tick -/
  | xtalEdge
  /-- crystal edges are within ±0.5 % of 25 MHz -/
  | xtalInTol
  /-- FCLK measured against the crystal, in Hz -/
  | fclkHz
  /-- CRES frame mean, in 10 mV -/
  | cres
  /-- frame mean of the output voltage of a rail (by rail ID), in VCODE -/
  | railV
  /-- frame mean of the output current of an auxiliary buck, in mA -/
  | railI
  /-- IMONn − REFIN at the tick, in mV -/
  | imon
  /-- the ADC of a rail is at full scale -/
  | railFs
  /-- VSNS_MRmN against AGND, in mV -/
  | railN
  /-- input voltage VINSi, in mV -/
  | vins
  /-- input voltage of an auxiliary buck, in mV -/
  | abVin
  /-- high-side current sense of an auxiliary buck, in mA -/
  | abHs
  /-- SFLTm is high -/
  | sflt
  /-- the pad of SEN_MRm reads high (R274, R381) -/
  | senMr
  /-- REIN_IN is asserted -/
  | reinIn
  /-- sample of SNS_SCc, in 0.5 mV -/
  | scRaw
  /-- PG_SCc is high -/
  | scPgIn
  /-- YARD is low -/
  | yardLow
  /-- EARLY_N is high -/
  | earlyN
  /-- LATE_N is high -/
  | lateN
  /-- frame mean of HS_VIN, in mV -/
  | hsVin
  /-- frame mean of HS_SRC, in mV -/
  | hsSrc
  /-- frame mean of the shunt voltage, in µV -/
  | hsShunt
  /-- frame mean of HS_ISN, in mV -/
  | hsIsn
  /-- HS_GATE reads back above HS_SRC + 4 V -/
  | hsGate
  /-- frame mean of VIN_MGT, in mV -/
  | vinMgt
  /-- housekeeping channel i as converted: 1/16 °C after its trim for channels 0 to 12, µA for 52 to 61, µV for the others (TMONs in µV) -/
  | hk
  /-- count of ring-oscillator sensor i over its window -/
  | roCount
  /-- DXPd against DXNd, in mV -/
  | dxp
  /-- offset found by the converter's calibration, in µV -/
  | calOff
  /-- gain error found by the converter's calibration, in ppm -/
  | calGain
  /-- frame mean of the pack shunt converter, in codes of 25 A ÷ 32,768 -/
  | ipackCode
  /-- PACK_ISN, in mV -/
  | packIsn
  /-- frame mean of PACK_P, in mV -/
  | packP
  /-- PACK_PRES is high -/
  | packPres
  /-- frame mean of VBUS, in mV -/
  | vbus
  /-- frame mean of VPP, in mV -/
  | vpp
  /-- frame mean of the current that VPP draws from its source, in mA -/
  | isrc
  /-- frame mean of the charger's output current, in mA -/
  | ichg
  /-- current of VBUS into the device, in mA -/
  | ibus
  /-- voltage of the MAIN supply balls, in mV -/
  | vinMain
  /-- CLAIM is high -/
  | claim
  deriving DecidableEq, Repr

/-- One sample: which input, which of its lines, and the value read. -/
structure Sample where
  sig : Sig
  line : Nat
  value : Int
  deriving DecidableEq, Repr

/-- What a CAN frame shows beside its message (R560): an FD frame or not, marker, kind, destination and source. No destination stands for the
device's own node ID. -/
structure CanId where
  fd : Bool := true
  marker : Nat := 0x165
  kind : Nat := 4
  dst : Option Nat := none
  src : Nat := 0
  deriving DecidableEq, Repr

/-- A request of the object protocol (R547): header, extension and data. -/
structure Req where
  port : Nat        -- 0 SPI-A, 1 SPI-B, 2 CAN-A, 3 CAN-B, 4 bench UART
  opcode : Nat
  tid : Nat
  index : Nat
  sub : Nat
  slot : Nat
  len : Nat         -- the length field of the header
  counter : Nat     -- extension of a keyed transaction
  tag : List Byte   -- extension of a keyed transaction
  offset : Nat      -- extension of a block transaction
  data : List Byte
  id : CanId := {}  -- on a CAN port, the frame that carries it
  deriving DecidableEq, Repr

/-- A plain WRITE of an object with a row of its own: port, transaction identifier and value bytes. -/
structure Plain where
  port : Nat
  tid : Nat
  data : List Byte
  src : Nat := 0    -- node ID of the sender on a CAN port
  deriving DecidableEq, Repr

/-- A keyed WRITEK of an object with a row of its own. -/
structure Keyed where
  port : Nat
  tid : Nat
  slot : Nat
  counter : Nat
  tag : List Byte
  data : List Byte
  src : Nat := 0    -- node ID of the sender on a CAN port
  deriving DecidableEq, Repr

/-- What makes the terrier watchdog expire (R58). -/
inductive TerrierCause where
  | classMissed (missing : Nat)  -- slot classes that did not run, as a bit map
  | jobStalled (j : Nat)         -- no step in 64 frames
  | jobOverrun (j : Nat)         -- over the completion limit
  | tickLost                     -- 4 µs of the guard oscillator without a tick
  | bootOverrun (step : Nat)     -- BOOT over its limit, in BOOT step 1 to 6
  deriving DecidableEq, Repr

/-- A mirror frame as received (R262, R263): the lanes in symbol lock, the marker, start and end symbols in place, the
8 blocks of 38 bytes each, and whether the twin asserts REIN_IN in that cycle (R276). -/
structure MirrorRx where
  lock0 : Bool
  lock1 : Bool
  marks : Bool
  blocks : List (List Byte)
  rein : Bool
  deriving DecidableEq, Repr

/-- What DRIVE_VIOLATION carries (R274): for how many ns a team net has been seen at a level, and the level. -/
structure NetSeen where
  ns : Nat
  high : Bool
  deriving DecidableEq, Repr

/-- What UNDERSHOOT_FIRING carries (R91): the output code, and the valley and centre samples of the present phases in list order, as
they turn on (R71). -/
structure FiringIn where
  v : Nat
  samples : List (Int × Int)
  deriving DecidableEq, Repr

/-- What OV_FAST_PATH_TRIP carries (R140): the output code, and for a buck its current in mA and how fast it falls, in mA/µs (R152). -/
structure OvTripIn where
  v : Nat
  ma : Int
  fall : Nat
  deriving DecidableEq, Repr

/-- What BUCK_TURN_ON carries: the peak demand of the compensator in mA (R148), the current at the turn-on in mA and how fast it rises
and then falls, in mA/µs (R150), and the steps since the last rising edge of SYNC_IN (R147). -/
structure BuckPulseIn where
  demand : Nat
  i0 : Int
  rise : Nat
  fall : Nat
  edge : Nat
  deriving DecidableEq, Repr

/-- What BUCK_CURRENT_LIMIT carries (R149): the current in mA, and how fast it falls afterwards, in mA/µs (R150). -/
structure BuckLimitIn where
  ma : Nat
  fall : Nat
  deriving DecidableEq, Repr

/-- A supply offer of Source_Capabilities: whether it is a fixed supply, its voltage in mV and its current in mA (R401). -/
structure Pdo where
  fixed : Bool
  mv : Nat
  ma : Nat
  deriving DecidableEq, Repr

/-- How the partner answers a role swap request of the port (R407, R408): its own message may arrive first. -/
inductive SwapAnswer where
  | accept | reject | preempted
  deriving DecidableEq, Repr

/-- What MGT reset release finds: VPP and PACK_P in mV, edges of the 32.768 kHz clock since MGT last ran (or since BKP is powered again), NODE_ID, CLAIM and TPOS
pins, the crystal's calendar unaffected; `trng` is the verdict of the TRNG health tests (0 passed, 1 repetition count,
2 adaptive proportion); `otpSingle` and `otpDouble` are the OTP words sensed with a single-bit and a double-bit error
(R447). -/
structure BootIn where
  vpp : Nat
  packP : Nat
  rtcEdges : Nat
  nodePins : Nat
  claim : Bool
  trng : Nat
  otpSingle : List Nat
  otpDouble : List Nat
  tpos : Bool
  deriving DecidableEq, Repr

/-- The commands and events of the block: the rows of spec/opcode_table.json. -/
inductive Instr where
  /-- FRAME_TICK (R39): Frame tick: faults, power-good inputs and window comparators are sampled and the 50-slot frame schedule runs. -/
  | frameTick (samples : List Sample)
  /-- ROUND_BOUNDARY (R50): Every 1,000 frames a round boundary starts the per-round work. -/
  | roundBoundary
  /-- JOB_COMPLETE (R45): A job ends as done or failed, and the next waiting job of its kind starts. -/
  | jobComplete (kind : Nat) (ok : Bool)
  /-- MGT_POWER_ON_RESET (R27): MGT reset release starts a counted BOOT that reads retention, senses OTP and loads the rule ROM, patches and banks. -/
  | mgtPowerOnReset (b : BootIn)
  /-- BOOT_COMPLETE (R32): BOOT completes once a source is valid, powers MAIN if it is valid and enters SETUP, BENCH or SAFE. -/
  | bootComplete
  /-- SYS_MODE_REQ (R30): A write of sys.mode_req requests SETUP or RUN. -/
  | sysModeReq (c : Plain)
  /-- SYS_SAFE_RELEASE (R25): A keyed write of sys.safe_release leaves SAFE for SETUP. -/
  | sysSafeRelease (c : Keyed)
  /-- SYS_REBOOT (R25): A keyed write of sys.reboot starts a warm BOOT. -/
  | sysReboot (c : Keyed)
  /-- SYS_SHIP (R34): A keyed write of sys.ship arms or disarms SHELF entry. -/
  | sysShip (c : Keyed)
  /-- MAIN_SUPPLY_LOSS (R17): MAIN loses power while MGT stays up; its team-net drivers go high-Z and a fault is raised. -/
  | mainSupplyLoss (v : Nat)
  /-- MAIN_VALID (R25): MAIN becomes valid in SETUP after a BOOT without it, and a warm BOOT with cause 0x10 follows. -/
  | mainValid
  /-- MGT_LOSS (R612): MGT power stops in any mode; the mode in force is kept in BKP retention. -/
  | mgtLoss (v packP : Nat)
  /-- TERRIER_EXPIRY (R58): The terrier watchdog expires, captures the step index and sends the device to SAFE. -/
  | terrierExpiry (cause : TerrierCause) (slot row : Nat)
  /-- SYNC_IN_LOST (R51): No SYNC_IN edge arrives for 4N cycles, and FCLK enters holdover. -/
  | syncInLost (gap : Nat)
  /-- SYNC_IN_OUT_OF_RANGE (R37): SYNC_IN measures outside ±2 % and is treated as lost. -/
  | syncInOutOfRange (hz : Nat)
  /-- HOLDOVER_EXPIRY (R52): Holdover of clk.hold_rounds expires, and the slew toward the crystal starts. -/
  | holdoverExpiry
  /-- SLEW_TO_CRYSTAL_COMPLETE (R52): FCLK reaches 400 MHz on the crystal and record 0x0D46 is written. -/
  | slewToCrystalComplete
  /-- SYNC_IN_RETURNED (R53): 64 valid SYNC_IN edges arrive, and the slew to N times SYNC_IN begins. -/
  | syncInReturned (hz : List Nat)
  /-- SYNC_IN_SLEW_COMPLETE (R53): The frequency slew to SYNC_IN ends and phase pull-in starts. -/
  | syncInSlewComplete
  /-- PHASE_LOCK_REGAINED (R53): The phase error stays within ±2.5 ns for 1,000 frames and phase lock is reported. -/
  | phaseLockRegained
  /-- CRYSTAL_FAILED (R55): No crystal edge is seen for 1 µs; FCLK holds its frequency and source 202 is raised. -/
  | crystalFailed
  /-- CRYSTAL_RESTORED (R55): The crystal has run in tolerance for 10 rounds, and FCLK returns to it. -/
  | crystalRestored
  /-- PLL_LOSS_OF_LOCK (R62): The PLL is out of lock for more than 2 frames and source 201 is raised. -/
  | pllLossOfLock
  /-- MIRROR_FRAME_CHECK (R263): A received mirror frame is judged good or missed at the end of slot 3. -/
  | mirrorFrameCheck (rx : MirrorRx)
  /-- PHASE_TURN_ON (R66): A phase turns on at its interleave instant and latches the peak reference. -/
  | phaseTurnOn (n at_ : Nat) (valley centre : Int)
  /-- BLANKING_END (R74): Blanking ends, and the peak and limit comparators are heeded again. -/
  | blankingEnd (n at_ : Nat)
  /-- PEAK_COMPARATOR_TRIP (R73): The sensed current reaches the reference minus the ramp and the pulse ends. -/
  | peakComparatorTrip (n at_ : Nat) (imon : Int)
  /-- MIN_ON_TIME_END (R75): The effective minimum on-time ends a pulse whose comparator tripped earlier. -/
  | minOnTimeEnd (n at_ : Nat)
  /-- FORCED_TURN_OFF (R76): A pulse that is still on at P − toff_min is ended and the max_duty flag is set. -/
  | forcedTurnOff (n at_ : Nat)
  /-- POSITIVE_CURRENT_LIMIT (R85): The phase current reaches ilim_eff and the pulse ends. -/
  | positiveCurrentLimit (n at_ : Nat) (imon : Int)
  /-- NEGATIVE_CURRENT_LIMIT (R86): The current falls to ineg during low-side conduction and PWM goes high-Z for the rest of the period. -/
  | negativeCurrentLimit (n at_ : Nat) (imon : Int)
  /-- ZERO_CROSSING (R88): The zero-crossing detector ends low-side conduction under diode emulation. -/
  | zeroCrossing (n at_ : Nat) (imon : Int)
  /-- OVERSHOOT_TRIP (R90): The rail output exceeds the overshoot threshold; pulses are truncated and turn-ons are held. -/
  | overshootTrip (m at_ v : Nat)
  /-- OVERSHOOT_CLEAR (R90): The output falls below half the overshoot threshold and phases resume. -/
  | overshootClear (m v : Nat)
  /-- UNDERSHOOT_FIRING (R91): The output falls below the undershoot threshold and every present phase turns on. -/
  | undershootFiring (m at_ : Nat) (f : FiringIn)
  /-- OV_FAST_PATH_TRIP (R140): The unfiltered OV fault comparator trips and the phases take the ovp_mode pad state. -/
  | ovFastPathTrip (r at_ : Nat) (x : OvTripIn)
  /-- OV_FAST_PATH_RELEASE (R140): The output stays below the OV warning threshold for 1 µs and the fast path releases. -/
  | ovFastPathRelease (r v below : Nat)
  /-- ON_DELAY_EXPIRY (R192): A released rail's on-delay expires. -/
  | onDelayExpiry (r : Nat)
  /-- START_COMMAND (R193): A rail whose on-delay has expired and whose parents are qualified receives its start command. -/
  | startCommand (r : Nat)
  /-- PREBIAS_WAIT_END (R94): The wait ends on a low voltage or a timeout; the test runs or fails by voltage. -/
  | prebiasWaitEnd (r : Nat)
  /-- SHT_WINDOW_END (R98): The 200-frame test window ends without failure and the soft start begins. -/
  | shtWindowEnd (r : Nat)
  /-- LOOP_UPDATE (R115): Every upd_div-th turn-on triggers a loop update that computes the target and the demand. -/
  | loopUpdate (m at_ sum cnt : Nat) (vins : List Int)
  /-- RAIL_OFF_COMMAND (R199): A rail receives its off command once its predecessors are discharged. -/
  | railOffCommand (r : Nat)
  /-- SHED_MOVE_DOWN (R133): Ifr below i_drop for 1,000 ticks moves the rail down one level. -/
  | shedMoveDown (m : Nat)
  /-- SHED_HOLDOFF_EXPIRY (R134): The 1,000-frame shed hold-off after an abort expires. -/
  | shedHoldoffExpiry (m : Nat)
  /-- WINDOW_QUALIFIED (R137): An OV or UV window qualifies after its filter time and raises its class. -/
  | windowQualified (r w : Nat)
  /-- RAIL_CURRENT_LIMIT_SUSTAINED (R128): Irail at or above ilim_eff for ilim_filt ticks raises class 0x06. -/
  | railCurrentLimitSustained (m : Nat)
  /-- SENSE_FAULT (R141): The ADC at full scale or the N-side out of range for 8 ticks raises a rail sense fault. -/
  | senseFault (m : Nat)
  /-- VIN_FF_OUT_OF_RANGE (R154): The feed-forward VIN is out of range for 8 ticks and FF is held at 0. -/
  | vinFfOutOfRange (m : Nat)
  /-- HICCUP_WAIT_EXPIRY (R143): The hiccup wait expires and the rail restarts through the test and a soft start. -/
  | hiccupWaitExpiry (r : Nat)
  /-- BUCK_INPUT_UNDERVOLTAGE (R146): A buck input below 4.20 V stops the buck and marks it failed. -/
  | buckInputUndervoltage (b v : Nat)
  /-- BUCK_INPUT_RESTORED (R146): The buck input rises above 4.40 V and counts as restored. -/
  | buckInputRestored (b v : Nat)
  /-- BUCK_CURRENT_LIMIT (R149): A buck pulse reaches ilim_eff and ends; 64 such cycles raise class 0x06. -/
  | buckCurrentLimit (b at_ : Nat) (x : BuckLimitIn)
  /-- OPEN_PHASE (R161): open_cycles consecutive open periods make the open-phase detector true. -/
  | openPhase (n : Nat)
  /-- SENSE_FAILURE (R162): A range, stuck or plausibility criterion makes the sense-failure detector true. -/
  | senseFailure (n crit : Nat) (samples : List Int)
  /-- STAGE_FAULT_UNATTRIBUTED (R164): SFLTm stays asserted for 8 ticks with no candidate and class 0x0F is raised. -/
  | stageFaultUnattributed (m : Nat)
  /-- SPARE_RANGE_FAILURE (R165): 8 valley samples of a spare out of range fail the spare. -/
  | spareRangeFailure (n : Nat) (samples : List Int)
  /-- POOL_RESTORE (R172): A keyed write of pool[m].restore returns a failed phase to its pool. -/
  | poolRestore (m : Nat) (c : Keyed)
  /-- WEAR_COMMIT (R180): Wear accounts are committed periodically or after failures. -/
  | wearCommit (n : Nat)
  /-- WEAR_RING_PUSH (R182): Every 86,400 s W is pushed into the sample ring and the remaining life is recomputed. -/
  | wearRingPush (n : Nat)
  /-- WEAR_RESET (R184): A keyed write of wear[n].reset clears the account except the failed mark. -/
  | wearReset (n : Nat) (c : Keyed)
  /-- YARD_ADVANCE (R213): The dwell has expired and the device is ready, so the next yard state begins. -/
  | yardAdvance
  /-- YARD_READINESS_TIMEOUT (R213): The device is still not ready 1,000 frames after the dwell, and the abort shutdown runs. -/
  | yardReadinessTimeout
  /-- RAIL_QUALIFIED (R194): The power-good flag true for pg_qual ticks qualifies the rail. -/
  | railQualified (r : Nat)
  /-- RISE_TIMER_EXPIRY (R195): The rise timer expires without qualification; the rail fails to come up and its dependants are blocked. -/
  | riseTimerExpiry (r : Nat)
  /-- OFF_DELAY_EXPIRY (R197): A rail's off-delay expires. -/
  | offDelayExpiry (r : Nat)
  /-- RAIL_DISCHARGED (R197): A rail reads below off_thr and counts as discharged. -/
  | railDischarged (r : Nat)
  /-- DISCHARGE_WAIT_EXPIRY (R198): The discharge wait expires; class 0x12 is raised and the following rails proceed. -/
  | dischargeWaitExpiry (r : Nat)
  /-- DEPENDANT_RESTART (R201): A blocked dependant with dep_restart restarts once its parents are qualified. -/
  | dependantRestart (r : Nat)
  /-- SEQ_CMD_ON (R210): seq.cmd 0x01 requests power-up. -/
  | seqCmdOn (c : Plain)
  /-- SEQ_CMD_OFF (R210): seq.cmd 0x02 requests power-down. -/
  | seqCmdOff (c : Plain)
  /-- YARD_ADVANCE_PULSE (R214): A low of 1 µs to 4 µs on YARD advances one state. -/
  | yardAdvancePulse (low : Nat)
  /-- YARD_REVERSE_PULSE (R214): A low of 6 µs to 10 µs on YARD reverses the state. -/
  | yardReversePulse (low : Nat)
  /-- YARD_HOLD (R214): A low of 12 µs to 1 ms on YARD is a hold. -/
  | yardHold (low : Nat)
  /-- YARD_GLITCH (R214): A low outside the valid bands is counted as a glitch. -/
  | yardGlitch (low : Nat)
  /-- YARD_ABORT (R217): A low over 1 ms on YARD starts each member's abort shutdown. -/
  | yardAbort (low : Nat)
  /-- ABORT_COMPLETE (R217): The line is released and the rails are discharged, and the device enters state 0. -/
  | abortComplete
  /-- BACKUP_LEADER_ADVANCE (R215): No advance is seen within 2 µs + 50 µs × rank, and a backup member sends it. -/
  | backupLeaderAdvance (high : Nat)
  /-- PG_SC_LOST (R205): PG_SCc low for pgin_filt ticks on a qualified channel raises class 0x16. -/
  | pgScLost (ch : Nat)
  /-- PADDOCK_OFF_CMD (R207): pad[p].cmd 0x01 asserts PDIS_N and turns the paddock off. -/
  | paddockOffCmd (p : Nat) (c : Keyed)
  /-- PADDOCK_RELEASE_CMD (R209): pad[p].cmd 0x02 releases PDIS_N when the condition holds. -/
  | paddockReleaseCmd (p : Nat) (c : Keyed)
  /-- LOST_RECORD_OFFER (R247): Once the queue has room, record 0x0405 is offered for sources that lost events. -/
  | lostRecordOffer
  /-- COUNT_WINDOW_CLOSE (R226): The counting window timer expires and the count returns to 0. -/
  | countWindowClose (src : Nat)
  /-- QUIET_PERIOD_EXPIRY (R241): The quiet period runs out, and every class of the source is acknowledged and cleared. -/
  | quietPeriodExpiry (src : Nat)
  /-- ACKNOWLEDGE (R239): A write of src[s].unack acknowledges the set classes. -/
  | acknowledge (src : Nat) (c : Plain)
  /-- ACK_ALL (R239): marshal.ack_all 0x01 acknowledges every class. -/
  | ackAll (c : Plain)
  /-- REACTION_WRITE (R231): A keyed write of a reaction word or class entry is checked and recorded. -/
  | reactionWrite (src sub : Nat) (c : Keyed)
  /-- HARNESS_UP (R264): 100 consecutive good frames put the harness up. -/
  | harnessUp
  /-- DELTA_RESEND (R267): An entry still unacknowledged after 6 frames is sent again, in order. -/
  | deltaResend
  /-- LEDGER_TRANSACTION_APPLY (R270): A holder applies a ledger transaction at the tick after the ack covers it. -/
  | ledgerTransactionApply
  /-- DRIVE_VIOLATION (R274): A STANDBY detects a team net driven against the mirrored state. -/
  | driveViolation (kind num : Nat) (seen : NetSeen)
  /-- TAKEOVER (R280): A STANDBY asserts REIN_OUT and takes the token on missed frames, a yield or a violation. -/
  | takeover (trigger gap : Nat)
  /-- REIN_LOAD_CHECK (R277): 150 ns after assertion the rein load is measured; an open rein aborts the takeover. -/
  | reinLoadCheck (load : Nat)
  /-- REIN_IN_ASSERTED (R278): A device that sees REIN_IN asserted gives up the token and enters OUT. -/
  | reinInAsserted
  /-- YIELD_NOT_TAKEN (R284): No REIN_IN within 5 frames after a yield; the yield is cleared and source 146 is raised. -/
  | yieldNotTaken
  /-- TEAM_SWAP (R285): A keyed team.swap requests a commanded swap. -/
  | teamSwap (c : Keyed)
  /-- SWAP_DRAINED (R285): The delta queue drains and the holder yields with cause 0x02. -/
  | swapDrained
  /-- SWAP_TIMEOUT (R285): The swap has not drained in 32 frames and fails. -/
  | swapTimeout
  /-- TEAM_RELEASE (R287): A keyed team.release gives up the device's place in the team. -/
  | teamRelease (c : Keyed)
  /-- TEAM_ADMIT (R290): A keyed team.admit requests admission. -/
  | teamAdmit (c : Keyed)
  /-- ADMISSION_REQUEST (R290): An OUT device requests admission once the harness has been up 100 frames. -/
  | admissionRequest
  /-- ADMISSION_TIMEOUT (R290): Admission fails on a timeout, harness loss or a missing 0x3F entry. -/
  | admissionTimeout
  /-- ADMISSION_COMPLETE (R290): The transfer ends, REIN_OUT is released and the device becomes STANDBY. -/
  | admissionComplete
  /-- READMIT_WAIT_EXPIRY (R290): readmit_wait expires after a failed admission and a new request follows. -/
  | readmitWaitExpiry
  /-- JOIN_WAIT_EXPIRY (R289): No good frame within join_wait; the device takes the token as SOLO. -/
  | joinWaitExpiry
  /-- TWIN_LOST_SOLO (R288): The harness is down with no REIN_IN for 8 ticks, and the holder becomes SOLO. -/
  | twinLostSolo
  /-- CFG_MISMATCH (R292): 1,000 good frames with a differing cfg_id send the STANDBY to OUT. -/
  | cfgMismatch
  /-- CARD_REMOVAL (R298): EARLY_N or LATE_N high at 2 ticks puts the hot-swap in absent and discharges the gate. -/
  | cardRemoval
  /-- CARD_MATED (R298): Both connector pins low start the debounce. -/
  | cardMated
  /-- HS_DEBOUNCE_MET (R298): The debounce time is met and the state becomes ready. -/
  | hsDebounceMet
  /-- INRUSH_START (R298): Inrush starts when auto or a command allows it and HS_VIN is in its window. -/
  | inrushStart
  /-- HS_POWER_GOOD (R300): Power good qualifies and the gate is fully enhanced; state on. -/
  | hsPowerGood
  /-- CURRENT_LIMITING (R302): The gate amplifier limits the input current at 1.25 × ilim. -/
  | currentLimiting (ma : Nat)
  /-- FAST_TRIP (R303): The current reaches 2 × ilim and the gate is pulled down at once. -/
  | fastTrip (ma : Nat)
  /-- SOA_TRIP (R303): The SOA accumulator reaches soa_lim and the controller trips. -/
  | soaTrip
  /-- BREAKER_TRIP (R303): iin at or above ilim for cb_filt ticks trips the breaker. -/
  | breakerTrip
  /-- INRUSH_TIMEOUT (R303): The inrush exceeds inrush_max rounds and trips. -/
  | inrushTimeout
  /-- HS_COOLDOWN_EXPIRY (R305): The retry wait and the SOA cooling have passed, and inrush restarts. -/
  | hsCooldownExpiry
  /-- HS_RETRIES_RESET (R300): After 1,000 rounds in on, retries_used returns to 0. -/
  | hsRetriesReset
  /-- HS_CMD_ON (R308): A keyed hs.cmd 0x01 requests on. -/
  | hsCmdOn (c : Keyed)
  /-- HS_CMD_OFF (R308): A keyed hs.cmd 0x02 turns the controller off. -/
  | hsCmdOff (c : Keyed)
  /-- BACKPLANE_OV (R306): HS_VIN at or above vin_ov enters input fault. -/
  | backplaneOv
  /-- BACKPLANE_UV (R306): HS_VIN at or below vin_uv enters input fault. -/
  | backplaneUv
  /-- BACKPLANE_WARN (R306): HS_VIN at or below vin_warn raises a warning. -/
  | backplaneWarn
  /-- INPUT_FAULT_END (R306): HS_VIN returns inside its hysteresis and debounce restarts. -/
  | inputFaultEnd
  /-- SHORTED_MOSFET (R307): HS_SRC near HS_VIN with the gate off for 64 ticks raises a shorted-MOSFET fault. -/
  | shortedMosfet
  /-- SHUNT_SENSE_FAULT (R307): A shunt sense fault for 8 ticks trips the controller without using a retry. -/
  | shuntSenseFault
  /-- VIN_MGT_WARNING (R309): VIN_MGT below VWARN for vwarn_filt ticks enters warning. -/
  | vinMgtWarning
  /-- VIN_MGT_WARNING_END (R309): VIN_MGT is above VWARN + 200 mV for rec_time ticks and the warning ends. -/
  | vinMgtWarningEnd
  /-- MAIN_INPUT_LOST (R311): VIN_MGT falls below VRST; the main input is lost. -/
  | mainInputLost (v : Nat)
  /-- MAIN_INPUT_VALID (R312): VIN_MGT becomes valid again after a loss. -/
  | mainInputValid
  /-- PACK_PRESENT (R319): The pack is present for 100 rounds. -/
  | packPresent
  /-- PACK_REMOVED (R319): Pack absence turns PACK_GATE and the charger off. -/
  | packRemoved
  /-- PACK_UNUSABLE (R320): The pack temperature is outside the discharge window for 8 ticks. -/
  | packUnusable
  /-- SOURCE_HANDOVER (R323): The source in force becomes invalid and VPP is handed to the next source atomically. -/
  | sourceHandover (us vlow : Nat)
  /-- SOURCE_HANDBACK (R324): A higher-priority source valid for 20 ms takes VPP back. -/
  | sourceHandback (us vlow : Nat)
  /-- CHARGE_START (R332): Charging starts in precharge or CC when the conditions of R328 hold. -/
  | chargeStart
  /-- PRECHARGE_DONE (R332): PACK_P above vpre + 100 mV for 100 ticks moves the charge to CC. -/
  | prechargeDone
  /-- PRECHARGE_TIMEOUT (R332): 1 h in precharge latches the charger. -/
  | prechargeTimeout
  /-- CV_ENTRY (R332): PACK_P reaches vchg and CV begins. -/
  | cvEntry
  /-- TOPOFF_ENTRY (R332): Current below C/20 for 1,000 counting ticks enters top-off. -/
  | topoffEntry
  /-- TOPOFF_EXPIRY (R332): The top-off time elapses and charging is done. -/
  | topoffExpiry
  /-- CHARGE_SUSPEND (R328): A condition of R328 fails and charging is suspended. -/
  | chargeSuspend
  /-- PACK_OVERVOLTAGE (R333): PACK_P above vchg + 150 mV for 8 ticks latches the charger off. -/
  | packOvervoltage
  /-- SAFETY_TIMER_EXPIRY (R334): t_eq or t_wall reaches its limit and the charger is latched off. -/
  | safetyTimerExpiry
  /-- INPUT_LIMIT_SEARCH_STEP (R330): Every 10 rounds the search raises ilim_in by 50 mA. -/
  | inputLimitSearchStep
  /-- INPUT_LIMIT_SAG (R330): The source sags and ilim_in is set to 90 % of the source current. -/
  | inputLimitSag
  /-- PWR_CMD_RESUME (R332): pwr.cmd 0x01 resumes charging and clears the latches. -/
  | pwrCmdResume (c : Plain)
  /-- PWR_CMD_SUSPEND (R328): pwr.cmd 0x02 suspends charging. -/
  | pwrCmdSuspend (c : Plain)
  /-- HOLDUP_ENTRY (R335): After the hand-over to the pack in RUN, HOLDUP starts its entry actions. -/
  | holdupEntry
  /-- LAST_GASP_TIMER_EXPIRY (R337): The last-gasp timer expires. -/
  | lastGaspTimerExpiry
  /-- LG_DONE (R337): A write of pwr.lg_done takes the point of no return. -/
  | lgDone (c : Plain)
  /-- PACK_CUTOFF (R337): PACK_P at or below vpack_cut for 4 ticks. -/
  | packCutoff (us vlow : Nat)
  /-- DISCHARGE_OVERCURRENT (R343): The pack current is beyond −idis_lim for 8 ticks. -/
  | dischargeOvercurrent
  /-- PACK_GATE_OFF_OVERCURRENT (R343): The overcurrent persists 1,000 more ticks in HOLDUP and PACK_GATE turns off. -/
  | packGateOffOvercurrent
  /-- HOLDUP_SHUTDOWN_COMPLETE (R338): All rails are discharged with no commit running after the point of no return. -/
  | holdupShutdownComplete
  /-- MAIN_RETURN_QUALIFIED (R339): Main valid for 20 µs before the point of no return stops the last-gasp timer. -/
  | mainReturnQualified (us vlow : Nat)
  /-- BACKUP_ENTRY (R326): PACK_GATE turns off after the commits and the device enters BACKUP. -/
  | backupEntry
  /-- BKP_POWER_LOSS (R327): PACK_P below 4.0 V unpowers BKP. -/
  | bkpPowerLoss (v : Nat)
  /-- SHELF_ENTRY (R345): Armed SHELF entry completes commits and writes the retention word. -/
  | shelfEntry
  /-- SHELF_LATCH_SET (R345): PACK_GATE turns off and the shelf latch is set. -/
  | shelfLatchSet
  /-- SHELF_ABANDON (R345): A source becomes valid before the latch is set; warm BOOT with cause 0x11. -/
  | shelfAbandon
  /-- SHELF_WAKE (R346): The wake latch starts BOOT with cause 0x01. -/
  | shelfWake (why low v : Nat)
  /-- COUNTER_FAULT (R355): A coulomb counter fault for 8 ticks raises source 176. -/
  | counterFault
  /-- READINESS_LOW (R358): est.ready below ready_min for 10 rounds raises source 174. -/
  | readinessLow
  /-- REST_POINT (R360): A qualifying rest minute sets a rest point and synchronises the SoC. -/
  | restPoint
  /-- EXERCISE_DUE (R365): learn_age reaches ex_period and the exercise becomes due. -/
  | exerciseDue
  /-- EST_CMD_REQUEST (R365): est.cmd 0x01 requests an exercise. -/
  | estCmdRequest (c : Plain)
  /-- EXERCISE_START (R366): The conditions hold; discharging begins, or the exercise is refused. -/
  | exerciseStart (us vlow : Nat)
  /-- EXERCISE_TARGET_REACHED (R366): soc_raw reaches the target and the pack rests. -/
  | exerciseTargetReached (us vlow : Nat)
  /-- EXERCISE_TIMEOUT (R366): 8 h of discharging aborts the exercise. -/
  | exerciseTimeout (us vlow : Nat)
  /-- EXERCISE_REST_TIMEOUT (R366): No rest within ex_rest_max ends the exercise with class 0x02. -/
  | exerciseRestTimeout
  /-- EXERCISE_REFUSED_EXPIRY (R366): ex_period after a refusal the exercise is due again. -/
  | exerciseRefusedExpiry
  /-- EXERCISE_ABORT (R368): A warning, low readiness, temperature, mode change or removal aborts the exercise. -/
  | exerciseAbort (us vlow : Nat)
  /-- EST_CMD_ABORT (R368): est.cmd 0x02 aborts a running exercise. -/
  | estCmdAbort (c : Plain)
  /-- EST_WRITEBACK (R370): An estimator write-back clears the target mark and commits. -/
  | estWriteback
  /-- EST_WRITEBACK_SECOND (R370): After the first commit the body and mark are written and committed. -/
  | estWritebackSecond
  /-- CALIBRATION_FAILURE (R377): 10 failed calibrations raise source 124 and break the diodes and TMONs. -/
  | calibrationFailure
  /-- SENSOR_RESTORED (R382): A sensor valid for th.restore rounds is restored. -/
  | sensorRestored
  /-- SCALE_MASK_WRITE (R388): A keyed write of th.scale_mask is checked and applied. -/
  | scaleMaskWrite (c : Keyed)
  /-- CC_ATTACH (R397): CC stable for 150 ms recognises an attach. -/
  | ccAttach
  /-- DETACH (R397): VBUS loss or the CC open for 15 ms detaches the port. -/
  | detach
  /-- DEAD_BATTERY_ATTACH (R398): VBUS with Rp closes the sink path while MGT is unpowered. -/
  | deadBatteryAttach (v pin term : Nat)
  /-- SOURCE_CAPABILITIES (R401): A received Source_Capabilities message leads to a Request for the best PDO. -/
  | sourceCapabilities (pdos : List Pdo)
  /-- PS_RDY (R401): PS_RDY puts the new contract in force. -/
  | psRdy
  /-- TRANSITION_END (R404): 10 ms after PS_RDY the voltage transition ends. -/
  | transitionEnd
  /-- EPR_MODE_REQUEST (R401): A request to enter EPR mode is answered Not_Supported. -/
  | eprModeRequest
  /-- VBUS_SOURCE_ON (R402): As source, VBUS is turned on after the attach. -/
  | vbusSourceOn
  /-- HARD_RESET (R403): A Hard Reset is sent or received. -/
  | hardReset (sent : Bool)
  /-- VBUS_PROTECTION_TRIP (R404): An OV, OC, reverse or CC overvoltage trip opens the path and starts error recovery. -/
  | vbusProtectionTrip (kind val : Nat)
  /-- ERROR_RECOVERY_EXPIRY (R404): 25 ms of error recovery ends and the port attaches again. -/
  | errorRecoveryExpiry (gone : Bool)
  /-- CABLE_PULLED (R406): A pull during a transition discards the contract and opens the sink path. -/
  | cablePulled (cc v : Nat)
  /-- PR_SWAP_RECEIVED (R407): A partner's PR_Swap is accepted or rejected. -/
  | prSwapReceived
  /-- DR_SWAP_RECEIVED (R407): A partner's DR_Swap is accepted or rejected. -/
  | drSwapReceived
  /-- DR_SWAP_PREFERENCE (R407): 100 ms after a contract a DR_Swap toward dr_pref is sent. -/
  | drSwapPreference (a : SwapAnswer)
  /-- WITHDRAWN_RESEND (R408): A withdrawn own request is sent again 100 ms after the partner's sequence. -/
  | withdrawnResend (a : SwapAnswer)
  /-- PORT_CMD_PR_SWAP (R407): port.cmd 0x01 sends a PR_Swap. -/
  | portCmdPrSwap (c : Plain) (a : SwapAnswer)
  /-- PORT_CMD_DR_SWAP (R407): port.cmd 0x02 sends a DR_Swap. -/
  | portCmdDrSwap (c : Plain) (a : SwapAnswer)
  /-- PORT_CMD_CLEAR_LATCH (R405): port.cmd 0x03 ends the port latch. -/
  | portCmdClearLatch (c : Plain)
  /-- PORT_CMD_EXIT_BENCH (R412): port.cmd 0x04 ends bench mode. -/
  | portCmdExitBench (c : Plain)
  /-- BENCH_EN_WRITE (R412): A keyed write of port.bench_en; false ends bench mode. -/
  | benchEnWrite (c : Keyed)
  /-- DISCOVER_IDENTITY (R409): Discover Identity is ACKed with the ID VDOs. -/
  | discoverIdentity
  /-- DISCOVER_SVIDS (R409): Discover SVIDs is ACKed with 0x59A5. -/
  | discoverSvids
  /-- DISCOVER_MODES (R409): Discover Modes is ACKed with the Mode VDO. -/
  | discoverModes (svid : Nat)
  /-- ENTER_MODE (R410): Enter Mode is ACKed and the bench UART goes live when the conditions hold. -/
  | enterMode (svid pos : Nat)
  /-- EXIT_MODE (R412): Exit Mode ends bench mode and discards the UART transaction. -/
  | exitMode (svid pos : Nat)
  /-- RTC_SET_HALT (R421): A time write in HALT mode loads the counter at the third clock edge. -/
  | rtcSetHalt (calendar : Bool) (c : Plain)
  /-- RTC_SET_SHIFT (R422): A time write in SHIFT mode becomes a gradual shift. -/
  | rtcSetShift (calendar : Bool) (c : Plain)
  /-- RTC_SHIFT_WRITE (R423): A write of rtc.shift starts a shift. -/
  | rtcShiftWrite (c : Plain)
  /-- RTC_SHIFT_COMPLETE (R423): shift_left reaches 0 and 0x0B01 is recorded. -/
  | rtcShiftComplete
  /-- RTC_CAL_WRITE (R425): A write of rtc.cal changes the crystal correction. -/
  | rtcCalWrite (c : Plain)
  /-- RTC_RANGE_END (R418): The counter reaches the end of the range and holds. -/
  | rtcRangeEnd
  /-- OSCILLATOR_FAILURE (R426): No 32.768 kHz edge for 2 ms sets the oscillator-stopped flag. -/
  | oscillatorFailure
  /-- FSO_CLEAR (R430): A keyed rtc.fso_clear from slot 0 clears and re-arms the stamp. -/
  | fsoClear (c : Keyed)
  /-- COMMIT_AGE_EXPIRY (R437): The oldest buffer entry has waited commit_age rounds and a commit is requested. -/
  | commitAgeExpiry
  /-- NVM_CMD_COMMIT (R437): nvm.cmd 0x01 requests a commit. -/
  | nvmCmdCommit (c : Plain)
  /-- COMMIT_START (R438): A commit starts once CRES is at or above 4.2 V, and its marker is set. -/
  | commitStart
  /-- COMMIT_STEP (R439): One buffered line is written to MRAM, at most every two frames. -/
  | commitStep
  /-- COMMIT_COMPLETE (R440): The close-out step clears the commit marker. -/
  | commitComplete
  /-- WRITER_WAIT_TIMEOUT (R442): A writer has waited 100 rounds for buffer room. -/
  | writerWaitTimeout
  /-- CRES_FIRST_CHARGE (R444): CRES reaches 4.9 V and its first charge completes. -/
  | cresFirstCharge
  /-- CRES_LOW (R444): CRES below 4.2 V at 1,000 round boundaries raises source 220. -/
  | cresLow
  /-- CRES_FAULT (R444): CRES open, short or overvoltage stops the charger. -/
  | cresFault
  /-- SCRUB_STEP (R446): The scrubber reads one line and rewrites it if it needs correction. -/
  | scrubStep
  /-- OTP_PROG_CMD (R450): A keyed otp.prog_cmd starts programming of a word. -/
  | otpProgCmd (c : Keyed)
  /-- OTP_PROGRAM_DONE (R450): The burn and margin read-back end as done or marginal. -/
  | otpProgramDone (differ : Nat)
  /-- OTP_PROGRAM_STOPPED (R449): A condition fails during programming; the word is marked marginal. -/
  | otpProgramStopped
  /-- RECORD_ASSEMBLY (R458): The queue head becomes a studbook record when the buffer has room. -/
  | recordAssembly
  /-- EXPORT_START (R465): sb.exp_cmd 0x01 fixes the range and starts hashing. -/
  | exportStart (c : Plain)
  /-- EXPORT_READY (R465): Signing completes and the export is ready. -/
  | exportReady
  /-- EXPORT_END (R465): sb.exp_cmd 0x02 ends the export. -/
  | exportEnd (c : Plain)
  /-- EXPORT_TIMEOUT (R465): An export not ended within 60,000 rounds fails. -/
  | exportTimeout
  /-- BB_CMD_CAPTURE (R467): sb.bb_cmd 0x01 triggers a capture. -/
  | bbCmdCapture (c : Plain)
  /-- BB_CMD_RELEASE (R467): sb.bb_cmd 0x02 releases slot protection. -/
  | bbCmdRelease (c : Plain)
  /-- BLACK_BOX_COMPLETE (R468): The header is written last and the capture completes. -/
  | blackBoxComplete
  /-- COLLIE_TICK (R472): Every 100 frames the collie count increases in counting. -/
  | collieTick
  /-- COLLIE_EXPIRY (R480): The count reaches collie.close; evidence is captured and class 0x00 raised. -/
  | collieExpiry
  /-- COLLIE_SERVE (R473): A write of collie.serve is judged valid, early, invalid or bad key. -/
  | collieServe (c : Plain)
  /-- COLLIE_CHECKIN (R476): A task checks in by writing its number. -/
  | collieCheckin (c : Plain)
  /-- HOSTBUSY_SET (R478): collie.hostbusy 0x01 suspends counting. -/
  | hostbusySet (c : Plain)
  /-- HOSTBUSY_CLEAR (R478): collie.hostbusy 0x00 ends a suspension. -/
  | hostbusyClear (c : Plain)
  /-- SUSPENSION_EXPIRY (R479): busy_max expires and the collie expires with cause 0x01. -/
  | suspensionExpiry
  /-- COLLIE_EN (R481): A keyed write of collie.en enables or disables the collie. -/
  | collieEn (c : Keyed)
  /-- CLAIM_READ (R484): A read of irq.claim_a or irq.claim_b claims the lowest deliverable source. -/
  | claimRead (b : Bool) (port tid : Nat)
  /-- HOLDOFF_EXPIRY (R485): A group's hold-off timer expires. -/
  | holdoffExpiry (g : Nat)
  /-- IRQ_CLEAR (R487): A write of irq.clear clears pending bits. -/
  | irqClear (c : Plain)
  /-- IDENTITY_PROGRAM (R494): The pending key is programmed into OTP when programming is allowed. -/
  | identityProgram (bad trng : Nat)
  /-- PUBLIC_KEY_READY (R495): Job 0 computes the public key. -/
  | publicKeyReady
  /-- SLOT_UNWRAP (R502): After BOOT the enrolled slot keys are unwrapped and slots classified. -/
  | slotUnwrap
  /-- PRESENCE_WINDOW_EXPIRY (R497): The presence window expires. -/
  | presenceWindowExpiry
  /-- CLAIM (R498): CLAIM op 0x01 claims an unowned device under presence. -/
  | claim (q : Req)
  /-- RECLAIM (R498): CLAIM op 0x02 advances the generation and claims under presence. -/
  | reclaim (q : Req) (copies : Nat)
  /-- ENROL_SLOT (R498): Keyed CLAIM op 0x03 enrols a slot. -/
  | enrolSlot (q : Req)
  /-- TRANSFER (R504): Keyed CLAIM op 0x04 transfers ownership. -/
  | transfer (q : Req) (copies : Nat)
  /-- CLAIM_COMPLETE (R499): The claim commit completes and the response with confirm is sent. -/
  | claimComplete
  /-- HWM_COMMIT_DONE (R509): The commit of a new H completes and the waiting command takes effect. -/
  | hwmCommitDone (slot copies : Nat)
  /-- HWM_COMMIT_TIMEOUT (R509): The H commit has not completed in 1,000 frames; status 0x08. -/
  | hwmCommitTimeout (slot : Nat)
  /-- KEY_REVOKE (R505): A keyed key.revoke empties a slot. -/
  | keyRevoke (c : Keyed)
  /-- KEY_RELEASE (R505): A keyed key.release advances the generation and unowns the device. -/
  | keyRelease (c : Keyed) (copies : Nat)
  /-- SNAP_START (R511): key.snap_cmd 0x01 takes the state image and starts signing. -/
  | snapStart (c : Plain)
  /-- SNAP_READY (R511): The snapshot signature completes. -/
  | snapReady
  /-- SNAP_END (R511): key.snap_cmd 0x02 ends the snapshot. -/
  | snapEnd (c : Plain)
  /-- IMG_OPEN (R516): img.cmd 0x01 empties the staging bank. -/
  | imgOpen (c : Keyed)
  /-- IMG_STAGE_WRITE (R516): A block write into img.stage marks the bank staged. -/
  | imgStageWrite (q : Req)
  /-- IMG_VALIDATE (R516): img.cmd 0x02 starts validation as job 4. -/
  | imgValidate (c : Keyed)
  /-- IMG_VALIDATION_DONE (R517): Validation ends as passed or with a failure result. -/
  | imgValidationDone
  /-- IMG_CANCEL (R518): img.cmd 0x03 cancels a pending activation. -/
  | imgCancel (c : Keyed)
  /-- IMG_ACTIVATE (R518): A keyed img.activate sets act_at for a validated image. -/
  | imgActivate (c : Keyed)
  /-- ACTIVATION (R519): At the activation tick the image takes effect and the trailers are committed. -/
  | activation
  /-- CLOSE_WRITE (R528): VPP below 4.30 V, BACKUP or SHELF writes the close block after the buffered lines. -/
  | closeWrite (vpp : Nat)
  /-- LEDGER_WRITEBACK (R527): Every commit_rounds the ledger slots are written back. -/
  | ledgerWriteback
  /-- BUDGET_ALLOC_WRITE (R536): A write of budget.alloc moves tokens in one ledger transaction. -/
  | budgetAllocWrite (r : Nat) (c : Plain)
  /-- BUDGET_GRANT_WRITE (R537): A keyed budget.grant raises or reduces the grant. -/
  | budgetGrantWrite (c : Keyed)
  /-- GRANT_REDUCTION_DONE (R537): The reduction commit completes and the response is sent. -/
  | grantReductionDone
  /-- READ (R550): READ returns an object of up to 8 bytes. -/
  | read (q : Req)
  /-- WRITE (R550): A plain WRITE to an object with no row of its own. -/
  | write (q : Req)
  /-- WRITEK (R508): A keyed write to an object with no row of its own. -/
  | writek (q : Req) (copies : Nat)
  /-- BLOCKREAD (R549): BLOCKREAD reads a range of an object in segments. -/
  | blockread (q : Req)
  /-- BLOCKWRITE (R549): BLOCKWRITE writes a large object in segments. -/
  | blockwrite (q : Req)
  /-- SEGMENT_SERVE (R553): One segment of a block transaction is served in a dictionary slot. -/
  | segmentServe (p : Nat)
  /-- ECHO (R552): ECHO returns its data at the next tick. -/
  | echo (q : Req)
  /-- FRAMING_FAILURE (R551): A request failing its framing check is discarded and counted. -/
  | framingFailure (p cause : Nat)
  /-- PORT_BUSY (R555): A request on a port holding a transaction gets busy or is discarded. -/
  | portBusy (q : Req)
  /-- RETRY_REPLAY (R556): An identical repeated request gets the kept response again. -/
  | retryReplay (q : Req)
  /-- SPI_FETCH (R558): A fetch frame returns the status byte and any waiting response. -/
  | spiFetch (p : Nat)
  /-- CAN_FRAME_IGNORED (R560): A marked CAN frame of the wrong format, kind or size is ignored and counted. -/
  | canFrameIgnored (p : Nat)
  /-- NOTIFY_SEND (R563): A queued NOTIFY is sent before a pending response. -/
  | notifySend (p : Nat)
  /-- BUS_OFF (R562): A CAN port enters bus-off. -/
  | busOff (p tec : Nat)
  /-- BUS_RECOVERY (R562): A CAN port recovers from bus-off. -/
  | busRecovery (p : Nat)
  /-- ERROR_PASSIVE_CHANGE (R565): A CAN port changes between error active and passive. -/
  | errorPassiveChange (p tec rec : Nat)
  /-- LB_START (R574): lb.x.cmd 0x01 starts a loop-back run at the next tick. -/
  | lbStart (x : Nat) (c : Plain)
  /-- LB_ITERATION (R575): One loop-back iteration is performed and judged. -/
  | lbIteration (reads : List Int)
  /-- LB_RUN_END (R575): The run ends as passed or failed and the pins return. -/
  | lbRunEnd
  /-- LB_STOP (R576): lb.x.cmd 0x02 stops a running loop-back. -/
  | lbStop (x : Nat) (c : Plain)
  /-- LB_ABORT (R576): A lost condition, mode change or role change aborts the run. -/
  | lbAbort
  /-- HARNESS_REFLECTION (R579): An OUT device reflects a frame with format 0xE1 two frames later. -/
  | harnessReflection (frame : List Byte)
  /-- BSCAN_EN (R585): A keyed write of test.bscan_en lets EXTEST control the pads. -/
  | bscanEn (c : Keyed)
  /-- EXTEST_LOAD (R585): Loading or leaving EXTEST changes pad control and is recorded. -/
  | extestLoad (on : Bool)
  /-- UNDERSHOOT_CLEAR (R91): The rail output rises back above the undershoot threshold, undershoot firing ends and each phase resumes at its next interleave instant. -/
  | undershootClear (m v : Nat)
  /-- SYMBOL_LOCK_GAINED (R262): A harness receive lane gains symbol lock, is deskewed and hl.skew is measured. -/
  | symbolLockGained (lane skew : Nat)
  /-- SYMBOL_LOCK_LOST (R263): A harness receive lane loses symbol lock, which makes frames missed and after 8 frames raises class 0x02 of source 140. -/
  | symbolLockLost (lane : Nat)
  /-- CC_STATE_CHANGE (R397): A partner's termination appears on or changes on a CC pin, which starts or restarts the attach debounce. -/
  | ccStateChange (pin term : Nat)
  /-- VBUS_DISCHARGE_DONE (R406): After a cable pull, the VBUS discharge brings VBUS below 0.8 V and the port enters unattached. -/
  | vbusDischargeDone
  /-- BUCK_TURN_ON (R150): At a buck's period instant the buck starts a pulse or skips it under its skip threshold and minimum on-time. -/
  | buckTurnOn (b at_ : Nat) (x : BuckPulseIn)
  deriving DecidableEq, Repr

end Sys2Proof
end

