-- ==== Sys2Proof/Decode.lean ====
section
/-!
DEFINITION. The decoder of the command table: spec/opcode_table.json gives no row any bits, since the block takes commands and
events and fetches no instruction word. The bytes of a transaction are read by the object protocol (Machine/Protocol.lean).
-/

namespace Sys2Proof

/-- The command that a word spells by the table's bits: the table gives no row bits, so a word of `nbits` bits spells none. -/
def decodeTableWord (_nbits _w : Nat) : Option Instr := none

end Sys2Proof
end

