-- ==== Sys2Proof/Config.lean ====
section
/-!
DEFINITION. What the spec leaves open: constants with no body, so that a statement about them holds for every value.
-/

namespace Sys2Proof.Config

/-- The free values the machine draws one after another (`State.free` counts them): numbers from the TRNG, start
values of noise, and other values of which the spec fixes no number. Log entry 2. -/
opaque freeValue : Nat → Nat

/-- What a counter reads after its last value, where its chapter names neither wrap nor saturation, by the key of the
counter. Log entry 4. -/
opaque counterAfterLast : Nat → Int

/-- What identifies the twin and no field of the mirror frame carries: 0 its id.uid, 1 id.part, 2 dict.rom_id, 3 dict.layout; the
second number counts the twins that may have been fitted since (`hl.downs`). Log entry 108. -/
opaque twinIdentity : Nat → Nat → Nat

/-- What a word of the rule ROM holds: the spec gives the ROM's size and not its contents (R21, R448). First number: 0 the
default, 1 the minimum, 2 the maximum of the dictionary row whose first object has the key in the second number; 3 another
word of a dictionary row; anything else a word of another table. Log entry 8. -/
opaque patchTarget : Nat → Nat × Nat

/-- The default, minimum or maximum that a patched rule-ROM word gives, from the word and its 64 bits (R21, R571). Log
entry 8. -/
opaque patchValue : Nat → Nat → Int

/-- How far the toggling of the service port's terminations is ahead of the frame count, in frames (R396). Log entry 59. -/
opaque toggleLead : Nat

/-- The raw code of the housekeeping converter for a channel and the value converted, of which the spec gives no step (R394). Log entry
58. -/
opaque hkCode : Nat → Int → Nat

/-- What boundary cell j of a kind of pad holds at a tick: 0 high impedance, 1 low, 2 high. The spec gives the boundary register no command
that shifts it and no order of its cells (R585). Log entry 117. -/
opaque boundaryCell : Nat → Nat → Nat → Nat

end Sys2Proof.Config
end

