-- ==== Sys2Proof/Machine/Store.lean ====
section
/-!
DEFINITION. The one sparse map the state is built from: a list of (key, value) pairs with keys strictly
rising and no entry equal to what an unlisted key reads as, so that equal maps are equal lists.
-/

namespace Sys2Proof.Machine

/-- A sparse map from numbers. -/
abbrev FMap (β : Type) := List (Nat × β)

namespace FMap
variable {β : Type}

/-- The entry of a key, where there is one. -/
def find (m : FMap β) (k : Nat) : Option β :=
  match m with
  | [] => none
  | (j, v) :: t => if j = k then some v else find t k

/-- What a key reads as: its entry, or `d`. -/
def get (d : β) (m : FMap β) (k : Nat) : β := (find m k).getD d

/-- Put an entry at its place in the order. -/
def insert (m : FMap β) (k : Nat) (v : β) : FMap β :=
  match m with
  | [] => [(k, v)]
  | (j, w) :: t =>
    if k < j then (k, v) :: (j, w) :: t
    else if k = j then (k, v) :: t
    else (j, w) :: insert t k v

/-- Remove every entry of a key. -/
def erase (m : FMap β) (k : Nat) : FMap β :=
  match m with
  | [] => []
  | (j, w) :: t => if j = k then erase t k else (j, w) :: erase t k

/-- Write a key; writing what an unlisted key reads as removes the entry. -/
def set [DecidableEq β] (d : β) (m : FMap β) (k : Nat) (v : β) : FMap β :=
  if v = d then erase m k else insert m k v

/-- The canonical form: keys strictly rising, no entry equal to the default of its key. -/
def wf [DecidableEq β] (d : Nat → β) : FMap β → Bool
  | [] => true
  | [(k, v)] => !decide (v = d k)
  | (k, v) :: (j, w) :: t => !decide (v = d k) && decide (k < j) && wf d ((j, w) :: t)

/-- Bytes `k`, `k + 1`, … written in order. -/
def setMany [DecidableEq β] (d : β) (m : FMap β) (k : Nat) : List β → FMap β
  | [] => m
  | v :: vs => setMany d (set d m k v) (k + 1) vs

/-- `n` consecutive keys read in order. -/
def getMany (d : β) (m : FMap β) (k : Nat) : Nat → List β
  | 0 => []
  | n + 1 => get d m k :: getMany d m (k + 1) n

end FMap

end Sys2Proof.Machine
end

