-- ==== Sys2Proof/Machine/Dict.lean ====
section
/-!
DEFINITION. The dictionary table of R571: one row for each object or run of objects (address and strides, type,
access, apply point, range, default), taken from the object tables of the defining chapters, and the named
addresses the meanings use. Objects larger than 8 bytes have a row (R570) and their contents live in typed
fields of the state. The last field of a row says that the object is kept across a power-on reset
("since the first BOOT", or kept in BKP retention or NVM).
-/

namespace Sys2Proof.Machine

/-- Type codes of R8; OCT[n] carries its length (0: the length is that of the object of R570). -/
inductive Ty where
  | bool | u8 | u16 | u32 | u64 | s8 | s16 | s32 | s64 | enum8 | bits8 | bits16 | bits32
  | vcode | icode | tcode | pcode | qcode | dur32 | rnd32 | time48
  | oct (n : Nat)
  deriving DecidableEq, Repr

/-- Access codes of R11. -/
inductive Access where
  | ro | rw | rws | rwk | wok
  deriving DecidableEq, Repr

/-- Apply points of R12. -/
inductive Apply where
  | none | immediate | nextFrame | nextRound | nextActivation
  deriving DecidableEq, Repr

/-- How the default of a row's objects is given. -/
inductive Dfl where
  | val (v : Int)              -- one value for every object of the row
  | linear (a b : Int)         -- a + b times the index offset (ab[b].phase)
  | parity                     -- the index offset modulo 2 (rail[m].engine)
  | table (l : List Int)       -- by subindex offset (est.ocv)
  | react                      -- the reaction words of R251
  | cls                        -- the class entries of R252
  | estR                       -- est.r[t][i] by temperature band
  | irqSrc                     -- the source configurations of R490
  deriving DecidableEq, Repr

/-- Size in bytes of an encoded value (R8). -/
def Ty.size : Ty → Nat
  | .bool | .u8 | .s8 | .enum8 | .bits8 => 1
  | .u16 | .s16 | .bits16 | .vcode | .tcode => 2
  | .u32 | .s32 | .bits32 | .icode | .pcode | .dur32 | .rnd32 => 4
  | .u64 | .s64 | .qcode => 8
  | .time48 => 6
  | .oct n => n

/-- Is the encoding two's complement (R8)? -/
def Ty.signed : Ty → Bool
  | .s8 | .s16 | .s32 | .s64 | .icode | .tcode | .qcode => true
  | _ => false

/-- One row of the dictionary table (R571). -/
structure Row where
  base : Nat          -- first index
  count : Nat         -- number of indices, stride 1
  sub : Nat           -- first subindex
  subStep : Nat       -- subindex stride
  subCount : Nat      -- number of subindices
  ty : Ty
  access : Access
  apply : Apply
  lo : Int            -- minimum
  hi : Int            -- maximum
  extra : Option Int  -- one further value the table allows
  dfl : Dfl
  keep : Bool
  deriving DecidableEq, Repr

/-- The key of an object: index and subindex. -/
def objKey (index sub : Nat) : Nat := index * 256 + sub

/-- The index of a key. -/
def keyIndex (k : Nat) : Nat := k / 256

/-- The subindex of a key. -/
def keySub (k : Nat) : Nat := k % 256

/-- `dict.layout`, U16 (01). -/
def Obj.dictLayout : Nat := objKey (0x0000) (0x01)
/-- `dict.indices`, U16 (01). -/
def Obj.dictIndices : Nat := objKey (0x0000) (0x02)
/-- `dict.rom_id`, U32 (01). -/
def Obj.dictRomId : Nat := objKey (0x0000) (0x03)
/-- `dict.patches`, U8 (01). -/
def Obj.dictPatches : Nat := objKey (0x0000) (0x04)
/-- `id.part`, ENUM8 (01). -/
def Obj.idPart : Nat := objKey (0x0001) (0x01)
/-- `id.die_rev`, U8 (01). -/
def Obj.idDieRev : Nat := objKey (0x0001) (0x02)
/-- `id.uid`, U64 (01). -/
def Obj.idUid : Nat := objKey (0x0001) (0x03)
/-- `id.vendor`, U16 (01). -/
def Obj.idVendor : Nat := objKey (0x0001) (0x04)
/-- `sys.mode`, ENUM8 (01). -/
def Obj.sysMode : Nat := objKey (0x0010) (0x01)
/-- `sys.mode_req`, ENUM8 (01). -/
def Obj.sysModeReq : Nat := objKey (0x0010) (0x02)
/-- `sys.last_cause`, ENUM8 (01). -/
def Obj.sysLastCause : Nat := objKey (0x0010) (0x03)
/-- `sys.prev_mode`, ENUM8 (01). -/
def Obj.sysPrevMode : Nat := objKey (0x0010) (0x04)
/-- `sys.power_cycles`, U32 (01). -/
def Obj.sysPowerCycles : Nat := objKey (0x0010) (0x05)
/-- `sys.op_seconds`, U32 (01). -/
def Obj.sysOpSeconds : Nat := objKey (0x0010) (0x06)
/-- `sys.boot_status`, BITS16 (01). -/
def Obj.sysBootStatus : Nat := objKey (0x0010) (0x07)
/-- `sys.boot_time`, U16 (01). -/
def Obj.sysBootTime : Nat := objKey (0x0010) (0x08)
/-- `sys.mode_since`, TIME48 (01). -/
def Obj.sysModeSince : Nat := objKey (0x0010) (0x09)
/-- `sys.autorun`, BOOL (01). -/
def Obj.sysAutorun : Nat := objKey (0x0010) (0x0A)
/-- `sys.safe_release`, U8 (01). -/
def Obj.sysSafeRelease : Nat := objKey (0x0010) (0x0B)
/-- `sys.reboot`, U8 (01). -/
def Obj.sysReboot : Nat := objKey (0x0010) (0x0C)
/-- `sys.ship`, U8 (01). -/
def Obj.sysShip : Nat := objKey (0x0010) (0x0D)
/-- `clk.ref_sel`, ENUM8 (02). -/
def Obj.clkRefSel : Nat := objKey (0x0100) (0x01)
/-- `clk.sync_div`, U16 (02). -/
def Obj.clkSyncDiv : Nat := objKey (0x0100) (0x02)
/-- `clk.hold_rounds`, U16 (02). -/
def Obj.clkHoldRounds : Nat := objKey (0x0100) (0x03)
/-- `clk.slew_limit`, U8 (02). -/
def Obj.clkSlewLimit : Nat := objKey (0x0100) (0x04)
/-- `clk.syncout_en`, BOOL (02). -/
def Obj.clkSyncoutEn : Nat := objKey (0x0100) (0x05)
/-- `clk.syncout_div`, U16 (02). -/
def Obj.clkSyncoutDiv : Nat := objKey (0x0100) (0x06)
/-- `clk.syncout_phase`, U16 (02). -/
def Obj.clkSyncoutPhase : Nat := objKey (0x0100) (0x07)
/-- `clk.ref_state`, ENUM8 (02). -/
def Obj.clkRefState : Nat := objKey (0x0101) (0x01)
/-- `clk.fclk_meas`, U32 (02). -/
def Obj.clkFclkMeas : Nat := objKey (0x0101) (0x02)
/-- `clk.sync_meas`, U32 (02). -/
def Obj.clkSyncMeas : Nat := objKey (0x0101) (0x03)
/-- `clk.offset`, S16 (02). -/
def Obj.clkOffset : Nat := objKey (0x0101) (0x04)
/-- `clk.phase_err`, S16 (02). -/
def Obj.clkPhaseErr : Nat := objKey (0x0101) (0x05)
/-- `clk.sync_losses`, U32 (02). -/
def Obj.clkSyncLosses : Nat := objKey (0x0101) (0x06)
/-- `clk.pll_unlocks`, U32 (02). -/
def Obj.clkPllUnlocks : Nat := objKey (0x0101) (0x07)
/-- `clk.status`, BITS8 (02). -/
def Obj.clkStatus : Nat := objKey (0x0101) (0x08)
/-- `frame.number`, U32 (02). -/
def Obj.frameNumber : Nat := objKey (0x0110) (0x01)
/-- `frame.round`, U32 (02). -/
def Obj.frameRound : Nat := objKey (0x0110) (0x02)
/-- `terrier.expiries`, U32 (02). -/
def Obj.terrierExpiries : Nat := objKey (0x0120) (0x01)
/-- `terrier.step_slot`, U8 (02). -/
def Obj.terrierStepSlot : Nat := objKey (0x0120) (0x02)
/-- `terrier.step_row`, U16 (02). -/
def Obj.terrierStepRow : Nat := objKey (0x0120) (0x03)
/-- `terrier.frame`, U32 (02). -/
def Obj.terrierFrame : Nat := objKey (0x0120) (0x04)
/-- `terrier.missing`, BITS16 (02). -/
def Obj.terrierMissing : Nat := objKey (0x0120) (0x05)
/-- `terrier.job`, U8 (02). -/
def Obj.terrierJob : Nat := objKey (0x0120) (0x06)
/-- `terrier.time`, TIME48 (02). -/
def Obj.terrierTime : Nat := objKey (0x0120) (0x07)
/-- `job[j].state`, ENUM8 (02). -/
def Obj.jobState (j : Nat) : Nat := objKey (0x0140 + j) (0x01)
/-- `job[j].steps_done`, U32 (02). -/
def Obj.jobStepsDone (j : Nat) : Nat := objKey (0x0140 + j) (0x02)
/-- `job[j].steps_total`, U32 (02). -/
def Obj.jobStepsTotal (j : Nat) : Nat := objKey (0x0140 + j) (0x03)
/-- `job[j].started`, U32 (02). -/
def Obj.jobStarted (j : Nat) : Nat := objKey (0x0140 + j) (0x04)
/-- `job[j].waiting`, U8 (02). -/
def Obj.jobWaiting (j : Nat) : Nat := objKey (0x0140 + j) (0x05)
/-- `phase[n].imon_gain`, U16 (03). -/
def Obj.phaseImonGain (n : Nat) : Nat := objKey (0x1000 + n) (0x01)
/-- `phase[n].i_rating`, ICODE (03). -/
def Obj.phaseIRating (n : Nat) : Nat := objKey (0x1000 + n) (0x02)
/-- `phase[n].ilim`, ICODE (03). -/
def Obj.phaseIlim (n : Nat) : Nat := objKey (0x1000 + n) (0x03)
/-- `phase[n].ineg`, ICODE (03). -/
def Obj.phaseIneg (n : Nat) : Nat := objKey (0x1000 + n) (0x04)
/-- `phase[n].blank`, U8 (03). -/
def Obj.phaseBlank (n : Nat) : Nat := objKey (0x1000 + n) (0x05)
/-- `phase[n].ton_min`, U8 (03). -/
def Obj.phaseTonMin (n : Nat) : Nat := objKey (0x1000 + n) (0x06)
/-- `phase[n].toff_min`, U8 (03). -/
def Obj.phaseToffMin (n : Nat) : Nat := objKey (0x1000 + n) (0x07)
/-- `phase[n].l_nom`, U16 (03). -/
def Obj.phaseLNom (n : Nat) : Nat := objKey (0x1000 + n) (0x08)
/-- `phase[n].slope_frac`, U8 (03). -/
def Obj.phaseSlopeFrac (n : Nat) : Nat := objKey (0x1000 + n) (0x09)
/-- `phase[n].slope_min`, U16 (03). -/
def Obj.phaseSlopeMin (n : Nat) : Nat := objKey (0x1000 + n) (0x0A)
/-- `phase[n].slope_max`, U16 (03). -/
def Obj.phaseSlopeMax (n : Nat) : Nat := objKey (0x1000 + n) (0x0B)
/-- `phase[n].slope_mode`, ENUM8 (03). -/
def Obj.phaseSlopeMode (n : Nat) : Nat := objKey (0x1000 + n) (0x0C)
/-- `phase[n].slope_fixed`, U16 (03). -/
def Obj.phaseSlopeFixed (n : Nat) : Nat := objKey (0x1000 + n) (0x0D)
/-- `phase[n].zcd_offset`, S8 (03). -/
def Obj.phaseZcdOffset (n : Nat) : Nat := objKey (0x1000 + n) (0x0E)
/-- `phase[n].de_en`, BOOL (03). -/
def Obj.phaseDeEn (n : Nat) : Nat := objKey (0x1000 + n) (0x0F)
/-- `phase[n].sht_thr`, ICODE (03). -/
def Obj.phaseShtThr (n : Nat) : Nat := objKey (0x1000 + n) (0x10)
/-- `phase[n].state`, ENUM8 (03). -/
def Obj.phaseState (n : Nat) : Nat := objKey (0x1000 + n) (0x20)
/-- `phase[n].rail`, U8 (03). -/
def Obj.phaseRail (n : Nat) : Nat := objKey (0x1000 + n) (0x21)
/-- `phase[n].i_avg`, ICODE (03). -/
def Obj.phaseIAvg (n : Nat) : Nat := objKey (0x1000 + n) (0x22)
/-- `phase[n].i_pk`, ICODE (03). -/
def Obj.phaseIPk (n : Nat) : Nat := objKey (0x1000 + n) (0x23)
/-- `phase[n].l_learned`, U16 (03). -/
def Obj.phaseLLearned (n : Nat) : Nat := objKey (0x1000 + n) (0x24)
/-- `phase[n].slope_code`, U16 (03). -/
def Obj.phaseSlopeCode (n : Nat) : Nat := objKey (0x1000 + n) (0x25)
/-- `phase[n].ton`, U16 (03). -/
def Obj.phaseTon (n : Nat) : Nat := objKey (0x1000 + n) (0x26)
/-- `phase[n].ilim_eff`, ICODE (03). -/
def Obj.phaseIlimEff (n : Nat) : Nat := objKey (0x1000 + n) (0x27)
/-- `phase[n].ilim_cycles`, U32 (03). -/
def Obj.phaseIlimCycles (n : Nat) : Nat := objKey (0x1000 + n) (0x28)
/-- `phase[n].ineg_cycles`, U32 (03). -/
def Obj.phaseInegCycles (n : Nat) : Nat := objKey (0x1000 + n) (0x29)
/-- `phase[n].learn_rej`, U16 (03). -/
def Obj.phaseLearnRej (n : Nat) : Nat := objKey (0x1000 + n) (0x2A)
/-- `phase[n].flags`, BITS16 (03). -/
def Obj.phaseFlags (n : Nat) : Nat := objKey (0x1000 + n) (0x2B)
/-- `phase[n].dac_code`, U16 (03). -/
def Obj.phaseDacCode (n : Nat) : Nat := objKey (0x1000 + n) (0x2C)
/-- `rail[m].period`, U16 (04). -/
def Obj.railPeriod (m : Nat) : Nat := objKey (0x1100 + m) (0x01)
/-- `rail[m].vset`, VCODE (04). -/
def Obj.railVset (m : Nat) : Nat := objKey (0x1100 + m) (0x02)
/-- `rail[m].trim`, S16 (04). -/
def Obj.railTrim (m : Nat) : Nat := objKey (0x1100 + m) (0x03)
/-- `rail[m].vmargin_lo`, VCODE (04). -/
def Obj.railVmarginLo (m : Nat) : Nat := objKey (0x1100 + m) (0x04)
/-- `rail[m].vmargin_hi`, VCODE (04). -/
def Obj.railVmarginHi (m : Nat) : Nat := objKey (0x1100 + m) (0x05)
/-- `rail[m].vmax`, VCODE (04). -/
def Obj.railVmax (m : Nat) : Nat := objKey (0x1100 + m) (0x06)
/-- `rail[m].slew_rise`, U16 (04). -/
def Obj.railSlewRise (m : Nat) : Nat := objKey (0x1100 + m) (0x07)
/-- `rail[m].slew_fall`, U16 (04). -/
def Obj.railSlewFall (m : Nat) : Nat := objKey (0x1100 + m) (0x08)
/-- `rail[m].ss_slew`, U16 (04). -/
def Obj.railSsSlew (m : Nat) : Nat := objKey (0x1100 + m) (0x09)
/-- `rail[m].off_mode`, ENUM8 (04). -/
def Obj.railOffMode (m : Nat) : Nat := objKey (0x1100 + m) (0x0A)
/-- `rail[m].engine`, U8 (04). -/
def Obj.railEngine (m : Nat) : Nat := objKey (0x1100 + m) (0x0B)
/-- `rail[m].upd_div`, U8 (04). -/
def Obj.railUpdDiv (m : Nat) : Nat := objKey (0x1100 + m) (0x0C)
/-- `rail[m].kp`, U16 (04). -/
def Obj.railKp (m : Nat) : Nat := objKey (0x1100 + m) (0x0D)
/-- `rail[m].ki`, U16 (04). -/
def Obj.railKi (m : Nat) : Nat := objKey (0x1100 + m) (0x0E)
/-- `rail[m].kd`, U16 (04). -/
def Obj.railKd (m : Nat) : Nat := objKey (0x1100 + m) (0x0F)
/-- `rail[m].kff`, S16 (04). -/
def Obj.railKff (m : Nat) : Nat := objKey (0x1100 + m) (0x10)
/-- `rail[m].ff_tau`, U16 (04). -/
def Obj.railFfTau (m : Nat) : Nat := objKey (0x1100 + m) (0x11)
/-- `rail[m].vin_sel`, ENUM8 (04). -/
def Obj.railVinSel (m : Nat) : Nat := objKey (0x1100 + m) (0x12)
/-- `rail[m].rll_dc`, U16 (04). -/
def Obj.railRllDc (m : Nat) : Nat := objKey (0x1100 + m) (0x13)
/-- `rail[m].rll_ac`, U16 (04). -/
def Obj.railRllAc (m : Nat) : Nat := objKey (0x1100 + m) (0x14)
/-- `rail[m].ll_tau`, U16 (04). -/
def Obj.railLlTau (m : Nat) : Nat := objKey (0x1100 + m) (0x15)
/-- `rail[m].ilim`, ICODE (04). -/
def Obj.railIlim (m : Nat) : Nat := objKey (0x1100 + m) (0x16)
/-- `rail[m].pk_margin`, U8 (04). -/
def Obj.railPkMargin (m : Nat) : Nat := objKey (0x1100 + m) (0x17)
/-- `rail[m].ovs_thr`, U16 (04). -/
def Obj.railOvsThr (m : Nat) : Nat := objKey (0x1100 + m) (0x18)
/-- `rail[m].uvs_thr`, U16 (04). -/
def Obj.railUvsThr (m : Nat) : Nat := objKey (0x1100 + m) (0x19)
/-- `rail[m].ovf_off`, U16 (04). -/
def Obj.railOvfOff (m : Nat) : Nat := objKey (0x1100 + m) (0x1A)
/-- `rail[m].ovw_off`, U16 (04). -/
def Obj.railOvwOff (m : Nat) : Nat := objKey (0x1100 + m) (0x1B)
/-- `rail[m].uvw_off`, U16 (04). -/
def Obj.railUvwOff (m : Nat) : Nat := objKey (0x1100 + m) (0x1C)
/-- `rail[m].uvf_off`, U16 (04). -/
def Obj.railUvfOff (m : Nat) : Nat := objKey (0x1100 + m) (0x1D)
/-- `rail[m].ovf_filt`, U8 (04). -/
def Obj.railOvfFilt (m : Nat) : Nat := objKey (0x1100 + m) (0x1E)
/-- `rail[m].ovw_filt`, U8 (04). -/
def Obj.railOvwFilt (m : Nat) : Nat := objKey (0x1100 + m) (0x1F)
/-- `rail[m].uvw_filt`, U8 (04). -/
def Obj.railUvwFilt (m : Nat) : Nat := objKey (0x1100 + m) (0x20)
/-- `rail[m].uvf_filt`, U8 (04). -/
def Obj.railUvfFilt (m : Nat) : Nat := objKey (0x1100 + m) (0x21)
/-- `rail[m].bal_gain`, U8 (04). -/
def Obj.railBalGain (m : Nat) : Nat := objKey (0x1100 + m) (0x22)
/-- `rail[m].bal_max`, U8 (04). -/
def Obj.railBalMax (m : Nat) : Nat := objKey (0x1100 + m) (0x23)
/-- `rail[m].tbal_start`, TCODE (04). -/
def Obj.railTbalStart (m : Nat) : Nat := objKey (0x1100 + m) (0x24)
/-- `rail[m].shed_levels`, U8 (04). -/
def Obj.railShedLevels (m : Nat) : Nat := objKey (0x1100 + m) (0x25)
/-- `rail[m].shed_en`, BOOL (04). -/
def Obj.railShedEn (m : Nat) : Nat := objKey (0x1100 + m) (0x26)
/-- `rail[m].hiccup_wait`, U16 (04). -/
def Obj.railHiccupWait (m : Nat) : Nat := objKey (0x1100 + m) (0x27)
/-- `rail[m].ovp_mode`, ENUM8 (04). -/
def Obj.railOvpMode (m : Nat) : Nat := objKey (0x1100 + m) (0x28)
/-- `rail[m].ilim_filt`, U8 (04). -/
def Obj.railIlimFilt (m : Nat) : Nat := objKey (0x1100 + m) (0x29)
/-- `rail[m].origin`, U16 (04). -/
def Obj.railOrigin (m : Nat) : Nat := objKey (0x1100 + m) (0x2A)
/-- `rail[m].state`, ENUM8 (04). -/
def Obj.railState (m : Nat) : Nat := objKey (0x1100 + m) (0x30)
/-- `rail[m].target`, VCODE (04). -/
def Obj.railTarget (m : Nat) : Nat := objKey (0x1100 + m) (0x31)
/-- `rail[m].vout`, VCODE (04). -/
def Obj.railVout (m : Nat) : Nat := objKey (0x1100 + m) (0x32)
/-- `rail[m].vout_min`, VCODE (04). -/
def Obj.railVoutMin (m : Nat) : Nat := objKey (0x1100 + m) (0x33)
/-- `rail[m].vout_max`, VCODE (04). -/
def Obj.railVoutMax (m : Nat) : Nat := objKey (0x1100 + m) (0x34)
/-- `rail[m].iout`, ICODE (04). -/
def Obj.railIout (m : Nat) : Nat := objKey (0x1100 + m) (0x35)
/-- `rail[m].iout_pk`, ICODE (04). -/
def Obj.railIoutPk (m : Nat) : Nat := objKey (0x1100 + m) (0x36)
/-- `rail[m].pout`, PCODE (04). -/
def Obj.railPout (m : Nat) : Nat := objKey (0x1100 + m) (0x37)
/-- `rail[m].n_sw`, U8 (04). -/
def Obj.railNSw (m : Nat) : Nat := objKey (0x1100 + m) (0x38)
/-- `rail[m].shed_lvl`, U8 (04). -/
def Obj.railShedLvl (m : Nat) : Nat := objKey (0x1100 + m) (0x39)
/-- `rail[m].ilim_eff`, ICODE (04). -/
def Obj.railIlimEff (m : Nat) : Nat := objKey (0x1100 + m) (0x3A)
/-- `rail[m].ilim_budget`, ICODE (04). -/
def Obj.railIlimBudget (m : Nat) : Nat := objKey (0x1100 + m) (0x3B)
/-- `rail[m].integ`, S32 (04). -/
def Obj.railInteg (m : Nat) : Nat := objKey (0x1100 + m) (0x3C)
/-- `rail[m].flags`, BITS16 (04). -/
def Obj.railFlags (m : Nat) : Nat := objKey (0x1100 + m) (0x3D)
/-- `rail[m].ovp_trips`, U32 (04). -/
def Obj.railOvpTrips (m : Nat) : Nat := objKey (0x1100 + m) (0x3E)
/-- `rail[m].bal_offsets`, OCT[48] (04). -/
def Obj.railBalOffsets (m : Nat) : Nat := objKey (0x1100 + m) (0x3F)
/-- `rail[m].fupd`, U32 (04). -/
def Obj.railFupd (m : Nat) : Nat := objKey (0x1100 + m) (0x70)
/-- `rail[m].shed[l].nph`, U8 (04). -/
def Obj.railShedNph (m : Nat) (l : Nat) : Nat := objKey (0x1100 + m) (0x40 + 3 * l)
/-- `rail[m].shed[l].i_add`, ICODE (04). -/
def Obj.railShedIAdd (m : Nat) (l : Nat) : Nat := objKey (0x1100 + m) (0x41 + 3 * l)
/-- `rail[m].shed[l].i_drop`, ICODE (04). -/
def Obj.railShedIDrop (m : Nat) (l : Nat) : Nat := objKey (0x1100 + m) (0x42 + 3 * l)
/-- `rail[m].plist[i]`, U8 (04). -/
def Obj.railPlist (m : Nat) (i : Nat) : Nat := objKey (0x1100 + m) (0x80 + i)
/-- `rail[m].tw[i]`, U8 (04). -/
def Obj.railTw (m : Nat) (i : Nat) : Nat := objKey (0x1100 + m) (0xB0 + i)
/-- `ab[b].period`, U16 (04). -/
def Obj.abPeriod (b : Nat) : Nat := objKey (0x1180 + b) (0x01)
/-- `ab[b].vset`, VCODE (04). -/
def Obj.abVset (b : Nat) : Nat := objKey (0x1180 + b) (0x02)
/-- `ab[b].trim`, S16 (04). -/
def Obj.abTrim (b : Nat) : Nat := objKey (0x1180 + b) (0x03)
/-- `ab[b].vmax`, VCODE (04). -/
def Obj.abVmax (b : Nat) : Nat := objKey (0x1180 + b) (0x04)
/-- `ab[b].slew`, U16 (04). -/
def Obj.abSlew (b : Nat) : Nat := objKey (0x1180 + b) (0x05)
/-- `ab[b].ilim`, U16 (04). -/
def Obj.abIlim (b : Nat) : Nat := objKey (0x1180 + b) (0x06)
/-- `ab[b].sync`, ENUM8 (04). -/
def Obj.abSync (b : Nat) : Nat := objKey (0x1180 + b) (0x07)
/-- `ab[b].phase`, U16 (04). -/
def Obj.abPhase (b : Nat) : Nat := objKey (0x1180 + b) (0x08)
/-- `ab[b].fpwm`, BOOL (04). -/
def Obj.abFpwm (b : Nat) : Nat := objKey (0x1180 + b) (0x09)
/-- `ab[b].skip_thr`, U16 (04). -/
def Obj.abSkipThr (b : Nat) : Nat := objKey (0x1180 + b) (0x0A)
/-- `ab[b].comp`, ENUM8 (04). -/
def Obj.abComp (b : Nat) : Nat := objKey (0x1180 + b) (0x0B)
/-- `ab[b].off_mode`, ENUM8 (04). -/
def Obj.abOffMode (b : Nat) : Nat := objKey (0x1180 + b) (0x0C)
/-- `ab[b].ovf_off`, U16 (04). -/
def Obj.abOvfOff (b : Nat) : Nat := objKey (0x1180 + b) (0x0D)
/-- `ab[b].ovw_off`, U16 (04). -/
def Obj.abOvwOff (b : Nat) : Nat := objKey (0x1180 + b) (0x0E)
/-- `ab[b].uvw_off`, U16 (04). -/
def Obj.abUvwOff (b : Nat) : Nat := objKey (0x1180 + b) (0x0F)
/-- `ab[b].uvf_off`, U16 (04). -/
def Obj.abUvfOff (b : Nat) : Nat := objKey (0x1180 + b) (0x10)
/-- `ab[b].ovf_filt`, U8 (04). -/
def Obj.abOvfFilt (b : Nat) : Nat := objKey (0x1180 + b) (0x11)
/-- `ab[b].ovw_filt`, U8 (04). -/
def Obj.abOvwFilt (b : Nat) : Nat := objKey (0x1180 + b) (0x12)
/-- `ab[b].uvw_filt`, U8 (04). -/
def Obj.abUvwFilt (b : Nat) : Nat := objKey (0x1180 + b) (0x13)
/-- `ab[b].uvf_filt`, U8 (04). -/
def Obj.abUvfFilt (b : Nat) : Nat := objKey (0x1180 + b) (0x14)
/-- `ab[b].hiccup_wait`, U16 (04). -/
def Obj.abHiccupWait (b : Nat) : Nat := objKey (0x1180 + b) (0x15)
/-- `ab[b].lastgasp`, BOOL (04). -/
def Obj.abLastgasp (b : Nat) : Nat := objKey (0x1180 + b) (0x16)
/-- `ab[b].state`, ENUM8 (04). -/
def Obj.abState (b : Nat) : Nat := objKey (0x1180 + b) (0x30)
/-- `ab[b].vset_eff`, VCODE (04). -/
def Obj.abVsetEff (b : Nat) : Nat := objKey (0x1180 + b) (0x31)
/-- `ab[b].vout`, VCODE (04). -/
def Obj.abVout (b : Nat) : Nat := objKey (0x1180 + b) (0x32)
/-- `ab[b].vout_min`, VCODE (04). -/
def Obj.abVoutMin (b : Nat) : Nat := objKey (0x1180 + b) (0x33)
/-- `ab[b].vout_max`, VCODE (04). -/
def Obj.abVoutMax (b : Nat) : Nat := objKey (0x1180 + b) (0x34)
/-- `ab[b].iout`, ICODE (04). -/
def Obj.abIout (b : Nat) : Nat := objKey (0x1180 + b) (0x35)
/-- `ab[b].iout_pk`, ICODE (04). -/
def Obj.abIoutPk (b : Nat) : Nat := objKey (0x1180 + b) (0x36)
/-- `ab[b].vin`, VCODE (04). -/
def Obj.abVin (b : Nat) : Nat := objKey (0x1180 + b) (0x37)
/-- `ab[b].ilim_eff`, U16 (04). -/
def Obj.abIlimEff (b : Nat) : Nat := objKey (0x1180 + b) (0x38)
/-- `ab[b].skip_pct`, U8 (04). -/
def Obj.abSkipPct (b : Nat) : Nat := objKey (0x1180 + b) (0x39)
/-- `ab[b].ovp_trips`, U32 (04). -/
def Obj.abOvpTrips (b : Nat) : Nat := objKey (0x1180 + b) (0x3A)
/-- `ab[b].flags`, BITS8 (04). -/
def Obj.abFlags (b : Nat) : Nat := objKey (0x1180 + b) (0x3B)
/-- `pool[m].set_lo`, BITS32 (05). -/
def Obj.poolSetLo (m : Nat) : Nat := objKey (0x1200 + m) (0x01)
/-- `pool[m].set_hi`, BITS16 (05). -/
def Obj.poolSetHi (m : Nat) : Nat := objKey (0x1200 + m) (0x02)
/-- `pool[m].open_thr`, ICODE (05). -/
def Obj.poolOpenThr (m : Nat) : Nat := objKey (0x1200 + m) (0x03)
/-- `pool[m].open_cycles`, U8 (05). -/
def Obj.poolOpenCycles (m : Nat) : Nat := objKey (0x1200 + m) (0x04)
/-- `pool[m].stuck_cycles`, U16 (05). -/
def Obj.poolStuckCycles (m : Nat) : Nat := objKey (0x1200 + m) (0x05)
/-- `pool[m].plaus_band`, U8 (05). -/
def Obj.poolPlausBand (m : Nat) : Nat := objKey (0x1200 + m) (0x06)
/-- `pool[m].plaus_filt`, U8 (05). -/
def Obj.poolPlausFilt (m : Nat) : Nat := objKey (0x1200 + m) (0x07)
/-- `pool[m].sflt_filt`, U8 (05). -/
def Obj.poolSfltFilt (m : Nat) : Nat := objKey (0x1200 + m) (0x08)
/-- `pool[m].sflt_drop`, U8 (05). -/
def Obj.poolSfltDrop (m : Nat) : Nat := objKey (0x1200 + m) (0x09)
/-- `pool[m].drift_pct`, U8 (05). -/
def Obj.poolDriftPct (m : Nat) : Nat := objKey (0x1200 + m) (0x0A)
/-- `pool[m].as_life`, U64 (05). -/
def Obj.poolAsLife (m : Nat) : Nat := objKey (0x1200 + m) (0x0B)
/-- `pool[m].exc_life`, U32 (05). -/
def Obj.poolExcLife (m : Nat) : Nat := objKey (0x1200 + m) (0x0C)
/-- `pool[m].on_life`, U32 (05). -/
def Obj.poolOnLife (m : Nat) : Nat := objKey (0x1200 + m) (0x0D)
/-- `pool[m].w_charge`, U8 (05). -/
def Obj.poolWCharge (m : Nat) : Nat := objKey (0x1200 + m) (0x0E)
/-- `pool[m].w_exc`, U8 (05). -/
def Obj.poolWExc (m : Nat) : Nat := objKey (0x1200 + m) (0x0F)
/-- `pool[m].w_on`, U8 (05). -/
def Obj.poolWOn (m : Nat) : Nat := objKey (0x1200 + m) (0x10)
/-- `pool[m].w_drift`, U8 (05). -/
def Obj.poolWDrift (m : Nat) : Nat := objKey (0x1200 + m) (0x11)
/-- `pool[m].wear_alarm`, U16 (05). -/
def Obj.poolWearAlarm (m : Nat) : Nat := objKey (0x1200 + m) (0x12)
/-- `pool[m].restore`, U8 (05). -/
def Obj.poolRestore (m : Nat) : Nat := objKey (0x1200 + m) (0x13)
/-- `pool[m].spares_free`, U8 (05). -/
def Obj.poolSparesFree (m : Nat) : Nat := objKey (0x1200 + m) (0x20)
/-- `pool[m].nh`, U8 (05). -/
def Obj.poolNh (m : Nat) : Nat := objKey (0x1200 + m) (0x21)
/-- `pool[m].failed_lo`, BITS32 (05). -/
def Obj.poolFailedLo (m : Nat) : Nat := objKey (0x1200 + m) (0x22)
/-- `pool[m].failed_hi`, BITS16 (05). -/
def Obj.poolFailedHi (m : Nat) : Nat := objKey (0x1200 + m) (0x23)
/-- `pool[m].ider`, ICODE (05). -/
def Obj.poolIder (m : Nat) : Nat := objKey (0x1200 + m) (0x24)
/-- `pool[m].subs`, U32 (05). -/
def Obj.poolSubs (m : Nat) : Nat := objKey (0x1200 + m) (0x25)
/-- `pool[m].derated_since`, TIME48 (05). -/
def Obj.poolDeratedSince (m : Nat) : Nat := objKey (0x1200 + m) (0x26)
/-- `wear[n].ampsec`, U64 (05). -/
def Obj.wearAmpsec (n : Nat) : Nat := objKey (0x1240 + n) (0x01)
/-- `wear[n].on_sec`, U32 (05). -/
def Obj.wearOnSec (n : Nat) : Nat := objKey (0x1240 + n) (0x02)
/-- `wear[n].excursions`, U32 (05). -/
def Obj.wearExcursions (n : Nat) : Nat := objKey (0x1240 + n) (0x03)
/-- `wear[n].subs_in`, U16 (05). -/
def Obj.wearSubsIn (n : Nat) : Nat := objKey (0x1240 + n) (0x04)
/-- `wear[n].failures`, U16 (05). -/
def Obj.wearFailures (n : Nat) : Nat := objKey (0x1240 + n) (0x05)
/-- `wear[n].l_last`, U16 (05). -/
def Obj.wearLLast (n : Nat) : Nat := objKey (0x1240 + n) (0x06)
/-- `wear[n].l_min`, U16 (05). -/
def Obj.wearLMin (n : Nat) : Nat := objKey (0x1240 + n) (0x07)
/-- `wear[n].l_max`, U16 (05). -/
def Obj.wearLMax (n : Nat) : Nat := objKey (0x1240 + n) (0x08)
/-- `wear[n].l_hist`, OCT[16] (05). -/
def Obj.wearLHist (n : Nat) : Nat := objKey (0x1240 + n) (0x09)
/-- `wear[n].score`, U16 (05). -/
def Obj.wearScore (n : Nat) : Nat := objKey (0x1240 + n) (0x0A)
/-- `wear[n].rl_hours`, U32 (05). -/
def Obj.wearRlHours (n : Nat) : Nat := objKey (0x1240 + n) (0x0B)
/-- `wear[n].status`, BITS8 (05). -/
def Obj.wearStatus (n : Nat) : Nat := objKey (0x1240 + n) (0x0C)
/-- `wear[n].fail_cause`, ENUM8 (05). -/
def Obj.wearFailCause (n : Nat) : Nat := objKey (0x1240 + n) (0x0D)
/-- `wear[n].reset`, U8 (05). -/
def Obj.wearReset (n : Nat) : Nat := objKey (0x1240 + n) (0x0E)
/-- `sc[c].en_mode`, ENUM8 (06). -/
def Obj.scEnMode (c : Nat) : Nat := objKey (0x1300 + c) (0x01)
/-- `sc[c].scale`, U16 (06). -/
def Obj.scScale (c : Nat) : Nat := objKey (0x1300 + c) (0x02)
/-- `sc[c].vnom`, VCODE (06). -/
def Obj.scVnom (c : Nat) : Nat := objKey (0x1300 + c) (0x03)
/-- `sc[c].ovf_off`, U16 (06). -/
def Obj.scOvfOff (c : Nat) : Nat := objKey (0x1300 + c) (0x04)
/-- `sc[c].ovw_off`, U16 (06). -/
def Obj.scOvwOff (c : Nat) : Nat := objKey (0x1300 + c) (0x05)
/-- `sc[c].uvw_off`, U16 (06). -/
def Obj.scUvwOff (c : Nat) : Nat := objKey (0x1300 + c) (0x06)
/-- `sc[c].uvf_off`, U16 (06). -/
def Obj.scUvfOff (c : Nat) : Nat := objKey (0x1300 + c) (0x07)
/-- `sc[c].ovf_filt`, U8 (06). -/
def Obj.scOvfFilt (c : Nat) : Nat := objKey (0x1300 + c) (0x08)
/-- `sc[c].ovw_filt`, U8 (06). -/
def Obj.scOvwFilt (c : Nat) : Nat := objKey (0x1300 + c) (0x09)
/-- `sc[c].uvw_filt`, U8 (06). -/
def Obj.scUvwFilt (c : Nat) : Nat := objKey (0x1300 + c) (0x0A)
/-- `sc[c].uvf_filt`, U8 (06). -/
def Obj.scUvfFilt (c : Nat) : Nat := objKey (0x1300 + c) (0x0B)
/-- `sc[c].pgin_en`, BOOL (06). -/
def Obj.scPginEn (c : Nat) : Nat := objKey (0x1300 + c) (0x0C)
/-- `sc[c].pgin_filt`, U8 (06). -/
def Obj.scPginFilt (c : Nat) : Nat := objKey (0x1300 + c) (0x0D)
/-- `sc[c].hiccup_wait`, U16 (06). -/
def Obj.scHiccupWait (c : Nat) : Nat := objKey (0x1300 + c) (0x0E)
/-- `sc[c].vout`, VCODE (06). -/
def Obj.scVout (c : Nat) : Nat := objKey (0x1300 + c) (0x30)
/-- `sc[c].vout_min`, VCODE (06). -/
def Obj.scVoutMin (c : Nat) : Nat := objKey (0x1300 + c) (0x31)
/-- `sc[c].vout_max`, VCODE (06). -/
def Obj.scVoutMax (c : Nat) : Nat := objKey (0x1300 + c) (0x32)
/-- `sc[c].flags`, BITS8 (06). -/
def Obj.scFlags (c : Nat) : Nat := objKey (0x1300 + c) (0x33)
/-- `seq[r].stall`, U8 (06). -/
def Obj.seqStall (r : Nat) : Nat := objKey (0x2000 + r) (0x01)
/-- `seq[r].on_delay`, DUR32 (06). -/
def Obj.seqOnDelay (r : Nat) : Nat := objKey (0x2000 + r) (0x02)
/-- `seq[r].off_delay`, DUR32 (06). -/
def Obj.seqOffDelay (r : Nat) : Nat := objKey (0x2000 + r) (0x03)
/-- `seq[r].parent[0] to [3]`, U8 (06). -/
def Obj.seqParent (r : Nat) (i : Nat) : Nat := objKey (0x2000 + r) (0x04 + i)
/-- `seq[r].off_thr`, VCODE (06). -/
def Obj.seqOffThr (r : Nat) : Nat := objKey (0x2000 + r) (0x08)
/-- `seq[r].pg_qual`, DUR32 (06). -/
def Obj.seqPgQual (r : Nat) : Nat := objKey (0x2000 + r) (0x09)
/-- `seq[r].rise_max`, DUR32 (06). -/
def Obj.seqRiseMax (r : Nat) : Nat := objKey (0x2000 + r) (0x0A)
/-- `seq[r].dis_wait`, DUR32 (06). -/
def Obj.seqDisWait (r : Nat) : Nat := objKey (0x2000 + r) (0x0B)
/-- `seq[r].dep_restart`, BOOL (06). -/
def Obj.seqDepRestart (r : Nat) : Nat := objKey (0x2000 + r) (0x0C)
/-- `seq[r].state`, ENUM8 (06). -/
def Obj.seqState (r : Nat) : Nat := objKey (0x2000 + r) (0x20)
/-- `seq[r].chatter`, U16 (06). -/
def Obj.seqChatter (r : Nat) : Nat := objKey (0x2000 + r) (0x21)
/-- `seq[r].t_rise`, DUR32 (06). -/
def Obj.seqTRise (r : Nat) : Nat := objKey (0x2000 + r) (0x22)
/-- `seq[r].t_dis`, DUR32 (06). -/
def Obj.seqTDis (r : Nat) : Nat := objKey (0x2000 + r) (0x23)
/-- `seq[r].fails`, U32 (06). -/
def Obj.seqFails (r : Nat) : Nat := objKey (0x2000 + r) (0x24)
/-- `stall[s].paddock`, U8 (06). -/
def Obj.stallPaddock (s : Nat) : Nat := objKey (0x2040 + s) (0x01)
/-- `stall[s].yard_up`, U8 (06). -/
def Obj.stallYardUp (s : Nat) : Nat := objKey (0x2040 + s) (0x02)
/-- `stall[s].yard_down`, U8 (06). -/
def Obj.stallYardDown (s : Nat) : Nat := objKey (0x2040 + s) (0x03)
/-- `stall[s].rails`, OCT[8] (06). -/
def Obj.stallRails (s : Nat) : Nat := objKey (0x2040 + s) (0x20)
/-- `pad[p].pdis_mode`, ENUM8 (06). -/
def Obj.padPdisMode (p : Nat) : Nat := objKey (0x2060 + p) (0x01)
/-- `pad[p].pdis_min`, DUR32 (06). -/
def Obj.padPdisMin (p : Nat) : Nat := objKey (0x2060 + p) (0x02)
/-- `pad[p].cmd`, U8 (06). -/
def Obj.padCmd (p : Nat) : Nat := objKey (0x2060 + p) (0x03)
/-- `pad[p].state`, ENUM8 (06). -/
def Obj.padState (p : Nat) : Nat := objKey (0x2060 + p) (0x20)
/-- `pad[p].cause`, ENUM8 (06). -/
def Obj.padCause (p : Nat) : Nat := objKey (0x2060 + p) (0x21)
/-- `pad[p].asserts`, U32 (06). -/
def Obj.padAsserts (p : Nat) : Nat := objKey (0x2060 + p) (0x22)
/-- `seq.cmd`, U8 (06). -/
def Obj.sequencerCmd : Nat := objKey (0x2080) (0x01)
/-- `seq.auto_on`, BOOL (06). -/
def Obj.sequencerAutoOn : Nat := objKey (0x2080) (0x02)
/-- `seq.state`, ENUM8 (06). -/
def Obj.sequencerState : Nat := objKey (0x2080) (0x03)
/-- `seq.yard_state`, U8 (06). -/
def Obj.sequencerYardState : Nat := objKey (0x2080) (0x04)
/-- `seq.pending`, BITS8 (06). -/
def Obj.sequencerPending : Nat := objKey (0x2080) (0x05)
/-- `seq.rails_up`, OCT[8] (06). -/
def Obj.sequencerRailsUp : Nat := objKey (0x2080) (0x06)
/-- `seq.rails_failed`, OCT[8] (06). -/
def Obj.sequencerRailsFailed : Nat := objKey (0x2080) (0x07)
/-- `seq.table_ok`, BOOL (06). -/
def Obj.sequencerTableOk : Nat := objKey (0x2080) (0x08)
/-- `seq.t_up`, DUR32 (06). -/
def Obj.sequencerTUp : Nat := objKey (0x2080) (0x09)
/-- `seq.t_down`, DUR32 (06). -/
def Obj.sequencerTDown : Nat := objKey (0x2080) (0x0A)
/-- `seq.aborts`, U32 (06). -/
def Obj.sequencerAborts : Nat := objKey (0x2080) (0x0B)
/-- `yard.addr`, U8 (06). -/
def Obj.yardAddr : Nat := objKey (0x2090) (0x01)
/-- `yard.members`, BITS8 (06). -/
def Obj.yardMembers : Nat := objKey (0x2090) (0x02)
/-- `yard.safe_abort`, BOOL (06). -/
def Obj.yardSafeAbort : Nat := objKey (0x2090) (0x03)
/-- `yard.leader`, U8 (06). -/
def Obj.yardLeader : Nat := objKey (0x2090) (0x04)
/-- `yard.glitches`, U32 (06). -/
def Obj.yardGlitches : Nat := objKey (0x2090) (0x05)
/-- `yard.hold_max`, DUR32 (06). -/
def Obj.yardHoldMax : Nat := objKey (0x2090) (0x06)
/-- `yard.dwell[k]`, DUR32 (06). -/
def Obj.yardDwell (k : Nat) : Nat := objKey (0x2090) (0x40 + k)
/-- `src[s].react[0] to [4]`, BITS16 (07). -/
def Obj.srcReact (s : Nat) (l : Nat) : Nat := objKey (0x2400 + s) (0x01 + l)
/-- `src[s].count_n`, U8 (07). -/
def Obj.srcCountN (s : Nat) : Nat := objKey (0x2400 + s) (0x06)
/-- `src[s].count_w`, U16 (07). -/
def Obj.srcCountW (s : Nat) : Nat := objKey (0x2400 + s) (0x07)
/-- `src[s].quiet`, U16 (07). -/
def Obj.srcQuiet (s : Nat) : Nat := objKey (0x2400 + s) (0x08)
/-- `src[s].esc_en`, BOOL (07). -/
def Obj.srcEscEn (s : Nat) : Nat := objKey (0x2400 + s) (0x09)
/-- `src[s].level`, ENUM8 (07). -/
def Obj.srcLevel (s : Nat) : Nat := objKey (0x2400 + s) (0x20)
/-- `src[s].unack`, BITS32 (07). -/
def Obj.srcUnack (s : Nat) : Nat := objKey (0x2400 + s) (0x21)
/-- `src[s].uncleared`, BITS32 (07). -/
def Obj.srcUncleared (s : Nat) : Nat := objKey (0x2400 + s) (0x22)
/-- `src[s].cond`, BITS32 (07). -/
def Obj.srcCond (s : Nat) : Nat := objKey (0x2400 + s) (0x23)
/-- `src[s].recoveries`, U32 (07). -/
def Obj.srcRecoveries (s : Nat) : Nat := objKey (0x2400 + s) (0x24)
/-- `src[s].hiccups`, U8 (07). -/
def Obj.srcHiccups (s : Nat) : Nat := objKey (0x2400 + s) (0x25)
/-- `src[s].win_count`, U8 (07). -/
def Obj.srcWinCount (s : Nat) : Nat := objKey (0x2400 + s) (0x26)
/-- `src[s].lost`, U32 (07). -/
def Obj.srcLost (s : Nat) : Nat := objKey (0x2400 + s) (0x27)
/-- `src[s].unlogged`, U32 (07). -/
def Obj.srcUnlogged (s : Nat) : Nat := objKey (0x2400 + s) (0x28)
/-- `src[s].last_time`, TIME48 (07). -/
def Obj.srcLastTime (s : Nat) : Nat := objKey (0x2400 + s) (0x29)
/-- `src[s].last_class`, U8 (07). -/
def Obj.srcLastClass (s : Nat) : Nat := objKey (0x2400 + s) (0x2A)
/-- `src[s].cls[c]`, BITS16 (07). -/
def Obj.srcCls (s : Nat) (c : Nat) : Nat := objKey (0x2400 + s) (0x40 + c)
/-- `src[s].occ[c]`, U32 (07). -/
def Obj.srcOcc (s : Nat) (c : Nat) : Nat := objKey (0x2400 + s) (0x60 + c)
/-- `src[s].lost_c[c]`, U32 (07). -/
def Obj.srcLostC (s : Nat) (c : Nat) : Nat := objKey (0x2400 + s) (0x80 + c)
/-- `marshal.fault_n_level`, ENUM8 (07). -/
def Obj.marshalFaultNLevel : Nat := objKey (0x2500) (0x01)
/-- `marshal.ack_all`, U8 (07). -/
def Obj.marshalAckAll : Nat := objKey (0x2500) (0x02)
/-- `marshal.level`, ENUM8 (07). -/
def Obj.marshalLevel : Nat := objKey (0x2500) (0x03)
/-- `marshal.in_fault`, OCT[32] (07). -/
def Obj.marshalInFault : Nat := objKey (0x2500) (0x04)
/-- `marshal.fault_n`, BOOL (07). -/
def Obj.marshalFaultN : Nat := objKey (0x2500) (0x05)
/-- `marshal.recoveries`, U32 (07). -/
def Obj.marshalRecoveries : Nat := objKey (0x2500) (0x06)
/-- `marshal.lost`, U32 (07). -/
def Obj.marshalLost : Nat := objKey (0x2500) (0x07)
/-- `marshal.unlogged`, U32 (07). -/
def Obj.marshalUnlogged : Nat := objKey (0x2500) (0x08)
/-- `marshal.folds`, U32 (07). -/
def Obj.marshalFolds : Nat := objKey (0x2500) (0x09)
/-- `marshal.promotions`, U32 (07). -/
def Obj.marshalPromotions : Nat := objKey (0x2500) (0x0A)
/-- `marshal.escalations`, U32 (07). -/
def Obj.marshalEscalations : Nat := objKey (0x2500) (0x0B)
/-- `marshal.q_depth`, U16 (07). -/
def Obj.marshalQDepth : Nat := objKey (0x2500) (0x0C)
/-- `marshal.q_max`, U16 (07). -/
def Obj.marshalQMax : Nat := objKey (0x2500) (0x0D)
/-- `marshal.intake_max`, U16 (07). -/
def Obj.marshalIntakeMax : Nat := objKey (0x2500) (0x0E)
/-- `marshal.last_src`, U8 (07). -/
def Obj.marshalLastSrc : Nat := objKey (0x2500) (0x0F)
/-- `marshal.rec_occ[i]`, U32 (07). -/
def Obj.marshalRecOcc (i : Nat) : Nat := objKey (0x2500) (0x20 + i)
/-- `team.en`, BOOL (08). -/
def Obj.teamEn : Nat := objKey (0x2800) (0x01)
/-- `team.join_wait`, DUR32 (08). -/
def Obj.teamJoinWait : Nat := objKey (0x2800) (0x02)
/-- `team.auto_admit`, BOOL (08). -/
def Obj.teamAutoAdmit : Nat := objKey (0x2800) (0x03)
/-- `team.readmit_wait`, U16 (08). -/
def Obj.teamReadmitWait : Nat := objKey (0x2800) (0x04)
/-- `team.drive_chk`, BOOL (08). -/
def Obj.teamDriveChk : Nat := objKey (0x2800) (0x05)
/-- `team.buck_dthr`, U16 (08). -/
def Obj.teamBuckDthr : Nat := objKey (0x2800) (0x06)
/-- `team.swap`, U8 (08). -/
def Obj.teamSwap : Nat := objKey (0x2800) (0x07)
/-- `team.admit`, U8 (08). -/
def Obj.teamAdmit : Nat := objKey (0x2800) (0x08)
/-- `team.release`, U8 (08). -/
def Obj.teamRelease : Nat := objKey (0x2800) (0x09)
/-- `team.role`, ENUM8 (08). -/
def Obj.teamRole : Nat := objKey (0x2801) (0x01)
/-- `team.position`, U8 (08). -/
def Obj.teamPosition : Nat := objKey (0x2801) (0x02)
/-- `team.epoch`, U32 (08). -/
def Obj.teamEpoch : Nat := objKey (0x2801) (0x03)
/-- `team.twin_role`, ENUM8 (08). -/
def Obj.teamTwinRole : Nat := objKey (0x2801) (0x04)
/-- `team.link`, BITS8 (08). -/
def Obj.teamLink : Nat := objKey (0x2801) (0x05)
/-- `team.adm_state`, ENUM8 (08). -/
def Obj.teamAdmState : Nat := objKey (0x2801) (0x06)
/-- `team.adm_progress`, U16 (08). -/
def Obj.teamAdmProgress : Nat := objKey (0x2801) (0x07)
/-- `team.takeovers`, U32 (08). -/
def Obj.teamTakeovers : Nat := objKey (0x2801) (0x08)
/-- `team.last_cause`, ENUM8 (08). -/
def Obj.teamLastCause : Nat := objKey (0x2801) (0x09)
/-- `team.last_gap`, U16 (08). -/
def Obj.teamLastGap : Nat := objKey (0x2801) (0x0A)
/-- `team.last_time`, TIME48 (08). -/
def Obj.teamLastTime : Nat := objKey (0x2801) (0x0B)
/-- `team.dq_depth`, U16 (08). -/
def Obj.teamDqDepth : Nat := objKey (0x2801) (0x0C)
/-- `team.dq_max`, U16 (08). -/
def Obj.teamDqMax : Nat := objKey (0x2801) (0x0D)
/-- `team.journal`, U16 (08). -/
def Obj.teamJournal : Nat := objKey (0x2801) (0x0E)
/-- `team.iacc_div`, ICODE (08). -/
def Obj.teamIaccDiv : Nat := objKey (0x2801) (0x0F)
/-- `hl.good`, U32 (08). -/
def Obj.hlGood : Nat := objKey (0x2802) (0x01)
/-- `hl.missed`, U32 (08). -/
def Obj.hlMissed : Nat := objKey (0x2802) (0x02)
/-- `hl.corrected`, U32 (08). -/
def Obj.hlCorrected : Nat := objKey (0x2802) (0x03)
/-- `hl.uncorr`, U32 (08). -/
def Obj.hlUncorr : Nat := objKey (0x2802) (0x04)
/-- `hl.downs`, U32 (08). -/
def Obj.hlDowns : Nat := objKey (0x2802) (0x05)
/-- `hl.resends`, U32 (08). -/
def Obj.hlResends : Nat := objKey (0x2802) (0x06)
/-- `hl.skew`, U8 (08). -/
def Obj.hlSkew : Nat := objKey (0x2802) (0x07)
/-- `hs.rshunt`, U16 (09). -/
def Obj.hsRshunt : Nat := objKey (0x2C00) (0x01)
/-- `hs.ilim`, ICODE (09). -/
def Obj.hsIlim : Nat := objKey (0x2C00) (0x02)
/-- `hs.cb_filt`, U16 (09). -/
def Obj.hsCbFilt : Nat := objKey (0x2C00) (0x03)
/-- `hs.dvdt`, U16 (09). -/
def Obj.hsDvdt : Nat := objKey (0x2C00) (0x04)
/-- `hs.inrush_max`, U16 (09). -/
def Obj.hsInrushMax : Nat := objKey (0x2C00) (0x05)
/-- `hs.pg_delta`, U16 (09). -/
def Obj.hsPgDelta : Nat := objKey (0x2C00) (0x06)
/-- `hs.pg_qual`, DUR32 (09). -/
def Obj.hsPgQual : Nat := objKey (0x2C00) (0x07)
/-- `hs.soa_lim`, U32 (09). -/
def Obj.hsSoaLim : Nat := objKey (0x2C00) (0x08)
/-- `hs.soa_cool`, U32 (09). -/
def Obj.hsSoaCool : Nat := objKey (0x2C00) (0x09)
/-- `hs.retries`, U8 (09). -/
def Obj.hsRetries : Nat := objKey (0x2C00) (0x0A)
/-- `hs.retry_wait`, U16 (09). -/
def Obj.hsRetryWait : Nat := objKey (0x2C00) (0x0B)
/-- `hs.debounce`, U16 (09). -/
def Obj.hsDebounce : Nat := objKey (0x2C00) (0x0C)
/-- `hs.vin_ov`, U16 (09). -/
def Obj.hsVinOv : Nat := objKey (0x2C00) (0x0D)
/-- `hs.vin_warn`, U16 (09). -/
def Obj.hsVinWarn : Nat := objKey (0x2C00) (0x0E)
/-- `hs.vin_uv`, U16 (09). -/
def Obj.hsVinUv : Nat := objKey (0x2C00) (0x0F)
/-- `hs.vin_hys`, U16 (09). -/
def Obj.hsVinHys : Nat := objKey (0x2C00) (0x10)
/-- `hs.vin_filt`, U8 (09). -/
def Obj.hsVinFilt : Nat := objKey (0x2C00) (0x11)
/-- `hs.auto`, BOOL (09). -/
def Obj.hsAuto : Nat := objKey (0x2C00) (0x12)
/-- `hs.cmd`, U8 (09). -/
def Obj.hsCmd : Nat := objKey (0x2C00) (0x13)
/-- `hs.state`, ENUM8 (09). -/
def Obj.hsState : Nat := objKey (0x2C01) (0x01)
/-- `hs.vin`, U16 (09). -/
def Obj.hsVin : Nat := objKey (0x2C01) (0x02)
/-- `hs.vout`, U16 (09). -/
def Obj.hsVout : Nat := objKey (0x2C01) (0x03)
/-- `hs.iin`, ICODE (09). -/
def Obj.hsIin : Nat := objKey (0x2C01) (0x04)
/-- `hs.pin`, PCODE (09). -/
def Obj.hsPin : Nat := objKey (0x2C01) (0x05)
/-- `hs.pfet`, PCODE (09). -/
def Obj.hsPfet : Nat := objKey (0x2C01) (0x06)
/-- `hs.soa_acc`, U32 (09). -/
def Obj.hsSoaAcc : Nat := objKey (0x2C01) (0x07)
/-- `hs.retries_used`, U8 (09). -/
def Obj.hsRetriesUsed : Nat := objKey (0x2C01) (0x08)
/-- `hs.trips`, U32 (09). -/
def Obj.hsTrips : Nat := objKey (0x2C01) (0x09)
/-- `hs.last_cause`, ENUM8 (09). -/
def Obj.hsLastCause : Nat := objKey (0x2C01) (0x0A)
/-- `hs.insertions`, U32 (09). -/
def Obj.hsInsertions : Nat := objKey (0x2C01) (0x0B)
/-- `hs.bounces`, U32 (09). -/
def Obj.hsBounces : Nat := objKey (0x2C01) (0x0C)
/-- `hs.flags`, BITS8 (09). -/
def Obj.hsFlags : Nat := objKey (0x2C01) (0x0D)
/-- `mgt.vwarn`, U16 (09). -/
def Obj.mgtVwarn : Nat := objKey (0x2C02) (0x01)
/-- `mgt.vwarn_filt`, U8 (09). -/
def Obj.mgtVwarnFilt : Nat := objKey (0x2C02) (0x02)
/-- `mgt.rec_time`, DUR32 (09). -/
def Obj.mgtRecTime : Nat := objKey (0x2C02) (0x03)
/-- `mgt.vin`, U16 (09). -/
def Obj.mgtVin : Nat := objKey (0x2C02) (0x04)
/-- `mgt.state`, ENUM8 (09). -/
def Obj.mgtState : Nat := objKey (0x2C02) (0x05)
/-- `mgt.dips`, U32 (09). -/
def Obj.mgtDips : Nat := objKey (0x2C02) (0x06)
/-- `mgt.losses`, U32 (09). -/
def Obj.mgtLosses : Nat := objKey (0x2C02) (0x07)
/-- `mgt.vmin`, U16 (09). -/
def Obj.mgtVmin : Nat := objKey (0x2C02) (0x08)
/-- `mgt.prep`, BITS8 (09). -/
def Obj.mgtPrep : Nat := objKey (0x2C02) (0x09)
/-- `pwr.pack_en`, BOOL (10). -/
def Obj.pwrPackEn : Nat := objKey (0x3000) (0x01)
/-- `pwr.cap_nom`, U16 (10). -/
def Obj.pwrCapNom : Nat := objKey (0x3000) (0x02)
/-- `pwr.vchg`, U16 (10). -/
def Obj.pwrVchg : Nat := objKey (0x3000) (0x03)
/-- `pwr.vrech`, U16 (10). -/
def Obj.pwrVrech : Nat := objKey (0x3000) (0x04)
/-- `pwr.vpre`, U16 (10). -/
def Obj.pwrVpre : Nat := objKey (0x3000) (0x05)
/-- `pwr.ichg`, ICODE (10). -/
def Obj.pwrIchg : Nat := objKey (0x3000) (0x06)
/-- `pwr.topoff`, U8 (10). -/
def Obj.pwrTopoff : Nat := objKey (0x3000) (0x07)
/-- `pwr.safety`, U8 (10). -/
def Obj.pwrSafety : Nat := objKey (0x3000) (0x08)
/-- `pwr.ilim_bus`, ICODE (10). -/
def Obj.pwrIlimBus : Nat := objKey (0x3000) (0x09)
/-- `pwr.vpack_cut`, U16 (10). -/
def Obj.pwrVpackCut : Nat := objKey (0x3000) (0x0A)
/-- `pwr.idis_lim`, ICODE (10). -/
def Obj.pwrIdisLim : Nat := objKey (0x3000) (0x0B)
/-- `pwr.tchg_lo`, TCODE (10). -/
def Obj.pwrTchgLo : Nat := objKey (0x3000) (0x0C)
/-- `pwr.tchg_hi`, TCODE (10). -/
def Obj.pwrTchgHi : Nat := objKey (0x3000) (0x0D)
/-- `pwr.tdis_lo`, TCODE (10). -/
def Obj.pwrTdisLo : Nat := objKey (0x3000) (0x0E)
/-- `pwr.tdis_hi`, TCODE (10). -/
def Obj.pwrTdisHi : Nat := objKey (0x3000) (0x0F)
/-- `pwr.lg_time`, DUR32 (10). -/
def Obj.pwrLgTime : Nat := objKey (0x3000) (0x10)
/-- `pwr.lg_done`, U8 (10). -/
def Obj.pwrLgDone : Nat := objKey (0x3000) (0x11)
/-- `pwr.cmd`, U8 (10). -/
def Obj.pwrCmd : Nat := objKey (0x3000) (0x12)
/-- `pwr.src`, ENUM8 (10). -/
def Obj.pwrSrc : Nat := objKey (0x3001) (0x01)
/-- `pwr.chg_state`, ENUM8 (10). -/
def Obj.pwrChgState : Nat := objKey (0x3001) (0x02)
/-- `pwr.susp`, ENUM8 (10). -/
def Obj.pwrSusp : Nat := objKey (0x3001) (0x03)
/-- `pwr.vpack`, U16 (10). -/
def Obj.pwrVpack : Nat := objKey (0x3001) (0x04)
/-- `pwr.vpp`, U16 (10). -/
def Obj.pwrVpp : Nat := objKey (0x3001) (0x05)
/-- `pwr.isrc`, ICODE (10). -/
def Obj.pwrIsrc : Nat := objKey (0x3001) (0x06)
/-- `pwr.ilim_in`, ICODE (10). -/
def Obj.pwrIlimIn : Nat := objKey (0x3001) (0x07)
/-- `pwr.ilim_src`, ENUM8 (10). -/
def Obj.pwrIlimSrc : Nat := objKey (0x3001) (0x08)
/-- `pwr.ichg_now`, ICODE (10). -/
def Obj.pwrIchgNow : Nat := objKey (0x3001) (0x09)
/-- `pwr.t_eq`, U32 (10). -/
def Obj.pwrTEq : Nat := objKey (0x3001) (0x0A)
/-- `pwr.t_wall`, U32 (10). -/
def Obj.pwrTWall : Nat := objKey (0x3001) (0x0B)
/-- `pwr.flags`, BITS16 (10). -/
def Obj.pwrFlags : Nat := objKey (0x3001) (0x0C)
/-- `pwr.ho_time`, U16 (10). -/
def Obj.pwrHoTime : Nat := objKey (0x3001) (0x0D)
/-- `pwr.handovers`, U32 (10). -/
def Obj.pwrHandovers : Nat := objKey (0x3001) (0x0E)
/-- `pwr.holdups`, U32 (10). -/
def Obj.pwrHoldups : Nat := objKey (0x3001) (0x0F)
/-- `pwr.ponr_cause`, ENUM8 (10). -/
def Obj.pwrPonrCause : Nat := objKey (0x3001) (0x10)
/-- `pwr.lg_left`, DUR32 (10). -/
def Obj.pwrLgLeft : Nat := objKey (0x3001) (0x11)
/-- `est.i_ref`, ICODE (11). -/
def Obj.estIRef : Nat := objKey (0x3100) (0x01)
/-- `est.ready_min`, U16 (11). -/
def Obj.estReadyMin : Nat := objKey (0x3100) (0x02)
/-- `est.ex_period`, U32 (11). -/
def Obj.estExPeriod : Nat := objKey (0x3100) (0x03)
/-- `est.ex_target`, U8 (11). -/
def Obj.estExTarget : Nat := objKey (0x3100) (0x04)
/-- `est.exld_en`, BOOL (11). -/
def Obj.estExldEn : Nat := objKey (0x3100) (0x05)
/-- `est.ex_rest_max`, U16 (11). -/
def Obj.estExRestMax : Nat := objKey (0x3100) (0x06)
/-- `est.cmd`, U8 (11). -/
def Obj.estCmd : Nat := objKey (0x3100) (0x07)
/-- `est.i_sd`, U16 (11). -/
def Obj.estISd : Nat := objKey (0x3100) (0x08)
/-- `est.cap_alarm`, U8 (11). -/
def Obj.estCapAlarm : Nat := objKey (0x3100) (0x09)
/-- `est.r_alarm`, U16 (11). -/
def Obj.estRAlarm : Nat := objKey (0x3100) (0x0A)
/-- `est.ex_auto`, BOOL (11). -/
def Obj.estExAuto : Nat := objKey (0x3100) (0x0B)
/-- `est.ipack`, ICODE (11). -/
def Obj.estIpack : Nat := objKey (0x3101) (0x01)
/-- `est.q_rem`, QCODE (11). -/
def Obj.estQRem : Nat := objKey (0x3101) (0x02)
/-- `est.cap`, QCODE (11). -/
def Obj.estCap : Nat := objKey (0x3101) (0x03)
/-- `est.soc`, U16 (11). -/
def Obj.estSoc : Nat := objKey (0x3101) (0x04)
/-- `est.soc_raw`, U16 (11). -/
def Obj.estSocRaw : Nat := objKey (0x3101) (0x05)
/-- `est.s_cut`, U16 (11). -/
def Obj.estSCut : Nat := objKey (0x3101) (0x06)
/-- `est.ready`, U16 (11). -/
def Obj.estReady : Nat := objKey (0x3101) (0x07)
/-- `est.cycles`, U32 (11). -/
def Obj.estCycles : Nat := objKey (0x3101) (0x08)
/-- `est.flags`, BITS16 (11). -/
def Obj.estFlags : Nat := objKey (0x3101) (0x09)
/-- `est.last_rest`, TIME48 (11). -/
def Obj.estLastRest : Nat := objKey (0x3101) (0x0A)
/-- `est.last_learn`, TIME48 (11). -/
def Obj.estLastLearn : Nat := objKey (0x3101) (0x0B)
/-- `est.learn_age`, U32 (11). -/
def Obj.estLearnAge : Nat := objKey (0x3101) (0x0C)
/-- `est.ex_state`, ENUM8 (11). -/
def Obj.estExState : Nat := objKey (0x3101) (0x0D)
/-- `est.gen`, U32 (11). -/
def Obj.estGen : Nat := objKey (0x3101) (0x0E)
/-- `est.r_now`, U16 (11). -/
def Obj.estRNow : Nat := objKey (0x3101) (0x0F)
/-- `est.rest_timer`, RND32 (11). -/
def Obj.estRestTimer : Nat := objKey (0x3101) (0x10)
/-- `est.q_corr`, QCODE (11). -/
def Obj.estQCorr : Nat := objKey (0x3101) (0x11)
/-- `th.die_thr`, TCODE (12). -/
def Obj.thDieThr : Nat := objKey (0x3200) (0x01)
/-- `th.die_stop`, TCODE (12). -/
def Obj.thDieStop : Nat := objKey (0x3200) (0x02)
/-- `th.scale_mask`, BITS32 (12). -/
def Obj.thScaleMask : Nat := objKey (0x3200) (0x03)
/-- `th.scale_rise`, U16 (12). -/
def Obj.thScaleRise : Nat := objKey (0x3200) (0x04)
/-- `th.pack_src`, ENUM8 (12). -/
def Obj.thPackSrc : Nat := objKey (0x3200) (0x05)
/-- `th.pack_band`, TCODE (12). -/
def Obj.thPackBand : Nat := objKey (0x3200) (0x06)
/-- `th.ro_plaus`, TCODE (12). -/
def Obj.thRoPlaus : Nat := objKey (0x3200) (0x07)
/-- `th.restore`, U16 (12). -/
def Obj.thRestore : Nat := objKey (0x3200) (0x08)
/-- `th.t_die`, TCODE (12). -/
def Obj.thTDie : Nat := objKey (0x3201) (0x01)
/-- `th.scale`, U16 (12). -/
def Obj.thScale : Nat := objKey (0x3201) (0x02)
/-- `th.scale_target`, U16 (12). -/
def Obj.thScaleTarget : Nat := objKey (0x3201) (0x03)
/-- `th.limiter`, U8 (12). -/
def Obj.thLimiter : Nat := objKey (0x3201) (0x04)
/-- `th.broken`, BITS32 (12). -/
def Obj.thBroken : Nat := objKey (0x3201) (0x05)
/-- `th.flags`, BITS8 (12). -/
def Obj.thFlags : Nat := objKey (0x3201) (0x06)
/-- `th.t_die_max`, TCODE (12). -/
def Obj.thTDieMax : Nat := objKey (0x3201) (0x07)
/-- `th.throttled`, RND32 (12). -/
def Obj.thThrottled : Nat := objKey (0x3201) (0x08)
/-- `th.t_pack`, TCODE (12). -/
def Obj.thTPack : Nat := objKey (0x3201) (0x09)
/-- `th.chg_ceiling`, ICODE (12). -/
def Obj.thChgCeiling : Nat := objKey (0x3201) (0x0A)
/-- `th.d[d].thr`, TCODE (12). -/
def Obj.thDThr (d : Nat) : Nat := objKey (0x3210 + d) (0x01)
/-- `th.d[d].stop`, TCODE (12). -/
def Obj.thDStop (d : Nat) : Nat := objKey (0x3210 + d) (0x02)
/-- `th.d[d].eta`, U16 (12). -/
def Obj.thDEta (d : Nat) : Nat := objKey (0x3210 + d) (0x03)
/-- `th.d[d].rser`, U16 (12). -/
def Obj.thDRser (d : Nat) : Nat := objKey (0x3210 + d) (0x04)
/-- `th.d[d].t`, TCODE (12). -/
def Obj.thDT (d : Nat) : Nat := objKey (0x3210 + d) (0x20)
/-- `tm[m].gain`, U16 (12). -/
def Obj.tmGain (m : Nat) : Nat := objKey (0x3220 + m) (0x01)
/-- `tm[m].offset`, U16 (12). -/
def Obj.tmOffset (m : Nat) : Nat := objKey (0x3220 + m) (0x02)
/-- `tm[m].vmin`, U16 (12). -/
def Obj.tmVmin (m : Nat) : Nat := objKey (0x3220 + m) (0x03)
/-- `tm[m].vmax`, U16 (12). -/
def Obj.tmVmax (m : Nat) : Nat := objKey (0x3220 + m) (0x04)
/-- `tm[m].thr`, TCODE (12). -/
def Obj.tmThr (m : Nat) : Nat := objKey (0x3220 + m) (0x05)
/-- `tm[m].stop`, TCODE (12). -/
def Obj.tmStop (m : Nat) : Nat := objKey (0x3220 + m) (0x06)
/-- `tm[m].t`, TCODE (12). -/
def Obj.tmT (m : Nat) : Nat := objKey (0x3220 + m) (0x20)
/-- `port.role_cfg`, ENUM8 (13). -/
def Obj.portRoleCfg : Nat := objKey (0x3400) (0x01)
/-- `port.snk_vmax`, ENUM8 (13). -/
def Obj.portSnkVmax : Nat := objKey (0x3400) (0x02)
/-- `port.snk_imax`, ICODE (13). -/
def Obj.portSnkImax : Nat := objKey (0x3400) (0x03)
/-- `port.dr_pref`, ENUM8 (13). -/
def Obj.portDrPref : Nat := objKey (0x3400) (0x04)
/-- `port.bench_en`, BOOL (13). -/
def Obj.portBenchEn : Nat := objKey (0x3400) (0x05)
/-- `port.trip_max`, U8 (13). -/
def Obj.portTripMax : Nat := objKey (0x3400) (0x06)
/-- `port.cmd`, U8 (13). -/
def Obj.portCmd : Nat := objKey (0x3400) (0x07)
/-- `port.state`, ENUM8 (13). -/
def Obj.portState : Nat := objKey (0x3401) (0x01)
/-- `port.orient`, ENUM8 (13). -/
def Obj.portOrient : Nat := objKey (0x3401) (0x02)
/-- `port.power_role`, ENUM8 (13). -/
def Obj.portPowerRole : Nat := objKey (0x3401) (0x03)
/-- `port.data_role`, ENUM8 (13). -/
def Obj.portDataRole : Nat := objKey (0x3401) (0x04)
/-- `port.contract`, ENUM8 (13). -/
def Obj.portContract : Nat := objKey (0x3401) (0x05)
/-- `port.v_contract`, U16 (13). -/
def Obj.portVContract : Nat := objKey (0x3401) (0x06)
/-- `port.i_contract`, ICODE (13). -/
def Obj.portIContract : Nat := objKey (0x3401) (0x07)
/-- `port.vbus`, U16 (13). -/
def Obj.portVbus : Nat := objKey (0x3401) (0x08)
/-- `port.ibus`, ICODE (13). -/
def Obj.portIbus : Nat := objKey (0x3401) (0x09)
/-- `port.flags`, BITS8 (13). -/
def Obj.portFlags : Nat := objKey (0x3401) (0x0A)
/-- `port.trips`, U32 (13). -/
def Obj.portTrips : Nat := objKey (0x3401) (0x0B)
/-- `port.last_trip`, ENUM8 (13). -/
def Obj.portLastTrip : Nat := objKey (0x3401) (0x0C)
/-- `port.attaches`, U32 (13). -/
def Obj.portAttaches : Nat := objKey (0x3401) (0x0D)
/-- `port.pulls`, U32 (13). -/
def Obj.portPulls : Nat := objKey (0x3401) (0x0E)
/-- `port.bench_entries`, U32 (13). -/
def Obj.portBenchEntries : Nat := objKey (0x3401) (0x0F)
/-- `rtc.set_mode`, ENUM8 (14). -/
def Obj.rtcSetMode : Nat := objKey (0x3600) (0x01)
/-- `rtc.set_time`, TIME48 (14). -/
def Obj.rtcSetTime : Nat := objKey (0x3600) (0x02)
/-- `rtc.set_cal`, OCT[8] (14). -/
def Obj.rtcSetCal : Nat := objKey (0x3600) (0x03)
/-- `rtc.shift`, S16 (14). -/
def Obj.rtcShift : Nat := objKey (0x3600) (0x04)
/-- `rtc.cal`, S8 (14). -/
def Obj.rtcCal : Nat := objKey (0x3600) (0x05)
/-- `rtc.fso_clear`, U8 (14). -/
def Obj.rtcFsoClear : Nat := objKey (0x3600) (0x06)
/-- `rtc.now`, TIME48 (14). -/
def Obj.rtcNow : Nat := objKey (0x3601) (0x01)
/-- `rtc.cal_now`, OCT[8] (14). -/
def Obj.rtcCalNow : Nat := objKey (0x3601) (0x02)
/-- `rtc.status`, BITS8 (14). -/
def Obj.rtcStatus : Nat := objKey (0x3601) (0x03)
/-- `rtc.shift_left`, S16 (14). -/
def Obj.rtcShiftLeft : Nat := objKey (0x3601) (0x04)
/-- `rtc.fso`, TIME48 (14). -/
def Obj.rtcFso : Nat := objKey (0x3601) (0x05)
/-- `rtc.fso_pc`, U32 (14). -/
def Obj.rtcFsoPc : Nat := objKey (0x3601) (0x06)
/-- `rtc.sets`, U32 (14). -/
def Obj.rtcSets : Nat := objKey (0x3601) (0x07)
/-- `rtc.stops`, U32 (14). -/
def Obj.rtcStops : Nat := objKey (0x3601) (0x08)
/-- `nvm.commit_age`, U16 (15). -/
def Obj.nvmCommitAge : Nat := objKey (0x3800) (0x01)
/-- `nvm.scrub_period`, RND32 (15). -/
def Obj.nvmScrubPeriod : Nat := objKey (0x3800) (0x02)
/-- `nvm.rewrite_thr`, U8 (15). -/
def Obj.nvmRewriteThr : Nat := objKey (0x3800) (0x03)
/-- `nvm.cmd`, U8 (15). -/
def Obj.nvmCmd : Nat := objKey (0x3800) (0x04)
/-- `nvm.cres`, U16 (15). -/
def Obj.nvmCres : Nat := objKey (0x3800) (0x20)
/-- `nvm.state`, ENUM8 (15). -/
def Obj.nvmState : Nat := objKey (0x3800) (0x21)
/-- `nvm.buf_lines`, U8 (15). -/
def Obj.nvmBufLines : Nat := objKey (0x3800) (0x22)
/-- `nvm.commits`, U32 (15). -/
def Obj.nvmCommits : Nat := objKey (0x3800) (0x23)
/-- `nvm.commit_time`, U16 (15). -/
def Obj.nvmCommitTime : Nat := objKey (0x3800) (0x24)
/-- `nvm.refused`, U32 (15). -/
def Obj.nvmRefused : Nat := objKey (0x3800) (0x25)
/-- `nvm.corrected`, U32 (15). -/
def Obj.nvmCorrected : Nat := objKey (0x3800) (0x26)
/-- `nvm.uncorr`, U32 (15). -/
def Obj.nvmUncorr : Nat := objKey (0x3800) (0x27)
/-- `nvm.last_bad`, U32 (15). -/
def Obj.nvmLastBad : Nat := objKey (0x3800) (0x28)
/-- `nvm.bad`, OCT[64] (15). -/
def Obj.nvmBad : Nat := objKey (0x3800) (0x29)
/-- `nvm.cres_flags`, BITS8 (15). -/
def Obj.nvmCresFlags : Nat := objKey (0x3800) (0x2A)
/-- `otp.prog_word`, U8 (15). -/
def Obj.otpProgWord : Nat := objKey (0x3810) (0x01)
/-- `otp.prog_data`, U64 (15). -/
def Obj.otpProgData : Nat := objKey (0x3810) (0x02)
/-- `otp.prog_cmd`, U8 (15). -/
def Obj.otpProgCmd : Nat := objKey (0x3810) (0x03)
/-- `otp.result`, ENUM8 (15). -/
def Obj.otpResult : Nat := objKey (0x3810) (0x20)
/-- `otp.lock`, BOOL (15). -/
def Obj.otpLock : Nat := objKey (0x3810) (0x21)
/-- `otp.corrected`, U16 (15). -/
def Obj.otpCorrected : Nat := objKey (0x3810) (0x22)
/-- `otp.marginal`, OCT[32] (15). -/
def Obj.otpMarginal : Nat := objKey (0x3810) (0x23)
/-- `otp.patch_used`, BITS32 (15). -/
def Obj.otpPatchUsed : Nat := objKey (0x3810) (0x24)
/-- `otp.patch_used_hi`, BITS32 (15). -/
def Obj.otpPatchUsedHi : Nat := objKey (0x3810) (0x25)
/-- `otp.revoked`, OCT[8] (15). -/
def Obj.otpRevoked : Nat := objKey (0x3810) (0x26)
/-- `otp.defaults`, U64 (15). -/
def Obj.otpDefaults : Nat := objKey (0x3810) (0x27)
/-- `sb.fold_time`, U16 (16). -/
def Obj.sbFoldTime : Nat := objKey (0x3A00) (0x01)
/-- `sb.head`, U16 (16). -/
def Obj.sbHead : Nat := objKey (0x3A00) (0x20)
/-- `sb.lap`, U8 (16). -/
def Obj.sbLap : Nat := objKey (0x3A00) (0x21)
/-- `sb.records`, U32 (16). -/
def Obj.sbRecords : Nat := objKey (0x3A00) (0x22)
/-- `sb.folds`, U32 (16). -/
def Obj.sbFolds : Nat := objKey (0x3A00) (0x23)
/-- `sb.torn`, U32 (16). -/
def Obj.sbTorn : Nat := objKey (0x3A00) (0x24)
/-- `sb.ring`, OCT[262,144] (16). -/
def Obj.sbRing : Nat := objKey (0x3A00) (0x25)
/-- `sb.exp_count`, U16 (16). -/
def Obj.sbExpCount : Nat := objKey (0x3A01) (0x01)
/-- `sb.exp_nonce`, OCT[8] (16). -/
def Obj.sbExpNonce : Nat := objKey (0x3A01) (0x02)
/-- `sb.exp_cmd`, U8 (16). -/
def Obj.sbExpCmd : Nat := objKey (0x3A01) (0x03)
/-- `sb.exp_state`, ENUM8 (16). -/
def Obj.sbExpState : Nat := objKey (0x3A01) (0x20)
/-- `sb.exp_len`, U32 (16). -/
def Obj.sbExpLen : Nat := objKey (0x3A01) (0x21)
/-- `sb.exp_data`, OCT[sb.exp_len] (16). -/
def Obj.sbExpData : Nat := objKey (0x3A01) (0x22)
/-- `sb.bb_en`, BITS8 (16). -/
def Obj.sbBbEn : Nat := objKey (0x3A10) (0x01)
/-- `sb.bb_cmd`, U8 (16). -/
def Obj.sbBbCmd : Nat := objKey (0x3A10) (0x02)
/-- `sb.bb_state`, ENUM8 (16). -/
def Obj.sbBbState : Nat := objKey (0x3A10) (0x20)
/-- `sb.bb_missed`, U32 (16). -/
def Obj.sbBbMissed : Nat := objKey (0x3A10) (0x21)
/-- `sb.bb_slot0`, OCT[32,768] (16). -/
def Obj.sbBbSlot0 : Nat := objKey (0x3A10) (0x22)
/-- `sb.bb_slot1`, OCT[32,768] (16). -/
def Obj.sbBbSlot1 : Nat := objKey (0x3A10) (0x23)
/-- `sb.ret_src`, U8 (16). -/
def Obj.sbRetSrc : Nat := objKey (0x3A20) (0x01)
/-- `sb.ret[c]`, U32 (16). -/
def Obj.sbRet (c : Nat) : Nat := objKey (0x3A20) (0x20 + c)
/-- `sb.ret_04[i]`, U32 (16). -/
def Obj.sbRet04 (i : Nat) : Nat := objKey (0x3A20) (0x40 + i)
/-- `sb.lost_04[i]`, U32 (16). -/
def Obj.sbLost04 (i : Nat) : Nat := objKey (0x3A20) (0x50 + i)
/-- `sb.lost_sub[h]`, U32 (16). -/
def Obj.sbLostSub (h : Nat) : Nat := objKey (0x3A20) (0x60 + h)
/-- `collie.en`, BOOL (17). -/
def Obj.collieEn : Nat := objKey (0x3C00) (0x01)
/-- `collie.open`, U16 (17). -/
def Obj.collieOpen : Nat := objKey (0x3C00) (0x02)
/-- `collie.close`, U16 (17). -/
def Obj.collieClose : Nat := objKey (0x3C00) (0x03)
/-- `collie.tasks`, BITS16 (17). -/
def Obj.collieTasks : Nat := objKey (0x3C00) (0x04)
/-- `collie.busy_max`, RND32 (17). -/
def Obj.collieBusyMax : Nat := objKey (0x3C00) (0x05)
/-- `collie.holdup_run`, BOOL (17). -/
def Obj.collieHoldupRun : Nat := objKey (0x3C00) (0x06)
/-- `collie.serve`, U32 (17). -/
def Obj.collieServe : Nat := objKey (0x3C00) (0x07)
/-- `collie.checkin`, U8 (17). -/
def Obj.collieCheckin : Nat := objKey (0x3C00) (0x08)
/-- `collie.hostbusy`, U8 (17). -/
def Obj.collieHostbusy : Nat := objKey (0x3C00) (0x09)
/-- `collie.state`, ENUM8 (17). -/
def Obj.collieState : Nat := objKey (0x3C00) (0x20)
/-- `collie.count`, U16 (17). -/
def Obj.collieCount : Nat := objKey (0x3C00) (0x21)
/-- `collie.checked`, BITS16 (17). -/
def Obj.collieChecked : Nat := objKey (0x3C00) (0x22)
/-- `collie.last_tag`, U16 (17). -/
def Obj.collieLastTag : Nat := objKey (0x3C00) (0x23)
/-- `collie.last_frame`, U32 (17). -/
def Obj.collieLastFrame : Nat := objKey (0x3C00) (0x24)
/-- `collie.last_time`, TIME48 (17). -/
def Obj.collieLastTime : Nat := objKey (0x3C00) (0x25)
/-- `collie.services`, U32 (17). -/
def Obj.collieServices : Nat := objKey (0x3C00) (0x26)
/-- `collie.expiries`, U32 (17). -/
def Obj.collieExpiries : Nat := objKey (0x3C00) (0x27)
/-- `collie.anomalies`, U32 (17). -/
def Obj.collieAnomalies : Nat := objKey (0x3C00) (0x28)
/-- `collie.busy_left`, RND32 (17). -/
def Obj.collieBusyLeft : Nat := objKey (0x3C00) (0x29)
/-- `collie.ev_cause`, ENUM8 (17). -/
def Obj.collieEvCause : Nat := objKey (0x3C00) (0x30)
/-- `collie.ev_checked`, BITS16 (17). -/
def Obj.collieEvChecked : Nat := objKey (0x3C00) (0x31)
/-- `collie.ev_missing`, BITS16 (17). -/
def Obj.collieEvMissing : Nat := objKey (0x3C00) (0x32)
/-- `collie.ev_tag`, U16 (17). -/
def Obj.collieEvTag : Nat := objKey (0x3C00) (0x33)
/-- `collie.ev_frame`, U32 (17). -/
def Obj.collieEvFrame : Nat := objKey (0x3C00) (0x34)
/-- `collie.ev_time`, TIME48 (17). -/
def Obj.collieEvTime : Nat := objKey (0x3C00) (0x35)
/-- `irq.pending`, OCT[16] (17). -/
def Obj.irqPending : Nat := objKey (0x3D02) (0x01)
/-- `irq.clear`, OCT[16] (17). -/
def Obj.irqClear : Nat := objKey (0x3D02) (0x02)
/-- `irq.claim_a`, U8 (17). -/
def Obj.irqClaimA : Nat := objKey (0x3D02) (0x03)
/-- `irq.claim_b`, U8 (17). -/
def Obj.irqClaimB : Nat := objKey (0x3D02) (0x04)
/-- `irq.last_a`, U8 (17). -/
def Obj.irqLastA : Nat := objKey (0x3D02) (0x05)
/-- `irq.last_b`, U8 (17). -/
def Obj.irqLastB : Nat := objKey (0x3D02) (0x06)
/-- `irq.last_can_a`, U8 (17). -/
def Obj.irqLastCanA : Nat := objKey (0x3D02) (0x07)
/-- `irq.last_can_b`, U8 (17). -/
def Obj.irqLastCanB : Nat := objKey (0x3D02) (0x08)
/-- `irq.spurious[t]`, U32 (17). -/
def Obj.irqSpurious (t : Nat) : Nat := objKey (0x3D02) (0x09 + t)
/-- `irq.claims`, U32 (17). -/
def Obj.irqClaims : Nat := objKey (0x3D02) (0x0D)
/-- `irq.merged`, U32 (17). -/
def Obj.irqMerged : Nat := objKey (0x3D02) (0x0E)
/-- `irq.restored`, BOOL (17). -/
def Obj.irqRestored : Nat := objKey (0x3D02) (0x0F)
/-- `key.pub`, OCT[64] (18). -/
def Obj.keyPub : Nat := objKey (0x4000) (0x01)
/-- `key.id_state`, ENUM8 (18). -/
def Obj.keyIdState : Nat := objKey (0x4000) (0x02)
/-- `key.generation`, U8 (18). -/
def Obj.keyGeneration : Nat := objKey (0x4000) (0x03)
/-- `key.owned`, BOOL (18). -/
def Obj.keyOwned : Nat := objKey (0x4000) (0x04)
/-- `key.presence`, ENUM8 (18). -/
def Obj.keyPresence : Nat := objKey (0x4000) (0x05)
/-- `key.pp_left`, RND32 (18). -/
def Obj.keyPpLeft : Nat := objKey (0x4000) (0x06)
/-- `key.pp_time`, RND32 (18). -/
def Obj.keyPpTime : Nat := objKey (0x4000) (0x07)
/-- `key.img_pub`, OCT[64] (18). -/
def Obj.keyImgPub : Nat := objKey (0x4000) (0x08)
/-- `key.rejects`, U32 (18). -/
def Obj.keyRejects : Nat := objKey (0x4000) (0x09)
/-- `key.status`, BITS8 (18). -/
def Obj.keyStatus : Nat := objKey (0x4000) (0x0A)
/-- `key.snap_nonce`, OCT[8] (18). -/
def Obj.keySnapNonce : Nat := objKey (0x4003) (0x01)
/-- `key.snap_cmd`, U8 (18). -/
def Obj.keySnapCmd : Nat := objKey (0x4003) (0x02)
/-- `key.snap_state`, ENUM8 (18). -/
def Obj.keySnapState : Nat := objKey (0x4003) (0x20)
/-- `key.snap_data`, OCT[2,144] (18). -/
def Obj.keySnapData : Nat := objKey (0x4003) (0x21)
/-- `img.cmd`, U8 (18). -/
def Obj.imgCmd : Nat := objKey (0x4100) (0x01)
/-- `img.activate`, U8 (18). -/
def Obj.imgActivate : Nat := objKey (0x4100) (0x02)
/-- `img.stage_bank`, U8 (18). -/
def Obj.imgStageBank : Nat := objKey (0x4100) (0x20)
/-- `img.state`, ENUM8 (18). -/
def Obj.imgState : Nat := objKey (0x4100) (0x21)
/-- `img.result`, ENUM8 (18). -/
def Obj.imgResult : Nat := objKey (0x4100) (0x22)
/-- `img.result_entry`, U16 (18). -/
def Obj.imgResultEntry : Nat := objKey (0x4100) (0x23)
/-- `img.pending`, U8 (18). -/
def Obj.imgPending : Nat := objKey (0x4100) (0x24)
/-- `img.version`, U32 (18). -/
def Obj.imgVersion : Nat := objKey (0x4100) (0x25)
/-- `img.act_seq`, U32 (18). -/
def Obj.imgActSeq : Nat := objKey (0x4100) (0x26)
/-- `img.digest`, OCT[32] (18). -/
def Obj.imgDigest : Nat := objKey (0x4100) (0x27)
/-- `img.stage_digest`, OCT[32] (18). -/
def Obj.imgStageDigest : Nat := objKey (0x4100) (0x28)
/-- `chg.stored`, QCODE (19). -/
def Obj.chgStored : Nat := objKey (0x4400) (0x01)
/-- `chg.in_charge`, QCODE (19). -/
def Obj.chgInCharge : Nat := objKey (0x4400) (0x02)
/-- `chg.out_holdup`, QCODE (19). -/
def Obj.chgOutHoldup : Nat := objKey (0x4400) (0x03)
/-- `chg.out_exercise`, QCODE (19). -/
def Obj.chgOutExercise : Nat := objKey (0x4400) (0x04)
/-- `chg.out_selfdis`, QCODE (19). -/
def Obj.chgOutSelfdis : Nat := objKey (0x4400) (0x05)
/-- `chg.base`, QCODE (19). -/
def Obj.chgBase : Nat := objKey (0x4400) (0x06)
/-- `chg.balance`, QCODE (19). -/
def Obj.chgBalance : Nat := objKey (0x4400) (0x07)
/-- `chg.gen`, U32 (19). -/
def Obj.chgGen : Nat := objKey (0x4400) (0x08)
/-- `budget.en`, BOOL (19). -/
def Obj.budgetEn : Nat := objKey (0x4410) (0x01)
/-- `budget.grant`, U32 (19). -/
def Obj.budgetGrant : Nat := objKey (0x4410) (0x02)
/-- `budget.init_grant`, U32 (19). -/
def Obj.budgetInitGrant : Nat := objKey (0x4410) (0x03)
/-- `budget.free`, U32 (19). -/
def Obj.budgetFree : Nat := objKey (0x4410) (0x04)
/-- `budget.allocated`, U32 (19). -/
def Obj.budgetAllocated : Nat := objKey (0x4410) (0x05)
/-- `budget.state`, ENUM8 (19). -/
def Obj.budgetState : Nat := objKey (0x4410) (0x06)
/-- `budget.gen`, U32 (19). -/
def Obj.budgetGen : Nat := objKey (0x4410) (0x07)
/-- `ev.total`, U64 (19). -/
def Obj.evTotal : Nat := objKey (0x4420) (0x01)
/-- `ledger.commit_rounds`, U16 (19). -/
def Obj.ledgerCommitRounds : Nat := objKey (0x4420) (0x02)
/-- `ledger.status`, BITS8 (19). -/
def Obj.ledgerStatus : Nat := objKey (0x4420) (0x03)
/-- `ledger.violations`, U32 (19). -/
def Obj.ledgerViolations : Nat := objKey (0x4420) (0x04)
/-- `ledger.closes`, U32 (19). -/
def Obj.ledgerCloses : Nat := objKey (0x4420) (0x05)
/-- `ledger.inflight`, U16 (19). -/
def Obj.ledgerInflight : Nat := objKey (0x4420) (0x06)
/-- `can[p].en`, BOOL (20). -/
def Obj.canEn (p : Nat) : Nat := objKey (0x4800 + p) (0x01)
/-- `can[p].nbr`, ENUM8 (20). -/
def Obj.canNbr (p : Nat) : Nat := objKey (0x4800 + p) (0x02)
/-- `can[p].dbr`, ENUM8 (20). -/
def Obj.canDbr (p : Nat) : Nat := objKey (0x4800 + p) (0x03)
/-- `can[p].nsp`, U8 (20). -/
def Obj.canNsp (p : Nat) : Nat := objKey (0x4800 + p) (0x04)
/-- `can[p].dsp`, U8 (20). -/
def Obj.canDsp (p : Nat) : Nat := objKey (0x4800 + p) (0x05)
/-- `can[p].tdc`, BOOL (20). -/
def Obj.canTdc (p : Nat) : Nat := objKey (0x4800 + p) (0x06)
/-- `can[p].notify_dst`, U8 (20). -/
def Obj.canNotifyDst (p : Nat) : Nat := objKey (0x4800 + p) (0x07)
/-- `can[p].state`, ENUM8 (20). -/
def Obj.canState (p : Nat) : Nat := objKey (0x4800 + p) (0x20)
/-- `can[p].tec`, U8 (20). -/
def Obj.canTec (p : Nat) : Nat := objKey (0x4800 + p) (0x21)
/-- `can[p].rec`, U8 (20). -/
def Obj.canRec (p : Nat) : Nat := objKey (0x4800 + p) (0x22)
/-- `can[p].rx`, U32 (20). -/
def Obj.canRx (p : Nat) : Nat := objKey (0x4800 + p) (0x23)
/-- `can[p].tx`, U32 (20). -/
def Obj.canTx (p : Nat) : Nat := objKey (0x4800 + p) (0x24)
/-- `can[p].errors`, U32 (20). -/
def Obj.canErrors (p : Nat) : Nat := objKey (0x4800 + p) (0x25)
/-- `can[p].busoffs`, U32 (20). -/
def Obj.canBusoffs (p : Nat) : Nat := objKey (0x4800 + p) (0x26)
/-- `can[p].ignored`, U32 (20). -/
def Obj.canIgnored (p : Nat) : Nat := objKey (0x4800 + p) (0x27)
/-- `can[p].notify_q`, U8 (20). -/
def Obj.canNotifyQ (p : Nat) : Nat := objKey (0x4800 + p) (0x28)
/-- `can[p].replays`, U32 (20). -/
def Obj.canReplays (p : Nat) : Nat := objKey (0x4800 + p) (0x29)
/-- `spi[p].frames`, U32 (20). -/
def Obj.spiFrames (p : Nat) : Nat := objKey (0x4810 + p) (0x20)
/-- `spi[p].frame_err`, U32 (20). -/
def Obj.spiFrameErr (p : Nat) : Nat := objKey (0x4810 + p) (0x21)
/-- `spi[p].busy`, U32 (20). -/
def Obj.spiBusy (p : Nat) : Nat := objKey (0x4810 + p) (0x22)
/-- `spi[p].replays`, U32 (20). -/
def Obj.spiReplays (p : Nat) : Nat := objKey (0x4810 + p) (0x23)
/-- `lop.node_id`, U8 (20). -/
def Obj.lopNodeId : Nat := objKey (0x4830) (0x01)
/-- `lop.node_pins`, U8 (20). -/
def Obj.lopNodePins : Nat := objKey (0x4830) (0x02)
/-- `lop.node_off`, U8 (20). -/
def Obj.lopNodeOff : Nat := objKey (0x4830) (0x03)
/-- `lb.x.depth`, ENUM8 (22). -/
def Obj.lbDepth (x : Nat) : Nat := objKey (0x7C00 + x) (0x01)
/-- `lb.x.count`, U16 (22). -/
def Obj.lbCount (x : Nat) : Nat := objKey (0x7C00 + x) (0x02)
/-- `lb.x.sel`, U8 (22). -/
def Obj.lbSel (x : Nat) : Nat := objKey (0x7C00 + x) (0x03)
/-- `lb.x.cmd`, U8 (22). -/
def Obj.lbCmd (x : Nat) : Nat := objKey (0x7C00 + x) (0x04)
/-- `lb.x.state`, ENUM8 (22). -/
def Obj.lbState (x : Nat) : Nat := objKey (0x7C00 + x) (0x20)
/-- `lb.x.done`, U32 (22). -/
def Obj.lbDone (x : Nat) : Nat := objKey (0x7C00 + x) (0x21)
/-- `lb.x.errors`, U32 (22). -/
def Obj.lbErrors (x : Nat) : Nat := objKey (0x7C00 + x) (0x22)
/-- `lb.x.value`, S32 (22). -/
def Obj.lbValue (x : Nat) : Nat := objKey (0x7C00 + x) (0x23)
/-- `test.bscan_en`, BOOL (22). -/
def Obj.testBscanEn : Nat := objKey (0x7C00) (0x01)
/-- `test.active`, U8 (22). -/
def Obj.testActive : Nat := objKey (0x7C00) (0x20)
/-- `test.runs`, U32 (22). -/
def Obj.testRuns : Nat := objKey (0x7C00) (0x21)
/-- `test.bscan`, ENUM8 (22). -/
def Obj.testBscan : Nat := objKey (0x7C00) (0x22)
/-- `test.lock`, BOOL (22). -/
def Obj.testLock : Nat := objKey (0x7C00) (0x23)
/-- `frame.carry[c]`, U32 (02). -/
def Obj.frameCarry (c : Nat) : Nat := objKey (0x0111) (0x01 + c)
/-- `est.r[t][i]`, U16 (11). -/
def Obj.estR (i : Nat) : Nat := objKey (0x3102) (0x01 + i)
/-- `est.ocv[i]`, U16 (11). -/
def Obj.estOcv (i : Nat) : Nat := objKey (0x3103) (0x01 + i)
/-- `th.ro[i]`, TCODE (12). -/
def Obj.thRo (i : Nat) : Nat := objKey (0x3202) (0x01 + i)
/-- `hk.value[i]`, S32 (12). -/
def Obj.hkValue (i : Nat) : Nat := objKey (0x3240) (0x01 + i)
/-- `hk.rounds`, U32 (12). -/
def Obj.hkRounds : Nat := objKey (0x3241) (0x01)
/-- `hk.cal_fails`, U32 (12). -/
def Obj.hkCalFails : Nat := objKey (0x3241) (0x02)
/-- `hk.cal_run`, U16 (12). -/
def Obj.hkCalRun : Nat := objKey (0x3241) (0x03)
/-- `irq.src[i]`, BITS8 (17). -/
def Obj.irqSrc (i : Nat) : Nat := objKey (0x3D00) (0x01 + i)
/-- `irq.holdoff[g]`, U16 (17). -/
def Obj.irqHoldoff (g : Nat) : Nat := objKey (0x3D01) (0x01 + g)
/-- `irq.holdoff_left[g]`, U16 (17). -/
def Obj.irqHoldoffLeft (g : Nat) : Nat := objKey (0x3D01) (0x20 + g)
/-- `key.state[s]`, ENUM8 (18). -/
def Obj.keyState (s : Nat) : Nat := objKey (0x4001) (0x01 + s)
/-- `key.last[s]`, U32 (18). -/
def Obj.keyLast (s : Nat) : Nat := objKey (0x4001) (0x10 + s)
/-- `key.hwm[s]`, U32 (18). -/
def Obj.keyHwm (s : Nat) : Nat := objKey (0x4001) (0x20 + s)
/-- `key.enrolled[s]`, TIME48 (18). -/
def Obj.keyEnrolled (s : Nat) : Nat := objKey (0x4001) (0x30 + s)
/-- `key.revoke`, U8 (18). -/
def Obj.keyRevoke : Nat := objKey (0x4002) (0x01)
/-- `key.release`, U8 (18). -/
def Obj.keyRelease : Nat := objKey (0x4002) (0x02)
/-- `img.stage`, OCT[65,472] (18). -/
def Obj.imgStage : Nat := objKey (0x4101) (0x01)
/-- `img.active`, OCT[65,472] (18). -/
def Obj.imgActive : Nat := objKey (0x4102) (0x01)
/-- `nvm.scratch`, OCT[45,056] (15). -/
def Obj.nvmScratch : Nat := objKey (0x3801) (0x01)
/-- `budget.alloc[r]`, U32 (19). -/
def Obj.budgetAlloc (r : Nat) : Nat := objKey (0x4411) (0x01 + r)
/-- `budget.prio[r]`, U8 (19). -/
def Obj.budgetPrio (r : Nat) : Nat := objKey (0x4412) (0x01 + r)
/-- `budget.floor[r]`, U32 (19). -/
def Obj.budgetFloor (r : Nat) : Nat := objKey (0x4413) (0x01 + r)
/-- `uart.frames`, U32 (20). -/
def Obj.uartFrames : Nat := objKey (0x4820) (0x20)
/-- `uart.frame_err`, U32 (20). -/
def Obj.uartFrameErr : Nat := objKey (0x4820) (0x21)
/-- `uart.busy`, U32 (20). -/
def Obj.uartBusy : Nat := objKey (0x4820) (0x22)
/-- `uart.replays`, U32 (20). -/
def Obj.uartReplays : Nat := objKey (0x4820) (0x23)

/-- Dictionary rows of spec/01_device_organisation.md. -/
def rows01 : List Row := [
  ⟨0x0000, 1, 0x01, 1, 1, .u16, .ro, .none, 0, 65535, none, (.val 256), false⟩,
  ⟨0x0000, 1, 0x02, 1, 1, .u16, .ro, .none, 0, 65535, none, (.val 585), false⟩,
  ⟨0x0000, 1, 0x03, 1, 1, .u32, .ro, .none, 0, 4294967295, none, (.val 1503985665), false⟩,
  ⟨0x0000, 1, 0x04, 1, 1, .u8, .ro, .none, 0, 255, none, (.val 0), false⟩,
  ⟨0x0001, 1, 0x01, 1, 1, .enum8, .ro, .none, 0, 255, none, (.val 1), false⟩,
  ⟨0x0001, 1, 0x02, 1, 1, .u8, .ro, .none, 0, 255, none, (.val 1), false⟩,
  ⟨0x0001, 1, 0x03, 1, 1, .u64, .ro, .none, 0, 18446744073709551615, none, (.val 0), false⟩,
  ⟨0x0001, 1, 0x04, 1, 1, .u16, .ro, .none, 0, 65535, none, (.val 22949), false⟩,
  ⟨0x0010, 1, 0x01, 1, 1, .enum8, .ro, .none, 0, 255, none, (.val 2), false⟩,
  ⟨0x0010, 1, 0x02, 1, 1, .enum8, .rw, .nextFrame, 3, 4, none, (.val 3), false⟩,
  ⟨0x0010, 1, 0x03, 1, 1, .enum8, .ro, .none, 0, 255, none, (.val 0), false⟩,
  ⟨0x0010, 1, 0x04, 1, 1, .enum8, .ro, .none, 0, 255, none, (.val 255), false⟩,
  ⟨0x0010, 1, 0x05, 1, 1, .u32, .ro, .none, 0, 4294967295, none, (.val 0), true⟩,
  ⟨0x0010, 1, 0x06, 1, 1, .u32, .ro, .none, 0, 4294967295, none, (.val 0), true⟩,
  ⟨0x0010, 1, 0x07, 1, 1, .bits16, .ro, .none, 0, 65535, none, (.val 0), false⟩,
  ⟨0x0010, 1, 0x08, 1, 1, .u16, .ro, .none, 0, 65535, none, (.val 0), false⟩,
  ⟨0x0010, 1, 0x09, 1, 1, .time48, .ro, .none, 0, 281474976710655, none, (.val 0), false⟩,
  ⟨0x0010, 1, 0x0A, 1, 1, .bool, .rws, .nextActivation, 0, 1, none, (.val 0), false⟩,
  ⟨0x0010, 1, 0x0B, 1, 1, .u8, .wok, .immediate, 1, 1, none, (.val 0), false⟩,
  ⟨0x0010, 1, 0x0C, 1, 1, .u8, .wok, .immediate, 1, 1, none, (.val 0), false⟩,
  ⟨0x0010, 1, 0x0D, 1, 1, .u8, .wok, .immediate, 0, 1, none, (.val 0), false⟩]
/-- Dictionary rows of spec/02_frame_and_clocks.md. -/
def rows02 : List Row := [
  ⟨0x0100, 1, 0x01, 1, 1, .enum8, .rws, .nextRound, 0, 1, none, (.val 0), false⟩,
  ⟨0x0100, 1, 0x02, 1, 1, .u16, .rws, .nextRound, 100, 4000, none, (.val 400), false⟩,
  ⟨0x0100, 1, 0x03, 1, 1, .u16, .rws, .nextRound, 0, 1000, none, (.val 10), false⟩,
  ⟨0x0100, 1, 0x04, 1, 1, .u8, .rws, .nextRound, 5, 50, none, (.val 50), false⟩,
  ⟨0x0100, 1, 0x05, 1, 1, .bool, .rws, .nextRound, 0, 1, none, (.val 0), false⟩,
  ⟨0x0100, 1, 0x06, 1, 1, .u16, .rws, .nextRound, 100, 4000, none, (.val 400), false⟩,
  ⟨0x0100, 1, 0x07, 1, 1, .u16, .rws, .nextRound, 0, 65535, none, (.val 0), false⟩,
  ⟨0x0101, 1, 0x01, 1, 1, .enum8, .ro, .none, 0, 255, none, (.val 0), false⟩,
  ⟨0x0101, 1, 0x02, 1, 1, .u32, .ro, .none, 0, 4294967295, none, (.val 0), false⟩,
  ⟨0x0101, 1, 0x03, 1, 1, .u32, .ro, .none, 0, 4294967295, none, (.val 0), false⟩,
  ⟨0x0101, 1, 0x04, 1, 1, .s16, .ro, .none, (-32768), 32767, none, (.val 0), false⟩,
  ⟨0x0101, 1, 0x05, 1, 1, .s16, .ro, .none, (-32768), 32767, none, (.val 0), false⟩,
  ⟨0x0101, 1, 0x06, 1, 1, .u32, .ro, .none, 0, 4294967295, none, (.val 0), true⟩,
  ⟨0x0101, 1, 0x07, 1, 1, .u32, .ro, .none, 0, 4294967295, none, (.val 0), true⟩,
  ⟨0x0101, 1, 0x08, 1, 1, .bits8, .ro, .none, 0, 255, none, (.val 0), false⟩,
  ⟨0x0110, 1, 0x01, 1, 1, .u32, .ro, .none, 0, 4294967295, none, (.val 0), false⟩,
  ⟨0x0110, 1, 0x02, 1, 1, .u32, .ro, .none, 0, 4294967295, none, (.val 0), false⟩,
  ⟨0x0120, 1, 0x01, 1, 1, .u32, .ro, .none, 0, 4294967295, none, (.val 0), true⟩,
  ⟨0x0120, 1, 0x02, 1, 1, .u8, .ro, .none, 0, 255, none, (.val 255), true⟩,
  ⟨0x0120, 1, 0x03, 1, 1, .u16, .ro, .none, 0, 65535, none, (.val 0), true⟩,
  ⟨0x0120, 1, 0x04, 1, 1, .u32, .ro, .none, 0, 4294967295, none, (.val 0), true⟩,
  ⟨0x0120, 1, 0x05, 1, 1, .bits16, .ro, .none, 0, 65535, none, (.val 0), true⟩,
  ⟨0x0120, 1, 0x06, 1, 1, .u8, .ro, .none, 0, 255, none, (.val 255), true⟩,
  ⟨0x0120, 1, 0x07, 1, 1, .time48, .ro, .none, 0, 281474976710655, none, (.val 0), true⟩,
  ⟨0x0140, 6, 0x01, 1, 1, .enum8, .ro, .none, 0, 255, none, (.val 0), false⟩,
  ⟨0x0140, 6, 0x02, 1, 1, .u32, .ro, .none, 0, 4294967295, none, (.val 0), false⟩,
  ⟨0x0140, 6, 0x03, 1, 1, .u32, .ro, .none, 0, 4294967295, none, (.val 0), false⟩,
  ⟨0x0140, 6, 0x04, 1, 1, .u32, .ro, .none, 0, 4294967295, none, (.val 0), false⟩,
  ⟨0x0140, 6, 0x05, 1, 1, .u8, .ro, .none, 0, 255, none, (.val 0), false⟩,
  ⟨0x0111, 1, 0x01, 1, 12, .u32, .ro, .none, 0, 4294967295, none, (.val 0), false⟩]
/-- Dictionary rows of spec/03_phase_control.md. -/
def rows03 : List Row := [
  ⟨0x1000, 48, 0x01, 1, 1, .u16, .rws, .nextFrame, 200, 1000, none, (.val 500), false⟩,
  ⟨0x1000, 48, 0x02, 1, 1, .icode, .rws, .nextFrame, 1000, 200000, none, (.val 90000), false⟩,
  ⟨0x1000, 48, 0x03, 1, 1, .icode, .rws, .nextFrame, 1000, 250000, none, (.val 110000), false⟩,
  ⟨0x1000, 48, 0x04, 1, 1, .icode, .rws, .nextFrame, (-60000), (-1000), none, (.val (-20000)), false⟩,
  ⟨0x1000, 48, 0x05, 1, 1, .u8, .rws, .nextFrame, 8, 32, none, (.val 12), false⟩,
  ⟨0x1000, 48, 0x06, 1, 1, .u8, .rws, .nextFrame, 16, 80, none, (.val 16), false⟩,
  ⟨0x1000, 48, 0x07, 1, 1, .u8, .rws, .nextFrame, 24, 160, none, (.val 24), false⟩,
  ⟨0x1000, 48, 0x08, 1, 1, .u16, .rws, .nextFrame, 200, 65000, none, (.val 1500), false⟩,
  ⟨0x1000, 48, 0x09, 1, 1, .u8, .rws, .nextRound, 30, 150, none, (.val 75), false⟩,
  ⟨0x1000, 48, 0x0A, 1, 1, .u16, .rws, .nextRound, 0, 4095, none, (.val 20), false⟩,
  ⟨0x1000, 48, 0x0B, 1, 1, .u16, .rws, .nextRound, 0, 4095, none, (.val 4095), false⟩,
  ⟨0x1000, 48, 0x0C, 1, 1, .enum8, .rws, .nextRound, 0, 2, none, (.val 0), false⟩,
  ⟨0x1000, 48, 0x0D, 1, 1, .u16, .rws, .nextRound, 0, 4095, none, (.val 100), false⟩,
  ⟨0x1000, 48, 0x0E, 1, 1, .s8, .rws, .nextFrame, (-32), 63, none, (.val 4), false⟩,
  ⟨0x1000, 48, 0x0F, 1, 1, .bool, .rws, .nextFrame, 0, 1, none, (.val 1), false⟩,
  ⟨0x1000, 48, 0x10, 1, 1, .icode, .rws, .nextFrame, 1000, 50000, none, (.val 5000), false⟩,
  ⟨0x1000, 48, 0x20, 1, 1, .enum8, .ro, .none, 0, 255, none, (.val 0), false⟩,
  ⟨0x1000, 48, 0x21, 1, 1, .u8, .ro, .none, 0, 255, none, (.val 255), false⟩,
  ⟨0x1000, 48, 0x22, 1, 1, .icode, .ro, .none, (-2147483648), 2147483647, none, (.val 0), false⟩,
  ⟨0x1000, 48, 0x23, 1, 1, .icode, .ro, .none, (-2147483648), 2147483647, none, (.val 0), false⟩,
  ⟨0x1000, 48, 0x24, 1, 1, .u16, .ro, .none, 0, 65535, none, (.val 1500), false⟩,
  ⟨0x1000, 48, 0x25, 1, 1, .u16, .ro, .none, 0, 65535, none, (.val 0), false⟩,
  ⟨0x1000, 48, 0x26, 1, 1, .u16, .ro, .none, 0, 65535, none, (.val 0), false⟩,
  ⟨0x1000, 48, 0x27, 1, 1, .icode, .ro, .none, (-2147483648), 2147483647, none, (.val 0), false⟩,
  ⟨0x1000, 48, 0x28, 1, 1, .u32, .ro, .none, 0, 4294967295, none, (.val 0), false⟩,
  ⟨0x1000, 48, 0x29, 1, 1, .u32, .ro, .none, 0, 4294967295, none, (.val 0), false⟩,
  ⟨0x1000, 48, 0x2A, 1, 1, .u16, .ro, .none, 0, 65535, none, (.val 0), false⟩,
  ⟨0x1000, 48, 0x2B, 1, 1, .bits16, .ro, .none, 0, 65535, none, (.val 0), false⟩,
  ⟨0x1000, 48, 0x2C, 1, 1, .u16, .ro, .none, 0, 65535, none, (.val 128), false⟩]
/-- Dictionary rows of spec/04_rail_regulation.md, part 1. -/
def rows04_0 : List Row := [
  ⟨0x1100, 12, 0x01, 1, 1, .u16, .rws, .nextFrame, 200, 2000, none, (.val 800), false⟩,
  ⟨0x1100, 12, 0x02, 1, 1, .vcode, .rw, .nextFrame, 1000, 22000, none, (.val 3200), false⟩,
  ⟨0x1100, 12, 0x03, 1, 1, .s16, .rw, .nextFrame, (-400), 400, none, (.val 0), false⟩,
  ⟨0x1100, 12, 0x04, 1, 1, .vcode, .rwk, .nextFrame, 0, 65535, none, (.val 3040), false⟩,
  ⟨0x1100, 12, 0x05, 1, 1, .vcode, .rwk, .nextFrame, 0, 65535, none, (.val 3360), false⟩,
  ⟨0x1100, 12, 0x06, 1, 1, .vcode, .rwk, .nextFrame, 0, 65535, none, (.val 3600), false⟩,
  ⟨0x1100, 12, 0x07, 1, 1, .u16, .rw, .nextFrame, 10, 50000, none, (.val 1000), false⟩,
  ⟨0x1100, 12, 0x08, 1, 1, .u16, .rw, .nextFrame, 10, 50000, none, (.val 1000), false⟩,
  ⟨0x1100, 12, 0x09, 1, 1, .u16, .rws, .nextFrame, 10, 50000, none, (.val 500), false⟩,
  ⟨0x1100, 12, 0x0A, 1, 1, .enum8, .rws, .nextFrame, 0, 1, none, (.val 0), false⟩,
  ⟨0x1100, 12, 0x0B, 1, 1, .u8, .rws, .nextFrame, 0, 1, none, .parity, false⟩,
  ⟨0x1100, 12, 0x0C, 1, 1, .u8, .rws, .nextFrame, 1, 16, none, (.val 4), false⟩,
  ⟨0x1100, 12, 0x0D, 1, 1, .u16, .rw, .nextFrame, 0, 65535, none, (.val 320), false⟩,
  ⟨0x1100, 12, 0x0E, 1, 1, .u16, .rw, .nextFrame, 0, 65535, none, (.val 32), false⟩,
  ⟨0x1100, 12, 0x0F, 1, 1, .u16, .rw, .nextFrame, 0, 65535, none, (.val 0), false⟩,
  ⟨0x1100, 12, 0x10, 1, 1, .s16, .rw, .nextFrame, (-32768), 32767, none, (.val 0), false⟩,
  ⟨0x1100, 12, 0x11, 1, 1, .u16, .rw, .nextFrame, 1, 10000, none, (.val 100), false⟩,
  ⟨0x1100, 12, 0x12, 1, 1, .enum8, .rws, .nextFrame, 0, 3, none, (.val 0), false⟩,
  ⟨0x1100, 12, 0x13, 1, 1, .u16, .rw, .nextFrame, 0, 10000, none, (.val 0), false⟩,
  ⟨0x1100, 12, 0x14, 1, 1, .u16, .rw, .nextFrame, 0, 10000, none, (.val 0), false⟩,
  ⟨0x1100, 12, 0x15, 1, 1, .u16, .rw, .nextFrame, 1, 10000, none, (.val 50), false⟩,
  ⟨0x1100, 12, 0x16, 1, 1, .icode, .rw, .nextFrame, 1000, 5000000, none, (.val 1000000), false⟩,
  ⟨0x1100, 12, 0x17, 1, 1, .u8, .rws, .nextFrame, 100, 200, none, (.val 120), false⟩,
  ⟨0x1100, 12, 0x18, 1, 1, .u16, .rw, .nextFrame, 20, 2000, none, (.val 160), false⟩,
  ⟨0x1100, 12, 0x19, 1, 1, .u16, .rw, .nextFrame, 20, 2000, none, (.val 160), false⟩,
  ⟨0x1100, 12, 0x1A, 1, 1, .u16, .rw, .nextFrame, 0, 65535, none, (.val 400), false⟩,
  ⟨0x1100, 12, 0x1B, 1, 1, .u16, .rw, .nextFrame, 0, 65535, none, (.val 200), false⟩,
  ⟨0x1100, 12, 0x1C, 1, 1, .u16, .rw, .nextFrame, 0, 65535, none, (.val 200), false⟩,
  ⟨0x1100, 12, 0x1D, 1, 1, .u16, .rw, .nextFrame, 0, 65535, none, (.val 400), false⟩,
  ⟨0x1100, 12, 0x1E, 1, 1, .u8, .rw, .nextFrame, 0, 255, none, (.val 2), false⟩,
  ⟨0x1100, 12, 0x1F, 1, 1, .u8, .rw, .nextFrame, 0, 255, none, (.val 10), false⟩,
  ⟨0x1100, 12, 0x20, 1, 1, .u8, .rw, .nextFrame, 0, 255, none, (.val 10), false⟩,
  ⟨0x1100, 12, 0x21, 1, 1, .u8, .rw, .nextFrame, 0, 255, none, (.val 20), false⟩,
  ⟨0x1100, 12, 0x22, 1, 1, .u8, .rw, .nextRound, 0, 255, none, (.val 32), false⟩,
  ⟨0x1100, 12, 0x23, 1, 1, .u8, .rw, .nextRound, 0, 127, none, (.val 40), false⟩,
  ⟨0x1100, 12, 0x24, 1, 1, .tcode, .rw, .nextRound, (-32768), 32767, none, (.val 1360), false⟩,
  ⟨0x1100, 12, 0x25, 1, 1, .u8, .rws, .nextFrame, 1, 16, none, (.val 1), false⟩,
  ⟨0x1100, 12, 0x26, 1, 1, .bool, .rw, .nextFrame, 0, 1, none, (.val 0), false⟩,
  ⟨0x1100, 12, 0x27, 1, 1, .u16, .rw, .nextFrame, 1, 1000, none, (.val 20), false⟩,
  ⟨0x1100, 12, 0x28, 1, 1, .enum8, .rws, .nextFrame, 0, 1, none, (.val 0), false⟩,
  ⟨0x1100, 12, 0x29, 1, 1, .u8, .rw, .nextFrame, 0, 255, none, (.val 10), false⟩,
  ⟨0x1100, 12, 0x2A, 1, 1, .u16, .rws, .nextFrame, 0, 65535, none, (.val 0), false⟩,
  ⟨0x1100, 12, 0x30, 1, 1, .enum8, .ro, .none, 0, 255, none, (.val 0), false⟩,
  ⟨0x1100, 12, 0x31, 1, 1, .vcode, .ro, .none, 0, 65535, none, (.val 0), false⟩,
  ⟨0x1100, 12, 0x32, 1, 1, .vcode, .ro, .none, 0, 65535, none, (.val 0), false⟩,
  ⟨0x1100, 12, 0x33, 1, 1, .vcode, .ro, .none, 0, 65535, none, (.val 0), false⟩,
  ⟨0x1100, 12, 0x34, 1, 1, .vcode, .ro, .none, 0, 65535, none, (.val 0), false⟩,
  ⟨0x1100, 12, 0x35, 1, 1, .icode, .ro, .none, (-2147483648), 2147483647, none, (.val 0), false⟩,
  ⟨0x1100, 12, 0x36, 1, 1, .icode, .ro, .none, (-2147483648), 2147483647, none, (.val 0), false⟩,
  ⟨0x1100, 12, 0x37, 1, 1, .pcode, .ro, .none, 0, 4294967295, none, (.val 0), false⟩]
/-- Dictionary rows of spec/04_rail_regulation.md, part 2. -/
def rows04_1 : List Row := [
  ⟨0x1100, 12, 0x38, 1, 1, .u8, .ro, .none, 0, 255, none, (.val 0), false⟩,
  ⟨0x1100, 12, 0x39, 1, 1, .u8, .ro, .none, 0, 255, none, (.val 0), false⟩,
  ⟨0x1100, 12, 0x3A, 1, 1, .icode, .ro, .none, (-2147483648), 2147483647, none, (.val 0), false⟩,
  ⟨0x1100, 12, 0x3B, 1, 1, .icode, .ro, .none, (-2147483648), 2147483647, none, (.val 0), false⟩,
  ⟨0x1100, 12, 0x3C, 1, 1, .s32, .ro, .none, (-2147483648), 2147483647, none, (.val 0), false⟩,
  ⟨0x1100, 12, 0x3D, 1, 1, .bits16, .ro, .none, 0, 65535, none, (.val 0), false⟩,
  ⟨0x1100, 12, 0x3E, 1, 1, .u32, .ro, .none, 0, 4294967295, none, (.val 0), false⟩,
  ⟨0x1100, 12, 0x3F, 1, 1, (.oct 48), .ro, .none, 0, 0, none, (.val 0), false⟩,
  ⟨0x1100, 12, 0x70, 1, 1, .u32, .ro, .none, 0, 4294967295, none, (.val 0), false⟩,
  ⟨0x1100, 12, 0x40, 3, 16, .u8, .rw, .nextFrame, 0, 48, none, (.val 0), false⟩,
  ⟨0x1100, 12, 0x41, 3, 16, .icode, .rw, .nextFrame, (-2147483648), 2147483647, none, (.val 0), false⟩,
  ⟨0x1100, 12, 0x42, 3, 16, .icode, .rw, .nextFrame, (-2147483648), 2147483647, none, (.val 0), false⟩,
  ⟨0x1100, 12, 0x80, 1, 48, .u8, .rws, .nextFrame, 0, 47, (some 255), (.val 255), false⟩,
  ⟨0x1100, 12, 0xB0, 1, 48, .u8, .rw, .nextRound, 0, 255, none, (.val 0), false⟩,
  ⟨0x1180, 8, 0x01, 1, 1, .u16, .rws, .nextFrame, 100, 800, none, (.val 200), false⟩,
  ⟨0x1180, 8, 0x02, 1, 1, .vcode, .rw, .nextFrame, 2400, 14400, none, (.val 7200), false⟩,
  ⟨0x1180, 8, 0x03, 1, 1, .s16, .rw, .nextFrame, (-400), 400, none, (.val 0), false⟩,
  ⟨0x1180, 8, 0x04, 1, 1, .vcode, .rwk, .nextFrame, 0, 65535, none, (.val 8000), false⟩,
  ⟨0x1180, 8, 0x05, 1, 1, .u16, .rw, .nextFrame, 10, 50000, none, (.val 500), false⟩,
  ⟨0x1180, 8, 0x06, 1, 1, .u16, .rw, .nextFrame, 500, 4000, none, (.val 4000), false⟩,
  ⟨0x1180, 8, 0x07, 1, 1, .enum8, .rws, .nextFrame, 0, 1, none, (.val 0), false⟩,
  ⟨0x1180, 8, 0x08, 1, 1, .u16, .rws, .nextFrame, 0, 65535, none, (.linear 0 25), false⟩,
  ⟨0x1180, 8, 0x09, 1, 1, .bool, .rw, .nextFrame, 0, 1, none, (.val 0), false⟩,
  ⟨0x1180, 8, 0x0A, 1, 1, .u16, .rw, .nextFrame, 50, 1000, none, (.val 300), false⟩,
  ⟨0x1180, 8, 0x0B, 1, 1, .enum8, .rws, .nextFrame, 0, 1, none, (.val 0), false⟩,
  ⟨0x1180, 8, 0x0C, 1, 1, .enum8, .rws, .nextFrame, 0, 1, none, (.val 0), false⟩,
  ⟨0x1180, 8, 0x0D, 1, 1, .u16, .rw, .nextFrame, 0, 65535, none, (.val 400), false⟩,
  ⟨0x1180, 8, 0x0E, 1, 1, .u16, .rw, .nextFrame, 0, 65535, none, (.val 200), false⟩,
  ⟨0x1180, 8, 0x0F, 1, 1, .u16, .rw, .nextFrame, 0, 65535, none, (.val 200), false⟩,
  ⟨0x1180, 8, 0x10, 1, 1, .u16, .rw, .nextFrame, 0, 65535, none, (.val 400), false⟩,
  ⟨0x1180, 8, 0x11, 1, 1, .u8, .rw, .nextFrame, 0, 255, none, (.val 2), false⟩,
  ⟨0x1180, 8, 0x12, 1, 1, .u8, .rw, .nextFrame, 0, 255, none, (.val 10), false⟩,
  ⟨0x1180, 8, 0x13, 1, 1, .u8, .rw, .nextFrame, 0, 255, none, (.val 10), false⟩,
  ⟨0x1180, 8, 0x14, 1, 1, .u8, .rw, .nextFrame, 0, 255, none, (.val 20), false⟩,
  ⟨0x1180, 8, 0x15, 1, 1, .u16, .rw, .nextFrame, 1, 1000, none, (.val 20), false⟩,
  ⟨0x1180, 8, 0x16, 1, 1, .bool, .rws, .nextFrame, 0, 1, none, (.val 0), false⟩,
  ⟨0x1180, 8, 0x30, 1, 1, .enum8, .ro, .none, 0, 255, none, (.val 0), false⟩,
  ⟨0x1180, 8, 0x31, 1, 1, .vcode, .ro, .none, 0, 65535, none, (.val 0), false⟩,
  ⟨0x1180, 8, 0x32, 1, 1, .vcode, .ro, .none, 0, 65535, none, (.val 0), false⟩,
  ⟨0x1180, 8, 0x33, 1, 1, .vcode, .ro, .none, 0, 65535, none, (.val 0), false⟩,
  ⟨0x1180, 8, 0x34, 1, 1, .vcode, .ro, .none, 0, 65535, none, (.val 0), false⟩,
  ⟨0x1180, 8, 0x35, 1, 1, .icode, .ro, .none, (-2147483648), 2147483647, none, (.val 0), false⟩,
  ⟨0x1180, 8, 0x36, 1, 1, .icode, .ro, .none, (-2147483648), 2147483647, none, (.val 0), false⟩,
  ⟨0x1180, 8, 0x37, 1, 1, .vcode, .ro, .none, 0, 65535, none, (.val 0), false⟩,
  ⟨0x1180, 8, 0x38, 1, 1, .u16, .ro, .none, 0, 65535, none, (.val 0), false⟩,
  ⟨0x1180, 8, 0x39, 1, 1, .u8, .ro, .none, 0, 255, none, (.val 0), false⟩,
  ⟨0x1180, 8, 0x3A, 1, 1, .u32, .ro, .none, 0, 4294967295, none, (.val 0), false⟩,
  ⟨0x1180, 8, 0x3B, 1, 1, .bits8, .ro, .none, 0, 255, none, (.val 0), false⟩]
/-- Dictionary rows of spec/04_rail_regulation.md. -/
def rows04 : List Row := rows04_0 ++ rows04_1
/-- Dictionary rows of spec/05_phase_health_and_spares.md. -/
def rows05 : List Row := [
  ⟨0x1200, 12, 0x01, 1, 1, .bits32, .rws, .nextFrame, 0, 4294967295, none, (.val 0), false⟩,
  ⟨0x1200, 12, 0x02, 1, 1, .bits16, .rws, .nextFrame, 0, 65535, none, (.val 0), false⟩,
  ⟨0x1200, 12, 0x03, 1, 1, .icode, .rw, .nextFrame, 1000, 20000, none, (.val 5000), false⟩,
  ⟨0x1200, 12, 0x04, 1, 1, .u8, .rw, .nextFrame, 4, 64, none, (.val 8), false⟩,
  ⟨0x1200, 12, 0x05, 1, 1, .u16, .rw, .nextFrame, 16, 1024, none, (.val 64), false⟩,
  ⟨0x1200, 12, 0x06, 1, 1, .u8, .rw, .nextFrame, 5, 100, none, (.val 25), false⟩,
  ⟨0x1200, 12, 0x07, 1, 1, .u8, .rw, .nextFrame, 1, 255, none, (.val 16), false⟩,
  ⟨0x1200, 12, 0x08, 1, 1, .u8, .rw, .nextFrame, 0, 255, none, (.val 2), false⟩,
  ⟨0x1200, 12, 0x09, 1, 1, .u8, .rw, .nextFrame, 10, 90, none, (.val 50), false⟩,
  ⟨0x1200, 12, 0x0A, 1, 1, .u8, .rw, .nextRound, 5, 50, none, (.val 30), false⟩,
  ⟨0x1200, 12, 0x0B, 1, 1, .u64, .rw, .nextRound, 1, 18446744073709551615, none, (.val 20000000000000000), false⟩,
  ⟨0x1200, 12, 0x0C, 1, 1, .u32, .rw, .nextRound, 1, 4294967295, none, (.val 20000), false⟩,
  ⟨0x1200, 12, 0x0D, 1, 1, .u32, .rw, .nextRound, 1, 4294967295, none, (.val 315360000), false⟩,
  ⟨0x1200, 12, 0x0E, 1, 1, .u8, .rw, .nextRound, 0, 100, none, (.val 40), false⟩,
  ⟨0x1200, 12, 0x0F, 1, 1, .u8, .rw, .nextRound, 0, 100, none, (.val 30), false⟩,
  ⟨0x1200, 12, 0x10, 1, 1, .u8, .rw, .nextRound, 0, 100, none, (.val 20), false⟩,
  ⟨0x1200, 12, 0x11, 1, 1, .u8, .rw, .nextRound, 0, 100, none, (.val 10), false⟩,
  ⟨0x1200, 12, 0x12, 1, 1, .u16, .rw, .nextRound, 0, 65535, none, (.val 800), false⟩,
  ⟨0x1200, 12, 0x13, 1, 1, .u8, .wok, .immediate, 0, 47, none, (.val 0), false⟩,
  ⟨0x1200, 12, 0x20, 1, 1, .u8, .ro, .none, 0, 255, none, (.val 0), false⟩,
  ⟨0x1200, 12, 0x21, 1, 1, .u8, .ro, .none, 0, 255, none, (.val 0), false⟩,
  ⟨0x1200, 12, 0x22, 1, 1, .bits32, .ro, .none, 0, 4294967295, none, (.val 0), false⟩,
  ⟨0x1200, 12, 0x23, 1, 1, .bits16, .ro, .none, 0, 65535, none, (.val 0), false⟩,
  ⟨0x1200, 12, 0x24, 1, 1, .icode, .ro, .none, (-2147483648), 2147483647, none, (.val 0), false⟩,
  ⟨0x1200, 12, 0x25, 1, 1, .u32, .ro, .none, 0, 4294967295, none, (.val 0), true⟩,
  ⟨0x1200, 12, 0x26, 1, 1, .time48, .ro, .none, 0, 281474976710655, none, (.val 0), false⟩,
  ⟨0x1240, 48, 0x01, 1, 1, .u64, .ro, .none, 0, 18446744073709551615, none, (.val 0), false⟩,
  ⟨0x1240, 48, 0x02, 1, 1, .u32, .ro, .none, 0, 4294967295, none, (.val 0), false⟩,
  ⟨0x1240, 48, 0x03, 1, 1, .u32, .ro, .none, 0, 4294967295, none, (.val 0), false⟩,
  ⟨0x1240, 48, 0x04, 1, 1, .u16, .ro, .none, 0, 65535, none, (.val 0), false⟩,
  ⟨0x1240, 48, 0x05, 1, 1, .u16, .ro, .none, 0, 65535, none, (.val 0), false⟩,
  ⟨0x1240, 48, 0x06, 1, 1, .u16, .ro, .none, 0, 65535, none, (.val 0), false⟩,
  ⟨0x1240, 48, 0x07, 1, 1, .u16, .ro, .none, 0, 65535, none, (.val 0), false⟩,
  ⟨0x1240, 48, 0x08, 1, 1, .u16, .ro, .none, 0, 65535, none, (.val 0), false⟩,
  ⟨0x1240, 48, 0x09, 1, 1, (.oct 16), .ro, .none, 0, 0, none, (.val 0), false⟩,
  ⟨0x1240, 48, 0x0A, 1, 1, .u16, .ro, .none, 0, 65535, none, (.val 0), false⟩,
  ⟨0x1240, 48, 0x0B, 1, 1, .u32, .ro, .none, 0, 4294967295, none, (.val 4294967295), false⟩,
  ⟨0x1240, 48, 0x0C, 1, 1, .bits8, .ro, .none, 0, 255, none, (.val 0), false⟩,
  ⟨0x1240, 48, 0x0D, 1, 1, .enum8, .ro, .none, 0, 255, none, (.val 0), false⟩,
  ⟨0x1240, 48, 0x0E, 1, 1, .u8, .wok, .immediate, 1, 1, none, (.val 0), false⟩]
/-- Dictionary rows of spec/06_sequencing.md, part 1. -/
def rows06_0 : List Row := [
  ⟨0x1300, 32, 0x01, 1, 1, .enum8, .rws, .nextFrame, 0, 2, none, (.val 0), false⟩,
  ⟨0x1300, 32, 0x02, 1, 1, .u16, .rws, .nextFrame, 1000, 10000, none, (.val 1000), false⟩,
  ⟨0x1300, 32, 0x03, 1, 1, .vcode, .rw, .nextFrame, 0, 65535, none, (.val 7200), false⟩,
  ⟨0x1300, 32, 0x04, 1, 1, .u16, .rw, .nextFrame, 0, 65535, none, (.val 720), false⟩,
  ⟨0x1300, 32, 0x05, 1, 1, .u16, .rw, .nextFrame, 0, 65535, none, (.val 360), false⟩,
  ⟨0x1300, 32, 0x06, 1, 1, .u16, .rw, .nextFrame, 0, 65535, none, (.val 360), false⟩,
  ⟨0x1300, 32, 0x07, 1, 1, .u16, .rw, .nextFrame, 0, 65535, none, (.val 720), false⟩,
  ⟨0x1300, 32, 0x08, 1, 1, .u8, .rw, .nextFrame, 0, 255, none, (.val 2), false⟩,
  ⟨0x1300, 32, 0x09, 1, 1, .u8, .rw, .nextFrame, 0, 255, none, (.val 10), false⟩,
  ⟨0x1300, 32, 0x0A, 1, 1, .u8, .rw, .nextFrame, 0, 255, none, (.val 10), false⟩,
  ⟨0x1300, 32, 0x0B, 1, 1, .u8, .rw, .nextFrame, 0, 255, none, (.val 20), false⟩,
  ⟨0x1300, 32, 0x0C, 1, 1, .bool, .rws, .nextFrame, 0, 1, none, (.val 0), false⟩,
  ⟨0x1300, 32, 0x0D, 1, 1, .u8, .rw, .nextFrame, 1, 255, none, (.val 4), false⟩,
  ⟨0x1300, 32, 0x0E, 1, 1, .u16, .rw, .nextFrame, 1, 1000, none, (.val 20), false⟩,
  ⟨0x1300, 32, 0x30, 1, 1, .vcode, .ro, .none, 0, 65535, none, (.val 0), false⟩,
  ⟨0x1300, 32, 0x31, 1, 1, .vcode, .ro, .none, 0, 65535, none, (.val 0), false⟩,
  ⟨0x1300, 32, 0x32, 1, 1, .vcode, .ro, .none, 0, 65535, none, (.val 0), false⟩,
  ⟨0x1300, 32, 0x33, 1, 1, .bits8, .ro, .none, 0, 255, none, (.val 0), false⟩,
  ⟨0x2000, 52, 0x01, 1, 1, .u8, .rws, .nextFrame, 0, 15, (some 255), (.val 255), false⟩,
  ⟨0x2000, 52, 0x02, 1, 1, .dur32, .rws, .nextFrame, 0, 10000000, none, (.val 0), false⟩,
  ⟨0x2000, 52, 0x03, 1, 1, .dur32, .rws, .nextFrame, 0, 10000000, none, (.val 0), false⟩,
  ⟨0x2000, 52, 0x04, 1, 4, .u8, .rws, .nextFrame, 0, 51, (some 255), (.val 255), false⟩,
  ⟨0x2000, 52, 0x08, 1, 1, .vcode, .rws, .nextFrame, 0, 65535, none, (.val 400), false⟩,
  ⟨0x2000, 52, 0x09, 1, 1, .dur32, .rws, .nextFrame, 0, 1000000, none, (.val 100), false⟩,
  ⟨0x2000, 52, 0x0A, 1, 1, .dur32, .rws, .nextFrame, 1, 10000000, none, (.val 10000), false⟩,
  ⟨0x2000, 52, 0x0B, 1, 1, .dur32, .rws, .nextFrame, 1, 10000000, none, (.val 50000), false⟩,
  ⟨0x2000, 52, 0x0C, 1, 1, .bool, .rws, .nextFrame, 0, 1, none, (.val 1), false⟩,
  ⟨0x2000, 52, 0x20, 1, 1, .enum8, .ro, .none, 0, 255, none, (.val 0), false⟩,
  ⟨0x2000, 52, 0x21, 1, 1, .u16, .ro, .none, 0, 65535, none, (.val 0), false⟩,
  ⟨0x2000, 52, 0x22, 1, 1, .dur32, .ro, .none, 0, 4294967295, none, (.val 0), false⟩,
  ⟨0x2000, 52, 0x23, 1, 1, .dur32, .ro, .none, 0, 4294967295, none, (.val 0), false⟩,
  ⟨0x2000, 52, 0x24, 1, 1, .u32, .ro, .none, 0, 4294967295, none, (.val 0), true⟩,
  ⟨0x2040, 16, 0x01, 1, 1, .u8, .rws, .nextFrame, 0, 7, none, (.val 0), false⟩,
  ⟨0x2040, 16, 0x02, 1, 1, .u8, .rws, .nextFrame, 1, 31, none, (.val 1), false⟩,
  ⟨0x2040, 16, 0x03, 1, 1, .u8, .rws, .nextFrame, 33, 63, none, (.val 63), false⟩,
  ⟨0x2040, 16, 0x20, 1, 1, (.oct 8), .ro, .none, 0, 0, none, (.val 0), false⟩,
  ⟨0x2060, 8, 0x01, 1, 1, .enum8, .rws, .nextFrame, 0, 1, none, (.val 0), false⟩,
  ⟨0x2060, 8, 0x02, 1, 1, .dur32, .rws, .nextFrame, 0, 1000000, none, (.val 1000), false⟩,
  ⟨0x2060, 8, 0x03, 1, 1, .u8, .wok, .immediate, 1, 2, none, (.val 0), false⟩,
  ⟨0x2060, 8, 0x20, 1, 1, .enum8, .ro, .none, 0, 255, none, (.val 0), false⟩,
  ⟨0x2060, 8, 0x21, 1, 1, .enum8, .ro, .none, 0, 255, none, (.val 0), false⟩,
  ⟨0x2060, 8, 0x22, 1, 1, .u32, .ro, .none, 0, 4294967295, none, (.val 0), true⟩,
  ⟨0x2080, 1, 0x01, 1, 1, .u8, .rw, .immediate, 1, 2, none, (.val 0), false⟩,
  ⟨0x2080, 1, 0x02, 1, 1, .bool, .rws, .nextActivation, 0, 1, none, (.val 1), false⟩,
  ⟨0x2080, 1, 0x03, 1, 1, .enum8, .ro, .none, 0, 255, none, (.val 0), false⟩,
  ⟨0x2080, 1, 0x04, 1, 1, .u8, .ro, .none, 0, 255, none, (.val 0), false⟩,
  ⟨0x2080, 1, 0x05, 1, 1, .bits8, .ro, .none, 0, 255, none, (.val 0), false⟩,
  ⟨0x2080, 1, 0x06, 1, 1, (.oct 8), .ro, .none, 0, 0, none, (.val 0), false⟩,
  ⟨0x2080, 1, 0x07, 1, 1, (.oct 8), .ro, .none, 0, 0, none, (.val 0), false⟩,
  ⟨0x2080, 1, 0x08, 1, 1, .bool, .ro, .none, 0, 1, none, (.val 0), false⟩]
/-- Dictionary rows of spec/06_sequencing.md, part 2. -/
def rows06_1 : List Row := [
  ⟨0x2080, 1, 0x09, 1, 1, .dur32, .ro, .none, 0, 4294967295, none, (.val 0), false⟩,
  ⟨0x2080, 1, 0x0A, 1, 1, .dur32, .ro, .none, 0, 4294967295, none, (.val 0), false⟩,
  ⟨0x2080, 1, 0x0B, 1, 1, .u32, .ro, .none, 0, 4294967295, none, (.val 0), true⟩,
  ⟨0x2090, 1, 0x01, 1, 1, .u8, .rws, .nextActivation, 0, 7, none, (.val 0), false⟩,
  ⟨0x2090, 1, 0x02, 1, 1, .bits8, .rws, .nextActivation, 0, 255, none, (.val 1), false⟩,
  ⟨0x2090, 1, 0x03, 1, 1, .bool, .rws, .nextActivation, 0, 1, none, (.val 1), false⟩,
  ⟨0x2090, 1, 0x04, 1, 1, .u8, .ro, .none, 0, 255, none, (.val 0), false⟩,
  ⟨0x2090, 1, 0x05, 1, 1, .u32, .ro, .none, 0, 4294967295, none, (.val 0), false⟩,
  ⟨0x2090, 1, 0x06, 1, 1, .dur32, .ro, .none, 0, 4294967295, none, (.val 0), false⟩,
  ⟨0x2090, 1, 0x41, 1, 31, .dur32, .rws, .nextFrame, 0, 10000000, none, (.val 0), false⟩,
  ⟨0x2090, 1, 0x61, 1, 31, .dur32, .rws, .nextFrame, 0, 10000000, none, (.val 0), false⟩]
/-- Dictionary rows of spec/06_sequencing.md. -/
def rows06 : List Row := rows06_0 ++ rows06_1
/-- Dictionary rows of spec/07_fault_marshal.md. -/
def rows07 : List Row := [
  ⟨0x2400, 256, 0x01, 1, 5, .bits16, .rwk, .nextFrame, 0, 65535, none, .react, false⟩,
  ⟨0x2400, 256, 0x06, 1, 1, .u8, .rwk, .nextFrame, 0, 255, none, (.val 0), false⟩,
  ⟨0x2400, 256, 0x07, 1, 1, .u16, .rwk, .nextFrame, 1, 65000, none, (.val 1000), false⟩,
  ⟨0x2400, 256, 0x08, 1, 1, .u16, .rw, .nextFrame, 1, 3600, none, (.val 60), false⟩,
  ⟨0x2400, 256, 0x09, 1, 1, .bool, .rwk, .nextFrame, 0, 1, none, (.val 1), false⟩,
  ⟨0x2400, 256, 0x20, 1, 1, .enum8, .ro, .none, 0, 255, none, (.val 255), false⟩,
  ⟨0x2400, 256, 0x21, 1, 1, .bits32, .rw, .immediate, 0, 4294967295, none, (.val 0), false⟩,
  ⟨0x2400, 256, 0x22, 1, 1, .bits32, .ro, .none, 0, 4294967295, none, (.val 0), false⟩,
  ⟨0x2400, 256, 0x23, 1, 1, .bits32, .ro, .none, 0, 4294967295, none, (.val 0), false⟩,
  ⟨0x2400, 256, 0x24, 1, 1, .u32, .ro, .none, 0, 4294967295, none, (.val 0), true⟩,
  ⟨0x2400, 256, 0x25, 1, 1, .u8, .ro, .none, 0, 255, none, (.val 0), false⟩,
  ⟨0x2400, 256, 0x26, 1, 1, .u8, .ro, .none, 0, 255, none, (.val 0), false⟩,
  ⟨0x2400, 256, 0x27, 1, 1, .u32, .ro, .none, 0, 4294967295, none, (.val 0), true⟩,
  ⟨0x2400, 256, 0x28, 1, 1, .u32, .ro, .none, 0, 4294967295, none, (.val 0), true⟩,
  ⟨0x2400, 256, 0x29, 1, 1, .time48, .ro, .none, 0, 281474976710655, none, (.val 0), false⟩,
  ⟨0x2400, 256, 0x2A, 1, 1, .u8, .ro, .none, 0, 255, none, (.val 255), false⟩,
  ⟨0x2400, 256, 0x40, 1, 32, .bits16, .rwk, .nextFrame, 0, 65535, none, .cls, false⟩,
  ⟨0x2400, 256, 0x60, 1, 32, .u32, .ro, .none, 0, 4294967295, none, (.val 0), true⟩,
  ⟨0x2400, 256, 0x80, 1, 32, .u32, .ro, .none, 0, 4294967295, none, (.val 0), true⟩,
  ⟨0x2500, 1, 0x01, 1, 1, .enum8, .rw, .nextFrame, 0, 5, none, (.val 2), false⟩,
  ⟨0x2500, 1, 0x02, 1, 1, .u8, .rw, .immediate, 1, 1, none, (.val 0), false⟩,
  ⟨0x2500, 1, 0x03, 1, 1, .enum8, .ro, .none, 0, 255, none, (.val 255), false⟩,
  ⟨0x2500, 1, 0x04, 1, 1, (.oct 32), .ro, .none, 0, 0, none, (.val 0), false⟩,
  ⟨0x2500, 1, 0x05, 1, 1, .bool, .ro, .none, 0, 1, none, (.val 0), false⟩,
  ⟨0x2500, 1, 0x06, 1, 1, .u32, .ro, .none, 0, 4294967295, none, (.val 0), true⟩,
  ⟨0x2500, 1, 0x07, 1, 1, .u32, .ro, .none, 0, 4294967295, none, (.val 0), true⟩,
  ⟨0x2500, 1, 0x08, 1, 1, .u32, .ro, .none, 0, 4294967295, none, (.val 0), true⟩,
  ⟨0x2500, 1, 0x09, 1, 1, .u32, .ro, .none, 0, 4294967295, none, (.val 0), false⟩,
  ⟨0x2500, 1, 0x0A, 1, 1, .u32, .ro, .none, 0, 4294967295, none, (.val 0), false⟩,
  ⟨0x2500, 1, 0x0B, 1, 1, .u32, .ro, .none, 0, 4294967295, none, (.val 0), false⟩,
  ⟨0x2500, 1, 0x0C, 1, 1, .u16, .ro, .none, 0, 65535, none, (.val 0), false⟩,
  ⟨0x2500, 1, 0x0D, 1, 1, .u16, .ro, .none, 0, 65535, none, (.val 0), false⟩,
  ⟨0x2500, 1, 0x0E, 1, 1, .u16, .ro, .none, 0, 65535, none, (.val 0), false⟩,
  ⟨0x2500, 1, 0x0F, 1, 1, .u8, .ro, .none, 0, 255, none, (.val 255), false⟩,
  ⟨0x2500, 1, 0x20, 1, 8, .u32, .ro, .none, 0, 4294967295, none, (.val 0), true⟩]
/-- Dictionary rows of spec/08_teams.md. -/
def rows08 : List Row := [
  ⟨0x2800, 1, 0x01, 1, 1, .bool, .rws, .nextActivation, 0, 1, none, (.val 0), false⟩,
  ⟨0x2800, 1, 0x02, 1, 1, .dur32, .rws, .nextActivation, 1000, 10000000, none, (.val 100000), false⟩,
  ⟨0x2800, 1, 0x03, 1, 1, .bool, .rws, .nextActivation, 0, 1, none, (.val 1), false⟩,
  ⟨0x2800, 1, 0x04, 1, 1, .u16, .rws, .nextActivation, 10, 60000, none, (.val 1000), false⟩,
  ⟨0x2800, 1, 0x05, 1, 1, .bool, .rws, .nextActivation, 0, 1, none, (.val 1), false⟩,
  ⟨0x2800, 1, 0x06, 1, 1, .u16, .rw, .nextFrame, 10, 1000, none, (.val 100), false⟩,
  ⟨0x2800, 1, 0x07, 1, 1, .u8, .wok, .immediate, 0, 1, none, (.val 0), false⟩,
  ⟨0x2800, 1, 0x08, 1, 1, .u8, .wok, .immediate, 1, 1, none, (.val 0), false⟩,
  ⟨0x2800, 1, 0x09, 1, 1, .u8, .wok, .immediate, 1, 1, none, (.val 0), false⟩,
  ⟨0x2801, 1, 0x01, 1, 1, .enum8, .ro, .none, 0, 255, none, (.val 0), false⟩,
  ⟨0x2801, 1, 0x02, 1, 1, .u8, .ro, .none, 0, 255, none, (.val 0), false⟩,
  ⟨0x2801, 1, 0x03, 1, 1, .u32, .ro, .none, 0, 4294967295, none, (.val 0), false⟩,
  ⟨0x2801, 1, 0x04, 1, 1, .enum8, .ro, .none, 0, 255, none, (.val 255), false⟩,
  ⟨0x2801, 1, 0x05, 1, 1, .bits8, .ro, .none, 0, 255, none, (.val 0), false⟩,
  ⟨0x2801, 1, 0x06, 1, 1, .enum8, .ro, .none, 0, 255, none, (.val 0), false⟩,
  ⟨0x2801, 1, 0x07, 1, 1, .u16, .ro, .none, 0, 65535, none, (.val 0), false⟩,
  ⟨0x2801, 1, 0x08, 1, 1, .u32, .ro, .none, 0, 4294967295, none, (.val 0), true⟩,
  ⟨0x2801, 1, 0x09, 1, 1, .enum8, .ro, .none, 0, 255, none, (.val 0), false⟩,
  ⟨0x2801, 1, 0x0A, 1, 1, .u16, .ro, .none, 0, 65535, none, (.val 0), false⟩,
  ⟨0x2801, 1, 0x0B, 1, 1, .time48, .ro, .none, 0, 281474976710655, none, (.val 0), false⟩,
  ⟨0x2801, 1, 0x0C, 1, 1, .u16, .ro, .none, 0, 65535, none, (.val 0), false⟩,
  ⟨0x2801, 1, 0x0D, 1, 1, .u16, .ro, .none, 0, 65535, none, (.val 0), false⟩,
  ⟨0x2801, 1, 0x0E, 1, 1, .u16, .ro, .none, 0, 65535, none, (.val 0), false⟩,
  ⟨0x2801, 1, 0x0F, 1, 1, .icode, .ro, .none, (-2147483648), 2147483647, none, (.val 0), false⟩,
  ⟨0x2802, 1, 0x01, 1, 1, .u32, .ro, .none, 0, 4294967295, none, (.val 0), true⟩,
  ⟨0x2802, 1, 0x02, 1, 1, .u32, .ro, .none, 0, 4294967295, none, (.val 0), true⟩,
  ⟨0x2802, 1, 0x03, 1, 1, .u32, .ro, .none, 0, 4294967295, none, (.val 0), true⟩,
  ⟨0x2802, 1, 0x04, 1, 1, .u32, .ro, .none, 0, 4294967295, none, (.val 0), true⟩,
  ⟨0x2802, 1, 0x05, 1, 1, .u32, .ro, .none, 0, 4294967295, none, (.val 0), true⟩,
  ⟨0x2802, 1, 0x06, 1, 1, .u32, .ro, .none, 0, 4294967295, none, (.val 0), true⟩,
  ⟨0x2802, 1, 0x07, 1, 1, .u8, .ro, .none, 0, 255, none, (.val 0), false⟩]
/-- Dictionary rows of spec/09_input_hot_swap.md. -/
def rows09 : List Row := [
  ⟨0x2C00, 1, 0x01, 1, 1, .u16, .rws, .nextFrame, 200, 2000, none, (.val 500), false⟩,
  ⟨0x2C00, 1, 0x02, 1, 1, .icode, .rws, .nextFrame, (-2147483648), 2147483647, none, (.val 60000), false⟩,
  ⟨0x2C00, 1, 0x03, 1, 1, .u16, .rw, .nextFrame, 1, 65000, none, (.val 1000), false⟩,
  ⟨0x2C00, 1, 0x04, 1, 1, .u16, .rws, .nextFrame, 100, 10000, none, (.val 1000), false⟩,
  ⟨0x2C00, 1, 0x05, 1, 1, .u16, .rws, .nextFrame, 10, 2000, none, (.val 200), false⟩,
  ⟨0x2C00, 1, 0x06, 1, 1, .u16, .rws, .nextFrame, 20, 500, none, (.val 100), false⟩,
  ⟨0x2C00, 1, 0x07, 1, 1, .dur32, .rws, .nextFrame, 1, 1000000, none, (.val 1000), false⟩,
  ⟨0x2C00, 1, 0x08, 1, 1, .u32, .rws, .nextFrame, 1000, 100000000, none, (.val 4000000), false⟩,
  ⟨0x2C00, 1, 0x09, 1, 1, .u32, .rws, .nextFrame, 0, 100000, none, (.val 10000), false⟩,
  ⟨0x2C00, 1, 0x0A, 1, 1, .u8, .rw, .nextFrame, 0, 15, none, (.val 3), false⟩,
  ⟨0x2C00, 1, 0x0B, 1, 1, .u16, .rw, .nextFrame, 100, 60000, none, (.val 1000), false⟩,
  ⟨0x2C00, 1, 0x0C, 1, 1, .u16, .rws, .nextFrame, 10, 1000, none, (.val 100), false⟩,
  ⟨0x2C00, 1, 0x0D, 1, 1, .u16, .rw, .nextFrame, 0, 65535, none, (.val 7500), false⟩,
  ⟨0x2C00, 1, 0x0E, 1, 1, .u16, .rw, .nextFrame, 0, 65535, none, (.val 4200), false⟩,
  ⟨0x2C00, 1, 0x0F, 1, 1, .u16, .rw, .nextFrame, 0, 65535, none, (.val 3800), false⟩,
  ⟨0x2C00, 1, 0x10, 1, 1, .u16, .rw, .nextFrame, 50, 500, none, (.val 200), false⟩,
  ⟨0x2C00, 1, 0x11, 1, 1, .u8, .rw, .nextFrame, 0, 255, none, (.val 2), false⟩,
  ⟨0x2C00, 1, 0x12, 1, 1, .bool, .rws, .nextActivation, 0, 1, none, (.val 1), false⟩,
  ⟨0x2C00, 1, 0x13, 1, 1, .u8, .wok, .immediate, 1, 2, none, (.val 0), false⟩,
  ⟨0x2C01, 1, 0x01, 1, 1, .enum8, .ro, .none, 0, 255, none, (.val 0), false⟩,
  ⟨0x2C01, 1, 0x02, 1, 1, .u16, .ro, .none, 0, 65535, none, (.val 0), false⟩,
  ⟨0x2C01, 1, 0x03, 1, 1, .u16, .ro, .none, 0, 65535, none, (.val 0), false⟩,
  ⟨0x2C01, 1, 0x04, 1, 1, .icode, .ro, .none, (-2147483648), 2147483647, none, (.val 0), false⟩,
  ⟨0x2C01, 1, 0x05, 1, 1, .pcode, .ro, .none, 0, 4294967295, none, (.val 0), false⟩,
  ⟨0x2C01, 1, 0x06, 1, 1, .pcode, .ro, .none, 0, 4294967295, none, (.val 0), false⟩,
  ⟨0x2C01, 1, 0x07, 1, 1, .u32, .ro, .none, 0, 4294967295, none, (.val 0), false⟩,
  ⟨0x2C01, 1, 0x08, 1, 1, .u8, .ro, .none, 0, 255, none, (.val 0), false⟩,
  ⟨0x2C01, 1, 0x09, 1, 1, .u32, .ro, .none, 0, 4294967295, none, (.val 0), true⟩,
  ⟨0x2C01, 1, 0x0A, 1, 1, .enum8, .ro, .none, 0, 255, none, (.val 0), false⟩,
  ⟨0x2C01, 1, 0x0B, 1, 1, .u32, .ro, .none, 0, 4294967295, none, (.val 0), true⟩,
  ⟨0x2C01, 1, 0x0C, 1, 1, .u32, .ro, .none, 0, 4294967295, none, (.val 0), false⟩,
  ⟨0x2C01, 1, 0x0D, 1, 1, .bits8, .ro, .none, 0, 255, none, (.val 0), false⟩,
  ⟨0x2C02, 1, 0x01, 1, 1, .u16, .rw, .nextFrame, 900, 1100, none, (.val 1000), false⟩,
  ⟨0x2C02, 1, 0x02, 1, 1, .u8, .rw, .nextFrame, 0, 255, none, (.val 2), false⟩,
  ⟨0x2C02, 1, 0x03, 1, 1, .dur32, .rw, .nextFrame, 1, 1000000, none, (.val 1000), false⟩,
  ⟨0x2C02, 1, 0x04, 1, 1, .u16, .ro, .none, 0, 65535, none, (.val 0), false⟩,
  ⟨0x2C02, 1, 0x05, 1, 1, .enum8, .ro, .none, 0, 255, none, (.val 0), false⟩,
  ⟨0x2C02, 1, 0x06, 1, 1, .u32, .ro, .none, 0, 4294967295, none, (.val 0), true⟩,
  ⟨0x2C02, 1, 0x07, 1, 1, .u32, .ro, .none, 0, 4294967295, none, (.val 0), true⟩,
  ⟨0x2C02, 1, 0x08, 1, 1, .u16, .ro, .none, 0, 65535, none, (.val 0), false⟩,
  ⟨0x2C02, 1, 0x09, 1, 1, .bits8, .ro, .none, 0, 255, none, (.val 0), false⟩]
/-- Dictionary rows of spec/10_holdup_charger.md. -/
def rows10 : List Row := [
  ⟨0x3000, 1, 0x01, 1, 1, .bool, .rws, .nextActivation, 0, 1, none, (.val 1), false⟩,
  ⟨0x3000, 1, 0x02, 1, 1, .u16, .rws, .nextActivation, 500, 6000, none, (.val 3000), false⟩,
  ⟨0x3000, 1, 0x03, 1, 1, .u16, .rws, .nextRound, 6800, 7300, none, (.val 7200), false⟩,
  ⟨0x3000, 1, 0x04, 1, 1, .u16, .rw, .nextRound, 6400, 65535, none, (.val 6750), false⟩,
  ⟨0x3000, 1, 0x05, 1, 1, .u16, .rw, .nextRound, 4600, 5600, none, (.val 5000), false⟩,
  ⟨0x3000, 1, 0x06, 1, 1, .icode, .rw, .nextRound, 100, 2000, none, (.val 2000), false⟩,
  ⟨0x3000, 1, 0x07, 1, 1, .u8, .rw, .nextRound, 0, 120, none, (.val 30), false⟩,
  ⟨0x3000, 1, 0x08, 1, 1, .u8, .rw, .nextRound, 1, 15, none, (.val 10), false⟩,
  ⟨0x3000, 1, 0x09, 1, 1, .icode, .rw, .nextFrame, 100, 4000, (some 0), (.val 0), false⟩,
  ⟨0x3000, 1, 0x0A, 1, 1, .u16, .rw, .nextFrame, 5000, 6200, none, (.val 5600), false⟩,
  ⟨0x3000, 1, 0x0B, 1, 1, .icode, .rw, .nextFrame, 1000, 20000, none, (.val 12000), false⟩,
  ⟨0x3000, 1, 0x0C, 1, 1, .tcode, .rw, .nextRound, (-32768), 32767, none, (.val 0), false⟩,
  ⟨0x3000, 1, 0x0D, 1, 1, .tcode, .rw, .nextRound, (-32768), 32767, none, (.val 720), false⟩,
  ⟨0x3000, 1, 0x0E, 1, 1, .tcode, .rw, .nextRound, (-32768), 32767, none, (.val (-320)), false⟩,
  ⟨0x3000, 1, 0x0F, 1, 1, .tcode, .rw, .nextRound, (-32768), 32767, none, (.val 960), false⟩,
  ⟨0x3000, 1, 0x10, 1, 1, .dur32, .rw, .nextFrame, 0, 60000000, none, (.val 100000), false⟩,
  ⟨0x3000, 1, 0x11, 1, 1, .u8, .rw, .immediate, 1, 1, none, (.val 0), false⟩,
  ⟨0x3000, 1, 0x12, 1, 1, .u8, .rw, .immediate, 1, 2, none, (.val 0), false⟩,
  ⟨0x3001, 1, 0x01, 1, 1, .enum8, .ro, .none, 0, 255, none, (.val 0), false⟩,
  ⟨0x3001, 1, 0x02, 1, 1, .enum8, .ro, .none, 0, 255, none, (.val 0), false⟩,
  ⟨0x3001, 1, 0x03, 1, 1, .enum8, .ro, .none, 0, 255, none, (.val 0), false⟩,
  ⟨0x3001, 1, 0x04, 1, 1, .u16, .ro, .none, 0, 65535, none, (.val 0), false⟩,
  ⟨0x3001, 1, 0x05, 1, 1, .u16, .ro, .none, 0, 65535, none, (.val 0), false⟩,
  ⟨0x3001, 1, 0x06, 1, 1, .icode, .ro, .none, (-2147483648), 2147483647, none, (.val 0), false⟩,
  ⟨0x3001, 1, 0x07, 1, 1, .icode, .ro, .none, (-2147483648), 2147483647, none, (.val 0), false⟩,
  ⟨0x3001, 1, 0x08, 1, 1, .enum8, .ro, .none, 0, 255, none, (.val 0), false⟩,
  ⟨0x3001, 1, 0x09, 1, 1, .icode, .ro, .none, (-2147483648), 2147483647, none, (.val 0), false⟩,
  ⟨0x3001, 1, 0x0A, 1, 1, .u32, .ro, .none, 0, 4294967295, none, (.val 0), false⟩,
  ⟨0x3001, 1, 0x0B, 1, 1, .u32, .ro, .none, 0, 4294967295, none, (.val 0), false⟩,
  ⟨0x3001, 1, 0x0C, 1, 1, .bits16, .ro, .none, 0, 65535, none, (.val 0), false⟩,
  ⟨0x3001, 1, 0x0D, 1, 1, .u16, .ro, .none, 0, 65535, none, (.val 0), false⟩,
  ⟨0x3001, 1, 0x0E, 1, 1, .u32, .ro, .none, 0, 4294967295, none, (.val 0), true⟩,
  ⟨0x3001, 1, 0x0F, 1, 1, .u32, .ro, .none, 0, 4294967295, none, (.val 0), true⟩,
  ⟨0x3001, 1, 0x10, 1, 1, .enum8, .ro, .none, 0, 255, none, (.val 0), false⟩,
  ⟨0x3001, 1, 0x11, 1, 1, .dur32, .ro, .none, 0, 4294967295, none, (.val 0), false⟩]
/-- Dictionary rows of spec/11_pack_estimation.md. -/
def rows11 : List Row := [
  ⟨0x3100, 1, 0x01, 1, 1, .icode, .rw, .nextRound, 100, 20000, none, (.val 2000), false⟩,
  ⟨0x3100, 1, 0x02, 1, 1, .u16, .rw, .nextRound, 100, 1000, none, (.val 150), false⟩,
  ⟨0x3100, 1, 0x03, 1, 1, .u32, .rw, .nextRound, 86400, 31536000, none, (.val 2592000), false⟩,
  ⟨0x3100, 1, 0x04, 1, 1, .u8, .rw, .nextRound, 5, 19, none, (.val 15), false⟩,
  ⟨0x3100, 1, 0x05, 1, 1, .bool, .rws, .nextFrame, 0, 1, none, (.val 0), false⟩,
  ⟨0x3100, 1, 0x06, 1, 1, .u16, .rw, .nextRound, 30, 600, none, (.val 120), false⟩,
  ⟨0x3100, 1, 0x07, 1, 1, .u8, .rw, .immediate, 1, 2, none, (.val 0), false⟩,
  ⟨0x3100, 1, 0x08, 1, 1, .u16, .rw, .nextRound, 0, 1000, none, (.val 20), false⟩,
  ⟨0x3100, 1, 0x09, 1, 1, .u8, .rw, .nextRound, 50, 100, none, (.val 80), false⟩,
  ⟨0x3100, 1, 0x0A, 1, 1, .u16, .rw, .nextRound, 10, 10000, none, (.val 1000), false⟩,
  ⟨0x3100, 1, 0x0B, 1, 1, .bool, .rw, .nextRound, 0, 1, none, (.val 1), false⟩,
  ⟨0x3101, 1, 0x01, 1, 1, .icode, .ro, .none, (-2147483648), 2147483647, none, (.val 0), false⟩,
  ⟨0x3101, 1, 0x02, 1, 1, .qcode, .ro, .none, (-9223372036854775808), 9223372036854775807, none, (.val 0), false⟩,
  ⟨0x3101, 1, 0x03, 1, 1, .qcode, .ro, .none, (-9223372036854775808), 9223372036854775807, none, (.val 0), false⟩,
  ⟨0x3101, 1, 0x04, 1, 1, .u16, .ro, .none, 0, 65535, none, (.val 65535), false⟩,
  ⟨0x3101, 1, 0x05, 1, 1, .u16, .ro, .none, 0, 65535, none, (.val 0), false⟩,
  ⟨0x3101, 1, 0x06, 1, 1, .u16, .ro, .none, 0, 65535, none, (.val 0), false⟩,
  ⟨0x3101, 1, 0x07, 1, 1, .u16, .ro, .none, 0, 65535, none, (.val 0), false⟩,
  ⟨0x3101, 1, 0x08, 1, 1, .u32, .ro, .none, 0, 4294967295, none, (.val 0), false⟩,
  ⟨0x3101, 1, 0x09, 1, 1, .bits16, .ro, .none, 0, 65535, none, (.val 0), false⟩,
  ⟨0x3101, 1, 0x0A, 1, 1, .time48, .ro, .none, 0, 281474976710655, none, (.val 0), false⟩,
  ⟨0x3101, 1, 0x0B, 1, 1, .time48, .ro, .none, 0, 281474976710655, none, (.val 0), false⟩,
  ⟨0x3101, 1, 0x0C, 1, 1, .u32, .ro, .none, 0, 4294967295, none, (.val 0), false⟩,
  ⟨0x3101, 1, 0x0D, 1, 1, .enum8, .ro, .none, 0, 255, none, (.val 0), false⟩,
  ⟨0x3101, 1, 0x0E, 1, 1, .u32, .ro, .none, 0, 4294967295, none, (.val 0), false⟩,
  ⟨0x3101, 1, 0x0F, 1, 1, .u16, .ro, .none, 0, 65535, none, (.val 0), false⟩,
  ⟨0x3101, 1, 0x10, 1, 1, .rnd32, .ro, .none, 0, 4294967295, none, (.val 0), false⟩,
  ⟨0x3101, 1, 0x11, 1, 1, .qcode, .ro, .none, (-9223372036854775808), 9223372036854775807, none, (.val 0), false⟩,
  ⟨0x3102, 1, 0x01, 1, 32, .u16, .rw, .nextRound, 10, 10000, none, .estR, false⟩,
  ⟨0x3103, 1, 0x01, 1, 8, .u16, .rws, .nextRound, 4000, 7500, none, (.table [5800, 6240, 6400, 6460, 6500, 6700, 6760, 6900]), false⟩]
/-- Dictionary rows of spec/12_thermal_housekeeping.md. -/
def rows12 : List Row := [
  ⟨0x3200, 1, 0x01, 1, 1, .tcode, .rw, .nextFrame, (-32768), 32767, none, (.val 1760), false⟩,
  ⟨0x3200, 1, 0x02, 1, 1, .tcode, .rw, .nextFrame, (-32768), 32767, none, (.val 2000), false⟩,
  ⟨0x3200, 1, 0x03, 1, 1, .bits32, .rwk, .nextFrame, 0, 4294967295, none, (.val 33554431), false⟩,
  ⟨0x3200, 1, 0x04, 1, 1, .u16, .rw, .nextFrame, 1, 1000, none, (.val 10), false⟩,
  ⟨0x3200, 1, 0x05, 1, 1, .enum8, .rws, .nextActivation, 0, 3, none, (.val 3), false⟩,
  ⟨0x3200, 1, 0x06, 1, 1, .tcode, .rw, .nextRound, 16, 480, none, (.val 80), false⟩,
  ⟨0x3200, 1, 0x07, 1, 1, .tcode, .rw, .nextRound, 80, 800, none, (.val 320), false⟩,
  ⟨0x3200, 1, 0x08, 1, 1, .u16, .rw, .nextRound, 1, 1000, none, (.val 10), false⟩,
  ⟨0x3201, 1, 0x01, 1, 1, .tcode, .ro, .none, (-32768), 32767, none, (.val 0), false⟩,
  ⟨0x3201, 1, 0x02, 1, 1, .u16, .ro, .none, 0, 65535, none, (.val 1000), false⟩,
  ⟨0x3201, 1, 0x03, 1, 1, .u16, .ro, .none, 0, 65535, none, (.val 1000), false⟩,
  ⟨0x3201, 1, 0x04, 1, 1, .u8, .ro, .none, 0, 255, none, (.val 255), false⟩,
  ⟨0x3201, 1, 0x05, 1, 1, .bits32, .ro, .none, 0, 4294967295, none, (.val 0), false⟩,
  ⟨0x3201, 1, 0x06, 1, 1, .bits8, .ro, .none, 0, 255, none, (.val 0), false⟩,
  ⟨0x3201, 1, 0x07, 1, 1, .tcode, .ro, .none, (-32768), 32767, none, (.val 0), false⟩,
  ⟨0x3201, 1, 0x08, 1, 1, .rnd32, .ro, .none, 0, 4294967295, none, (.val 0), true⟩,
  ⟨0x3201, 1, 0x09, 1, 1, .tcode, .ro, .none, (-32768), 32767, none, (.val 0), false⟩,
  ⟨0x3201, 1, 0x0A, 1, 1, .icode, .ro, .none, (-2147483648), 2147483647, none, (.val 0), false⟩,
  ⟨0x3210, 4, 0x01, 1, 1, .tcode, .rw, .nextFrame, (-32768), 32767, none, (.val 1440), false⟩,
  ⟨0x3210, 4, 0x02, 1, 1, .tcode, .rw, .nextFrame, (-32768), 32767, none, (.val 1680), false⟩,
  ⟨0x3210, 4, 0x03, 1, 1, .u16, .rws, .nextRound, 900, 1100, none, (.val 1008), false⟩,
  ⟨0x3210, 4, 0x04, 1, 1, .u16, .rws, .nextRound, 0, 1000, none, (.val 0), false⟩,
  ⟨0x3210, 4, 0x20, 1, 1, .tcode, .ro, .none, (-32768), 32767, none, (.val 0), false⟩,
  ⟨0x3220, 12, 0x01, 1, 1, .u16, .rws, .nextRound, 100, 2000, none, (.val 800), false⟩,
  ⟨0x3220, 12, 0x02, 1, 1, .u16, .rws, .nextRound, 0, 1500, none, (.val 600), false⟩,
  ⟨0x3220, 12, 0x03, 1, 1, .u16, .rws, .nextRound, 0, 65535, none, (.val 200), false⟩,
  ⟨0x3220, 12, 0x04, 1, 1, .u16, .rws, .nextRound, 0, 2000, none, (.val 1800), false⟩,
  ⟨0x3220, 12, 0x05, 1, 1, .tcode, .rw, .nextFrame, (-32768), 32767, none, (.val 1760), false⟩,
  ⟨0x3220, 12, 0x06, 1, 1, .tcode, .rw, .nextFrame, (-32768), 32767, none, (.val 2000), false⟩,
  ⟨0x3220, 12, 0x20, 1, 1, .tcode, .ro, .none, (-32768), 32767, none, (.val 0), false⟩,
  ⟨0x3202, 1, 0x01, 1, 9, .tcode, .ro, .none, (-32768), 32767, none, (.val 0), false⟩,
  ⟨0x3240, 1, 0x01, 1, 64, .s32, .ro, .none, (-2147483648), 2147483647, none, (.val 0), false⟩,
  ⟨0x3241, 1, 0x01, 1, 1, .u32, .ro, .none, 0, 4294967295, none, (.val 0), false⟩,
  ⟨0x3241, 1, 0x02, 1, 1, .u32, .ro, .none, 0, 4294967295, none, (.val 0), true⟩,
  ⟨0x3241, 1, 0x03, 1, 1, .u16, .ro, .none, 0, 65535, none, (.val 0), false⟩]
/-- Dictionary rows of spec/13_service_port.md. -/
def rows13 : List Row := [
  ⟨0x3400, 1, 0x01, 1, 1, .enum8, .rws, .nextActivation, 0, 1, none, (.val 0), false⟩,
  ⟨0x3400, 1, 0x02, 1, 1, .enum8, .rw, .nextFrame, 0, 2, none, (.val 2), false⟩,
  ⟨0x3400, 1, 0x03, 1, 1, .icode, .rw, .nextFrame, 500, 3000, none, (.val 3000), false⟩,
  ⟨0x3400, 1, 0x04, 1, 1, .enum8, .rw, .nextFrame, 0, 2, none, (.val 0), false⟩,
  ⟨0x3400, 1, 0x05, 1, 1, .bool, .rwk, .immediate, 0, 1, none, (.val 1), false⟩,
  ⟨0x3400, 1, 0x06, 1, 1, .u8, .rw, .nextFrame, 1, 15, none, (.val 3), false⟩,
  ⟨0x3400, 1, 0x07, 1, 1, .u8, .rw, .immediate, 1, 4, none, (.val 0), false⟩,
  ⟨0x3401, 1, 0x01, 1, 1, .enum8, .ro, .none, 0, 255, none, (.val 0), false⟩,
  ⟨0x3401, 1, 0x02, 1, 1, .enum8, .ro, .none, 0, 255, none, (.val 0), false⟩,
  ⟨0x3401, 1, 0x03, 1, 1, .enum8, .ro, .none, 0, 255, none, (.val 0), false⟩,
  ⟨0x3401, 1, 0x04, 1, 1, .enum8, .ro, .none, 0, 255, none, (.val 0), false⟩,
  ⟨0x3401, 1, 0x05, 1, 1, .enum8, .ro, .none, 0, 255, none, (.val 0), false⟩,
  ⟨0x3401, 1, 0x06, 1, 1, .u16, .ro, .none, 0, 65535, none, (.val 0), false⟩,
  ⟨0x3401, 1, 0x07, 1, 1, .icode, .ro, .none, (-2147483648), 2147483647, none, (.val 0), false⟩,
  ⟨0x3401, 1, 0x08, 1, 1, .u16, .ro, .none, 0, 65535, none, (.val 0), false⟩,
  ⟨0x3401, 1, 0x09, 1, 1, .icode, .ro, .none, (-2147483648), 2147483647, none, (.val 0), false⟩,
  ⟨0x3401, 1, 0x0A, 1, 1, .bits8, .ro, .none, 0, 255, none, (.val 0), false⟩,
  ⟨0x3401, 1, 0x0B, 1, 1, .u32, .ro, .none, 0, 4294967295, none, (.val 0), true⟩,
  ⟨0x3401, 1, 0x0C, 1, 1, .enum8, .ro, .none, 0, 255, none, (.val 0), false⟩,
  ⟨0x3401, 1, 0x0D, 1, 1, .u32, .ro, .none, 0, 4294967295, none, (.val 0), true⟩,
  ⟨0x3401, 1, 0x0E, 1, 1, .u32, .ro, .none, 0, 4294967295, none, (.val 0), true⟩,
  ⟨0x3401, 1, 0x0F, 1, 1, .u32, .ro, .none, 0, 4294967295, none, (.val 0), true⟩]
/-- Dictionary rows of spec/14_real_time_clock.md. -/
def rows14 : List Row := [
  ⟨0x3600, 1, 0x01, 1, 1, .enum8, .rw, .immediate, 0, 1, none, (.val 0), false⟩,
  ⟨0x3600, 1, 0x02, 1, 1, .time48, .rw, .immediate, 0, 281474976710655, none, (.val 0), false⟩,
  ⟨0x3600, 1, 0x03, 1, 1, (.oct 8), .rw, .immediate, 0, 0, none, (.val 0), false⟩,
  ⟨0x3600, 1, 0x04, 1, 1, .s16, .rw, .immediate, (-16384), 16384, none, (.val 0), false⟩,
  ⟨0x3600, 1, 0x05, 1, 1, .s8, .rw, .immediate, (-127), 127, none, (.val 0), false⟩,
  ⟨0x3600, 1, 0x06, 1, 1, .u8, .wok, .immediate, 1, 1, none, (.val 0), false⟩,
  ⟨0x3601, 1, 0x01, 1, 1, .time48, .ro, .none, 0, 281474976710655, none, (.val 0), false⟩,
  ⟨0x3601, 1, 0x02, 1, 1, (.oct 8), .ro, .none, 0, 0, none, (.val 0), false⟩,
  ⟨0x3601, 1, 0x03, 1, 1, .bits8, .ro, .none, 0, 255, none, (.val 1), false⟩,
  ⟨0x3601, 1, 0x04, 1, 1, .s16, .ro, .none, (-32768), 32767, none, (.val 0), false⟩,
  ⟨0x3601, 1, 0x05, 1, 1, .time48, .ro, .none, 0, 281474976710655, none, (.val 0), false⟩,
  ⟨0x3601, 1, 0x06, 1, 1, .u32, .ro, .none, 0, 4294967295, none, (.val 0), false⟩,
  ⟨0x3601, 1, 0x07, 1, 1, .u32, .ro, .none, 0, 4294967295, none, (.val 0), true⟩,
  ⟨0x3601, 1, 0x08, 1, 1, .u32, .ro, .none, 0, 4294967295, none, (.val 0), true⟩]
/-- Dictionary rows of spec/15_nvm_and_otp.md. -/
def rows15 : List Row := [
  ⟨0x3800, 1, 0x01, 1, 1, .u16, .rw, .nextRound, 1, 1000, none, (.val 10), false⟩,
  ⟨0x3800, 1, 0x02, 1, 1, .rnd32, .rw, .nextRound, 100000, 1000000000, none, (.val 3600000), false⟩,
  ⟨0x3800, 1, 0x03, 1, 1, .u8, .rw, .nextRound, 1, 3, none, (.val 1), false⟩,
  ⟨0x3800, 1, 0x04, 1, 1, .u8, .rw, .immediate, 1, 1, none, (.val 0), false⟩,
  ⟨0x3800, 1, 0x20, 1, 1, .u16, .ro, .none, 0, 65535, none, (.val 0), false⟩,
  ⟨0x3800, 1, 0x21, 1, 1, .enum8, .ro, .none, 0, 255, none, (.val 0), false⟩,
  ⟨0x3800, 1, 0x22, 1, 1, .u8, .ro, .none, 0, 255, none, (.val 0), false⟩,
  ⟨0x3800, 1, 0x23, 1, 1, .u32, .ro, .none, 0, 4294967295, none, (.val 0), true⟩,
  ⟨0x3800, 1, 0x24, 1, 1, .u16, .ro, .none, 0, 65535, none, (.val 0), false⟩,
  ⟨0x3800, 1, 0x25, 1, 1, .u32, .ro, .none, 0, 4294967295, none, (.val 0), false⟩,
  ⟨0x3800, 1, 0x26, 1, 1, .u32, .ro, .none, 0, 4294967295, none, (.val 0), false⟩,
  ⟨0x3800, 1, 0x27, 1, 1, .u32, .ro, .none, 0, 4294967295, none, (.val 0), false⟩,
  ⟨0x3800, 1, 0x28, 1, 1, .u32, .ro, .none, 0, 4294967295, none, (.val 4294967295), false⟩,
  ⟨0x3800, 1, 0x29, 1, 1, (.oct 64), .ro, .none, 0, 0, none, (.val 255), false⟩,
  ⟨0x3800, 1, 0x2A, 1, 1, .bits8, .ro, .none, 0, 255, none, (.val 0), false⟩,
  ⟨0x3810, 1, 0x01, 1, 1, .u8, .rw, .immediate, 0, 255, none, (.val 0), false⟩,
  ⟨0x3810, 1, 0x02, 1, 1, .u64, .rw, .immediate, 0, 18446744073709551615, none, (.val 0), false⟩,
  ⟨0x3810, 1, 0x03, 1, 1, .u8, .wok, .immediate, 1, 1, none, (.val 0), false⟩,
  ⟨0x3810, 1, 0x20, 1, 1, .enum8, .ro, .none, 0, 255, none, (.val 0), false⟩,
  ⟨0x3810, 1, 0x21, 1, 1, .bool, .ro, .none, 0, 1, none, (.val 0), false⟩,
  ⟨0x3810, 1, 0x22, 1, 1, .u16, .ro, .none, 0, 65535, none, (.val 0), false⟩,
  ⟨0x3810, 1, 0x23, 1, 1, (.oct 32), .ro, .none, 0, 0, none, (.val 0), false⟩,
  ⟨0x3810, 1, 0x24, 1, 1, .bits32, .ro, .none, 0, 4294967295, none, (.val 0), false⟩,
  ⟨0x3810, 1, 0x25, 1, 1, .bits32, .ro, .none, 0, 4294967295, none, (.val 0), false⟩,
  ⟨0x3810, 1, 0x26, 1, 1, (.oct 8), .ro, .none, 0, 0, none, (.val 0), false⟩,
  ⟨0x3810, 1, 0x27, 1, 1, .u64, .ro, .none, 0, 18446744073709551615, none, (.val 0), false⟩,
  ⟨0x3801, 1, 0x01, 1, 1, (.oct 45056), .rw, .immediate, 0, 0, none, (.val 0), false⟩]
/-- Dictionary rows of spec/16_studbook.md. -/
def rows16 : List Row := [
  ⟨0x3A00, 1, 0x01, 1, 1, .u16, .rw, .nextFrame, 0, 3600, none, (.val 10), false⟩,
  ⟨0x3A00, 1, 0x20, 1, 1, .u16, .ro, .none, 0, 65535, none, (.val 0), false⟩,
  ⟨0x3A00, 1, 0x21, 1, 1, .u8, .ro, .none, 0, 255, none, (.val 0), false⟩,
  ⟨0x3A00, 1, 0x22, 1, 1, .u32, .ro, .none, 0, 4294967295, none, (.val 0), true⟩,
  ⟨0x3A00, 1, 0x23, 1, 1, .u32, .ro, .none, 0, 4294967295, none, (.val 0), false⟩,
  ⟨0x3A00, 1, 0x24, 1, 1, .u32, .ro, .none, 0, 4294967295, none, (.val 0), true⟩,
  ⟨0x3A00, 1, 0x25, 1, 1, (.oct 262144), .ro, .none, 0, 0, none, (.val 0), false⟩,
  ⟨0x3A01, 1, 0x01, 1, 1, .u16, .rw, .immediate, 1, 8192, none, (.val 8192), false⟩,
  ⟨0x3A01, 1, 0x02, 1, 1, (.oct 8), .rw, .immediate, 0, 0, none, (.val 0), false⟩,
  ⟨0x3A01, 1, 0x03, 1, 1, .u8, .rw, .immediate, 1, 2, none, (.val 0), false⟩,
  ⟨0x3A01, 1, 0x20, 1, 1, .enum8, .ro, .none, 0, 255, none, (.val 0), false⟩,
  ⟨0x3A01, 1, 0x21, 1, 1, .u32, .ro, .none, 0, 4294967295, none, (.val 0), false⟩,
  ⟨0x3A01, 1, 0x22, 1, 1, (.oct 0), .ro, .none, 0, 0, none, (.val 0), false⟩,
  ⟨0x3A10, 1, 0x01, 1, 1, .bits8, .rw, .nextFrame, 0, 255, none, (.val 3), false⟩,
  ⟨0x3A10, 1, 0x02, 1, 1, .u8, .rw, .immediate, 1, 2, none, (.val 0), false⟩,
  ⟨0x3A10, 1, 0x20, 1, 1, .enum8, .ro, .none, 0, 255, none, (.val 0), false⟩,
  ⟨0x3A10, 1, 0x21, 1, 1, .u32, .ro, .none, 0, 4294967295, none, (.val 0), false⟩,
  ⟨0x3A10, 1, 0x22, 1, 1, (.oct 32768), .ro, .none, 0, 0, none, (.val 0), false⟩,
  ⟨0x3A10, 1, 0x23, 1, 1, (.oct 32768), .ro, .none, 0, 0, none, (.val 0), false⟩,
  ⟨0x3A20, 1, 0x01, 1, 1, .u8, .rw, .immediate, 0, 255, none, (.val 0), false⟩,
  ⟨0x3A20, 1, 0x20, 1, 32, .u32, .ro, .none, 0, 4294967295, none, (.val 0), false⟩,
  ⟨0x3A20, 1, 0x40, 1, 8, .u32, .ro, .none, 0, 4294967295, none, (.val 0), false⟩,
  ⟨0x3A20, 1, 0x50, 1, 8, .u32, .ro, .none, 0, 4294967295, none, (.val 0), false⟩,
  ⟨0x3A20, 1, 0x61, 1, 17, .u32, .ro, .none, 0, 4294967295, none, (.val 0), false⟩]
/-- Dictionary rows of spec/17_watchdogs_and_interrupts.md. -/
def rows17 : List Row := [
  ⟨0x3C00, 1, 0x01, 1, 1, .bool, .rwk, .immediate, 0, 1, none, (.val 0), false⟩,
  ⟨0x3C00, 1, 0x02, 1, 1, .u16, .rwk, .nextFrame, 0, 65534, none, (.val 10), false⟩,
  ⟨0x3C00, 1, 0x03, 1, 1, .u16, .rwk, .nextFrame, 1, 65535, none, (.val 1000), false⟩,
  ⟨0x3C00, 1, 0x04, 1, 1, .bits16, .rwk, .nextFrame, 0, 65535, none, (.val 0), false⟩,
  ⟨0x3C00, 1, 0x05, 1, 1, .rnd32, .rwk, .nextFrame, 1, 600000, none, (.val 30000), false⟩,
  ⟨0x3C00, 1, 0x06, 1, 1, .bool, .rw, .nextFrame, 0, 1, none, (.val 0), false⟩,
  ⟨0x3C00, 1, 0x07, 1, 1, .u32, .rw, .immediate, 0, 4294967295, none, (.val 0), false⟩,
  ⟨0x3C00, 1, 0x08, 1, 1, .u8, .rw, .immediate, 0, 255, none, (.val 0), false⟩,
  ⟨0x3C00, 1, 0x09, 1, 1, .u8, .rw, .immediate, 0, 1, none, (.val 0), false⟩,
  ⟨0x3C00, 1, 0x20, 1, 1, .enum8, .ro, .none, 0, 255, none, (.val 0), false⟩,
  ⟨0x3C00, 1, 0x21, 1, 1, .u16, .ro, .none, 0, 65535, none, (.val 0), false⟩,
  ⟨0x3C00, 1, 0x22, 1, 1, .bits16, .ro, .none, 0, 65535, none, (.val 0), false⟩,
  ⟨0x3C00, 1, 0x23, 1, 1, .u16, .ro, .none, 0, 65535, none, (.val 0), false⟩,
  ⟨0x3C00, 1, 0x24, 1, 1, .u32, .ro, .none, 0, 4294967295, none, (.val 0), false⟩,
  ⟨0x3C00, 1, 0x25, 1, 1, .time48, .ro, .none, 0, 281474976710655, none, (.val 0), false⟩,
  ⟨0x3C00, 1, 0x26, 1, 1, .u32, .ro, .none, 0, 4294967295, none, (.val 0), false⟩,
  ⟨0x3C00, 1, 0x27, 1, 1, .u32, .ro, .none, 0, 4294967295, none, (.val 0), true⟩,
  ⟨0x3C00, 1, 0x28, 1, 1, .u32, .ro, .none, 0, 4294967295, none, (.val 0), false⟩,
  ⟨0x3C00, 1, 0x29, 1, 1, .rnd32, .ro, .none, 0, 4294967295, none, (.val 0), false⟩,
  ⟨0x3C00, 1, 0x30, 1, 1, .enum8, .ro, .none, 0, 255, none, (.val 255), false⟩,
  ⟨0x3C00, 1, 0x31, 1, 1, .bits16, .ro, .none, 0, 65535, none, (.val 0), false⟩,
  ⟨0x3C00, 1, 0x32, 1, 1, .bits16, .ro, .none, 0, 65535, none, (.val 0), false⟩,
  ⟨0x3C00, 1, 0x33, 1, 1, .u16, .ro, .none, 0, 65535, none, (.val 0), false⟩,
  ⟨0x3C00, 1, 0x34, 1, 1, .u32, .ro, .none, 0, 4294967295, none, (.val 0), false⟩,
  ⟨0x3C00, 1, 0x35, 1, 1, .time48, .ro, .none, 0, 281474976710655, none, (.val 0), false⟩,
  ⟨0x3D02, 1, 0x01, 1, 1, (.oct 16), .ro, .none, 0, 0, none, (.val 0), false⟩,
  ⟨0x3D02, 1, 0x02, 1, 1, (.oct 16), .rw, .immediate, 0, 0, none, (.val 0), false⟩,
  ⟨0x3D02, 1, 0x03, 1, 1, .u8, .ro, .none, 0, 255, none, (.val 0), false⟩,
  ⟨0x3D02, 1, 0x04, 1, 1, .u8, .ro, .none, 0, 255, none, (.val 0), false⟩,
  ⟨0x3D02, 1, 0x05, 1, 1, .u8, .ro, .none, 0, 255, none, (.val 255), false⟩,
  ⟨0x3D02, 1, 0x06, 1, 1, .u8, .ro, .none, 0, 255, none, (.val 255), false⟩,
  ⟨0x3D02, 1, 0x07, 1, 1, .u8, .ro, .none, 0, 255, none, (.val 255), false⟩,
  ⟨0x3D02, 1, 0x08, 1, 1, .u8, .ro, .none, 0, 255, none, (.val 255), false⟩,
  ⟨0x3D02, 1, 0x09, 1, 4, .u32, .ro, .none, 0, 4294967295, none, (.val 0), false⟩,
  ⟨0x3D02, 1, 0x0D, 1, 1, .u32, .ro, .none, 0, 4294967295, none, (.val 0), false⟩,
  ⟨0x3D02, 1, 0x0E, 1, 1, .u32, .ro, .none, 0, 4294967295, none, (.val 0), false⟩,
  ⟨0x3D02, 1, 0x0F, 1, 1, .bool, .ro, .none, 0, 1, none, (.val 0), false⟩,
  ⟨0x3D00, 1, 0x01, 1, 128, .bits8, .rw, .nextFrame, 0, 63, none, .irqSrc, false⟩,
  ⟨0x3D01, 1, 0x01, 1, 16, .u16, .rw, .nextFrame, 0, 65535, none, (.val 0), false⟩,
  ⟨0x3D01, 1, 0x20, 1, 16, .u16, .ro, .none, 0, 65535, none, (.val 0), false⟩]
/-- Dictionary rows of spec/18_security_and_update.md. -/
def rows18 : List Row := [
  ⟨0x4000, 1, 0x01, 1, 1, (.oct 64), .ro, .none, 0, 0, none, (.val 0), false⟩,
  ⟨0x4000, 1, 0x02, 1, 1, .enum8, .ro, .none, 0, 255, none, (.val 0), false⟩,
  ⟨0x4000, 1, 0x03, 1, 1, .u8, .ro, .none, 0, 255, none, (.val 0), false⟩,
  ⟨0x4000, 1, 0x04, 1, 1, .bool, .ro, .none, 0, 1, none, (.val 0), false⟩,
  ⟨0x4000, 1, 0x05, 1, 1, .enum8, .ro, .none, 0, 255, none, (.val 0), false⟩,
  ⟨0x4000, 1, 0x06, 1, 1, .rnd32, .ro, .none, 0, 4294967295, none, (.val 0), false⟩,
  ⟨0x4000, 1, 0x07, 1, 1, .rnd32, .rws, .nextActivation, 60000, 3600000, none, (.val 600000), false⟩,
  ⟨0x4000, 1, 0x08, 1, 1, (.oct 64), .ro, .none, 0, 0, none, (.val 0), false⟩,
  ⟨0x4000, 1, 0x09, 1, 1, .u32, .ro, .none, 0, 4294967295, none, (.val 0), false⟩,
  ⟨0x4000, 1, 0x0A, 1, 1, .bits8, .ro, .none, 0, 255, none, (.val 0), false⟩,
  ⟨0x4003, 1, 0x01, 1, 1, (.oct 8), .rw, .immediate, 0, 0, none, (.val 0), false⟩,
  ⟨0x4003, 1, 0x02, 1, 1, .u8, .rw, .immediate, 1, 2, none, (.val 0), false⟩,
  ⟨0x4003, 1, 0x20, 1, 1, .enum8, .ro, .none, 0, 255, none, (.val 0), false⟩,
  ⟨0x4003, 1, 0x21, 1, 1, (.oct 2144), .ro, .none, 0, 0, none, (.val 0), false⟩,
  ⟨0x4100, 1, 0x01, 1, 1, .u8, .wok, .immediate, 1, 3, none, (.val 0), false⟩,
  ⟨0x4100, 1, 0x02, 1, 1, .u8, .wok, .immediate, 0, 255, none, (.val 0), false⟩,
  ⟨0x4100, 1, 0x20, 1, 1, .u8, .ro, .none, 0, 255, none, (.val 0), false⟩,
  ⟨0x4100, 1, 0x21, 1, 1, .enum8, .ro, .none, 0, 255, none, (.val 0), false⟩,
  ⟨0x4100, 1, 0x22, 1, 1, .enum8, .ro, .none, 0, 255, none, (.val 0), false⟩,
  ⟨0x4100, 1, 0x23, 1, 1, .u16, .ro, .none, 0, 65535, none, (.val 0), false⟩,
  ⟨0x4100, 1, 0x24, 1, 1, .u8, .ro, .none, 0, 255, none, (.val 254), false⟩,
  ⟨0x4100, 1, 0x25, 1, 1, .u32, .ro, .none, 0, 4294967295, none, (.val 0), false⟩,
  ⟨0x4100, 1, 0x26, 1, 1, .u32, .ro, .none, 0, 4294967295, none, (.val 0), false⟩,
  ⟨0x4100, 1, 0x27, 1, 1, (.oct 32), .ro, .none, 0, 0, none, (.val 0), false⟩,
  ⟨0x4100, 1, 0x28, 1, 1, (.oct 32), .ro, .none, 0, 0, none, (.val 0), false⟩,
  ⟨0x4001, 1, 0x01, 1, 4, .enum8, .ro, .none, 0, 255, none, (.val 0), false⟩,
  ⟨0x4001, 1, 0x10, 1, 4, .u32, .ro, .none, 0, 4294967295, none, (.val 0), false⟩,
  ⟨0x4001, 1, 0x20, 1, 4, .u32, .ro, .none, 0, 4294967295, none, (.val 0), false⟩,
  ⟨0x4001, 1, 0x30, 1, 4, .time48, .ro, .none, 0, 281474976710655, none, (.val 0), false⟩,
  ⟨0x4002, 1, 0x01, 1, 1, .u8, .wok, .immediate, 0, 3, none, (.val 0), false⟩,
  ⟨0x4002, 1, 0x02, 1, 1, .u8, .wok, .immediate, 1, 1, none, (.val 0), false⟩,
  ⟨0x4101, 1, 0x01, 1, 1, (.oct 65472), .rw, .immediate, 0, 0, none, (.val 0), false⟩,
  ⟨0x4102, 1, 0x01, 1, 1, (.oct 65472), .ro, .none, 0, 0, none, (.val 0), false⟩]
/-- Dictionary rows of spec/19_conservation.md. -/
def rows19 : List Row := [
  ⟨0x4400, 1, 0x01, 1, 1, .qcode, .ro, .none, (-9223372036854775808), 9223372036854775807, none, (.val 0), false⟩,
  ⟨0x4400, 1, 0x02, 1, 1, .qcode, .ro, .none, (-9223372036854775808), 9223372036854775807, none, (.val 0), false⟩,
  ⟨0x4400, 1, 0x03, 1, 1, .qcode, .ro, .none, (-9223372036854775808), 9223372036854775807, none, (.val 0), false⟩,
  ⟨0x4400, 1, 0x04, 1, 1, .qcode, .ro, .none, (-9223372036854775808), 9223372036854775807, none, (.val 0), false⟩,
  ⟨0x4400, 1, 0x05, 1, 1, .qcode, .ro, .none, (-9223372036854775808), 9223372036854775807, none, (.val 0), false⟩,
  ⟨0x4400, 1, 0x06, 1, 1, .qcode, .ro, .none, (-9223372036854775808), 9223372036854775807, none, (.val 0), false⟩,
  ⟨0x4400, 1, 0x07, 1, 1, .qcode, .ro, .none, (-9223372036854775808), 9223372036854775807, none, (.val 0), false⟩,
  ⟨0x4400, 1, 0x08, 1, 1, .u32, .ro, .none, 0, 4294967295, none, (.val 0), false⟩,
  ⟨0x4410, 1, 0x01, 1, 1, .bool, .rws, .nextActivation, 0, 1, none, (.val 0), false⟩,
  ⟨0x4410, 1, 0x02, 1, 1, .u32, .rwk, .immediate, 0, 1000000, none, (.val 0), false⟩,
  ⟨0x4410, 1, 0x03, 1, 1, .u32, .rws, .nextActivation, 0, 4294967295, none, (.val 0), false⟩,
  ⟨0x4410, 1, 0x04, 1, 1, .u32, .ro, .none, 0, 4294967295, none, (.val 0), false⟩,
  ⟨0x4410, 1, 0x05, 1, 1, .u32, .ro, .none, 0, 4294967295, none, (.val 0), false⟩,
  ⟨0x4410, 1, 0x06, 1, 1, .enum8, .ro, .none, 0, 255, none, (.val 0), false⟩,
  ⟨0x4410, 1, 0x07, 1, 1, .u32, .ro, .none, 0, 4294967295, none, (.val 0), false⟩,
  ⟨0x4420, 1, 0x01, 1, 1, .u64, .ro, .none, 0, 18446744073709551615, none, (.val 0), false⟩,
  ⟨0x4420, 1, 0x02, 1, 1, .u16, .rw, .nextRound, 100, 60000, none, (.val 1000), false⟩,
  ⟨0x4420, 1, 0x03, 1, 1, .bits8, .ro, .none, 0, 255, none, (.val 0), false⟩,
  ⟨0x4420, 1, 0x04, 1, 1, .u32, .ro, .none, 0, 4294967295, none, (.val 0), true⟩,
  ⟨0x4420, 1, 0x05, 1, 1, .u32, .ro, .none, 0, 4294967295, none, (.val 0), true⟩,
  ⟨0x4420, 1, 0x06, 1, 1, .u16, .ro, .none, 0, 65535, none, (.val 0), false⟩,
  ⟨0x4411, 1, 0x01, 1, 52, .u32, .rw, .immediate, 0, 1000000, none, (.val 0), false⟩,
  ⟨0x4412, 1, 0x01, 1, 52, .u8, .rws, .nextActivation, 0, 255, none, (.val 128), false⟩,
  ⟨0x4413, 1, 0x01, 1, 52, .u32, .rws, .nextActivation, 0, 4294967295, none, (.val 0), false⟩]
/-- Dictionary rows of spec/20_object_protocol.md. -/
def rows20 : List Row := [
  ⟨0x4800, 2, 0x01, 1, 1, .bool, .rws, .nextRound, 0, 1, none, (.val 1), false⟩,
  ⟨0x4800, 2, 0x02, 1, 1, .enum8, .rws, .nextRound, 0, 3, none, (.val 2), false⟩,
  ⟨0x4800, 2, 0x03, 1, 1, .enum8, .rws, .nextRound, 0, 4, none, (.val 2), false⟩,
  ⟨0x4800, 2, 0x04, 1, 1, .u8, .rws, .nextRound, 50, 90, none, (.val 80), false⟩,
  ⟨0x4800, 2, 0x05, 1, 1, .u8, .rws, .nextRound, 50, 90, none, (.val 75), false⟩,
  ⟨0x4800, 2, 0x06, 1, 1, .bool, .rws, .nextRound, 0, 1, none, (.val 1), false⟩,
  ⟨0x4800, 2, 0x07, 1, 1, .u8, .rw, .nextFrame, 0, 255, none, (.val 0), false⟩,
  ⟨0x4800, 2, 0x20, 1, 1, .enum8, .ro, .none, 0, 255, none, (.val 0), false⟩,
  ⟨0x4800, 2, 0x21, 1, 1, .u8, .ro, .none, 0, 255, none, (.val 0), false⟩,
  ⟨0x4800, 2, 0x22, 1, 1, .u8, .ro, .none, 0, 255, none, (.val 0), false⟩,
  ⟨0x4800, 2, 0x23, 1, 1, .u32, .ro, .none, 0, 4294967295, none, (.val 0), false⟩,
  ⟨0x4800, 2, 0x24, 1, 1, .u32, .ro, .none, 0, 4294967295, none, (.val 0), false⟩,
  ⟨0x4800, 2, 0x25, 1, 1, .u32, .ro, .none, 0, 4294967295, none, (.val 0), false⟩,
  ⟨0x4800, 2, 0x26, 1, 1, .u32, .ro, .none, 0, 4294967295, none, (.val 0), true⟩,
  ⟨0x4800, 2, 0x27, 1, 1, .u32, .ro, .none, 0, 4294967295, none, (.val 0), false⟩,
  ⟨0x4800, 2, 0x28, 1, 1, .u8, .ro, .none, 0, 255, none, (.val 0), false⟩,
  ⟨0x4800, 2, 0x29, 1, 1, .u32, .ro, .none, 0, 4294967295, none, (.val 0), false⟩,
  ⟨0x4810, 2, 0x20, 1, 1, .u32, .ro, .none, 0, 4294967295, none, (.val 0), false⟩,
  ⟨0x4810, 2, 0x21, 1, 1, .u32, .ro, .none, 0, 4294967295, none, (.val 0), false⟩,
  ⟨0x4810, 2, 0x22, 1, 1, .u32, .ro, .none, 0, 4294967295, none, (.val 0), false⟩,
  ⟨0x4810, 2, 0x23, 1, 1, .u32, .ro, .none, 0, 4294967295, none, (.val 0), false⟩,
  ⟨0x4830, 1, 0x01, 1, 1, .u8, .ro, .none, 0, 255, none, (.val 255), false⟩,
  ⟨0x4830, 1, 0x02, 1, 1, .u8, .ro, .none, 0, 255, none, (.val 0), false⟩,
  ⟨0x4830, 1, 0x03, 1, 1, .u8, .ro, .none, 0, 255, none, (.val 0), false⟩,
  ⟨0x4820, 1, 0x20, 1, 1, .u32, .ro, .none, 0, 4294967295, none, (.val 0), false⟩,
  ⟨0x4820, 1, 0x21, 1, 1, .u32, .ro, .none, 0, 4294967295, none, (.val 0), false⟩,
  ⟨0x4820, 1, 0x22, 1, 1, .u32, .ro, .none, 0, 4294967295, none, (.val 0), false⟩,
  ⟨0x4820, 1, 0x23, 1, 1, .u32, .ro, .none, 0, 4294967295, none, (.val 0), false⟩]
/-- Dictionary rows of spec/22_test_and_loopbacks.md, part 1. -/
def rows22_0 : List Row := [
  ⟨0x7C01, 2, 0x01, 1, 1, .enum8, .rw, .immediate, 0, 2, none, (.val 0), false⟩,
  ⟨0x7C08, 1, 0x01, 1, 1, .enum8, .rw, .immediate, 0, 2, none, (.val 0), false⟩,
  ⟨0x7C0C, 1, 0x01, 1, 1, .enum8, .rw, .immediate, 0, 0, none, (.val 0), false⟩,
  ⟨0x7C10, 1, 0x01, 1, 1, .enum8, .rw, .immediate, 0, 0, none, (.val 0), false⟩,
  ⟨0x7C11, 1, 0x01, 1, 1, .enum8, .rw, .immediate, 0, 0, none, (.val 0), false⟩,
  ⟨0x7C18, 1, 0x01, 1, 1, .enum8, .rw, .immediate, 0, 1, none, (.val 0), false⟩,
  ⟨0x7C19, 1, 0x01, 1, 1, .enum8, .rw, .immediate, 0, 0, none, (.val 0), false⟩,
  ⟨0x7C01, 2, 0x02, 1, 1, .u16, .rw, .immediate, 1, 65535, none, (.val 100), false⟩,
  ⟨0x7C08, 1, 0x02, 1, 1, .u16, .rw, .immediate, 1, 65535, none, (.val 100), false⟩,
  ⟨0x7C0C, 1, 0x02, 1, 1, .u16, .rw, .immediate, 1, 65535, none, (.val 100), false⟩,
  ⟨0x7C10, 1, 0x02, 1, 1, .u16, .rw, .immediate, 1, 65535, none, (.val 100), false⟩,
  ⟨0x7C11, 1, 0x02, 1, 1, .u16, .rw, .immediate, 1, 65535, none, (.val 100), false⟩,
  ⟨0x7C18, 1, 0x02, 1, 1, .u16, .rw, .immediate, 1, 65535, none, (.val 100), false⟩,
  ⟨0x7C19, 1, 0x02, 1, 1, .u16, .rw, .immediate, 1, 65535, none, (.val 100), false⟩,
  ⟨0x7C01, 2, 0x03, 1, 1, .u8, .rw, .immediate, 0, 255, none, (.val 0), false⟩,
  ⟨0x7C08, 1, 0x03, 1, 1, .u8, .rw, .immediate, 0, 255, none, (.val 0), false⟩,
  ⟨0x7C0C, 1, 0x03, 1, 1, .u8, .rw, .immediate, 0, 255, none, (.val 0), false⟩,
  ⟨0x7C10, 1, 0x03, 1, 1, .u8, .rw, .immediate, 0, 255, none, (.val 0), false⟩,
  ⟨0x7C11, 1, 0x03, 1, 1, .u8, .rw, .immediate, 0, 255, none, (.val 0), false⟩,
  ⟨0x7C18, 1, 0x03, 1, 1, .u8, .rw, .immediate, 0, 255, none, (.val 0), false⟩,
  ⟨0x7C19, 1, 0x03, 1, 1, .u8, .rw, .immediate, 0, 255, none, (.val 0), false⟩,
  ⟨0x7C01, 2, 0x04, 1, 1, .u8, .rw, .immediate, 1, 2, none, (.val 0), false⟩,
  ⟨0x7C08, 1, 0x04, 1, 1, .u8, .rw, .immediate, 1, 2, none, (.val 0), false⟩,
  ⟨0x7C0C, 1, 0x04, 1, 1, .u8, .rw, .immediate, 1, 2, none, (.val 0), false⟩,
  ⟨0x7C10, 1, 0x04, 1, 1, .u8, .rw, .immediate, 1, 2, none, (.val 0), false⟩,
  ⟨0x7C11, 1, 0x04, 1, 1, .u8, .rw, .immediate, 1, 2, none, (.val 0), false⟩,
  ⟨0x7C18, 1, 0x04, 1, 1, .u8, .rw, .immediate, 1, 2, none, (.val 0), false⟩,
  ⟨0x7C19, 1, 0x04, 1, 1, .u8, .rw, .immediate, 1, 2, none, (.val 0), false⟩,
  ⟨0x7C01, 2, 0x20, 1, 1, .enum8, .ro, .none, 0, 255, none, (.val 0), false⟩,
  ⟨0x7C08, 1, 0x20, 1, 1, .enum8, .ro, .none, 0, 255, none, (.val 0), false⟩,
  ⟨0x7C0C, 1, 0x20, 1, 1, .enum8, .ro, .none, 0, 255, none, (.val 0), false⟩,
  ⟨0x7C10, 1, 0x20, 1, 1, .enum8, .ro, .none, 0, 255, none, (.val 0), false⟩,
  ⟨0x7C11, 1, 0x20, 1, 1, .enum8, .ro, .none, 0, 255, none, (.val 0), false⟩,
  ⟨0x7C18, 1, 0x20, 1, 1, .enum8, .ro, .none, 0, 255, none, (.val 0), false⟩,
  ⟨0x7C19, 1, 0x20, 1, 1, .enum8, .ro, .none, 0, 255, none, (.val 0), false⟩,
  ⟨0x7C01, 2, 0x21, 1, 1, .u32, .ro, .none, 0, 4294967295, none, (.val 0), false⟩,
  ⟨0x7C08, 1, 0x21, 1, 1, .u32, .ro, .none, 0, 4294967295, none, (.val 0), false⟩,
  ⟨0x7C0C, 1, 0x21, 1, 1, .u32, .ro, .none, 0, 4294967295, none, (.val 0), false⟩,
  ⟨0x7C10, 1, 0x21, 1, 1, .u32, .ro, .none, 0, 4294967295, none, (.val 0), false⟩,
  ⟨0x7C11, 1, 0x21, 1, 1, .u32, .ro, .none, 0, 4294967295, none, (.val 0), false⟩,
  ⟨0x7C18, 1, 0x21, 1, 1, .u32, .ro, .none, 0, 4294967295, none, (.val 0), false⟩,
  ⟨0x7C19, 1, 0x21, 1, 1, .u32, .ro, .none, 0, 4294967295, none, (.val 0), false⟩,
  ⟨0x7C01, 2, 0x22, 1, 1, .u32, .ro, .none, 0, 4294967295, none, (.val 0), false⟩,
  ⟨0x7C08, 1, 0x22, 1, 1, .u32, .ro, .none, 0, 4294967295, none, (.val 0), false⟩,
  ⟨0x7C0C, 1, 0x22, 1, 1, .u32, .ro, .none, 0, 4294967295, none, (.val 0), false⟩,
  ⟨0x7C10, 1, 0x22, 1, 1, .u32, .ro, .none, 0, 4294967295, none, (.val 0), false⟩,
  ⟨0x7C11, 1, 0x22, 1, 1, .u32, .ro, .none, 0, 4294967295, none, (.val 0), false⟩,
  ⟨0x7C18, 1, 0x22, 1, 1, .u32, .ro, .none, 0, 4294967295, none, (.val 0), false⟩,
  ⟨0x7C19, 1, 0x22, 1, 1, .u32, .ro, .none, 0, 4294967295, none, (.val 0), false⟩,
  ⟨0x7C01, 2, 0x23, 1, 1, .s32, .ro, .none, (-2147483648), 2147483647, none, (.val 0), false⟩]
/-- Dictionary rows of spec/22_test_and_loopbacks.md, part 2. -/
def rows22_1 : List Row := [
  ⟨0x7C08, 1, 0x23, 1, 1, .s32, .ro, .none, (-2147483648), 2147483647, none, (.val 0), false⟩,
  ⟨0x7C0C, 1, 0x23, 1, 1, .s32, .ro, .none, (-2147483648), 2147483647, none, (.val 0), false⟩,
  ⟨0x7C10, 1, 0x23, 1, 1, .s32, .ro, .none, (-2147483648), 2147483647, none, (.val 0), false⟩,
  ⟨0x7C11, 1, 0x23, 1, 1, .s32, .ro, .none, (-2147483648), 2147483647, none, (.val 0), false⟩,
  ⟨0x7C18, 1, 0x23, 1, 1, .s32, .ro, .none, (-2147483648), 2147483647, none, (.val 0), false⟩,
  ⟨0x7C19, 1, 0x23, 1, 1, .s32, .ro, .none, (-2147483648), 2147483647, none, (.val 0), false⟩,
  ⟨0x7C00, 1, 0x01, 1, 1, .bool, .rwk, .immediate, 0, 1, none, (.val 0), false⟩,
  ⟨0x7C00, 1, 0x20, 1, 1, .u8, .ro, .none, 0, 255, none, (.val 255), false⟩,
  ⟨0x7C00, 1, 0x21, 1, 1, .u32, .ro, .none, 0, 4294967295, none, (.val 0), true⟩,
  ⟨0x7C00, 1, 0x22, 1, 1, .enum8, .ro, .none, 0, 255, none, (.val 0), false⟩,
  ⟨0x7C00, 1, 0x23, 1, 1, .bool, .ro, .none, 0, 1, none, (.val 0), false⟩]
/-- Dictionary rows of spec/22_test_and_loopbacks.md. -/
def rows22 : List Row := rows22_0 ++ rows22_1

/-- Does a row hold the object at this index and subindex? -/
def Row.holds (r : Row) (index sub : Nat) : Bool :=
  decide (r.base ≤ index ∧ index < r.base + r.count ∧ r.sub ≤ sub ∧
    sub < r.sub + r.subStep * r.subCount ∧ (sub - r.sub) % r.subStep = 0)

/-- The rows of the chapter that owns an index (the index ranges of Object Index). -/
def rowsOf (index : Nat) : List Row :=
  if index < 0x0100 then rows01
  else if index < 0x1000 then rows02
  else if index < 0x1100 then rows03
  else if index < 0x1200 then rows04
  else if index < 0x1300 then rows05
  else if index < 0x2400 then rows06
  else if index < 0x2800 then rows07
  else if index < 0x2C00 then rows08
  else if index < 0x3000 then rows09
  else if index < 0x3100 then rows10
  else if index < 0x3200 then rows11
  else if index < 0x3400 then rows12
  else if index < 0x3600 then rows13
  else if index < 0x3800 then rows14
  else if index < 0x3A00 then rows15
  else if index < 0x3C00 then rows16
  else if index < 0x4000 then rows17
  else if index < 0x4400 then rows18
  else if index < 0x4800 then rows19
  else if index < 0x7C00 then rows20
  else rows22

/-- The dictionary row of an object. -/
def dictRow (index sub : Nat) : Option Row := (rowsOf index).find? (fun r => r.holds index sub)

/-- Does the index list of R567 name this index on the LX4832? -/
def indexListed (index : Nat) : Bool := (rowsOf index).any fun r => decide (r.base ≤ index ∧ index < r.base + r.count)

/-- The indices that do not exist on the LX4824 (R1, R568). -/
def absent4824 (index : Nat) : Bool :=
  decide (0x1018 ≤ index ∧ index ≤ 0x102F) || decide (0x1106 ≤ index ∧ index ≤ 0x110B) ||
  decide (0x1206 ≤ index ∧ index ≤ 0x120B) || decide (0x1258 ≤ index ∧ index ≤ 0x126F) ||
  decide (0x2006 ≤ index ∧ index ≤ 0x200B) || decide (0x2418 ≤ index ∧ index ≤ 0x242F) ||
  decide (0x2436 ≤ index ∧ index ≤ 0x243B) || decide (0x3226 ≤ index ∧ index ≤ 0x322B)

end Sys2Proof.Machine
end

