-- ==== Sys2Proof/Machine/Sources.lean ====
section
/-!
DEFINITION. The fault sources: which classes each source has, their base levels, studbook codes and interrupt
sources (the source tables of R62, R102, R154, R187, R219, R293, R314, R347, R372, R392, R414, R452, R489, R524 and
R544), the default reaction words of R251 and masks of R252, and with them the default of every dictionary object.
-/

namespace Sys2Proof.Machine

/-- One row of a chapter's source table. `irq` 255 stands for no interrupt source. -/
structure ClassRow where
  lo : Nat
  hi : Nat
  clsLo : Nat
  clsHi : Nat
  level : Nat
  code : Nat
  irq : Nat
  deriving DecidableEq, Repr

/-- The source tables of phases, rails, channels, input and thermal. -/
def classRowsA : List ClassRow := [
  ⟨0, 47, 0, 0, 1, 0x0100, 0⟩,
  ⟨0, 47, 1, 1, 1, 0x0101, 1⟩,
  ⟨0, 47, 2, 2, 3, 0x0102, 2⟩,
  ⟨0, 47, 3, 3, 0, 0x0106, 4⟩,
  ⟨0, 47, 4, 4, 1, 0x0105, 4⟩,
  ⟨0, 47, 8, 8, 2, 0x0140, 5⟩,
  ⟨0, 47, 9, 9, 2, 0x0141, 5⟩,
  ⟨0, 47, 0xA, 0xA, 2, 0x0142, 5⟩,
  ⟨0, 47, 0xB, 0xB, 1, 0x0143, 6⟩,
  ⟨0, 47, 0xC, 0xC, 1, 0x0144, 7⟩,
  ⟨0, 47, 0xD, 0xD, 1, 0x0145, 5⟩,
  ⟨0, 47, 0xE, 0xE, 0, 0x0146, 255⟩,
  ⟨0, 47, 0xF, 0xF, 0, 0x0147, 255⟩,
  ⟨48, 99, 0, 0, 3, 0x0200, 8⟩,
  ⟨48, 99, 1, 1, 2, 0x0201, 9⟩,
  ⟨48, 67, 2, 2, 3, 0x0103, 2⟩,
  ⟨48, 99, 3, 3, 1, 0x0202, 10⟩,
  ⟨48, 99, 4, 4, 1, 0x0203, 10⟩,
  ⟨48, 67, 5, 5, 1, 0x0204, 11⟩,
  ⟨48, 67, 6, 6, 1, 0x0205, 12⟩,
  ⟨48, 59, 7, 7, 0, 0x0206, 13⟩,
  ⟨60, 67, 7, 7, 2, 0x0209, 14⟩,
  ⟨48, 59, 8, 8, 3, 0x0207, 9⟩,
  ⟨48, 59, 9, 9, 1, 0x0208, 14⟩,
  ⟨48, 99, 0xA, 0xA, 0, 0x020A, 255⟩,
  ⟨48, 59, 0xC, 0xC, 1, 0x0240, 15⟩,
  ⟨48, 59, 0xD, 0xD, 1, 0x0241, 15⟩,
  ⟨48, 59, 0xE, 0xE, 2, 0x0242, 15⟩,
  ⟨48, 59, 0xF, 0xF, 3, 0x0243, 15⟩,
  ⟨48, 99, 0x10, 0x10, 2, 0x0304, 16⟩,
  ⟨48, 99, 0x11, 0x11, 2, 0x0305, 16⟩,
  ⟨48, 99, 0x12, 0x12, 1, 0x0306, 17⟩,
  ⟨48, 99, 0x13, 0x13, 0, 0x0307, 255⟩,
  ⟨48, 99, 0x14, 0x14, 1, 0x0308, 18⟩,
  ⟨48, 99, 0x15, 0x15, 0, 0x0309, 255⟩,
  ⟨68, 99, 0x16, 0x16, 2, 0x030F, 23⟩,
  ⟨100, 100, 0, 0, 3, 0x060A, 47⟩,
  ⟨101, 101, 0, 3, 2, 0x0601, 40⟩,
  ⟨102, 102, 0, 0, 3, 0x0608, 45⟩,
  ⟨103, 103, 0, 0, 2, 0x0603, 42⟩,
  ⟨103, 103, 1, 1, 1, 0x0603, 42⟩,
  ⟨103, 103, 2, 2, 2, 0x0603, 42⟩,
  ⟨104, 104, 0, 0, 1, 0x0602, 41⟩,
  ⟨105, 105, 0, 0, 1, 0x0604, 43⟩,
  ⟨105, 105, 1, 1, 1, 0x0606, 44⟩,
  ⟨106, 106, 0, 1, 3, 0x0609, 46⟩,
  ⟨120, 120, 0, 0, 4, 0x0900, 64⟩,
  ⟨121, 121, 0, 0, 1, 0x0901, 65⟩,
  ⟨121, 121, 1, 1, 2, 0x0901, 65⟩,
  ⟨122, 122, 0, 0x18, 2, 0x0903, 66⟩,
  ⟨123, 123, 9, 0x18, 2, 0x0905, 67⟩,
  ⟨124, 124, 0, 0, 3, 0x0906, 68⟩,
  ⟨140, 140, 0, 0, 0, 0x050A, 255⟩,
  ⟨140, 140, 1, 1, 2, 0x0502, 34⟩,
  ⟨140, 140, 2, 2, 1, 0x0502, 34⟩,
  ⟨141, 141, 0, 0, 2, 0x0501, 32⟩,
  ⟨141, 141, 1, 1, 1, 0x0501, 32⟩,
  ⟨141, 141, 2, 2, 2, 0x0501, 32⟩,
  ⟨142, 142, 0, 0, 2, 0x0505, 36⟩,
  ⟨142, 142, 1, 1, 3, 0x0510, 36⟩,
  ⟨143, 143, 0, 0, 4, 0x0508, 39⟩,
  ⟨144, 144, 0, 1, 2, 0x050C, 38⟩,
  ⟨145, 145, 0, 0, 1, 0x050B, 37⟩,
  ⟨146, 146, 0, 0, 2, 0x050D, 39⟩,
  ⟨147, 147, 0, 0, 0, 0x0507, 255⟩]

/-- The source tables of team, pack, port, clocks, memory, security and watchdogs. -/
def classRowsB : List ClassRow := [
  ⟨147, 147, 1, 1, 1, 0x0507, 39⟩,
  ⟨148, 148, 0, 0, 2, 0x0500, 35⟩,
  ⟨149, 149, 0, 0, 1, 0x050E, 39⟩,
  ⟨160, 160, 0, 0, 1, 0x0708, 48⟩,
  ⟨160, 160, 1, 1, 0, 0x0708, 48⟩,
  ⟨161, 161, 0, 1, 2, 0x0706, 50⟩,
  ⟨162, 162, 0, 0, 3, 0x0707, 51⟩,
  ⟨163, 163, 0, 0, 1, 0x0707, 51⟩,
  ⟨163, 163, 1, 1, 2, 0x0707, 51⟩,
  ⟨164, 164, 0, 0, 3, 0x0707, 51⟩,
  ⟨165, 165, 0, 0, 2, 0x0700, 52⟩,
  ⟨166, 166, 0, 0, 1, 0x0701, 53⟩,
  ⟨167, 167, 0, 0, 2, 0x0702, 54⟩,
  ⟨168, 168, 0, 0, 1, 0x0709, 55⟩,
  ⟨170, 170, 0, 0, 1, 0x0801, 56⟩,
  ⟨170, 170, 1, 1, 0, 0x0801, 56⟩,
  ⟨171, 171, 0, 0, 1, 0x0801, 57⟩,
  ⟨172, 172, 0, 2, 1, 0x0802, 58⟩,
  ⟨173, 173, 0, 0, 2, 0x0803, 60⟩,
  ⟨173, 173, 1, 1, 0, 0x0803, 60⟩,
  ⟨174, 174, 0, 0, 2, 0x0805, 59⟩,
  ⟨175, 175, 0, 0, 1, 0x0806, 57⟩,
  ⟨176, 176, 0, 0, 2, 0x0807, 61⟩,
  ⟨177, 177, 0, 0, 0, 0x0804, 62⟩,
  ⟨180, 180, 0, 0, 2, 0x0A03, 74⟩,
  ⟨181, 181, 0, 1, 2, 0x0A03, 74⟩,
  ⟨182, 182, 0, 0, 2, 0x0A03, 74⟩,
  ⟨183, 183, 0, 0, 1, 0x0A04, 75⟩,
  ⟨184, 184, 0, 0, 1, 0x0A08, 79⟩,
  ⟨185, 185, 0, 0, 2, 0x0A05, 78⟩,
  ⟨186, 186, 0, 0, 2, 0x0A03, 74⟩,
  ⟨187, 187, 0, 0, 0, 0x0A06, 77⟩,
  ⟨200, 200, 0, 0, 4, 0x0D40, 108⟩,
  ⟨201, 201, 0, 0, 3, 0x0D41, 111⟩,
  ⟨202, 202, 0, 0, 2, 0x0D42, 111⟩,
  ⟨203, 203, 0, 0, 1, 0x0D43, 109⟩,
  ⟨204, 204, 0, 0, 1, 0x0D44, 109⟩,
  ⟨205, 205, 0, 0, 0, 0x0D45, 110⟩,
  ⟨220, 220, 0, 0, 2, 0x0C01, 88⟩,
  ⟨220, 220, 1, 1, 3, 0x0C01, 88⟩,
  ⟨221, 221, 0, 1, 3, 0x0C02, 89⟩,
  ⟨222, 222, 0, 0, 3, 0x0C05, 90⟩,
  ⟨223, 223, 0, 0, 0, 0x0C06, 91⟩,
  ⟨223, 223, 1, 1, 1, 0x0C06, 91⟩,
  ⟨223, 223, 2, 2, 4, 0x0C06, 91⟩,
  ⟨224, 224, 0, 0, 1, 0x0C04, 92⟩,
  ⟨225, 225, 0, 0, 2, 0x0C00, 93⟩,
  ⟨229, 229, 0, 3, 4, 0x0F00, 95⟩,
  ⟨229, 229, 4, 4, 2, 0x0F02, 95⟩,
  ⟨230, 230, 0, 1, 1, 0x0E03, 112⟩,
  ⟨231, 231, 0, 0, 3, 0x0E00, 119⟩,
  ⟨232, 232, 0, 0, 3, 0x0E09, 119⟩,
  ⟨233, 233, 0, 0, 1, 0x0E01, 113⟩,
  ⟨234, 234, 0, 0, 1, 0x0E04, 117⟩,
  ⟨234, 234, 1, 1, 2, 0x0E04, 117⟩,
  ⟨235, 235, 0, 0, 1, 0x0E05, 115⟩,
  ⟨235, 235, 1, 1, 3, 0x0E07, 119⟩,
  ⟨236, 236, 0, 0, 1, 0x0E0A, 119⟩,
  ⟨237, 237, 0, 0, 2, 0x0E02, 119⟩,
  ⟨237, 237, 1, 1, 1, 0x0E02, 119⟩,
  ⟨238, 238, 0, 0, 2, 0x0E04, 119⟩,
  ⟨240, 240, 0, 0, 2, 0x0D00, 104⟩,
  ⟨240, 240, 1, 1, 2, 0x0D01, 105⟩,
  ⟨240, 240, 2, 2, 2, 0x0D02, 105⟩,
  ⟨240, 240, 3, 3, 1, 0x0D03, 106⟩,
  ⟨240, 240, 4, 4, 1, 0x0D04, 106⟩]

/-- Every class of every source. -/
def classRows : List ClassRow := classRowsA ++ classRowsB

/-- The table row of a class of a source, where the owning chapter defines that class. -/
def classRow (s c : Nat) : Option ClassRow :=
  classRows.find? fun r => decide (r.lo ≤ s ∧ s ≤ r.hi ∧ r.clsLo ≤ c ∧ c ≤ r.clsHi)

/-- Does the owning chapter define this class? -/
def classDefined (s c : Nat) : Bool := (classRow s c).isSome

/-- The studbook code of a class (0 where the class is not defined). -/
def classCode (s c : Nat) : Nat := ((classRow s c).map (·.code)).getD 0

/-- The interrupt source of a class (255: none). -/
def classIrq (s c : Nat) : Nat := ((classRow s c).map (·.irq)).getD 255

/-- The class mask of R252. -/
def classMask (s c : Nat) : Nat :=
  if 48 ≤ s ∧ s ≤ 67 ∧ c = 0x02 then 0x03
  else if 48 ≤ s ∧ s ≤ 67 ∧ c = 0x05 then 0x01
  else if 48 ≤ s ∧ s ≤ 59 ∧ c = 0x0E then 0x03
  else 0xFF

/-- The default of src[s].cls[c]: base level and mask (R252). -/
def classEntryDefault (s c : Nat) : Int := (((classRow s c).map (·.level)).getD 0 + 256 * classMask s c : Nat)

/-- The default of src[s].react[l] (R251). -/
def reactDefault (s l : Nat) : Int :=
  if l = 0 then 0x0001
  else if l = 1 then 0x0003
  else if l = 2 then (if 48 ≤ s ∧ s ≤ 99 then 0x0013 else 0x0003)
  else if l = 3 then (if 48 ≤ s ∧ s ≤ 99 then 0x0017 else 0x0003)
  else if s = 120 ∨ (140 ≤ s ∧ s ≤ 159) ∨ 200 ≤ s then 0x00C3
  else 0x0043

/-- The default of irq.src[i] (R490): target mask SPI-A with rising-edge sensing, with its three exceptions. -/
def irqSrcDefault (i : Nat) : Int :=
  if i = 29 ∨ i = 65 then 0x07 else if i = 104 then 0x38 else 0x04

/-- The default of the object at an offset of a row. -/
def Dfl.at (d : Dfl) (index base sub subBase : Nat) : Int :=
  match d with
  | .val v => v
  | .linear a b => a + b * ((index - base : Nat) : Int)
  | .parity => ((index - base : Nat) : Int) % 2
  | .table l => l.getD (sub - subBase) 0
  | .react => reactDefault (index - base) (sub - subBase)
  | .cls => classEntryDefault (index - base) (sub - subBase)
  | .estR => if sub - subBase < 8 then 1200 else if sub - subBase < 16 then 700 else 400
  | .irqSrc => irqSrcDefault (sub - subBase)

/-- The default of an object of the dictionary (R571); 0 where there is no object. -/
def dictDefault (k : Nat) : Int :=
  match dictRow (keyIndex k) (keySub k) with
  | some r => r.dfl.at (keyIndex k) r.base (keySub k) r.sub
  | none => 0

end Sys2Proof.Machine
end

