-- ==== Sys2Proof/Machine/State.lean ====
section
/-!
DEFINITION. The state of the block, as plain data. Every object of the dictionary of up to 8 bytes has its one
home in `objs`, at its address; the machine's other named quantities (timers, filter counters, modes of the
sub-machines, pad levels) are `vars`; sampled inputs are `pins`; queues, buffers and memories are typed lists.
-/

namespace Sys2Proof.Machine

/-- The quantities the spec gives the machine beside its dictionary objects. Each is indexed by up to two numbers
(a phase, a rail, a source …) and starts at 0. -/
inductive VarKind where
  /-- frames since the last power-on, not wrapped (time base of timers) -/
  | now
  /-- rounds since the last power-on, not wrapped -/
  | nowRound
  /-- MGT power has stopped and no BOOT has started since (R612) -/
  | mgtLost
  /-- MAIN is powered (R16, R17) -/
  | mainOn
  /-- a transition to mode i has been requested; holds the cause plus one (R24, R28) -/
  | modeReq
  /-- BKP retention: mode last entered, plus one; 0 when retention was lost (R612) -/
  | bkpMode
  /-- BKP retention: cause of the last entry -/
  | bkpCause
  /-- BKP retention holds its contents -/
  | bkpValid
  /-- sys.ship armed (R25) -/
  | shelfArmed
  /-- entry actions of mode i still to be taken by their own step -/
  | entryTodo
  /-- frame at which the BOOT in progress started -/
  | bootStart
  /-- microseconds between that BOOT's reset release and its first frame tick (R32) -/
  | bootLead
  /-- the mode that the finished BOOT enters at the next tick, plus one (R24, R25, R40) -/
  | bootGoto
  /-- frames that this BOOT has waited for a valid source, up to the end of the last wait (R32, R611) -/
  | bootWaited
  /-- which slots of this frame have done their work: 1 slots 13 to 30, 2 slots up to 34, 3 slots up to 42 (R38) -/
  | slotsDone
  /-- a transition has been taken in this frame (R24) -/
  | moved
  /-- verdict of the TRNG's health tests at the last MGT power-on reset -/
  | trngIn
  /-- sys.autorun asks for RUN at the end of BOOT (R25) -/
  | autorunTodo
  /-- the BOOT ends in SAFE: OTP shadow load failed or an L4 fault arose (R25) -/
  | bootHoldSafe
  /-- RTC seconds counter in BKP (R417) -/
  | rtcSec
  /-- RTC prescaler of 32,768 cycles (R417) -/
  | rtcPre
  /-- cycle within the calibration period of 2^20 (R425) -/
  | rtcCycle
  /-- progress of a load under R421: 0 none, 1 to 3 the number of the edge awaited, 4 loaded and stopped -/
  | rtcHalt
  /-- seconds to load (R421) -/
  | rtcHaltSec
  /-- cycles to the next shift step (R423) -/
  | rtcShiftWait
  /-- steps requested of the pending shift -/
  | rtcShiftAsked
  /-- steps applied of the pending shift -/
  | rtcShiftDone
  /-- ticks since the last 32.768 kHz edge (R426) -/
  | rtcQuiet
  /-- the oscillator is declared failed -/
  | rtcFailed
  /-- oscillator failures with MGT off, to be recorded at the next BOOT (R426) -/
  | rtcFailTodo
  /-- MGT's share of the switch-over stamp is due (R429) -/
  | fsoTodo
  /-- a job for consumer i has ended: 1 done, 2 failed (i: 0 public key, 1 export, 2 snapshot, 3 image verify, 4 image check, 5 commit, 8 + p claim, 16 + p tag check) -/
  | jobDone
  /-- frame of the last step of the running job of kind i -/
  | jobLast
  /-- frame in which the running job of kind i started running (R46) -/
  | jobBegan
  /-- FCLK offset from 400 MHz in 10^-9, slewed within clk.slew_limit (R52, R53) -/
  | clkPpb
  /-- phase pull-in runs (R53) -/
  | clkPull
  /-- frames with the phase error within 2.5 ns (R53) -/
  | clkLockCnt
  /-- frame at which SYNC_IN was taken as returned -/
  | clkReturn
  /-- clk.offset when the slew to the crystal started -/
  | clkStartOff
  /-- timer: holdover of R52, in rounds -/
  | holdoverT
  /-- consecutive ticks with the PLL out of lock (R62) -/
  | pllCnt
  /-- consecutive ticks without a crystal edge (R55) -/
  | xtalCnt
  /-- rounds of crystal edges in tolerance (R55) -/
  | xtalGood
  /-- a tick of this round has found the crystal without edges or out of tolerance (R55) -/
  | xtalBad
  /-- the crystal has failed and not been restored (R55) -/
  | xtalFailed
  /-- frame of the SYNC_OUT divider origin (R56) -/
  | syncOutOrigin
  /-- a terrier record is to be written before the next BOOT completes (R59) -/
  | terrierRec
  /-- period of the last record of code i with key j, plus one (R461) -/
  | limitStamp
  /-- period of the last record of source i, class j, plus one (R461) -/
  | limitStampSrc
  /-- a commit is requested (R437) -/
  | commitReq
  /-- round of the request -/
  | commitReqRound
  /-- BKP: commit marker; lines of the commit plus one (R440) -/
  | commitMarker
  /-- frame at which the commit started -/
  | commitStart
  /-- frame of the last commit step (R439) -/
  | commitLast
  /-- consecutive round boundaries with CRES below 4.2 V after its first charge (R444) -/
  | cresLowCnt
  /-- CRES as the last round boundary found it, plus one (R444) -/
  | cresRound
  /-- round at which the charging of CRES started -/
  | cresFrom
  /-- frame in which a commit was refused last, plus one (R438) -/
  | refusedAt
  /-- round since which the studbook waits for buffer room, plus one (R442) -/
  | sbHeld
  /-- patch entries skipped at this BOOT (R453) -/
  | patchSkip
  /-- next line of the scrubber (R446) -/
  | scrubLine
  /-- round at which the scrub pass started -/
  | scrubStart
  /-- OTP programming runs (R450) -/
  | otpBusy
  /-- word being programmed -/
  | otpWord
  /-- value being programmed -/
  | otpValue
  /-- word i waits for the conditions of R449; holds the value plus one -/
  | otpTodo
  /-- level of class j of source i since it was last cleared, plus one (R224) -/
  | clsLevel
  /-- frame of the last event of class j of source i -/
  | evFrame
  /-- timer: counting window of source i, in rounds (R226) -/
  | winT
  /-- the open window of source i has reached count_n -/
  | winPosted
  /-- a hiccup series of source i runs (R229) -/
  | series
  /-- round from which the quiet period of source i is counted (R241) -/
  | quietStart
  /-- events of source i lost since its last record 0x0405 -/
  | lostSince
  /-- classes of source i with losses since its last record 0x0405, as a bit map -/
  | lostClasses
  /-- cause of the yield decided -/
  | yieldCause
  /-- a high-side pulse is in progress -/
  | pulse
  /-- negative limit or zero crossing holds the pad at high impedance for the rest of the period (R86, R88) -/
  | zHold
  /-- instant of the last turn-on, in steps of 78.125 ps -/
  | lastOn
  /-- instant of the last turn-off, plus one; 0 while there was none -/
  | lastOff
  /-- blanking runs (R74) -/
  | blanked
  /-- a comparator tripped before the end of the effective minimum on-time (R75) -/
  | tripped
  /-- on-time of the last pulse, in steps (R67) -/
  | tonLast
  /-- reference code the loop gave, latched at the next turn-on (R68, R126), plus one; 0 stands for the reset code 128 -/
  | refNext
  /-- consecutive cycles ended by the positive limit (R87) -/
  | ilimCnt
  /-- consecutive cycles ended by the negative limit (R87) -/
  | inegCnt
  /-- the positive limit ended this cycle's pulse -/
  | limHit
  /-- the negative limit ended this cycle's low-side conduction -/
  | negHit
  /-- diode emulation ended this cycle's low-side conduction -/
  | deHit
  /-- this cycle was ended by diode emulation, a limit, truncation or R76 (R81) -/
  | cycBad
  /-- the same of the cycle before -/
  | cycBadPrev
  /-- the positive limit ended a pulse in this frame -/
  | ilimSeen
  /-- the negative limit acted in this frame -/
  | inegSeen
  /-- a zero crossing acted in this frame -/
  | deSeen
  /-- undershoot firing took place in this frame -/
  | uvsSeen
  /-- an undershoot firing waits for the minimum off-time (R91) -/
  | uvsPend
  /-- a pulse has begun since the samples of a switching period were last taken (R71) -/
  | cycOpen
  /-- a phase new to the switching set has not turned on yet (R112) -/
  | fresh
  /-- the last pulse was truncated (R90, R140): the phase resumes at an interleave instant only -/
  | truncated
  /-- highest voltage since a fast-path trip, as a VCODE (R140, R156) -/
  | ovpPeak
  /-- threshold of that trip (R156) -/
  | ovpThr
  /-- frame of that trip (R156) -/
  | ovpAt
  /-- phases switching at that trip (R156) -/
  | ovpN
  /-- last valley sample, in µV -/
  | valley
  /-- per-cycle mean current (R72), in mA -/
  | cycMean
  /-- sum of the per-cycle means of this round -/
  | cycSum
  /-- cycles of this round -/
  | cycCnt
  /-- sum of the per-cycle means of this frame -/
  | frSum
  /-- cycles of this frame -/
  | frCnt
  /-- mean of the per-cycle means of the last frame that had one -/
  | frMean
  /-- largest peak of this round, in mA -/
  | ipkMax
  /-- a pulse has begun in this round (R72) -/
  | ipkSeen
  /-- this round's learning sample was taken (R81) -/
  | learnTaken
  /-- Llearned stands since a start, so that l_last takes it (R84, R179, R184) -/
  | lLive
  /-- the learning sample of this round, in 0.1 nH; 0 none -/
  | learnLs
  /-- rounds since a learning sample was accepted (R84) -/
  | learnIdle
  /-- round of the last record 0x0106, plus one (R105) -/
  | clampRec
  /-- sum of the ripple ratios of this frame, in 10^-6 -/
  | ripSum
  /-- cycles of this frame that qualify under R81 -/
  | ripCnt
  /-- a cycle of this frame qualifies under all of R81 (R162) -/
  | qualSeen
  /-- a cycle of the last frame did -/
  | qualFrame
  /-- mean ripple ratio of the last frame, in 10^-6 -/
  | ripMean
  /-- interleave offset in steps before `offFrom`, plus one; 0 none (R112) -/
  | offOld
  /-- interleave offset in steps from `offFrom`, plus one; 0 none -/
  | offNew
  /-- first period origin at which `offNew` applies -/
  | offFrom
  /-- current term of the balance offset (R129) -/
  | cb
  /-- thermal term of the balance offset (R129) -/
  | th
  /-- consecutive open periods (R161) -/
  | openCnt
  /-- periods of switching still exempt from open-phase detection -/
  | openSkip
  /-- consecutive periods with both samples out of range (R162) -/
  | rangeCnt
  /-- consecutive counting frames in which the phase disagrees (R162) -/
  | plausCnt
  /-- a sample of this frame lay outside the range of R70 -/
  | outSeen
  /-- a sample of the last frame lay outside the range of R70 -/
  | outFrame
  /-- the open-phase detector is true in this frame -/
  | detOpen
  /-- the sense-failure detector is true in this frame; criterion plus one -/
  | detSense
  /-- the stage-fault detector is true in this frame; signature plus one -/
  | detStage
  /-- failure class sampled at the tick that began this frame; 0 none (R167, R169) -/
  | detNow
  /-- IMON reading of the detection, in mA -/
  | detRead
  /-- peer mean current of the detection, in mA -/
  | detPeer
  /-- consecutive ticks of the test window with IMON at or above the threshold (R96) -/
  | shtCnt
  /-- the phase carries the current-sense mark (R168) -/
  | senseMark
  /-- thermal excursion counter: 1 armed, 2 disarmed (R178) -/
  | excArm
  /-- Tlow or Thigh of the excursion counter, in 1/16 °C -/
  | excRef
  /-- rounds of on-time not yet counted as a second -/
  | onRounds
  /-- rounds since l_last was last updated (R179) -/
  | lastRounds
  /-- round of the account's next periodic commit (R180), plus one -/
  | wearNext
  /-- the account is to be committed within 10 rounds; round of the cause plus one -/
  | wearSoon
  /-- pushes of W so far (R182) -/
  | wearPushed
  /-- state of rail 20 + i, the codes of R142 -/
  | scState
  /-- SEN_MRm is asserted -/
  | senOn
  /-- first origin of the period grid, in steps (R110) -/
  | grid
  /-- phase that occupies list position j of rail i, plus one (R160) -/
  | posPhase
  /-- turn-ons since the last loop update (R115) -/
  | updCnt
  /-- instant of the last loop update, in steps, plus one -/
  | updAt
  /-- Vramp, in 1/3,200,000 of a VCODE -/
  | vramp
  /-- integrator, in 1/256 mA -/
  | iacc
  /-- error of the last update, in VCODE -/
  | ePrev
  /-- there was an update since the start -/
  | eValid
  /-- low-pass feed-forward input, in 1/256 mV -/
  | vinLp
  /-- vinLp holds a value -/
  | vinValid
  /-- low-pass rail current, in 1/256 mA -/
  | ilp
  /-- target of the last update, in VCODE (R117) -/
  | targetNow
  /-- per-phase share of R127 as the last tick formed it, in mA -/
  | share
  /-- the setpoint has been slewing since the last tick (R133) -/
  | slewSeen
  /-- per-phase demand u of the last update, in mA -/
  | demand
  /-- measured voltage of the last update, in VCODE -/
  | vmeas
  /-- feed-forward input at the last update, in mV -/
  | rvin
  /-- sum of Irail over the updates of this frame -/
  | irSum
  /-- updates of this frame -/
  | irCnt
  /-- Ifr: mean Irail of the last frame, in mA -/
  | ifr
  /-- frame mean of the output voltage, in VCODE -/
  | vMean
  /-- sum of frame means of this round -/
  | vSum
  /-- lowest frame mean of this round -/
  | vMin
  /-- highest frame mean of this round -/
  | vMax
  /-- frames of this round -/
  | vCnt
  /-- sum of Ifr over this round -/
  | iSum
  /-- highest Ifr of this round -/
  | iPk
  /-- sum of power over this round, in mW -/
  | pSum
  /-- buck periods skipped this round -/
  | skipCnt
  /-- buck periods of this round -/
  | turnCnt
  /-- overshoot hold of R90 -/
  | ovsHold
  /-- the undershoot comparator is tripped (R91) -/
  | uvsFire
  /-- the OV fast path holds (R140) -/
  | ovpHold
  /-- qualification counter of window j (R137) -/
  | winCnt
  /-- qualification counter of R128 -/
  | ilimSust
  /-- qualification counter of R141 -/
  | senseCnt
  /-- what the sense fault sees: 0 full scale, 1 N-side -/
  | senseKind
  /-- qualification counter of class 0x09 -/
  | vinCnt
  /-- consecutive ticks with Ifr below i_drop (R133) -/
  | shedDrop
  /-- timer: shed hold-off of R134 -/
  | holdoffT
  /-- the switching set changed in this round (R129) -/
  | setChanged
  /-- timer: pre-bias wait of R94 -/
  | waitT
  /-- frame of the start command that waits -/
  | waitStart
  /-- voltage at the start command, in VCODE -/
  | waitV
  /-- frame of the first tick of the test window, plus one -/
  | testStart
  /-- consecutive ticks of the test window with the rail at or above 200 mV -/
  | shtV
  /-- consecutive ticks of the test window with the buck's high-side sense at or above 300 mA -/
  | shtAb
  /-- timer: hiccup wait of R143, in rounds -/
  | hicT
  /-- class that caused the hiccup (R606) -/
  | hicCls
  /-- retry number of the hiccup -/
  | hicNum
  /-- port i's transaction waits in the dictionary queue: frame its reception completed in, plus one (R42, R553) -/
  | dqAt
  /-- segments served in this frame's dictionary slots (R42) -/
  | dSlots
  /-- a start command takes effect at the next tick (R190) -/
  | startDue
  /-- an off takes effect at the next tick (R190): 1 by off_mode, 2 at once, 3 at once as failed -/
  | offDue
  /-- a start command waits for the end of a soft stop (R123) -/
  | startHeld
  /-- the buck's last turn-on began a pulse that no limit has ended -/
  | abPulse
  /-- consecutive buck cycles ended by the limit (R149) -/
  | abLimCnt
  /-- this buck cycle was ended by the limit -/
  | abLimHit
  /-- the buck's input is below its limits: 1 stopped under R146 -/
  | abLow
  /-- qualification counter of SFLT (R163) -/
  | sfltCnt
  /-- ticks since SFLT first counted as asserted, or since the last attribution, plus one (R164) -/
  | sfltTicks
  /-- substitution of phase i: failed phase plus one, whose record waits for the first turn-on -/
  | subPhase
  /-- substitution of phase i: instant of the removal, in steps -/
  | subAt
  /-- history: centre samples of the last pulses of phase i, in µV (R162) -/
  | hCentre
  /-- history: on-times of the last pulses of phase i, in steps (R162) -/
  | hTon
  /-- history: consecutive rejected learning samples of phase i (R83) -/
  | hRej
  /-- history: the ring of 32 wear scores of phase i (R182) -/
  | hW
  /-- limit code in force of phase i (R85) -/
  | ilimCode
  /-- negative limit code in force of phase i (R86) -/
  | inegCode
  /-- frame of the last shed-table change of rail i, plus one (R81) -/
  | shedAt
  /-- the test of rail i has failed; tick of the failure, plus one: R97 follows at the next -/
  | shtFailed
  /-- phase charged with the test failure of rail i, plus one -/
  | shtCharged
  /-- slope code of the ramp that runs, latched at turn-on (R80) -/
  | rampCode
  /-- sum of this device's own integrator increments since the mirrored value was captured (R144) -/
  | iaccInc
  /-- first origin of the period grid of buck i, in steps -/
  | abGrid
  /-- instant of buck i's last turn-on, in steps -/
  | abOn
  /-- instant at which buck i's low-side conduction ends before the next turn-on, in steps, plus one; 0 none (R150, R152) -/
  | abLowEnd
  /-- a takeover's first cycle runs to the demand received from the twin (R261) -/
  | abAdopt
  /-- instant of the end of buck i's last pulse, in steps, plus one -/
  | abOff
  /-- budget limit of rail i in mA, plus one; 0 where the budget sets none (R532) -/
  | budgetLim
  /-- rail i enters DERATED at the next tick; phase that caused it, plus one (R174) -/
  | derTodo
  /-- on_sec of phase i at its last push into l_hist, in units of 2,592,000 s (R179) -/
  | lastOnSec
  /-- timer: on-delay (R192) -/
  | onT
  /-- the rail was released in this power-up while failed (R607) -/
  | relSeen
  /-- timer: rise timer (R193) -/
  | riseT
  /-- tick of the rail's last start command, plus one -/
  | startTick
  /-- consecutive ticks with power good (R194) -/
  | pgCnt
  /-- a true sample was seen in this qualification -/
  | pgSeen
  /-- the last sample of the power-good flag -/
  | pgPrev
  /-- timer: off-delay (R197) -/
  | offT
  /-- why the rail is to be turned off: 1 power-down, 2 as a dependant, 3 abort, 4 reversal; 0 not -/
  | offKind
  /-- the off command was received -/
  | offGot
  /-- the abort that runs has turned the rail off (R217) -/
  | abortOff
  /-- entries of the next item of the state transfer that have been sent (R291) -/
  | xferPart
  /-- tick of the off command, plus one -/
  | offTick
  /-- timer: discharge wait (R197) -/
  | disT
  /-- the rail's discharge is measured -/
  | disOn
  /-- the rail counts as discharged (R197) -/
  | dis
  /-- the rail's discharge wait expired in this power-down -/
  | disPast
  /-- tick at which the rail entered blocked (R201) -/
  | blockedAt
  /-- source whose event left the rail failed, plus one (R607) -/
  | failSrc
  /-- the last parent of the rail to qualify -/
  | lastPar
  /-- EN_SCc asserted (i = c) -/
  | scEn
  /-- the OV windows of SCc are judged (i = c) -/
  | scOv
  /-- consecutive ticks with PG_SCc low (i = c) -/
  | scPg
  /-- the yard state decided in this frame, plus one: it is entered at the next tick (R190) -/
  | yardGo
  /-- timer: dwell of the yard state (R212) -/
  | dwellT
  /-- timer: 1,000 frames after the dwell (R213) -/
  | readyT
  /-- tick of state 1 entry -/
  | upAt
  /-- tick at which the power-down or reversal began -/
  | downAt
  /-- cause of the power-up that is due -/
  | upCause
  /-- cause of the power-down that is due -/
  | downCause
  /-- a request to leave state 0 or 32 waits for the leader's advance (R216); its cause plus one -/
  | yardReq
  /-- this device holds YARD low: 1 readiness, 2 HOLDUP, 3 SAFE, 4 join, 5 request -/
  | yardHold
  /-- timer: end of a timed hold -/
  | yardHoldT
  /-- the device sends a pulse on YARD: 1 advance, 2 reverse -/
  | yardPulse
  /-- consecutive ticks with YARD high since the dwell expired (R215) -/
  | yardHigh
  /-- the yard state as a STANDBY observes it on the line (R218) -/
  | yardSeen
  /-- the observed yard state differs from the mirrored one (R218) -/
  | yardDiff
  /-- longest hold seen in this yard state, in frames -/
  | holdMax
  /-- glitches of this round -/
  | glitchRound
  /-- yard state in which the abort began -/
  | abortFrom
  /-- timer: minimum of PDIS_N of paddock i -/
  | pdisT
  /-- source j caused an assertion of PDIS_N of paddock i (R208) -/
  | pdisSrc
  /-- the hot-swap controller operates (R297) -/
  | hsActive
  /-- hs.state decided in this frame, plus one: it is entered at the next tick (R298) -/
  | hsGoto
  /-- a fast trip has discharged HS_GATE before that tick (R303) -/
  | hsCut
  /-- the trip taken in this frame, by its code of hs.last_cause (R304) -/
  | hsTripped
  /-- a trip came since the last inrush: the next waits for half of hs.soa_lim (R305) -/
  | hsHalf
  /-- hs.cmd 0x01 was taken and waits for what an inrush needs -/
  | hsAsk
  /-- frame at which hs.state was entered -/
  | hsSince
  /-- consecutive ticks with EARLY_N or LATE_N high -/
  | hsRem
  /-- consecutive ticks of debounce with both pins low -/
  | hsDeb
  /-- consecutive ticks with power good true -/
  | hsPg
  /-- consecutive ticks at or above hs.ilim -/
  | hsCb
  /-- consecutive ticks at or above hs.vin_ov -/
  | hsOv
  /-- consecutive ticks at or below hs.vin_uv -/
  | hsUv
  /-- consecutive ticks at or below hs.vin_warn -/
  | hsWarn
  /-- consecutive ticks with the shorted-MOSFET condition -/
  | hsFet
  /-- consecutive ticks with the sense-fault condition -/
  | hsSense
  /-- what the input fault waits for: 1 overvoltage, 2 undervoltage -/
  | hsFault
  /-- timer: inrush limit or retry wait, in rounds -/
  | hsT
  /-- timer: 1,000 rounds in on -/
  | hsOnT
  /-- SOA accumulator, in nJ -/
  | hsSoa
  /-- peak of the accumulator in this inrush, in nJ -/
  | hsSoaPk
  /-- current limiting acted in this frame -/
  | hsLim
  /-- sum of the input power over this round -/
  | hsPinSum
  /-- frames of this round -/
  | hsPinCnt
  /-- consecutive ticks with VIN_MGT below VWARN -/
  | mgtWarn
  /-- consecutive ticks with VIN_MGT at or above VWARN + 200 mV -/
  | mgtRec
  /-- frame at which warning was entered -/
  | mgtAt
  /-- frame at which the main input was lost -/
  | mgtLostAt
  /-- frame from which the main input has been valid, plus one -/
  | mgtValidAt
  /-- VIN_MGT has been valid since the last MGT power-on reset -/
  | mgtEver
  /-- first tick at which this device drives the team nets (R257, R281) -/
  | driveFrom
  /-- a swap runs on the holder (R285); cause plus one -/
  | swapOn
  /-- this device's own swap request: target position plus one (R285) -/
  | swapReq
  /-- frame at which the swap began -/
  | swapAt
  /-- consecutive missed mirror frames -/
  | missCnt
  /-- consecutive good mirror frames -/
  | goodCnt
  /-- frame number of the last good header, plus one -/
  | lastFrame
  /-- frame at which the harness went down -/
  | downAt_
  /-- good frames since the harness came up -/
  | goodRun
  /-- timer: 8 ticks of R288 -/
  | lostT
  /-- position in the last good header -/
  | twinPos
  /-- epoch in the last good header -/
  | twinEpoch
  /-- sys.mode in the last good header -/
  | twinMode
  /-- the twin's last good header claims the token -/
  | twinTok
  /-- yield_cause of the last good frame whose yield bit was set, plus one -/
  | twinYield
  /-- admission byte of the last good header -/
  | twinAdm
  /-- a position conflict is present (R258) -/
  | posConf
  /-- position this device acts at under a conflict -/
  | effPos
  /-- consecutive frames with a lane out of lock -/
  | lockBad
  /-- consecutive good frames with a different cfg_id -/
  | cfgBad
  /-- next delta sequence number to send -/
  | dqSeq
  /-- first sequence number to send again, plus one (R267) -/
  | dqResend
  /-- next sequence number expected of the twin -/
  | rxNext
  /-- an entry has been accepted from the twin -/
  | rxAny
  /-- object of the write group that is arriving, plus one -/
  | grpKey
  /-- its length -/
  | grpLen
  /-- its bytes 0 to 3 -/
  | grpLo
  /-- digest bytes 4i to 4i + 3 received at admission, plus one -/
  | digestRx
  /-- mirrored src[s].level of source i, plus one (R291) -/
  | mirLevel
  /-- own integrator increments of the frame before this one (R144) -/
  | iaccPrev
  /-- largest difference of the integrators in this round, in 1/256 mA -/
  | iaccDiv
  /-- tick at which a drive violation was found, plus one (R274) -/
  | violAt
  /-- net kind of the violation -/
  | violKind
  /-- its number -/
  | violNum
  /-- its length, in ns -/
  | violDur
  /-- REIN_OUT was asserted for a takeover and its load is to be measured (R277) -/
  | reinPend
  /-- trigger of that takeover -/
  | reinTrig
  /-- interval that takeover measures, in ns (R283) -/
  | reinGap
  /-- frame at which rail i entered its seq state (R266) -/
  | seqSince
  /-- frame at which rail i entered its rail state (R266) -/
  | railSince
  /-- frame at which PDIS_N of paddock i was asserted (R266) -/
  | padSince
  /-- frame at which the yard state was entered (R266) -/
  | yardSince
  /-- frame in which REIN_IN was found asserted at this device's REIN instant, plus one (R276) -/
  | reinInst
  /-- target of the swap that runs on the holder, plus one (R285) -/
  | swapTo
  /-- a holder without MAIN yields at the next tick (R273) -/
  | yieldDue
  /-- frame at which the harness came up (R290) -/
  | linkUpAt
  /-- the twin's request was granted and still stands (R290) -/
  | admSeen
  /-- frame at which kind 0x3F arrived, plus one -/
  | admEndAt
  /-- the device has been OUT since BOOT: election is open to it (R278, R289) -/
  | electable
  /-- cfg_id in the last good header (R292) -/
  | twinCfg
  /-- the last good header carried a swap request -/
  | swapSeen
  /-- a STANDBY gives up its place at the next tick (R287) -/
  | releaseDue
  /-- timer: team.join_wait without a good frame (R289) -/
  | joinT
  /-- admission is requested -/
  | admReq
  /-- timer of the admission state, in frames -/
  | admT
  /-- frame of entry to the transfer -/
  | admAt
  /-- missed frames during admission -/
  | admMiss
  /-- transfer entries applied or sent -/
  | admEntries
  /-- kind 0x3F has arrived -/
  | admEnd
  /-- timer: team.readmit_wait, in rounds -/
  | readmitT
  /-- a new request may be made -/
  | readmitOk
  /-- next entry of the state transfer to send, plus one (R291) -/
  | xfer
  /-- a yield is pending (R284) -/
  | yieldOn
  /-- tick at which the yield took effect -/
  | yieldAt
  /-- the entry actions of SAFE wait for the yield (R284) -/
  | safeWait
  /-- peak demand of buck i at its last turn-on, in mA -/
  | abDemand
  /-- frame at which the demand of buck i was last queued -/
  | dlastAt
  /-- last valid reading of sensor i, in 1/16 °C -/
  | thLast
  /-- consecutive rounds with a valid reading of sensor i -/
  | thGood
  /-- round in which sensor i broke -/
  | thSince
  /-- round of the last reading of ring-oscillator sensor i, plus one -/
  | roRound
  /-- lowest scale of the present throttling -/
  | thLow
  /-- round in which the present throttling started -/
  | thStart
  /-- retired count of class j of source i (R462) -/
  | retired
  /-- occurrences carried by the valid fault records of the ring -/
  | ringSum
  /-- occurrences retired -/
  | retSum
  /-- occurrences lost -/
  | lostSum
  /-- frame of the last record assembly, plus one -/
  | asmFrame
  /-- sb.head at the start of the export -/
  | expHead
  /-- sb.lap at the start of the export -/
  | expLap
  /-- positions of the export's range -/
  | expCnt
  /-- positions of the range hashed so far -/
  | expDone
  /-- round at which the export became ready -/
  | expSince
  /-- slot of the capture that runs -/
  | bbSlot
  /-- next line the capture writes; 1,024 when only the header is left -/
  | bbLine
  /-- trigger of the capture -/
  | bbTrig
  /-- sb.bb_cmd 0x02 has released the slot of the capture that runs (R467) -/
  | bbFree
  /-- the time of the capture is valid -/
  | bbValid
  /-- generation of the capture -/
  | bbGen
  /-- sys.last_cause at the trigger -/
  | bbCause
  /-- TIME48 at the trigger tick -/
  | bbTime
  /-- sys.op_seconds at the trigger -/
  | bbOp
  /-- frame.number at the trigger -/
  | bbFrame
  /-- source i is pending (R482) -/
  | irqPend
  /-- previous raw sample of source i -/
  | irqPrev
  /-- level source i was claimed and has not set its pending bit since (R486) -/
  | irqClaimed
  /-- IRQA_N (i = 0) or IRQB_N (i = 1) is driven low -/
  | irqLow
  /-- timer: hold-off of group i, in frames (R485) -/
  | holdT
  /-- BKP: saved pending bit of source i (R488) -/
  | irqSavedPend
  /-- BKP: saved previous raw sample of source i -/
  | irqSavedPrev
  /-- BKP: saved last claim of target i, plus one -/
  | irqSavedLast
  /-- frame of the last collie tick, plus one -/
  | collieFrame
  /-- the count has reached collie.close at this collie tick -/
  | collieHit
  /-- timer: suspension, in rounds (R478) -/
  | collieBusyT
  /-- round at which the suspension began -/
  | collieBusyAt
  /-- write-back i (0 charge ledger, 1 budget ledger, 2 estimator): 1 the mark is being cleared, 2 the body is being written (R370, R527) -/
  | wbStage
  /-- a further write-back of i is requested -/
  | wbAgain
  /-- slot that holds the generation in force of i: 0 A, 1 B -/
  | wbSlot
  /-- generation of the budget ledger's slot in force -/
  | wbGen
  /-- round of the last periodic write-back (R527) -/
  | ledgerAt
  /-- lower allocation of rail i that waits for its limit, plus one (R535) -/
  | allocNew
  /-- lower grant that waits, plus one (R537) -/
  | grantNew
  /-- grant before the change that runs -/
  | grantOld
  /-- port that waits for the response of the grant write -/
  | grantPort
  /-- rails the reduction lowers -/
  | grantRails
  /-- what the transaction that runs does to the grant: 1 a reduction, 2 a rise, whose record 0x0F01 it writes as it applies (R537, R545) -/
  | grantTx
  /-- cause of the close that is due, plus one: 0 BACKUP, 1 SHELF, 2 VPP (R609) -/
  | closeDue
  /-- the VPP comparator is disarmed (R609) -/
  | closeOff
  /-- a close written since the last power-on reset stands -/
  | closeStands
  /-- its cause -/
  | closeCause
  /-- generation of the last close -/
  | closeGen
  /-- frame of the last close written for a trigger, plus one (R609) -/
  | closeAt
  /-- line i of the ledger region is uncorrectable: what it stores is excluded from the checks until it is written again (R542) -/
  | ledLost
  /-- sys.op_seconds as persisted with the last commit -/
  | opSaved
  /-- accepted learns, saturating at 255 (R369) -/
  | estLearns
  /-- remainder of the coulomb integrator, in 2^-16 nC (R353) -/
  | cAcc
  /-- discharge charge since the last unit of est.cycles, in hundredths of an nC -/
  | cycAcc
  /-- consecutive ticks with the coulomb counter out of range (R355) -/
  | cntFault
  /-- sum of the pack current codes of this round -/
  | rI
  /-- sum of their magnitudes -/
  | rAbs
  /-- sum of the PACK_P frame means of this round, in mV -/
  | rV
  /-- frames of this round -/
  | rN
  /-- the charger has been in CV or top-off in this round (R361) -/
  | rCv
  /-- mean pack current of the previous round, in mA -/
  | prevI
  /-- mean PACK_P of the previous round, in µV -/
  | prevV
  /-- the previous round allows an impedance sample, with its means known -/
  | prevOk
  /-- rounds of learn_age below one second -/
  | ageFrac
  /-- consecutive rounds with readiness below its minimum (R358) -/
  | readyCnt
  /-- sum of PACK_P over the present rest minute, in mV -/
  | minSum
  /-- frames of it -/
  | minN
  /-- the same of the minute before -/
  | lastSum
  /-- frames of it -/
  | lastN
  /-- the same of the minute that has just ended -/
  | minSum2
  /-- frames of it -/
  | minN2
  /-- a rest minute has qualified at this round boundary (R360) -/
  | restDue
  /-- the present rest has had its first qualification -/
  | restFirst
  /-- the last usable rest point: i = 0 held, 1 stored charge, 2 SoC, 3 op_seconds, 4 high band -/
  | restA
  /-- record 0x0800 of the present rest is written -/
  | restRec
  /-- timer: discharging or resting of the exercise, in rounds; expiry of a refusal, in rounds -/
  | exT
  /-- mode in which the exercise started -/
  | exMode
  /-- est.cmd 0x02 asked for the abort -/
  | exAbort
  /-- round of the last check for changed fields (R370) -/
  | estWbAt
  /-- BKP: TIME48 at the last loss of MGT power -/
  | lossTime
  /-- round of the last hand-over, plus one -/
  | handRound
  /-- charging is suspended by pwr.cmd -/
  | susCmd
  /-- consecutive ticks at which source i of higher priority was valid (R324) -/
  | hbCnt
  /-- consecutive rounds with the pack's conditions (R319) -/
  | packCnt
  /-- a condition of R319 failed in this round -/
  | packBadRound
  /-- consecutive ticks at which one of them fails -/
  | packMiss
  /-- the pack has been removed and not refitted (R364) -/
  | packOut
  /-- consecutive ticks outside the discharge window (R320) -/
  | tdisOut
  /-- consecutive ticks inside it -/
  | tdisIn
  /-- the discharge window condition fails -/
  | tdisBad
  /-- consecutive ticks of discharge overcurrent (R343) -/
  | ocCnt
  /-- PACK_GATE is to turn off at the next tick (R343) -/
  | gateDue
  /-- PACK_GATE is held off while the pack is still the source in force -/
  | gateOff
  /-- consecutive ticks of pack overvoltage (R333) -/
  | chgOvCnt
  /-- consecutive ticks at or above pwr.vpre + 100 mV in precharge (R332) -/
  | vpreCnt
  /-- consecutive counting ticks with the charge current below C/20 (R332) -/
  | cvCnt
  /-- consecutive rounds below pwr.vrech in done (R332) -/
  | rechCnt
  /-- the pack temperature suspends charging (R328) -/
  | chgHot
  /-- step of the exercise decided in this frame, plus one: it is carried out at the next tick (R366) -/
  | exGoto
  /-- operands of that step: duration of the hand-over, lowest VPP, reason of an abort -/
  | exArg
  /-- charge phase decided in this frame, plus one: it is entered at the next tick (R332) -/
  | chgGoto
  /-- timer: precharge limit or top-off, in rounds (R332) -/
  | chgT
  /-- current ceiling of the charger, in mA (R332) -/
  | chgCeil
  /-- per-mille frames of pwr.t_eq below one second (R334) -/
  | teqFrac
  /-- the denominator of the part of a second of pwr.t_eq that has passed, in frames; 0 before the first (R334) -/
  | teqDen
  /-- frames of pwr.t_wall below one second -/
  | twallFrac
  /-- timer: next step of the input-limit search, in rounds (R330) -/
  | searchT
  /-- steps of the search -/
  | searchSteps
  /-- kind of source the input limit was set for (R329) -/
  | limKey
  /-- the source voltage is at or below the sag level -/
  | sagOn
  /-- timer: last-gasp (R335) -/
  | lgT
  /-- frame of HOLDUP entry -/
  | holdAt
  /-- consecutive ticks with the main input valid in HOLDUP (R339) -/
  | mainCnt
  /-- consecutive ticks at or below the cutoff (R337) -/
  | cutCnt
  /-- the cause code of what is held while the main input qualifies: 3 the cutoff of the pack, 6 the loss of VBUS in its place; 0 nothing (R322, R340) -/
  | cutHeld
  /-- the pack has reached cutoff in SETUP or SAFE with no external source (R326) -/
  | cutDone
  /-- CC pin on which the partner's termination appears: 1 CC1, 2 CC2; 0 none -/
  | ccPin
  /-- that termination: 0 open, 1 Rp default, 2 Rp 1.5 A, 3 Rp 3.0 A, 4 Rd -/
  | ccTerm
  /-- timer: attach debounce (R397) -/
  | debT
  /-- timer: the active CC has read open for 15 ms (R397) -/
  | openT
  /-- timer: error recovery (R404) -/
  | errT
  /-- timer: end of a voltage transition after PS_RDY (R404) -/
  | transT
  /-- contract voltage requested, in mV; 0 none -/
  | reqV
  /-- the contract voltage before the transition that PS_RDY has confirmed, in mV; 0 with none (R404) -/
  | oldV
  /-- operating current requested, in mA -/
  | reqI
  /-- timer: DR_Swap toward port.dr_pref (R407) -/
  | drT
  /-- own role swap request that has not been sent: 1 PR_Swap, 2 DR_Swap (R408) -/
  | ownReq
  /-- how it stands: 0 overtaken by a partner's message, 1 waiting for SinkTxOk, 2 withdrawn, to be sent again -/
  | ownHow
  /-- the own request is one sent again (R408) -/
  | ownAgain
  /-- frame of an own sequence as source, plus one (R408) -/
  | ownSeq
  /-- it came from port.dr_pref, which has nothing sent again -/
  | ownPref
  /-- sink tried first against a partner's Rd: 1 under way, 2 over (R396) -/
  | trySnk
  /-- timer: its end -/
  | tryT
  /-- the CC terminations are isolated (R404) -/
  | ccIsol
  /-- frame of the attach, or role swap, as source (R402) -/
  | attAt
  /-- timer: the withdrawn request is sent again (R408) -/
  | resendT
  /-- frame of bench mode entry -/
  | benchAt
  /-- history: frames of the protection trips (R405) -/
  | hTrip
  /-- timer: presence window, in rounds (R497) -/
  | ppT
  /-- CLAIM has sampled low during this BOOT (R497) -/
  | claimLow
  /-- the slot keys are to be unwrapped (R502) -/
  | unwrapTodo
  /-- the identity scalar drawn and not yet programmed (R493) -/
  | idDraw
  /-- port whose CLAIM runs, plus one -/
  | claimPort
  /-- stage of that CLAIM: 1 job 0, 2 commit -/
  | claimStage
  /-- a command of slot i waits for the commit of its H (R509) -/
  | hwmOn
  /-- frame at which that wait began -/
  | hwmAt
  /-- H being committed for slot i -/
  | hwmVal
  /-- the commit of slot i's H also sets the warning flag (R510) -/
  | hwmWarn
  /-- the state image of a snapshot is due at the next tick (R511) -/
  | snapTodo
  /-- bytes of the staging bank written so far, up to the last of them (R517) -/
  | imgLen
  /-- verdict of a validation that has ended, plus one: result, with the failing entry in j = 1 (R517) -/
  | imgVerdict
  /-- yard state at the last tick (R518) -/
  | imgYard
  /-- the last tick was the moment of the pending activation (R518) -/
  | imgDue
  /-- patched minimum of object i, plus 2^64; 0 where not patched (R571) -/
  | romMin
  /-- patched maximum of object i, plus 2^64 -/
  | romMax
  /-- frames that failed their check on port p in this round -/
  | failCnt
  /-- first cause of failure on port p in this round, plus one -/
  | failCause
  /-- a frame has failed on some port in this round -/
  | failSeen
  /-- the last request frame of SPI port p failed its check -/
  | spiErr
  /-- the last request of SPI port p was discarded under R555 -/
  | spiBusy
  /-- frame of the last bus-off entry of CAN port p, plus one -/
  | offAt
  /-- round of that entry -/
  | offRound
  /-- loop-back i starts at the next tick -/
  | lbTodo
  /-- mode in which the loop-back started, plus one -/
  | lbMode
  /-- role in which it started -/
  | lbRole
  /-- loop-back i was asked to stop -/
  | lbStop
  /-- verdict of the iteration of the running loop-back that the next tick shows: 1 passed, 2 failed (R575) -/
  | lbRes
  /-- value of that iteration -/
  | lbVal
  /-- the run ends at the next tick (R575) -/
  | lbEnd
  /-- why the run is aborted at the next tick, plus one (R576) -/
  | lbWhy
  /-- tick from which the iteration that comes next has been driven (R575, R577) -/
  | lbFrom
  /-- EXTEST is the loaded instruction of the test access port -/
  | extest
  /-- the shelf latch is set (R345) -/
  | shelfLatch
  /-- shelf retention word: the mode it reports, plus one (R345) -/
  | shelfWord
  /-- the actions of SHELF entry before the latch are done -/
  | shelfReady
  /-- why the wake latch starts BOOT, plus one (R346) -/
  | wakeWhy
  /-- SAFE and the loss of main input fell in the same frame (R29) -/
  | r29
  /-- consecutive ticks with VIN_MGT valid in BENCH (R25) -/
  | benchVin
  /-- sys.mode_req asks for SETUP once yard state 0 is reached (R25) -/
  | setupTodo
  /-- the round boundary of this frame has been taken -/
  | roundDone
  /-- BOOTs from MGT power-on reset, not counted further than one -/
  | porCount
  /-- a write of sys.mode_req through port i waits for the tick that decides it (R28) -/
  | modePort
  /-- bank in force, plus one: 1 A, 2 B; 0 the rule-ROM defaults (R33, R520) -/
  | activeBank
  /-- the next frame tick is the first after BOOT: frame numbers restart (R50) -/
  | restartFrame
  /-- BOOT waits for a valid source: frame at which the wait began, plus one (R611) -/
  | bootWait
  /-- which of EARLY_N (bit 0) and LATE_N (bit 1) were high at the last tick of a pump run (R582) -/
  | lbPins
  /-- EARLY_N or LATE_N has gone low during a pump run (R582) -/
  | lbGate
  deriving DecidableEq, Repr

/-- A written value that has not reached its apply point (R12 to R14). -/
structure Deferred where
  key : Nat
  val : Int
  point : Apply
  deriving DecidableEq, Repr

/-- An event of a class of a source, taken in by the marshal at the next tick (R223, R244). -/
structure FaultEvent where
  src : Nat
  cls : Nat
  data : List Byte
  fold : Bool := false   -- a further occurrence within the period of a record limit (R461)
  deriving DecidableEq, Repr

/-- A decided action, carried out at the next tick (R233). -/
inductive Due where
  | irq (i : Nat)                              -- post an interrupt source (R237)
  | railOff (r cls src : Nat)                  -- rail off, state failed
  | hiccup (r cls src retries level : Nat)     -- hiccup, or rail off when the retries are spent (R236)
  | depOff (r cls : Nat)                       -- dependants off (R200)
  | paddockOff (p r cls src : Nat)             -- paddock off (R207)
  | paddockCmd (p : Nat)                       -- paddock off by pad[p].cmd (R207)
  | safe (src cls level : Nat)                 -- enter SAFE
  | yieldToken (src cls level : Nat)           -- yield the role token (R235)
  deriving DecidableEq, Repr

/-- A record offered outside the marshal's events (R459). -/
structure Offer where
  code : Nat
  data : List Byte
  fold : Bool := false   -- a further occurrence within the period of a record limit (R461)
  deriving DecidableEq, Repr

/-- An entry of the record queue (R246). `fault` names the source, class and effective level of a logged event. -/
structure QEntry where
  code : Nat
  fault : Option (Nat × Nat × Nat)
  data : List Byte
  frame : Nat
  time : Nat
  valid : Bool           -- the RTC was valid in that frame (R427)
  op : Nat               -- sys.op_seconds in that frame
  cycles : Nat           -- sys.power_cycles in that frame
  repeats : Nat
  fold : Bool := false   -- to be added to the period's record in the ring (R461)
  deriving DecidableEq, Repr

/-- A response of the object protocol (R547). -/
structure Resp where
  opcode : Nat
  tid : Nat
  index : Nat
  sub : Nat
  status : Nat
  offset : Option Nat
  data : List Byte
  deriving DecidableEq, Repr

/-- A CAN FD frame as a port sends it: its identifier, its bit-rate switch, its padded data (R560). -/
structure CanFrame where
  marker : Nat
  kind : Nat
  dst : Nat
  src : Nat
  brs : Bool
  data : List Byte
  deriving DecidableEq, Repr

/-- Who waits for the end of a job (R45, R46). -/
inductive JobFor where
  | publicKey                 -- job 0: the public key (R495)
  | claim (port : Nat)        -- job 0: key agreement of a CLAIM (R499)
  | exportSign                -- job 1: the studbook export (R465)
  | snapSign                  -- job 1: the snapshot (R511)
  | imageVerify               -- job 2: the signature of an image (R517)
  | tagCheck (port : Nat)     -- job 3: the tag of a keyed command (R508)
  | imageCheck                -- job 4: image validation (R517)
  | commit                    -- job 5: NVM commit (R439)
  | discarded                 -- a job whose consumer has gone: it runs to its end (R45)
  deriving DecidableEq, Repr

/-- A job that waits or runs (R45). -/
structure Job where
  kind : Nat
  who : JobFor
  running : Bool
  deriving DecidableEq, Repr

/-- A line of the commit buffer (R436): its number, its 32 data bytes, the round it entered, and whether the commit
that runs took it. -/
structure BufLine where
  line : Nat
  data : List Byte
  entered : Nat
  committing : Bool
  deriving DecidableEq, Repr

/-- A write that waits for buffer room (R442). -/
structure Waiter where
  addr : Nat
  data : List Byte
  since : Nat
  scrub : Bool := false   -- a rewrite of the scrubber, dropped where the line has entered the buffer (R446)
  need : Nat := 1         -- entries that must be free for it: a write that is committed whole waits for room for all its lines (R519)
  deriving DecidableEq, Repr

/-- The persisted counters as the ledger region holds them: objects and hidden quantities by their keys (R435). -/
structure Saved where
  objs : FMap Int
  vars : FMap Int
  deriving DecidableEq, Repr

/-- A delta entry of a mirror frame (R266). -/
structure Delta where
  kind : Nat
  key : Nat
  value : Nat
  deriving DecidableEq, Repr

/-- Entries that wait in the delta queue under one key, sent consecutively (R268). -/
structure DqItem where
  prio : Nat
  kind : Nat
  key : Nat
  parts : List Delta
  deriving DecidableEq, Repr

/-- A sent entry that the twin has not yet acknowledged (R267): its sequence number and the frame it was last sent in. -/
structure SentDelta where
  seq : Nat
  frame : Nat
  delta : Delta
  deriving DecidableEq, Repr

/-- Messages that the service port sends (R401 to R409). -/
inductive PdMsg where
  | request (mv ma : Nat) | accept | reject | notSupported | prSwap | drSwap | hardReset | softReset
  | ack (vdos : List Nat) | nak | sourceCapabilities (l : List Pdo)
  deriving DecidableEq, Repr


/-- A protocol port (R555, R556, R558): the transaction it holds and what its row gives with it, the bytes a block transaction has
gathered, the last response, and the kept pair. -/
structure PortState where
  txn : Option Req          -- the transaction the port holds, not yet answered
  served : Nat              -- segments of it served so far
  gathered : List Byte      -- bytes read so far by a BLOCKREAD
  resp : Option Resp        -- the response that waits to be fetched or was sent last
  kept : Option (Req × Resp) -- the last request answered and its response
  copies : Nat := 0         -- with the transaction: the thermometer copies that verify (R503)
  answer : Option SwapAnswer := none -- with the transaction: the partner's answer to a role swap (R407)
  waits : List (Nat × Resp) := [] -- responses a CAN port has still to send, each with its destination: bus-off or NOTIFYs come first (R562, R563)
  sent : List CanFrame := []      -- the frames a CAN port has sent last (R560, R563)
  deriving DecidableEq, Repr

/-- A port at reset: it holds nothing. -/
def PortState.idle : PortState := { txn := none, served := 0, gathered := [], resp := none, kept := none }

/-- The state of the block. -/
structure State where
  pending : List Instr       -- commands waiting, first in, first out
  objs : FMap Int            -- dictionary objects in force, by key
  vars : FMap Int            -- hidden quantities, by `varKey`
  pins : FMap Int            -- sampled inputs, by `sigKey`
  deferred : List Deferred   -- writes waiting for their apply point, oldest first
  intake : List FaultEvent   -- events that qualified at the tick that began this frame, oldest first (R244)
  arrived : List FaultEvent  -- events that arose between ticks, for the intake scan of the next frame (R39)
  due : List Due             -- actions decided in the last frame
  offers : List Offer        -- non-fault records to offer after the marshal
  posts : List Nat           -- interrupt sources whose raw line is driven for one frame
  queue : List QEntry        -- the record queue of 256 entries, head first
  ports : Vector PortState 5 -- the protocol ports
  jobs : List Job   -- jobs waiting and running, in order of request (R45)
  mram : FMap Byte   -- the MRAM array: byte 38 l + b is byte b of the codeword of line l (R433)
  buf : List BufLine   -- the commit buffer, in order of entry (R436)
  waiters : List Waiter   -- writers that wait for buffer room, oldest first (R442)
  saved : Saved   -- the persisted counters as the last commit left them in the ledger region (R435, R436)
  saving : Saved   -- the same as the commit that runs writes them
  bad : List Nat   -- nvm.bad: addresses of uncorrectable lines, newest first (R445)
  otp : FMap Nat   -- OTP words as programmed, 64 data bits each; blank words read 0
  shadow : FMap Nat   -- OTP shadow registers (R447)
  otpSingle : List Nat   -- OTP words that sensing finds with one wrong bit (R447)
  otpDouble : List Nat   -- OTP words that sensing finds with two (R447)
  hists : FMap (List Int)   -- histories: lists of samples, newest first, by `varKey`
  dq : List DqItem   -- the delta queue, in order of queuing (R268)
  dsent : List SentDelta   -- sent entries not yet covered by the twin's ack (R267)
  dlast : FMap Int   -- the value last queued for each delta key
  mirrorTx : List Byte   -- the 256 payload bytes of the mirror frame assembled last (R265)
  journal : List (Nat × Int)   -- the journal of forwarded writes: object and latest value (R269)
  ledTx : List (Nat × Nat)   -- the ledger transaction that is outstanding: key and tokens (R270)
  ledRx : List (Nat × Nat)   -- staged entries of a ledger transaction being received (R270)
  fwdIn : List (Nat × List Byte)   -- write groups that have arrived and are to be applied (R269)
  trace : List (List Byte)   -- the trace of MGT RAM: one entry per frame, newest first, 960 at most (R468)
  bbImage : List Byte   -- the frozen lines 1 to 1,023 of the capture that runs (R468)
  expData : List Byte   -- header and records of the export (R466)
  expSig : List Byte   -- signature of the export
  lines : List Nat   -- interrupt sources whose raw line is high in this frame (R610)
  notify : List (Nat × Nat × Nat)   -- queued NOTIFYs: CAN port, source, frame.number [23:0] of the claim (R563)
  closeBlk : List Byte   -- the close block as slot 32 of the last frame left it: charge image, ev.total, H of the slots, in-flight list (R528)
  pdTx : List PdMsg   -- messages the service port sends in this frame (R401 to R409)
  slotKeys : List (List Byte)   -- unwrapped slot keys; empty where a slot is not enrolled (R502)
  pubKey : List Byte   -- key.pub once job 0 has computed it (R495)
  snapData : List Byte   -- header and state image of the snapshot (R511)
  snapSig : List Byte   -- signature of the snapshot
  romDfl : FMap Int   -- patched rule-ROM defaults: object and default plus 2^64 (R21, R571)
  keyQ : List (Nat × Nat)   -- keyed commands past the tag check, oldest first: slot and port (R509)
  reflect : List (Nat × List Byte) -- test frames to be sent back, each with the tick at which it is sent (R579)
  keptRecs : List QEntry   -- records 0x0320 kept in BKP retention or in the shelf retention word (R31, R345)
  free : Nat                 -- counter of free values drawn; the MODEL's own field
  deriving DecidableEq, Repr

/-- Why a step can stop with a fault: no rule of the spec stops the block, so no meaning raises one. -/
inductive Fault where
  /-- Raised by no meaning: the spec describes what the block does on every command (safe). -/
  | none
  deriving DecidableEq, Repr

/-- Why a step can be refused. -/
inductive Refusal where
  /-- A command that has no meaning yet: raised by the arms of `exec` only, by name (safe). -/
  | notModelled (mnemonic : String)
  deriving DecidableEq, Repr

/-- The outcome of a command. -/
abbrev Out := Host.Outcome State Fault Refusal

/-- The key of a hidden quantity. -/
def varKey (k : VarKind) (i j : Nat) : Nat := Nat.pair k.ctorIdx (Nat.pair i j)

/-- The key of a sampled input. -/
def sigKey (g : Sig) (i : Nat) : Nat := Nat.pair g.ctorIdx i

/-- A dictionary object in force. -/
def State.o (s : State) (k : Nat) : Int := FMap.get (dictDefault k) s.objs k

/-- Set a dictionary object. -/
def State.setO (s : State) (k : Nat) (v : Int) : State := { s with objs := FMap.set (dictDefault k) s.objs k v }

/-- A hidden quantity. -/
def State.var (s : State) (k : VarKind) (i : Nat := 0) (j : Nat := 0) : Int := FMap.get 0 s.vars (varKey k i j)

/-- Set a hidden quantity. -/
def State.setVar (s : State) (k : VarKind) (v : Int) (i : Nat := 0) (j : Nat := 0) : State :=
  { s with vars := FMap.set 0 s.vars (varKey k i j) v }

/-- A history of samples, newest first. -/
def State.hist (s : State) (k : VarKind) (i : Nat := 0) : List Int := FMap.get [] s.hists (varKey k i 0)

/-- Replace a history. -/
def State.setHist (s : State) (k : VarKind) (l : List Int) (i : Nat := 0) : State :=
  { s with hists := FMap.set [] s.hists (varKey k i 0) l }

/-- The level of an input that nothing has sampled: EARLY_N and LATE_N are pulled up, every other one is at 0 (R600). -/
def pinRest (g : Sig) : Int := if g = .earlyN ∨ g = .lateN then 1 else 0

/-- A sampled input. The list of inputs holds the difference from the level at rest. -/
def State.pin (s : State) (g : Sig) (i : Nat := 0) : Int := FMap.get 0 s.pins (sigKey g i) + pinRest g

/-- Set a sampled input. -/
def State.setPin (s : State) (g : Sig) (v : Int) (i : Nat := 0) : State :=
  { s with pins := FMap.set 0 s.pins (sigKey g i) (v - pinRest g) }

/-- The block as MGT reset release finds it: every object at its dictionary default (sys.mode BOOT), every buffer
empty, nothing waiting. MGT_POWER_ON_RESET loads OTP, rule ROM, patches and bank from here. -/
def State.reset : State where
  pending := []
  objs := []
  vars := []
  pins := []
  deferred := []
  intake := []
  arrived := []
  due := []
  offers := []
  posts := []
  queue := []
  ports := Vector.replicate 5 PortState.idle
  jobs := []
  mram := []
  buf := []
  waiters := []
  saved := ⟨[], []⟩
  saving := ⟨[], []⟩
  bad := []
  otp := []
  shadow := []
  otpSingle := []
  otpDouble := []
  hists := []
  dq := []
  dsent := []
  dlast := []
  mirrorTx := []
  journal := []
  ledTx := []
  ledRx := []
  fwdIn := []
  trace := []
  bbImage := []
  expData := []
  expSig := []
  lines := []
  notify := []
  closeBlk := []
  pdTx := []
  slotKeys := [[], [], [], []]
  pubKey := []
  snapData := []
  snapSig := []
  romDfl := []
  keyQ := []
  reflect := []
  keptRecs := []
  free := 0

end Sys2Proof.Machine
end

