-- ==== Sys2Proof/Machine/Ops.lean ====
section
/-!
DEFINITION. The named operations over the state that every chapter shares: typed reads of objects and hidden
quantities, bit fields, counters, timers (R49), qualification counters (R48), raising an event (R223), offering a
record (R459), posting an interrupt (R610), requesting a mode (R24), and drawing a free value.
-/

namespace Sys2Proof.Machine

/-- The modes of R24 and the mode table. -/
inductive Mode where
  | shelf | backup | boot | setup | run | holdup | bench | safe
  deriving DecidableEq, Repr

/-- The code of a mode in sys.mode. -/
def Mode.code : Mode → Nat
  | .shelf => 0 | .backup => 1 | .boot => 2 | .setup => 3 | .run => 4 | .holdup => 5 | .bench => 6 | .safe => 7

/-- The mode a code stands for; reserved codes, which sys.mode never holds, read as SAFE. -/
def Mode.ofCode (n : Nat) : Mode :=
  if n = 0 then .shelf else if n = 1 then .backup else if n = 2 then .boot else if n = 3 then .setup
  else if n = 4 then .run else if n = 5 then .holdup else if n = 6 then .bench else .safe

namespace State

/-- A dictionary object as a number. -/
def oN (s : State) (k : Nat) : Nat := (s.o k).toNat

/-- A dictionary object as a truth value. -/
def oB (s : State) (k : Nat) : Bool := decide (s.o k ≠ 0)

/-- A hidden quantity as a number. -/
def varN (s : State) (k : VarKind) (i : Nat := 0) (j : Nat := 0) : Nat := (s.var k i j).toNat

/-- A hidden quantity as a truth value. -/
def varB (s : State) (k : VarKind) (i : Nat := 0) (j : Nat := 0) : Bool := decide (s.var k i j ≠ 0)

/-- A sampled input as a truth value. -/
def pinB (s : State) (g : Sig) (i : Nat := 0) : Bool := decide (s.pin g i ≠ 0)

/-- Truth values as 0 and 1. -/
def ofBool (b : Bool) : Int := if b then 1 else 0

/-- Set a hidden flag. -/
def setFlag (s : State) (k : VarKind) (b : Bool) (i : Nat := 0) (j : Nat := 0) : State := s.setVar k (ofBool b) i j

/-- Set a boolean object. -/
def setOB (s : State) (k : Nat) (b : Bool) : State := s.setO k (ofBool b)

/-- One bit of an object. -/
def bit (s : State) (k b : Nat) : Bool := (s.oN k).testBit b

/-- A number with one bit replaced. -/
def putBit (n b : Nat) (v : Bool) : Nat :=
  if n.testBit b = v then n else if v then n + 2 ^ b else n - 2 ^ b

/-- Replace one bit of an object. -/
def setBit (s : State) (k b : Nat) (v : Bool) : State := s.setO k (putBit (s.oN k) b v)

/-- Add to an object. -/
def addO (s : State) (k : Nat) (d : Int) : State := s.setO k (s.o k + d)

/-- Add to a hidden quantity. -/
def addVar (s : State) (k : VarKind) (d : Int) (i : Nat := 0) (j : Nat := 0) : State := s.setVar k (s.var k i j + d) i j

/-- Count one more in a counter of `w` bits; after its last value the counter reads what the spec leaves open. -/
def bump (s : State) (k : Nat) (w : Nat := 32) : State :=
  s.setO k (if s.o k + 1 < 2 ^ w then s.o k + 1 else Config.counterAfterLast k)

/-- Count one more in a counter that its chapter says saturates. -/
def bumpSat (s : State) (k : Nat) (last : Int := 4294967295) : State :=
  s.setO k (if s.o k < last then s.o k + 1 else last)

/-- Add to a counter that saturates. -/
def addSat (s : State) (k : Nat) (d : Int) (last : Int) : State :=
  s.setO k (if s.o k + d ≤ last then s.o k + d else last)

/-- The mode in force. -/
def mode (s : State) : Mode := Mode.ofCode (s.oN Obj.sysMode)

/-- Is MGT powered? BACKUP entry, the shelf latch and R612 take its power; a BOOT gives it back. -/
def mgtOn (s : State) : Bool := !s.varB .mgtLost

/-- Is MAIN powered? -/
def mainOn (s : State) : Bool := s.varB .mainOn

/-- Frames since the last power-on, not wrapped: the time base of timers. -/
def now (s : State) : Nat := s.varN .now

/-- Rounds since the last power-on, not wrapped. -/
def nowRound (s : State) : Nat := s.varN .nowRound

/-- Is the RTC valid (R427)? -/
def rtcValid (s : State) : Bool := s.bit Obj.rtcStatus 1

/-- The TIME48 that this frame's records carry: the snapshot of R419, zero if the RTC is not valid. -/
def timeNow (s : State) : Nat := if s.rtcValid then s.oN Obj.rtcNow else 0

/-- Start a timer of `t` frames (R49). The quantity holds the expiry frame plus one; 0 means not running. -/
def startT (s : State) (k : VarKind) (t : Nat) (i : Nat := 0) (j : Nat := 0) : State :=
  s.setVar k ((s.now + t + 1 : Nat) : Int) i j

/-- Start a timer of `t` rounds (R49). -/
def startTR (s : State) (k : VarKind) (t : Nat) (i : Nat := 0) (j : Nat := 0) : State :=
  s.setVar k ((s.nowRound + t + 1 : Nat) : Int) i j

/-- Stop a timer. -/
def stopT (s : State) (k : VarKind) (i : Nat := 0) (j : Nat := 0) : State := s.setVar k 0 i j

/-- Has a timer of frames expired? -/
def dueT (s : State) (k : VarKind) (i : Nat := 0) (j : Nat := 0) : Bool :=
  s.varB k i j && decide (s.varN k i j ≤ s.now + 1)

/-- Has a timer of rounds expired? -/
def dueTR (s : State) (k : VarKind) (i : Nat := 0) (j : Nat := 0) : Bool :=
  s.varB k i j && decide (s.varN k i j ≤ s.nowRound + 1)

/-- Frames left on a timer. -/
def leftT (s : State) (k : VarKind) (i : Nat := 0) (j : Nat := 0) : Nat := s.varN k i j - 1 - s.now

/-- A qualification counter after one sample of its condition (R48): one false sample restarts it. -/
def countCond (s : State) (k : VarKind) (c : Bool) (i : Nat := 0) (j : Nat := 0) : State :=
  if c then s.setVar k (s.var k i j + 1) i j else s.setVar k 0 i j

/-- Has a condition been true at `t` consecutive ticks? A time of 0 is met at the first true sample (R48). -/
def metCond (s : State) (k : VarKind) (t : Nat) (i : Nat := 0) (j : Nat := 0) : Bool :=
  decide (max t 1 ≤ s.varN k i j)

/-- Raise a class that reports an action: one event (R223). -/
def raiseAction (s : State) (src cls : Nat) (data : List Byte) : State :=
  { s with intake := s.intake ++ [{ src := src, cls := cls, data := data }] }

/-- Is the condition of a class present (src[s].cond)? -/
def condOn (s : State) (src cls : Nat) : Bool := s.bit (Obj.srcCond src) cls

/-- Raise a class whose condition has qualified: one event, and none further while the condition stays (R223). -/
def raise (s : State) (src cls : Nat) (data : List Byte) : State :=
  if s.condOn src cls then s else (s.raiseAction src cls data).setBit (Obj.srcCond src) cls true

/-- Raise a class that reports an action between ticks: the next tick samples it (R39, R223). -/
def raiseActionLater (s : State) (src cls : Nat) (data : List Byte) : State :=
  { s with arrived := s.arrived ++ [{ src := src, cls := cls, data := data }] }

/-- Raise a class whose condition arises between ticks: the next tick samples it (R39, R223). -/
def raiseLater (s : State) (src cls : Nat) (data : List Byte) : State :=
  if s.condOn src cls then s else (s.raiseActionLater src cls data).setBit (Obj.srcCond src) cls true

/-- The tick samples what arose in the frame that ends (R39): its events go to the intake scan. -/
def takeArrived (s : State) : State := { s with intake := s.intake ++ s.arrived, arrived := [] }

/-- A condition sampled false (R223, R240). -/
def condOff (s : State) (src cls : Nat) : State :=
  if s.condOn src cls then s.setBit (Obj.srcCond src) cls false else s

/-- Offer a record that is not a fault event (R459). -/
def record (s : State) (code : Nat) (data : List Byte) : State := { s with offers := s.offers ++ [{ code := code, data := data }] }

/-- Offer a record that is written at most once per period of an owner's limit; a further one in the period is a fold
(R461). `stamp` names the period; the limit is kept per code and key. -/
def recordPer (s : State) (code key stamp : Nat) (data : List Byte) : State :=
  if s.varN .limitStamp code key = stamp + 1 then
    { s with offers := s.offers ++ [{ code := code, data := data, fold := true }] }
  else (s.record code data).setVar .limitStamp ((stamp + 1 : Nat) : Int) code key

/-- Raise a class whose record is limited to one per period (R461); every occurrence is counted. -/
def raisePer (s : State) (src cls stamp : Nat) (data : List Byte) : State :=
  if s.varN .limitStampSrc src cls = stamp + 1 then
    { s with intake := s.intake ++ [{ src := src, cls := cls, data := data, fold := true }] }
  else (s.raiseAction src cls data).setVar .limitStampSrc ((stamp + 1 : Nat) : Int) src cls

/-- The same for an occurrence between ticks, which the next tick samples (R39). -/
def raisePerLater (s : State) (src cls stamp : Nat) (data : List Byte) : State :=
  if s.varN .limitStampSrc src cls = stamp + 1 then
    { s with arrived := s.arrived ++ [{ src := src, cls := cls, data := data, fold := true }] }
  else (s.raiseActionLater src cls data).setVar .limitStampSrc ((stamp + 1 : Nat) : Int) src cls

/-- Post an interrupt source: its raw line is driven for one frame (R610). -/
def post (s : State) (i : Nat) : State := { s with posts := s.posts ++ [i] }

/-- Ask for a mode transition, to be evaluated at the next tick (R24, R28). The quantity holds the cause plus one. -/
def requestMode (s : State) (m : Mode) (cause : Nat) : State :=
  s.setVar .modeReq ((cause + 1 : Nat) : Int) m.code

/-- Write bytes of the MRAM array. -/
def writeMram (s : State) (a : Nat) (d : List Byte) : State := { s with mram := FMap.setMany 0 s.mram a d }

/-- Burn bits into an OTP word and its shadow register: an antifuse bit once set stays set. -/
def burnFuse (s : State) (w v : Nat) : State :=
  { s with otp := FMap.set 0 s.otp w (FMap.get 0 s.otp w ||| v), shadow := FMap.set 0 s.shadow w (FMap.get 0 s.shadow w ||| v) }

/-- Set the shadow register of an OTP word. -/
def setShadow (s : State) (w v : Nat) : State := { s with shadow := FMap.set 0 s.shadow w v }

/-- Keep a rule-ROM default that a patch or OTP word 34 gives, plus 2^64. -/
def setRom (s : State) (k : Nat) (v : Int) : State := { s with romDfl := FMap.set 0 s.romDfl k v }

/-- No rule-ROM default is patched. -/
def clearRom (s : State) : State := { s with romDfl := [] }

/-- Keep the value queued last for a delta key. -/
def setLast (s : State) (k : Nat) (v : Int) : State := { s with dlast := FMap.set (-1) s.dlast k v }

/-- No value of a delta key has been queued. -/
def clearLast (s : State) : State := { s with dlast := [] }

/-- Objects outside a class go back to their defaults. -/
def keepObjs (s : State) (p : Nat → Bool) : State := { s with objs := s.objs.filter fun e => p e.1 }

/-- Hidden quantities outside a class go back to 0. -/
def keepVars (s : State) (p : Nat → Bool) : State := { s with vars := s.vars.filter fun e => p e.1 }

/-- Histories outside a class are emptied. -/
def keepHists (s : State) (p : Nat → Bool) : State := { s with hists := s.hists.filter fun e => p e.1 }

/-- Draw a free value: a number the spec leaves open. -/
def drawFree (s : State) : Nat × State := (Config.freeValue s.free, { s with free := s.free + 1 })

/-- Apply `f` for each of the numbers 0 to `n − 1` in rising order. -/
def forRange (n : Nat) (f : Nat → State → State) (s : State) : State :=
  match n with
  | 0 => s
  | n + 1 => f n (forRange n f s)

/-- Apply `f` for each member of a list in order. -/
def forEach {α : Type} (l : List α) (f : α → State → State) (s : State) : State := l.foldl (fun t a => f a t) s

end State

/-- What arises between ticks, or in a dictionary slot, is sampled at the next tick (R39, R244). -/
def lateEvents (f : State → State) (s : State) : State :=
  let t := f s
  { t with intake := s.intake, arrived := t.arrived ++ t.intake.drop s.intake.length }

/-- Enough bytes of a record: 8, padded with the reserved value 0 (R458). -/
def pad8 (d : List Byte) : List Byte := (d ++ List.replicate 8 0).take 8

/-- One byte. -/
def u8 (n : Int) : List Byte := leBytes 1 (toTwos 8 n)
/-- Two bytes, least significant first. -/
def u16 (n : Int) : List Byte := leBytes 2 (toTwos 16 n)
/-- Four bytes, least significant first. -/
def u32 (n : Int) : List Byte := leBytes 4 (toTwos 32 n)
/-- Six bytes, least significant first (TIME48). -/
def u48 (n : Int) : List Byte := leBytes 6 (toTwos 48 n)

/-- Keep a value within a range. -/
def clamp (lo hi v : Int) : Int := if v < lo then lo else if hi < v then hi else v

/-- Division rounded to the nearest number, a tie to the even one (R9). -/
def divNearest (a b : Int) : Int :=
  let q := a / b
  let r := a % b
  if 2 * r < b then q else if b < 2 * r then q + 1 else if q % 2 = 0 then q else q + 1

end Sys2Proof.Machine
end

