-- ==== Sys2Proof/Machine/Operands.lean ====
section
/-!
DEFINITION. The operand forms of the object protocol: the status codes of R15, the encoding of a value by its type
(R5, R8), and the calendar form of rtc.set_cal (R419, R420).
-/

namespace Sys2Proof.Machine

/-- The status codes of R15. -/
inductive Status where
  | ok | noObject | noSub | denied | tagInvalid | counterStale | outOfRange | stateForbids | busy | mismatch
  | notOwner | locked | impossible
  deriving DecidableEq, Repr

/-- The code a response carries. -/
def Status.code : Status → Nat
  | .ok => 0 | .noObject => 1 | .noSub => 2 | .denied => 3 | .tagInvalid => 4 | .counterStale => 5
  | .outOfRange => 6 | .stateForbids => 7 | .busy => 8 | .mismatch => 9 | .notOwner => 10 | .locked => 11
  | .impossible => 12

/-- The value that bytes of a type stand for (R5, R8). -/
def decodeVal (t : Ty) (d : List Byte) : Int :=
  if t.signed then ofTwos (8 * t.size) (ofLeBytes d) else ((ofLeBytes d : Nat) : Int)

/-- The bytes of a value of a type (R5, R8). -/
def encodeVal (t : Ty) (v : Int) : List Byte := leBytes t.size (toTwos (8 * t.size) v)

/-- Days from 2000-01-01 to a Gregorian date with no leap seconds (R417), counted in 400-year eras from March. -/
def daysOf (year month day : Nat) : Nat :=
  let y := if month ≤ 2 then year - 1 else year
  let yoe := y % 400
  let doy := (153 * (if month > 2 then month - 3 else month + 9) + 2) / 5 + day - 1
  let doe := yoe * 365 + yoe / 4 - yoe / 100 + doy
  y / 400 * 146097 + doe - 730425

/-- The date of a day counted from 2000-01-01: year, month, day. -/
def dateOf (days : Nat) : Nat × Nat × Nat :=
  let z := days + 730425
  let era := z / 146097
  let doe := z % 146097
  let yoe := (doe - doe / 1460 + doe / 36524 - doe / 146096) / 365
  let doy := doe - (365 * yoe + yoe / 4 - yoe / 100)
  let mp := (5 * doy + 2) / 153
  let d := doy - (153 * mp + 2) / 5 + 1
  let m := if mp < 10 then mp + 3 else mp - 9
  (yoe + era * 400 + (if m ≤ 2 then 1 else 0), m, d)

/-- Leap years of R417. -/
def isLeap (y : Nat) : Bool := decide ((y % 4 = 0 ∧ y % 100 ≠ 0) ∨ y % 400 = 0)

/-- Length of a month. -/
def monthLen (y m : Nat) : Nat :=
  if m = 2 then (if isLeap y then 29 else 28) else if m = 4 ∨ m = 6 ∨ m = 9 ∨ m = 11 then 30 else 31

/-- The weekday of a day counted from 2000-01-01 (R419): 1 Monday to 7 Sunday. -/
def weekdayOf (days : Nat) : Nat := (days + 5) % 7 + 1

/-- The 8 calendar bytes of a number of seconds since 2000-01-01, as one number (R5, R419). -/
def calendarOf (sec : Nat) : Nat :=
  let days := sec / 86400
  let (y, m, d) := dateOf days
  let r := sec % 86400
  y + 65536 * (m + 256 * (d + 256 * (r / 3600 + 256 * (r / 60 % 60 + 256 * (r % 60 + 256 * weekdayOf days)))))

/-- The seconds a calendar form stands for, where it is a possible date (R420). -/
def secondsOf (c : Nat) : Option Nat :=
  let y := c % 65536
  let m := c / 2 ^ 16 % 256
  let d := c / 2 ^ 24 % 256
  let h := c / 2 ^ 32 % 256
  let mi := c / 2 ^ 40 % 256
  let se := c / 2 ^ 48 % 256
  let w := c / 2 ^ 56 % 256
  if 2000 ≤ y ∧ y ≤ 2399 ∧ 1 ≤ m ∧ m ≤ 12 ∧ 1 ≤ d ∧ d ≤ monthLen y m ∧ h ≤ 23 ∧ mi ≤ 59 ∧ se ≤ 59 ∧
      (w = 0 ∨ w = weekdayOf (daysOf y m d)) then
    some (daysOf y m d * 86400 + h * 3600 + mi * 60 + se)
  else none

end Sys2Proof.Machine
end

