-- ==== Sys2Proof/Machine/Crypto.lean ====
section
/-!
DEFINITION. The algorithms that Identity, Keyed Commands and Tack Images names (spec/18_security_and_update.md): SHA-256,
HMAC and HKDF-SHA-256 (R500, RFC 5869), AES-128 and CMAC (R507, NIST SP 800-38B), ECDH and ECDSA on P-256 (R499, R512).
-/

namespace Sys2Proof.Machine

/-- The `n` low bytes of a number, most significant first. -/
def beBytes (n v : Nat) : List Byte := (leBytes n v).reverse

/-- The number that bytes spell, most significant first. -/
def ofBeBytes (d : List Byte) : Nat := ofLeBytes d.reverse

/-! ## SHA-256 -/

/-- The largest number whose `k`-th power is at most `n`, by bits from `b` down. -/
def rootBits (k n : Nat) : Nat → Nat → Nat
  | 0, r => r
  | b + 1, r => rootBits k n b (if (r + 2 ^ b) ^ k ≤ n then r + 2 ^ b else r)

/-- The first 64 primes. -/
def primes64 : List Nat := ((List.range 312).filter fun n => 2 ≤ n && (List.range n).all fun d => d < 2 || n % d != 0)

/-- The first 32 bits of the fraction of the cube roots of the first 64 primes. -/
def shaK : List (BitVec 32) := primes64.map fun p => BitVec.ofNat 32 (rootBits 3 (p * 2 ^ 96) 40 0)

/-- The first 32 bits of the fraction of the square roots of the first 8 primes. -/
def shaInit : List (BitVec 32) := (primes64.take 8).map fun p => BitVec.ofNat 32 (rootBits 2 (p * 2 ^ 64) 40 0)

/-- One round of the compression on the eight words a to h. -/
def shaRound (v : List (BitVec 32)) (kw : BitVec 32) : List (BitVec 32) :=
  let x (i : Nat) : BitVec 32 := v.getD i 0
  let e := x 4
  let a := x 0
  let s1 := e.rotateRight 6 ^^^ e.rotateRight 11 ^^^ e.rotateRight 25
  let ch := (e &&& x 5) ^^^ (~~~e &&& x 6)
  let t1 := x 7 + s1 + ch + kw
  let s0 := a.rotateRight 2 ^^^ a.rotateRight 13 ^^^ a.rotateRight 22
  let maj := (a &&& x 1) ^^^ (a &&& x 2) ^^^ (x 1 &&& x 2)
  [t1 + s0 + maj, a, x 1, x 2, x 3 + t1, e, x 5, x 6]

/-- The message schedule, newest word first, from the 16 words of a block. -/
def shaSchedule : Nat → List (BitVec 32) → List (BitVec 32)
  | 0, w => w
  | n + 1, w =>
    let x (i : Nat) : BitVec 32 := w.getD i 0
    let s0 := (x 14).rotateRight 7 ^^^ (x 14).rotateRight 18 ^^^ (x 14 >>> 3)
    let s1 := (x 1).rotateRight 17 ^^^ (x 1).rotateRight 19 ^^^ (x 1 >>> 10)
    shaSchedule n ((x 15 + s0 + x 6 + s1) :: w)

/-- The words of a block of 64 bytes. -/
def shaWords (b : List Byte) : List (BitVec 32) :=
  (List.range 16).map fun i => BitVec.ofNat 32 (ofBeBytes ((b.drop (4 * i)).take 4))

/-- The compression of one block. -/
def shaBlock (h : List (BitVec 32)) (b : List Byte) : List (BitVec 32) :=
  let w := (shaSchedule 48 (shaWords b).reverse).reverse
  List.zipWith (· + ·) h ((List.zipWith (· + ·) shaK w).foldl shaRound h)

/-- The compression of so many blocks in turn. -/
def shaBlocks : Nat → List (BitVec 32) → List Byte → List (BitVec 32)
  | 0, h, _ => h
  | n + 1, h, d => shaBlocks n (shaBlock h (d.take 64)) (d.drop 64)

/-- SHA-256 of bytes. -/
def sha256 (d : List Byte) : List Byte :=
  let n := d.length
  let pad := (0x80 : Byte) :: List.replicate ((119 - n % 64) % 64) 0 ++ beBytes 8 (8 * n)
  let m := d ++ pad
  (shaBlocks (m.length / 64) shaInit m).flatMap fun w => beBytes 4 w.toNat

/-- HMAC-SHA-256. -/
def hmac (key msg : List Byte) : List Byte :=
  let k := if 64 < key.length then sha256 key else key
  let k := k ++ List.replicate (64 - k.length) 0
  sha256 (k.map (· ^^^ 0x5C) ++ sha256 (k.map (· ^^^ 0x36) ++ msg))

/-- The first 32 bytes of HKDF-SHA-256 (RFC 5869), which are all that the chapter uses. -/
def hkdf32 (ikm salt info : List Byte) : List Byte := hmac (hmac salt ikm) (info ++ [1])

/-! ## AES-128 -/

/-- Doubling in the field of AES. -/
def aesDouble (a : Byte) : Byte := if a.getMsbD 0 then (a <<< 1) ^^^ 0x1B else a <<< 1

/-- Product in the field of AES. -/
def aesMul (a b : Byte) : Byte :=
  ((List.range 8).foldl (fun (p : Byte × Byte) i => (if b.getLsbD i then p.1 ^^^ p.2 else p.1, aesDouble p.2)) (0, a)).1

/-- The power 254: the inverse, with 0 for 0. -/
def aesInv (a : Byte) : Byte :=
  let a2 := aesMul a a
  let a4 := aesMul a2 a2
  let a8 := aesMul a4 a4
  let a16 := aesMul a8 a8
  let a32 := aesMul a16 a16
  let a64 := aesMul a32 a32
  aesMul (aesMul (aesMul (aesMul a64 a64) a64) (aesMul a32 a16)) (aesMul (aesMul a8 a4) a2)

/-- The substitution box. -/
def aesSub (a : Byte) : Byte :=
  let b := aesInv a
  b ^^^ b.rotateLeft 1 ^^^ b.rotateLeft 2 ^^^ b.rotateLeft 3 ^^^ b.rotateLeft 4 ^^^ 0x63

/-- The round keys of `n` rounds from the key on, the last first; `rc` is the round constant. -/
def aesKeys : Nat → Byte → List Byte → List (List Byte)
  | 0, _, _ => []
  | n + 1, rc, k =>
    let w (i : Nat) : List Byte := (k.drop (4 * i)).take 4
    let x := List.zipWith (· ^^^ ·)
    let t := match (w 3).drop 1 ++ (w 3).take 1 with
      | [] => []
      | b :: bs => (aesSub b ^^^ rc) :: bs.map aesSub
    let w0 := x (w 0) t
    let w1 := x (w 1) w0
    let w2 := x (w 2) w1
    let k2 := w0 ++ w1 ++ w2 ++ x (w 3) w2
    k2 :: aesKeys n (aesDouble rc) k2

/-- Substitute and shift the rows of the state, held by columns. -/
def aesShift (s : List Byte) : List Byte := (List.range 16).map fun i => aesSub (s.getD ((i + 4 * (i % 4)) % 16) 0)

/-- Mix the columns. -/
def aesMix (s : List Byte) : List Byte :=
  (List.range 16).map fun i =>
    let b (j : Nat) : Byte := s.getD (4 * (i / 4) + (i + j) % 4) 0
    aesDouble (b 0) ^^^ aesDouble (b 1) ^^^ b 1 ^^^ b 2 ^^^ b 3

/-- AES-128 encryption of one block. -/
def aesEncrypt (key block : List Byte) : List Byte :=
  let x := List.zipWith (fun a b : Byte => a ^^^ b)
  let ks := aesKeys 10 1 key
  let s := (ks.take 9).foldl (fun s k => x (aesMix (aesShift s)) k) (x block key)
  x (aesShift s) (ks.getD 9 [])

/-- The inverse of the substitution box, by search. -/
def aesUnsub (a : Byte) : Byte := (((List.range 256).map (BitVec.ofNat 8)).find? fun b => aesSub b == a).getD 0

/-- Undo `aesShift`. -/
def aesUnshift (s : List Byte) : List Byte := (List.range 16).map fun i => aesUnsub (s.getD ((i + 12 * (i % 4)) % 16) 0)

/-- Undo `aesMix`. -/
def aesUnmix (s : List Byte) : List Byte := aesMix (aesMix (aesMix s))

/-- AES-128 decryption of one block: the unwrapping of a slot key (R501, R502). -/
def aesDecrypt (key block : List Byte) : List Byte :=
  let x := List.zipWith (fun a b : Byte => a ^^^ b)
  let ks := aesKeys 10 1 key
  let s := aesUnshift (x block (ks.getD 9 []))
  let s := (ks.take 9).reverse.foldl (fun s k => aesUnshift (aesUnmix (x s k))) s
  x s key

/-- The doubling of CMAC in GF(2^128). -/
def cmacDouble (v : Nat) : Nat := if v.testBit 127 then ((2 * v) % 2 ^ 128) ^^^ 0x87 else 2 * v

/-- The chaining of CMAC over whole blocks. -/
def cmacChain (key : List Byte) : Nat → List Byte → List Byte → List Byte
  | 0, c, _ => c
  | n + 1, c, d => cmacChain key n (aesEncrypt key (List.zipWith (· ^^^ ·) c (d.take 16))) (d.drop 16)

/-- CMAC-AES-128 (NIST SP 800-38B). -/
def cmac (key msg : List Byte) : List Byte :=
  let k1 := cmacDouble (ofBeBytes (aesEncrypt key (List.replicate 16 0)))
  let n := (msg.length - 1) / 16
  let last := msg.drop (16 * n)
  let last :=
    if last.length = 16 then List.zipWith (· ^^^ ·) last (beBytes 16 k1)
    else List.zipWith (· ^^^ ·) (last ++ (0x80 : Byte) :: List.replicate (15 - last.length) 0) (beBytes 16 (cmacDouble k1))
  cmacChain key (n + 1) (List.replicate 16 0) (msg.take (16 * n) ++ last)

/-! ## P-256 -/

/-- The field prime. -/
def p256p : Nat := 2 ^ 256 - 2 ^ 224 + 2 ^ 192 + 2 ^ 96 - 1
/-- The order of the base point. -/
def p256n : Nat := 0xFFFFFFFF00000000FFFFFFFFFFFFFFFFBCE6FAADA7179E84F3B9CAC2FC632551
/-- The coefficient b of the curve. -/
def p256b : Nat := 0x5AC635D8AA3A93E7B3EBBD55769886BC651D06B0CC53B0F63BCE3C3E27D2604B
/-- The base point. -/
def p256G : Nat × Nat :=
  (0x6B17D1F2E12C4247F8BCE6E563A440F277037D812DEB33A0F4A13945D898C296,
   0x4FE342E2FE1A7F9B8EE7EB4A7C0F9E162BCE33576B315ECECBB6406837BF51F5)

/-- A power modulo `m`, over the bits of the exponent from the lowest of `n`. -/
def powMod (m : Nat) : Nat → Nat → Nat → Nat → Nat
  | 0, _, _, acc => acc
  | n + 1, b, e, acc => powMod m n (b * b % m) (e / 2) (if e % 2 = 1 then acc * b % m else acc)

/-- The inverse modulo a prime. -/
def invMod (m a : Nat) : Nat := powMod m 256 (a % m) (m - 2) 1

/-- The sum of two points; none is the point at infinity. -/
def ecAdd (a b : Option (Nat × Nat)) : Option (Nat × Nat) :=
  match a, b with
  | none, q => q
  | p, none => p
  | some (x1, y1), some (x2, y2) =>
    if x1 = x2 ∧ (y1 + y2) % p256p = 0 then none
    else
      let m := p256p
      let l := if x1 = x2 then (3 * x1 * x1 + m - 3) * invMod m (2 * y1) % m else (y2 + m - y1) * invMod m (x2 + m - x1) % m
      let x := (l * l + 2 * m - x1 - x2) % m
      some (x, (l * (x1 + m - x) + m - y1) % m)

/-- A multiple of a point, over the bits of the factor from the lowest of `n`. -/
def ecMulLoop : Nat → Nat → Option (Nat × Nat) → Option (Nat × Nat) → Option (Nat × Nat)
  | 0, _, _, acc => acc
  | n + 1, k, p, acc => ecMulLoop n (k / 2) (ecAdd p p) (if k % 2 = 1 then ecAdd acc p else acc)

/-- A multiple of a point. -/
def ecMul (k : Nat) (p : Nat × Nat) : Option (Nat × Nat) := ecMulLoop 256 k (some p) none

/-- The point that 64 bytes of a public key stand for, where it is on the curve (R493, R498). -/
def pointOf (d : List Byte) : Option (Nat × Nat) :=
  let x := ofBeBytes (d.take 32)
  let y := ofBeBytes ((d.drop 32).take 32)
  if x < p256p ∧ y < p256p ∧ y * y % p256p = (x * x * x + (p256p - 3) * x + p256b) % p256p then some (x, y) else none

/-- The 64 bytes of a point. -/
def pointBytes (p : Option (Nat × Nat)) : List Byte :=
  match p with
  | some (x, y) => beBytes 32 x ++ beBytes 32 y
  | none => List.replicate 64 0

/-- The public key of a private scalar. -/
def publicKey (d : Nat) : List Byte := pointBytes (ecMul d p256G)

/-- The X coordinate of the shared point (R499). -/
def ecdhX (d : Nat) (q : List Byte) : List Byte :=
  match pointOf q with
  | some p => (match ecMul d p with | some (x, _) => beBytes 32 x | none => List.replicate 32 0)
  | none => List.replicate 32 0

/-- An ECDSA signature of a digest under a private scalar with the secret number `k`: r and then s (R466). -/
def ecdsaSign (d k : Nat) (digest : List Byte) : List Byte :=
  let r := match ecMul k p256G with | some (x, _) => x % p256n | none => 0
  let z := ofBeBytes digest
  beBytes 32 r ++ beBytes 32 (invMod p256n k * (z + r * d) % p256n)

/-- Does an ECDSA signature of a digest verify against a public key (R517)? -/
def ecdsaVerify (pub digest sig : List Byte) : Bool :=
  let r := ofBeBytes (sig.take 32)
  let t := ofBeBytes ((sig.drop 32).take 32)
  match pointOf pub with
  | none => false
  | some q =>
    if r = 0 ∨ p256n ≤ r ∨ t = 0 ∨ p256n ≤ t then false
    else
      let w := invMod p256n t
      match ecAdd (ecMul (ofBeBytes digest * w % p256n) p256G) (ecMul (r * w % p256n) q) with
      | some (x, _) => decide (x % p256n = r)
      | none => false

end Sys2Proof.Machine
end

