-- ==== Sys2Proof/Machine/Drive.lean ====
section
/-!
DEFINITION. What the chapters of Phase Control, of rails and of phase health share: time in steps of 78.125 ps, the
state of a rail of any kind, the lists, roles and interleave of a multiphase rail, the state of a PWM pad (R93), and
taking a rail off at once (R123).
-/

namespace Sys2Proof.Machine

/-! ## Time within a frame -/

/-- Steps of 78.125 ps in an FCLK cycle (R66). -/
def stepsPerCycle : Nat := 32

/-- Steps in a frame of 400 FCLK cycles. -/
def stepsPerFrame : Nat := 12800

/-- The instant `at_` steps after the tick that began this frame. -/
def instant (s : State) (at_ : Nat) : Nat := s.now * stepsPerFrame + at_

/-! ## Who drives -/

/-- Does the device hold the role token? Roles: 0 OUT, 1 SOLO, 2 STANDBY, 3 ACTIVE. -/
def holder (s : State) : Bool := decide (s.oN Obj.teamRole = 1 ∨ s.oN Obj.teamRole = 3)

/-- Does the device drive team nets at all: the token held, REIN_IN not asserted (R56, R93)? -/
def drivesTeam (s : State) : Bool := holder s && !s.pinB .reinIn && decide (s.varN .driveFrom ≤ s.now)

/-- What EXTEST puts on a pad of a kind, where it controls the pads: its boundary cell's level, but for the kill cell of REIN_IN (R585,
R596). -/
def extestCell (s : State) (kind j : Nat) : Option Nat :=
  if s.oB Obj.testBscan then some (if s.pinB .reinIn then 0 else Config.boundaryCell s.now kind j % 3) else none

/-- A two-level pad of a kind as it is driven, none at high impedance: by EXTEST where that controls the pads, else as its function has it
(R585, R596). -/
def padLevel (s : State) (kind j : Nat) (f : Option Bool) : Option Bool :=
  match extestCell s kind j with
  | some 0 => none
  | some l => some (decide (l = 2))
  | none => f

/-- What boundary-scan capture reads at a pad: the level the device drives, and on one at high impedance the board's (R596). -/
def scanCapture (board : Bool) (pad : Option Bool) : Bool := pad.getD board

/-- REIN_OUT, a push-pull output: at high impedance while VDDIO is absent (R275, R595). -/
def reinOutPad (s : State) : Option Bool := if s.mgtOn then padLevel s 5 0 (some (s.bit Obj.teamLink 5)) else none

/-- Are the team nets of MAIN driven: MAIN not isolated besides (R16, R17, R93)? -/
def driving (s : State) : Bool := drivesTeam s && s.mainOn

/-- Does the device take sequencer decisions: it holds the token and no swap runs (R285)? -/
def deciding (s : State) : Bool := holder s && !s.varB .swapOn

/-! ## Rails of any kind: MR 0 to 11, AB 12 to 19, SC 20 to 51 -/

/-- Codes of a rail's state (R142). -/
abbrev RS.off : Nat := 0
abbrev RS.wait : Nat := 1
abbrev RS.test : Nat := 2
abbrev RS.softStart : Nat := 3
abbrev RS.regulating : Nat := 4
abbrev RS.derated : Nat := 5
abbrev RS.softStop : Nat := 6
abbrev RS.failed : Nat := 7
abbrev RS.hiccup : Nat := 8

/-- Codes of phase[n].state. -/
abbrev PS.unassigned : Nat := 0
abbrev PS.off : Nat := 1
abbrev PS.test : Nat := 2
abbrev PS.switching : Nat := 3
abbrev PS.shed : Nat := 4
abbrev PS.spare : Nat := 5
abbrev PS.failed : Nat := 6

/-- The state of a rail. -/
def railState (s : State) (r : Nat) : Nat :=
  if r < 12 then s.oN (Obj.railState r) else if r < 20 then s.oN (Obj.abState (r - 12)) else s.varN .scState (r - 20)

/-- Set the state of a rail; the frame of its entry is kept for the twin (R266). -/
def setRailState (r v : Nat) (s : State) : State :=
  let s := if railState s r = v then s else s.setVar .railSince s.now r
  if r < 12 then s.setO (Obj.railState r) v
  else if r < 20 then s.setO (Obj.abState (r - 12)) v
  else s.setVar .scState v (r - 20)

/-- Rails of the part: on the LX4824 the multiphase rails end at MR5 (R1). -/
def railExists (s : State) (r : Nat) : Bool := decide (r < 52) && !(s.oN Obj.idPart = 2 && decide (6 ≤ r ∧ r ≤ 11))

/-- Phases of the part. -/
def phaseExists (s : State) (n : Nat) : Bool := decide (n < if s.oN Obj.idPart = 2 then 24 else 48)

/-- The fault source of a rail. -/
def railSrc (r : Nat) : Nat := 48 + r

/-- States in which the windows are judged and the fast path is armed (R137, R140). -/
def judged (st : Nat) : Bool := decide (RS.softStart ≤ st ∧ st ≤ RS.softStop)

/-- A rail whose output is being made. -/
def railOn (s : State) (r : Nat) : Bool := judged (railState s r)

/-- The stage of a state's voltage in mV: a VCODE is 0.25 mV. -/
def mvOf (v : Int) : Int := divNearest v 4

/-- Tenths of an ampere. -/
def dA (mA : Int) : Int := divNearest mA 100

/-! ## Lists, spares and roles of a multiphase rail -/

/-- The phase list of a rail, in interleave order, up to the first 0xFF. -/
def listOf (s : State) (m : Nat) : List Nat :=
  ((List.range 48).map fun i => s.oN (Obj.railPlist m i)).takeWhile fun n => decide (n < 48)

/-- Is a phase declared a spare of the rail (R159)? -/
def declaredSpare (s : State) (m n : Nat) : Bool :=
  if n < 32 then s.bit (Obj.poolSetLo m) n else s.bit (Obj.poolSetHi m) (n - 32)

/-- Nns: phases of the list that are not declared spares (R116). -/
def nns (s : State) (m : Nat) : Nat := ((listOf s m).filter fun n => !declaredSpare s m n).length

/-- Is a phase marked failed? -/
def phaseFailed (s : State) (n : Nat) : Bool := s.bit (Obj.wearStatus n) 0

/-- Give each member of `l` its phase: itself, or the next free spare where it has failed (R160). Answers the phase
plus one for each list position, 0 where the position switches nothing. -/
def assignPositions (failed spare : Nat → Bool) (l free : List Nat) : List Nat :=
  match l with
  | [] => []
  | n :: t =>
    if spare n then 0 :: assignPositions failed spare t free
    else if failed n then
      match free with
      | [] => 0 :: assignPositions failed spare t []
      | x :: free' => (x + 1) :: assignPositions failed spare t free'
    else (n + 1) :: assignPositions failed spare t free

/-- The positions of a rail as R160 assigns them afresh. -/
def freshPositions (s : State) (m : Nat) : List Nat :=
  let l := listOf s m
  assignPositions (phaseFailed s) (declaredSpare s m) l
    (l.filter fun n => declaredSpare s m n && !phaseFailed s n)

/-- The members of a rail in list order: healthy phases that switch or are shed. -/
def membersOf (s : State) (m : Nat) : List Nat :=
  (List.range 48).filterMap fun i => if 0 < s.varN .posPhase m i ∧ s.varN .posPhase m i ≤ 48 then some (s.varN .posPhase m i - 1) else none

/-- The list position a member occupies. -/
def positionOf (s : State) (m n : Nat) : Option Nat := (List.range 48).find? fun i => s.varN .posPhase m i = n + 1

/-- Spares neither failed nor in use, in list order. -/
def freeSpares (s : State) (m : Nat) : List Nat :=
  (listOf s m).filter fun n => declaredSpare s m n && !phaseFailed s n && (positionOf s m n).isNone

/-- Nh: the members of a running rail; for a rail that is off, failed or in its hiccup wait, those that R160 would assign (R127). -/
def nhOf (s : State) (m : Nat) : Nat :=
  if railState s m = RS.off ∨ railState s m = RS.failed ∨ railState s m = RS.hiccup then
    ((freshPositions s m).filter (· ≠ 0)).length
  else (membersOf s m).length

/-- nph of a shed level; 0 stands for Nns (R130). -/
def nphOf (s : State) (m l : Nat) : Nat :=
  let n := s.oN (Obj.railShedNph m l)
  if n = 0 then nns s m else n

/-- The highest shed level, L − 1. -/
def topLevel (s : State) (m : Nat) : Nat := s.oN (Obj.railShedLevels m) - 1

/-- The phases that switch at a level: the first nph members (R131). -/
def switchSet (s : State) (m l : Nat) : List Nat := (membersOf s m).take (nphOf s m l)

/-- The phases of the list in state switching. -/
def switching (s : State) (m : Nat) : List Nat :=
  (membersOf s m).filter fun n => s.oN (Obj.phaseState n) = PS.switching

/-- Every phase that is listed in a rail. -/
def railPhases (s : State) (m : Nat) : List Nat := listOf s m

/-! ## The interleave -/

/-- The rail's period in steps. -/
def periodSteps (s : State) (m : Nat) : Nat := s.oN (Obj.railPeriod m) * stepsPerCycle

/-- The first period origin after an instant (R110). -/
def nextOrigin (s : State) (m t : Nat) : Nat :=
  let g := s.varN .grid m
  let p := periodSteps s m
  if t < g then g else g + ((t - g) / p + 1) * p

/-- The offset of the j-th of n switching phases, in steps (R110). -/
def offsetOf (period j n : Nat) : Nat := (divNearest (j * 32 * period : Nat) n).toNat

/-- The offset in force for a phase at an instant, plus one; 0 where it has no place (R112). -/
def offsetAt (s : State) (n t : Nat) : Nat := if s.varN .offFrom n ≤ t then s.varN .offNew n else s.varN .offOld n

/-- Re-spread the interleave of a rail over `sw` from the first period that begins after `t` (R112). -/
def respread (m t : Nat) (sw : List Nat) (s : State) : State :=
  let from_ := nextOrigin s m t
  let period := s.oN (Obj.railPeriod m)
  s.forEach (railPhases s m) fun n s =>
    let j := sw.idxOf n
    let new := if j < sw.length then offsetOf period j sw.length + 1 else 0
    ((s.setVar .offOld (offsetAt s n t) n).setVar .offNew new n).setVar .offFrom from_ n

/-- The balance offset of a phase (R129). -/
def balOffset (s : State) (m n : Nat) : Int :=
  let b := s.o (Obj.railBalMax m)
  clamp (-b) b (s.var .cb n + s.var .th n)

/-- rail[m].bal_offsets: off[n] as S8 for each list position. -/
def showOffsets (m : Nat) (s : State) : State :=
  let l := (List.range 48).map fun i =>
    if s.varB .posPhase m i then toTwos 8 (balOffset s m (s.varN .posPhase m i - 1)) else 0
  s.setO (Obj.railBalOffsets m) ((l.foldr (fun x a => x + 256 * a) 0 : Nat) : Int)

/-- Show a pool's figures (pool[m].nh, spares_free, failed_lo, failed_hi) and the balance offsets of its positions. -/
def showPool (m : Nat) (s : State) : State :=
  let bits (lo hi : Nat) : Nat := ((listOf s m).filter fun n => decide (lo ≤ n ∧ n < hi) && phaseFailed s n).foldl
    (fun a n => State.putBit a (n - lo) true) 0
  let s := (s.setO (Obj.poolNh m) (nhOf s m)).setO (Obj.poolSparesFree m) (freeSpares s m).length
  showOffsets m ((s.setO (Obj.poolFailedLo m) (bits 0 32)).setO (Obj.poolFailedHi m) (bits 32 48))

/-- Carry a new switching set of a running rail into effect: states, balance offsets of newcomers, interleave (R112,
R129, R131, R170). A phase between shed and switching keeps the high impedance that its negative limit or its zero crossing has begun
(R86, R88, R93). -/
def applySet (m t : Nat) (s : State) : State :=
  let sw := switchSet s m (s.oN (Obj.railShedLvl m))
  let s := s.forEach (membersOf s m) fun n s =>
    let was := s.oN (Obj.phaseState n)
    if sw.contains n then
      if was = PS.switching then s
      else
        let s := (s.setO (Obj.phaseState n) PS.switching).setVar .cb 0 n
        let s := (s.setVar .openSkip (s.oN (Obj.poolOpenCycles m)) n).setVar .openCnt 0 n
        let s := s.setFlag .fresh (!s.varB .pulse n) n
        if was = PS.shed then s else (s.setFlag .zHold false n).setFlag .negHit false n
    else if was = PS.shed then s
    else (s.setO (Obj.phaseState n) PS.shed).setVar .openCnt 0 n
  let s := s.setO (Obj.railNSw m) sw.length
  showPool m ((respread m t sw s).setFlag .setChanged true m)

/-! ## The pad of a phase -/

/-- What the causes of priorities 2 to 10 of R93 ask of PWMn: 0 high impedance, 1 low, 2 high. A phase that has not turned on since
it joined the switching set is at high impedance, as while it was shed. -/
def pwmWanted (s : State) (n : Nat) : Nat :=
  let m := s.oN (Obj.phaseRail n)
  let st := s.oN (Obj.phaseState n)
  let rs := railState s m
  if st ≠ PS.switching ∧ st ≠ PS.shed then 0
  else if rs = RS.wait ∨ rs = RS.test then 0
  else if s.varB .ovpHold m then (if s.oN (Obj.railOvpMode m) = 1 ∨ s.varB .negHit n then 0 else 1)
  else if s.varB .zHold n || s.varB .negHit n then 0
  else if s.varB .ovsHold m then 1
  else if s.varB .pulse n then 2
  else if st = PS.shed ∨ s.varB .fresh n then 0
  else 1

/-- What the PWM loop-back drives on a pad: high, low and high impedance for one frame each, from the tick that begins its iteration (R577,
R580). -/
def lbPwm (s : State) (n : Nat) : Option Nat :=
  if s.oN Obj.testActive = 0x10 ∧ s.oN (Obj.lbSel 0x10) = n then
    some (if s.now = s.varN .lbFrom then 2 else if s.now = s.varN .lbFrom + 1 then 1 else 0)
  else none

/-- PWMn by the priorities of R93: 0 high impedance, 1 low, 2 high. A loop-back drives below priority 1, and EXTEST below the kill cell alone
(R584, R585, R596). -/
def pwmPad (s : State) (n : Nat) : Nat :=
  match extestCell s 0 n with
  | some l => l
  | none => if driving s then (lbPwm s n).getD (pwmWanted s n) else 0

/-- EN_SCc at a level, by sc[c].en_mode; none for a released open drain (R199). -/
def enScLevel (s : State) (c : Nat) : Option Bool :=
  if s.oN (Obj.scEnMode c) = 0 then some (s.varB .scEn c)
  else if s.oN (Obj.scEnMode c) = 1 then some (!s.varB .scEn c)
  else if s.varB .scEn c then some false else none

/-- PDIS_N of a paddock at a level, low while it is asserted and released as pad[p].pdis_mode says: none where it is open-drain, else
high (R208). -/
def pdisLevel (s : State) (p : Nat) : Option Bool :=
  if s.oN (Obj.padState p) = 1 then some false else if s.oN (Obj.padPdisMode p) = 1 then some true else none

/-- SEN_MRm as this device drives it: undriven where it does not hold the team nets of MAIN, or the part has no such rail (R3, R17,
R100). -/
def senPad (s : State) (m : Nat) : Option Bool :=
  padLevel s 1 m (if driving s && railExists s m then some (s.varB .senOn m) else none)

/-- EN_SCc as this device drives it, by sc[c].en_mode; undriven where it does not hold the team nets, or for a released open drain (R17,
R199). -/
def enScPad (s : State) (c : Nat) : Option Bool := padLevel s 2 c (if driving s then enScLevel s c else none)

/-- PDIS_N of a paddock as this device drives it; undriven where it does not hold the team nets (R17, R100). -/
def pdisPad (s : State) (p : Nat) : Option Bool := padLevel s 3 p (if driving s then pdisLevel s p else none)

/-- A pulse ends at an instant: the on-time is measured and the low-side switch turns on (R67). -/
def endPulse (n t : Nat) (s : State) : State :=
  let ton := t - s.varN .lastOn n
  let s := ((s.setFlag .pulse false n).setVar .lastOff (t + 1 : Nat) n).setVar .tonLast ton n
  let s := (s.setFlag .tripped false n).setFlag .blanked false n
  (s.setO (Obj.phaseTon n) (min ton 65535 : Nat)).setBit (Obj.phaseFlags n) 3 false

/-! ## Going off -/

/-- A phase goes quiet: no pulse, no place in the interleave. -/
def quietPhase (t n : Nat) (s : State) : State :=
  let s := if s.varB .pulse n then endPulse n t s else s
  let s := ((s.setVar .offOld 0 n).setVar .offNew 0 n).setFlag .uvsPend false n
  let s := (s.setFlag .cycOpen false n).setFlag .truncated false n
  ((s.setFlag .zHold true n).setVar .ilimCnt 0 n).setVar .inegCnt 0 n

/-- The overvoltage fast path of a rail ends its hold, by release or because the rail leaves the judged states: one event of class 0x05
for the trip, whose record carries the peak and the hold (R140, R152, R156). -/
def ovpEnd (r : Nat) (s : State) : State :=
  if s.varB .ovpHold r then
    let s := s.setFlag .ovpHold false r
    s.raiseActionLater (railSrc r) 5 (u8 r ++ u16 (mvOf (s.var .ovpPeak r)) ++ u16 (mvOf (s.var .ovpThr r)) ++
      u16 (min 65535 (s.now - s.varN .ovpAt r) : Nat) ++ u8 (s.var .ovpN r))
  else s

/-- Every PWM of the rail goes to high impedance and SEN_MRm is deasserted (R123); a buck or switched rail stops. The
rail's state becomes `st`. -/
def railDown (r st : Nat) (s : State) : State :=
  let s := ovpEnd r ((setRailState r st s).setFlag .startHeld false r)
  let s := (s.setFlag .ovsHold false r).setFlag .uvsFire false r
  let s := (s.forRange 4 fun j s => s.setVar .winCnt 0 r j).setVar .ilimSust 0 r
  if r < 12 then
    let s := s.forEach (railPhases s r) fun n s =>
      let s := quietPhase (instant s 0) n s
      s.setO (Obj.phaseState n) (if phaseFailed s n then PS.failed else PS.off)
    let s := s.forRange 48 fun i s => s.setVar .posPhase 0 r i
    let s := (s.forEach (railPhases s r) fun n s => s.setBit (Obj.wearStatus n) 4 false)
    let s := (((s.setFlag .senOn false r).setVar .vramp 0 r).setVar .iacc 0 r).setO (Obj.railNSw r) 0
    let s := (((s.setO (Obj.railTarget r) 0).setVar .targetNow 0 r).setVar .demand 0 r).stopT .holdoffT r
    -- a sense fault, an input out of range and the range outlast the run (R113, R141, R154)
    let s := s.setO (Obj.railFlags r) (s.oN (Obj.railFlags r) &&& 0x0908 : Nat)
    showPool r ((s.setO (Obj.poolIder r) 0).setVar .testStart 0 r)
  else if r < 20 then
    let s := ((s.setVar .vramp 0 r).setVar .testStart 0 r).setFlag .abPulse false (r - 12)
    let s := (s.setVar .abOff 0 (r - 12)).setVar .abLowEnd 0 (r - 12)
    let s := ((s.setVar .abLimCnt 0 (r - 12)).setFlag .abLimHit false (r - 12)).condOff (railSrc r) 6
    s.setO (Obj.abFlags (r - 12)) (s.oN (Obj.abFlags (r - 12)) &&& 0x30 : Nat)
  else s

end Sys2Proof.Machine
end

