-- ==== Sys2Proof/Machine/Clocks.lean ====
section
/-!
DEFINITION. The Frame, the Round and the Clocks (spec/02_frame_and_clocks.md): jobs, FCLK and its references, the
terrier watchdog.
-/

namespace Sys2Proof.Machine

/-! ## Jobs -/

/-- The consumer number of a job, in `VarKind.jobDone`. -/
def JobFor.slot : JobFor → Nat
  | .publicKey => 0 | .exportSign => 1 | .snapSign => 2 | .imageVerify => 3 | .imageCheck => 4 | .commit => 5 | .discarded => 6
  | .claim p => 8 + p | .tagCheck p => 16 + p

/-- Completion limits of R46, in frames, measured from the start of running. -/
def jobLimit (kind : Nat) : Nat :=
  if kind = 0 then 50000 else if kind = 1 then 50000 else if kind = 2 then 100000 else if kind = 3 then 8
  else if kind = 4 then 300000 else 300

/-- Security jobs share their slots and run one at a time; the commit has the studbook slots (R45, R46). -/
def jobSecurity (kind : Nat) : Bool := decide (kind ≠ 5)

/-- Requests of a kind that wait. -/
def jobWaiting (s : State) (kind : Nat) : Nat := (s.jobs.filter fun j => j.kind = kind && !j.running).length

/-- May a waiting job of this kind start now? -/
def jobFree (s : State) (kind : Nat) : Bool :=
  !(s.jobs.any fun j => j.running && (jobSecurity j.kind == jobSecurity kind))

/-- Mark the first waiting job whose class is free as running, and set its job object (R45). -/
def jobStartNext (security : Bool) (s : State) : State :=
  match s.jobs.find? fun j => !j.running && (jobSecurity j.kind == security) with
  | none => s
  | some j =>
    if jobFree s j.kind then
      let jobs := (s.jobs.takeWhile fun k => k ≠ j) ++ { j with running := true } :: ((s.jobs.dropWhile fun k => k ≠ j).drop 1)
      let (steps, s) := if j.kind = 5 then (s.buf.length + 1, s) else s.drawFree
      let s := { s with jobs := jobs }
      let s := (s.setO (Obj.jobState j.kind) 2).setO (Obj.jobStepsDone j.kind) 0
      let s := (s.setO (Obj.jobStepsTotal j.kind) (steps % 2 ^ 32 : Nat)).setO (Obj.jobStarted j.kind) (s.o Obj.frameNumber)
      let s := (s.setVar .jobLast s.now j.kind).setVar .jobBegan s.now j.kind
      s.setO (Obj.jobWaiting j.kind) (jobWaiting s j.kind)
    else s

/-- Ask for a job; it starts at once when its class is free (R45). -/
def jobRequest (kind : Nat) (who : JobFor) (s : State) : State :=
  let s := { s with jobs := s.jobs ++ [Job.mk kind who false] }
  let s := if s.jobs.any (fun j => j.kind = kind && j.running) then s else s.setO (Obj.jobState kind) 1
  let s := s.setO (Obj.jobWaiting kind) (jobWaiting s kind)
  (jobStartNext (jobSecurity kind) s).setVar .jobDone 0 who.slot

/-- The running job of a kind. -/
def jobRunning (s : State) (kind : Nat) : Option Job := s.jobs.find? fun j => j.kind = kind && j.running

/-- End the running job of a kind as done or failed, and start the next (R45). -/
def jobEnd (kind : Nat) (ok : Bool) (s : State) : State :=
  match jobRunning s kind with
  | none => s
  | some j =>
    let s := { s with jobs := s.jobs.erase j }
    let s := s.setO (Obj.jobState kind) (if ok then 3 else 4)
    let s := if ok then s.setO (Obj.jobStepsDone kind) (s.o (Obj.jobStepsTotal kind)) else s
    jobStartNext (jobSecurity kind) (s.setVar .jobDone (if ok then 1 else 2) j.who.slot)

/-- The security job that runs. -/
def runningSecurity (s : State) : Option Job := s.jobs.find? fun j => j.running && jobSecurity j.kind

/-- The security slots of a frame: four steps of the running security job (R38, R46). -/
def jobTick (s : State) : State :=
  match runningSecurity s with
  | none => s
  | some j =>
    let done := s.o (Obj.jobStepsDone j.kind) + 4
    let total := s.o (Obj.jobStepsTotal j.kind)
    let done := if total < done then total else done
    if s.o (Obj.jobStepsDone j.kind) = done then s
    else (s.setO (Obj.jobStepsDone j.kind) done).setVar .jobLast s.now j.kind

/-- A consumer gives its job up: the job runs or waits on, and its end serves nobody (R45). -/
def discardJob (who : JobFor) (s : State) : State :=
  { s with jobs := s.jobs.map fun j => if j.who = who then { j with who := .discarded } else j }

/-- A port is reset: it holds nothing, and its transaction is discarded without a response (R554, R556). A keyed command that waits for
its high-water mark leaves its place in the queue to port 5, which holds nothing. -/
def resetPort (p : Nat) (s : State) : State :=
  let s : State := { s with keyQ := s.keyQ.map fun e => if e.2 = p then (e.1, 5) else e }
  let s := if s.varN .claimPort = p + 1 then (s.setVar .claimPort 0).setVar .claimStage 0 else s
  let s := (discardJob (.claim p) (discardJob (.tagCheck p) s)).setVar .dqAt 0 p
  if h : p < 5 then { s with ports := s.ports.set p PortState.idle } else s

/-- NOTIFYs queued on a CAN port. -/
def notifyCount (s : State) (p : Nat) : Nat := (s.notify.filter fun e => e.1 = p).length

/-- May a CAN port claim and send: it is error active or passive, so neither off, bus-off nor listen-only (R484, R561)? -/
def canClaims (s : State) (p : Nat) : Bool := decide (s.oN (Obj.canState p) = 1 ∨ s.oN (Obj.canState p) = 2)

/-! ## FCLK and SYNC_IN -/

/-- The nominal FCLK in Hz. -/
def fclkNominal : Int := 400000000

/-- The FCLK offset, in 10^-9, of N times a SYNC_IN frequency (R36). -/
def ppbOf (n hz : Nat) : Int := divNearest (((n * hz : Nat) - fclkNominal) * 5) 2

/-- Is a SYNC_IN frequency within ±2.0 % of 400 MHz ÷ N (R37)? -/
def syncInRange (n hz : Nat) : Bool := decide ((ppbOf n hz).natAbs ≤ 20000000)

/-- Move FCLK toward a target by at most clk.slew_limit in one frame: 0.01 %/ms is 100 · 10^-9 a frame (R52 to R54). -/
def slewStep (limit : Nat) (cur target : Int) : Int :=
  if target < cur then max target (cur - 100 * limit) else min target (cur + 100 * limit)

/-- Report FCLK's offset in clk.offset, 0.001 % per unit. -/
def clkReport (s : State) : State := s.setO Obj.clkOffset (divNearest (s.var .clkPpb) 10000)

/-- The offset of the frame tick that the harness brings, by the sampled FCLK frequency, which follows it (R57). -/
def harnessTarget (s : State) : Int :=
  if s.pin .fclkHz = 0 then s.var .clkPpb else divNearest ((s.pin .fclkHz - fclkNominal) * 5) 2

/-- The offset that N times the sampled SYNC_IN frequency asks for; a sample outside the range of R37 is not followed, and
FCLK holds (R36, R37). -/
def syncTarget (s : State) : Int :=
  let n := s.oN Obj.clkSyncDiv
  let hz := (s.pin .syncHz).toNat
  if syncInRange n hz then ppbOf n hz else s.var .clkPpb

/-- The pull-in offset that a phase error of `e` tenths of a nanosecond asks for, while an offset of `p` is in force: at most
0.1 %, and none once what the ramp down at the slew limit removes covers the error (R53). An offset of p · 10^-9 removes
p ÷ 100,000 tenths of a nanosecond a frame. -/
def pullTarget (limit : Nat) (e p : Int) : Int :=
  if e.natAbs ≤ 25 then 0
  else if 0 < e * p ∧ 20000000 * limit * e.natAbs ≤ p * p then 0
  else if e < 0 then -1000000 else 1000000

/-- FCLK's part of a frame tick, with clk.status bit 1 as the crystal is while it has not failed: samples, slewing, qualification counters (R48, R52, R53, R54, R57, R62). The crystal's edges of
the round are in tolerance while every tick finds them so (R55). -/
def clockTick (s : State) : State :=
  let s := (s.countCond .pllCnt (!s.pinB .pllLock)).setBit Obj.clkStatus 0 (s.pinB .pllLock)
  let s := if s.pinB .pllLock then s.condOff 201 0 else s
  let s := s.countCond .xtalCnt (!s.pinB .xtalEdge)
  let s := if s.varB .xtalFailed then s else s.setBit Obj.clkStatus 1 (s.pinB .xtalEdge && s.pinB .xtalInTol)
  let s := if s.pinB .xtalEdge && s.pinB .xtalInTol then s else s.setFlag .xtalBad true
  let s := (s.setO Obj.clkFclkMeas (s.pin .fclkHz)).setO Obj.clkSyncMeas (s.pin .syncHz)
  let st := s.oN Obj.clkRefState
  let limit := s.oN Obj.clkSlewLimit
  let s :=
    if st = 4 then s.setVar .clkPpb (slewStep limit (s.var .clkPpb) 0)
    else if st = 2 ∧ ¬ s.varB .clkPull then
      s.setVar .clkPpb (slewStep limit (s.var .clkPpb) (syncTarget s))
    else if st = 2 then
      let base := syncTarget s
      let e := s.pin .syncPhase
      let pull := pullTarget limit e (s.var .clkPpb - base)
      (s.setVar .clkPpb (slewStep limit (s.var .clkPpb) (base + pull))).countCond .clkLockCnt (decide (e.natAbs ≤ 25))
    else if st = 1 then s.setVar .clkPpb (slewStep limit (s.var .clkPpb) (syncTarget s))
    else if st = 5 then s.setVar .clkPpb (slewStep limit (s.var .clkPpb) (harnessTarget s))
    else s
  let s := if st = 2 then s.setO Obj.clkPhaseErr (divNearest (s.pin .syncPhase) 25) else s
  clkReport s

/-- The round's share: rounds of crystal edges in tolerance (R55). -/
def clockRound (s : State) : State :=
  (if s.varB .xtalBad then s.setVar .xtalGood 0 else s.addVar .xtalGood 1).setFlag .xtalBad false

/-- Enter holdover at the present frequency (R52, R55). -/
def enterHoldover (s : State) : State :=
  let s := (s.setFlag .clkPull false).setBit Obj.clkStatus 4 false
  if s.varB .xtalFailed then s.setO Obj.clkRefState 6
  else (s.setO Obj.clkRefState 3).startTR .holdoverT (s.oN Obj.clkHoldRounds)

/-- SYNC_IN counts as absent: the loss of R51 and R37 in common. Presence and range end together, although the edges of a SYNC_IN outside the
range go on (DESIGN CHOICE, log entry 116). -/
def syncGone (s : State) : State :=
  let s := (s.setBit Obj.clkStatus 2 false).setBit Obj.clkStatus 3 false
  let s := s.bump Obj.clkSyncLosses
  if s.oN Obj.clkRefState = 1 ∨ s.oN Obj.clkRefState = 2 then enterHoldover s else s

/-- A device in STANDBY takes its reference from the frame tick of the harness link (R35, R57). -/
def followHarness (s : State) : State :=
  (((s.setO Obj.clkRefState 5).setFlag .clkPull false).setBit Obj.clkStatus 4 false).stopT .holdoverT

/-- A device that no longer follows the harness keeps its frequency and phase, and returns to its own reference: under R53 where
that is a SYNC_IN that is present, else under R52, holding clk.hold_rounds before it slews to the crystal (R57; DESIGN CHOICE, log entry
103). -/
def leaveHarness (s : State) : State :=
  if s.oN Obj.clkRefState ≠ 5 then s
  else if s.oN Obj.clkRefSel = 1 ∧ s.bit Obj.clkStatus 2 then
    ((s.setO Obj.clkRefState 2).setFlag .clkPull false).setVar .clkReturn s.now
  else enterHoldover s

/-- SYNC_IN_LOST: 4N FCLK cycles have passed without a rising edge (R51, R52, R54). -/
def execSyncInLost (gap : Nat) (s : State) : Out :=
  if s.bit Obj.clkStatus 2 && decide (4 * s.oN Obj.clkSyncDiv ≤ gap) then
    .next ((syncGone s).raiseLater 203 0 (u32 (s.o Obj.clkSyncMeas)))
  else .next s

/-- SYNC_IN_OUT_OF_RANGE: SYNC_IN measures outside ±2 % and is treated as lost (R37). -/
def execSyncInOutOfRange (hz : Nat) (s : State) : Out :=
  if s.bit Obj.clkStatus 2 && !syncInRange (s.oN Obj.clkSyncDiv) hz then
    .next ((syncGone s).raiseLater 204 0 (u32 hz))
  else .next s

/-- HOLDOVER_EXPIRY: clk.hold_rounds have passed; the slew toward the crystal starts (R52). -/
def execHoldoverExpiry (s : State) : Out :=
  if decide (s.oN Obj.clkRefState = 3) && s.dueTR .holdoverT then
    .next (((s.setO Obj.clkRefState 4).stopT .holdoverT).setVar .clkStartOff (s.o Obj.clkOffset))
  else .next s

/-- SLEW_TO_CRYSTAL_COMPLETE: FCLK reaches 400 MHz on the crystal (R52). -/
def execSlewToCrystalComplete (s : State) : Out :=
  if decide (s.oN Obj.clkRefState = 4) && decide (s.var .clkPpb = 0) then
    .next ((s.setO Obj.clkRefState 0).record 0x0D46 (u16 (s.var .clkStartOff)))
  else .next s

/-- SYNC_IN_RETURNED: 64 consecutive edges within the range of R37; with SYNC_IN selected, the slew to N times its
frequency begins from the present frequency (R53, R54). -/
def execSyncInReturned (hz : List Nat) (s : State) : Out :=
  if !s.bit Obj.clkStatus 2 && decide (64 ≤ hz.length) && hz.all (syncInRange (s.oN Obj.clkSyncDiv)) then
    let s := (s.setBit Obj.clkStatus 2 true).setBit Obj.clkStatus 3 true
    let s := ((s.condOff 203 0).condOff 204 0).setO Obj.clkSyncMeas (hz.getLastD 0)
    let s := s.setVar .clkReturn s.now
    if s.oN Obj.clkRefSel = 1 ∧ s.oN Obj.clkRefState ≠ 5 then
      .next (((s.setO Obj.clkRefState 2).setFlag .clkPull false).stopT .holdoverT)
    else .next s
  else .next s

/-- SYNC_IN_SLEW_COMPLETE: the frequency slew ends and phase pull-in starts (R53). -/
def execSyncInSlewComplete (s : State) : Out :=
  if decide (s.oN Obj.clkRefState = 2) && !s.varB .clkPull &&
      decide (s.var .clkPpb = syncTarget s) && syncInRange (s.oN Obj.clkSyncDiv) (s.pin .syncHz).toNat then
    .next ((s.setFlag .clkPull true).setVar .clkLockCnt 0)
  else .next s

/-- PHASE_LOCK_REGAINED: the phase error has stayed within ±2.5 ns for 1,000 frames (R53). -/
def execPhaseLockRegained (s : State) : Out :=
  if decide (s.oN Obj.clkRefState = 2) && s.varB .clkPull && s.metCond .clkLockCnt 1000 then
    .next ((((s.setO Obj.clkRefState 1).setFlag .clkPull false).setBit Obj.clkStatus 4 true).raiseAction 205 0
      (u32 ((s.now : Int) - s.var .clkReturn)))
  else .next s

/-- CRYSTAL_FAILED: no crystal edge for 1 µs (R55). -/
def execCrystalFailed (s : State) : Out :=
  if !s.varB .xtalFailed && s.metCond .xtalCnt 1 then
    let st := s.oN Obj.clkRefState
    let s := (((s.setBit Obj.clkStatus 1 false).setFlag .xtalFailed true).setVar .xtalGood 0).raise 202 0 (u8 0)
    if st = 0 ∨ st = 3 ∨ st = 4 then .next ((s.setO Obj.clkRefState 6).stopT .holdoverT) else .next s
  else .next s

/-- CRYSTAL_RESTORED: 10 rounds of edges in tolerance; FCLK returns to the crystal under R52 (R55, R604), with the slew begun at once, without
clk.hold_rounds (DESIGN CHOICE, log entry 116). -/
def execCrystalRestored (s : State) : Out :=
  if s.varB .xtalFailed && decide (10 ≤ s.varN .xtalGood) then
    let s := (((s.setBit Obj.clkStatus 1 true).setFlag .xtalFailed false).condOff 202 0).record 0x0D42 (u8 1)
    if s.oN Obj.clkRefState = 6 then
      .next ((s.setO Obj.clkRefState 4).setVar .clkStartOff (s.o Obj.clkOffset))
    else .next s
  else .next s

/-- PLL_LOSS_OF_LOCK: out of lock for more than 2 frames (R62). -/
def execPllLossOfLock (s : State) : Out :=
  if s.metCond .pllCnt 3 && !s.condOn 201 0 then
    .next ((s.bump Obj.clkPllUnlocks).raise 201 0 (u8 (s.o Obj.clkRefState) ++ u16 (s.o Obj.clkOffset)))
  else .next s

/-- A SYNC_IN that is present but lies outside the range of R37 under the N in force is treated as lost and recorded. -/
def judgeSync (s : State) : State :=
  let hz := s.oN Obj.clkSyncMeas
  if s.bit Obj.clkStatus 2 && decide (hz ≠ 0) && !syncInRange (s.oN Obj.clkSyncDiv) hz then (syncGone s).raise 204 0 (u32 hz)
  else s

/-- A new clk.ref_sel or clk.sync_div in force is carried out as a slew, never as a step (R64): toward a SYNC_IN that is present
under R53; else, from SYNC_IN, toward the crystal, or in holdover where the crystal has failed (R55). The slew to the crystal begins at
once, without the clk.hold_rounds of a loss (DESIGN CHOICE, log entry 103). -/
def referenceChange (oldSel newSel : Nat) (s : State) : State :=
  let s := if oldSel = newSel then s else s.record 0x0D47 (u8 oldSel ++ u8 newSel)
  let s := judgeSync s
  if s.oN Obj.clkRefState = 5 then s
  else if newSel = 1 then
    if s.bit Obj.clkStatus 2 then (((s.setO Obj.clkRefState 2).setFlag .clkPull false).setBit Obj.clkStatus 4 false) else s
  else if s.oN Obj.clkRefState = 1 ∨ s.oN Obj.clkRefState = 2 then
    if s.varB .xtalFailed then enterHoldover s
    else (((s.setO Obj.clkRefState 4).setFlag .clkPull false).setBit Obj.clkStatus 4 false).setVar .clkStartOff (s.o Obj.clkOffset)
  else s

/-- A new SYNC_OUT divider or phase applies: the divider restarts at this tick (R56). -/
def syncOutRestart (s : State) : State := s.setVar .syncOutOrigin s.now

/-- SYNC_OUT at an FCLK cycle counted from the divider origin: high for the first ⌈D/2⌉ cycles of each period, its
rising edge delayed by the phase. A team net: only the holder of the role token drives it, and nothing does with VDDIO absent (R56,
R595, R596). -/
def syncOutLevel (s : State) (cycle : Nat) : Option Bool :=
  let d := s.oN Obj.clkSyncoutDiv
  let p := s.oN Obj.clkSyncoutPhase
  let level := s.oB Obj.clkSyncoutEn && decide (p ≤ cycle) && decide ((cycle - p) % d < (d + 1) / 2)
  padLevel s 4 0 (if drivesTeam s then some level else none)

/-! ## The terrier watchdog -/

/-- Does the cause hold in this state? A missed class and a missing tick are failures of the schedule itself, which the
command reports; the others are read from the state (R58). -/
def terrierHolds (cause : TerrierCause) (s : State) : Bool :=
  match cause with
  | .classMissed m => decide (0 < m ∧ m < 2 ^ 12)
  | .jobStalled j => (jobRunning s j).isSome && decide (s.varN .jobLast j + 64 ≤ s.now)
  | .jobOverrun j => (jobRunning s j).isSome &&
      decide (s.varN .jobBegan j + jobLimit j < s.now)
  | .tickLost => true
  | .bootOverrun k => decide (s.mode = .boot ∧ 1 ≤ k ∧ k ≤ 6) && decide (s.varN .bootStart + s.varN .bootWaited + 5000 < s.now + s.varN .bootLead) &&
      !s.varB .bootWait

/-- TERRIER_EXPIRY: the watchdog captures the step index and sends the device to SAFE (R58 to R60). -/
def execTerrierExpiry (cause : TerrierCause) (slot row : Nat) (s : State) : Out :=
  if s.mgtOn && terrierHolds cause s then
    let missing : Nat := match cause with | .classMissed m => m | _ => 0
    let job : Nat := match cause with | .jobStalled j => j | .jobOverrun j => j | _ => 0xFF
    let slot : Nat := match cause with | .bootOverrun _ => 0xFE | _ => slot % 50
    let row : Nat := match cause with | .bootOverrun k => k | _ => row % 65536
    let s := ((s.bump Obj.terrierExpiries).setO Obj.terrierStepSlot slot).setO Obj.terrierStepRow row
    let s := (s.setO Obj.terrierFrame (s.o Obj.frameNumber)).setO Obj.terrierMissing missing
    let s := (s.setO Obj.terrierJob job).setO Obj.terrierTime s.timeNow
    let s := s.raiseActionLater 200 0 (u8 slot ++ u16 row ++ u16 missing ++ u8 job ++ u16 (s.o Obj.frameNumber))
    -- 2: of this BOOT, whose end its record does not hold back (R59)
    let s := if s.mode = .boot then (s.setFlag .bootHoldSafe true).setVar .terrierRec 2 else s.setVar .terrierRec 1
    .next (s.requestMode .safe 0x09)
  else .next s

end Sys2Proof.Machine
end

