-- ==== Sys2Proof/Machine/Codes.lean ====
section
/-!
DEFINITION. The CRC-16 of the manual (R456) and the Reed-Solomon line code of MRAM lines and harness blocks
(R433, R434): field arithmetic, encoder and the decoder of up to 3 erroneous bytes.
-/

namespace Sys2Proof.Machine

/-- One step of the CRC-16 register over one bit position (R456). -/
def crcBit (c : Nat) : Nat := if c.testBit 15 then ((c * 2) % 65536) ^^^ 0x1021 else c * 2

/-- The CRC-16 register after one more byte (R456). -/
def crcByte (c : Nat) (b : Byte) : Nat := Nat.iterate crcBit 8 (c ^^^ (b.toNat * 256))

/-- The CRC-16 of R456 over bytes in ascending offset, from 0xFFFF. -/
def crc16 (d : List Byte) : Nat := d.foldl crcByte 0xFFFF

/-- Doubling in GF(256) with the field polynomial 0x11D (R433). -/
def gfDouble (a : Nat) : Nat := if a < 128 then 2 * a else (2 * a) ^^^ 0x11D

/-- Product in GF(256), over the bits of the second factor. -/
def gfMul (a b : Nat) : Nat :=
  ((List.range 8).foldl (fun (p : Nat × Nat) i => (if b.testBit i then p.1 ^^^ p.2 else p.1, gfDouble p.2)) (0, a)).1

/-- Powers of α = 0x02. -/
def gfPow : Nat → Nat
  | 0 => 1
  | n + 1 => gfDouble (gfPow n)

/-- The inverse of a nonzero element: its power 254. -/
def gfInv (a : Nat) : Nat :=
  let a2 := gfMul a a
  let a4 := gfMul a2 a2
  let a8 := gfMul a4 a4
  let a16 := gfMul a8 a8
  let a32 := gfMul a16 a16
  let a64 := gfMul a32 a32
  let a128 := gfMul a64 a64
  gfMul (gfMul (gfMul a128 a64) (gfMul a32 a16)) (gfMul (gfMul a8 a4) a2)

/-- The coefficients of the generator polynomial below x^6, highest first (R433). -/
def rsGen : List Nat :=
  let step (g : List Nat) (i : Nat) : List Nat :=
    List.zipWith (· ^^^ ·) (g ++ [0]) (0 :: g.map (gfMul (gfPow i)))
  ((List.range 6).foldl step [1]).drop 1

/-- The check register after one more data byte of the division by the generator. -/
def rsStep (r : List Nat) (b : Byte) : List Nat :=
  let f := b.toNat ^^^ r.headD 0
  List.zipWith (· ^^^ ·) (r.drop 1 ++ [0]) (rsGen.map (gfMul f))

/-- The 6 check bytes of a line's data bytes (R433). -/
def rsCheck (d : List Byte) : List Byte := (d.foldl rsStep [0, 0, 0, 0, 0, 0]).map (BitVec.ofNat 8)

/-- The codeword of 32 data bytes: data, then check bytes. -/
def rsEncode (d : List Byte) : List Byte := d ++ rsCheck d

/-- Syndrome i of a codeword: its value at α^i (R433). -/
def rsSyndrome (c : List Byte) (i : Nat) : Nat := c.foldl (fun a b => gfMul a (gfPow i) ^^^ b.toNat) 0

/-- The value of a polynomial with coefficients lowest first. -/
def gfEval (p : List Nat) (x : Nat) : Nat := p.foldr (fun a r => gfMul r x ^^^ a) 0

/-- The error locator for `e` errors, lowest coefficient first, from the syndromes, where its system of equations is
regular: Λ(x) = 1 + Λ1 x + … . Cramer's rule for up to 3 errors. -/
def rsLocator (s : List Nat) (e : Nat) : Option (List Nat) :=
  let S (i : Nat) : Nat := s.getD i 0
  let m := gfMul
  if e = 1 then
    if S 0 = 0 then none else some [1, m (S 1) (gfInv (S 0))]
  else if e = 2 then
    let det := m (S 0) (S 2) ^^^ m (S 1) (S 1)
    if det = 0 then none
    else
      let di := gfInv det
      some [1, m di (m (S 0) (S 3) ^^^ m (S 1) (S 2)), m di (m (S 1) (S 3) ^^^ m (S 2) (S 2))]
  else
    let det3 (a b c d e f g h i : Nat) : Nat :=
      m a (m e i ^^^ m f h) ^^^ m b (m d i ^^^ m f g) ^^^ m c (m d h ^^^ m e g)
    let det := det3 (S 0) (S 1) (S 2) (S 1) (S 2) (S 3) (S 2) (S 3) (S 4)
    if det = 0 then none
    else
      let di := gfInv det
      -- rows (S k, S (k+1), S (k+2)) · (Λ3, Λ2, Λ1) = S (k+3)
      some [1,
        m di (det3 (S 0) (S 1) (S 3) (S 1) (S 2) (S 4) (S 2) (S 3) (S 5)),
        m di (det3 (S 0) (S 3) (S 2) (S 1) (S 4) (S 3) (S 2) (S 5) (S 4)),
        m di (det3 (S 3) (S 1) (S 2) (S 4) (S 2) (S 3) (S 5) (S 3) (S 4))]

/-- The positions of a codeword of `n` bytes whose locators are roots of Λ (Chien search). -/
def rsRoots (n : Nat) (loc : List Nat) : List Nat :=
  (List.range n).filter fun p => gfEval loc (gfInv (gfPow (n - 1 - p))) = 0

/-- The error value at a position of an `n`-byte codeword (Forney, first root α^0). -/
def rsValue (n : Nat) (s loc : List Nat) (p : Nat) : Nat :=
  let x := gfPow (n - 1 - p)
  let xi := gfInv x
  -- Ω(x) = S(x) Λ(x) mod x^6
  let omega := (List.range 6).map fun k =>
    (List.range (k + 1)).foldl (fun a j => a ^^^ gfMul (s.getD (k - j) 0) (loc.getD j 0)) 0
  -- Λ'(x): the odd coefficients
  let dl := (loc.getD 1 0) ^^^ gfMul (loc.getD 3 0) (gfMul xi xi)
  gfMul x (gfMul (gfEval omega xi) (gfInv dl))

/-- Decode a codeword: the corrected word and the number of bytes corrected, or none where it is uncorrectable (R434). -/
def rsDecode (c : List Byte) : Option (List Byte × Nat) :=
  let n := c.length
  let s := (List.range 6).map (rsSyndrome c)
  if s.all (· = 0) then some (c, 0)
  else
    let tryE (e : Nat) : Option (List Byte × Nat) :=
      match rsLocator s e with
      | none => none
      | some loc =>
        let roots := rsRoots n loc
        if roots.length ≠ e then none
        else
          let fixed := roots.foldl (fun w p => w.set p ((w.getD p 0) ^^^ BitVec.ofNat 8 (rsValue n s loc p))) c
          if (List.range 6).all (fun i => rsSyndrome fixed i = 0) then some (fixed, e) else none
    (tryE 1).orElse fun _ => (tryE 2).orElse fun _ => tryE 3

end Sys2Proof.Machine
end

