-- ==== Sys2Proof/Machine/Nvm.lean ====
section
/-!
DEFINITION. Non-Volatile Memory and One-Time Fuses (spec/15_nvm_and_otp.md): MRAM lines and their code, the commit
buffer, CRES, the scrubber, OTP programming.
-/

namespace Sys2Proof.Machine

/-! ## Lines -/

/-- Lines of the MRAM (R433). -/
def nvmLines : Nat := 16384

/-- The codeword of a line as it stands in the array. -/
def mramLine (s : State) (l : Nat) : List Byte := FMap.getMany 0 s.mram (38 * l) 38

/-- A line as decoded from the array: its data bytes, and the bytes corrected or none when uncorrectable (R434, R445). -/
def mramDecode (s : State) (l : Nat) : List Byte × Option Nat :=
  match rsDecode (mramLine s l) with
  | some (c, n) => (c.take 32, some n)
  | none => ((mramLine s l).take 32, none)

/-- The newest entry of the commit buffer for a line. -/
def bufFind (s : State) (l : Nat) : Option BufLine := s.buf.reverse.find? fun b => b.line = l

/-- A line as a read returns it: the buffer's value where it is in the buffer (R436). -/
def nvmLine (s : State) (l : Nat) : List Byte × Option Nat :=
  match bufFind s l with
  | some b => (b.data, some 0)
  | none => mramDecode s l

/-- The data bytes at a data address. -/
def nvmBytes (s : State) (addr n : Nat) : List Byte :=
  ((((List.range ((addr % 32 + n + 31) / 32)).flatMap fun i => (nvmLine s (addr / 32 + i)).1)).drop (addr % 32)).take n

/-- The region of a data address, in the order of R435. -/
def nvmRegion (addr : Nat) : Nat :=
  if addr < 0x10000 then 0 else if addr < 0x20000 then 1 else if addr < 0x24000 then 2 else if addr < 0x64000 then 3
  else if addr < 0x65000 then 4 else if addr < 0x75000 then 5 else 6

/-- Where the ledgers stand in their region (the model's layout): charge slots, budget slots, command records, close. -/
abbrev Ledger.charge : Nat := 0x21800
abbrev Ledger.budget : Nat := 0x21900
abbrev Ledger.command : Nat := 0x21B00
abbrev Ledger.image : Nat := 0x21C00
abbrev Ledger.close : Nat := 0x21C80

/-- The ledger of a data address: 0 charge, 1 budget, 2 counters, 3 command, 4 close (R545). -/
def ledgerKind (a : Nat) : Nat :=
  if Ledger.charge ≤ a ∧ a < Ledger.budget then 0
  else if Ledger.budget ≤ a ∧ a < Ledger.command then 1
  else if Ledger.command ≤ a ∧ a < Ledger.close then 3
  else if Ledger.close ≤ a ∧ a < Ledger.close + 1120 then 4
  else 2

/-- Does one of so many bytes at an address of the ledger region lie in a line that has been lost and not been written since (R542)? -/
def ledgerLost (s : State) (addr n : Nat) : Bool :=
  s.bit Obj.ledgerStatus 6 && (List.range ((n + 31) / 32)).any fun i => s.varB .ledLost (addr / 32 + i)

/-- The ledger of a data address, and the row of R543 that says what its loss does: where both slots of the charge or budget ledger have been
lost, the row of both. -/
def ledgerOf (s : State) (a : Nat) : Nat × Nat :=
  let k := ledgerKind a
  let both (base n : Nat) : Bool := ledgerLost s base n && ledgerLost s (base + n) n
  (k, if k = 0 then (if both Ledger.charge 64 then 1 else 0) else if k = 1 then (if both Ledger.budget 256 then 2 else 0) else k + 1)

/-- Is the key of a hidden quantity one of the listed kinds? -/
def kindIn (l : List VarKind) (key : Nat) : Bool := l.any fun k => decide (key.unpair.1 = k.ctorIdx)

/-- A line has been written to the array: what it stores is no longer excluded (R542). -/
def lineMended (l : Nat) (s : State) : State :=
  if s.varB .ledLost l then
    let s := s.setVar .ledLost 0 l
    s.setBit Obj.ledgerStatus 6 (s.vars.any fun e => kindIn [.ledLost] e.1)
  else s

/-- Is a line that held lost or retired counters excluded (R542, R543)? -/
def countersLost (s : State) : Bool :=
  s.bit Obj.ledgerStatus 6 && s.vars.any fun e => kindIn [.ledLost] e.1 && decide (ledgerKind (32 * (e.1.unpair.2.unpair.1)) = 2)

/-- Report an uncorrectable line (R445). -/
def lineLost (l : Nat) (scrub : Bool) (s : State) : State :=
  let a := 32 * l
  let s := { s with bad := (a :: s.bad).take 16 }
  let s := (s.setO Obj.nvmLastBad a).bump Obj.nvmUncorr
  let s := s.raiseActionLater 221 (if scrub then 1 else 0) (u32 a ++ u8 (if scrub then 1 else 0) ++ u8 (nvmRegion a))
  -- R542: an uncorrectable ledger line is a loss of class 0x04 of source 229
  if nvmRegion a = 2 then
    let s := (s.setFlag .ledLost true l).setBit Obj.ledgerStatus 6 true
    let (k, row) := ledgerOf s a
    s.raiseActionLater 229 4 (u8 k ++ u32 a ++ u8 row)
  else s

/-- The effects of reading a line: corrections are counted, an uncorrectable line is reported (R445). -/
def nvmReadEffect (l : Nat) (s : State) : State :=
  match (nvmLine s l).2 with
  | some 0 => s
  | some _ => s.bump Obj.nvmCorrected
  | none => lineLost l false s

/-- Read bytes at a data address: every line read is decoded (R445). -/
def nvmRead (addr n : Nat) (s : State) : List Byte × State :=
  (nvmBytes s addr n, s.forRange ((addr % 32 + n + 31) / 32) fun i => nvmReadEffect (addr / 32 + i))

/-- Read lines whose bytes a definition takes with `nvmBytes`: the effects of the reads (R445). -/
def nvmTouch (addr n : Nat) (s : State) : State := s.forRange ((addr % 32 + n + 31) / 32) fun i => nvmReadEffect (addr / 32 + i)

/-! ## Persisted counters (R435, R436, R462) -/

/-- Objects in BKP: RTC, evidence of the collie and captures of the terrier, the estimate of the stored charge. -/
def bkpObj (k : Nat) : Bool :=
  decide (k = Obj.rtcStatus ∨ k = Obj.rtcCal ∨ k = Obj.rtcFso ∨ k = Obj.rtcFsoPc ∨ k = Obj.rtcShiftLeft ∨
    k = Obj.estQCorr ∨ k = Obj.estQRem ∨ k = Obj.estFlags ∨ k = Obj.collieExpiries) ||
  decide (Obj.collieEvCause ≤ k ∧ k ≤ Obj.collieEvTime) || decide (Obj.terrierStepSlot ≤ k ∧ k ≤ Obj.terrierTime)

/-- The objects that the ledger region keeps as persisted counters: those counted since the first BOOT. -/
def counterObj (k : Nat) : Bool :=
  decide (k = Obj.evTotal) || decide (Obj.sbRet04 0 ≤ k ∧ k < Obj.sbLostSub 32) ||
  match dictRow (keyIndex k) (keySub k) with | some r => r.keep && !bkpObj k | none => false

/-- The persisted counters as they stand. The spec gives the ledger region no layout for them: they enter it with a commit, all together
(DESIGN CHOICE, log entry 21). -/
def countersNow (s : State) : Saved :=
  ⟨s.objs.filter fun e => counterObj e.1, s.vars.filter fun e => kindIn [.retired, .retSum, .lostSum] e.1⟩

/-- The persisted counters as the ledger region holds them come back. -/
def countersBack (c : Saved) (s : State) : State :=
  let s := s.forEach c.objs fun e s => s.setO e.1 e.2
  { s with vars := c.vars.foldl (fun m e => FMap.set 0 m e.1 e.2) s.vars }

/-! ## The commit buffer -/

/-- Show the number of buffered lines (nvm.buf_lines, nvm.state). -/
def bufShow (s : State) : State :=
  let s := s.setO Obj.nvmBufLines s.buf.length
  if s.oN Obj.nvmState = 0 ∧ s.buf ≠ [] then s.setO Obj.nvmState 1 else s

/-- Ask for a commit (R437). -/
def commitAsk (s : State) : State :=
  if s.varB .commitReq then s else (s.setFlag .commitReq true).setVar .commitReqRound s.nowRound

/-- Overlay bytes on a line's data from an offset. -/
def overlay (line : List Byte) (off : Nat) (d : List Byte) : List Byte :=
  line.take off ++ d ++ line.drop (off + d.length)

/-- Enter bytes of one line into the buffer (R436): they replace those of an entry not yet being committed, else they
are merged with the stored line, which is read for it, in a new entry (R445). The caller has made sure of room. -/
def bufEnter (l off : Nat) (d : List Byte) (s : State) : State :=
  if s.buf.any fun b => b.line = l && !b.committing then
    { s with buf := s.buf.map fun b => if b.line = l ∧ ¬ b.committing then { b with data := overlay b.data off d } else b }
  else
    let s := if d.length = 32 then s else nvmReadEffect l s
    let entry : BufLine := { line := l, data := overlay (nvmLine s l).1 off d, entered := s.nowRound, committing := false }
    let s := bufShow { s with buf := s.buf ++ [entry] }
    if 128 ≤ s.buf.length then commitAsk s else s

/-- Is there room for a line? -/
def bufRoom (s : State) (l : Nat) : Bool :=
  (s.buf.any fun b => b.line = l && !b.committing) || decide (s.buf.length < 128)

/-- The lines that so many bytes at a data address lie in. -/
def linesOf (addr n : Nat) : List Nat := (List.range ((addr % 32 + n + 31) / 32)).map fun i => addr / 32 + i

/-- Is there room for several lines together? -/
def linesRoom (s : State) (ls : List Nat) : Bool :=
  decide (s.buf.length + (ls.filter fun l => !(s.buf.any fun b => b.line = l && !b.committing)).length ≤ 128)

/-- Does a line stand in the array as it was written last: neither in the buffer nor waiting for it? -/
def lineStored (s : State) (l : Nat) : Bool := (bufFind s l).isNone && s.waiters.all fun w => decide (w.addr / 32 ≠ l)

/-- Write bytes that lie in one line; a writer that finds no room waits (R442). -/
def nvmWriteLine (addr : Nat) (d : List Byte) (s : State) : State :=
  if s.waiters = [] ∧ bufRoom s (addr / 32) then bufEnter (addr / 32) (addr % 32) d s
  else commitAsk { s with waiters := s.waiters ++ [{ addr := addr, data := d, since := s.nowRound }] }

/-- Cut a write into lines. -/
def nvmWriteLoop : Nat → Nat → List Byte → State → State
  | 0, _, _, s => s
  | fuel + 1, addr, d, s =>
    if d = [] then s
    else
      let k := 32 - addr % 32
      nvmWriteLoop fuel (addr + k) (d.drop k) (nvmWriteLine addr (d.take k) s)

/-- Write bytes at a data address, through the commit buffer (R436). -/
def nvmWrite (addr : Nat) (d : List Byte) (s : State) : State := nvmWriteLoop (d.length / 32 + 2) addr d s

/-- Write whole lines that one commit must take together (R519): where the buffer has no room for all of them, all wait. -/
def nvmTogether (w : List (Nat × List Byte)) (s : State) : State :=
  if s.waiters = [] ∧ linesRoom s (w.flatMap fun e => linesOf e.1 e.2.length) then s.forEach w fun e s => nvmWrite e.1 e.2 s
  else
    let l : List Waiter := w.flatMap fun e => (List.range (e.2.length / 32)).map fun i =>
      { addr := e.1 + 32 * i, data := (e.2.drop (32 * i)).take 32, since := s.nowRound }
    commitAsk { s with waiters := s.waiters ++ match l with | x :: r => { x with need := l.length } :: r | [] => [] }

/-- Let waiting writers enter while there is room, in order; a scrub rewrite whose line is in the buffer by then is dropped (R446). -/
def drainWaiters : Nat → State → State
  | 0, s => s
  | n + 1, s =>
    match s.waiters with
    | [] => s
    | w :: ws =>
      if w.scrub ∧ (bufFind s (w.addr / 32)).isSome then drainWaiters n { s with waiters := ws }
      else if bufRoom s (w.addr / 32) ∧ (w.need ≤ 1 ∨ s.buf.length + w.need ≤ 128) then
        drainWaiters n (bufEnter (w.addr / 32) (w.addr % 32) w.data { s with waiters := ws })
      else s

/-- COMMIT_AGE_EXPIRY: the oldest entry has waited nvm.commit_age rounds (R437). -/
def execCommitAgeExpiry (s : State) : Out :=
  match s.buf.filter fun b => !b.committing with
  | [] => .next s
  | b :: _ => if b.entered + s.oN Obj.nvmCommitAge ≤ s.nowRound ∧ ¬ s.varB .commitReq then .next (commitAsk s) else .next s

/-- May a commit run, and is one requested? -/
def commitWanted (s : State) : Bool := s.varB .commitReq && (jobRunning s 5).isNone

/-- The commit's record of waiting (R438, R442). -/
def commitWaitData (full : Bool) (since : Nat) (s : State) : List Byte :=
  u16 (s.o Obj.nvmCres) ++ u8 s.buf.length ++ u8 (if full then 1 else 0) ++ u32 (s.nowRound - since : Nat)

/-- A refusal: a commit is wanted at a tick at which CRES is below 4.2 V. Each frame has one check (R438). -/
def commitRefuse (s : State) : State :=
  if commitWanted s && decide (s.oN Obj.nvmCres < 420) && decide (s.varN .refusedAt ≠ s.now + 1) then
    let s := ((s.setVar .refusedAt (s.now + 1 : Nat)).bump Obj.nvmRefused).setO Obj.nvmState 2
    s.recordPer 0x0C00 0 s.nowRound (commitWaitData false (s.varN .commitReqRound) s)
  else s

/-- COMMIT_START: the commit starts if CRES is at or above 4.2 V, with its marker and line count set in BKP; else it waits, and the check is
repeated at every tick (R438 to R440). The persisted counters go with its lines. -/
def execCommitStart (s : State) : Out :=
  if commitWanted s then
    if 420 ≤ s.oN Obj.nvmCres then
      let s := { s with buf := s.buf.map fun b => { b with committing := true }, saving := countersNow s }
      let s := jobRequest 5 .commit s
      let s := (s.setFlag .commitReq false).setVar .commitMarker ((s.buf.length + 1 : Nat) : Int)
      let s := (s.setVar .commitStart s.now).setVar .commitLast ((s.now : Int) - 2)
      .next (s.setO Obj.nvmState 3)
    else .next (commitRefuse s)
  else .next s

/-- Does CRES carry the NVM array: the line sequencer runs down to 2.7 V (R440)? -/
def cresRuns (s : State) : Bool := decide (270 ≤ s.pin .cres)

/-- COMMIT_STEP: one buffered line is written to the array with its check bytes, in order of entry, no sooner than two
frames after the previous one; its entry is freed (R439). It needs no supply but CRES, at or above 2.7 V (R440); one that has stopped goes
on when CRES is there again (DESIGN CHOICE, log entry 114). -/
def execCommitStep (s : State) : Out :=
  match s.buf.find? fun b => b.committing with
  | none => .next s
  | some b =>
    if (jobRunning s 5).isSome ∧ s.var .commitLast + 2 ≤ s.now ∧ cresRuns s then
      let s := lineMended b.line { s.writeMram (38 * b.line) (rsEncode b.data) with buf := s.buf.erase b }
      let s := (s.setVar .commitLast s.now).addO (Obj.jobStepsDone 5) 1
      .next (bufShow (drainWaiters s.waiters.length (s.setVar .jobLast s.now 5)))
    else .next s

/-- Is the close-out step due? -/
def commitClosing (s : State) : Bool :=
  (jobRunning s 5).isSome && !(s.buf.any fun b => b.committing) && decide (s.var .commitLast + 2 ≤ s.now) && cresRuns s

/-- The close-out step clears the marker and ends job 5 (R440). -/
def commitClose (s : State) : State :=
  let s := (s.setVar .commitMarker 0).bump Obj.nvmCommits
  let s := s.setO Obj.nvmCommitTime (((s.now - s.varN .commitStart : Nat) : Int) % 65536)
  let s := jobEnd 5 true { s with saved := s.saving }
  s.setO Obj.nvmState (if s.buf = [] then 0 else 1)

/-- The round since which a writer has waited for buffer room: the first in line, or the studbook (R442). -/
def waitSince (s : State) : Option Nat :=
  let sb := if s.varB .sbHeld then some (s.varN .sbHeld - 1) else none
  match s.waiters, sb with
  | [], r => r
  | w :: _, none => some w.since
  | w :: _, some r => some (min w.since r)

/-- WRITER_WAIT_TIMEOUT: a writer has waited 100 rounds for buffer room (R442). -/
def execWriterWaitTimeout (s : State) : Out :=
  match waitSince s with
  | none => .next s
  | some r => if r + 100 ≤ s.nowRound then .next (s.raise 225 0 (commitWaitData true r s)) else .next s

/-! ## CRES -/

/-- NVM's part of a frame tick: CRES sampled; a commit that waits for it is checked again (R438); a waiter that has gone ends the condition
of R442. -/
def nvmTick (s : State) : State :=
  let s := commitRefuse (s.setO Obj.nvmCres (s.pin .cres))
  if (waitSince s).isNone then s.condOff 225 0 else s

/-- Was CRES open, short or over its voltage at the last round boundary, from 100 rounds after the start of charging on (R444)? -/
def cresBad (s : State) : Bool :=
  s.varB .cresRound &&
  (decide (s.varN .cresFrom + 100 < s.nowRound ∧ s.varN .cresRound < 101) || decide (551 < s.varN .cresRound))

/-- NVM's part of a round boundary: CRES as it stands, and below 4.2 V since its first charge (R444). -/
def nvmRound (s : State) : State :=
  let s := s.setVar .cresRound (s.oN Obj.nvmCres + 1 : Nat)
  let s := if cresBad s then s else s.condOff 220 1
  let low := s.bit Obj.nvmCresFlags 1 && decide (s.oN Obj.nvmCres < 420)
  let s := s.countCond .cresLowCnt low
  if low then s else s.condOff 220 0

/-- CRES_FIRST_CHARGE: a round boundary at which CRES reads at or above 4.9 V (R444). -/
def execCresFirstCharge (s : State) : Out :=
  if s.bit Obj.nvmCresFlags 0 && !s.bit Obj.nvmCresFlags 1 && decide (491 ≤ s.varN .cresRound) then
    .next (s.setBit Obj.nvmCresFlags 1 true)
  else .next s

/-- CRES_LOW: below 4.2 V at 1,000 consecutive round boundaries from the completion of the first charge (R444). -/
def execCresLow (s : State) : Out :=
  if s.metCond .cresLowCnt 1000 then .next (s.raise 220 0 (u8 0 ++ u16 (s.o Obj.nvmCres))) else .next s

/-- CRES_FAULT: open, short or overvoltage; the charger stops until the next BOOT (R444). -/
def execCresFault (s : State) : Out :=
  if s.bit Obj.nvmCresFlags 0 && cresBad s then
    let s := (s.setBit Obj.nvmCresFlags 0 false).setBit Obj.nvmCresFlags 2 true
    .next (s.raise 220 1 (u8 1 ++ u16 (s.o Obj.nvmCres)))
  else .next s

/-- A warm BOOT ends the stop of the charger: charging starts again (R444). -/
def cresWarm (s : State) : State :=
  if s.bit Obj.nvmCresFlags 2 then
    (((s.setO Obj.nvmCresFlags 1).setVar .cresFrom s.nowRound).setVar .cresRound 0).setVar .cresLowCnt 0
  else s

/-! ## The scrubber -/

/-- Is the next line of the scrub pass due (evenly spaced over nvm.scrub_period rounds, R446)? -/
def scrubDue (s : State) : Bool :=
  decide (s.varN .scrubStart + s.varN .scrubLine * s.oN Obj.nvmScrubPeriod / nvmLines ≤ s.nowRound)

/-- A rewrite of the scrubber; where there is no room it waits as every writer does, to be dropped if the line enters the buffer meanwhile
(R442, R446). -/
def scrubRewrite (l : Nat) (d : List Byte) (s : State) : State :=
  if s.waiters = [] ∧ bufRoom s l then bufEnter l 0 d s
  else commitAsk { s with waiters := s.waiters ++ [{ addr := 32 * l, data := d, since := s.nowRound, scrub := true }] }

/-- SCRUB_STEP: one stored line is read; with enough corrected bytes and no entry in the buffer it is rewritten through
the buffer; an uncorrectable line is reported and left; a completed pass posts source 94 (R446). -/
def execScrubStep (s : State) : Out :=
  if s.mgtOn && scrubDue s then
    let l := s.varN .scrubLine
    let s := match mramDecode s l with
      | (_, none) => lineLost l true s
      | (d, some n) =>
        let s := if n = 0 then s else s.bump Obj.nvmCorrected
        if s.oN Obj.nvmRewriteThr ≤ n ∧ n ≠ 0 ∧ (bufFind s l).isNone then scrubRewrite l d s else s
    if l + 1 = nvmLines then
      .next (((s.setVar .scrubLine 0).setVar .scrubStart (s.varN .scrubStart + s.oN Obj.nvmScrubPeriod : Nat)).post 94)
    else .next (s.setVar .scrubLine (l + 1 : Nat))
  else .next s

/-! ## OTP -/

/-- A shadow register. -/
def shadowWord (s : State) (w : Nat) : Nat := FMap.get 0 s.shadow w

/-- An OTP word as programmed. -/
def otpWordAt (s : State) (w : Nat) : Nat := FMap.get 0 s.otp w

/-- The production lock, word 33 bit 0 (R522). -/
def prodLock (s : State) : Bool := (shadowWord s 33).testBit 0

/-- Is a word marked marginal, in either copy of the map? -/
def otpMarginal (s : State) (w : Nat) : Bool :=
  ((shadowWord s (46 + w / 64)) ||| (shadowWord s (50 + w / 64))).testBit (w % 64)

/-- otp.marginal, otp.revoked and otp.defaults: the maps as the OR of their copies, and word 34 (R448, R450). -/
def otpShow (s : State) : State :=
  let map : Nat := (List.range 4).foldl (fun a j => a + ((shadowWord s (46 + j)) ||| (shadowWord s (50 + j))) * 2 ^ (64 * j)) 0
  ((s.setO Obj.otpMarginal (map : Nat)).setO Obj.otpRevoked (((shadowWord s 54) ||| (shadowWord s 55) : Nat) : Int)).setO
    Obj.otpDefaults (shadowWord s 34)

/-- The conditions of R449: VIN_MGT 10.8 V to 13.2 V, th.t_die 0 °C to 85 °C, SETUP. -/
def otpConditions (s : State) : Bool :=
  decide (1080 ≤ s.oN Obj.mgtVin ∧ s.oN Obj.mgtVin ≤ 1320) && decide (0 ≤ s.o Obj.thTDie ∧ s.o Obj.thTDie ≤ 1360) &&
  decide (s.mode = .setup)

/-- Burn bits into a word: an antifuse bit once set stays set. -/
def otpBurn (w v : Nat) (s : State) : State :=
  otpShow (s.burnFuse w v)

/-- A word that does not verify is marked, and reported with the number of bits that differ or read marginal (R450). -/
def otpReportMarginal (w differ : Nat) (s : State) : State :=
  s.raiseActionLater 224 0 (u8 w ++ u16 differ ++ u16 (s.o Obj.mgtVin) ++ u16 (s.o Obj.thTDie))

/-- Mark a word marginal in both copies of the map (R450). -/
def otpMark (w : Nat) (s : State) : State :=
  otpBurn (50 + w / 64) (2 ^ (w % 64)) (otpBurn (46 + w / 64) (2 ^ (w % 64)) s)

/-- A block of the device finds that a word does not verify: it is marked and reported; the number of bits that differ or read marginal is left
open, from 1 to 64 (R449, R450). -/
def otpBlockMarginal (w : Nat) (s : State) : State :=
  let (f, s) := s.drawFree
  otpReportMarginal w (f % 64 + 1) (otpMark w s)

/-- Start programming a word (R450 step 2). -/
def otpStart (w v : Nat) (s : State) : State :=
  (((s.setFlag .otpBusy true).setVar .otpWord w).setVar .otpValue v).setO Obj.otpResult 2

/-- A block of the device programs a word: at once when R449 allows, else at the next round boundary that does. -/
def otpProgramBlock (w v : Nat) (s : State) : State :=
  if otpConditions s && !s.varB .otpBusy then otpStart w v s else s.setVar .otpTodo ((v + 1 : Nat) : Int) w

/-- A refused block tries again at each round boundary at which the conditions hold (R449): the lowest word first. -/
def otpRound (s : State) : State :=
  if otpConditions s && !s.varB .otpBusy then
    match (List.range 256).find? fun w => s.varB .otpTodo w with
    | some w => otpStart w (s.varN .otpTodo w - 1) (s.setVar .otpTodo 0 w)
    | none => s
  else s

/-- otp.prog_cmd (R450, R451): its status and effect. -/
def otpProgCmd (v : Nat) (s : State) : Status × State :=
  let w := s.oN Obj.otpProgWord
  let d := s.oN Obj.otpProgData
  if v ≠ 1 then (.outOfRange, s)
  else if !otpConditions s then (.stateForbids, s)
  else if !(decide (w = 34 ∨ w = 54 ∨ w = 55) || decide (128 ≤ w ∧ w ≤ 255)) then (.locked, s)
  else if otpMarginal s w then (.outOfRange, s)
  else if (w = 54 ∨ w = 55) ∧ otpWordAt s w &&& d ≠ 0 then (.outOfRange, s)
  else if w ≠ 54 ∧ w ≠ 55 ∧ otpWordAt s w ≠ 0 then (.outOfRange, s)
  else if s.varB .otpBusy then (.busy, s)
  else (.ok, otpStart w d s)

/-- OTP_PROGRAM_DONE: the burn and the margin read-back have ended, `differ` bits differing or marginal (R450). -/
def execOtpProgramDone (differ : Nat) (s : State) : Out :=
  if s.varB .otpBusy && otpConditions s then
    let w := s.varN .otpWord
    let v := s.varN .otpValue
    let s := (otpBurn w v s).setFlag .otpBusy false
    if differ = 0 then
      .next (((s.setO Obj.otpResult 1).record 0x0C03 (u8 w ++ u32 v)).post 92)
    else
      .next (otpReportMarginal w differ ((otpMark w s).setO Obj.otpResult 3))
  else .next s

/-- OTP_PROGRAM_STOPPED: a condition of R449 has failed during programming; the word is marked marginal (R449). How
far its bits were burnt is a free value. -/
def execOtpProgramStopped (s : State) : Out :=
  if s.varB .otpBusy && !otpConditions s then
    let w := s.varN .otpWord
    let (f, s) := s.drawFree
    let s := otpBurn w (s.varN .otpValue &&& f) (s.setFlag .otpBusy false)
    .next ((otpMark w s).setO Obj.otpResult 4)
  else .next s

end Sys2Proof.Machine
end

