-- ==== Sys2Proof/Machine/Phase.lean ====
section
/-!
DEFINITION. Phase Control (spec/03_phase_control.md): a phase channel's pulses, its comparators and limits, slope
compensation and inductance learning. Instants are steps of 78.125 ps within the frame; sensed voltages are in µV
relative to REFIN.
-/

namespace Sys2Proof.Machine

/-! ## Sensing and thresholds -/

/-- The phase current of a sensed voltage, in mA (R69). -/
def phaseCurrent (s : State) (n : Nat) (uv : Int) : Int := divNearest (uv * 100) (s.o (Obj.phaseImonGain n))

/-- Is a sampled voltage outside −0.300 V to +1.200 V (R70)? -/
def imonOut (uv : Int) : Bool := decide (uv < -300000 ∨ 1200000 < uv)

/-- The sampler's reading: whole mV over −512 mV to +1,535 mV (R71), in µV. -/
def sampled (uv : Int) : Int := 1000 * clamp (-512) 1535 (divNearest uv 1000)

/-- The code the loop gives the phase next (R126). -/
def refCode (s : State) (n : Nat) : Nat := if s.varB .refNext n then s.varN .refNext n - 1 else 128

/-- The peak reference latched at turn-on, in µV (R73). -/
def refUv (s : State) (n : Nat) : Int := (s.o (Obj.phaseDacCode n) - 128) * 1000

/-- The ramp at a time since turn-on, in µV: 0.5 mV/µs per code (R78). -/
def rampUv (s : State) (n elapsed : Nat) : Int := s.var .rampCode n * elapsed * 5 / 128

/-- The comparator's threshold at a time since turn-on (R73). -/
def peakThreshold (s : State) (n elapsed : Nat) : Int := max (-128000) (refUv s n - rampUv s n elapsed)

/-- The effective minimum on-time in steps (R75). -/
def minOn (s : State) (n : Nat) : Nat := max (s.oN (Obj.phaseTonMin n)) (s.oN (Obj.phaseBlank n)) * stepsPerCycle

/-- The minimum off-time in steps. -/
def minOff (s : State) (n : Nat) : Nat := s.oN (Obj.phaseToffMin n) * stepsPerCycle

/-- Has the minimum off-time passed at an instant (R76)? -/
def offDone (s : State) (n t : Nat) : Bool := !s.varB .lastOff n || decide (s.varN .lastOff n - 1 + minOff s n ≤ t)

/-- R77 for a phase that switches with period P. -/
def timesFit (s : State) (n period : Nat) : Bool :=
  decide (2 * (max (s.oN (Obj.phaseTonMin n)) (s.oN (Obj.phaseBlank n)) + s.oN (Obj.phaseToffMin n)) ≤ period)

/-- A current as a code of the reference scale, rounded down (R69, R85). -/
def codeDown (s : State) (n : Nat) (mA : Int) : Int := 128 + mA * s.o (Obj.phaseImonGain n) / 100000

/-- A current as a code of the reference scale, rounded up (R86). -/
def codeUp (s : State) (n : Nat) (mA : Int) : Int := 128 - -mA * s.o (Obj.phaseImonGain n) / 100000

/-- The limits of a phase come into force (R85, R86); `share` is the per-phase share of R127, where there is one. -/
def phaseLimits (n : Nat) (share : Option Int) (s : State) : State :=
  let want := match share with
    | some x => min x (s.o (Obj.phaseIlim n))
    | none => s.o (Obj.phaseIlim n)
  let c := codeDown s n want
  let cn := codeUp s n (s.o (Obj.phaseIneg n))
  let eff := if 1023 < c then divNearest 89500000 (s.o (Obj.phaseImonGain n)) else want
  let s := (s.setO (Obj.phaseIlimEff n) eff).setVar .ilimCode (min c 1023) n
  (s.setVar .inegCode (max cn 0) n).setBit (Obj.phaseFlags n) 13 (decide (1023 < c ∨ cn < 0))

/-! ## Learning (R81 to R84) -/

/-- Lused of R79 in 1/20 of 0.1 nH, where both its bounds are whole numbers. -/
def lUsed (s : State) (n : Nat) : Int :=
  let nom := s.o (Obj.phaseLNom n)
  min (max (20 * s.o (Obj.phaseLLearned n)) (10 * nom)) (26 * nom)

/-- The rail is slewing its setpoint, or its shed table changed within the last 1 ms (R81), which the model takes as a change of its shed
level, not of the table's objects (DESIGN CHOICE, log entry 114). -/
def railUnsettled (s : State) (m : Nat) : Bool :=
  s.bit (Obj.railFlags m) 1 || (s.varB .shedAt m && decide (s.now < s.varN .shedAt m - 1 + 1000))

/-- The cycle that ends: is it one of the cycles R81 allows, by its first three conditions? -/
def cycleQualifies (s : State) (n : Nat) : Bool :=
  !s.varB .cycBad n && !s.varB .cycBadPrev n && decide (minOn s n + 256 ≤ s.varN .tonLast n) &&
  !s.bit (Obj.phaseFlags n) 3 && decide (20000 ≤ refUv s n - s.var .valley n)

/-- The drive voltage of the inductor, VIN − VOUT, in quarters of a mV. -/
def driveQ (s : State) (m : Nat) : Int := 4 * s.var .rvin m - s.var .vmeas m

/-- Take the learning sample and the ripple ratio of the cycle that ends (R81, R82, R162). A valley sample outside the range of R70 is
not learned from. -/
def learnCycle (n m : Nat) (s : State) : State :=
  if cycleQualifies s n then
    let d := refUv s n - s.var .valley n
    let g := s.o (Obj.phaseImonGain n)
    let q := driveQ s m
    let ton := s.var .tonLast n
    let s := if 0 < q ∧ 0 < ton then
        (s.addVar .ripSum (divNearest (d * lUsed s n * 25600000) (g * q * ton)) n).addVar .ripCnt 1 n
      else s
    if decide (4000 ≤ q) && !railUnsettled s m && !imonOut (s.var .valley n) then
      let s := s.setFlag .qualSeen true n
      if s.varB .learnTaken n then s
      else
        -- Ls in 1/1,000 of 0.1 nH
        (s.setFlag .learnTaken true n).setVar .learnLs (divNearest (q * ton * g * 1000) (512 * d)) n
    else s
  else s

/-- A sample within ±50 % of the learned value is accepted (R82). -/
def learnAccepts (l ls : Int) : Bool := decide (2 * (ls - 1000 * l).natAbs ≤ (1000 * l).natAbs)

/-- Do eight rejected samples agree within ±10 % of their mean (R83)? -/
def rejectsAgree (l : List Int) : Bool :=
  decide (l.length = 8) && l.all fun x => decide (10 * (8 * x - l.sum).natAbs ≤ l.sum.natAbs)

/-- LEARNING_SAMPLE and LEARNED_INDUCTANCE_REPLACED at a round boundary (R82 to R84): only a phase in state switching has a sample to
judge, and every round without an accepted one counts toward flag 7. A STANDBY counts its sample as rejected and applies nothing
(R101). The rejected samples that record 0x0105 names are those phase[n].learn_rej counts, not the 8 of R83 (DESIGN CHOICE, log
entry 92). -/
def learnRound (n : Nat) (s : State) : State :=
  let l := s.o (Obj.phaseLLearned n)
  let ls := s.var .learnLs n
  let taken := s.varB .learnTaken n && decide (s.oN (Obj.phaseState n) = PS.switching)
  let s := (s.setFlag .learnTaken false n).setVar .learnLs 0 n
  let s := if !taken then s.addVar .learnIdle 1 n
    else if s.oN Obj.teamRole = 2 then (s.bumpSat (Obj.phaseLearnRej n) 65535).addVar .learnIdle 1 n
    else if learnAccepts l ls then
      let new := divNearest (8000 * l + (ls - 1000 * l)) 8000
      let s := ((s.setO (Obj.phaseLLearned n) new).setBit (Obj.phaseFlags n) 6 true).setVar .learnIdle 0 n
      let s := (s.setHist .hRej [] n).setFlag .lLive true n
      let s := if s.o (Obj.wearLMin n) = 0 ∨ new < s.o (Obj.wearLMin n) then s.setO (Obj.wearLMin n) new else s
      if s.o (Obj.wearLMax n) < new then s.setO (Obj.wearLMax n) new else s
    else
      let h := (ls :: s.hist .hRej n).take 8
      let s := ((s.bumpSat (Obj.phaseLearnRej n) 65535).setHist .hRej h n).addVar .learnIdle 1 n
      if rejectsAgree h then
        let new := divNearest h.sum 8000
        let s := ((s.setO (Obj.phaseLLearned n) new).setHist .hRej [] n).setFlag .lLive true n
        s.raiseAction n 4 (u8 n ++ u16 l ++ u16 new ++ u8 (s.o (Obj.phaseRail n)) ++ u16 (s.o (Obj.phaseLearnRej n)))
      else s
  s.setBit (Obj.phaseFlags n) 7 (decide (1000 ≤ s.varN .learnIdle n))

/-! ## Slope compensation (R78 to R80) -/

/-- The slope code before clamping (R79), where the phase's mode computes one; VOUT is the rail's mean of the round. -/
def slopeRaw (s : State) (n m : Nat) : Int :=
  let top := s.o (Obj.railVout m) * s.o (Obj.phaseImonGain n) * s.o (Obj.phaseSlopeFrac n)
  if s.oN (Obj.phaseSlopeMode n) = 2 then s.o (Obj.phaseSlopeFixed n)
  else if s.oN (Obj.phaseSlopeMode n) = 1 then divNearest top (2000 * s.o (Obj.phaseLNom n))
  else divNearest top (100 * lUsed s n)

/-- SLOPE_RECOMPUTE of a phase (R79, R105): class 0x03 is raised when the clamp begins (R223), and record 0x0106 is written at most once
per 1,000 rounds. The fixed code of slope_mode 0x02
is not clamped: the sentence that clamps speaks of Se, which the fixed row does not have (DESIGN CHOICE, log entry 92). -/
def slopeRound (n m : Nat) (s : State) : State :=
  let raw := slopeRaw s n m
  let lo := s.o (Obj.phaseSlopeMin n)
  let hi := s.o (Obj.phaseSlopeMax n)
  let code := if s.oN (Obj.phaseSlopeMode n) = 2 then raw else clamp lo hi raw
  let low := decide (code ≠ raw ∧ raw < lo)
  let high := decide (code ≠ raw ∧ hi < raw)
  let s := s.setO (Obj.phaseSlopeCode n) code
  let s := (s.setBit (Obj.phaseFlags n) 8 low).setBit (Obj.phaseFlags n) 9 high
  let s := s.setBit (Obj.phaseFlags n) 10 (decide (lUsed s n ≠ 20 * s.o (Obj.phaseLLearned n)))
  if low || high then
    let data := u8 n ++ u16 (min raw 65535) ++ u16 code ++ u8 (State.ofBool high) ++ u8 m
    if s.condOn n 3 then s
    else if s.varB .clampRec n && decide (s.nowRound < s.varN .clampRec n - 1 + 1000) then
      let s : State := { s with intake := s.intake ++ [{ src := n, cls := 3, data := data, fold := true }] }
      s.setBit (Obj.srcCond n) 3 true
    else ((s.raiseAction n 3 data).setBit (Obj.srcCond n) 3 true).setVar .clampRec (s.nowRound + 1 : Nat) n
  else s.condOff n 3

/-- Llearned and the slope code at a phase's start (R84, R171). -/
def learnStart (n : Nat) (s : State) : State :=
  let l := if s.bit (Obj.wearStatus n) 3 then s.o (Obj.wearLLast n) else s.o (Obj.phaseLNom n)
  ((s.setO (Obj.phaseLLearned n) l).setHist .hRej [] n).setFlag .lLive true n

/-! ## A switching cycle -/

/-- The mean of the latest per-cycle means of the other switching phases of a rail. -/
def peerMean (s : State) (m n : Nat) : Int :=
  let p := (switching s m).filter (· ≠ n)
  if p.isEmpty then 0 else divNearest (p.map fun x => s.var .cycMean x).sum p.length

/-- One more switching period under the open-phase criterion (R161). -/
def openPeriod (n m : Nat) (s : State) : State :=
  let st := railState s m
  if s.oN (Obj.phaseState n) ≠ PS.switching then s
  else if s.varB .openSkip n then s.addVar .openSkip (-1) n
  else if st ≠ RS.regulating ∧ st ≠ RS.derated ∨ (switching s m).length < 2 then s
  else
    let isOpen := decide ((s.var .cycMean n).natAbs ≤ s.oN (Obj.poolOpenThr m) ∧
      s.o (Obj.phaseIRating n) < 5 * peerMean s m n)
    s.countCond .openCnt isOpen n

/-- A cycle without a limit event restarts the count (R87). -/
def limitCycle (n : Nat) (s : State) : State :=
  let s := if s.varB .limHit n then s else (s.setVar .ilimCnt 0 n).condOff n 0
  let s := if s.varB .negHit n then s else (s.setVar .inegCnt 0 n).condOff n 1
  (s.setFlag .limHit false n).setFlag .negHit false n

/-- The per-cycle mean enters the means of the round and of the frame (R72). -/
def countMean (n : Nat) (s : State) : State :=
  let i := s.var .cycMean n
  ((s.addVar .cycSum i n).addVar .cycCnt 1 n).addVar .frSum i n |>.addVar .frCnt 1 n

/-- What the pulse of the period that ends leaves: its mean (R72), its learning sample (R81), the histories of R162, and its verdict
under R161. A centre sample outside the range of R70 makes no mean; a cycle that diode emulation ended has its own. -/
def closePulse (n m : Nat) (c : Int) (s : State) : State :=
  let w := s.oN (Obj.poolStuckCycles m)
  let s := learnCycle n m s
  let s := s.setHist .hCentre ((c :: s.hist .hCentre n).take w) n
  let s := s.setHist .hTon ((s.var .tonLast n :: s.hist .hTon n).take w) n
  let s := if s.varB .deHit n then countMean n s
    else if imonOut c then s
    else countMean n (s.setVar .cycMean (phaseCurrent s n c) n)
  openPeriod n m s

/-- The switching period that ends at a turn-on, or at an interleave instant in a hold: its samples and their bookkeeping (R70, R71,
R87, R162), and what its pulse leaves, where it had one. -/
def closeCycle (n m : Nat) (valley centre : Int) (s : State) : State :=
  let v := sampled valley
  let c := sampled centre
  let s := limitCycle n s
  let out := imonOut v || imonOut c
  let s := (s.setBit (Obj.phaseFlags n) 11 out).countCond .rangeCnt (imonOut v && imonOut c) n
  let s := if out then s.setFlag .outSeen true n else s
  let s := if s.varB .cycOpen n then closePulse n m c s else s
  let s := s.setFlag .cycOpen false n
  (s.setVar .cycBadPrev (s.var .cycBad n) n).setVar .valley v n

/-- A pulse begins: the reference is latched, blanking starts and the ramp starts from 0 (R68, R74, R78). -/
def startPulse (n m t : Nat) (s : State) : State :=
  let s := (s.setO (Obj.phaseDacCode n) (refCode s n)).setVar .rampCode (s.o (Obj.phaseSlopeCode n)) n
  let s := ((s.setFlag .pulse true n).setFlag .fresh false n).setVar .lastOn t n
  let s := (s.setFlag .cycOpen true n).setFlag .truncated false n
  let s := ((s.setFlag .blanked true n).setFlag .tripped false n).setFlag .uvsPend false n
  let s := (s.setFlag .deHit false n).setFlag .zHold false n
  let ipk := phaseCurrent s n (refUv s n)
  let s := (if s.varB .ipkSeen n && decide (ipk ≤ s.var .ipkMax n) then s else s.setVar .ipkMax ipk n).setFlag .ipkSeen true n
  (s.setFlag .cycBad false n).addVar .updCnt 1 m

/-- A substitute's first turn-on completes the record of its substitution (R169, R188). -/
def substituteOn (n m t : Nat) (s : State) : State :=
  if s.varB .subPhase n then
    let ns := divNearest ((t - s.varN .subAt n : Nat) * 5) 64
    let pos := (positionOf s m n).getD 0
    (s.setVar .subPhase 0 n).raiseActionLater (48 + m) 0xC
      (u8 m ++ u8 (s.var .subPhase n - 1) ++ u8 n ++ u8 pos ++ u16 (min ns 65535) ++
        u8 (s.o (Obj.poolSparesFree m)) ++ u8 (s.o (Obj.poolNh m)))
  else s

/-- A phase turns on: the period that ends is closed, and a pulse begins (R68, R71). -/
def turnOn (n m t : Nat) (valley centre : Int) (s : State) : State :=
  substituteOn n m t (startPulse n m t (closeCycle n m valley centre s))

/-- Is an instant one of the phase's interleave instants (R110)? -/
def isInterleave (s : State) (n m t : Nat) : Bool :=
  let o := offsetAt s n t
  decide (0 < o) && decide (s.varN .grid m + (o - 1) ≤ t) &&
    decide ((t - (s.varN .grid m + (o - 1))) % periodSteps s m = 0)

/-- A turn-on delayed to the end of the minimum off-time: the interleave instant fell within it, or an undershoot firing did (R76, R91);
in the first period of a re-spread, also where the instant fell within the pulse before it (R112). After an overshoot or overvoltage hold
the phase waits for an interleave instant (R90, R140). A firing does not end the high impedance of the negative limit (R86, R93). -/
def isDelayed (s : State) (n m t : Nat) : Bool :=
  let o := offsetAt s n t
  let p := periodSteps s m
  let back := (t - (s.varN .grid m + (o - 1))) % p
  s.varB .lastOff n && decide (t = s.varN .lastOff n - 1 + minOff s n) &&
    ((decide (s.varN .uvsPend n = 1) && !s.varB .negHit n) ||
      (!s.varB .truncated n && decide (0 < o) && decide (s.varN .grid m + (o - 1) ≤ t) &&
        (decide (back < minOff s n) ||
          decide (s.varN .offFrom n ≤ t - back ∧ t - back < s.varN .offFrom n + p ∧ s.varN .lastOn n < t - back))))

/-- An undershoot firing that a hold blocked takes effect once the hold has ended, while the undershoot lasts (R91, R93). -/
def isFired (s : State) (n m : Nat) : Bool := decide (s.varN .uvsPend n = 2) && s.varB .uvsFire m && !s.varB .negHit n

/-- A period of a shed phase begins with the rail's own (DESIGN CHOICE, log entry 104): what a hold made its negative limit do ends there
(R86, R140). -/
def shedPeriod (s : State) (n m t : Nat) : Bool :=
  decide (s.oN (Obj.phaseState n) = PS.shed) && decide (s.varN .grid m ≤ t) &&
    decide ((t - s.varN .grid m) % periodSteps s m = 0)

/-- A comparator trips during a pulse: the pulse ends now, or at the end of the effective minimum on-time (R75). -/
def tripPulse (n t : Nat) (s : State) : State :=
  if t ≤ s.varN .lastOn n + minOn s n then s.setFlag .tripped true n else endPulse n t s

/-- Does the low-side switch of a phase conduct? The comparators of a STANDBY judge it in shadow (R101). -/
def lowSideOn (s : State) (n : Nat) : Bool := decide (pwmWanted s n = 1)

/-- On a device that does not drive: the PWM edge of the rail's first switching phase, unless it is an undershoot firing, aligns the
rail's grid (R111). -/
def alignsGrid (s : State) (n m : Nat) : Bool :=
  !holder s && decide ((switching s m).head? = some n) && !s.varB .uvsFire m

/-- Is diode emulation in force: by phase[n].de_en, and in every soft start (R88, R122)? -/
def deInForce (s : State) (n : Nat) : Bool :=
  s.oB (Obj.phaseDeEn n) || decide (railState s (s.oN (Obj.phaseRail n)) = RS.softStart)

/-! ## The phase's share of ticks and rounds -/

/-- The IMON reading of a phase that does not switch, at a tick: in state shed, test or spare it is judged against the range of R70. -/
def idleSample (n : Nat) (s : State) : State :=
  let st := s.oN (Obj.phaseState n)
  if st = PS.shed ∨ st = PS.test ∨ st = PS.spare then
    let out := imonOut (s.pin .imon n * 1000)
    let s := s.setBit (Obj.phaseFlags n) 11 out
    if out then s.setFlag .outSeen true n else s
  else s

/-- At a tick: the flags of the last frame and its frame means (phase[n].flags, R163). -/
def phaseTick (n : Nat) (s : State) : State :=
  let f := Obj.phaseFlags n
  let s := ((s.setBit f 0 (s.varB .ilimSeen n)).setBit f 1 (s.varB .inegSeen n)).setBit f 2 (s.varB .deSeen n)
  let m := s.oN (Obj.phaseRail n)
  let s := (s.setBit f 4 (decide (m < 12) && s.varB .ovsHold m)).setBit f 5 (s.varB .uvsSeen n)
  let s := ((s.setVar .ilimSeen 0 n).setVar .inegSeen 0 n).setVar .deSeen 0 n
  let s := (s.setVar .uvsSeen 0 n).setVar .outFrame (s.var .outSeen n) n
  let s := idleSample n (s.setVar .outSeen 0 n)
  let s := (s.setVar .qualFrame (s.var .qualSeen n) n).setVar .qualSeen 0 n
  let s := if s.varB .frCnt n then
      ((s.setVar .frMean (divNearest (s.var .frSum n) (s.var .frCnt n)) n).setVar .frSum 0 n).setVar .frCnt 0 n
    else s
  if s.varB .ripCnt n then
    ((s.setVar .ripMean (divNearest (s.var .ripSum n) (s.var .ripCnt n)) n).setVar .ripSum 0 n).setVar .ripCnt 0 n
  else s.setVar .ripMean 0 n

/-- At a round boundary: i_avg, i_pk (R72), learning (R82) and the slope code (R79, R171), which a STANDBY takes from the mirror frame
(R101). A shed phase's slope code is recomputed as a spare's is, though R79 names only switching phases (DESIGN CHOICE, log entry 104). -/
def phaseRound (n : Nat) (s : State) : State :=
  let s := s.setO (Obj.phaseIAvg n) (if s.varB .cycCnt n then divNearest (s.var .cycSum n) (s.var .cycCnt n) else 0)
  let s := s.setO (Obj.phaseIPk n) (s.var .ipkMax n)
  let s := (((s.setVar .cycSum 0 n).setVar .cycCnt 0 n).setVar .ipkMax 0 n).setFlag .ipkSeen false n
  let m := s.oN (Obj.phaseRail n)
  let st := s.oN (Obj.phaseState n)
  let s := learnRound n s
  if s.oN Obj.teamRole ≠ 2 ∧ m < 12 ∧ (st = PS.spare ∨ ((st = PS.switching ∨ st = PS.shed) ∧ railOn s m)) then slopeRound n m s else s

end Sys2Proof.Machine
end

