-- ==== Sys2Proof/Machine/Rail.lean ====
section
/-!
DEFINITION. Multiphase Rails and Auxiliary Bucks (spec/04_rail_regulation.md): composing a rail, its target, its
compensator, limits, balance, shedding, windows, the fast comparators, starting and stopping, and the bucks.
-/

namespace Sys2Proof.Machine

/-! ## Windows (R136 to R138) -/

/-- The object keys of the windows of a rail: offsets then filters, in the order OV fault, OV warning, UV warning,
UV fault. -/
def winOff (r j : Nat) : Nat :=
  if r < 12 then [Obj.railOvfOff r, Obj.railOvwOff r, Obj.railUvwOff r, Obj.railUvfOff r].getD j 0
  else if r < 20 then
    [Obj.abOvfOff (r - 12), Obj.abOvwOff (r - 12), Obj.abUvwOff (r - 12), Obj.abUvfOff (r - 12)].getD j 0
  else [Obj.scOvfOff (r - 20), Obj.scOvwOff (r - 20), Obj.scUvwOff (r - 20), Obj.scUvfOff (r - 20)].getD j 0

/-- The filter object of a window. -/
def winFilt (r j : Nat) : Nat :=
  if r < 12 then [Obj.railOvfFilt r, Obj.railOvwFilt r, Obj.railUvwFilt r, Obj.railUvfFilt r].getD j 0
  else if r < 20 then
    [Obj.abOvfFilt (r - 12), Obj.abOvwFilt (r - 12), Obj.abUvwFilt (r - 12), Obj.abUvfFilt (r - 12)].getD j 0
  else [Obj.scOvfFilt (r - 20), Obj.scOvwFilt (r - 20), Obj.scUvwFilt (r - 20), Obj.scUvfFilt (r - 20)].getD j 0

/-- The class a window raises (R154, R218). -/
def winClass (j : Nat) : Nat := [0, 3, 4, 1].getD j 0

/-- VCODE of Vramp. -/
def vrampCode (s : State) (r : Nat) : Int := divNearest (s.var .vramp r) 3200000

/-- The target a rail is judged against, in VCODE: that of the loop's last update (R139), the buck's ramp, a switched rail's nominal. -/
def railTarget (s : State) (r : Nat) : Int :=
  if r < 12 then s.var .targetNow r else if r < 20 then vrampCode s r else s.o (Obj.scVnom (r - 20))

/-- The threshold of a window (R137). -/
def winThreshold (s : State) (r j : Nat) : Int :=
  let t := railTarget s r
  let d := s.o (winOff r j)
  if j = 0 then
    if r < 12 then min (t + d) (s.o (Obj.railVmax r))
    else if r < 20 then min (t + d) (s.o (Obj.abVmax (r - 12))) else t + d
  else if j = 1 then t + d else t - d

/-- Is a window true (R137)? The UV windows read false below a target of 100 mV; every window does where the rail is not
judged. A switched rail's OV windows are judged from its start command, its UV windows while it is qualified (R203). -/
def winTrue (s : State) (r j : Nat) : Bool :=
  let v := s.var .vMean r
  (if r < 20 then judged (railState s r)
   else if j < 2 then s.varB .scOv (r - 20) else decide (s.oN (Obj.seqState r) = 4)) &&
  (if j < 2 then decide (winThreshold s r j ≤ v) else decide (400 ≤ railTarget s r ∧ v ≤ winThreshold s r j))

/-- WINDOW_QUALIFIED: a window that has been true for its filter time raises its class (R137, R154). -/
def execWindowQualified (r w : Nat) (s : State) : Out :=
  if railExists s r && decide (w < 4) && s.metCond .winCnt (s.oN (winFilt r w)) r w then
    .next (s.raise (railSrc r) (winClass w)
      (u8 r ++ u16 (mvOf (s.var .vMean r)) ++ u16 (mvOf (winThreshold s r w)) ++ u16 (mvOf (railTarget s r)) ++
        u8 (s.o (winFilt r w))))
  else .next s

/-- The windows at a tick (R48, R137). -/
def windowTick (r : Nat) (s : State) : State :=
  s.forRange 4 fun j s =>
    let s := s.countCond .winCnt (winTrue s r j) r j
    if s.varB .winCnt r j then s else s.condOff (railSrc r) (winClass j)

/-- The power-good flag of R138. -/
def pgOf (s : State) (r : Nat) : Bool :=
  let st := railState s r
  decide (st = RS.regulating ∨ st = RS.derated) && !winTrue s r 1 && !winTrue s r 2

/-! ## Limits (R127, R149) -/

/-- The derated limit (R174): floor(Nh × Imin × 100 ÷ pk_margin). -/
def iderOf (s : State) (m : Nat) : Int :=
  let ms := membersOf s m
  let imin := ms.foldl (fun a n => min a (s.o (Obj.phaseIlim n))) 250000
  (ms.length : Nat) * imin * 100 / s.o (Obj.railPkMargin m)

/-- The rail limit in force and which limit is the smallest: 0 configured, 1 budget, 2 derated (R127). -/
def railLimit (s : State) (m : Nat) : Int × Nat :=
  let a := s.o (Obj.railIlim m)
  let (l, k) : Int × Nat := if s.varB .budgetLim m ∧ s.var .budgetLim m - 1 < a then (s.var .budgetLim m - 1, 1) else (a, 0)
  if railState s m = RS.derated ∧ s.o (Obj.poolIder m) < l then (s.o (Obj.poolIder m), 2) else (l, k)

/-- The per-phase share (R127), in whole mA. -/
def shareOf (s : State) (m : Nat) : Int :=
  let nh := nhOf s m
  if nh = 0 then 0 else s.o (Obj.railIlimEff m) * s.o (Obj.railPkMargin m) / 100 / nh

/-- The crossover of a buck's current loop in Hz: its switching frequency divided by 20, or by 10, as ab[b].comp says (R148). The peak current
that the loop asks for in a cycle comes with BUCK_TURN_ON: the spec gives its compensation no other figure. -/
def buckCrossover (s : State) (b : Nat) : Nat :=
  400000000 / (s.oN (Obj.abPeriod b) * (if s.oN (Obj.abComp b) = 0 then 20 else 10))

/-- The limit in force of a buck and which is the smallest: 0 configured, 1 budget, 3 thermal (R149). -/
def buckLimit (s : State) (b : Nat) : Int × Nat :=
  let scaled := s.o (Obj.abIlim b) * s.o Obj.thScale / 1000
  let a : Int × Nat := (scaled, if scaled < s.o (Obj.abIlim b) then 3 else 0)
  if s.varB .budgetLim (12 + b) ∧ s.var .budgetLim (12 + b) - 1 < scaled then (s.var .budgetLim (12 + b) - 1, 1) else a

/-- The limits of a rail and of its phases at a tick (R85, R86, R127); the share holds until the next. -/
def limitsTick (m : Nat) (s : State) : State :=
  let (l, k) := railLimit s m
  let s := s.setO (Obj.railIlimEff m) l
  let s := s.setO (Obj.railFlags m) ((s.oN (Obj.railFlags m) &&& 0xFF9F) + 32 * k : Nat)
  let share := shareOf s m
  let s := s.setVar .share share m
  s.forEach (railPhases s m) fun n s => phaseLimits n (some share) s

/-! ## Balance (R129) -/

/-- The stage temperature of a rail: its TMON reading, the last valid one of a broken sensor (R129, R382). -/
def stageTemp (s : State) (m : Nat) : Int := if s.bit Obj.thBroken (13 + m) then s.var .thLast (13 + m) else s.o (Obj.tmT m)

/-- The thermal term of the phase that holds a list position (R129). -/
def thermTerm (m i : Nat) (s : State) : State :=
  if s.varB .posPhase m i then
    s.setVar .th (-divNearest (s.o (Obj.railTw m i) * max 0 (stageTemp s m - s.o (Obj.railTbalStart m))) 160)
      (s.varN .posPhase m i - 1)
  else s

/-- The balance of a rail at the first frame of a round (R129). -/
def balanceRound (m : Nat) (s : State) : State :=
  let sw := switching s m
  let mean := if sw.isEmpty then 0 else divNearest (sw.map fun n => s.o (Obj.phaseIAvg n)).sum sw.length
  let b := s.o (Obj.railBalMax m)
  let s := if s.varB .setChanged m then s
    else s.forEach sw fun n s =>
      let d := divNearest ((mean - s.o (Obj.phaseIAvg n)) * s.o (Obj.phaseImonGain n) * s.o (Obj.railBalGain m)) 25600000
      s.setVar .cb (clamp (-b) b (s.var .cb n + d)) n
  let s := s.forRange 48 fun i s => thermTerm m i s
  showOffsets m (s.setFlag .setChanged false m)

/-! ## Shedding (R130 to R135) -/

/-- Is the shed table of a rail valid (R130)? -/
def shedValid (s : State) (m : Nat) : Bool :=
  let L := s.oN (Obj.railShedLevels m)
  (List.range (L - 1)).all (fun l => decide (nphOf s m l < nphOf s m (l + 1))) &&
  decide (nphOf s m (L - 1) = nns s m) &&
  (List.range (L - 2)).all (fun l => decide (s.o (Obj.railShedIAdd m l) < s.o (Obj.railShedIAdd m (l + 1)))) &&
  (List.range (L - 1)).all (fun l => decide (s.o (Obj.railShedIDrop m (l + 1)) < s.o (Obj.railShedIAdd m l)))

/-- The rail takes a shed level; the new set applies from the next period (R112, R132). -/
def toLevel (m t l : Nat) (s : State) : State :=
  let s := (s.setO (Obj.railShedLvl m) l).setVar .shedDrop 0 m
  applySet m t (s.setVar .shedAt (s.now + 1 : Nat) m)

/-- The level that R132 and R135 ask for. -/
def levelWanted (s : State) (m : Nat) : Nat :=
  let l := s.oN (Obj.railShedLvl m)
  let top := topLevel s m
  if !s.oB (Obj.railShedEn m) then top
  else if l < top ∧ s.o (Obj.railShedIAdd m l) < s.var .ifr m then
    ((List.range top).find? fun j => decide (s.var .ifr m ≤ s.o (Obj.railShedIAdd m j))).getD top
  else l

/-- SHED_MOVE_UP in the shed slots of a frame (R132): decided by the end of slot 30. -/
def shedSlots (m : Nat) (s : State) : State :=
  if railOn s m then
    let w := levelWanted s m
    if s.oN (Obj.railShedLvl m) < w then toLevel m (instant s 7936) w s else s
  else s

/-- May the rail move down at all: switched on, past its soft start, not slewing, no hold-off (R133, R134)? -/
def mayDrop (s : State) (m : Nat) : Bool :=
  let st := railState s m
  decide (st = RS.regulating ∨ st = RS.derated) && s.oB (Obj.railShedEn m) && decide (0 < s.oN (Obj.railShedLvl m)) &&
  !s.bit (Obj.railFlags m) 1 && !s.varB .holdoffT m

/-- The move-down count at a tick: a slew at any time since the last tick restarts it (R133). -/
def shedTick (m : Nat) (s : State) : State :=
  let below := decide (s.var .ifr m < s.o (Obj.railShedIDrop m (s.oN (Obj.railShedLvl m)))) &&
    decide (0 < s.oN (Obj.railShedLvl m)) && !s.bit (Obj.railFlags m) 1 && !s.varB .slewSeen m && railOn s m
  (s.countCond .shedDrop below m).setVar .slewSeen 0 m

/-- SHED_MOVE_DOWN: Ifr below i_drop for 1,000 ticks (R133). -/
def execShedMoveDown (m : Nat) (s : State) : Out :=
  if decide (m < 12) && railExists s m && mayDrop s m && s.metCond .shedDrop 1000 m then
    .next (toLevel m (instant s 7936) (s.oN (Obj.railShedLvl m) - 1) s)
  else .next s

/-- SHED_HOLDOFF_EXPIRY: the 1,000-frame hold-off ends (R134). -/
def execShedHoldoffExpiry (m : Nat) (s : State) : Out :=
  if decide (m < 12) && s.dueT .holdoffT m then
    .next ((s.stopT .holdoffT m).setBit (Obj.railFlags m) 4 false)
  else .next s

/-- SHED_ABORT: an undershoot below level L − 1 brings every present phase in (R134, R157); a trip during a running
hold-off restarts it. -/
def shedAbort (m t v : Nat) (s : State) : State :=
  let l := s.oN (Obj.railShedLvl m)
  let top := topLevel s m
  if l < top then
    let s := toLevel m t top s
    let s := (s.startT .holdoffT 1001 m).setBit (Obj.railFlags m) 4 true
    s.raisePerLater (48 + m) 7 s.nowRound (u8 m ++ u8 l ++ u8 top ++ u16 (mvOf v) ++ u16 (dA (s.var .ifr m)))
  else if s.varB .holdoffT m then s.startT .holdoffT 1001 m
  else s

/-! ## Fast comparators (R90 to R92, R139, R140, R152) -/

/-- The phases of a rail that are present: in state switching or shed (R91). -/
def present (s : State) (m : Nat) : List Nat :=
  (membersOf s m).filter fun n => decide (s.oN (Obj.phaseState n) = PS.switching ∨ s.oN (Obj.phaseState n) = PS.shed)

/-- End every pulse in progress on a rail at an instant; each phase resumes at an interleave instant (R90, R140). -/
def truncate (m t : Nat) (s : State) : State :=
  s.forEach (railPhases s m) fun n s =>
    (if s.varB .pulse n then (endPulse n t s).setFlag .cycBad true n else s).setFlag .truncated true n

/-- OVERSHOOT_CLEAR: the output falls below half the overshoot threshold (R90). -/
def execOvershootClear (m v : Nat) (s : State) : Out :=
  if decide (m < 12) && s.varB .ovsHold m &&
      decide (2 * (v : Int) < 2 * railTarget s m + s.o (Obj.railOvsThr m)) then
    .next (s.setFlag .ovsHold false m)
  else .next s

/-- UNDERSHOOT_CLEAR: each phase resumes at its next interleave instant (R91). -/
def execUndershootClear (m v : Nat) (s : State) : Out :=
  if decide (m < 12) && s.varB .uvsFire m && decide (railTarget s m - s.o (Obj.railUvsThr m) ≤ v) then
    .next ((s.setFlag .uvsFire false m).forEach (railPhases s m) fun n s => s.setVar .uvsPend 0 n)
  else .next s

/-- The flags word of a rail or buck with an OV fast path. -/
def ovpFlagKey (r : Nat) : Nat := if r < 12 then Obj.railFlags r else Obj.abFlags (r - 12)

/-- OV_FAST_PATH_RELEASE: the output has stayed below the OV warning threshold for 1 µs (R140); the event of the trip follows. -/
def execOvFastPathRelease (r v below : Nat) (s : State) : Out :=
  if decide (r < 20) && s.varB .ovpHold r && decide ((v : Int) < winThreshold s r 1) && decide (stepsPerFrame ≤ below) then
    .next ((ovpEnd r s).setBit (ovpFlagKey r) 2 false)
  else .next s

/-! ## Starting and stopping -/

/-- A sequenced voltage of `mv` mV in VCODE. -/
def codeOfMv (mv : Int) : Int := 4 * mv

/-- ROLE_ASSIGNMENT and what every start begins with (R84, R113, R125, R129, R131, R160). The filtered rail current begins at 0 (DESIGN
CHOICE, log entry 104). -/
def prepareRail (m : Nat) (s : State) : State :=
  let ps := freshPositions s m
  let s := s.forRange 48 fun i s => thermTerm m i (s.setVar .posPhase (ps.getD i 0 : Nat) m i)
  let s := s.forEach (railPhases s m) fun n s =>
    let member := (positionOf s m n).isSome
    let st := if phaseFailed s n then PS.failed else if member then PS.test else PS.spare
    let s := (s.setO (Obj.phaseState n) st).setBit (Obj.wearStatus n) 4 (member && declaredSpare s m n)
    let s := (learnStart n s).setVar .cb 0 n
    let s := (((s.setVar .openCnt 0 n).setVar .rangeCnt 0 n).setVar .plausCnt 0 n).setVar .shtCnt 0 n
    let s := ((s.setHist .hCentre [] n).setHist .hTon [] n).setVar .lastOff 0 n
    ((s.setVar .excArm 1 n).setVar .excRef (s.o (Obj.tmT m)) n).setVar .refNext 0 n
  let s := ((s.setVar .iacc 0 m).setFlag .eValid false m).setFlag .vinValid false m
  let s := ((s.setVar .updCnt 0 m).setVar .updAt 0 m).setVar .ilp 0 m
  let s := s.setBit (Obj.railFlags m) 11 (decide (8000 < s.o (Obj.railVmax m)))
  showPool m (s.setO (Obj.railShedLvl m) (topLevel s m))

/-- The test window begins at a tick to come (R95); `testStart` holds that tick plus one. Until then the rail is in state wait
(DESIGN CHOICE, log entry 93). -/
def windowNext (r first : Nat) (s : State) : State :=
  let s := (setRailState r RS.wait s).setVar .testStart (first + 1 : Nat) r
  ((s.setVar .shtV 0 r).setVar .shtAb 0 r).setVar .shtFailed 0 r

/-- The first tick of the window: the rail is in test and SEN_MRm is asserted (R95). -/
def openWindow (r : Nat) (s : State) : State :=
  if railState s r = RS.wait ∧ s.varB .testStart r ∧ s.varN .testStart r ≤ s.now + 1 then
    let s := setRailState r RS.test s
    if r < 12 then s.setFlag .senOn true r else s
  else s

/-- A start command takes effect at this tick on a rail that makes its own voltage: roles, then the rail voltage is read: the pre-bias wait,
or the test from the next tick (R94, R95, R99). `wait` is the maximum discharge wait, in frames. -/
def beginRail (r wait : Nat) (s : State) : State :=
  let s := if r < 12 then prepareRail r s else s
  let v := s.pin .railV r
  if v < 600 then windowNext r (s.now + 1) s
  else
    let s := ((setRailState r RS.wait s).setVar .waitV v r).setVar .testStart 0 r
    (s.startT .waitT wait r).setVar .waitStart s.now r

/-- The test fails by voltage: charged to the rail (R94, R96, R99). -/
def shtFailVoltage (r : Nat) (into : Nat) (s : State) : State :=
  let l := if r < 12 then railPhases s r else []
  let cur (n : Nat) : Int := phaseCurrent s n (s.pin .imon n * 1000)
  let best : Option Nat := l.foldl (fun a n => match a with
    | none => some n
    | some x => if cur x < cur n then some n else some x) none
  let (p, i) : Int × Int := match best with | some n => (n, dA (cur n)) | none => (0xFF, 0)
  (s.setVar .shtFailed (s.now + 1 : Nat) r).setVar .shtCharged 0 r
    |>.raiseAction (railSrc r) 2 (u8 r ++ u16 (mvOf (s.var .vMean r)) ++ u16 into ++ u8 p ++ u16 i)

/-- PREBIAS_WAIT_END: the wait ends on a low voltage or at its limit; the test runs or fails by voltage (R94). -/
def execPrebiasWaitEnd (r : Nat) (s : State) : Out :=
  let v := s.var .vMean r
  if decide (r < 20) && holder s && decide (railState s r = RS.wait) && s.varB .waitT r && !s.varB .shtFailed r &&
      (decide (v < 600) || s.dueT .waitT r) then
    let runs := decide (v ≤ 800)
    let s := s.record 0x0104 (u8 r ++ u16 (mvOf (s.var .waitV r)) ++ u32 (s.now - s.varN .waitStart r : Nat) ++
      u8 (State.ofBool (!runs)))
    let s := (s.post 3).stopT .waitT r
    .next (if runs then windowNext r (s.now + 1) s else shtFailVoltage r 0 s)
  else .next s

/-- A tick of the test window: comparisons and SHT_FAILURE (R95, R96, R99), on the holder of the role token (R100). A reading equal to its
threshold passes (DESIGN CHOICE, log entry 92: the rule only says compared against). -/
def shtTick (r : Nat) (s : State) : State :=
  if !holder s ∨ railState s r ≠ RS.test ∨ s.varB .shtFailed r ∨ s.now + 1 < s.varN .testStart r ∨
      s.varN .testStart r + 199 < s.now + 1 then s
  else
    let into := s.now + 2 - s.varN .testStart r
    let s := s.countCond .shtV (decide (800 < s.var .vMean r)) r
    if r < 12 then
      let s := s.forEach (railPhases s r) fun n s =>
        s.countCond .shtCnt (!s.varB .senseMark n &&
          decide (s.o (Obj.phaseShtThr n) < phaseCurrent s n (s.pin .imon n * 1000))) n
      let bad := (railPhases s r).filter fun n => s.metCond .shtCnt 4 n
      let cur (n : Nat) : Int := phaseCurrent s n (s.pin .imon n * 1000)
      match bad with
      | n :: t =>
        let w := t.foldl (fun a x => if cur a < cur x then x else a) n
        let s := (s.setVar .shtFailed (s.now + 1 : Nat) r).setVar .shtCharged (w + 1 : Nat) r
        s.raiseAction w 2 (u8 w ++ u8 r ++ u16 (dA (cur w)) ++ u16 into ++ u16 (mvOf (s.var .vMean r)))
      | [] => if s.metCond .shtV 4 r then shtFailVoltage r into s else s
    else
      let s := s.countCond .shtAb (decide (300 < s.pin .abHs (r - 12))) r
      if s.metCond .shtV 4 r || s.metCond .shtAb 4 r then shtFailVoltage r into s else s

/-- Mark a phase failed with a cause (R168, R169); the account is to be committed within 10 rounds (R180). -/
def markFailed (n cause : Nat) (s : State) : State :=
  let s := (s.setBit (Obj.wearStatus n) 0 true).setO (Obj.wearFailCause n) cause
  let s := (s.bumpSat (Obj.wearFailures n) 65535).setO (Obj.phaseState n) PS.failed
  let s := if cause = 2 then s.setFlag .senseMark true n else s
  s.setVar .wearSoon (s.nowRound + 1 : Nat) n

/-- R97 at the tick after a failed test, the rail's share: off and failed; the charged phase is marked. -/
def shtFailApply (r : Nat) (s : State) : State :=
  let c := s.varN .shtCharged r
  let s := if c = 0 then s else markFailed (c - 1) 4 (s.setBit (Obj.phaseFlags (c - 1)) 12 true)
  ((((railDown r RS.failed s).setVar .shtFailed 0 r).setVar .shtCharged 0 r).stopT .waitT r).stopT .hicT r

/-- The voltage a rail's soft start and regulation aim at, in VCODE; a buck's is rounded to whole mV (R121, R148). -/
def goalCode (s : State) (r : Nat) : Int :=
  if railState s r = RS.softStop then 0
  else if r < 12 then s.o (Obj.railVset r) + s.o (Obj.railTrim r)
  else 4 * divNearest (s.o (Obj.abVset (r - 12)) + s.o (Obj.abTrim (r - 12))) 4

/-- The slew rate in force, in µV/µs. -/
def slewRate (s : State) (r : Nat) (up : Bool) : Int :=
  if r < 12 then
    if railState s r = RS.softStart then s.o (Obj.railSsSlew r)
    else if up then s.o (Obj.railSlewRise r) else s.o (Obj.railSlewFall r)
  else s.o (Obj.abSlew (r - 12))

/-- SETPOINT_SLEW: Vramp moves toward its goal in proportion to the time since the last move (R121). -/
def slewVramp (r steps : Nat) (s : State) : State :=
  let goal := 3200000 * goalCode s r
  let v := s.var .vramp r
  let d := slewRate s r (decide (v < goal)) * steps
  let v := if v < goal then min goal (v + d) else max goal (v - d)
  let key := if r < 12 then Obj.railFlags r else Obj.abFlags (r - 12)
  let s := (s.setVar .vramp v r).setBit key 1 (decide (v ≠ goal))
  if v = goal then s else s.setFlag .slewSeen true r

/-- A new vset or trim has applied: the rail counts as slewing while Vramp differs from it (R121). -/
def slewFlag (r : Nat) (s : State) : State :=
  if judged (railState s r) then
    let slew := decide (s.var .vramp r ≠ 3200000 * goalCode s r)
    let s := s.setBit (if r < 12 then Obj.railFlags r else Obj.abFlags (r - 12)) 1 slew
    if slew then s.setFlag .slewSeen true r else s
  else s

/-- DERATED_ENTRY: class 0x0E of the rail (R174, R175). -/
def enterDerated (m cause : Nat) (s : State) : State :=
  let s := setRailState m RS.derated s
  let s := (s.setO (Obj.poolIder m) (iderOf s m)).setO (Obj.poolDeratedSince m) s.timeNow
  s.raise (48 + m) 0xE (u8 m ++ u8 (nhOf s m) ++ u8 (nns s m) ++ u16 (dA (s.o (Obj.poolIder m))) ++
    u16 (dA (s.var .ifr m)) ++ u8 cause)

/-- SOFT_START_END: the rail becomes regulating or DERATED (R122, R175), which only the holder decides (R186). -/
def softStartEnd (r : Nat) (s : State) : State :=
  if railState s r = RS.softStart ∧ s.var .vramp r = 3200000 * goalCode s r then
    if r < 12 ∧ nhOf s r < nns s r ∧ holder s then enterDerated r 0xFF s else setRailState r RS.regulating s
  else s

/-- SOFT_STOP_END: Vramp is 0 and the rail goes off (R123); a start command that waits for it is kept. -/
def softStopEnd (r : Nat) (s : State) : State :=
  if railState s r = RS.softStop ∧ s.var .vramp r = 0 then
    (railDown r RS.off s).setVar .startHeld (s.var .startHeld r) r else s

/-- SHT_WINDOW_END: the window ends without failure and the soft start begins at the measured voltage (R98, R122). Until the first loop
update the target is that voltage too (DESIGN CHOICE, log entry 104). -/
def execShtWindowEnd (r : Nat) (s : State) : Out :=
  if decide (r < 20) && holder s && decide (railState s r = RS.test) && !s.varB .shtFailed r &&
      decide (s.varN .testStart r + 200 ≤ s.now + 1) then
    let s := ((setRailState r RS.softStart s).setVar .testStart 0 r).startT .riseT (s.oN (Obj.seqRiseMax r)) r
    let s := slewFlag r (s.setVar .vramp (3200000 * s.var .vMean r) r)
    let s := if r < 12 then
        let s := s.forEach (railPhases s r) fun n s => s.setBit (Obj.phaseFlags n) 12 false
        let s := ((s.setO (Obj.railTarget r) (s.var .vMean r)).setVar .targetNow (s.var .vMean r) r).setVar .updAt (instant s 0 + 1 : Nat) r
        applySet r (instant s 0) s
      else s
    .next (softStartEnd r s)
  else .next s

/-- An off command for a rail that makes its own voltage, by its off_mode (R123). A pre-bias wait that it or a rail off cuts short writes no
record 0x0104 (DESIGN CHOICE, log entry 114). -/
def offByMode (r : Nat) (s : State) : State :=
  let st := railState s r
  let mode := if r < 12 then s.oN (Obj.railOffMode r) else s.oN (Obj.abOffMode (r - 12))
  let s := s.setFlag .startHeld false r
  if st = RS.softStop then s
  else if judged st ∧ mode = 0 then
    softStopEnd r (setRailState r RS.softStop (s.setBit (if r < 12 then Obj.railFlags r else Obj.abFlags (r - 12)) 1 true))
  else railDown r (if st = RS.failed then RS.failed else RS.off) (((s.stopT .waitT r).setVar .testStart 0 r).stopT .hicT r)

/-- A hiccup reaction: the rail goes off at once and waits (R143, R606). -/
def hiccupRail (r cls : Nat) (s : State) : State :=
  let s := railDown r RS.hiccup ((s.stopT .waitT r).setVar .testStart 0 r)
  let wait := if r < 12 then s.oN (Obj.railHiccupWait r)
    else if r < 20 then s.oN (Obj.abHiccupWait (r - 12)) else s.oN (Obj.scHiccupWait (r - 20))
  ((s.startTR .hicT wait r).setVar .hicCls cls r).setVar .hicNum (s.o (Obj.srcHiccups (railSrc r))) r

/-! ## The loop (R115 to R126) -/

/-- Irail: the sum of the latest per-cycle means of the switching phases (R118). -/
def railCurrent (s : State) (m : Nat) : Int := ((switching s m).map fun n => s.var .cycMean n).sum

/-- The filtered rail current of an update, in 1/256 mA (R118). -/
def nextIlp (s : State) (m steps : Nat) (irail : Int) : Int :=
  s.var .ilp m + divNearest ((256 * irail - s.var .ilp m) * steps) (s.o (Obj.railLlTau m) * stepsPerFrame)

/-- Vtarget of R117, in VCODE, from Vramp in 1/3,200,000 and Ilp in 1/256 mA. -/
def targetOf (vramp rdc rac ilp irail : Int) : Int :=
  divNearest (20 * vramp - (rdc * ilp + rac * (256 * irail - ilp))) 64000000

/-- The unclamped demand of R124, in mA, rounded once. -/
def demandSum (kp kd kff e d iacc dv256 : Int) : Int :=
  divNearest (16000 * kp * e + 1000 * iacc + 16000 * kd * d + kff * dv256) 256000

/-- The reference code of a phase for a demand (R126). -/
def codeFor (s : State) (m n : Nat) (u : Int) : Int :=
  clamp 0 1023 (128 + u * s.o (Obj.phaseImonGain n) / 100000 + balOffset s m n)

/-- The compensator of one update (R124 to R126). At a start the filtered input begins at the first VIN, so that FF begins at 0 (DESIGN
CHOICE, log entry 92). The unclamped sum holds Iacc as this update has moved it, before its own clamp (DESIGN CHOICE, log entry 104). -/
def compensate (m steps : Nat) (target vmeas vin : Int) (s : State) : State :=
  let e := target - vmeas
  let d := if s.varB .eValid m then e - s.var .ePrev m else 0
  let lp := if s.varB .vinValid m then
      s.var .vinLp m + divNearest ((256 * vin - s.var .vinLp m) * steps) (s.o (Obj.railFfTau m) * stepsPerFrame)
    else 256 * vin
  let dv := if s.bit (Obj.railFlags m) 8 then 0 else 256 * vin - lp
  let inc := divNearest (s.o (Obj.railKi m) * e) 4
  let iacc := s.var .iacc m + inc
  let umax := s.var .share m
  let umin := (switching s m).foldl (fun a n => max a (s.o (Obj.phaseIneg n))) (-60000)
  let u := demandSum (s.o (Obj.railKp m)) (s.o (Obj.railKd m)) (s.o (Obj.railKff m)) e d iacc dv
  let kept := if (umax < u ∧ 0 < inc) ∨ (u < umin ∧ inc < 0) then s.var .iacc m else iacc
  let kept := clamp (256 * umin) (256 * umax) kept
  let s := (s.addVar .iaccInc (kept - s.var .iacc m) m).setVar .iacc kept m
  let s := (s.setVar .ePrev e m).setFlag .eValid true m
  let s := (s.setVar .vinLp lp m).setFlag .vinValid true m
  let s := (s.setBit (Obj.railFlags m) 9 (decide (umax < u))).setBit (Obj.railFlags m) 10 (decide (u < umin))
  s.setVar .demand (clamp umin umax u) m

/-- Give every member of the rail its reference for the demand in force (R126). -/
def giveReferences (m : Nat) (s : State) : State :=
  s.forEach (membersOf s m) fun n s => s.setVar .refNext (codeFor s m n (s.var .demand m) + 1) n

/-! ## Events of a tick's judgement -/

/-- RAIL_CURRENT_LIMIT_SUSTAINED: Irail at or above ilim_eff for ilim_filt ticks (R128). -/
def execRailCurrentLimitSustained (m : Nat) (s : State) : Out :=
  if decide (m < 12) && railExists s m && s.metCond .ilimSust (s.oN (Obj.railIlimFilt m)) m then
    let s := s.setBit (Obj.railFlags m) 7 true
    .next (s.raise (48 + m) 6 (u8 m ++ u16 (dA (s.var .ifr m)) ++ u16 (dA (s.o (Obj.railIlimEff m))) ++
      u8 (railLimit s m).2 ++ u8 (nhOf s m)))
  else .next s

/-- SENSE_FAULT: the ADC at full scale or the N-side out of range for 8 ticks (R141). -/
def execSenseFault (m : Nat) (s : State) : Out :=
  if decide (m < 12) && railExists s m && s.metCond .senseCnt 8 m then
    let s := s.setBit (Obj.railFlags m) 3 true
    .next (s.raise (48 + m) 8 (u8 m ++ u16 (mvOf (s.var .vMean m) + s.pin .railN m) ++ u16 (s.pin .railN m) ++ u8 (s.var .senseKind m)))
  else .next s

/-- VIN_FF_OUT_OF_RANGE: the feed-forward input below 4.0 V or above 16.0 V for 8 ticks; FF is held at 0 (R154). -/
def execVinFfOutOfRange (m : Nat) (s : State) : Out :=
  if decide (m < 12) && railExists s m && s.metCond .vinCnt 8 m then
    let s := s.setBit (Obj.railFlags m) 8 true
    .next (s.raise (48 + m) 9 (u8 m ++ u8 (s.o (Obj.railVinSel m)) ++ u16 (s.pin .vins (s.oN (Obj.railVinSel m)))))
  else .next s

/-! ## Auxiliary bucks (R146 to R153) -/

/-- Is a buck's stage supplied and commanded: AB6 and AB7 move with MGT (R18)? -/
def buckDriven (s : State) (b : Nat) : Bool :=
  drivesTeam s && (if b < 6 then s.mainOn else s.mgtOn)

/-- Does SYNC_IN time the buck (R147)? -/
def buckOnSync (s : State) (b : Nat) : Bool := decide (s.oN (Obj.abSync b) = 1) && s.bit Obj.clkStatus 2

/-- The peak that a pulse of a buck runs to (R150). -/
def buckPeak (s : State) (b : Nat) : Nat :=
  if s.oB (Obj.abFpwm b) then s.varN .abDemand b else max (s.varN .abDemand b) (s.oN (Obj.abSkipThr b))

/-- The steps that a pulse needs whose current rises from `i0` mA by `rise` mA/µs to the peak; at most what leaves the minimum off-time
(R148, R150, R151). -/
def buckNeed (s : State) (b : Nat) (i0 : Int) (rise : Nat) : Nat :=
  let most := s.oN (Obj.abPeriod b) * stepsPerCycle - 640
  let need := (buckPeak s b : Int) - i0
  if rise = 0 then most else min most (-(-(need * stepsPerFrame) / rise)).toNat

/-- Does the duty cycle need an on-time below 40 ns (R151)? Judged for each pulse, on the time its current needs to its peak (DESIGN CHOICE,
log entry 92). -/
def buckTooShort (s : State) (b : Nat) (i0 : Int) (rise : Nat) : Bool := decide (buckNeed s b i0 rise < 512)

/-- The on-time of a pulse: at least 40 ns (R151). -/
def buckOnTime (s : State) (b : Nat) (i0 : Int) (rise : Nat) : Nat := max 512 (buckNeed s b i0 rise)

/-- The current at which the low-side switch of a buck turns off: 0, or −1.0 A under forced PWM (R150). -/
def buckFloor (s : State) (b : Nat) : Int := if s.oB (Obj.abFpwm b) then -1000 else 0

/-- The steps in which a current falls from `i` mA to a floor by `fall` mA/µs; 0 where it never does. -/
def lowTime (floor i : Int) (fall : Nat) : Nat :=
  if fall = 0 then 0 else max 1 (-(-((i - floor) * stepsPerFrame) / fall)).toNat

/-- Has the minimum off-time of 50 ns passed (R151)? -/
def buckOffDone (s : State) (b t : Nat) : Bool := !s.varB .abOff b || decide (s.varN .abOff b - 1 + 640 ≤ t)

/-- Is an instant, `edge` steps after a rising edge of SYNC_IN, one at which the buck's period begins (R111, R147)? Of ab[b].phase, which R111
puts into the grid and R147 after each of its instants, the model counts once (DESIGN CHOICE, log entry 114). -/
def buckInstant (s : State) (b t edge : Nat) : Bool :=
  let p := s.oN (Obj.abPeriod b) * stepsPerCycle
  let d := s.oN (Obj.abPhase b) * stepsPerCycle
  if buckOnSync s b then decide (d ≤ edge ∧ (edge - d) % p = 0)
  else decide (s.varN .abGrid b ≤ t ∧ (t - s.varN .abGrid b) % p = 0)

/-- The cycle that ends at a buck's turn-on instant: one without a limit event restarts the count (R149). -/
def buckCycle (b : Nat) (s : State) : State :=
  (if s.varB .abLimHit b then s else (s.setVar .abLimCnt 0 b).condOff (60 + b) 6).setFlag .abLimHit false b

/-- A buck's pulse ends at an instant, and its low-side conduction `tlow` steps later (0: not before the next turn-on). -/
def buckEnds (b off tlow : Nat) (s : State) : State :=
  (s.setVar .abOff (off + 1 : Nat) b).setVar .abLowEnd (if tlow = 0 then 0 else (off + tlow + 1 : Nat)) b

/-- The fast path ends a buck's pulse at once, and its low-side switch conducts until −1.0 A (R152). -/
def buckTruncate (b t tlow : Nat) (s : State) : State := buckEnds b t tlow (s.setFlag .abPulse false b)

/-- The switches of a buck at an instant: 0 both off, 1 low side on, 2 high side on (R150, R152). -/
def buckStage (s : State) (b t : Nat) : Nat :=
  if !buckDriven s b || !judged (railState s (12 + b)) || !s.varB .abOff b then 0
  else if t + 1 < s.varN .abOff b then 2
  else if s.varB .abLowEnd b && decide (s.varN .abLowEnd b ≤ t + 1) then 0
  else 1

/-- BUCK_INPUT_RESTORED: the input rises above 4.40 V; the buck restarts only at its next start command (R146). -/
def execBuckInputRestored (b v : Nat) (s : State) : Out :=
  if decide (b < 8) && s.varB .abLow b && decide (4400 < v) then
    .next (((s.setVar .abLow 0 b).setBit (Obj.abFlags b) 5 false).condOff (60 + b) 7)
  else .next s

/-! ## Ticks and rounds -/

/-- The peak of an overvoltage hold so far (R156). -/
def ovpPeakTick (r : Nat) (s : State) : State :=
  if s.varB .ovpHold r && decide (s.var .ovpPeak r < s.var .vMean r) then s.setVar .ovpPeak (s.var .vMean r) r else s

/-- What the frame that ends leaves of a multiphase rail: its mean voltage and Ifr (R132, R137). -/
def railMeans (m : Nat) (s : State) : State :=
  let s := s.setVar .vMean (s.pin .railV m) m
  let irail := if s.varB .irCnt m then divNearest (s.var .irSum m) (s.var .irCnt m) else if railOn s m then railCurrent s m else 0
  ((s.setVar .ifr irail m).setVar .irSum 0 m).setVar .irCnt 0 m

/-- A multiphase rail at a tick, after `railMeans`: its sums, windows, limits and counts (R127 to R138, R141, R154); its target and integrator as the
last update of the frame that ended left them (R117). The two kinds of sense fault share one count of 8 ticks (DESIGN CHOICE, log entry
114). -/
def railTick (m : Nat) (s : State) : State :=
  let on := railOn s m
  let irail := s.var .ifr m
  let v := s.var .vMean m
  let s := (s.addVar .vSum v m).addVar .iSum irail m
  let s := s.addVar .pSum (divNearest (v * irail) 4000) m
  let s := if s.var .vCnt m = 0 ∨ v < s.var .vMin m then s.setVar .vMin v m else s
  let s := if s.var .vCnt m = 0 ∨ s.var .vMax m < v then s.setVar .vMax v m else s
  let s := if s.var .vCnt m = 0 ∨ s.var .iPk m < irail then s.setVar .iPk irail m else s
  let s := limitsTick m (ovpPeakTick m (s.addVar .vCnt 1 m))
  let s := windowTick m s
  let s := s.setBit (Obj.railFlags m) 0 (pgOf s m)
  let s := s.countCond .ilimSust (on && decide (s.o (Obj.railIlimEff m) ≤ irail)) m
  let s := if s.varB .ilimSust m then s else (s.condOff (48 + m) 6).setBit (Obj.railFlags m) 7 false
  let nBad := decide (300 < (s.pin .railN m).natAbs)
  let s := (s.countCond .senseCnt (s.pinB .railFs m || nBad) m).setVar .senseKind (State.ofBool (!s.pinB .railFs m)) m
  let s := if s.varB .senseCnt m then s else (s.condOff (48 + m) 8).setBit (Obj.railFlags m) 3 false
  let vin := s.pin .vins (s.oN (Obj.railVinSel m))
  let s := s.countCond .vinCnt (decide (vin < 4000 ∨ 16000 < vin)) m
  let s := if s.varB .vinCnt m then s else (s.condOff (48 + m) 9).setBit (Obj.railFlags m) 8 false
  let fupd := divNearest ((nns s m : Nat) * 400000) (s.o (Obj.railPeriod m) * s.o (Obj.railUpdDiv m))
  let s := if on then s.setO (Obj.railTarget m) (s.var .targetNow m) else s
  shedTick m ((s.setO (Obj.railInteg m) (s.var .iacc m)).setO (Obj.railFupd m) fupd)

/-- A buck at a tick: the slew of its setpoint, its windows, its limit (R121, R137, R148, R149). -/
def buckTick (b : Nat) (s : State) : State :=
  let r := 12 + b
  let s := s.setVar .vMean (s.pin .railV r) r
  let v := s.var .vMean r
  let i := s.pin .railI b
  let s := s.setVar .ifr i r
  let s := (s.addVar .vSum v r).addVar .iSum i r
  let s := if s.var .vCnt r = 0 ∨ v < s.var .vMin r then s.setVar .vMin v r else s
  let s := if s.var .vCnt r = 0 ∨ s.var .vMax r < v then s.setVar .vMax v r else s
  let s := if s.var .vCnt r = 0 ∨ s.var .iPk r < i then s.setVar .iPk i r else s
  let s := windowTick r (ovpPeakTick r (s.addVar .vCnt 1 r))
  let s := s.setBit (Obj.abFlags b) 0 (pgOf s r)
  let s := if judged (railState s r) then softStopEnd r (softStartEnd r (slewVramp r stepsPerFrame s)) else s
  let s := s.setO (Obj.abVsetEff b) (4 * divNearest (s.o (Obj.abVset b) + s.o (Obj.abTrim b)) 4)
  let s := s.setO (Obj.abIlimEff b) (buckLimit s b).1
  let s := s.setO (Obj.abVin b) (codeOfMv (s.pin .abVin b))
  let s := s.setBit (Obj.abFlags b) 4 (decide (s.o Obj.thScale < 1000))
  s.setBit (Obj.abFlags b) 5 (decide (s.pin .abVin b < 4400))

/-- The mean of a sum over the frames of a round. -/
def roundMean (s : State) (k : VarKind) (r : Nat) : Int :=
  if s.varB .vCnt r then divNearest (s.var k r) (s.var .vCnt r) else 0

/-- Clear a rail's sums for the next round. -/
def clearSums (r : Nat) (s : State) : State :=
  let s := ((s.setVar .vSum 0 r).setVar .iSum 0 r).setVar .pSum 0 r
  ((s.setVar .vCnt 0 r).setVar .vMin 0 r).setVar .vMax 0 r |>.setVar .iPk 0 r

/-- A multiphase rail at a round boundary: its means, then the balance (R129). -/
def railRound (m : Nat) (s : State) : State :=
  let s := (s.setO (Obj.railVout m) (roundMean s .vSum m)).setO (Obj.railVoutMin m) (s.var .vMin m)
  let s := (s.setO (Obj.railVoutMax m) (s.var .vMax m)).setO (Obj.railIout m) (roundMean s .iSum m)
  let s := (s.setO (Obj.railIoutPk m) (s.var .iPk m)).setO (Obj.railPout m) (roundMean s .pSum m)
  clearSums m s

/-- A buck at a round boundary. -/
def buckRound (b : Nat) (s : State) : State :=
  let r := 12 + b
  let s := (s.setO (Obj.abVout b) (roundMean s .vSum r)).setO (Obj.abVoutMin b) (s.var .vMin r)
  let s := (s.setO (Obj.abVoutMax b) (s.var .vMax r)).setO (Obj.abIout b) (roundMean s .iSum r)
  let s := s.setO (Obj.abIoutPk b) (s.var .iPk r)
  let s := s.setO (Obj.abSkipPct b) (if s.varB .turnCnt b then divNearest (100 * s.var .skipCnt b) (s.var .turnCnt b) else 0)
  clearSums r ((s.setVar .skipCnt 0 b).setVar .turnCnt 0 b)

/-! ## What a write must keep (R77, R106, R108 to R111, R116, R119, R120, R130, R136, R147, R153) -/

/-- R77 for a phase under the lists of a configuration: with the period of the rail that lists it, or P = 200 where none does. -/
def phaseTimesOk (s : State) (n : Nat) : Bool :=
  timesFit s n (match (List.range 12).find? fun m => (listOf s m).contains n with
    | some m => s.oN (Obj.railPeriod m)
    | none => 200)

/-- The order of the slope bounds (R106). -/
def slopeBoundsOk (s : State) (n : Nat) : Bool := decide (s.o (Obj.phaseSlopeMin n) ≤ s.o (Obj.phaseSlopeMax n))

/-- The checks of a phase's objects. -/
def phaseConfigOk (s : State) (n : Nat) : Bool := phaseTimesOk s n && slopeBoundsOk s n

/-- The shape of a phase list: built from the first entry, phases of the part, none twice, none in two rails (R108,
R109). -/
def listOk (s : State) (m : Nat) : Bool :=
  let l := listOf s m
  let all := (List.range 48).map fun i => s.oN (Obj.railPlist m i)
  decide (all.countP (fun n => decide (n < 48)) = l.length) && l.all (phaseExists s) && decide l.Nodup &&
  (List.range 12).all fun k => k == m || (listOf s k).all fun n => !l.contains n

/-- Fupd of a rail as a fraction of MHz: numerator and denominator (R116). -/
def fupdOf (s : State) (m : Nat) : Nat × Nat := (nns s m * 400, s.oN (Obj.railPeriod m) * s.oN (Obj.railUpdDiv m))

/-- The bounds of R116: 5.0 MHz a rail and 30.0 MHz an engine. -/
def enginesOk (s : State) : Bool :=
  (List.range 12).all (fun m => decide ((fupdOf s m).1 ≤ 5 * (fupdOf s m).2)) &&
  [0, 1].all fun e =>
    let sum := (List.range 12).foldl (fun (a : Nat × Nat) m =>
      if s.oN (Obj.railEngine m) = e then
        let f := fupdOf s m
        (a.1 * f.2 + f.1 * a.2, a.2 * f.2)
      else a) (0, 1)
    decide (sum.1 ≤ 30 * sum.2)

/-- The bound of R120 between a setpoint, its trim and the ceiling. -/
def setpointOk (lo : Int) (vset trim vmax ovf : Int) : Bool :=
  decide (lo ≤ vset + trim ∧ vset + trim ≤ vmax - ovf)

/-- The bound of R120 for a rail. -/
def railSetpointOk (s : State) (m : Nat) : Bool :=
  setpointOk 1000 (s.o (Obj.railVset m)) (s.o (Obj.railTrim m)) (s.o (Obj.railVmax m)) (s.o (Obj.railOvfOff m))

/-- The bound of R120 for a buck, with the codes of R148. -/
def buckSetpointOk (s : State) (b : Nat) : Bool :=
  setpointOk 2400 (s.o (Obj.abVset b)) (s.o (Obj.abTrim b)) (s.o (Obj.abVmax b)) (s.o (Obj.abOvfOff b)) &&
  decide (s.o (Obj.abVset b) + s.o (Obj.abTrim b) ≤ 14400)

/-- The bound of R111 for a rail. -/
def railOriginOk (s : State) (m : Nat) : Bool := decide (s.o (Obj.railOrigin m) < s.o (Obj.railPeriod m))

/-- The bound of R111 for a buck. -/
def buckOriginOk (s : State) (b : Nat) : Bool := decide (s.o (Obj.abPhase b) < s.o (Obj.abPeriod b))

/-- Window offsets of R136. -/
def offsetsOk (ovw ovf uvw uvf : Int) : Bool := decide (0 < ovw ∧ ovw < ovf ∧ 0 < uvw ∧ uvw < uvf)

/-- The checks of a rail's objects; the shed table is judged while the rail is on, which a rail in state wait, test or hiccup is taken to
be (R130; DESIGN CHOICE, log entry 104). -/
def railConfigOk (s : State) (m : Nat) : Bool :=
  listOk s m && enginesOk s &&
  offsetsOk (s.o (Obj.railOvwOff m)) (s.o (Obj.railOvfOff m)) (s.o (Obj.railUvwOff m)) (s.o (Obj.railUvfOff m)) &&
  decide (s.o (Obj.railOvsThr m) < s.o (Obj.railOvfOff m) ∧ s.o (Obj.railUvsThr m) < s.o (Obj.railUvfOff m)) &&
  (List.range 48).all (phaseTimesOk s) &&
  (!(decide (railState s m ≠ RS.off ∧ railState s m ≠ RS.failed)) || shedValid s m)

/-- N of R36 is a whole multiple of the period of every buck timed by SYNC_IN (R147). -/
def buckSyncOk (s : State) (b : Nat) : Bool :=
  decide (s.oN (Obj.abSync b) ≠ 1 ∨ s.oN Obj.clkSyncDiv % s.oN (Obj.abPeriod b) = 0)

/-- The checks of a buck's objects. -/
def buckConfigOk (s : State) (b : Nat) : Bool :=
  offsetsOk (s.o (Obj.abOvwOff b)) (s.o (Obj.abOvfOff b)) (s.o (Obj.abUvwOff b)) (s.o (Obj.abUvfOff b)) &&
  buckSyncOk s b && (!s.oB (Obj.abLastgasp b) || decide (6 ≤ b))

/-- The checks of a supervised channel's offsets: the first two orderings of R136 (R203). -/
def scConfigOk (s : State) (c : Nat) : Bool :=
  offsetsOk (s.o (Obj.scOvwOff c)) (s.o (Obj.scOvfOff c)) (s.o (Obj.scUvwOff c)) (s.o (Obj.scUvfOff c))

/-- Is a plain setpoint write within the margin bounds (R119)? -/
def marginOk (s : State) (m : Nat) (v : Int) : Bool :=
  decide (s.o (Obj.railVmarginLo m) ≤ v ∧ v ≤ s.o (Obj.railVmarginHi m))

/-! ## What happens when a written value comes into force -/

/-- A list or a spare declaration applies: phases join and leave rails (R108, R159). -/
def listApplied (m : Nat) (s : State) : State :=
  let l := listOf s m
  let s := s.forRange 48 fun n s =>
    if l.contains n then
      if s.oN (Obj.phaseRail n) = m then s
      else (s.setO (Obj.phaseRail n) m).setO (Obj.phaseState n) (if phaseFailed s n then PS.failed else PS.off)
    else if s.oN (Obj.phaseRail n) = m then (s.setO (Obj.phaseRail n) 0xFF).setO (Obj.phaseState n) PS.unassigned
    else s
  showPool m s

/-- A period or origin applies: the grid restarts at this tick (R110). -/
def gridApplied (m : Nat) (s : State) : State :=
  let s := s.setVar .grid (instant s 0 + s.oN (Obj.railOrigin m) * stepsPerCycle : Nat) m
  if railOn s m then respread m (instant s 0) (switching s m) s else s

/-- The first tick after BOOT is where every period grid starts (R110, R147). -/
def gridsStart (s : State) : State :=
  let s := s.forRange 12 fun m s => s.setVar .grid (instant s 0 + s.oN (Obj.railOrigin m) * stepsPerCycle : Nat) m
  s.forRange 8 fun b s => s.setVar .abGrid (instant s 0 + s.oN (Obj.abPhase b) * stepsPerCycle : Nat) b

/-- What a bank taken into force at BOOT does to phases and pools (R108, R159, R168): phases take their rails, a phase marked
failed reads failed, and one whose cause is a current-sense failure carries that mark. -/
def listsAtBoot (s : State) : State :=
  let s := s.forRange 48 fun n s => s.setFlag .senseMark (phaseFailed s n && decide (s.oN (Obj.wearFailCause n) = 2)) n
  s.forRange 12 fun m s => listApplied m s

/-- A buck's period or phase applies. -/
def buckGridApplied (b : Nat) (s : State) : State :=
  s.setVar .abGrid (instant s 0 + s.oN (Obj.abPhase b) * stepsPerCycle : Nat) b

end Sys2Proof.Machine
end

