-- ==== Sys2Proof/Machine/Health.lean ====
section
/-!
DEFINITION. Phase Health, Spares and Wear (spec/05_phase_health_and_spares.md): detectors, the removal of a failed
phase and its substitution, DERATED, restore, and wear accounts.
-/

namespace Sys2Proof.Machine

/-! ## Detectors -/

/-- Is a rail in a state in which the detectors apply? -/
def detectorsOn (s : State) (m : Nat) : Bool :=
  let st := railState s m
  decide (st = RS.test ∨ st = RS.softStart ∨ st = RS.regulating ∨ st = RS.derated)

/-- Past its soft start: regulating or DERATED. -/
def settled (s : State) (m : Nat) : Bool := decide (railState s m = RS.regulating ∨ railState s m = RS.derated)

/-- The mean frame current of the other switching phases of a rail, in mA. -/
def peerFrame (s : State) (m n : Nat) : Int :=
  let p := (switching s m).filter (· ≠ n)
  if p.isEmpty then 0 else divNearest (p.map fun x => s.var .frMean x).sum p.length

/-- OPEN_PHASE: open_cycles consecutive open periods make the detector true (R161); the next tick samples it (R169). -/
def execOpenPhase (n : Nat) (s : State) : Out :=
  let m := s.oN (Obj.phaseRail n)
  if phaseExists s n && decide (m < 12) && settled s m && decide (s.oN (Obj.phaseState n) = PS.switching) &&
      decide (s.oN (Obj.poolOpenCycles m) ≤ s.varN .openCnt n) && decide (2 ≤ (switching s m).length) then
    .next ((s.setFlag .detOpen true n).setVar .detPeer (peerMean s m n) n)
  else .next s

/-- The stuck criterion of R162: the centre samples span at most 2 codes while the on-times span more than 5 %. -/
def stuck (centre ton : List Int) (w : Nat) : Bool :=
  let hi (l : List Int) : Int := l.foldl max (l.headD 0)
  let lo (l : List Int) : Int := l.foldl min (l.headD 0)
  decide (centre.length = w ∧ ton.length = w ∧ 0 < w ∧ hi centre - lo centre ≤ 2000 ∧
    5 * ton.sum < 100 * (hi ton - lo ton) * w)

/-- The median of a list: for an even count, the mean of the two middle values. -/
def median (l : List Int) : Int :=
  let a := l.mergeSort (fun x y => decide (x ≤ y))
  let k := a.length
  if k = 0 then 0 else if k % 2 = 1 then a.getD (k / 2) 0 else divNearest (a.getD (k / 2 - 1) 0 + a.getD (k / 2) 0) 2

/-- The plausibility criterion at a tick (R162): a frame counts with at least 3 switching phases, and a cycle of this phase and of 2
peers that qualifies under all of R81. -/
def plausTick (m n : Nat) (s : State) : State :=
  let sw := switching s m
  let peers := sw.filter fun x => x ≠ n && s.varB .ripMean x
  if settled s m && sw.contains n && decide (3 ≤ sw.length) && s.varB .qualFrame n &&
      decide (2 ≤ (peers.filter fun x => s.varB .qualFrame x).length) then
    let band := s.o (Obj.poolPlausBand m)
    let di := (s.var .frMean n - peerFrame s m n).natAbs
    let rmed := median (peers.map fun x => s.var .ripMean x)
    let dr := (s.var .ripMean n - rmed).natAbs
    s.countCond .plausCnt (decide (band * s.o (Obj.phaseIRating n) < 100 * di ∧ band * rmed < 100 * dr)) n
  else s

/-- Which criterion of R162 holds; `samples` are the valley samples of a shed phase, in µV. -/
def senseCriterion (s : State) (m n crit : Nat) (samples : List Int) : Bool :=
  let st := s.oN (Obj.phaseState n)
  if crit = 0 then
    (decide (st = PS.switching ∧ 8 ≤ s.varN .rangeCnt n)) ||
    (decide (st = PS.shed ∧ 8 ≤ samples.length) && (samples.take 8).all imonOut)
  else if crit = 1 then
    decide (st = PS.switching) && settled s m && stuck (s.hist .hCentre n) (s.hist .hTon n) (s.oN (Obj.poolStuckCycles m))
  else decide (crit = 2 ∧ st = PS.switching) && settled s m && s.metCond .plausCnt (s.oN (Obj.poolPlausFilt m)) n

/-- SFLTm at a tick (R163). -/
def sfltTick (m : Nat) (s : State) : State := s.countCond .sfltCnt (s.pinB .sflt m && detectorsOn s m) m

/-- Does SFLTm count as asserted (R163)? -/
def sfltOn (s : State) (m : Nat) : Bool := s.metCond .sfltCnt (s.oN (Obj.poolSfltFilt m)) m

/-- The candidates of a stage fault, each with its signature (R163): judged by the frame that has ended. -/
def stageCandidates (s : State) (m : Nat) : List (Nat × Nat) :=
  (railPhases s m).filterMap fun n =>
    let st := s.oN (Obj.phaseState n)
    if phaseFailed s n || !decide (st = PS.switching ∨ st = PS.shed ∨ st = PS.test) then none
    else if s.varB .outFrame n then some (n, 0)
    else if st = PS.switching ∧ 100 * s.var .frMean n < (100 - s.o (Obj.poolSfltDrop m)) * peerFrame s m n then some (n, 1)
    else none

/-- STAGE_FAULT at a tick (R163, R164): every candidate makes the detector true while SFLTm counts as asserted; without one the ticks
since it first did, or since the last attribution, are counted. -/
def stageTick (m : Nat) (s : State) : State :=
  let s := sfltTick m s
  if sfltOn s m then
    let cand := stageCandidates s m
    if cand.isEmpty then s.addVar .sfltTicks 1 m
    else (s.setVar .sfltTicks 1 m).forEach cand fun (n, sig) s =>
      (s.setVar .detStage (sig + 1 : Nat) n).setVar .detPeer (peerFrame s m n) n
  else (s.setVar .sfltTicks 0 m).condOff (48 + m) 0xF

/-- STAGE_FAULT_UNATTRIBUTED: SFLTm still counts as asserted 8 ticks after it first did, with no candidate (R164). The ticks of its record
are all those for which SFLTm has read asserted without a break (R188; DESIGN CHOICE, log entry 114). -/
def execStageFaultUnattributed (m : Nat) (s : State) : Out :=
  if decide (m < 12) && railExists s m && sfltOn s m && decide (9 ≤ s.varN .sfltTicks m) then
    .next ((s.raise (48 + m) 0xF (u8 m ++ u16 (min 65535 (s.var .sfltCnt m)) ++ u16 (dA (s.var .ifr m)) ++
      u8 (switching s m).length)).setVar .sfltTicks 1 m)
  else .next s

/-- SPARE_RANGE_FAILURE: 8 valley samples of a spare out of range fail the spare (R165); only the holder decides (R186). -/
def execSpareRangeFailure (n : Nat) (samples : List Int) (s : State) : Out :=
  let m := s.oN (Obj.phaseRail n)
  if phaseExists s n && decide (m < 12) && holder s && detectorsOn s m && decide (s.oN (Obj.phaseState n) = PS.spare) &&
      decide (8 ≤ samples.length) && (samples.take 8).all imonOut then
    let s := showPool m (markFailed n 2 s)
    .next (s.raiseActionLater n 0xD (u8 n ++ u8 m ++ u16 (dA (phaseCurrent s n (samples.getD 7 0))) ++
      u8 (s.o (Obj.poolSparesFree m))))
  else .next s

/-! ## Removal (R167 to R174) -/

/-- The class a phase fails under in a frame: 0x0A first, then 0x09, then 0x08 (R167). -/
def failureClass (s : State) (n : Nat) : Option Nat :=
  if phaseFailed s n || s.varB .detNow n then none
  else if s.varB .detStage n then some 0xA
  else if s.varB .detSense n then some 9
  else if s.varB .detOpen n then some 8
  else none

/-- The cause that goes with a failure class. -/
def causeOf (cls : Nat) : Nat := if cls = 8 then 1 else if cls = 9 then 2 else 3

/-- The failing phases of a rail, each with its class, in the order of the list positions they hold (R160, R170). -/
def failing (s : State) (m : Nat) (cls : Nat → Option Nat) : List (Nat × Nat) :=
  (membersOf s m).filterMap fun n => (cls n).map fun c => (n, c)

/-- Which free spare covers which failing phase: the first free spare in list order for each in turn (R160, R169). -/
def coverPlan (free : List Nat) (bad : List (Nat × Nat)) : List (Nat × Nat × Option Nat) :=
  match bad with
  | [] => []
  | (n, c) :: t => (n, c, free.head?) :: coverPlan free.tail t

/-- A failing phase's list position goes to its substitute, or switches nothing (R160, R169). -/
def coverPosition (m n t : Nat) (sub : Option Nat) (s : State) : State :=
  match positionOf s m n, sub with
  | none, _ => s
  | some i, none => s.setVar .posPhase 0 m i
  | some i, some x =>
    let s := (s.setVar .posPhase (x + 1 : Nat) m i).setBit (Obj.wearStatus x) 4 true
    let s := (s.bumpSat (Obj.wearSubsIn x) 65535).bump (Obj.poolSubs m)
    let s := (s.setVar .subPhase (n + 1 : Nat) x).setVar .subAt t x
    let s := thermTerm m i (s.setVar .cb 0 x)
    let s := s.setVar .refNext (codeFor s m x (s.var .demand m) + 1) x
    let s := if railState s m = RS.test then s.setO (Obj.phaseState x) PS.test else s
    (s.setVar .lastOff 0 x).setVar .wearSoon (s.nowRound + 1 : Nat) x

/-- The record of a failure (R188); `nh` is Nh after the removal. -/
def failureData (s : State) (m n cls : Nat) (sub : Option Nat) (nh : Int) : List Byte :=
  let x : Int := match sub with | some k => k | none => 0xFF
  let peer := u16 (dA (s.var .detPeer n))
  if cls = 8 then u8 n ++ u8 m ++ u16 (dA (s.var .cycMean n)) ++ peer ++ u8 x ++ u8 nh
  else if cls = 9 then
    u8 n ++ u8 m ++ u8 (s.var .detSense n - 1) ++ u16 (dA (s.var .detRead n)) ++ peer ++ u8 x
  else u8 n ++ u8 m ++ u8 (s.var .detStage n - 1) ++ peer ++ u16 (dA (s.var .frMean n)) ++ u8 x

/-- The event of a class that this tick has raised and the marshal not yet evaluated takes other data. -/
def reraise (n cls : Nat) (data : List Byte) (s : State) : State :=
  { s with intake := s.intake.map fun e => if e.src = n ∧ e.cls = cls then { e with data := data } else e }

/-- The tick samples the detectors of classes 0x08 to 0x0A of some phases of a rail (R39, R169): each failing phase raises its class, and
the spare slots of the frame that begins remove it. Phases that the same tick has found already are planned again with it, and their
records follow the plan (R188). Only the holder decides (R186). -/
def sampleDetectors (m : Nat) (of_ : List Nat) (s : State) : State :=
  let cls (n : Nat) : Option Nat :=
    if s.varB .detNow n then some (s.varN .detNow n) else if of_.contains n then failureClass s n else none
  let bad := if holder s && detectorsOn s m then failing s m cls else []
  let plan := coverPlan (freeSpares s m) bad
  let nh : Int := (membersOf s m).length - (plan.filter fun p => p.2.2.isNone).length
  let s := s.forEach plan fun p s =>
    let data := failureData s m p.1 p.2.1 p.2.2 nh
    if s.varB .detNow p.1 then reraise p.1 p.2.1 data s
    else (s.setVar .detNow (p.2.1 : Nat) p.1).raiseAction p.1 p.2.1 data
  s.forEach of_ fun n s =>
    if s.varB .detNow n then s else ((s.setFlag .detOpen false n).setVar .detSense 0 n).setVar .detStage 0 n

/-- The detectors of a rail at a tick. -/
def detectTick (m : Nat) (s : State) : State := sampleDetectors m (railPhases s m) s

/-- An open phase that this tick has raised and the marshal not yet evaluated gives way to a sense failure of the same tick (R167). -/
def withdrawOpen (n : Nat) (s : State) : State :=
  if s.varN .detNow n = 8 ∧ s.intake.any (fun e => decide (e.src = n ∧ e.cls = 8)) then
    { s with intake := s.intake.filter fun e => !decide (e.src = n ∧ e.cls = 8) }.setVar .detNow 0 n
  else s

/-- SENSE_FAILURE: a range, stuck or plausibility criterion makes the detector true (R162); the next tick samples it, a plausibility
verdict the tick that gave it (R169), where class 0x09 goes before an open phase of the same tick (R167). The IMON reading of its record is
the last valley sample of a shed phase, else the last centre sample. -/
def execSenseFailure (n crit : Nat) (samples : List Int) (s : State) : Out :=
  let m := s.oN (Obj.phaseRail n)
  if phaseExists s n && decide (m < 12) && detectorsOn s m && senseCriterion s m n crit samples then
    let uv := if s.oN (Obj.phaseState n) = PS.shed then samples.getD 7 0 else (s.hist .hCentre n).headD 0
    let s := ((s.setVar .detSense (crit + 1 : Nat) n).setVar .detRead (phaseCurrent s n uv) n).setVar .detPeer (peerFrame s m n) n
    .next (if crit = 2 then sampleDetectors m [n] (withdrawOpen n s) else s)
  else .next s

/-- PHASE_REMOVAL (R169): the failing phases of the tick lose their places, at high impedance, and spares cover them; class 0x0D tells
that the last spare is in use; a start of R160 that uses it does not raise it (R187; DESIGN CHOICE, log entry 116). -/
def removePhases (m t : Nat) (s : State) : State :=
  let plan := coverPlan (freeSpares s m)
    (failing s m fun n => if s.varB .detNow n then some (s.varN .detNow n) else none)
  let s := s.forEach plan fun p s =>
    let s := if s.varB .pulse p.1 then endPulse p.1 t s else s
    let s := ((markFailed p.1 (causeOf p.2.1) s).setFlag .zHold true p.1).setVar .offOld 0 p.1
    let s := (s.setVar .offNew 0 p.1).setVar .detNow 0 p.1
    ((s.setFlag .detOpen false p.1).setVar .detSense 0 p.1).setVar .detStage 0 p.1
  s.forEach plan fun p s =>
    let s := coverPosition m p.1 t p.2.2 s
    match p.2.2 with
    | none => s.setVar .derTodo (p.1 + 1 : Nat) m
    | some x => if (freeSpares s m).isEmpty then s.raiseActionLater (48 + m) 0xD (u8 m ++ u8 x ++ u8 p.1) else s

/-- The shed and spare slots of a rail, slots 27 to 30 (R38, R132, R169): failures, substitutions and then the shed level form one change
of the switching set (R170), from the first period that begins after slot 30 (R112). -/
def spareSlots (m : Nat) (s : State) : State :=
  let t := instant s 7936
  let hit := (membersOf s m).any fun n => s.varB .detNow n
  let s := if hit then removePhases m t s else s
  let l := s.oN (Obj.railShedLvl m)
  let w := if railOn s m then levelWanted s m else l
  if l < w then toLevel m t w s
  else if hit then (if railOn s m then applySet m t s else showPool m s)
  else s

/-- The shadow of a rail's derating on a device that does not hold the token: while the mirrored rail is DERATED its limit follows the healthy
members, and it is gone with the state (R174, R186). -/
def deratedShadow (m : Nat) (s : State) : State :=
  if railState s m = RS.derated then
    let s := if s.o (Obj.poolIder m) = 0 then s.setO (Obj.poolDeratedSince m) s.timeNow else s
    s.setO (Obj.poolIder m) (iderOf s m)
  else s.setO (Obj.poolIder m) 0

/-- At the tick after an uncovered failure: DERATED is entered, or its limit recomputed (R174). -/
def deratedTick (m : Nat) (s : State) : State :=
  if !holder s then deratedShadow m s
  else if s.varB .derTodo m then
    let c := s.varN .derTodo m - 1
    let s := s.setVar .derTodo 0 m
    if railState s m = RS.regulating then enterDerated m c (s.condOff (48 + m) 0xE)
    else if railState s m = RS.derated then s.setO (Obj.poolIder m) (iderOf s m)
    else s
  else if railState s m = RS.derated then s
  else s.condOff (48 + m) 0xE

/-- pool[m].restore (R172): its status and effect. -/
def poolRestore (m n : Nat) (s : State) : Status × State :=
  if !phaseExists s n || !(listOf s m).contains n then (.outOfRange, s)
  else if !(decide (railState s m = RS.off ∨ railState s m = RS.failed) && phaseFailed s n &&
      decide (s.o (Obj.srcUncleared n) = 0)) then (.stateForbids, s)
  else
    let c := s.o (Obj.wearFailCause n)
    let s := (s.setBit (Obj.wearStatus n) 0 false).setO (Obj.wearFailCause n) 0
    let s := ((s.setO (Obj.phaseState n) PS.off).setFlag .senseMark false n).setVar .wearSoon (s.nowRound + 1 : Nat) n
    (.ok, showPool m (s.raiseActionLater n 0xE (u8 n ++ u8 m ++ u8 c ++ u8 (State.ofBool (declaredSpare s m n)))))

/-! ## Wear accounts (R177 to R185) -/

/-- Is the TMON of a rail broken? It is sensor 13 + m of source 122. -/
def tmonBroken (s : State) (m : Nat) : Bool := s.bit Obj.thBroken (13 + m)

/-- EXCURSION_COUNT: the TMON reading of a round arms, disarms and counts (R178). -/
def excursion (n m : Nat) (s : State) : State :=
  let t := s.o (Obj.tmT m)
  let ref := s.var .excRef n
  if tmonBroken s m then s
  else if s.var .excArm n = 1 then
    if ref + 320 ≤ t then ((s.bump (Obj.wearExcursions n)).setVar .excArm 2 n).setVar .excRef t n
    else if t < ref then s.setVar .excRef t n else s
  else if s.var .excArm n = 2 then
    if t ≤ ref - 320 then (s.setVar .excArm 1 n).setVar .excRef t n
    else if ref < t then s.setVar .excRef t n else s
  else s

/-- The 8 samples of l_hist with one more in front. -/
def pushHist (old : Nat) (l : Nat) : Nat := (l + 65536 * old) % 2 ^ 128

/-- Is a second of on-time complete? -/
def onTime (n : Nat) (s : State) : State :=
  let s := s.addVar .onRounds 1 n
  if s.var .onRounds n < 1000 then s
  else
    let s := (s.setVar .onRounds 0 n).bumpSat (Obj.wearOnSec n)
    let k := s.oN (Obj.wearOnSec n) / 2592000
    if s.varN .lastOnSec n < k then
      (s.setVar .lastOnSec k n).setO (Obj.wearLHist n) (pushHist (s.oN (Obj.wearLHist n)) (s.oN (Obj.phaseLLearned n)) : Nat)
    else s

/-- WEAR_ACCRUAL and INDUCTANCE_DRIFT of a phase at a round boundary (R166, R177 to R179). -/
def wearRound (n : Nat) (s : State) : State :=
  let m := s.oN (Obj.phaseRail n)
  let st := s.oN (Obj.phaseState n)
  if 12 ≤ m then s
  else
    let s := if st = PS.switching then
        s.addSat (Obj.wearAmpsec n) (s.o (Obj.phaseIAvg n)).natAbs 18446744073709551615 else s
    let s := if st = PS.switching ∨ st = PS.shed then onTime n s else s
    let s := if st = PS.switching ∨ st = PS.shed ∨ st = PS.spare then excursion n m s else s
    let s := s.addVar .lastRounds 1 n
    let s := if 1000 ≤ s.var .lastRounds n ∧ s.varB .lLive n then
        ((s.setVar .lastRounds 0 n).setO (Obj.wearLLast n) (s.o (Obj.phaseLLearned n))).setBit (Obj.wearStatus n) 3 true
      else s
    let l := s.o (Obj.phaseLLearned n)
    let nom := s.o (Obj.phaseLNom n)
    let drift := detectorsOn s m && decide (st = PS.switching ∨ st = PS.shed ∨ st = PS.spare) &&
      decide (s.o (Obj.poolDriftPct m) * nom < 100 * (l - nom).natAbs)
    let s := s.setBit (Obj.wearStatus n) 2 drift
    if drift then
      s.raise n 0xB (u8 n ++ u8 m ++ u16 l ++ u16 nom ++ u8 (clamp (-128) 127 (divNearest (100 * (l - nom)) nom)))
    else s.condOff n 0xB

/-- WEAR_SCORE: the four fractions weighted, in per mille (R181). -/
def wearScore (s : State) (n m : Nat) : Int :=
  let wc := s.o (Obj.poolWCharge m)
  let we := s.o (Obj.poolWExc m)
  let wo := s.o (Obj.poolWOn m)
  let wd := s.o (Obj.poolWDrift m)
  let a := s.o (Obj.poolAsLife m)
  let e := s.o (Obj.poolExcLife m)
  let o := s.o (Obj.poolOnLife m)
  let nom := s.o (Obj.phaseLNom n)
  let d0 := s.o (Obj.poolDriftPct m) * nom
  let dn := min d0 (100 * (s.o (Obj.wearLLast n) - nom).natAbs)
  let num := wc * s.o (Obj.wearAmpsec n) * e * o * d0 + we * s.o (Obj.wearExcursions n) * a * o * d0 +
    wo * s.o (Obj.wearOnSec n) * a * e * d0 + wd * dn * a * e * o
  min 65535 (divNearest (1000 * num) ((wc + we + wo + wd) * a * e * o * d0))

/-- WEAR_ALARM: W first reaches pool[m].wear_alarm, or falls below it (R183). A phase that is already failed raises nothing (R167). -/
def wearAlarm (n m : Nat) (s : State) : State :=
  let w := s.o (Obj.wearScore n)
  if s.o (Obj.poolWearAlarm m) ≤ w then
    let data := u8 n ++ u16 w ++ u32 (s.o (Obj.wearRlHours n)) ++ u8 m
    let s' := s.setBit (Obj.wearStatus n) 1 true
    if phaseFailed s n || s.bit (Obj.wearStatus n) 1 then s' else s'.raise n 0xC data
  else (s.setBit (Obj.wearStatus n) 1 false).condOff n 0xC

/-- The scalar fields of an account and their sizes in bytes, as stored. -/
def wearFields (n : Nat) : List (Nat × Nat) :=
  [(Obj.wearAmpsec n, 8), (Obj.wearOnSec n, 4), (Obj.wearExcursions n, 4), (Obj.wearSubsIn n, 2),
   (Obj.wearFailures n, 2), (Obj.wearLLast n, 2), (Obj.wearLMin n, 2), (Obj.wearLMax n, 2), (Obj.wearLHist n, 16),
   (Obj.wearScore n, 2), (Obj.wearRlHours n, 4), (Obj.wearStatus n, 1), (Obj.wearFailCause n, 1)]

/-- Where an account lies in the ledger region: 4 lines each. DESIGN CHOICE (log 12): the spec gives the region, not the
places in it. -/
def wearAddr (n : Nat) : Nat := 0x20000 + 128 * n

/-- The bytes of an account: its fields, the number of samples of the ring, the ring. -/
def wearBytes (s : State) (n : Nat) : List Byte :=
  (wearFields n).flatMap (fun f => leBytes f.2 (toTwos (8 * f.2) (s.o f.1))) ++ u8 (s.hist .hW n).length ++
    ((s.hist .hW n).take 32).flatMap (fun w => u16 w)

/-- Write an account through the commit buffer. -/
def wearStore (n : Nat) (s : State) : State := nvmWrite (wearAddr n) (wearBytes s n) s

/-- Take fields from stored bytes. -/
def loadFields (l : List (Nat × Nat)) (d : List Byte) (s : State) : State :=
  match l with
  | [] => s
  | (k, n) :: t => loadFields t (d.drop n) (s.setO k (ofLeBytes (d.take n) : Nat))

/-- Load an account at BOOT; WEAR_ACCOUNT_LOST where one of its lines is uncorrectable (R185): its record gives 0 for the score and the
on-time before, which cannot be read (DESIGN CHOICE, log entry 114). A blank account reads as one that has never been written. -/
def wearLoad (n : Nat) (s : State) : State :=
  let first := wearAddr n / 32
  let lost := (List.range 4).any fun k => (nvmLine s (first + k)).2.isNone
  let (d, s) := nvmRead (wearAddr n) 128 s
  if lost then
    let s := (wearFields n).foldl (fun s f => s.setO f.1 0) s
    let s := ((s.setO (Obj.wearRlHours n) 0xFFFFFFFF).setO (Obj.wearStatus n) 1).setO (Obj.wearFailCause n) 5
    let s := (s.setHist .hW [] n).setVar .wearSoon (s.nowRound + 1 : Nat) n
    s.raiseAction n 0xF (u8 n ++ u8 1)
  else if d.all (· = 0) then s
  else
    let s := loadFields (wearFields n) d s
    let k := ofLeBytes ((d.drop 50).take 1)
    let s := s.setHist .hW ((List.range k).map fun i => ((ofLeBytes ((d.drop (51 + 2 * i)).take 2) : Nat) : Int)) n
    s.setVar .lastOnSec (s.oN (Obj.wearOnSec n) / 2592000 : Nat) n

/-- The pushes that sys.op_seconds at BOOT has already had (R182). -/
def wearLoaded (n : Nat) (s : State) : State := (wearLoad n s).setVar .wearPushed (s.oN Obj.sysOpSeconds / 86400 : Nat) n

/-- The remaining life in hours from W and the samples that are at least 24 h old, newest first (R182). -/
def remainingLife (w : Int) (ring : List Int) : Int :=
  if 1000 ≤ w then 0
  else
    match ring with
    | [] => 0xFFFFFFFF
    | _ =>
      let i := min 29 (ring.length - 1)
      let dw := w - ring.getD i 0
      if dw ≤ 0 then 0xFFFFFFFF else min 0xFFFFFFFF ((1000 - w) * (24 * (i + 1 : Nat)) / dw)

/-- wear[n].rl_hours for the score in force: ages count from the last push, which is the newest sample (R182). -/
def showLife (n : Nat) (s : State) : State :=
  s.setO (Obj.wearRlHours n) (remainingLife (s.o (Obj.wearScore n)) ((s.hist .hW n).drop 1))

/-- W of an account is computed afresh, with what follows from it (R181 to R183). -/
def wearRescore (n m : Nat) (s : State) : State :=
  wearAlarm n m (showLife n (s.setO (Obj.wearScore n) (wearScore s n m)))

/-- Is an account to be committed: every 3,600 rounds, or within 10 rounds of a cause (R180)? -/
def wearDue (s : State) (n : Nat) : Bool := decide (s.varN .wearNext n ≤ s.nowRound) || s.varB .wearSoon n

/-- Score an account and write it (R180, R181, R183). -/
def wearCommit (n : Nat) (s : State) : State :=
  let m := s.oN (Obj.phaseRail n)
  let s := if m < 12 then wearRescore n m s else s
  commitAsk (wearStore n ((s.setVar .wearNext (s.nowRound + 3600 : Nat) n).setVar .wearSoon 0 n))

/-- WEAR_COMMIT: a wear account is committed periodically or after a failure, substitution, restore or reset (R180). -/
def execWearCommit (n : Nat) (s : State) : Out :=
  if phaseExists s n && wearDue s n then .next (wearCommit n s) else .next s

/-- WEAR_RING_PUSH: once per 86,400 s of sys.op_seconds (R182). -/
def execWearRingPush (n : Nat) (s : State) : Out :=
  let k := s.oN Obj.sysOpSeconds / 86400
  if phaseExists s n && decide (s.varN .wearPushed n < k) then
    .next ((showLife n (s.setHist .hW ((s.o (Obj.wearScore n) :: s.hist .hW n).take 32) n)).setVar .wearPushed k n)
  else .next s

/-- wear[n].reset (R184): its status and effect. -/
def wearResetWrite (n v : Nat) (s : State) : Status × State :=
  if v ≠ 1 then (.outOfRange, s)
  else if s.oN (Obj.phaseState n) = PS.switching then (.stateForbids, s)
  else
    let data := u8 n ++ u8 0 ++ u16 (s.o (Obj.wearScore n)) ++ u32 (divNearest (s.o (Obj.wearOnSec n)) 3600)
    let st := s.oN (Obj.wearStatus n) &&& 0x11
    let c := s.o (Obj.wearFailCause n)
    let s := (wearFields n).foldl (fun s f => s.setO f.1 0) s
    let s := ((s.setO (Obj.wearRlHours n) 0xFFFFFFFF).setO (Obj.wearStatus n) st).setO (Obj.wearFailCause n) c
    let s := (((s.setHist .hW [] n).setVar .onRounds 0 n).setVar .lastOnSec 0 n).setFlag .lLive false n
    (.ok, (s.setVar .wearSoon (s.nowRound + 1 : Nat) n).raiseActionLater n 0xF data)

/-- The checks of a pool's objects (R159, R181): spares lie in the list, a non-spare remains, weights are not all 0. -/
def poolConfigOk (s : State) (m : Nat) : Bool :=
  (List.range 48).all (fun n => !declaredSpare s m n || (listOf s m).contains n) &&
  ((listOf s m).isEmpty || decide (0 < nns s m)) && enginesOk s &&
  decide (s.o (Obj.poolWCharge m) + s.o (Obj.poolWExc m) + s.o (Obj.poolWOn m) + s.o (Obj.poolWDrift m) ≠ 0)

/-- The accounts of the part's phases at BOOT (R1, R185). -/
def healthBoot (s : State) : State := s.forRange 48 fun n s => if phaseExists s n then wearLoaded n s else s

end Sys2Proof.Machine
end

