-- ==== Sys2Proof/Machine/Marshal.lean ====
section
/-!
DEFINITION. Fault Marshal (spec/07_fault_marshal.md): intake, evaluation, promotion, escalation, reactions,
acknowledgement and clearing, the record queue.
-/

namespace Sys2Proof.Machine

/-- The rail of a source (R232); 0xFF in phase[n].rail stands for unassigned. -/
def srcRail (s : State) (src : Nat) : Option Nat :=
  if src < 48 then (if s.oN (Obj.phaseRail src) < 52 then some (s.oN (Obj.phaseRail src)) else none)
  else if src < 100 then some (src - 48)
  else none

/-- The paddock of a rail: that of its stall, where it is sequenced (R190, R191). -/
def railPaddock (s : State) (r : Nat) : Option Nat :=
  let st := s.oN (Obj.seqStall r)
  if st < 16 then some (s.oN (Obj.stallPaddock st)) else none

/-- Base level of a class (class entry bits [2:0]). -/
def clsBase (s : State) (src cls : Nat) : Nat := s.oN (Obj.srcCls src cls) % 8

/-- Action mask of a class (class entry bits [15:8]). -/
def clsMask (s : State) (src cls : Nat) : Nat := s.oN (Obj.srcCls src cls) / 256

/-- The reaction to an event at an effective level: bits [7:0] masked, retries unchanged (R230). -/
def reactionOf (s : State) (src cls level : Nat) : Nat :=
  let w := s.oN (Obj.srcReact src level)
  (w % 256 &&& clsMask s src cls) + w / 256 % 16 * 256

/-- The highest of the levels of a source's uncleared classes, plus one; 0 where none is uncleared. -/
def srcLevelUp (s : State) (src : Nat) : Nat :=
  (List.range 32).foldl
    (fun m c => if s.bit (Obj.srcUncleared src) c then max m (s.varN .clsLevel src c) else m) 0

/-- Show a source's highest uncleared level (src[s].level, 0xFF none) and whether it is cleared (marshal.in_fault, R240). -/
def showLevel (src : Nat) (s : State) : State :=
  let l := srcLevelUp s src
  (s.setO (Obj.srcLevel src) (if l = 0 then 0xFF else (l : Int) - 1)).setBit Obj.marshalInFault src
    (decide (s.o (Obj.srcUncleared src) ≠ 0))

/-- The highest uncleared level of the device (marshal.level, 0xFF none). -/
def deviceLevel (s : State) : Nat :=
  (List.range 256).foldl
    (fun (m : Nat) src =>
      let l := s.oN (Obj.srcLevel src)
      if l = 0xFF then m else if m = 0xFF then l else max m l) 0xFF

/-- Show the highest uncleared level of the device (marshal.level). -/
def showDevice (s : State) : State := s.setO Obj.marshalLevel (deviceLevel s)

/-! ## The record queue -/

/-- Does a queued entry match an offered one (R247, R459)? -/
def QEntry.sameKind (a b : QEntry) : Bool :=
  match a.fault, b.fault with
  | some (x, c, _), some (y, d, _) => decide (x = y ∧ c = d)
  | none, none => decide (a.code = b.code)
  | _, _ => false

/-- Are two entries of one code counted under one limit (R461)? Record 0x0402 is limited per source, which its first data byte names
(R254). -/
def QEntry.sameLimit (a b : QEntry) : Bool :=
  a.sameKind b && decide (a.code = b.code) && (decide (a.code ≠ 0x0402) || decide (a.data.head? = b.data.head?))

/-- Raise the repeat count of the last entry of a list that satisfies `p`, where there is one. -/
def foldLast (p : QEntry → Bool) (q : List QEntry) : Option (List QEntry) :=
  match q.reverse.span (fun e => !p e) with
  | (_, []) => none
  | (newer, e :: older) => some ((newer ++ { e with repeats := e.repeats + 1 } :: older).reverse)

/-- Show the queue's depth (marshal.q_depth, marshal.q_max). -/
def showQueue (s : State) : State :=
  let d : Int := s.queue.length
  let s := s.setO Obj.marshalQDepth d
  if s.o Obj.marshalQMax < d then s.setO Obj.marshalQMax d else s

/-- Offer an entry to the queue (R246, R247): it is queued; on a full queue it folds into the newest match with room in
its repeat count; else it is lost and counted. -/
def offerEntry (e : QEntry) (s : State) : State :=
  if s.queue.length < 256 then showQueue { s with queue := s.queue ++ [e] }
  else
    match foldLast (fun x => x.sameKind e && decide (x.repeats < 65535)) s.queue with
    | some q => { s with queue := q }.bump Obj.marshalFolds
    | none =>
      match e.fault with
      | some (src, cls, _) =>
        let s := (((s.bump (Obj.srcLostC src cls)).bump (Obj.srcLost src)).bump Obj.marshalLost).addVar .lostSum e.repeats
        let s := (s.addVar .lostSince 1 src).setVar .lostClasses
          ((if (s.varN .lostClasses src).testBit cls then s.varN .lostClasses src
            else s.varN .lostClasses src + 2 ^ cls : Nat) : Int) src
        s.post 28
      | none =>
        let s := s.bump (Obj.sbLostSub (e.code / 256))
        if e.code / 256 = 4 then s.bump (Obj.sbLost04 (e.code % 256)) else s

/-- A further occurrence within the period of a limit folds into the period's record while that is queued (R461); the
ring's share of the rule is at assembly, for an entry marked `fold`. -/
def offerFold (e : QEntry) (s : State) : State :=
  match foldLast (fun x => x.sameLimit e && decide (x.repeats < 65535)) s.queue with
  | some q => { s with queue := q }.bump Obj.sbFolds
  | none => offerEntry { e with fold := true } s

/-- An entry made now. -/
def entryNow (s : State) (code : Nat) (fault : Option (Nat × Nat × Nat)) (data : List Byte) : QEntry :=
  { code := code, fault := fault, data := pad8 data, frame := s.oN Obj.frameNumber, time := s.timeNow,
    valid := s.rtcValid, op := s.oN Obj.sysOpSeconds, cycles := s.oN Obj.sysPowerCycles, repeats := 1 }

/-- NON_FAULT_RECORD_OFFER: after the marshal's offers, the owners' records are offered in ascending code (R459).
Records of subsystem 0x04 are counted in marshal.rec_occ (R248). -/
def offerRecords (s : State) : State :=
  let l := s.offers.mergeSort fun a b => decide (a.code ≤ b.code)
  let s := s.forEach l fun o t =>
    let t := if o.code / 256 = 4 then t.bump (Obj.marshalRecOcc (o.code % 256)) else t
    let e := entryNow t o.code none o.data
    if o.fold then offerFold e t else offerEntry e t
  { s with offers := [] }

/-! ## Evaluation -/

/-- Is the counting window of a source open? -/
def winOpen (s : State) (src : Nat) : Bool := s.varB .winT src

/-- PROMOTION (R226, R227): the event is counted where its base level is L1 or L2; answers whether it is promoted. -/
def promote (src cls base : Nat) (s : State) : Bool × State :=
  let n := s.oN (Obj.srcCountN src)
  if n = 0 ∨ (base ≠ 1 ∧ base ≠ 2) then (false, s)
  else
    let s := if winOpen s src && !s.dueTR .winT src then s
      else ((s.startTR .winT (s.oN (Obj.srcCountW src)) src).setO (Obj.srcWinCount src) 0).setFlag .winPosted false src
    let s := s.bumpSat (Obj.srcWinCount src) 255
    if n ≤ s.oN (Obj.srcWinCount src) then
      let s := s.bump Obj.marshalPromotions
      if s.varB .winPosted src then (true, s)
      else
        let s := (s.setFlag .winPosted true src).post 24
        (true, s.record 0x0400 (u8 src ++ u8 cls ++ u8 base ++ u8 (s.o (Obj.srcWinCount src)) ++
          u16 (s.o (Obj.srcCountW src))))
    else (false, s)

/-- Does a repeat of this class escalate (R228, R229)? -/
def escalates (s : State) (src cls base : Nat) : Bool :=
  decide (1 ≤ base ∧ base ≤ 3) && s.bit (Obj.srcUnack src) cls && s.oB (Obj.srcEscEn src) && !s.varB .series src

/-- The actions of a reaction word for an event (R230, R232). -/
def dueActions (s : State) (src cls level word : Nat) : List Due :=
  let rail := srcRail s src
  let irq := classIrq src cls
  (if word.testBit 1 ∧ irq ≠ 255 then [Due.irq irq] else []) ++
  (match rail with
   | none => []
   | some r =>
     (if word.testBit 5 then (match railPaddock s r with | some p => [Due.paddockOff p r cls src] | none => []) else []) ++
     (if word.testBit 2 then [Due.railOff r cls src] else []) ++
     (if word.testBit 3 then [Due.hiccup r cls src (word / 256) level] else []) ++
     (if word.testBit 4 then [Due.depOff r cls] else [])) ++
  (if word.testBit 7 then [Due.yieldToken src cls level] else []) ++
  (if word.testBit 6 then [Due.safe src cls level] else [])

/-- FAULT_EVALUATION of one event, in the order of R245. -/
def evalEvent (e : FaultEvent) (s : State) : State :=
  let src := e.src
  let cls := e.cls
  let base := clsBase s src cls
  let (prom, s) := promote src cls base s
  let esc := escalates s src cls base
  let level := min 4 (max base (max (if prom then 3 else 0) (if esc then base + 1 else 0)))
  let word := reactionOf s src cls level
  let log := word.testBit 0
  -- 1. occurrence or unlogged counter (R238)
  let s := if log then (s.bump (Obj.srcOcc src cls)).bump Obj.evTotal 64 else (s.bump (Obj.srcUnlogged src)).bump Obj.marshalUnlogged
  -- 2. escalation's record, interrupt and counter
  let s := if esc then
      ((s.bump Obj.marshalEscalations).post 25).record 0x0401
        (u8 src ++ u8 cls ++ u8 base ++ u8 level ++ u32 ((s.now : Int) - s.var .evFrame src cls))
    else s
  -- 3. unacknowledged and uncleared state; L0 is information (R225)
  let s := if 1 ≤ level then
      let s := (s.setBit (Obj.srcUnack src) cls true).setBit (Obj.srcUncleared src) cls true
      let s := s.setVar .clsLevel (max (s.var .clsLevel src cls) (level + 1 : Nat)) src cls
      (showLevel src s).setVar .quietStart s.nowRound src
    else s
  let s := (s.setVar .evFrame s.now src cls).setO (Obj.srcLastTime src) s.timeNow
  let s := (s.setO (Obj.srcLastClass src) cls).setO Obj.marshalLastSrc src
  -- 4. the reaction, to act at the next tick (R233)
  let s := { s with due := s.due ++ dueActions s src cls level word }
  -- 5. the record queue
  if log then
    let q := entryNow s (classCode src cls) (some (src, cls, level)) e.data
    if e.fold then offerFold q s else offerEntry q s
  else s

/-- Events in ascending source number, and within a source in ascending class (R245). -/
def eventOrder (a b : FaultEvent) : Bool := decide (a.src < b.src ∨ (a.src = b.src ∧ a.cls ≤ b.cls))

/-- FAULT_INTAKE and FAULT_EVALUATION of a frame (R244, R245). Events that arise during BOOT are held until the first
frame of the mode that BOOT enters (R608). -/
def evaluate (s : State) : State :=
  if s.mode = .boot then s
  else
    let evs := s.intake.mergeSort eventOrder
    let s := if s.o Obj.marshalIntakeMax < evs.length then s.setO Obj.marshalIntakeMax evs.length else s
    let s := { s with intake := [] }.forEach evs evalEvent
    showDevice s

/-! ## Acknowledgement and clearing -/

/-- Clear one class; `byAck` records it (R240). The level at the clear and the frames since the last event are kept. -/
def clearClass (src cls : Nat) (byAck : Bool) (s : State) : State :=
  let level := s.varN .clsLevel src cls - 1
  let s := if byAck then
      (s.post 27).recordPer 0x0402 src s.nowRound (u8 src ++ u8 cls ++ u8 level ++ u32 ((s.now : Int) - s.var .evFrame src cls))
    else s
  let s := ((s.setBit (Obj.srcUnack src) cls false).setBit (Obj.srcUncleared src) cls false).setVar .clsLevel 0 src cls
  let s := showLevel src s
  if s.o (Obj.srcUncleared src) = 0 then (s.setO (Obj.srcHiccups src) 0).setFlag .series false src else s

/-- CLASS_CLEAR at a tick: every acknowledged class whose condition is absent (R240). -/
def clearTick (s : State) : State :=
  showDevice (s.forRange 256 fun src s =>
    if s.o (Obj.srcUncleared src) = 0 then s
    else
      s.forRange 32 fun c s =>
        if s.bit (Obj.srcUncleared src) c && !s.bit (Obj.srcUnack src) c && !s.condOn src c then clearClass src c true s else s)

/-- The quiet period restarts while any condition of a source is present (R241). -/
def quietTick (s : State) : State :=
  s.forRange 256 fun src s => if s.o (Obj.srcCond src) ≠ 0 then s.setVar .quietStart s.nowRound src else s

/-- FAULT_N (R243): asserted or released at this tick by the uncleared levels as the last frame left them; source 29 has
a lasting raw line. -/
def faultNTick (s : State) : State :=
  let l := deviceLevel s
  let low := decide (l ≠ 0xFF ∧ s.oN Obj.marshalFaultNLevel ≤ l)
  s.setOB Obj.marshalFaultN low

/-- Acknowledge the classes of a bit map (R239). -/
def acknowledge (src bits : Nat) (s : State) : State :=
  s.setO (Obj.srcUnack src) ((s.oN (Obj.srcUnack src) - (s.oN (Obj.srcUnack src) &&& bits) : Nat) : Int)

/-- A write of src[s].unack (R239): writing 1 acknowledges, writing 0 has no effect. -/
def unackWrite (src : Nat) (v : Nat) (s : State) : Status × State := (.ok, acknowledge src v s)

/-- A write of marshal.ack_all (R239). -/
def ackAllWrite (v : Nat) (s : State) : Status × State :=
  if v = 1 then (.ok, s.forRange 256 fun src s => if s.o (Obj.srcUnack src) = 0 then s else acknowledge src 0xFFFFFFFF s)
  else (.outOfRange, s)

/-- COUNT_WINDOW_CLOSE: the counting window's timer expires and the count returns to 0 (R226). -/
def execCountWindowClose (src : Nat) (s : State) : Out :=
  if decide (src < 256) && s.dueTR .winT src then
    .next (((s.stopT .winT src).setO (Obj.srcWinCount src) 0).setFlag .winPosted false src)
  else .next s

/-- Does an event of level L1 or more of a source wait for this frame's evaluation? -/
def restartsQuiet (src : Nat) (s : State) : Bool :=
  s.intake.any fun e => decide (e.src = src) && decide (1 ≤ clsBase s src e.cls)

/-- QUIET_PERIOD_EXPIRY: every class of the source is acknowledged and cleared; an event of this frame restarts the period (R241). -/
def execQuietPeriodExpiry (src : Nat) (s : State) : Out :=
  if decide (src < 256) && decide (s.o (Obj.srcUncleared src) ≠ 0) && decide (s.o (Obj.srcCond src) = 0) && !restartsQuiet src s &&
      decide (s.var .quietStart src + s.o (Obj.srcQuiet src) * 1000 ≤ s.nowRound) then
    let classes := s.oN (Obj.srcUncleared src)
    let level := srcLevelUp s src - 1
    let s := showDevice (s.forRange 32 fun c s => if s.bit (Obj.srcUncleared src) c then clearClass src c false s else s)
    let s := ((s.bump (Obj.srcRecoveries src)).bump Obj.marshalRecoveries).post 26
    .next (s.record 0x0403 (u8 src ++ u32 classes ++ u8 level ++ u16 (s.o (Obj.srcRecoveries src))))
  else .next s

/-- LOST_RECORD_OFFER: once the queue has room, a record 0x0405 for each source that lost events is offered with the other records of the
frame (R247, R459). -/
def execLostRecordOffer (s : State) : Out :=
  .next (s.forRange 256 fun src s =>
    if s.varB .lostSince src && decide (s.queue.length + s.offers.length < 256) then
      let n : Nat := min 65535 (s.varN .lostSince src)
      ((s.record 0x0405 (u8 src ++ u32 (s.var .lostClasses src) ++ u16 n)).setVar .lostSince 0 src).setVar .lostClasses 0 src
    else s)

/-! ## Reaction words -/

/-- Is a reaction word valid for its source (R231)? -/
def reactWordOk (src v : Nat) : Bool :=
  decide (v < 2 ^ 12) && !(v.testBit 3 && v.testBit 2) && (v.testBit 3 == decide (v / 256 ≠ 0)) &&
  !(decide (100 ≤ src) && decide (v / 4 % 16 ≠ 0))

/-- Is a class entry valid (R231)? -/
def clsEntryOk (v : Nat) : Bool := decide (v % 8 ≤ 4) && decide (v / 8 % 32 = 0)

/-- Sources 200 and 120 have fixed reactions (R61, R231, R389). -/
def reactFixed (src : Nat) : Bool := decide (src = 200 ∨ src = 120)

/-- The conditions of events are judged afresh from the entry into BOOT on; R249 names them neither way (DESIGN CHOICE, log entry 116). -/
def condsBoot (s : State) : State := s.forRange 256 fun src s => s.setO (Obj.srcCond src) 0

/-- R249, at the end of BOOT (R608): every class starts acknowledged and cleared, with no window, no series and FAULT_N released. -/
def marshalBoot (s : State) : State :=
  let s := s.forRange 256 fun src s =>
    let s := (s.setO (Obj.srcUnack src) 0).setO (Obj.srcUncleared src) 0
    let s := ((s.setO (Obj.srcLevel src) 0xFF).setO (Obj.srcHiccups src) 0).setO (Obj.srcWinCount src) 0
    let s := ((s.stopT .winT src).setFlag .series false src).setFlag .winPosted false src
    s.forRange 32 fun c s => s.setVar .clsLevel 0 src c
  (((s.setOB Obj.marshalFaultN false).setO Obj.marshalLevel 0xFF).setO Obj.marshalLastSrc 0xFF).setO Obj.marshalInFault 0

end Sys2Proof.Machine
end

