-- ==== Sys2Proof/Machine/Slots.lean ====
section
/-!
DEFINITION. The middle of a frame (R38): the marshal's evaluation in slots 13 to 20, then the shed and spare decisions of slots 27 to 30,
which see its result. They have been taken by every instant after slot 30.
-/

namespace Sys2Proof.Machine

/-- The end of slot 30, in steps after the tick: 31 slots of 8 FCLK cycles (R38). -/
def slot30End : Nat := 31 * 8 * stepsPerCycle

/-- The marshal's slots, then the shed and spare slots of every rail (R38). -/
def midSlots (s : State) : State := ((evaluate s).forRange 12 fun m s => spareSlots m s).setVar .slotsDone 1

/-- The state at an instant of the frame: from the end of slot 30 on, the decisions of slots 13 to 30 have been taken. -/
def slotsBy (at_ : Nat) (s : State) : State :=
  if s.mgtOn && !s.varB .slotsDone && decide (slot30End ≤ at_) then midSlots s else s

end Sys2Proof.Machine
end

