-- ==== Sys2Proof/Machine/Studbook.lean ====
section
/-!
DEFINITION. Studbook Event Recorder (spec/16_studbook.md): records, assembly and folding, the ring, the signed export, the
black-box snapshot.
-/

namespace Sys2Proof.Machine

/-! ## Records -/

/-- Data address of a ring position. -/
def ringAddr (p : Nat) : Nat := 0x24000 + 32 * p

/-- Close 29 bytes with crc and mark (R455, R456). -/
def sealRecord (d : List Byte) : List Byte := d ++ u16 (crc16 d) ++ [0xA5]

/-- The info byte of an entry (R455). -/
def infoOf (e : QEntry) : Nat :=
  (match e.fault with | some (_, _, l) => l % 8 + 16 | none => 0) + (if e.valid then 8 else 0)

/-- Source and class of an entry. -/
def srcClsOf (e : QEntry) : Nat × Nat := match e.fault with | some (x, c, _) => (x, c) | none => (0, 0)

/-- The 32 bytes of a record (R455, R458). -/
def recordBytes (e : QEntry) (lap : Nat) : List Byte :=
  let (x, c) := srcClsOf e
  sealRecord (u16 e.code ++ u8 x ++ u8 c ++ u8 (infoOf e) ++ u8 lap ++ u16 e.repeats ++ u32 e.op ++ leBytes 3 e.cycles ++
    u48 (if e.valid then e.time else 0 : Nat) ++ pad8 e.data)

/-- A field of a stored record. -/
def recField (d : List Byte) (off n : Nat) : Nat := ofLeBytes ((d.drop off).take n)

/-- Is a stored line a valid record (R464)? -/
def recordValid (d : List Byte) : Bool :=
  decide (d.getD 31 0 = 0xA5) && decide (recField d 29 2 = crc16 (d.take 29))

/-- A position as stored. -/
def ringLine (s : State) (p : Nat) : List Byte × Option Nat := nvmLine s (ringAddr p / 32)

/-- The valid record of a position. -/
def ringRecord (s : State) (p : Nat) : Option (List Byte) :=
  match ringLine s p with
  | (d, some _) => if recordValid d then some d else none
  | (_, none) => none

/-- Is a position empty: never written (R464)? -/
def ringEmpty (s : State) (p : Nat) : Bool := (ringLine s p).1.all (· == 0)

/-- Positions read by the studbook: the effects of the reads (R445, R464). -/
def ringTouch (l : List Nat) (s : State) : State := s.forEach l fun p => nvmReadEffect (ringAddr p / 32)

/-- The newest position. -/
def newest (s : State) : Nat := (s.oN Obj.sbHead + 8191) % 8192

/-! ## Assembly (R458 to R462) -/

/-- Does an export hold a position (R465)? -/
def expHolds (s : State) (p : Nat) : Bool :=
  decide (1 ≤ s.oN Obj.sbExpState ∧ s.oN Obj.sbExpState ≤ 3) &&
  decide ((s.varN .expHead + 8191 - p) % 8192 < s.varN .expCnt)

/-- Does an entry fold into the newest record (R460)? -/
def foldsNewest (s : State) (e : QEntry) (d : List Byte) : Bool :=
  let (x, c) := srcClsOf e
  decide (s.oN Obj.sbFoldTime ≠ 0) &&
  decide (recField d 0 2 = e.code ∧ recField d 2 1 = x ∧ recField d 3 1 = c ∧ recField d 4 1 % 32 = infoOf e ∧
    recField d 12 3 = s.oN Obj.sysPowerCycles % 2 ^ 24 ∧
    s.oN Obj.sysOpSeconds ≤ recField d 8 4 + s.oN Obj.sbFoldTime ∧ recField d 6 2 + e.repeats ≤ 65535)

/-- Does an entry fold into its period's record (R461)? Record 0x0402 is limited per source, which its first data byte names (R254). -/
def foldsPeriod (e : QEntry) (d : List Byte) : Bool :=
  let (x, c) := srcClsOf e
  decide (recField d 0 2 = e.code ∧ recField d 2 1 = x ∧ recField d 3 1 = c) &&
    (decide (e.code ≠ 0x0402) || decide (recField d 21 1 = recField e.data 0 1))

/-- Rewrite a record with more occurrences. -/
def addRepeats (p : Nat) (d : List Byte) (e : QEntry) (s : State) : State :=
  let d := sealRecord (overlay (d.take 29) 6 (u16 (recField d 6 2 + e.repeats : Nat)))
  let s := if e.fault.isSome then s.addVar .ringSum e.repeats else s
  (bufEnter (ringAddr p / 32) 0 d s).bump Obj.sbFolds

/-- The record that a position holds is overwritten: its occurrences are retired (R462). -/
def retire (p : Nat) (s : State) : State :=
  match ringRecord s p with
  | none => s
  | some d =>
    let n := recField d 6 2
    let code := recField d 0 2
    if (recField d 4 1).testBit 4 then
      ((s.addVar .retired n (recField d 2 1) (recField d 3 1)).addVar .retSum n).addVar .ringSum (-n)
    else if 0x0400 ≤ code ∧ code ≤ 0x0407 then s.addO (Obj.sbRet04 (code - 0x0400)) n
    else s

/-- Write a new record at the head, which advances; at the wrap the lap increments and source 100 is posted (R462). -/
def writeRecord (e : QEntry) (s : State) : State :=
  let p := s.oN Obj.sbHead
  let s := retire p (ringTouch [p] s)
  let s := bufEnter (ringAddr p / 32) 0 (recordBytes e (s.oN Obj.sbLap)) s
  let s := if e.fault.isSome then s.addVar .ringSum e.repeats else s
  let s := s.bump Obj.sbRecords
  if p = 8191 then ((s.setO Obj.sbHead 0).setO Obj.sbLap ((s.oN Obj.sbLap + 1) % 256 : Nat)).post 100
  else s.setO Obj.sbHead (p + 1 : Nat)

/-- The newest position that a limited occurrence is added to (R461). -/
def periodPos (s : State) (e : QEntry) : Option Nat :=
  ((List.range 8192).map fun i => (newest s + 8192 - i) % 8192).find? fun p =>
    match ringRecord s p with | some d => foldsPeriod e d | none => false

/-- The positions that are read to find where an entry folds: back to its period's record, or to the end, for a limited one, and the newest. -/
def foldReads (s : State) (e : QEntry) : List Nat :=
  if e.fold then
    match periodPos s e with
    | some p => (List.range ((newest s + 8192 - p) % 8192 + 1)).map fun i => (newest s + 8192 - i) % 8192
    | none => List.range 8192
  else [newest s]

/-- Where an entry folds, and the record there. A position that an export holds is not rewritten. -/
def foldTarget (s : State) (e : QEntry) : Option (Nat × List Byte) :=
  let at_ (p : Nat) : Option (Nat × List Byte) := if expHolds s p then none else (ringRecord s p).map fun d => (p, d)
  let room (d : List Byte) : Bool := decide (recField d 6 2 + e.repeats ≤ 65535)
  match (if e.fold then (periodPos s e).bind at_ else none) with
  | some (p, d) => if room d then some (p, d) else none
  | none => match at_ (newest s) with
    | some (p, d) => if foldsNewest s e d then some (p, d) else none
    | none => none

/-- Slot 36: the queue's head becomes a record, or folds (R458 to R462): at most one in a frame, while the commit buffer has room, and not
into a position that an export holds; when the head has reached one, assembly stops, folding with it (R465). While there is no room the studbook waits as a writer (R442). -/
def assemblySlot (s : State) : State :=
  let s := if s.queue.isEmpty || decide (s.buf.length < 128) then s.setVar .sbHeld 0 else s
  match s.queue with
  | [] => s
  | e :: q =>
    if expHolds s (s.oN Obj.sbHead) then s
    else if s.mgtOn && decide (s.buf.length < 128) && decide (s.varN .asmFrame ≠ s.now + 1) then
      let s := ringTouch (foldReads s e) s
      let written (s : State) : State := if e.code = 0x0D40 then s.setFlag .terrierRec false else s
      match foldTarget s e with
      | some (p, d) => showQueue { addRepeats p d e (written (s.setVar .asmFrame (s.now + 1 : Nat))) with queue := q }
      | none => showQueue { writeRecord e (written (s.setVar .asmFrame (s.now + 1 : Nat))) with queue := q }
    else if s.mgtOn && decide (128 ≤ s.buf.length) && !s.varB .sbHeld then s.setVar .sbHeld (s.nowRound + 1 : Nat)
    else s

/-- RECORD_ASSEMBLY: slot 36 of the frame that runs, after its marshal's slots and the offers they made (R38, R458). A frame in which the
row does not come does that slot's work at its end (log entry 7). -/
def execRecordAssembly (s : State) : Out :=
  if s.queue.isEmpty then .next s else .next (assemblySlot (offerRecords (slotsBy slot30End s)))

/-! ## BOOT (R463) -/

/-- The first valid position at or after `p` and below `hi`. -/
def nextValid (s : State) (p hi : Nat) : Option Nat :=
  ((List.range (hi - p)).map (· + p)).find? fun q => (ringRecord s q).isSome

/-- The lap of a position's record. -/
def lapAt (s : State) (p : Nat) : Nat := match ringRecord s p with | some d => recField d 5 1 | none => 256

/-- The binary search: `lo` is valid with lap `l`; every valid position at or above `hi` has another lap. -/
def headSearch (s : State) (l : Nat) : Nat → Nat → Nat → Nat
  | 0, lo, _ => lo
  | fuel + 1, lo, hi =>
    if hi ≤ lo + 1 then lo
    else
      let mid := (lo + hi) / 2
      match nextValid s mid hi with
      | none => headSearch s l fuel lo mid
      | some p => if lapAt s p = l then headSearch s l fuel p hi else headSearch s l fuel lo mid

/-- The positions that the head search reads: to the first valid one, at each probe up to the next valid one, and on from the head. -/
def headReads (s : State) (l : Nat) : Nat → Nat → Nat → List Nat
  | 0, _, _ => []
  | fuel + 1, lo, hi =>
    if hi ≤ lo + 1 then []
    else
      let mid := (lo + hi) / 2
      match nextValid s mid hi with
      | none => (List.range (hi - mid)).map (· + mid) ++ headReads s l fuel lo mid
      | some p =>
        (List.range (p + 1 - mid)).map (· + mid) ++
          (if lapAt s p = l then headReads s l fuel p hi else headReads s l fuel lo mid)

/-- HEAD_SEARCH (R463): torn positions lie from the head on, across the end of the ring, to the first valid or empty one. -/
def sbHeadSearch (s : State) : State :=
  match nextValid s 0 8192 with
  | none => ((ringTouch (List.range 8192) s).setO Obj.sbHead 0).setO Obj.sbLap 0
  | some first =>
    let l := lapAt s first
    let last := headSearch s l 8192 first 8192
    let after := (List.range 8191).map fun i => (last + 1 + i) % 8192
    let torn := after.takeWhile fun p => !ringEmpty s p && !(ringRecord s p).isSome
    let s := ringTouch (List.range (first + 1) ++ headReads s l 8192 first 8192 ++ after.take (torn.length + 1)) s
    let s := if last = 8191 then (s.setO Obj.sbHead 0).setO Obj.sbLap ((l + 1) % 256 : Nat)
      else (s.setO Obj.sbHead (last + 1 : Nat)).setO Obj.sbLap l
    if torn = [] then s
    else ((s.addO Obj.sbTorn torn.length).post 101).record 0x0C40
      (u16 torn.length ++ u16 (torn.headD 0) ++ u8 (s.o Obj.sbLap))

/-- The occurrence counters are recomputed from the records, the retired and the lost counters (R539). -/
def sbRecount (s : State) : State :=
  let s := s.forRange 256 fun x s => s.forRange 32 fun c s =>
    s.setO (Obj.srcOcc x c) (s.var .retired x c + s.o (Obj.srcLostC x c))
  (s.setVar .ringSum 0).forRange 8192 fun p s =>
    let s := ringTouch [p] s
    match ringRecord s p with
    | some d =>
      if (recField d 4 1).testBit 4 then
        (s.addO (Obj.srcOcc (recField d 2 1) (recField d 3 1)) (recField d 6 2)).addVar .ringSum (recField d 6 2)
      else s
    | none => s

/-! ## Signed export (R465, R466) -/

/-- The header of an export or a snapshot (R466). -/
def exportHeader (fmt count skipped head lap : Nat) (nonce : Int) (s : State) : List Byte :=
  u8 fmt ++ u8 (s.o Obj.idPart) ++ u16 0 ++ leBytes 8 (s.oN Obj.idUid) ++ u16 count ++ u16 skipped ++ u16 head ++ u8 lap ++
    u8 (State.ofBool s.rtcValid) ++ u48 (s.o Obj.rtcNow) ++ u16 0 ++ u32 (s.o Obj.sysPowerCycles) ++ u32 (s.o Obj.sysOpSeconds) ++
    leBytes 8 nonce.toNat ++ List.replicate 20 0

/-- The positions of the range, newest first. -/
def expRange (s : State) : List Nat :=
  (List.range (s.varN .expCnt)).map fun i => (s.varN .expHead + 8191 - i) % 8192

/-- Record 0x0C41: how an export has ended, with its counts of records and of torn positions (R469). -/
def exportEnded (how : Nat) (s : State) : State := s.record 0x0C41 (u8 how ++ (s.expData.drop 12).take 4)

/-- A write of sb.exp_cmd: its status and effect (R465, R469, R470). -/
def expCmd (v : Nat) (s : State) : Status × State :=
  let st := s.oN Obj.sbExpState
  if v = 1 then
    if st = 1 ∨ st = 2 then (.busy, s)
    else
      let s := ((s.setVar .expHead (s.o Obj.sbHead)).setVar .expLap (s.o Obj.sbLap)).setVar .expCnt (s.o Obj.sbExpCount)
      let s := (s.setVar .expDone 0).setO Obj.sbExpState 1
      let recs := (expRange s).filterMap (ringRecord s)
      let torn := ((expRange s).filter fun p => !ringEmpty s p && (ringRecord s p).isNone).length
      let hd := exportHeader 1 recs.length torn (s.varN .expHead) (s.varN .expLap) (s.o Obj.sbExpNonce) s
      (.ok, { s with expData := hd ++ recs.flatten, expSig := [] }.setO Obj.sbExpLen (128 + 32 * recs.length : Nat))
  else if v = 2 then
    if st = 0 ∨ st = 4 then (.ok, s.setO Obj.sbExpState 0)
    else
      let s := exportEnded 0 (if st = 3 then s else discardJob .exportSign s)
      (.ok, { s with expData := [], expSig := [] }.setO Obj.sbExpState 0)
  else (.outOfRange, s)

/-- Slot 38's share of an export: one valid record of the range is hashed, with the positions around it that hold none passed over; the last
one asks for the signature, job 1. -/
def expSlot (s : State) : State :=
  if s.oN Obj.sbExpState = 1 then
    let none_ (p : Nat) : Bool := (ringRecord s p).isNone
    let rest := (expRange s).drop (s.varN .expDone)
    let before := rest.takeWhile none_
    let after := (rest.drop (before.length + 1)).takeWhile none_
    let n := before.length + 1 + after.length
    let s := ringTouch (rest.take n) (s.addVar .expDone (n : Nat))
    if s.varN .expCnt ≤ s.varN .expDone then jobRequest 1 .exportSign (s.setO Obj.sbExpState 2) else s
  else s

/-- The identity key's signature of a digest; the secret number is the TRNG's (R512). -/
def signWith (d : Nat) (bytes : List Byte) (s : State) : List Byte × State :=
  let (k, s) := s.drawFree
  (ecdsaSign d (k % (p256n - 1) + 1) (sha256 bytes), s)

/-- The private scalar in use: the primary copy unless that is marked marginal (R447, R495). -/
def identityScalar (s : State) : Nat :=
  let word (b : Nat) : Nat := (List.range 4).foldl (fun a i => a + shadowWord s (b + i) * 2 ^ (64 * i)) 0
  if (List.range 4).any fun i => otpMarginal s (38 + i) then word 42 else word 38

/-- EXPORT_READY: signing has completed (R465). -/
def execExportReady (s : State) : Out :=
  if decide (s.oN Obj.sbExpState = 2) && decide (s.var .jobDone JobFor.exportSign.slot = 1) then
    let (sig, s) := signWith (identityScalar s) s.expData s
    let s : State := { s with expSig := sig }
    .next (((s.setVar .jobDone 0 JobFor.exportSign.slot).setO Obj.sbExpState 3).setVar .expSince s.nowRound |>.post 96)
  else .next s

/-- EXPORT_TIMEOUT: not ended 60,000 rounds after it became ready; a failed signing job does the same (R465). -/
def execExportTimeout (s : State) : Out :=
  let late := decide (s.oN Obj.sbExpState = 3 ∧ s.varN .expSince + 60000 ≤ s.nowRound)
  let failed := decide (s.oN Obj.sbExpState = 2) && decide (s.var .jobDone JobFor.exportSign.slot = 2)
  if late || failed then
    let s := (s.setO Obj.sbExpState 4).setVar .jobDone 0 JobFor.exportSign.slot
    let s := exportEnded (if late then 1 else 2) (s.post 97)
    .next { s with expData := [], expSig := [] }
  else .next s

/-! ## Black box (R467, R468) -/

/-- Data address of a slot. -/
def bbAddr (k : Nat) : Nat := 0x65000 + 32768 * k

/-- Generation and protection of a slot that holds a valid capture. -/
def bbHeader (s : State) (k : Nat) : Option (Nat × Bool) :=
  let h := nvmBytes s (bbAddr k) 32
  if recField h 30 2 = 0xA55A ∧ recField h 28 2 = crc16 (h.take 28 ++ nvmBytes s (bbAddr k + 32) (32 * 1023)) then
    some (recField h 0 4, (recField h 24 1).testBit 1)
  else none

/-- The generation of a slot, 0 where it holds none. -/
def bbGenOf (s : State) (k : Nat) : Nat := match bbHeader s k with | some (g, _) => g | none => 0

/-- Is a slot protected? -/
def bbProtected (s : State) (k : Nat) : Bool := match bbHeader s k with | some (_, p) => p | none => false

/-- The value of an object at its type's size; an absent one is zero. -/
def objBytes (s : State) (index sub : Nat) : List Byte :=
  match dictRow index sub with
  | none => []
  | some r =>
    if s.oN Obj.idPart = 2 ∧ absent4824 index then List.replicate r.ty.size 0
    else encodeVal r.ty (s.o (objKey index sub))

/-- The objects of a run of indices and subindices, index by index. -/
def objRun (s : State) (i0 n : Nat) (subs : List Nat) : List Byte :=
  (List.range n).flatMap fun i => subs.flatMap fun b => objBytes s (i0 + i) b

/-- Subindices from one to another. -/
def subRun (a b : Nat) : List Nat := (List.range (b + 1 - a)).map (· + a)

/-- The state image of R468, padded to 63 lines. -/
def stateImage (s : State) : List Byte :=
  let d := objRun s 0x0010 1 (subRun 1 9) ++ objRun s 0x1000 48 [0x20, 0x22] ++ objRun s 0x1100 12 (subRun 0x30 0x3D) ++
    objRun s 0x1180 8 (subRun 0x30 0x3B) ++ objRun s 0x2080 1 (subRun 3 7) ++ objRun s 0x2500 1 (subRun 3 5) ++
    objRun s 0x2801 1 (subRun 1 5) ++ objRun s 0x2C01 1 (subRun 1 0xD) ++ objRun s 0x3001 1 (subRun 1 0x11) ++
    objRun s 0x3201 1 (subRun 1 6)
  (d ++ List.replicate 2016 0).take 2016

/-- The trace entry of a frame (R468). -/
def traceEntry (s : State) : List Byte :=
  u16 (s.o Obj.frameNumber) ++ ((List.range 12).flatMap fun m => u16 (s.var .vMean m)) ++ u8 (s.o Obj.marshalLevel) ++
    u8 (s.o Obj.sequencerYardState) ++ u8 (s.o Obj.hsState) ++ u8 (s.o Obj.pwrSrc) ++ u8 (s.o Obj.thScale / 4) ++ [0]

/-- MGT RAM keeps the trace of 960 frames. -/
def traceFrame (s : State) : State := { s with trace := (traceEntry s :: s.trace).take 960 }

/-- The first 28 bytes of the header of the capture that runs. -/
def bbHead (s : State) : List Byte :=
  u32 (s.var .bbGen) ++ u8 (s.var .bbTrig) ++ u8 (s.var .bbCause) ++ u48 (s.var .bbTime) ++ u32 (s.var .bbOp) ++
    u32 (s.o Obj.sysPowerCycles) ++ u32 (s.var .bbFrame) ++
    u8 ((if s.varB .bbValid then 1 else 0) + (if s.var .bbTrig = 1 ∧ s.varB .bbFree = false then 2 else 0)) ++ [0, 0, 0]

/-- BLACK_BOX_TRIGGER: a capture starts, or is missed (R467, R468). -/
def bbTrigger (trig : Nat) (s : State) : State :=
  let busy := decide (s.oN Obj.sbBbState = 1)
  let s := if busy then s else nvmTouch (bbAddr 0) 65536 s
  if busy ∨ (bbProtected s 0 ∧ bbProtected s 1) then
    ((s.bump Obj.sbBbMissed).post 99).record 0x0C43 (u8 trig ++ u8 (if busy then 1 else 0))
  else
    let g0 := bbGenOf s 0
    let g1 := bbGenOf s 1
    let k : Nat := if bbProtected s 0 then 1 else if bbProtected s 1 then 0 else if g1 < g0 then 1 else 0
    let image := stateImage s ++ (List.replicate (960 - s.trace.length) (List.replicate 32 (0 : Byte))).flatten ++
      s.trace.reverse.flatten
    let s : State := { s with bbImage := image }
    let s := (((s.setVar .bbSlot k).setVar .bbLine 1).setVar .bbTrig trig).setVar .bbGen (max g0 g1 + 1 : Nat)
    let s := ((s.setFlag .bbFree false).setFlag .bbValid s.rtcValid).setVar .bbTime (s.o Obj.rtcNow)
    let s := (s.setVar .bbCause (s.o Obj.sysLastCause)).setVar .bbOp (s.o Obj.sysOpSeconds)
    let s := (s.setVar .bbFrame (s.o Obj.frameNumber)).setO Obj.sbBbState 1
    nvmWrite (bbAddr k) (bbHead s ++ u16 0 ++ u16 0) s

/-- Slot 38's share of a capture: one line through the commit buffer (R468). -/
def bbSlotWork (s : State) : State :=
  let l := s.varN .bbLine
  if s.oN Obj.sbBbState = 1 ∧ l < 1024 ∧ s.waiters = [] ∧ s.buf.length < 128 then
    (nvmWrite (bbAddr (s.varN .bbSlot) + 32 * l) ((s.bbImage.drop (32 * (l - 1))).take 32) s).setVar .bbLine (l + 1 : Nat)
  else s

/-- BLACK_BOX_COMPLETE: the header is written last (R468). -/
def execBlackBoxComplete (s : State) : Out :=
  if decide (s.oN Obj.sbBbState = 1) && decide (s.varN .bbLine = 1024) && decide (s.buf.length < 128) then
    let k := s.varN .bbSlot
    let h := bbHead s
    let s := nvmWrite (bbAddr k) (h ++ u16 (crc16 (h ++ s.bbImage)) ++ u16 0xA55A) s
    let s := ((s.setO Obj.sbBbState 0).setVar .bbLine 0).post 98
    let s := s.record 0x0C42 (u8 k ++ u8 (s.var .bbTrig) ++ u32 (s.var .bbGen))
    .next { s with bbImage := [] }
  else .next s

/-- Release the protection of a slot: its header is rewritten. The slot of a capture that runs is released with it (R467). -/
def bbRelease (k : Nat) (s : State) : State :=
  let s := nvmTouch (bbAddr k) 32768 s
  if s.oN Obj.sbBbState = 1 ∧ s.varN .bbSlot = k then s.setFlag .bbFree true
  else if bbProtected s k then
    let h := nvmBytes s (bbAddr k) 28
    let h := overlay h 24 (u8 ((recField h 24 1 - 2 : Nat) : Int))
    nvmWrite (bbAddr k) (h ++ u16 (crc16 (h ++ nvmBytes s (bbAddr k + 32) (32 * 1023))) ++ u16 0xA55A) s
  else s

/-- A write of sb.bb_cmd: its status and effect (R467, R470). -/
def bbCmd (v : Nat) (s : State) : Status × State :=
  if v = 1 then (.ok, bbTrigger 3 s)
  else if v = 2 then (.ok, bbRelease 1 (bbRelease 0 s))
  else (.outOfRange, s)

/-- The studbook at a BOOT: no export runs. The trace and a capture go on through a warm BOOT; a capture that a power loss has interrupted stays
without its mark (R468). -/
def sbBoot (s : State) : State :=
  let s : State := { s with expData := [], expSig := [] }
  sbHeadSearch ((s.setO Obj.sbExpState 0).setVar .expDone 0)

end Sys2Proof.Machine
end

