-- ==== Sys2Proof/Machine/Collie.lean ====
section
/-!
DEFINITION. Collie Watchdog and Interrupt Controller (spec/17_watchdogs_and_interrupts.md): sensing, delivery, claims,
retention, the collie's window, check-ins, suspension and expiry.
-/

namespace Sys2Proof.Machine

/-! ## Interrupt controller -/

/-- The raw line of a source in this frame: sources 29 and 65 have lasting lines (R610). -/
def rawLine (s : State) (i : Nat) : Bool :=
  if i = 29 then s.oB Obj.marshalFaultN else if i = 65 then decide (s.o Obj.thScale < 1000) else s.lines.contains i

/-- Does the hold-off timer of a group run (R485)? -/
def holdRuns (s : State) (g : Nat) : Bool := s.varB .holdT g && !s.dueT .holdT g

/-- Configuration of a source. -/
def irqCfg (s : State) (i : Nat) : Nat := s.oN (Obj.irqSrc i)

/-- INTERRUPT_SENSE of one source (R482, R486). A claim keeps a level from pending again only as long as the line stays high. -/
def senseOne (i : Nat) (s : State) : State :=
  let now := rawLine s i
  let was := s.varB .irqPrev i
  let k := irqCfg s i % 4
  let hit := if k = 0 then now && !was else if k = 1 then !now && was else if k = 2 then now != was
    else now && !(s.varB .irqClaimed i && holdRuns s (i / 8))
  let s := s.setFlag .irqPrev now i
  let s := if now then s else s.setFlag .irqClaimed false i
  if hit then
    if s.varB .irqPend i then s.bump Obj.irqMerged
    else (s.setFlag .irqPend true i).setFlag .irqClaimed false i
  else s

/-- Is a source deliverable to a target: 0 SPI-A, 1 SPI-B, 2 CAN-A, 3 CAN-B (R483)? -/
def deliverable (s : State) (t i : Nat) : Bool :=
  s.varB .irqPend i && (irqCfg s i).testBit (2 + t) && !holdRuns s (i / 8)

/-- The lowest source deliverable to a target. -/
def lowestFor (s : State) (t : Nat) : Option Nat := (List.range 128).find? (deliverable s t)

/-- The last number a target obtained. -/
def irqLast (t : Nat) : Nat := [Obj.irqLastA, Obj.irqLastB, Obj.irqLastCanA, Obj.irqLastCanB].getD t 0

/-- A claim by a target: the number obtained, 0xFF for none (R484, R485). -/
def claimBy (t : Nat) (s : State) : Nat × State :=
  match lowestFor s t with
  | some i =>
    let s := ((s.setFlag .irqPend false i).setFlag .irqClaimed true i).bump Obj.irqClaims
    let h := s.oN (Obj.irqHoldoff (i / 8))
    let s := if h = 0 then s else s.startT .holdT h (i / 8)
    (i, s.setO (irqLast t) i)
  | none => (0xFF, (s.bump (Obj.irqSpurious t)).setO (irqLast t) 0xFF)

/-- CAN_CLAIM of one target: up to 4 claims in a frame while its queue has room (R484, R563). -/
def canClaim (p : Nat) : Nat → State → State
  | 0, s => s
  | n + 1, s =>
    if canClaims s p && (lowestFor s (2 + p)).isSome && decide (notifyCount s p < 16) then
      let (i, s) := claimBy (2 + p) s
      let s : State := { s with notify := s.notify ++ [(p, i, s.oN Obj.frameNumber % 2 ^ 24)] }
      canClaim p n (s.setO (Obj.canNotifyQ p) (notifyCount s p))
    else s

/-- Slot 48 of a frame: sensing, the CAN claims, the IRQ lines (R482 to R484). -/
def irqSlot (s : State) : State :=
  let s := s.forRange 128 senseOne
  let s := canClaim 1 4 (canClaim 0 4 s)
  (s.setFlag .irqLow (lowestFor s 0).isSome 0).setFlag .irqLow (lowestFor s 1).isSome 1

/-- HOLDOFF_EXPIRY: a group's hold-off timer expires (R485). -/
def execHoldoffExpiry (g : Nat) (s : State) : Out :=
  if decide (g < 16) && s.dueT .holdT g then .next (s.stopT .holdT g) else .next s

/-- A write of irq.clear: the pending bits it sets are cleared (R487). -/
def irqClear (v : Nat) (s : State) : Status × State :=
  (.ok, s.forRange 128 fun i s => if v.testBit i then s.setFlag .irqPend false i else s)

/-- The pending sources as one number. -/
def irqPending (s : State) : Nat := (List.range 128).foldl (fun a i => if s.varB .irqPend i then a + 2 ^ i else a) 0

/-- IRQ_RETENTION_SAVE (R488). -/
def irqSave (s : State) : State :=
  let s := s.forRange 128 fun i s => (s.setVar .irqSavedPend (s.var .irqPend i) i).setVar .irqSavedPrev (s.var .irqPrev i) i
  s.forRange 4 fun t s => s.setVar .irqSavedLast (s.o (irqLast t) + 1) t

/-- IRQ_RETENTION_RESTORE at a BOOT; hold-off timers restart idle (R488). What has been restored is used up: another BOOT finds only what a later
HOLDUP or BACKUP has saved. -/
def irqRestore (bkp : Bool) (s : State) : State :=
  let s := s.forRange 128 fun i s =>
    let s := s.setVar .irqPend (if bkp then s.var .irqSavedPend i else 0) i
    (s.setVar .irqPrev (if bkp then s.var .irqSavedPrev i else 0) i).setFlag .irqClaimed false i
  let s := s.forRange 4 fun t s =>
    s.setO (irqLast t) (if bkp ∧ s.varB .irqSavedLast t then s.var .irqSavedLast t - 1 else 0xFF)
  let s := s.forRange 128 fun i s => (s.setVar .irqSavedPend 0 i).setVar .irqSavedPrev 0 i
  let s := s.forRange 4 fun t s => s.setVar .irqSavedLast 0 t
  let s := s.forRange 16 fun g s => s.stopT .holdT g
  let n := ((List.range 128).filter fun i => s.varB .irqPend i).length
  let s : State := { s with lines := [], notify := [] }
  let s := ((s.setO (Obj.canNotifyQ 0) 0).setO (Obj.canNotifyQ 1) 0).setOB Obj.irqRestored bkp
  ((s.setFlag .irqLow false 0).setFlag .irqLow false 1).record 0x0D10 (u8 (if bkp then 0 else 1) ++ u8 n)

/-! ## Collie -/

/-- States of the collie (R471). -/
abbrev CS.off : Nat := 0
abbrev CS.waiting : Nat := 1
abbrev CS.counting : Nat := 2
abbrev CS.suspended : Nat := 3
abbrev CS.held : Nat := 4

/-- The collie's state. -/
def collieSt (s : State) : Nat := s.oN Obj.collieState

/-- Is a mode a running mode (R471)? -/
def collieRuns (s : State) : Bool :=
  match s.mode with
  | .setup | .run | .safe => true
  | .holdup => s.oB Obj.collieHoldupRun
  | _ => false

/-- Leave a suspension: source 107 and record 0x0D06 (R490, R491). -/
def suspensionEnd (why : Nat) (s : State) : State :=
  ((s.stopT .collieBusyT).post 107).record 0x0D06 (u8 why ++ u32 (s.nowRound - s.varN .collieBusyAt : Nat))

/-- Enter a state; collie.hostbusy reads 0x01 while suspended. -/
def collieGo (st : Nat) (s : State) : State :=
  ((s.setO Obj.collieState st).setOB Obj.collieHostbusy (decide (st = CS.suspended))).setVar .collieHit 0

/-- COLLIE_HELD and entry into a running mode (R471). -/
def collieMode (s : State) : State :=
  let st := collieSt s
  if st = CS.off then s
  else if collieRuns s then (if st = CS.held then collieGo CS.waiting s else s)
  else if st = CS.held then s
  else collieGo CS.held (if st = CS.suspended then suspensionEnd 0 s else s)

/-- COLLIE_TICK: once in every frame whose number is a multiple of 100 (R471, R472). -/
def execCollieTick (s : State) : Out :=
  if decide (s.oN Obj.frameNumber % 100 = 0) && decide (s.varN .collieFrame ≠ s.now + 1) then
    let s := s.setVar .collieFrame (s.now + 1 : Nat)
    if collieSt s = CS.waiting then .next ((collieGo CS.counting s).setO Obj.collieCount 0)
    else if collieSt s = CS.counting then
      let s := s.bumpSat Obj.collieCount 65535
      .next (s.setFlag .collieHit (decide (s.o Obj.collieClose ≤ s.o Obj.collieCount)))
    else .next s
  else .next s

/-- The required tasks that have not checked in. -/
def collieMissing (s : State) : Nat :=
  let t := s.oN Obj.collieTasks
  t - (t &&& s.oN Obj.collieChecked)

/-- An expiry (R480). -/
def collieExpire (cause : Nat) (s : State) : State :=
  let s := (s.setO Obj.collieEvChecked (s.o Obj.collieChecked)).setO Obj.collieEvMissing (collieMissing s)
  let s := (s.setO Obj.collieEvTag (s.o Obj.collieLastTag)).setO Obj.collieEvFrame (s.o Obj.collieLastFrame)
  let s := (s.setO Obj.collieEvTime (s.o Obj.collieLastTime)).setO Obj.collieEvCause cause
  let s := ((s.setO Obj.collieChecked 0).bump Obj.collieExpiries).raiseActionLater 240 0
    (u8 cause ++ u16 (s.o Obj.collieEvChecked) ++ u16 (s.o Obj.collieEvMissing) ++ u16 (s.o Obj.collieEvTag))
  collieGo CS.waiting s

/-- COLLIE_EXPIRY: the count has reached collie.close (R472, R480). -/
def execCollieExpiry (s : State) : Out :=
  if decide (collieSt s = CS.counting) && s.varB .collieHit then .next (collieExpire 0 s) else .next s

/-- SUSPENSION_EXPIRY: collie.busy_max has passed (R479). -/
def execSuspensionExpiry (s : State) : Out :=
  if decide (collieSt s = CS.suspended) && s.dueTR .collieBusyT then .next (collieExpire 1 (suspensionEnd 1 s))
  else .next s

/-- A write of collie.serve through a port: its status and effect (R473, R474). -/
def collieServe (v port : Nat) (s : State) : Status × State :=
  let key := v % 65536
  let tag := v / 65536
  let st := collieSt s
  if st = CS.off ∨ st = CS.held then (.stateForbids, s)
  else if key ≠ 0xA5C3 then (.outOfRange, s.raiseActionLater 240 4 (u16 key ++ u16 tag ++ u8 port))
  else if st = CS.suspended then (.stateForbids, s)
  else if st = CS.waiting ∨ s.o Obj.collieCount < s.o Obj.collieOpen then
    (.stateForbids, s.raiseActionLater 240 1 (u16 (s.o Obj.collieCount) ++ u16 (s.o Obj.collieOpen) ++ u16 tag ++
      u8 (if st = CS.waiting then 1 else 0)))
  else if collieMissing s ≠ 0 then
    (.stateForbids, s.raiseActionLater 240 2 (u16 (collieMissing s) ++ u16 (s.o Obj.collieChecked) ++ u16 tag ++
      u16 (s.o Obj.collieCount)))
  else
    let s := ((s.setO Obj.collieLastTag tag).setO Obj.collieLastFrame (s.o Obj.frameNumber)).setO Obj.collieLastTime s.timeNow
    let s := s.setO Obj.collieServe v
    (.ok, collieGo CS.waiting ((s.setO Obj.collieChecked 0).bump Obj.collieServices))

/-- A write of collie.checkin (R476, R477). -/
def collieCheckin (t : Nat) (s : State) : Status × State :=
  if collieSt s = CS.off ∨ collieSt s = CS.held then (.stateForbids, s)
  else if 15 < t then (.outOfRange, s)
  else if s.bit Obj.collieChecked t then
    (.ok, (s.bump Obj.collieAnomalies).raiseActionLater 240 3
      (u8 t ++ u16 (s.o Obj.collieCount) ++ u16 (s.o Obj.collieChecked)))
  else (.ok, s.setBit Obj.collieChecked t true)

/-- A write of collie.hostbusy (R478). -/
def hostbusyWrite (v : Nat) (s : State) : Status × State :=
  let st := collieSt s
  if v = 1 then
    if st = CS.counting then
      let s := ((collieGo CS.suspended s).startTR .collieBusyT (s.oN Obj.collieBusyMax)).setVar .collieBusyAt s.nowRound
      (.ok, (s.post 107).record 0x0D05 (u16 (s.o Obj.collieCount) ++ u32 (s.o Obj.collieBusyMax)))
    else if st = CS.suspended then (.ok, s)
    else (.stateForbids, s)
  else if v = 0 then (.ok, if st = CS.suspended then collieGo CS.waiting (suspensionEnd 0 s) else s)
  else (.outOfRange, s)

/-- A keyed write of collie.en through a port (R481). -/
def collieEn (v port : Nat) (s : State) : Status × State :=
  if 1 < v then (.outOfRange, s)
  else
    let s := if collieSt s = CS.suspended then suspensionEnd 0 s else s
    let s := (s.setO Obj.collieEn v).record 0x0D07 (u8 v ++ u8 port)
    if v = 0 then (.ok, (collieGo CS.off s).setO Obj.collieChecked 0)
    else (.ok, collieGo (if collieRuns s then CS.waiting else CS.held) s)

/-- The check of a write of collie.open or collie.close (R475). -/
def collieConfigOk (s : State) : Bool := decide (s.o Obj.collieOpen < s.o Obj.collieClose)

/-- The collie at a BOOT: off; with collie.en true it is then held until a running mode (R471). -/
def collieBoot (s : State) : State :=
  let s := (collieGo CS.off s).stopT .collieBusyT
  let s := (s.setO Obj.collieChecked 0).setO Obj.collieCount 0
  if s.oB Obj.collieEn then collieGo CS.held s else s

/-- collie.busy_left: the suspension time that remains. -/
def collieBusyLeft (s : State) : Nat :=
  if collieSt s = CS.suspended then s.varN .collieBusyT - 1 - s.nowRound else 0

end Sys2Proof.Machine
end

