-- ==== Sys2Proof/Machine/HotSwap.lean ====
section
/-!
DEFINITION. Live Insertion and Input Protection (spec/09_input_hot_swap.md): the insertion state machine, its trips, the
backplane window, hs.cmd, the VIN_MGT monitor and holdup preparation.
-/

namespace Sys2Proof.Machine

/-- Codes of hs.state (R298). -/
abbrev HS.absent : Nat := 0
abbrev HS.debounce : Nat := 1
abbrev HS.ready : Nat := 2
abbrev HS.inrush : Nat := 3
abbrev HS.on : Nat := 4
abbrev HS.cooldown : Nat := 5
abbrev HS.latched : Nat := 6
abbrev HS.off : Nat := 7
abbrev HS.inputFault : Nat := 8

/-- The state of the insertion machine. -/
def hsSt (s : State) : Nat := s.oN Obj.hsState

/-- The timers of a state, started now (R298, R300). -/
def hsTimers (st : Nat) (s : State) : State :=
  let s := if st = HS.on then s.startTR .hsOnT 1000 else s.stopT .hsOnT
  if st = HS.inrush then s.startTR .hsT (s.oN Obj.hsInrushMax)
  else if st = HS.cooldown then s.startTR .hsT (s.oN Obj.hsRetryWait)
  else s.stopT .hsT

/-- Enter a state. The counts of power good and of the breaker go on: their own conditions restart them (R48). -/
def hsGo (st : Nat) (s : State) : State :=
  let s := (((s.setO Obj.hsState st).setVar .hsSince s.now).setVar .hsGoto 0).setVar .hsCut 0
  let s := ((s.setVar .hsDeb 0).setVar .hsAsk 0).setBit Obj.hsFlags 5 (decide (st = HS.latched))
  let s := if st = HS.inrush then (s.setVar .hsSoaPk (s.var .hsSoa)).setVar .hsHalf 0 else s
  hsTimers st s

/-- May the controller operate: in SETUP, RUN and HOLDUP with MAIN powered (R297)? -/
def hsAllowed (s : State) : Bool :=
  decide (s.mode = .setup ∨ s.mode = .run ∨ s.mode = .holdup) && s.mainOn

/-- Does HS_GATE drive the MOSFETs: in inrush and on, by the holder alone, unless a fast trip has discharged it (R299, R303, R313)? -/
def hsGateOn (s : State) : Bool := driving s && !s.varB .hsCut && decide (hsSt s = HS.inrush ∨ hsSt s = HS.on)

/-- Is HS_VIN within its window (R306)? -/
def hsWindow (s : State) : Bool :=
  decide (s.oN Obj.hsVinUv * 10 < s.pin .hsVin ∧ s.pin .hsVin < s.oN Obj.hsVinOv * 10)

/-- Which exit of a frame goes first: the exits to absent and to input fault before every other (R298), then the command (R308), then a
trip before power good. The order of the last two is a DESIGN CHOICE (log entry 105). -/
def hsRank (st : Nat) : Nat :=
  if st = HS.absent then 4 else if st = HS.inputFault then 3 else if st = HS.off then 2 else if st = HS.cooldown then 1 else 0

/-- The rank of the exit decided so far in this frame. -/
def hsRankNow (s : State) : Nat := if s.varB .hsGoto then hsRank (s.varN .hsGoto - 1) else 0

/-- A change of state is decided: it takes effect at the next tick (R298). -/
def hsDecide (st : Nat) (s : State) : State :=
  if hsRank st < hsRankNow s then s else s.setVar .hsGoto (st + 1 : Nat)

/-- What the entry to on posts and records, at frame `at_` (R315, R316). -/
def hsOn (at_ : Nat) (s : State) : State :=
  let t : Nat := if hsSt s = HS.inrush then at_ - s.varN .hsSince else 0
  let data := u32 t ++ u16 (min 65535 (divNearest (s.var .hsSoaPk) 1000000)) ++ u8 (s.o Obj.hsRetriesUsed)
  (s.record 0x0600 data).post 41

/-- A decided state is entered at the tick (R298). A trip that consumes a retry latches where none is left (R305); a sense fault
consumes none (R307). A debounce counts the tick of its decision where both pins were low at it, `low`. -/
def hsEnter (low : Bool) (s : State) : State :=
  if s.varB .hsGoto then
    let st := s.varN .hsGoto - 1
    let retry := decide (st = HS.cooldown ∧ s.varN .hsTripped ≠ 10)
    let left := decide (s.o Obj.hsRetriesUsed < s.o Obj.hsRetries)
    let s := if retry && left then s.addO Obj.hsRetriesUsed 1 else s
    let s := if retry && !left then s.raiseAction 102 0 (u8 (s.o Obj.hsLastCause) ++ u8 (s.o Obj.hsRetriesUsed + 1)) else s
    let s := if st = HS.on then hsOn s.now s else s
    (hsGo (if retry && !left then HS.latched else st) s).setFlag .hsDeb (low && decide (st = HS.debounce))
  else s

/-- The state as decided so far in this frame. -/
def hsNextSt (s : State) : Nat := if s.varB .hsGoto then s.varN .hsGoto - 1 else hsSt s

/-- May an inrush start: no sense fault persists (R307), and after a trip the accumulator has fallen to half its limit (R305)? -/
def hsMayStart (s : State) : Bool :=
  !s.bit Obj.hsFlags 7 && (!s.varB .hsHalf || decide (2 * s.var .hsSoa ≤ s.o Obj.hsSoaLim * 1000))

/-- An inrush starts where it may. -/
def hsInrush (s : State) : State := if hsMayStart s then hsDecide HS.inrush s else s

/-- hs.cmd 0x01 asks for an inrush: where it may not start yet, the request waits in its state (DESIGN CHOICE, log entry 105). -/
def hsAskOn (s : State) : State :=
  if hsMayStart s && (decide (hsSt s ≠ HS.ready) || hsWindow s) then hsDecide HS.inrush s else s.setFlag .hsAsk true

/-- Voltages of the records, in 10 mV. -/
def cV (mv : Int) : Int := divNearest mv 10

/-! ## Ticks -/

/-- HS_VIN and HS_SRC within hs.pg_delta. -/
def hsNear (s : State) : Bool := decide ((s.pin .hsVin - s.pin .hsSrc).natAbs ≤ s.oN Obj.hsPgDelta * 10)

/-- The controller at a tick: samples, dissipation and SOA, qualification counters (R297 to R307). A dissipation or an input power below 0, which
their unsigned codes cannot hold, reads 0 and counts as 0 (DESIGN CHOICE, log entry 116). -/
def hsTick (s : State) : State :=
  let vin := s.pin .hsVin
  let src := s.pin .hsSrc
  let iin := divNearest (s.pin .hsShunt * 1000) (s.o Obj.hsRshunt)
  let pfet := max 0 (divNearest ((vin - src) * iin) 1000)
  let soa := max 0 (s.var .hsSoa + pfet - s.o Obj.hsSoaCool)
  let s := (s.setVar .hsSoa soa).setVar .hsSoaPk (max soa (s.var .hsSoaPk))
  let s := ((s.setO Obj.hsVin (max 0 (cV vin))).setO Obj.hsVout (max 0 (cV src))).setO Obj.hsIin iin
  let s := (s.setO Obj.hsPfet pfet).setO Obj.hsSoaAcc (min 4294967295 (divNearest soa 1000))
  let s := (s.addVar .hsPinSum (divNearest (vin * iin) 1000)).addVar .hsPinCnt 1
  let early := s.pinB .earlyN
  let late := s.pinB .lateN
  let f := Obj.hsFlags
  let wasLow := s.bit f 0 && s.bit f 1
  let s := ((s.setBit f 0 (!early)).setBit f 1 (!late)).setBit f 2 (s.pinB .hsGate)
  let s := (s.setBit f 3 (s.varB .hsLim)).setFlag .hsLim false
  let s := s.setBit f 4 (hsNear s)
  let ok := hsAllowed s
  let s := if ok && !s.varB .hsActive then hsGo HS.absent (s.setFlag .hsActive true)
    else if !ok && (s.varB .hsActive || decide (hsSt s ≠ HS.off)) then
      (hsGo HS.off (s.setFlag .hsActive false)).setO Obj.hsLastCause 9
    else hsEnter wasLow s
  let s := s.setVar .hsTripped 0
  let st := hsSt s
  let s := (s.countCond .hsRem (early || late)).countCond .hsDeb (decide (st = HS.debounce) && !early && !late)
  let s := s.countCond .hsPg (decide (st = HS.inrush) && hsNear s)
  let s := s.countCond .hsCb (decide (st = HS.inrush ∨ st = HS.on ∨ st = HS.cooldown ∨ st = HS.latched) && decide (s.o Obj.hsIlim ≤ iin))
  let s := if early || late then s else s.condOff 104 0
  let s := (s.countCond .hsOv (decide (s.oN Obj.hsVinOv * 10 ≤ vin))).countCond .hsUv (decide (vin ≤ s.oN Obj.hsVinUv * 10))
  let s := s.countCond .hsWarn (decide (vin ≤ s.oN Obj.hsVinWarn * 10))
  let s := if s.varB .hsOv then s else s.condOff 103 0
  let s := if s.varB .hsUv then s else s.condOff 103 2
  let s := if s.varB .hsWarn then s else s.condOff 103 1
  let discharged := decide (st ≠ HS.inrush ∧ st ≠ HS.on)
  let s := s.countCond .hsFet (ok && discharged && hsNear s && decide (s.oN Obj.hsVinUv * 10 < vin))
  let s := if s.varB .hsFet then s else (s.condOff 106 0).setBit f 6 false
  let s := s.countCond .hsSense (ok && decide (s.pin .hsShunt < -10000 ∨ 100000 < s.pin .hsShunt ∨
    1000 < (s.pin .hsIsn - vin).natAbs))
  let s := if s.varB .hsSense then s else (s.condOff 106 1).setBit f 7 false
  if s.varB .hsAsk && decide (st = HS.ready ∨ st = HS.latched ∨ st = HS.off) then hsAskOn s else s

/-- hs.pin: the mean of the round, not below 0. -/
def hsRound (s : State) : State :=
  let s := s.setO Obj.hsPin (if s.varB .hsPinCnt then max 0 (divNearest (s.var .hsPinSum) (s.var .hsPinCnt)) else 0)
  (s.setVar .hsPinSum 0).setVar .hsPinCnt 0

/-! ## Insertion and removal -/

/-- CARD_REMOVAL: a pin sampled high at 2 ticks, or at any tick of debounce; the state becomes absent at the next tick, and the latch and
the retries are cleared (R298, R299, R305, R308). -/
def execCardRemoval (s : State) : Out :=
  let st := hsSt s
  if s.varB .hsActive && decide (hsNextSt s ≠ HS.absent) &&
      (decide (2 ≤ s.varN .hsRem) || (decide (st = HS.debounce) && s.varB .hsRem)) then
    let data := u8 st ++ u16 (dA (s.o Obj.hsIin)) ++ u16 (s.o Obj.hsVin)
    let s := if st = HS.on ∨ st = HS.inrush then s.raise 104 0 data else s
    let s := if st = HS.debounce then s.bump Obj.hsBounces else s
    let s := (hsDecide HS.absent s).setO Obj.hsRetriesUsed 0
    .next (if st = HS.on ∨ st = HS.inrush then s.setO Obj.hsLastCause 7 else s)
  else .next s

/-- CARD_MATED: both pins low in absent (R298). -/
def execCardMated (s : State) : Out :=
  if s.varB .hsActive && decide (hsNextSt s = HS.absent ∧ hsSt s = HS.absent) && !s.pinB .earlyN && !s.pinB .lateN then
    .next (hsDecide HS.debounce s)
  else .next s

/-- HS_DEBOUNCE_MET: both pins low at every tick for hs.debounce rounds (R298). -/
def execHsDebounceMet (s : State) : Out :=
  if decide (hsNextSt s = HS.debounce ∧ hsSt s = HS.debounce) && s.metCond .hsDeb (s.oN Obj.hsDebounce * 1000) then
    .next ((hsDecide HS.ready s).bump Obj.hsInsertions)
  else .next s

/-- INRUSH_START: ready, hs.auto true and HS_VIN within its window (R298). -/
def execInrushStart (s : State) : Out :=
  if decide (hsNextSt s = HS.ready ∧ hsSt s = HS.ready) && s.oB Obj.hsAuto && hsWindow s then .next (hsInrush s) else .next s

/-- Does the gate drive, and no hs.cmd 0x02 has ended the inrush in this frame, after which no trip is counted (R303, R308)? -/
def tripState (s : State) : Bool :=
  decide (hsSt s = HS.inrush ∨ hsSt s = HS.on) && !decide (hsSt s = HS.inrush ∧ s.varN .hsGoto = HS.off + 1)

/-- May a cause of this tick trip the controller: no other has tripped it in this frame (R303, R304)? -/
def mayTrip (s : State) : Bool := tripState s && !s.varB .hsTripped

/-- HS_POWER_GOOD: power good at hs.pg_qual ticks; on is entered at the next tick unless another exit goes first (R300). -/
def execHsPowerGood (s : State) : Out :=
  if !s.varB .hsGoto && decide (hsSt s = HS.inrush) && s.metCond .hsPg (s.oN Obj.hsPgQual) then .next (hsDecide HS.on s)
  else .next s

/-- HS_RETRIES_RESET: on has lasted 1,000 rounds (R300). -/
def execHsRetriesReset (s : State) : Out :=
  if decide (hsSt s = HS.on) && s.dueTR .hsOnT then
    .next ((s.stopT .hsOnT).setO Obj.hsRetriesUsed 0)
  else .next s

/-! ## Limits and trips (R302 to R305) -/

/-- CURRENT_LIMITING: the gate amplifier limits at 1.25 × hs.ilim (R302). -/
def execCurrentLimiting (i : Nat) (s : State) : Out :=
  if decide (hsSt s = HS.inrush ∨ hsSt s = HS.on) && decide (5 * s.oN Obj.hsIlim ≤ 4 * i) then
    .next ((s.setFlag .hsLim true).setBit Obj.hsFlags 3 true)
  else .next s

/-- The bytes of record 0x0601. -/
def tripData (cause : Nat) (s : State) : List Byte :=
  u8 cause ++ u16 (dA (s.o Obj.hsIin)) ++ u16 (s.o Obj.hsVin) ++ u16 (s.o Obj.hsVout) ++ u8 (s.o Obj.hsRetriesUsed)

/-- The class of a trip that a fast trip of the same frame overtakes is not raised (R304). -/
def dropTrip (s : State) : State := { s with intake := s.intake.filter fun e => decide (e.src ≠ 101) }

/-- A trip: the class is raised, and the state leaves for cooldown at the next tick, where the retry is taken (`hsEnter`), unless a removal,
an input fault or a command goes first (R303 to R305, R308). A fast trip acts between ticks and is taken in at the next; it stands for
any other trip of its frame, but where the marshal has evaluated that one already, both classes are raised (R304; DESIGN CHOICE, log
entry 114). -/
def hsTrip (cls cause : Nat) (s : State) : State :=
  let s := if s.varB .hsTripped then dropTrip s else s.bump Obj.hsTrips
  let s := (s.setVar .hsTripped cause).setFlag .hsHalf true
  let s := if cls = 0 then s.raiseActionLater 101 0 (tripData cause s) else s.raiseAction 101 cls (tripData cause s)
  hsDecide HS.cooldown (if hsRankNow s < 2 then s.setO Obj.hsLastCause cause else s)

/-- The record of a shorted MOSFET or a sense fault. -/
def fetData (cls : Nat) (s : State) : List Byte :=
  u8 cls ++ u16 (s.o Obj.hsVin) ++ u16 (s.o Obj.hsVout) ++ u16 (divNearest (s.pin .hsShunt) 100)

/-- Has the SOA accumulator reached its limit? -/
def soaMet (s : State) : Bool := decide (s.o Obj.hsSoaLim * 1000 ≤ s.var .hsSoa)

/-- Does the gate read back on in cooldown or latched, where a trip is a shorted MOSFET (R307, R308)? -/
def gateStuck (s : State) : Bool := decide (hsSt s = HS.cooldown ∨ hsSt s = HS.latched) && s.pinB .hsGate

/-- FAST_TRIP: the unfiltered comparator trips at 2 × hs.ilim, whatever the frame has decided (R303, R304). With a removal in the same
frame both are recorded and no retry is consumed; in cooldown or latched it is a shorted MOSFET (R308). -/
def execFastTrip (i : Nat) (s : State) : Out :=
  if 2 * s.oN Obj.hsIlim ≤ i then
    if tripState s then .next (if s.varN .hsTripped = 1 then s else (hsTrip 0 1 s).setFlag .hsCut true)
    else if hsSt s = HS.inrush then .next (s.setFlag .hsCut true)
    else if gateStuck s then
      .next ((s.raiseLater 106 0 (fetData 0 s)).setBit Obj.hsFlags 6 true)
    else .next s
  else .next s

/-- A trip of the tick in cooldown or latched with the gate reading on: a shorted MOSFET (R308). -/
def stuckTrip (s : State) : State := (s.raise 106 0 (fetData 0 s)).setBit Obj.hsFlags 6 true

/-- SOA_TRIP: the SOA accumulator reaches hs.soa_lim (R303, R308). -/
def execSoaTrip (s : State) : Out :=
  if mayTrip s && soaMet s then .next (hsTrip 1 2 s) else if gateStuck s && soaMet s then .next (stuckTrip s) else .next s

/-- BREAKER_TRIP: hs.iin at or above hs.ilim at hs.cb_filt ticks; an SOA trip in the same frame comes first (R304, R308). -/
def execBreakerTrip (s : State) : Out :=
  if mayTrip s && s.metCond .hsCb (s.oN Obj.hsCbFilt) && !soaMet s then .next (hsTrip 2 3 s)
  else if gateStuck s && s.metCond .hsCb (s.oN Obj.hsCbFilt) then .next (stuckTrip s) else .next s

/-- INRUSH_TIMEOUT: hs.inrush_max rounds without power good; the other trips come first, a sense fault's among them (R298, R304, R307). -/
def execInrushTimeout (s : State) : Out :=
  if mayTrip s && decide (hsSt s = HS.inrush) && s.dueTR .hsT && !soaMet s && !s.metCond .hsCb (s.oN Obj.hsCbFilt) &&
      !s.metCond .hsSense 8 && !s.metCond .hsPg (s.oN Obj.hsPgQual) then
    .next (hsTrip 3 4 s)
  else .next s

/-- HS_COOLDOWN_EXPIRY: the retry wait is over and the accumulator has fallen to half its limit (R298, R305). -/
def execHsCooldownExpiry (s : State) : Out :=
  if decide (hsNextSt s = HS.cooldown ∧ hsSt s = HS.cooldown) && s.dueTR .hsT && decide (2 * s.var .hsSoa ≤ s.o Obj.hsSoaLim * 1000) then
    .next (hsInrush s)
  else .next s

/-- An inrush decided in this frame does not start: a sense fault has qualified (R307). A request by hs.cmd waits on. -/
def hsHoldInrush (s : State) : State :=
  if s.varN .hsGoto = HS.inrush + 1 then
    let st := hsSt s
    (s.setVar .hsGoto 0).setFlag .hsAsk (decide (st = HS.off ∨ st = HS.latched) || (decide (st = HS.ready) && !s.oB Obj.hsAuto))
  else s

/-! ## Backplane window and sense (R306, R307) -/

/-- The record of a backplane level. -/
def planeData (cls : Nat) (level : Int) (s : State) : List Byte := u8 cls ++ u16 (s.o Obj.hsVin) ++ u16 level

/-- BACKPLANE_OV: at or above hs.vin_ov for vin_filt ticks (R306). -/
def execBackplaneOv (s : State) : Out :=
  if s.varB .hsActive && s.metCond .hsOv (s.oN Obj.hsVinFilt) && (!s.condOn 103 0 || decide (hsNextSt s ≠ HS.inputFault)) then
    let s := s.raise 103 0 (planeData 0 (s.o Obj.hsVinOv) s)
    .next (if hsNextSt s = HS.absent ∧ 2 ≤ s.varN .hsRem then s
      else ((hsDecide HS.inputFault s).setVar .hsFault 1).setO Obj.hsLastCause 5)
  else .next s

/-- BACKPLANE_UV: at or below hs.vin_uv for vin_filt ticks (R306). -/
def execBackplaneUv (s : State) : Out :=
  if s.varB .hsActive && s.metCond .hsUv (s.oN Obj.hsVinFilt) && (!s.condOn 103 2 || decide (hsNextSt s ≠ HS.inputFault)) then
    let s := s.raise 103 2 (planeData 2 (s.o Obj.hsVinUv) s)
    .next (if hsNextSt s = HS.absent ∧ 2 ≤ s.varN .hsRem then s
      else ((hsDecide HS.inputFault s).setVar .hsFault 2).setO Obj.hsLastCause 6)
  else .next s

/-- BACKPLANE_WARN: at or below hs.vin_warn for vin_filt ticks; the gate is not affected (R306). -/
def execBackplaneWarn (s : State) : Out :=
  if s.varB .hsActive && s.metCond .hsWarn (s.oN Obj.hsVinFilt) && !s.condOn 103 1 then
    .next (s.raise 103 1 (planeData 1 (s.o Obj.hsVinWarn) s))
  else .next s

/-- INPUT_FAULT_END: HS_VIN is back inside its level and hysteresis at a tick (R306; that hs.vin_filt does not filter the end is a DESIGN CHOICE,
log entry 116). -/
def execInputFaultEnd (s : State) : Out :=
  let v := s.pin .hsVin
  let h := s.o Obj.hsVinHys
  if decide (hsNextSt s = HS.inputFault ∧ hsSt s = HS.inputFault) &&
      (if s.var .hsFault = 1 then decide (v < (s.o Obj.hsVinOv - h) * 10) else decide ((s.o Obj.hsVinUv + h) * 10 < v)) then
    .next (hsDecide HS.debounce s)
  else .next s

/-- SHORTED_MOSFET: HS_SRC follows HS_VIN for 64 ticks with the gate discharged (R307). -/
def execShortedMosfet (s : State) : Out :=
  if s.metCond .hsFet 64 && !s.condOn 106 0 then
    .next ((s.raise 106 0 (fetData 0 s)).setBit Obj.hsFlags 6 true)
  else .next s

/-- SHUNT_SENSE_FAULT: the shunt or HS_ISN out of range for 8 ticks; a trip without a retry (R307), after an SOA trip of the same frame
(R304). -/
def execShuntSenseFault (s : State) : Out :=
  if s.metCond .hsSense 8 && !s.condOn 106 1 then
    let s := hsHoldInrush ((s.raise 106 1 (fetData 1 s)).setBit Obj.hsFlags 7 true)
    .next (if mayTrip s && !soaMet s then hsTrip 2 0xA s else s)
  else .next s

/-- hs.cmd (R308): its status and effect, by the state in force. -/
def hsCmd (v : Nat) (s : State) : Status × State :=
  let st := hsSt s
  if v = 1 then
    if st = HS.absent ∨ st = HS.debounce ∨ st = HS.inputFault ∨ !s.varB .hsActive then (.stateForbids, s)
    else if st = HS.latched then
      (.ok, hsAskOn (((s.setO Obj.hsRetriesUsed 0).setVar .hsSoa 0).setO Obj.hsSoaAcc 0))
    else if st = HS.ready ∨ st = HS.off then (.ok, hsAskOn s)
    else (.ok, s)
  else if v = 2 then
    if st = HS.inrush ∨ st = HS.on ∨ st = HS.ready ∨ st = HS.cooldown ∨ st = HS.latched then
      (.ok, (hsDecide HS.off s).setO Obj.hsLastCause (if hsRankNow s < 3 then 8 else s.o Obj.hsLastCause))
    else (.ok, s)
  else (.outOfRange, s)

/-- The checks of a write (R301, R306). -/
def hsConfigOk (s : State) : Bool :=
  let p := s.o Obj.hsIlim * s.o Obj.hsRshunt
  decide (5000000 ≤ p ∧ p ≤ 50000000) &&
  decide (s.o Obj.hsVinUv + s.o Obj.hsVinHys < s.o Obj.hsVinWarn ∧
    s.o Obj.hsVinWarn < s.o Obj.hsVinOv - s.o Obj.hsVinHys)

/-! ## VIN_MGT (R309 to R312) -/

/-- VWARN in mV. -/
def vwarnMv (s : State) : Int := s.o Obj.mgtVwarn * 10

/-- Does CRES pass the energy check of R438: at or above 4.2 V? -/
def cresEnough (s : State) : Bool := decide (420 ≤ s.pin .cres)

/-- HOLDUP_PREPARATION: the pack path is armed and a commit started if the energy check passes (R310). -/
def prepStart (s : State) : State :=
  if s.bit Obj.mgtPrep 0 then s
  else
    let s := s.setBit Obj.mgtPrep 0 true
    if cresEnough s then (commitAsk s).setBit Obj.mgtPrep 1 true else s.setBit Obj.mgtPrep 2 true

/-- Preparation ends: the pack path is disarmed (R310). -/
def prepEnd (s : State) : State := s.setO Obj.mgtPrep 0

/-- VIN_MGT at a tick (R309, R310, R312). -/
def mgtTick (s : State) : State :=
  let v := s.pin .vinMgt
  let s := s.setO Obj.mgtVin (max 0 (cV v))
  let s := (s.countCond .mgtWarn (decide (v < vwarnMv s))).countCond .mgtRec (decide (vwarnMv s + 200 ≤ v))
  let s := if s.varB .mgtRec then (if s.varB .mgtValidAt then s else s.setVar .mgtValidAt (s.now + 1 : Nat))
    else s.setVar .mgtValidAt 0
  let s := if s.oN Obj.mgtState = 1 ∧ cV v < s.o Obj.mgtVmin then s.setO Obj.mgtVmin (max 0 (cV v)) else s
  let s := if s.bit Obj.mgtPrep 2 && !s.bit Obj.mgtPrep 1 && cresEnough s then
      ((commitAsk s).setBit Obj.mgtPrep 1 true).setBit Obj.mgtPrep 2 false
    else s
  if s.oN Obj.mgtState = 0 then (s.condOff 105 0).condOff 105 1 else s

/-- Is the main input valid (R312)? -/
def mainInputValid (s : State) : Bool := s.varB .mgtRec

/-- VIN_MGT_WARNING: below VWARN for vwarn_filt ticks (R309). -/
def execVinMgtWarning (s : State) : Out :=
  if decide (s.oN Obj.mgtState = 0) && s.metCond .mgtWarn (s.oN Obj.mgtVwarnFilt) then
    let s := (s.setO Obj.mgtState 1).bump Obj.mgtDips
    let s := prepStart ((s.setO Obj.mgtVmin (s.o Obj.mgtVin)).setVar .mgtAt s.now)
    .next (s.raise 105 0 (u16 (s.o Obj.mgtVin) ++ u16 (s.o Obj.mgtVwarn) ++ u8 (s.o Obj.mgtPrep)))
  else .next s

/-- VIN_MGT_WARNING_END: at or above VWARN + 200 mV for rec_time ticks (R309). -/
def execVinMgtWarningEnd (s : State) : Out :=
  if decide (s.oN Obj.mgtState = 1) && s.metCond .mgtRec (s.oN Obj.mgtRecTime) then
    let s := s.record 0x0605 (u16 (s.o Obj.mgtVmin) ++ u32 (s.now - s.varN .mgtAt : Nat) ++ u8 (s.o Obj.mgtPrep))
    .next (((prepEnd s).setO Obj.mgtState 0).condOff 105 0)
  else .next s

/-- MAIN_INPUT_LOST: VIN_MGT falls below VRST, 4.2 V (R311). -/
def execMainInputLost (v : Nat) (s : State) : Out :=
  if decide (v < 4200) && decide (s.oN Obj.mgtState ≠ 2) && s.mgtOn then
    let warned := decide (s.oN Obj.mgtState = 1)
    let since : Nat := if warned then s.now - s.varN .mgtAt else 0
    let s := ((s.setO Obj.mgtState 2).bump Obj.mgtLosses).setVar .mgtLostAt s.now
    let s := prepStart ((s.setVar .mgtValidAt 0).setVar .mgtRec 0)
    .next (s.raiseLater 105 1 (u16 (cV v) ++ u32 since ++ u8 (State.ofBool warned)))
  else .next s

/-- MAIN_INPUT_VALID: at or above VWARN + 200 mV after a loss (R312). -/
def execMainInputValid (s : State) : Out :=
  if decide (s.oN Obj.mgtState = 2) && s.varB .mgtRec then
    let s := s.record 0x0607 (u32 (if s.varB .mgtEver then s.now - s.varN .mgtLostAt else s.now : Nat))
    let s := ((prepEnd s).setO Obj.mgtState 0).setFlag .mgtEver true
    .next (((s.condOff 105 0).condOff 105 1).post 44)
  else .next s

/-! ## The delta of hot swap (R313) -/

/-- The value of delta kind 0x08: state, retries, and the frame at entry. -/
def hsDelta (s : State) : Nat :=
  let stamp := (s.oN Obj.frameNumber + 2 ^ 32 - (s.now - s.varN .hsSince)) % 2 ^ 24
  hsSt s % 16 + 16 * (s.oN Obj.hsRetriesUsed % 16) + 256 * stamp

/-- A STANDBY takes the state and the origin of its timer, `since` in its own frames (R313). The counts of its own samples go on; a debounce
runs from the origin, its entry and the tick before it counted. -/
def hsAdopt (v since : Nat) (s : State) : State :=
  let st := v % 16
  let s := if hsSt s = st then hsTimers st s else hsGo st (if st = HS.on then hsOn since s else s)
  let s := s.setO Obj.hsRetriesUsed (v / 16 % 16 : Nat)
  let s := if st = HS.debounce then s.setVar .hsDeb (s.now - since + 2 : Nat) else s
  let rounds := (s.now - since + 999 - s.oN Obj.frameNumber % 1000) / 1000
  let s := if s.varB .hsT then s.addVar .hsT (-(rounds : Int)) else s
  let s := if s.varB .hsOnT then s.addVar .hsOnT (-(rounds : Int)) else s
  s.setVar .hsSince since

end Sys2Proof.Machine
end

