-- ==== Sys2Proof/Machine/Sequencer.lean ====
section
/-!
DEFINITION. Sequencing, Stalls, Paddocks and the Yard Line (spec/06_sequencing.md). A decision taken in frame k takes
effect at the tick that begins frame k + 1 (R190): a start, an off and a change of yard state are kept until `sequencerEffects`
carries them out.
-/

namespace Sys2Proof.Machine

/-- Codes of seq[r].state. -/
abbrev SS.off : Nat := 0
abbrev SS.released : Nat := 1
abbrev SS.waiting : Nat := 2
abbrev SS.rising : Nat := 3
abbrev SS.qualified : Nat := 4
abbrev SS.offDelay : Nat := 5
abbrev SS.waitPred : Nat := 6
abbrev SS.discharging : Nat := 7
abbrev SS.failed : Nat := 8
abbrev SS.blocked : Nat := 9
abbrev SS.notSequenced : Nat := 10

/-- The yard state in force. -/
def yardAt (s : State) : Nat := s.oN Obj.sequencerYardState

/-- The yard state decided in this frame, or the one in force: it is entered at the next tick (R190). -/
def yardTo (s : State) : Nat := if s.varB .yardGo then s.varN .yardGo - 1 else yardAt s

/-- A change of yard state is decided (R190). -/
def goYard (k : Nat) (s : State) : State := (s.setVar .yardGo (k + 1 : Nat)).setVar .yardPulse 0

/-- The seq state of a rail. -/
def seqSt (s : State) (r : Nat) : Nat := s.oN (Obj.seqState r)

/-- Set a rail's seq state, and its bits in seq.rails_up and seq.rails_failed; the frame of its entry is kept for the twin (R266). -/
def setSeq (r v : Nat) (s : State) : State :=
  let s := if seqSt s r = v then s else s.setVar .seqSince s.now r
  let s := s.setO (Obj.seqState r) v
  (s.setBit Obj.sequencerRailsUp r (decide (v = SS.qualified))).setBit Obj.sequencerRailsFailed r
    (decide (v = SS.failed ∨ v = SS.blocked))

/-- Is a rail sequenced? -/
def sequenced (s : State) (r : Nat) : Bool := railExists s r && decide (s.oN (Obj.seqStall r) < 16)

/-- The stall of a rail, its yard states and paddock. -/
def upOf (s : State) (r : Nat) : Nat := s.oN (Obj.stallYardUp (s.oN (Obj.seqStall r)))
def downOf (s : State) (r : Nat) : Nat := s.oN (Obj.stallYardDown (s.oN (Obj.seqStall r)))
def paddockOf (s : State) (r : Nat) : Nat := s.oN (Obj.stallPaddock (s.oN (Obj.seqStall r)))

/-- All rails in rising order. -/
def allRails : List Nat := List.range 52

/-- The sequenced rails. -/
def seqRails (s : State) : List Nat := allRails.filter (sequenced s)

/-- The parents of a rail. -/
def parentsOf (s : State) (r : Nat) : List Nat :=
  ([0, 1, 2, 3].map fun i => s.oN (Obj.seqParent r i)).filter fun q => decide (q < 52)

/-- Is every parent qualified? -/
def parentsUp (s : State) (r : Nat) : Bool := (parentsOf s r).all fun q => seqSt s q == SS.qualified

/-- Ancestors of a rail through parent links, in `n` rounds. -/
def ancestors (s : State) (n : Nat) (l : List Nat) : List Nat :=
  match n with
  | 0 => l
  | n + 1 => ancestors s n ((l ++ l.flatMap (parentsOf s)).eraseDups)

/-- Is `q` an ancestor of `r`? -/
def isAncestor (s : State) (q r : Nat) : Bool := (ancestors s 52 (parentsOf s r)).contains q

/-- Does `q` precede `r` in shutdown order: (yard_down, off_delay) compared in that order? -/
def precedes (s : State) (q r : Nat) : Bool :=
  let a := downOf s q
  let b := downOf s r
  decide (a < b ∨ (a = b ∧ s.oN (Obj.seqOffDelay q) < s.oN (Obj.seqOffDelay r)))

/-- Does every parent that a rail's entry names exist on the part (R2)? -/
def seqParentsExist (s : State) (r : Nat) : Bool := (parentsOf s r).all (railExists s)

/-- The conditions of R191, with the ranges of the entries: parents exist on the part, and yard.members includes yard.addr. -/
def tableOk (s : State) : Bool :=
  (allRails.filter (railExists s)).all (seqParentsExist s) && (s.oN Obj.yardMembers).testBit (s.oN Obj.yardAddr) &&
  (seqRails s).all fun r =>
    !isAncestor s r r &&
    (parentsOf s r).all fun q =>
      q != r && sequenced s q && decide (upOf s q ≤ upOf s r) && precedes s r q

/-- seq.table_ok and stall[s].rails, whenever a sequence object applies. -/
def showTable (s : State) : State :=
  let s := s.setOB Obj.sequencerTableOk (tableOk s)
  let s := s.forRange 16 fun k s =>
    let n := (seqRails s).foldl (fun a r => if s.oN (Obj.seqStall r) = k then State.putBit a r true else a) 0
    s.setO (Obj.stallRails k) n
  s.forEach allRails fun r s =>
    if sequenced s r then (if seqSt s r = SS.notSequenced then setSeq r SS.off s else s) else setSeq r SS.notSequenced s

/-! ## Switched rails (R199, R203 to R206) -/

/-- Assert or release EN_SCc. -/
def scEnable (c : Nat) (on : Bool) (s : State) : State :=
  let s := (s.setFlag .scEn on c).setBit (Obj.scFlags c) 1 on
  if on then (s.setFlag .scOv true c).setVar .scState RS.regulating c else s

/-- A switched rail at a tick: its sample and flags (R203 to R205). -/
def scTick (c : Nat) (s : State) : State :=
  let r := 20 + c
  let v := divNearest (2 * s.pin .scRaw c * s.o (Obj.scScale c)) 1000
  let s := (s.setVar .vMean v r).addVar .vSum v r
  let s := if s.var .vCnt r = 0 ∨ v < s.var .vMin r then s.setVar .vMin v r else s
  let s := if s.var .vCnt r = 0 ∨ s.var .vMax r < v then s.setVar .vMax v r else s
  let s := windowTick r (s.addVar .vCnt 1 r)
  let pg := s.pinB .scPgIn c
  let ovw := decide (winThreshold s r 1 ≤ v)
  let uvw := decide (v ≤ winThreshold s r 2)
  let good := s.varB .scEn c && !ovw && !uvw && (!s.oB (Obj.scPginEn c) || pg)
  let s := (s.setBit (Obj.scFlags c) 0 good).setBit (Obj.scFlags c) 2 pg
  let s := (s.setBit (Obj.scFlags c) 3 ovw).setBit (Obj.scFlags c) 4 uvw
  let s := if !s.varB .scEn c && decide (v < s.o (Obj.seqOffThr r)) then s.setFlag .scOv false c else s
  let low := s.oB (Obj.scPginEn c) && !pg && decide (seqSt s r = SS.qualified)
  if low then s.countCond .scPg true c else (s.setVar .scPg 0 c).condOff (68 + c) 0x16

/-- A switched rail at a round boundary. -/
def scRound (c : Nat) (s : State) : State :=
  let r := 20 + c
  let s := (s.setO (Obj.scVout c) (roundMean s .vSum r)).setO (Obj.scVoutMin c) (s.var .vMin r)
  clearSums r (s.setO (Obj.scVoutMax c) (s.var .vMax r))

/-- PG_SC_LOST: PG_SCc low for pgin_filt ticks while qualified (R205). -/
def execPgScLost (ch : Nat) (s : State) : Out :=
  if decide (ch < 32) && s.oB (Obj.scPginEn ch) && decide (seqSt s (20 + ch) = SS.qualified) &&
      s.metCond .scPg (s.oN (Obj.scPginFilt ch)) ch then
    .next (s.raise (68 + ch) 0x16 (u8 (20 + ch) ++ u16 (mvOf (s.var .vMean (20 + ch)))))
  else .next s

/-! ## Taking rails off -/

/-- A rail of any kind goes off at once, in a state (R123 with off_mode 0x01, R199); a start command not yet in effect is void. A failed
rail stays failed until its next start command (R142), and what a failed test calls for still follows (R97). -/
def killRail (r st : Nat) (s : State) : State :=
  let st := if st = RS.off ∧ railState s r = RS.failed then RS.failed else st
  let s := ((s.stopT .riseT r).setVar .pgCnt 0 r).setVar .startDue 0 r
  if r < 20 then railDown r st ((s.stopT .waitT r).stopT .hicT r)
  else (scEnable (r - 20) false s).setVar .scState st (r - 20) |>.stopT .hicT r

/-- MAIN is gone: its rails are off; AB6 and AB7 move with MGT (R17, R18). -/
def mainRailsOff (s : State) : State :=
  s.forEach allRails fun r s => if railExists s r && decide (r ≠ 18 ∧ r ≠ 19) then killRail r RS.off s else s

/-- A rail is to go off at the next tick (R190): 1 by its off_mode, 2 at once, 3 at once as failed. -/
def offNext (r how : Nat) (s : State) : State := (s.setVar .offDue how r).setVar .startDue 0 r

/-- Is a rail on, or on its way up? -/
def seqOn (st : Nat) : Bool := decide (st = SS.rising ∨ st = SS.qualified ∨ st = SS.offDelay ∨ st = SS.waitPred)

/-- A rail's discharge is measured, from the tick `later` frames on, at which its off takes effect (R197); a wait that expires then is a new
one (R198). -/
def measure (r later : Nat) (s : State) : State :=
  let s := ((s.setFlag .dis false r).setFlag .disOn true r).setFlag .disPast false r
  (s.condOff (railSrc r) 0x12).startT .disT (s.oN (Obj.seqDisWait r) + later) r

/-- A sequenced rail that a failure takes off is measured like any other (R197, R203). -/
def measureFailed (r later : Nat) (s : State) : State := if sequenced s r then measure r later s else s

/-- A rail is marked to be turned off for a reason; it does not yet count as discharged. -/
def markOff (r kind : Nat) (s : State) : State :=
  (((s.setVar .offKind kind r).setFlag .offGot false r).setFlag .dis false r).setFlag .disOn false r

/-- Cancel a rail that has been released and not started. -/
def cancelRail (r : Nat) (s : State) : State :=
  if seqSt s r = SS.released ∨ seqSt s r = SS.waiting then setSeq r SS.off (s.stopT .onT r)
  else (s.stopT .onT r).setFlag .relSeen false r

/-- Turn off and block the dependants of a rail (R195, R200); class 0x14 on each that enters blocked. `other` names the
rails that take no part. -/
def blockDependants (q cls : Nat) (only : Nat → Bool) (s : State) : State :=
  let deps := (seqRails s).filter fun d =>
    isAncestor s q d && only d && decide (seqSt s d ≠ SS.failed ∧ seqSt s d ≠ SS.blocked)
  let n := (deps.filter fun d => seqOn (seqSt s d)).length
  s.forEach deps fun d s =>
    let s := if seqOn (seqSt s d) then markOff d 2 s else s.stopT .onT d
    let s := ((setSeq d SS.blocked s).setVar .blockedAt s.now d).setVar .offT 0 d
    s.raiseActionLater (railSrc d) 0x14 (u8 d ++ u8 q ++ u8 cls ++ u8 n)

/-- CHATTER_REPORT: class 0x13 once, when the rail qualifies or fails (R196). -/
def chatterReport (r : Nat) (ok : Bool) (s : State) : State :=
  if s.oB (Obj.seqChatter r) then
    s.raiseActionLater (railSrc r) 0x13 (u8 r ++ u16 (s.o (Obj.seqChatter r)) ++
      u32 ((s.now + 1 : Int) - s.var .startTick r) ++ u8 (State.ofBool ok))
  else s

/-- A rail has failed to come up (R195): off with off_mode 0x01, failed, its dependants blocked. `cls` is none after a failed test, whose
own class stands; a start that was refused has qualified nothing, so no chatter is reported (R196). -/
def failedToComeUp (r : Nat) (cls : Option Nat) (data : List Byte) (s : State) : State :=
  let s := measureFailed r 1 (offNext r 3 s)
  let s := (setSeq r SS.failed s).bump (Obj.seqFails r)
  let s := if cls = some 0x11 then s else chatterReport r false s
  let s := match cls with | some c => s.raiseActionLater (railSrc r) c data | none => s
  blockDependants r (cls.getD 2) (fun _ => true) s

/-- A fault reaction takes a rail off at this tick and leaves it failed; an off command that it waited for is void (R142, R607). -/
def reactRailOff (r src : Nat) (s : State) : State :=
  let s := measureFailed r 0 (killRail r RS.failed s)
  if sequenced s r then ((setSeq r SS.failed s).setVar .failSrc (src + 1 : Nat) r).setVar .offKind 0 r else s

/-- A hiccup reaction (R143, R206): off at once, to restart after the wait; a channel is measured, which ends its OV windows (R203). -/
def reactHiccup (r cls : Nat) (s : State) : State :=
  let s := ((s.stopT .riseT r).setVar .pgCnt 0 r).setVar .startDue 0 r
  let s := (s.setFlag .pgSeen false r).setFlag .pgPrev false r
  let s := if r < 20 then hiccupRail r cls s else measureFailed r 0 (hiccupRail r cls (scEnable (r - 20) false s))
  if seqSt s r = SS.qualified then setSeq r SS.rising s else s

/-! ## Paddocks (R207 to R209) -/

/-- The record of a change of PDIS_N. -/
def pdisRecord (p change cause r : Nat) (s : State) : State :=
  s.record 0x030E (u8 p ++ u8 change ++ u8 cause ++ u8 r)

/-- Assert PDIS_N of a paddock; `src` is the source that must be cleared first (R208). A further cause starts pdis_min again and is the one
shown (DESIGN CHOICE, log entry 116). -/
def pdisAssert (p cause r : Nat) (src : Option Nat) (s : State) : State :=
  let s := match src with | some x => s.setFlag .pdisSrc true p x | none => s
  let s := ((s.startT .pdisT (s.oN (Obj.padPdisMin p)) p).setO (Obj.padCause p) cause).setVar .padSince s.now p
  if s.oN (Obj.padState p) = 1 then s
  else pdisRecord p 0 cause r ((s.setO (Obj.padState p) 1).bump (Obj.padAsserts p))

/-- May PDIS_N be released: the minimum has passed and every source that caused it is cleared (R208)? -/
def pdisFree (s : State) (p : Nat) : Bool :=
  s.dueT .pdisT p && (List.range 256).all fun x => !s.varB .pdisSrc p x || decide (s.o (Obj.srcUncleared x) = 0)

/-- PDIS_N_RELEASE. -/
def pdisRelease (p : Nat) (s : State) : State :=
  let c := s.oN (Obj.padCause p)
  let s := (s.setO (Obj.padState p) 0).setO (Obj.padCause p) 0
  pdisRecord p 1 c 0xFF ((s.stopT .pdisT p).forRange 256 fun x s => s.setVar .pdisSrc 0 p x)

/-- Is PDIS_N of a rail's paddock asserted? -/
def pdisHeld (s : State) (r : Nat) : Bool := decide (s.oN (Obj.padState (paddockOf s r)) = 1)

/-- Paddock off (R207): every rail of it off at once and blocked, the dependants outside it under R200. `cls` is the class
that caused it, 0xFF for a command. -/
def paddockOff (p cause cls : Nat) (src : Option Nat) (trigger : Nat) (s : State) : State :=
  let s := pdisAssert p cause trigger src s
  let inside := (seqRails s).filter fun r => paddockOf s r = p
  let outside := fun d => !inside.contains d
  let s := s.forEach inside fun r s => blockDependants r cls outside s
  s.forEach inside fun r s =>
    let on := seqOn (seqSt s r)
    let s := killRail r RS.off (s.setVar .offKind 0 r)
    let s := if on then (measure r 0 s).setVar .offTick s.now r else s
    (setSeq r SS.blocked (s.stopT .onT r)).setVar .blockedAt s.now r

/-- pad[p].cmd (R207 to R209): its status and effect; the paddock goes off at the next tick (R190). -/
def padCmd (p v : Nat) (s : State) : Status × State :=
  if v = 1 then (.ok, { s with due := s.due ++ [Due.paddockCmd p] })
  else if v = 2 then
    if s.oN (Obj.padState p) ≠ 1 then (.ok, s)
    else if pdisFree s p then (.ok, pdisRelease p s)
    else (.stateForbids, s)
  else (.outOfRange, s)

/-! ## Starting a rail (R192 to R196, R201, R202) -/

/-- Is the source whose event left a rail failed still uncleared (R607)? -/
def failUncleared (s : State) (r : Nat) : Bool :=
  s.varB .failSrc r && decide (s.o (Obj.srcUncleared (s.varN .failSrc r - 1)) ≠ 0)

/-- Why a start is refused, by the codes of record 0x0305. -/
def startRefusal (s : State) (r : Nat) : Option Nat :=
  if failUncleared s r then some 4
  else if s.oB Obj.testBscan then some 3
  else if pdisHeld s r then some 2
  else if r < 12 ∧ (listOf s r).isEmpty then some 0
  else if r < 12 ∧ !shedValid s r then some 1
  else none

/-- The start command of a rail of any kind (R193): it takes effect at the next tick (R190). -/
def startRail (r : Nat) (s : State) : State :=
  let s := ((s.stopT .onT r).setVar .startTick (s.now + 2 : Nat) r).setVar .failSrc 0 r
  let s := ((s.setVar .pgCnt 0 r).setFlag .pgSeen false r).setO (Obj.seqChatter r) 0
  let s := ((s.setFlag .dis false r).setFlag .disOn false r).setVar .offKind 0 r
  let s := s.condOff (railSrc r) 0x12
  (((setSeq r SS.rising s).setFlag .relSeen false r).setFlag .startDue true r).setVar .offDue 0 r

/-- A start command takes effect (R190, R193): the test of a rail that makes its own voltage, after a soft stop that still runs (R123);
EN_SCc and the rise timer of a supervised channel. -/
def startEffect (r : Nat) (s : State) : State :=
  if r < 20 then
    if railState s r = RS.softStop then s.setFlag .startHeld true r
    else beginRail r (s.oN (Obj.seqDisWait r)) s
  else (scEnable (r - 20) true s).startT .riseT (s.oN (Obj.seqRiseMax r)) r

/-- An off takes effect (R190, R199). -/
def offEffect (r how : Nat) (s : State) : State :=
  if how = 3 then killRail r RS.failed s
  else if how = 1 ∧ r < 20 then offByMode r (s.stopT .riseT r)
  else killRail r RS.off s

/-- A start command that waited for the end of a soft stop is carried out once the rail is off (R123). -/
def heldStart (r : Nat) (s : State) : State :=
  if s.varB .startHeld r && decide (railState s r = RS.off) then
    beginRail r (s.oN (Obj.seqDisWait r)) (s.setFlag .startHeld false r)
  else s

/-- ON_DELAY_EXPIRY: a released rail's on-delay expires (R192). -/
def execOnDelayExpiry (r : Nat) (s : State) : Out :=
  if deciding s && sequenced s r && decide (seqSt s r = SS.released) && s.dueT .onT r then
    .next (setSeq r SS.waiting (s.stopT .onT r))
  else .next s

/-- Is the start command of a rail due (R192)? A rail left failed under R607 keeps its state until then. -/
def startDue (s : State) (r : Nat) : Bool :=
  sequenced s r && parentsUp s r &&
  (decide (seqSt s r = SS.waiting) ||
    (s.dueT .onT r && (decide (seqSt s r = SS.released) || (decide (seqSt s r = SS.failed) && s.varB .relSeen r))))

/-- START_COMMAND: the start, or its refusal (R192, R193, R195, R209, R607). -/
def execStartCommand (r : Nat) (s : State) : Out :=
  if deciding s && startDue s r then
    match startRefusal s r with
    | some reason =>
      .next (failedToComeUp r (some 0x11) (u8 r ++ u8 reason) ((s.stopT .onT r).setFlag .relSeen false r))
    | none => .next (startRail r s)
  else .next s

/-- The power-good flag a rail qualifies on (R194). -/
def pgFlag (s : State) (r : Nat) : Bool :=
  if r < 12 then s.bit (Obj.railFlags r) 0 else if r < 20 then s.bit (Obj.abFlags (r - 12)) 0
  else s.bit (Obj.scFlags (r - 20)) 0

/-- A rising rail at a tick: qualification and chatter (R194). -/
def qualifyTick (r : Nat) (s : State) : State :=
  if seqSt s r = SS.rising then
    let g := pgFlag s r
    let s := if s.varB .pgSeen r && g != s.varB .pgPrev r then s.bump (Obj.seqChatter r) 16 else s
    let s := if g then s.setFlag .pgSeen true r else s
    (s.setFlag .pgPrev g r).countCond .pgCnt g r
  else s

/-- Has a rising rail met its qualification? -/
def qualifyMet (s : State) (r : Nat) : Bool := s.metCond .pgCnt (s.oN (Obj.seqPgQual r)) r

/-- RAIL_QUALIFIED: power good at pg_qual consecutive ticks (R194, R196). -/
def execRailQualified (r : Nat) (s : State) : Out :=
  if deciding s && sequenced s r && decide (seqSt s r = SS.rising) && qualifyMet s r then
    let s := setSeq r SS.qualified (s.stopT .riseT r)
    let s := s.setO (Obj.seqTRise r) ((s.now + 1 : Int) - s.var .startTick r)
    let s := s.forEach (seqRails s) fun d s => if (parentsOf s d).contains r then s.setVar .lastPar r d else s
    .next (chatterReport r true s)
  else .next s

/-- RISE_TIMER_EXPIRY: the rise timer expires without qualification (R195). -/
def execRiseTimerExpiry (r : Nat) (s : State) : Out :=
  if deciding s && sequenced s r && decide (seqSt s r = SS.rising) && s.dueT .riseT r && !qualifyMet s r then
    .next (failedToComeUp r (some 0x10)
      (u8 r ++ u16 (s.o (Obj.seqChatter r)) ++ u32 ((s.now + 1 : Int) - s.var .startTick r)) s)
  else .next s

/-- DEPENDANT_RESTART: a blocked rail with dep_restart restarts once its parents are qualified, though its off command may still wait
(R201). The last parent to qualify that its record names is 0 where none has since reset (DESIGN CHOICE, log entry 114). -/
def execDependantRestart (r : Nat) (s : State) : Out :=
  let y := yardAt s
  if deciding s && sequenced s r && decide (seqSt s r = SS.blocked) && s.oB (Obj.seqDepRestart r) && parentsUp s r &&
      decide (s.varN .blockedAt r < s.now) && !pdisHeld s r && decide (upOf s r ≤ y ∧ y ≤ 32) then
    let s := s.raiseActionLater (railSrc r) 0x15 (u8 r ++ u8 (s.var .lastPar r))
    .next (match startRefusal s r with
      | some reason => failedToComeUp r (some 0x11) (u8 r ++ u8 reason) s
      | none => startRail r s)
  else .next s

/-- HICCUP_WAIT_EXPIRY: the wait expires and the rail restarts through the test and a soft start (R143, R202, R206). A rail that is to go
off, as one released for power-down, does not restart (R197), and none does on a device that takes no decisions (R218, R285). -/
def execHiccupWaitExpiry (r : Nat) (s : State) : Out :=
  if deciding s && railExists s r && decide (railState s r = RS.hiccup) && s.dueTR .hicT r && !s.varB .offKind r then
    let wait := if r < 12 then s.o (Obj.railHiccupWait r)
      else if r < 20 then s.o (Obj.abHiccupWait (r - 12)) else s.o (Obj.scHiccupWait (r - 20))
    let s := s.raiseActionLater (railSrc r) 0xA (u8 r ++ u8 (s.var .hicNum r) ++ u16 wait ++ u8 (s.var .hicCls r))
    let s := s.stopT .hicT r
    .next (match startRefusal s r with
      | some reason => failedToComeUp r (some 0x11) (u8 r ++ u8 reason) s
      | none => startRail r s)
  else .next s

/-- BUCK_INPUT_UNDERVOLTAGE: below 4.20 V the buck stops and is failed; its dependants go off (R146, R200). The next power-up starts it
afresh (R607). A buck in shadow holds its switches off and has nothing to stop (R218, R261). -/
def execBuckInputUndervoltage (b v : Nat) (s : State) : Out :=
  let r := 12 + b
  let on := judged (railState s r) && holder s
  if decide (b < 8) && (on || !s.varB .abLow b) && decide (v < 4200) then
    let s := (s.setVar .abLow 1 b).setBit (Obj.abFlags b) 5 true
    if on then
      let s := s.raiseLater (60 + b) 7 (u8 r ++ u16 v)
      let s := measureFailed r 0 (killRail r RS.failed s)
      .next (blockDependants r 7 (fun _ => true) (if sequenced s r then setSeq r SS.failed s else s))
    else .next s
  else .next s

/-- R97 at the tick after a failed shorted high-side test, as the sequencer sees it. -/
def shtFailTick (r : Nat) (s : State) : State :=
  if s.varB .shtFailed r && decide (s.varN .shtFailed r ≤ s.now) then
    let src := if s.varB .shtCharged r then s.varN .shtCharged r - 1 else railSrc r
    let s := shtFailApply r s
    let s := if sequenced s r then pdisAssert (paddockOf s r) 1 r (some src) s else s
    ((failedToComeUp r none [] s).setVar .offDue 0 r).setVar .failSrc (src + 1 : Nat) r
  else s

/-! ## Taking rails down in order (R197 to R200, R211, R217) -/

/-- OFF_DELAY_EXPIRY: a rail's off-delay expires (R197). -/
def execOffDelayExpiry (r : Nat) (s : State) : Out :=
  if deciding s && sequenced s r && decide (seqSt s r = SS.offDelay) && s.dueT .offT r then
    .next (setSeq r SS.waitPred (s.stopT .offT r))
  else .next s

/-- Is a rail on its way down: it waits for its off command, or is measured after it? -/
def goingDown (s : State) (q : Nat) : Bool :=
  (s.varB .offKind q || s.varB .disOn q || decide (seqSt s q = SS.discharging)) && !s.varB .dis q

/-- Are the rails that must go first discharged? In a power-down every rail that precedes in shutdown order; among dependants and in an
abort every one of them that is on its way down; in a reversal every rail that started after (R197, R200, R211, R217). -/
def predsDown (s : State) (r : Nat) : Bool :=
  let k := s.varN .offKind r
  (seqRails s).all fun q =>
    if q = r then true
    else if k = 1 then !precedes s q r || s.varB .dis q
    else if k = 4 then !decide (s.varN .startTick r < s.varN .startTick q) || s.varB .dis q
    else !(precedes s q r && goingDown s q)

/-- The dependants that may go at once do so at the tick of the reaction or the paddock off that turns them off (R200, R233). -/
def dependantsNow (s : State) : State :=
  s.forEach (seqRails s) fun r s =>
    if s.varN .offKind r = 2 && !s.varB .offGot r && predsDown s r then
      let s := killRail r RS.off ((s.setFlag .offGot true r).setVar .offTick s.now r)
      measure r 0 s
    else s

/-- A rail receives its off command, which takes effect at the next tick (R190, R199). A blocked rail that is measured from its release
already stays so (R197). -/
def commandOff (r : Nat) (hard : Bool) (s : State) : State :=
  let released := decide (s.varN .offKind r = 2) && s.varB .disOn r
  let s := offNext r (if hard then 2 else 1) s
  let s := if released then s else measure r 1 s
  (((s.setFlag .offGot true r).setVar .offTick (s.now + 1 : Nat) r).stopT .offT r).stopT .hicT r

/-- Does the off of a rail have no soft stop to make: it is in state wait or test (R199)? -/
def offHard (s : State) (r : Nat) : Bool := decide (20 ≤ r ∨ railState s r = RS.wait ∨ railState s r = RS.test)

/-- RAIL_OFF_COMMAND: a rail receives its off command (R197, R199, R200, R211, R217), which takes effect at the next tick (R190). -/
def execRailOffCommand (r : Nat) (s : State) : Out :=
  let k := s.varN .offKind r
  if deciding s && sequenced s r && decide (k ≠ 0) && !s.varB .offGot r && predsDown s r &&
      (decide (k ≠ 1) || decide (seqSt s r = SS.waitPred) ||
        (decide (seqSt s r = SS.offDelay) && s.dueT .offT r)) then
    let s := commandOff r (decide (k = 2 ∨ k = 3) || offHard s r) s
    .next (if k = 2 then s else setSeq r SS.discharging s)
  else .next s

/-- A rail is off and discharged: its seq state returns to off, which a STANDBY takes from the holder alone (R197, R218). -/
def dischargedNow (r : Nat) (s : State) : State :=
  let s := (s.setFlag .dis true r).stopT .disT r
  let s := if 20 ≤ r ∧ !s.varB .scEn (r - 20) then s.setFlag .scOv false (r - 20) else s
  let s := if s.varB .offGot r then s.setO (Obj.seqTDis r) ((s.now : Int) - s.var .offTick r) else s
  let s := (s.setVar .offKind 0 r).setFlag .offGot false r
  if seqSt s r = SS.discharging ∧ holder s then setSeq r SS.off s else s

/-- RAIL_DISCHARGED: a rail reads below off_thr (R197). -/
def execRailDischarged (r : Nat) (s : State) : Out :=
  if sequenced s r && s.varB .disOn r && decide (s.var .vMean r < s.o (Obj.seqOffThr r)) then
    .next (dischargedNow r ((s.setFlag .disOn false r).condOff (railSrc r) 0x12))
  else .next s

/-- Does a rail go off after another: in a reversal the one that started earlier, else the one later in shutdown order? -/
def goesAfter (s : State) (r q : Nat) : Bool :=
  if s.oN Obj.sequencerState = 4 then decide (s.varN .startTick q < s.varN .startTick r) else precedes s r q

/-- The rail that a stuck one lets go next, for the record: the first of those that go after it, which in a power-down or a reversal may not
be released yet; 0xFF where none does. -/
def nextOff (s : State) (r : Nat) : Nat :=
  let down := decide (s.oN Obj.sequencerState = 3 ∨ s.oN Obj.sequencerState = 4)
  let l := (seqRails s).filter fun q =>
    q ≠ r && !s.varB .offGot q && (s.varB .offKind q || (down && seqOn (seqSt s q))) && goesAfter s r q
  (l.find? fun q => l.all fun p => !goesAfter s p q).getD 0xFF

/-- DISCHARGE_WAIT_EXPIRY: class 0x12; the rails that follow proceed as though it were discharged (R198). -/
def execDischargeWaitExpiry (r : Nat) (s : State) : Out :=
  if deciding s && sequenced s r && s.varB .disOn r && !s.varB .dis r && s.dueT .disT r &&
      decide (s.o (Obj.seqOffThr r) ≤ s.var .vMean r) then
    let s := s.raiseLater (railSrc r) 0x12
      (u8 r ++ u16 (mvOf (s.var .vMean r)) ++ u16 (mvOf (s.o (Obj.seqOffThr r))) ++ u8 (nextOff s r))
    let s := ((s.setFlag .dis true r).setFlag .disPast true r).stopT .disT r
    .next (if 20 ≤ r then s.setFlag .scOv false (r - 20) else s)
  else .next s

/-! ## The yard: whole states -/

/-- Does the device step alone (R213)? -/
def yardAlone (s : State) : Bool := decide (s.oN Obj.yardMembers = 2 ^ s.oN Obj.yardAddr)

/-- The rank of this device among the members (R215). -/
def yardRank (s : State) : Nat :=
  ((List.range (s.oN Obj.yardAddr)).filter fun a => (s.oN Obj.yardMembers).testBit a).length

/-- The leader: the lowest bit set in yard.members. -/
def yardLowest (s : State) : Nat := ((List.range 8).find? fun a => (s.oN Obj.yardMembers).testBit a).getD 0

/-- Is the device ready in its yard state (R212)? -/
def yardReady (s : State) : Bool :=
  let k := yardAt s
  let rails := seqRails s
  if k ≤ 31 then
    rails.all fun r => !decide (upOf s r ≤ k) ||
      decide (seqSt s r = SS.qualified ∨ seqSt s r = SS.failed ∨ seqSt s r = SS.blocked)
  else if k = 32 then true
  else if s.oN Obj.sequencerState = 4 then rails.all fun r => !decide (upOf s r = 64 - k) || s.varB .dis r
  else rails.all fun r => !decide (downOf s r ≤ k) || s.varB .dis r

/-- POWER_UP_RESET at the entry into state 1 (R607): a rail held failed stays so, a paddock off since notwithstanding. A failed rail or
buck state lasts until the start command (R142). -/
def powerUpReset (s : State) : State :=
  s.forEach (seqRails s) fun r s =>
    if seqSt s r = SS.failed ∨ seqSt s r = SS.blocked then
      if failUncleared s r then setSeq r SS.failed s
      else setSeq r SS.off (s.setVar .failSrc 0 r)
    else s

/-- STALL_RELEASE (R192, R208): PDIS_N is released where its condition holds, and the rails of the stalls of this yard
state are released; a qualified rail stays on. -/
def stallRelease (k : Nat) (s : State) : State :=
  let stalls := (List.range 16).filter fun x => s.oN (Obj.stallYardUp x) = k
  let s := s.forEach stalls fun x s =>
    let p := s.oN (Obj.stallPaddock x)
    if s.oN (Obj.padState p) = 1 && pdisFree s p then pdisRelease p s else s
  s.forEach (seqRails s) fun r s =>
    if upOf s r ≠ k ∨ seqSt s r = SS.qualified then s
    else
      let s := s.startT .onT (s.oN (Obj.seqOnDelay r)) r
      if seqSt s r = SS.failed then s.setFlag .relSeen true r
      else if seqSt s r = SS.blocked then s.stopT .onT r
      else setSeq r SS.released s

/-- A rail that is not on when it is released for its shutdown is measured from that release: one never commanded on, failed or blocked
(R197). One that discharges already keeps its wait. -/
def measureReleased (r : Nat) (s : State) : State :=
  if seqSt s r = SS.discharging then s else measure r 0 (cancelRail r s)

/-- POWER_DOWN_RELEASE (R197): the rails of the stalls of this yard state. -/
def downRelease (k : Nat) (s : State) : State :=
  s.forEach (seqRails s) fun r s =>
    if downOf s r ≠ k then s
    else if seqOn (seqSt s r) then
      (setSeq r SS.offDelay (markOff r 1 s)).startT .offT (s.oN (Obj.seqOffDelay r)) r
    else measureReleased r s

/-- The rails that a reversal state turns off; one that is not on is measured from this release (R197, R211). -/
def reverseRelease (k : Nat) (s : State) : State :=
  s.forEach (seqRails s) fun r s =>
    if upOf s r ≠ 64 - k then s
    else if seqOn (seqSt s r) then setSeq r SS.waitPred (markOff r 4 s)
    else measureReleased r s

/-- What entering a yard state resets: its dwell, its hold, its readiness limit (R212, R213). -/
def enterCommon (k : Nat) (s : State) : State :=
  let s := (s.setO Obj.sequencerYardState k).setO Obj.yardHoldMax (s.var .holdMax)
  let s := (((s.setVar .yardGo 0).setVar .holdMax 0).setVar .yardPulse 0).setVar .yardReq 0
  let s := (s.setVar .yardHigh 0).setVar .yardSince s.now
  let d := s.oN (Obj.yardDwell k)
  if (1 ≤ k ∧ k ≤ 31) ∨ (33 ≤ k ∧ k ≤ 63) then (s.startT .dwellT d).startT .readyT (d + 1000)
  else (s.stopT .dwellT).stopT .readyT

/-- Enter a power-up state. -/
def enterUp (k : Nat) (s : State) : State :=
  let s := enterCommon k s
  let s := if k = 1 then
      let s := (s.setO Obj.sequencerState 1).setVar .upAt s.now
      let s := s.setBit Obj.sequencerPending 0 false
      powerUpReset (s.record 0x0300 (u8 (s.var .upCause) ++ u8 (s.o Obj.yardAddr)))
    else s
  stallRelease k s

/-- A request is raised in state 0 or 32 (R210, R215, R216): a device alone decides the next state, the leader advances the line once it is
high, and any other member holds it low for 20 µs. -/
def raiseRequest (cause : Nat) (s : State) : State :=
  if yardAlone s then goYard (yardAt s + 1) s
  else if yardRank s = 0 then s.setVar .yardReq (cause + 1 : Nat)
  else (s.setVar .yardHold 5).startT .yardHoldT 20

/-- State 0 is reached (R210, R217): normal, by reversal (1) or by abort (2); an abort that began in state 0 reports nothing. A latched on
request starts a fresh power-up; in HOLDUP that waits for RUN (R26). -/
def enterZero (s : State) : State :=
  let st := s.oN Obj.sequencerState
  let how : Nat := if st = 4 then 1 else if st = 5 then 2 else 0
  let silent := decide (st = 5 ∧ s.varN .abortFrom = 0)
  let s := (enterCommon 0 s).setO Obj.sequencerState 0
  let past : Nat := ((seqRails s).filter fun r => s.varB .disPast r).length
  let s := if silent then s
    else
      let s := s.setO Obj.sequencerTDown ((s.now : Int) - s.var .downAt)
      (s.record 0x0303 (u32 (s.o Obj.sequencerTDown) ++ u8 past ++ u8 how)).post 20
  let s := s.forEach (seqRails s) fun r s => (s.setFlag .disPast false r).setFlag .abortOff false r
  if s.bit Obj.sequencerPending 0 ∧ s.mode ≠ .holdup then raiseRequest 2 (s.setVar .upCause 2) else s

/-- State 32 is reached. -/
def enterSteady (s : State) : State :=
  let s := (enterCommon 32 s).setO Obj.sequencerState 2
  let s := s.setO Obj.sequencerTUp ((s.now : Int) - s.var .upAt)
  let up : Nat := ((seqRails s).filter fun r => seqSt s r = SS.qualified).length
  let bad : Nat := ((seqRails s).filter fun r => decide (seqSt s r = SS.failed ∨ seqSt s r = SS.blocked)).length
  let s := (s.record 0x0301 (u32 (s.o Obj.sequencerTUp) ++ u8 up ++ u8 bad)).post 19
  if s.bit Obj.sequencerPending 1 then
    -- an off request latched during power-up is raised as a down request (R216)
    (((s.setBit Obj.sequencerPending 1 false).setVar .downCause 0).setVar .yardHold 5).startT .yardHoldT 20
  else s

/-- Enter a power-down or reversal state. -/
def enterDown (k : Nat) (s : State) : State :=
  let s := enterCommon k s
  if s.oN Obj.sequencerState = 4 then reverseRelease k s
  else
    let s := if k = 33 then
        ((s.setO Obj.sequencerState 3).setVar .downAt s.now).record 0x0302 (u8 (s.var .downCause))
      else s
    downRelease k s

/-- The state after one advance (R213). -/
def yardNext (s : State) : Nat := if yardAt s = 63 then 0 else yardAt s + 1

/-- REVERSAL: state k becomes 64 − k; a rail held failed that has been released is cancelled like any other (R211, R607). -/
def reverseYard (s : State) : State :=
  let k := yardAt s
  let started : Nat := ((seqRails s).filter fun r => seqOn (seqSt s r)).length
  let cancel := (seqRails s).filter fun r =>
    decide (seqSt s r = SS.released ∨ seqSt s r = SS.waiting) || (decide (seqSt s r = SS.failed) && s.varB .relSeen r)
  let s := s.forEach cancel fun r s => cancelRail r s
  let s := s.record 0x030A (u8 k ++ u8 (64 - k : Nat) ++ u8 started ++ u8 cancel.length)
  let s := (s.setO Obj.sequencerState 4).setVar .downAt s.now
  enterDown (64 - k) s

/-- Enter the yard state that was decided: a power-up state, 32, 0, or a power-down state, which from a power-up state is a reversal. -/
def enterYard (k : Nat) (s : State) : State :=
  if k = 0 then enterZero s
  else if k < 32 then enterUp k s
  else if k = 32 then enterSteady s
  else if yardAt s < 32 then reverseYard s
  else enterDown k s

/-- What the sequencer decided in the frame that ended takes effect at this tick (R190): starts, offs, the yard state. -/
def sequencerEffects (s : State) : State :=
  let s := s.forEach allRails fun r s =>
    let s := if s.varB .offDue r then offEffect r (s.varN .offDue r) (s.setVar .offDue 0 r) else s
    if s.varB .startDue r then startEffect r (s.setVar .startDue 0 r) else s
  if s.varB .yardGo then enterYard (yardTo s) s else s

/-! ## Aborts (R217) -/

/-- A last-gasp rail. -/
def isLastGasp (s : State) (r : Nat) : Bool := decide (r = 18 ∨ r = 19) && s.oB (Obj.abLastgasp (r - 12))

/-- The rails of an abort: every sequenced rail off in shutdown order, without its off-delay, but for the last-gasp rails that are on and
spared; latched requests and decisions not yet in effect are cleared (R217, R335). A rail that is not on is measured from here, as from a
release (R197; DEDUCED, log entry 114); seq.t_down of an abort that interrupts no power-down counts from its start (DESIGN CHOICE, log entry
116). -/
def abortRails (spare : Bool) (s : State) : State :=
  let s := if s.oN Obj.sequencerState = 3 ∨ s.oN Obj.sequencerState = 4 ∨ s.oN Obj.sequencerState = 5 then s
    else s.setVar .downAt s.now
  let s := ((s.setVar .yardGo 0).setO Obj.sequencerState 5).setO Obj.sequencerPending 0
  let s := (s.setVar .yardReq 0).setVar .yardPulse 0
  let s := (s.stopT .dwellT).stopT .readyT
  s.forEach (seqRails s) fun r s =>
    if spare && isLastGasp s r && seqOn (seqSt s r) then s
    else if seqOn (seqSt s r) then (setSeq r SS.waitPred (markOff r 3 (s.stopT .offT r))).setFlag .abortOff true r
    else if seqSt s r = SS.blocked ∧ s.varB .offKind r ∧ !s.varB .offGot r then (s.setVar .offKind 3 r).setFlag .abortOff true r
    else measureReleased r s

/-- ABORT_SHUTDOWN: recorded and reported, from the yard state in which it began. `low` is the length of the low that caused it, in
frames. -/
def abortShutdown (cause low : Nat) (spare : Bool) (s : State) : State :=
  let k := yardAt s
  let s := if s.oN Obj.sequencerState = 5 then s else s.setVar .abortFrom k
  let s := abortRails spare (s.bump Obj.sequencerAborts)
  (s.record 0x030C (u8 k ++ u32 low ++ u8 cause)).post 21

/-- ABORT_COMPLETE: the line is released and every rail that the abort turned off is discharged (R217). -/
def execAbortComplete (s : State) : Out :=
  if deciding s && decide (s.oN Obj.sequencerState = 5) && !s.varB .yardGo && (yardAlone s || (!s.pinB .yardLow && !s.varB .yardHold)) &&
      (seqRails s).all (fun r => !s.varB .abortOff r || s.varB .dis r) then
    .next (goYard 0 s)
  else .next s

/-! ## Requests (R210, R216) -/

/-- An on request; while a swap runs one in state 0 is latched (R285). -/
def onRequest (cause : Nat) (s : State) : State :=
  let k := yardAt s
  let st := s.oN Obj.sequencerState
  if st = 5 ∨ 33 ≤ k then
    (s.setBit Obj.sequencerPending 0 true).record 0x030B (u8 k)
  else if k = 0 then
    if s.varB .swapOn then s.setBit Obj.sequencerPending 0 true else raiseRequest cause (s.setVar .upCause cause)
  else s

/-- Where a swap ends without the token having moved, or the token has come here, an on request that was latched in state 0 starts its
power-up (R210, R285; DESIGN CHOICE, log entry 114). -/
def resumeLatched (s : State) : State :=
  if deciding s && s.bit Obj.sequencerPending 0 && decide (yardAt s = 0) && decide (s.oN Obj.sequencerState ≠ 5) &&
      !s.varB .yardGo && decide (s.mode = .run) then
    raiseRequest 2 (s.setVar .upCause 2)
  else s

/-- An off request (R210): in state 0 it clears a latched on, with what that has just raised on this device, and does nothing else; an advance
that YARD has already shown stands (R214). -/
def offRequest (cause : Nat) (s : State) : State :=
  let k := yardAt s
  let st := s.oN Obj.sequencerState
  if st = 5 ∨ 33 ≤ k ∨ k = 0 then
    let latched := s.bit Obj.sequencerPending 0 && decide (s.varN .upCause = 2)
    let s := s.setBit Obj.sequencerPending 0 false
    if k = 0 ∧ st ≠ 5 ∧ latched then (if s.varN .yardReq = 3 then s.setVar .yardReq 0 else s).setVar .yardGo (if yardAlone s then 0 else s.var .yardGo) else s
  else if k = 32 then raiseRequest cause (s.setVar .downCause cause)
  else if yardAlone s then goYard (64 - k) s
  else if yardRank s = 0 then s.setVar .yardPulse 2
  else s.setBit Obj.sequencerPending 1 true

/-- seq.cmd (R210): its status and effect. While a swap runs the holder makes no new decision (R285): the write is answered busy (DESIGN
CHOICE, log entry 111). -/
def seqCmd (v : Nat) (s : State) : Status × State :=
  if s.mode ≠ .run then (.stateForbids, s)
  else if v ≠ 1 ∧ v ≠ 2 then (.outOfRange, s)
  else if s.varB .swapOn then (.busy, s)
  else if v = 1 then (.ok, onRequest 0 s) else (.ok, offRequest 0 s)

/-- The device enters RUN: it joins the yard by an abort where it is not alone, which on the way from HOLDUP spares the last-gasp rails
(R26), and takes auto_on as an on request (R210, R217). A STANDBY takes the sequencer from the mirror (R271). -/
def seqEnterRun (spare : Bool) (s : State) : State :=
  let s := if yardAlone s || !holder s then s
    else abortShutdown 3 0 spare (((s.setVar .yardHold 4).startT .yardHoldT 2000))
  if !s.oB Obj.sequencerAutoOn || !holder s then s else onRequest 1 s

/-- The device enters HOLDUP or SAFE and aborts the yard (R217); a STANDBY takes the sequencer from the mirror (R271). -/
def seqAbortEntry (cause : Nat) (spare : Bool) (s : State) : State :=
  if !holder s then s
  else
    let s := if yardAlone s then s else (s.setVar .yardHold (cause + 1 : Nat)).startT .yardHoldT 2000
    abortShutdown cause 0 spare s

/-! ## Stepping (R212 to R216) -/

/-- Has YARD been high for 2 µs since the end of the dwell: at three ticks in a row (R215)? -/
def yardHighLong (s : State) : Bool := decide (3 ≤ s.varN .yardHigh)

/-- YARD_ADVANCE: the dwell has expired and the device is ready: alone it decides the next state, as leader it sends the
advance once the line has been high for 2 µs, in states 0 and 32 once it is released (R213, R215, R216). -/
def execYardAdvance (s : State) : Out :=
  let k := yardAt s
  let dwelt := s.dueT .dwellT && yardReady s
  if !deciding s || decide (s.oN Obj.sequencerState = 5) || s.varB .yardGo then .next s
  else if yardAlone s then
    if ((1 ≤ k ∧ k ≤ 31) ∨ 33 ≤ k) ∧ dwelt then .next (goYard (yardNext s) s) else .next s
  else if yardRank s = 0 ∧ !s.pinB .yardLow ∧ !s.varB .yardHold ∧ !s.varB .yardPulse ∧
      (if k = 0 ∨ k = 32 then s.varB .yardReq else dwelt && yardHighLong s) then
    .next (s.setVar .yardPulse 1)
  else .next s

/-- YARD_READINESS_TIMEOUT: not ready 1,000 frames after the dwell (R213). -/
def execYardReadinessTimeout (s : State) : Out :=
  if deciding s && yardAlone s && decide (s.oN Obj.sequencerState ≠ 5) && s.dueT .readyT && !yardReady s then
    .next (abortShutdown 0 0 false s)
  else .next s

/-- A glitch on YARD is counted (R214, R220): record 0x0310 at most once per round. -/
def glitch (low : Nat) (s : State) : State :=
  let s := ((s.bump Obj.yardGlitches).addVar .glitchRound 1).post 22
  s.recordPer 0x0310 0 s.nowRound (u32 low ++ u8 (yardAt s) ++ u16 (s.var .glitchRound))

/-- Does the device take part in a yard of several members? -/
def yardShared (s : State) : Bool := !yardAlone s

/-- Does a pulse on YARD step this device: it shares the yard, holds the token and takes decisions (R213, R218)? From state 0 it steps only in
RUN, on whose entry it takes part in the yard: in every other mode its rails are off (R25, R217, R601). -/
def yardSteps (s : State) : Bool := yardShared s && deciding s && (decide (s.mode = .run) || decide (yardAt s ≠ 0))

/-- A STANDBY keeps the yard state as it observes it on the line, to check the mirrored one by (R218). -/
def observeYard (k : Nat) (s : State) : State := if yardShared s && !holder s then s.setVar .yardSeen k else s

/-- YARD_ADVANCE_PULSE: a low of 1.0 µs to 4.0 µs, in ns; the new state is entered at the first tick after it (R214). An advance counts as a
glitch where it is not allowed: during an abort, and on a device that steps alone. The cause of a run that the pulse starts is a member's
request, on the member that asked too (R221; DESIGN CHOICE, log entry 116). -/
def execYardAdvancePulse (low : Nat) (s : State) : Out :=
  if s.mgtOn && decide (1000 ≤ low ∧ low ≤ 4000) then
    if yardAlone s || decide (s.oN Obj.sequencerState = 5) then .next (glitch low s)
    else if yardSteps s then
      let s := if yardAt s = 0 ∧ s.varB .yardReq then s.setVar .upCause (s.var .yardReq - 1)
        else if yardAt s = 32 ∧ s.varB .yardReq then s.setVar .downCause (s.var .yardReq - 1) else s
      .next (goYard (yardNext s) s)
    else .next (observeYard ((s.varN .yardSeen + 1) % 64) s)
  else .next s

/-- YARD_REVERSE_PULSE: a low of 6.0 µs to 10.0 µs, allowed in states 1 to 31 (R211, R214). -/
def execYardReversePulse (low : Nat) (s : State) : Out :=
  if s.mgtOn && decide (6000 ≤ low ∧ low ≤ 10000) then
    let k := yardAt s
    if yardAlone s || !decide (1 ≤ k ∧ k ≤ 31 ∧ s.oN Obj.sequencerState = 1) then .next (glitch low s)
    else if yardSteps s then .next (goYard (64 - k) s)
    else .next (observeYard ((64 - s.varN .yardSeen) % 64) s)
  else .next s

/-- YARD_HOLD: a low over 12.0 µs up to 1 ms: readiness, or a member's request (R214, R216). Every device measures it. -/
def execYardHold (low : Nat) (s : State) : Out :=
  if s.mgtOn && decide (12000 < low ∧ low ≤ 1000000) then
    let k := yardAt s
    let f := (divNearest low 1000).toNat
    let s := if s.varN .holdMax < f then s.setVar .holdMax f else s
    .next (if yardSteps s ∧ (k = 0 ∨ k = 32) ∧ s.oN Obj.sequencerState ≠ 5 ∧ !s.varB .yardReq then
        -- causes of records 0x0300 and 0x0302: a member's request
        s.setVar .yardReq ((if k = 0 then 3 else 2) + 1)
      else s)
  else .next s

/-- YARD_GLITCH: a low outside every band of R214, as each device counts it. -/
def execYardGlitch (low : Nat) (s : State) : Out :=
  if s.mgtOn && decide (low < 1000 ∨ (4000 < low ∧ low < 6000) ∨ (10000 < low ∧ low ≤ 12000)) then
    .next (glitch low s)
  else .next s

/-- YARD_ABORT: a low over 1 ms (R214, R217), which every device that takes decisions obeys, one that steps alone too. A device whose own
hold is the low has begun its abort with the hold. -/
def execYardAbort (low : Nat) (s : State) : Out :=
  if s.mgtOn && decide (1000000 < low) then
    let own := s.varN .yardHold
    if !deciding s then .next (observeYard 0 s)
    else if 2 ≤ own ∧ own ≤ 4 then .next s
    else .next (abortShutdown (if own = 1 then 0 else 0xFF) (divNearest low 1000).toNat false (s.setVar .yardHold 0))
  else .next s

/-- BACKUP_LEADER_ADVANCE: `high` ns have passed since the end of the dwell with the line high and no advance (R215). -/
def execBackupLeaderAdvance (high : Nat) (s : State) : Out :=
  let k := yardAt s
  let r := yardRank s
  if yardSteps s && decide (0 < r) && decide (2000 + 50000 * r ≤ high) && !s.varB .yardPulse && !s.varB .yardGo &&
      ((decide ((1 ≤ k ∧ k ≤ 31) ∨ 33 ≤ k) && s.dueT .dwellT) || (decide (k = 0 ∨ k = 32) && s.varB .yardReq)) &&
      decide (s.oN Obj.sequencerState ≠ 5) then
    let s := (s.record 0x030D (u8 k ++ u8 (s.o Obj.yardAddr) ++ u8 r)).post 22
    .next ((s.setO Obj.yardLeader (s.o Obj.yardAddr)).setVar .yardPulse 1)
  else .next s

/-- The line as this device drives it: low while it holds it or sends a pulse, or the loop-back has an iteration to begin. Only the holder
drives, and only while it drives the team nets (R218, R257, R275, R281, R583, R584). -/
def yardDrivenLow (s : State) : Bool :=
  drivesTeam s && ((yardShared s && (s.varB .yardHold || s.varB .yardPulse)) ||
    (decide (s.oN Obj.testActive = 0x19) && !s.varB .lbRes && decide (s.o (Obj.lbDone 0x19) < s.o (Obj.lbCount 0x19))))

/-- The sequencer's share of a tick: qualification, held starts, failed tests, the readiness hold (R194, R215). -/
def sequencerTick (s : State) : State :=
  let s := s.forEach allRails fun r s => heldStart r (qualifyTick r (if r < 20 then shtFailTick r s else s))
  let s := if s.varB .yardHold && s.varB .yardHoldT && s.dueT .yardHoldT then (s.setVar .yardHold 0).stopT .yardHoldT else s
  let s := s.countCond .yardHigh (s.dueT .dwellT && !s.pinB .yardLow)
  if yardAlone s || !holder s || decide (s.oN Obj.sequencerState = 5) then s
  else if s.dueT .dwellT && !yardReady s then (if s.varB .yardHold then s else s.setVar .yardHold 1)
  else if s.varN .yardHold = 1 then s.setVar .yardHold 0
  else s

/-- The sequencer's share of a round. -/
def sequencerRound (s : State) : State := s.setVar .glitchRound 0

/-- yard.leader once yard.members applies: the lowest member (R213). -/
def showLeader (s : State) : State := s.setO Obj.yardLeader (yardLowest s)

/-- At BOOT the sequencer starts in state 0 with nothing latched. -/
def sequencerBoot (s : State) : State := showLeader ((showTable s).setVar .yardGo 0)

end Sys2Proof.Machine
end

