-- ==== Sys2Proof/Machine/Team.lean ====
section
/-!
DEFINITION. Teams: Twin Redundancy (spec/08_teams.md): the role token, the mirror frame and its deltas, the harness,
takeover, yield and swap, election and admission.
-/

namespace Sys2Proof.Machine

/-! ## Roles -/

abbrev Role.out : Nat := 0
abbrev Role.solo : Nat := 1
abbrev Role.standby : Nat := 2
abbrev Role.active : Nat := 3

/-- team.role. -/
def role (s : State) : Nat := s.oN Obj.teamRole

/-- Is the device teamed? -/
def teamed (s : State) : Bool := s.oB Obj.teamEn

/-- The position this device acts at: its own, or by id.uid under a conflict (R258). -/
def position (s : State) : Nat := if s.varB .posConf then s.varN .effPos else s.oN Obj.teamPosition

/-- Change the role: record 0x0500, interrupt source 33 (R294, R295). A STANDBY takes its frame tick from the harness; a device that is one
no longer returns to its own reference (R57). -/
def setRole (new cause : Nat) (s : State) : State :=
  let old := role s
  if old = new then s
  else
    let s := ((s.setO Obj.teamRole new).setO Obj.teamLastCause cause).setO Obj.teamLastTime s.timeNow
    let s := if new = Role.standby then followHarness s else if old = Role.standby then leaveHarness s else s
    let s := s.setVar .electable 0
    (s.record 0x0500 (u8 old ++ u8 new ++ u8 cause ++ u32 (s.o Obj.teamEpoch))).post 33

/-- Assert or release REIN_OUT. -/
def reinOut (on : Bool) (s : State) : State := s.setBit Obj.teamLink 5 on

/-- Every entry queued or outstanding is dropped (R282); `coverAck` finds the sequence again. -/
def clearQueue (s : State) : State := { s with dq := [], dsent := [] }.setO Obj.teamDqDepth 0

/-- The loops of a device that is OUT are idle: it makes no rail (R257). -/
def idleRails (s : State) : State := s.forEach allRails fun r s => if railExists s r then killRail r RS.off s else s

/-- A change of the budget that has not been sent ends with the token (R538). -/
def dropChanges (s : State) : State := s.keepVars fun k => !kindIn [.allocNew, .grantNew, .grantTx] k

/-- Enter OUT: the token is given up and every pending swap, yield and outgoing delta ends; the loops are idle. -/
def enterOut (cause : Nat) (s : State) : State :=
  let s := dropChanges (setRole Role.out cause s)
  let s := (((s.setVar .swapOn 0).setVar .swapReq 0).setVar .yieldOn 0).setVar .releaseDue 0
  let s := (((s.setVar .admReq 0).setVar .reinPend 0).setVar .xfer 0).setVar .yieldDue 0
  let s := idleRails s
  { clearQueue s with ledTx := [], ledRx := [] }

/-- Each buck's first period begins at the first drive (R111). -/
def buckGrids (s : State) : State := s.forRange 8 fun b s => s.setVar .abGrid (s.varN .driveFrom * stepsPerFrame : Nat) b

/-- Take the token (R259): the epoch is one more than the larger of the two. -/
def takeToken (cause : Nat) (s : State) : State :=
  let e := max (s.oN Obj.teamEpoch) (s.varN .twinEpoch) + 1
  buckGrids <| setRole Role.solo cause ((s.setO Obj.teamEpoch (e % 2 ^ 32 : Nat)).setVar .driveFrom (s.now + 1 : Nat))

/-- No uncleared fault of L3 or above. -/
def faultFree (s : State) : Bool := let l := deviceLevel s; decide (l = 0xFF ∨ l < 3)

/-! ## The delta queue (R266 to R268) -/

/-- Has the first entry of a queued write group been sent? What is left of it begins with a part (R266, R268, R291). -/
def partSent (x : DqItem) : Bool := decide ((x.parts.headD ⟨0, 0, 0⟩).kind = 0x41)

/-- Queue entries under a key; a newer value replaces a pending one, and acknowledgements merge (R268). -/
def enqueue (i : DqItem) (s : State) : State :=
  let same (x : DqItem) : Bool := x.kind = i.kind && (x.key = i.key || i.kind = 2) && !partSent x
  let q := if s.dq.any same then
      s.dq.map fun x =>
        if same x then
          (if i.kind = 0x30 then
            { x with parts := [Delta.mk 0x30 i.key ((x.parts.headD ⟨0, 0, 0⟩).value ||| (i.parts.headD ⟨0, 0, 0⟩).value)] }
           else i)
        else x
    else s.dq ++ [i]
  let s : State := { s with dq := q }
  let s := s.setO Obj.teamDqDepth s.dq.length
  if s.o Obj.teamDqMax < s.dq.length then s.setO Obj.teamDqMax s.dq.length else s

/-- Queue one entry. -/
def enqueueOne (prio kind key value : Nat) (s : State) : State :=
  enqueue ⟨prio, kind, key, [⟨kind, key, value % 2 ^ 32⟩]⟩ s

/-- The two or three entries of a write group (R266). -/
def writeGroup (key len : Nat) (v : Nat) : List Delta :=
  [⟨0x40, keySub key, keyIndex key % 65536 + 65536 * len⟩, ⟨0x41, 0, v % 2 ^ 32⟩] ++
    (if 4 < len then [⟨0x41, 1, v / 2 ^ 32 % 2 ^ 32⟩] else [])

/-- Does this device send deltas of its state: a holder whose twin is STANDBY or being admitted, or has been and has 8 frames to show itself
as STANDBY (R266, R269; log entry 114)? -/
def sendsDeltas (s : State) : Bool :=
  teamed s && holder s && (decide (s.oN Obj.teamTwinRole = Role.standby) || decide (s.oN Obj.teamAdmState = 2) ||
    (decide (s.oN Obj.teamAdmState = 4) && decide (s.now ≤ s.varN .admAt + 8)))

/-- The 24-bit stamp of an earlier frame, in the numbering of frame.number (R266). -/
def stampOf (s : State) (at_ : Nat) : Nat := (s.oN Obj.frameNumber + 2 ^ 32 - (s.now - at_)) % 2 ^ 24

/-- The rounds that begin until frame.number wraps, the last of them cut short (R50). -/
def roundsPerWrap : Nat := 4294968

/-- The 24-bit stamp of an earlier round, which may lie before this device's power-on, numbered by frame.number ÷ 1,000: nothing in a frame carries the sender's frame.round, which runs
on where frame.number wraps (R50, R266; DESIGN CHOICE, log entry 109). -/
def roundStamp (s : State) (at_ : Int) : Nat :=
  (((s.oN Obj.frameNumber / 1000 : Nat) - (s.nowRound - at_)) % roundsPerWrap).toNat

/-- Queue a value with the stamp of its state's entry if its low byte differs from the one queued last. -/
def queueStamped (prio kind key low stamp : Nat) (s : State) : State :=
  let k := Nat.pair kind key
  if FMap.get (-1) s.dlast k = low then s
  else enqueueOne prio kind key (low + 256 * stamp) (s.setLast k low)

/-- Queue a value if it differs from the one queued last. -/
def queueValue (prio kind key v : Nat) (s : State) : State :=
  let k := Nat.pair kind key
  if FMap.get (-1) s.dlast k = v then s
  else enqueueOne prio kind key v (s.setLast k v)

/-- The low byte of kind 0x03. -/
def padByte (s : State) (p : Nat) : Nat := s.oN (Obj.padState p) % 2 + 2 * (s.oN (Obj.padCause p) % 8)

/-- The state byte of kind 0x07: that of R142; of a supervised channel off, on or hiccup. -/
def railByte (s : State) (r : Nat) : Nat :=
  if r < 20 ∨ railState s r = RS.regulating ∨ railState s r = RS.hiccup then railState s r else RS.off

/-- Queue the sequencer's view, whose key is the yard state, if it differs from the one queued last (R266, R268). -/
def queueYard (s : State) : State :=
  let y := s.oN Obj.sequencerYardState
  let low := s.oN Obj.sequencerState % 16 + 16 * (s.oN Obj.sequencerPending % 4)
  let k := Nat.pair 2 0
  if FMap.get (-1) s.dlast k = (low + 256 * y : Nat) then s
  else enqueueOne 0 2 y (low + 256 * stampOf s (s.varN .yardSince)) (s.setLast k (low + 256 * y : Nat))

/-- Kind 0x12: the counting window of a source (R226). -/
def windowValue (s : State) (x : Nat) : Nat :=
  if s.varB .winT x then
    s.oN (Obj.srcWinCount x) % 256 + 256 * roundStamp s (s.var .winT x - 1 - s.o (Obj.srcCountW x))
  else 0

/-- Kind 0x13: hiccups, series, level and the start of the quiet period (R241). -/
def hiccupValue (s : State) (x : Nat) : Nat :=
  let l := s.oN (Obj.srcLevel x)
  s.oN (Obj.srcHiccups x) % 16 + 16 * (if s.varB .series x then 1 else 0) + 32 * (if l = 0xFF then 7 else l % 8) +
    256 * roundStamp s (s.var .quietStart x)

/-- The token count of a ledger key: rails, 0xFE the grant, 0xFF the free pool. -/
def tokensOf (s : State) (k : Nat) : Nat :=
  if k = 0xFE then s.oN Obj.budgetGrant else if k = 0xFF then s.oN Obj.budgetFree else s.oN (Obj.budgetAlloc k)

/-- Set the token count of a ledger key. -/
def setTokens (k v : Nat) (s : State) : State :=
  if k = 0xFE then s.setO Obj.budgetGrant v else if k = 0xFF then s.setO Obj.budgetFree v else s.setO (Obj.budgetAlloc k) v

/-- Queue what has changed since it was last queued (R266, R268). -/
def queueChanges (s : State) : State :=
  if !sendsDeltas s then s
  else
    let s := s.forRange 52 fun r s => queueStamped 0 1 r (seqSt s r) (stampOf s (s.varN .seqSince r)) s
    let s := queueYard s
    let s := s.forRange 8 fun p s => queueStamped 0 3 p (padByte s p) (stampOf s (s.varN .padSince p)) s
    let s := s.forRange 52 fun r s => queueStamped 0 7 r (railByte s r) (stampOf s (s.varN .railSince r)) s
    let s := queueValue 0 8 0 (hsDelta s) s
    let s := s.forRange 8 fun b s =>
      let last := FMap.get (-1) s.dlast (Nat.pair 5 b)
      if s.o Obj.teamBuckDthr < (s.var .abDemand b - last).natAbs ∨ s.varN .dlastAt b + 1000 ≤ s.now then
        (enqueueOne 1 5 b (s.varN .abDemand b) (s.setLast (Nat.pair 5 b) (s.var .abDemand b))).setVar .dlastAt s.now b
      else s
    s.forRange 256 fun x s =>
      let s := queueValue 2 0x10 x (s.oN (Obj.srcUnack x)) s
      let s := queueValue 2 0x11 x (s.oN (Obj.srcUncleared x)) s
      queueValue 2 0x13 x (hiccupValue s x) (queueValue 2 0x12 x (windowValue s x) s)

/-- An acknowledgement written to this device is carried to the twin (R250, R271). -/
def forwardAck (src bits : Nat) (s : State) : State :=
  if teamed s && (role s = Role.standby || role s = Role.active) then enqueueOne 2 0x30 src bits s else s

/-- marshal.ack_all is carried to the twin. -/
def forwardAckAll (s : State) : State :=
  if teamed s && (role s = Role.standby || role s = Role.active) then enqueueOne 2 0x31 0 1 s else s

/-! ## The state transfer (R291) -/

/-- The entries of the i-th item of the state transfer, each read as it is assembled; none when it has ended. -/
def xferItem (s : State) (i : Nat) : Option (List Delta) :=
  let one (k key v : Nat) : Option (List Delta) := some [⟨k, key, v % 2 ^ 32⟩]
  let st (k : VarKind) (j : Nat) : Nat := 256 * stampOf s (s.varN k j)
  if i = 0 then
    if s.mode = .setup ∨ s.mode = .run then some (writeGroup Obj.sysModeReq 1 s.mode.code) else some []
  else if i ≤ 52 then one 1 (i - 1) (seqSt s (i - 1) + st .seqSince (i - 1))
  else if i = 53 then one 2 (s.oN Obj.sequencerYardState)
    (s.oN Obj.sequencerState % 16 + 16 * (s.oN Obj.sequencerPending % 4) + st .yardSince 0)
  else if i ≤ 61 then one 3 (i - 54) (padByte s (i - 54) + st .padSince (i - 54))
  else if i ≤ 113 then one 7 (i - 62) (railByte s (i - 62) + st .railSince (i - 62))
  else if i = 114 then one 8 0 (hsDelta s)
  else if i ≤ 122 then one 5 (i - 115) (s.varN .abDemand (i - 115))
  else if i ≤ 174 then one 0x20 (i - 123) (tokensOf s (i - 123))
  else if i = 175 then one 0x20 0xFE (tokensOf s 0xFE)
  else if i = 176 then one 0x20 0xFF (tokensOf s 0xFF)
  else if i = 177 then one 0x21 0 (s.oN Obj.budgetGen)
  else if i ≤ 177 + 1024 then
    let x := (i - 178) / 4
    match (i - 178) % 4 with
    | 0 => one 0x10 x (s.oN (Obj.srcUnack x))
    | 1 => one 0x11 x (s.oN (Obj.srcUncleared x))
    | 2 => one 0x12 x (windowValue s x)
    | _ => one 0x13 x (hiccupValue s x)
  else
    match s.journal[i - 1202]? with
    | some (k, v) =>
      let len := match dictRow (keyIndex k) (keySub k) with | some r => r.ty.size | none => 8
      some (writeGroup k len (toTwos (8 * len) v))
    | none => if i = 1202 + s.journal.length then one 0x3F 0 (s.varN .admEntries + 1) else none

/-! ## Assembly (R47, R262, R265) -/

/-- The next item of the queue up to a priority: what is left of a write group that has begun, else ascending priority, then order of
queuing (R268). -/
def pickItem (most : Nat) (q : List DqItem) : Option DqItem :=
  match q.find? partSent with
  | some i => some i
  | none => (List.range (most + 1)).findSome? fun p => q.find? fun i => i.prio = p

/-- Does the twin's ack cover every ledger transaction that was sent? -/
def txCovered (s : State) : Bool :=
  !s.dq.any (fun i => i.kind = 0x21) && !s.dsent.any (fun e => e.delta.kind = 0x21)

/-- Is the state transfer within its ledger transaction, sent in part (R270, R291)? -/
def xferInLedger (s : State) : Bool := decide (125 ≤ s.varN .xfer ∧ s.varN .xfer ≤ 178)

/-- May the state transfer send its next item: no transaction of the holder is still to be sent, and its own begins when the last one is
covered (R270)? -/
def xferMay (s : State) : Bool :=
  !s.dq.any (fun i => i.kind = 0x21) && (decide (s.varN .xfer ≠ 124) || txCovered s)

/-- May an ordinary write group begin: while the state transfer runs it takes one entry of each of three frames, and begins where only single
entries of the transfer come between its own (R266, R270, R291; DESIGN CHOICE, log entry 116)? -/
def groupMay (s : State) : Bool :=
  let x := s.varN .xfer
  decide (x = 0 ∨ (2 ≤ x ∧ x ≤ 115) ∨ (179 ≤ x ∧ x ≤ 1194))

/-- The next ordinary item that a frame may take. -/
def ordinaryNext (ordinary : Nat) (s : State) : Option DqItem :=
  if ordinary = 0 then none
  else
    match pickItem (if xferInLedger s then 0 else 4) s.dq with
    | some i => if decide (i.kind = 0x40) && !partSent i && !groupMay s then none else some i
    | none => none

/-- Send one new entry: it takes the next sequence number (R266, R267). -/
def sendDelta (d : Delta) (s : State) : State :=
  let e : SentDelta := ⟨s.varN .dqSeq, s.now, d⟩
  { s with dsent := s.dsent ++ [e] }.setVar .dqSeq ((s.varN .dqSeq + 1) % 65536 : Nat)

/-- Fill the free places of a frame from the queue and the state transfer; `ordinary` bounds the entries of ordinary
deltas, of which only those of priority 0 come between the entries of a ledger transaction (R270, R291). An ordinary item that does not fit
waits for the next frame, and no other overtakes it (R268); one that may take one entry of each frame leaves the rest of them to the
transfer, which takes every entry left free. Answers the entries in order. -/
def fillFrame (fuel room ordinary : Nat) (out : List Delta) (s : State) : List Delta × State :=
  match fuel with
  | 0 => (out, s)
  | fuel + 1 =>
    let room := min room (64 - s.dsent.length)
    if room = 0 then (out, s)
    else
      match ordinaryNext ordinary s with
      | some i =>
        if ordinary < i.parts.length then
          match i.parts with
          | d :: rest =>
            let s : State := { s with dq := s.dq.map fun x => if x = i then { i with parts := rest } else x }
            fillFrame fuel (room - 1) 0 (out ++ [d]) (sendDelta d s)
          | [] => (out, s)
        else if room < i.parts.length then (out, s)
        else
          let s := i.parts.foldl (fun s d => sendDelta d s) { s with dq := s.dq.erase i }
          let s := s.setO Obj.teamDqDepth s.dq.length
          fillFrame fuel (room - i.parts.length) (ordinary - i.parts.length) (out ++ i.parts) s
      | none =>
        if s.varB .xfer && xferMay s then
          let k := s.varN .xfer - 1
          match xferItem s k with
          | none => (out, s.setVar .xfer 0)
          | some l =>
            let rest := l.drop (s.varN .xferPart)
            let ds := rest.take room
            let s := if rest.length ≤ room then (s.setVar .xfer (k + 2 : Nat)).setVar .xferPart 0 else s.addVar .xferPart room
            let s := (ds.foldl (fun s d => sendDelta d s) s).addVar .admEntries ds.length
            fillFrame fuel (room - ds.length) ordinary (out ++ ds) s
        else (out, s)

/-- The deltas of a frame and the sequence number of the first: entries to send again come first, in order (R267). -/
def frameDeltas (s : State) : Nat × List Delta × State :=
  let again := if s.varB .dqResend then
      (s.dsent.dropWhile fun e => e.seq ≠ s.varN .dqResend - 1).take 4 else []
  let first := match again with | e :: _ => e.seq | [] => s.varN .dqSeq
  let last := again.getLast?
  let next : Nat := match last with
    | some e => if (s.dsent.getLast?.map fun x => x.seq) = some e.seq then 0 else (e.seq + 1) % 65536 + 1
    | none => 0
  let s : State := { s with dsent := s.dsent.map fun e => if again.contains e then { e with frame := s.now } else e }
  let s := s.setVar .dqResend next
  let ordinary := if s.varB .xfer then 1 else 4
  let (out, s) := if s.varB .dqResend then (again.map fun e => e.delta, s)
    else fillFrame 6 (4 - again.length) ordinary (again.map fun e => e.delta) s
  (first, out, s)

/-- The header of a mirror frame (R265). -/
def mirrorHeader (s : State) (first : Nat) : List Byte :=
  let b (x : Bool) (w : Nat) : Nat := if x then w else 0
  let r := role s % 4 + 4 * s.oN Obj.teamPosition + b (holder s) 8 + b (s.varB .yieldOn) 16 + b (s.varB .swapReq) 32 +
    b (s.varN .swapReq = 2) 64
  let adm := b (s.varB .admReq) 1 + b (holder s && (s.oN Obj.teamAdmState = 1 || s.oN Obj.teamAdmState = 2)) 2 +
    b (holder s && s.oN Obj.teamAdmState = 2) 4 + b (s.bit Obj.teamLink 5) 8
  let ack := if s.varB .rxAny then (s.varN .rxNext + 65535) % 65536 else 0xFFFF
  let health := b s.mainOn 1 + b (faultFree s) 2 + b (s.bit Obj.teamLink 6) 4 + b (s.pinB .reinIn) 8
  u8 1 ++ u8 r ++ u32 (s.o Obj.frameNumber) ++ u32 (s.o Obj.teamEpoch) ++ u8 (s.o Obj.sysMode) ++ u8 adm ++ u16 first ++
    u16 ack ++ u32 (s.o Obj.imgDigest % 2 ^ 32) ++ u8 (if s.varB .yieldOn then s.var .yieldCause else 0) ++ u8 health ++ u16 0

/-- The status byte of a phase (R186). -/
def phaseByte (s : State) (n : Nat) : Nat :=
  s.oN (Obj.phaseState n) % 8 + (if s.bit (Obj.wearStatus n) 1 then 8 else 0) + 16 * (s.oN (Obj.wearFailCause n) % 16)

/-- The 256 payload bytes: header, rails, phases, slope, deltas (R145, R101, R186, R265). -/
def mirrorPayload (s : State) (first : Nat) (ds : List Delta) : List Byte :=
  let rails := (List.range 12).flatMap fun m =>
    if railExists s m then
      u32 (s.var .iacc m) ++ u16 (vrampCode s m) ++ u8 (railState s m) ++ u8 (s.o (Obj.railShedLvl m))
    else List.replicate 8 0
  let phases := (List.range 48).flatMap fun n =>
    if phaseExists s n then
      u8 (if s.oN (Obj.phaseRail n) < 12 then balOffset s (s.oN (Obj.phaseRail n)) n else 0) ++ u8 (phaseByte s n)
    else [0, 0]
  let i := s.oN Obj.frameNumber % 12
  let slope := (List.range 4).flatMap fun j =>
    if phaseExists s (4 * i + j) then u16 (s.o (Obj.phaseLLearned (4 * i + j))) ++ u16 (s.o (Obj.phaseSlopeCode (4 * i + j)))
    else [0, 0, 0, 0]
  let deltas := ((ds.take 4).flatMap fun d => u8 d.kind ++ u8 d.key ++ u32 d.value) ++
    List.replicate (24 - 6 * (ds.take 4).length) 0
  mirrorHeader s first ++ rails ++ phases ++ slope ++ deltas

/-- MIRROR_ASSEMBLY in slots 44 to 47 (R47, R265): every device of a team sends a frame; the transmitters of any other are off
(R260). -/
def mirrorAssembly (s : State) : State :=
  match s.reflect.find? fun e => e.1 = s.now + 2 with
  | some e => { s with mirrorTx := e.2, reflect := s.reflect.erase e }
  | none =>
  if s.oN Obj.testActive = 8 then { s with mirrorTx := [] }
  else if !teamed s || !s.mgtOn then { s with mirrorTx := [] }
  else
    let s := queueChanges s
    let (first, ds, s) := frameDeltas s
    { s with mirrorTx := mirrorPayload s first ds }

/-- The 8 coded blocks of the frame assembled last, as the lanes carry them (R262). -/
def mirrorBlocks (s : State) : List (List Byte) := (List.range 8).map fun b => rsEncode ((s.mirrorTx.drop (32 * b)).take 32)

/-! ## Receiving deltas -/

/-- Map a 24-bit stamp of the sender to this device's unwrapped frames; `senderNow` is the sender's frame number as it
stands at this check, its header frame plus 2 (R266). -/
def mapStamp (s : State) (senderNow stamp : Nat) : Nat := s.now - (senderNow + 2 ^ 24 - stamp) % 2 ^ 24

/-- The rounds that have passed since a round the sender stamped: its own rounds are mapped like its frames, by the difference of the frame
numbers (R266; DEDUCED, log entry 109). -/
def roundsSince (senderNow stamp : Nat) : Nat :=
  (senderNow % 2 ^ 32 / 1000 + roundsPerWrap - stamp % roundsPerWrap) % roundsPerWrap

/-- Why a rail goes off, as the state of the sequencer tells: 4 in a reversal, 3 in an abort, else 1. -/
def offKindNow (s : State) : Nat :=
  if s.oN Obj.sequencerState = 4 then 4 else if s.oN Obj.sequencerState = 5 then 3 else 1

/-- A discharge measured from a frame of the past (R197). -/
def measureFrom (r since : Nat) (s : State) : State :=
  let s := ((s.setFlag .dis false r).setFlag .disOn true r).setFlag .disPast false r
  (s.condOff (railSrc r) 0x12).setVar .disT (since + s.oN (Obj.seqDisWait r) + 1 : Nat) r

/-- A rail's seq state from a delta, with the origin of its timers (R218). The rise timer of a rail with a test starts with its soft start
(R193); a rail that was on and now is blocked or failed, and off, is measured from there (R197, R200). -/
def adoptSeq (r st since : Nat) (s : State) : State :=
  let was := seqSt s r
  let s := (setSeq r st s).setVar .seqSince since r
  if st = SS.released then s.setVar .onT (since + s.oN (Obj.seqOnDelay r) + 1 : Nat) r
  else if st = SS.rising then
    let s := ((s.setVar .startTick (since + 2 : Nat) r).setVar .offKind 0 r).setFlag .dis false r
    let s := (s.setFlag .disOn false r).condOff (railSrc r) 0x12
    if r < 20 then s else s.setVar .riseT (since + s.oN (Obj.seqRiseMax r) + 1 : Nat) r
  else if st = SS.offDelay then (markOff r 1 s).setVar .offT (since + s.oN (Obj.seqOffDelay r) + 1 : Nat) r
  else if st = SS.waitPred then markOff r (offKindNow s) s
  else if st = SS.discharging then
    let s := (s.setVar .offKind (offKindNow s) r).setFlag .offGot true r
    (measureFrom r (since + 1) s).setVar .offTick (since + 1 : Nat) r
  else if st = SS.off ∧ was = SS.discharging then dischargedNow r s
  else if st = SS.blocked ∨ st = SS.failed then
    let s := s.setVar .blockedAt since r
    let off := decide (railState s r = RS.off ∨ railState s r = RS.failed)
    if seqOn was && off then measureFrom r (s.varN .railSince r) s else s
  else s

/-- The yard state from a delta, with the origin of its timers; it is checked against what the device observes on YARD, a difference being
kept (R218; no rule says what follows: log entry 109). The rails of a power-down state that are not on are measured from its entry (R197). -/
def adoptYard (k st pending since : Nat) (s : State) : State :=
  let s := (s.setFlag .yardDiff (yardShared s && decide (s.varN .yardSeen ≠ k))).setVar .yardSeen k
  let fresh := decide (yardAt s ≠ k)
  let s := ((s.setO Obj.sequencerYardState k).setVar .yardGo 0).setVar .yardSince since
  let s := (s.setO Obj.sequencerState st).setO Obj.sequencerPending pending
  let dw := s.oN (Obj.yardDwell k)
  let s := (s.setVar .dwellT (since + dw + 1 : Nat)).setVar .readyT (since + dw + 1001 : Nat)
  if fresh && decide (33 ≤ k) then
    s.forEach (seqRails s) fun r s =>
      let here := if st = 4 then decide (upOf s r = 64 - k) else decide (downOf s r = k)
      if here && !seqOn (seqSt s r) && !s.varB .offKind r && decide (seqSt s r ≠ SS.discharging) then measureFrom r since s else s
  else s

/-- The timers of a rail's state from the frame of its entry (R94, R95, R143, R193, R266). No delta carries the voltage at the start
command, which the record of a pre-bias wait takes from the voltage as this device has it here, nor the class and the retry of a hiccup,
which its record takes from the source as this device knows it (R104, R606; DESIGN CHOICE, log entry 114). A wait below 150 mV is that for
the first tick of the window (R94). A buck's Vramp is in no mirror frame: its windows run against the goal of a buck that regulates, and
against a ramp from the voltage of one that starts (R261; DESIGN CHOICE, log entry 116). -/
def adoptRail (r st since : Nat) (s : State) : State :=
  let s := s.setVar .railSince since r
  if st = RS.wait ∧ r < 20 ∧ s.var .vMean r < 600 then (s.stopT .waitT r).setVar .testStart (since + 2 : Nat) r
  else if st = RS.wait ∧ r < 20 then
    let s := ((s.setVar .waitV (s.var .vMean r) r).setVar .waitStart since r).setVar .testStart 0 r
    s.setVar .waitT (since + s.oN (Obj.seqDisWait r) + 1 : Nat) r
  else if st = RS.test ∧ r < 20 then (s.stopT .waitT r).setVar .testStart (since + 1 : Nat) r
  else if 12 ≤ r ∧ r < 20 ∧ st = RS.regulating then s.setVar .vramp (3200000 * goalCode s r) r
  else if 12 ≤ r ∧ r < 20 ∧ st = RS.softStart then
    (s.setVar .vramp (3200000 * s.var .vMean r) r).setVar .riseT (since + s.oN (Obj.seqRiseMax r) + 1 : Nat) r
  else if st = RS.softStart ∨ (20 ≤ r ∧ st = RS.regulating ∧ seqSt s r = SS.rising) then
    s.setVar .riseT (since + s.oN (Obj.seqRiseMax r) + 1 : Nat) r
  else if st = RS.hiccup then
    let rounds := (s.now - since + 999 - s.oN Obj.frameNumber % 1000) / 1000
    let wait := if r < 12 then s.oN (Obj.railHiccupWait r)
      else if r < 20 then s.oN (Obj.abHiccupWait (r - 12)) else s.oN (Obj.scHiccupWait (r - 20))
    let s := (s.setVar .hicCls (s.o (Obj.srcLastClass (railSrc r))) r).setVar .hicNum (s.o (Obj.srcHiccups (railSrc r))) r
    s.setVar .hicT (s.nowRound - rounds + wait + 1 : Nat) r
  else if (st = RS.off ∨ st = RS.failed) ∧ (seqSt s r = SS.blocked ∨ seqSt s r = SS.failed) then measureFrom r since s
  else s

/-- Apply one accepted entry (R266, R269 to R271). `senderNow` maps its stamps; a counting window or a quiet period may have begun before this
device powered on (R250). -/
def applyDelta (senderNow : Nat) (d : Delta) (s : State) : State :=
  let low := d.value % 256
  let since := mapStamp s senderNow (d.value / 256)
  let k := d.key
  if d.kind = 0x01 then (if k < 52 then adoptSeq k low since s else s)
  else if d.kind = 0x02 then adoptYard (k % 64) (low % 16) (low / 16 % 4) since s
  else if d.kind = 0x03 then
    if k < 8 then
      ((s.setO (Obj.padState k) (low % 2 : Nat)).setO (Obj.padCause k) (low / 2 % 8 : Nat)).setVar .pdisT
        (since + s.oN (Obj.padPdisMin k) + 1 : Nat) k |>.setVar .padSince since k
    else s
  else if d.kind = 0x07 then
    -- the state of a multiphase rail comes with every frame; its entry comes here
    if k < 12 then (if railState s k = low then adoptRail k low since s else s)
    else if k < 52 then
      let s := setRailState k low s
      let en := decide (low = RS.regulating)
      let s := if 20 ≤ k then s.setFlag .scEn en (k - 20) else s
      adoptRail k low since (if decide (20 ≤ k) && en then s.setFlag .scOv true (k - 20) else s)
    else s
  else if d.kind = 0x08 then hsAdopt low since s
  else if d.kind = 0x05 then (if k < 8 then s.setVar .abDemand d.value k else s)
  else if d.kind = 0x20 then { s with ledRx := s.ledRx ++ [(k, d.value)] }
  else if d.kind = 0x21 then
    let s := s.ledRx.foldl (fun s e => setTokens e.1 e.2 s) s
    ({ s with ledRx := [] }.setO Obj.budgetGen d.value).setFlag .wbAgain true 1
  else if d.kind = 0x10 then s.setO (Obj.srcUnack k) d.value
  else if d.kind = 0x11 then showLevel k (s.setO (Obj.srcUncleared k) d.value)
  else if d.kind = 0x12 then
    if d.value = 0 then (s.stopT .winT k).setO (Obj.srcWinCount k) 0
    else (s.setO (Obj.srcWinCount k) low).setVar .winT
      (max 1 (s.nowRound - roundsSince senderNow (d.value / 256) + s.o (Obj.srcCountW k) + 1)) k
  else if d.kind = 0x13 then
    let s := (s.setO (Obj.srcHiccups k) (low % 16 : Nat)).setFlag .series (low.testBit 4) k
    let s := s.setVar .mirLevel (if low / 32 = 7 then 0 else low / 32 + 1 : Nat) k
    s.setVar .quietStart (s.nowRound - roundsSince senderNow (d.value / 256)) k
  else if d.kind = 0x30 then acknowledge k d.value s
  else if d.kind = 0x31 then (ackAllWrite 1 s).2
  else if d.kind = 0x40 then
    let key := objKey (d.value % 65536) k
    ((s.setVar .grpKey (key + 1 : Nat)).setVar .grpLen (d.value / 65536 % 16 : Nat)).setVar .grpLo 0
  else if d.kind = 0x41 then
    if !s.varB .grpKey then s
    else
      let len := s.varN .grpLen
      let lo := if k = 0 then d.value else s.varN .grpLo
      let hi := if k = 0 then 0 else d.value
      if k = 0 ∧ 4 < len then s.setVar .grpLo d.value
      else
        { s with fwdIn := s.fwdIn ++ [(s.varN .grpKey - 1, leBytes len (lo + 2 ^ 32 * hi))] }.setVar .grpKey 0
  else if d.kind = 0x06 then (if k < 8 then s.setVar .digestRx (d.value + 1 : Nat) k else s)
  else if d.kind = 0x3F then (s.setFlag .admEnd true).setVar .admEndAt (s.now + 1 : Nat)
  else s

/-- DELTA_ACCEPT: entries with the next expected sequence numbers (R267); the first accepted one sets the expectation. -/
def acceptDeltas (senderNow first : Nat) (ds : List Delta) (s : State) : State :=
  ((ds.zipIdx).foldl (fun s (d, i) =>
    let seq := (first + i) % 65536
    if d.kind = 0 then s
    else if s.varB .rxAny && decide (seq ≠ s.varN .rxNext) then s
    else
      let s := (s.setFlag .rxAny true).setVar .rxNext ((seq + 1) % 65536 : Nat)
      let s := if s.oN Obj.teamAdmState = 2 then s.addO Obj.teamAdmProgress 1 else s
      applyDelta senderNow d s) s)

/-- The twin's ack covers every sent entry up to it, in sequence (R267). With nothing outstanding it tells the number that the twin expects
next: a queue dropped at a change of role, or a BOOT, would else leave the two apart for good (DESIGN CHOICE, log entry 110). -/
def coverAck (ack : Nat) (s : State) : State :=
  if s.dsent.isEmpty then (if ack = 0xFFFF then s else s.setVar .dqSeq ((ack + 1) % 65536 : Nat))
  else if ack = 0xFFFF ∧ !s.dsent.any (fun e => e.seq = 0xFFFF) then s
  else
    match s.dsent.findIdx? fun e => e.seq = ack with
    | some i =>
      let s : State := { s with dsent := s.dsent.drop (i + 1) }
      if s.varB .dqResend && !s.dsent.any (fun e => e.seq + 1 = s.varN .dqResend) then s.setVar .dqResend 0 else s
    | none => s

/-- DELTA_RESEND: an entry is uncovered 6 frames after it was sent (R267), with no harness loop-back running (R579). -/
def execDeltaResend (s : State) : Out :=
  match s.dsent with
  | e :: _ =>
    if teamed s ∧ e.frame + 6 ≤ s.now ∧ !s.varB .dqResend ∧ s.oN Obj.testActive ≠ 8 then
      .next ((s.setVar .dqResend (e.seq + 1 : Nat)).bumpSat Obj.hlResends)
    else .next s
  | [] => .next s

/-! ## Checking a received frame (R263 to R265) -/

/-- Bytes `off` to `off + n − 1` as a number. -/
def field (d : List Byte) (off n : Nat) : Nat := ofLeBytes ((d.drop off).take n)

/-- The decoded payload, the number of blocks with corrections and of blocks that do not decode. -/
def mirrorDecode (rx : MirrorRx) : List Byte × Nat × Nat :=
  rx.blocks.foldl (fun (d, c, u) b =>
    match rsDecode b with
    | some (w, k) => (d ++ w.take 32, if 0 < k then c + 1 else c, u)
    | none => (d ++ List.replicate 32 0, c, u + 1)) ([], 0, 0)

/-- Why a frame is not good, by the codes of record 0x050A; none where it is good (R263). A frame that shows the twin at the device's own
position is good, and R258 settles who acts at which: code 0x04 does not arise (DEDUCED, log entry 113). -/
def frameFailure (s : State) (rx : MirrorRx) (d : List Byte) (bad : Nat) : Option Nat :=
  if !rx.lock0 || !rx.lock1 then some 0
  else if !rx.marks || decide (rx.blocks.length ≠ 8) || rx.blocks.any (fun b => b.length ≠ 38) then some 1
  else if bad ≠ 0 then some 2
  else if field d 0 1 ≠ 1 then some 3
  else if s.varB .lastFrame ∧ s.varN .missCnt = 0 ∧ field d 2 4 ≠ s.varN .lastFrame % 2 ^ 32 then some 5
  else none

/-- HARNESS_DOWN: two consecutive missed frames (R264); a holder watches REIN_IN for 8 ticks (R288). -/
def harnessDown (bad : Nat) (s : State) : State :=
  let s := (s.setBit Obj.teamLink 3 false).bumpSat Obj.hlDowns
  let s := (s.setVar .downAt_ s.now).setVar .admMiss 0
  let s := s.raise 140 1 (u32 (s.var .goodRun) ++ u8 (s.oN Obj.teamLink % 4 : Nat) ++ u8 bad)
  let s := if holder s then s.startT .lostT 8 else s
  s.setVar .goodRun 0

/-- A missed frame (R263, R264, R280). -/
def frameMissed (why bad : Nat) (s : State) : State :=
  let s := ((s.addVar .missCnt 1).setVar .goodCnt 0).bumpSat Obj.hlMissed
  let s := (s.setBit Obj.teamLink 2 false).setVar .cfgBad 0
  let s := s.raisePer 140 0 s.nowRound
    (u8 why ++ u16 (min 65535 (s.var .missCnt)) ++ u8 bad ++ u32 (s.o Obj.frameNumber))
  let s := if s.oN Obj.teamAdmState = 1 ∨ s.oN Obj.teamAdmState = 2 then s.addVar .admMiss 1 else s
  if s.varN .missCnt = 2 then
    let s := if s.bit Obj.teamLink 3 then harnessDown bad s else s
    -- no takeover from a holder that was in SAFE or BOOT
    if role s = Role.standby ∧ (s.varN .twinMode = Mode.safe.code ∨ s.varN .twinMode = Mode.boot.code) then
      enterOut 3 s
    else s
  else s

/-- The list positions of a rail as the states of its phases tell them: a phase that switches, is shed or is in test holds its own, and a
spare in use holds that of a phase that has failed, in list order (R160). -/
def shadowPositions (s : State) (m : Nat) : List Nat :=
  let inUse (n : Nat) : Bool := decide (PS.test ≤ s.oN (Obj.phaseState n) ∧ s.oN (Obj.phaseState n) ≤ PS.shed)
  let l := listOf s m
  assignPositions (fun n => !inUse n) (declaredSpare s m) l (l.filter fun n => declaredSpare s m n && inUse n)

/-- The shadow of a rail follows the states taken over: SEN_MRm, the members, the excursions of a new start (R186), and the interleave of the switching set, which its own grid carries
(R101, R112, R144). `sw` and `was` are the switching set and the rail state before. A rail that comes on begins its loop afresh. -/
def shadowRail (m : Nat) (sw : List Nat) (was : Nat) (s : State) : State :=
  let on := railOn s m
  let ps := if on || decide (railState s m = RS.wait ∨ railState s m = RS.test) then shadowPositions s m else []
  let s := s.forRange 48 fun i s => s.setVar .posPhase (ps.getD i 0 : Nat) m i
  let s := if decide (railState s m ≠ was) && decide (was = RS.off ∨ was = RS.failed ∨ was = RS.hiccup) then
      s.forEach (railPhases s m) fun n s =>
        ((s.setVar .excArm 1 n).setVar .excRef (s.o (Obj.tmT m)) n).setVar .refNext 0 n
    else s
  let s := s.setFlag .senOn (decide (RS.test ≤ railState s m ∧ railState s m ≤ RS.softStop)) m
  let s := if on && !judged was then
      let s := ((s.setFlag .eValid false m).setFlag .vinValid false m).setVar .ilp 0 m
      ((s.setVar .updCnt 0 m).setVar .updAt (instant s 0 + 1 : Nat) m).setVar .targetNow (s.var .vMean m) m
    else if on then s
    else s.forEach (railPhases s m) fun n s => quietPhase (instant s 0) n s
  let new := switching s m
  let s := s.setO (Obj.railNSw m) new.length
  showPool m (if new = sw then s else respread m (instant s 0) new s)

/-- MIRROR_STATE_ADOPT: a STANDBY takes rails, phases and slopes from a good frame (R101, R144, R186). The mirror carries the sum off[n]
of R129 only: it enters cb[n] whole, with th[n] 0 until the next round (DESIGN CHOICE, log entry 92). A failed mark or a substitution taken here adds nothing
to the wear counters and status of this device (R186; DESIGN CHOICE, log entry 116). -/
def mirrorAdopt (d : List Byte) (s : State) : State :=
  let old := s
  let s := s.forRange 12 fun m s =>
    if !railExists s m then s
    else
      let o := 24 + 8 * m
      let iacc := ofTwos 32 (field d o 4)
      let new := iacc + s.var .iaccPrev m + s.var .iaccInc m
      let diff : Int := (new - s.var .iacc m).natAbs
      let s := if s.var .iaccDiv < diff then s.setVar .iaccDiv diff else s
      let s := (s.setVar .iacc new m).setVar .vramp (3200000 * (field d (o + 4) 2 : Nat)) m
      let st := field d (o + 6) 1
      let s := if railState s m = st then s else adoptRail m st (s.now - 2) (setRailState m st s)
      s.setO (Obj.railShedLvl m) (field d (o + 7) 1 : Nat)
  let s := s.forRange 48 fun n s =>
    if !phaseExists s n then s
    else
      let o := 120 + 2 * n
      let b := field d (o + 1) 1
      let s := (s.setVar .cb (ofTwos 8 (field d o 1)) n).setVar .th 0 n
      let s := s.setO (Obj.phaseState n) (b % 8 : Nat)
      if b % 8 = PS.failed ∧ !phaseFailed s n then
        let s := s.setFlag .senseMark (decide (b / 16 = 2)) n
        ((s.setBit (Obj.wearStatus n) 0 true).setO (Obj.wearFailCause n) (b / 16 : Nat)).setVar .wearSoon (s.nowRound + 1 : Nat) n
      else s
  let s := s.forRange 12 fun m s => if railExists s m then shadowRail m (switching old m) (railState old m) s else s
  let i := field d 2 4 % 12
  s.forRange 4 fun j s =>
    let n := 4 * i + j
    if phaseExists s n then
      let l := field d (216 + 4 * j) 2
      let s := if s.oN (Obj.phaseLLearned n) = l then s else (s.setO (Obj.phaseLLearned n) l).setFlag .lLive true n
      s.setO (Obj.phaseSlopeCode n) (field d (218 + 4 * j) 2 : Nat)
    else s

/-- Start an admission state with its timer. -/
def admGo (st frames : Nat) (s : State) : State :=
  ((s.setO Obj.teamAdmState st).startT .admT frames).setVar .admAt s.now

/-- An admission fails: source 145, and a new request after team.readmit_wait (R290). -/
def admFail (reason : Nat) (s : State) : State :=
  let s := s.raiseAction 145 0 (u8 (s.o Obj.teamAdmState) ++ u8 reason)
  let s := ((s.setO Obj.teamAdmState 5).stopT .admT).setVar .admReq 0
  let s := if role s = Role.out then idleRails s else s
  (s.setVar .xfer 0).startTR .readmitT (s.oN Obj.teamReadmitWait)

/-- ADMISSION_GRANT at the holder (R290): the twin asks anew, no SAFE, no ledger transaction outstanding. -/
def admGrant (s : State) : State :=
  let st := s.oN Obj.teamAdmState
  let asks := decide (s.varN .twinAdm % 2 = 1)
  let s := if asks then s else s.setVar .admSeen 0
  if holder s && decide (s.mode ≠ .safe) && s.ledTx.isEmpty && decide (st ≠ 1 ∧ st ≠ 2) && asks && !s.varB .admSeen then
    let s := admGo 1 200 (((s.setVar .admEntries 0).setVar .xfer 0).setVar .admSeen 1)
    s.forRange 8 fun i s => enqueueOne 4 6 i (s.oN Obj.imgDigest / 2 ^ (32 * i) % 2 ^ 32) s
  else s

/-- A value that identifies the twin: no field of the frame carries it, so it is a free value (log entry 108). -/
def twinIs (s : State) (what : Nat) : Nat := Config.twinIdentity what (s.oN Obj.hlDowns)

/-- The first item in which the twins differ, by the codes of record 0x050C, with both values: part, rule ROM, layout, digest (R256). -/
def identityDiffers (s : State) : Option (Nat × Nat × Nat) :=
  let own (i : Nat) : Nat := s.oN Obj.imgDigest / 2 ^ (32 * i) % 2 ^ 32
  if s.oN Obj.idPart ≠ twinIs s 1 then some (0, s.oN Obj.idPart, twinIs s 1)
  else if s.oN Obj.dictRomId ≠ twinIs s 2 then some (1, s.oN Obj.dictRomId, twinIs s 2)
  else if s.oN Obj.dictLayout ≠ twinIs s 3 then some (2, s.oN Obj.dictLayout, twinIs s 3)
  else if (List.range 8).all fun i => s.varN .digestRx i - 1 = own i then none
  else some (3, own 0, s.varN .digestRx 0 - 1)

/-- ADMISSION_IDENTITY_CHECK at the OUT device, once the holder's digest has arrived (R256, R290). -/
def admIdentity (s : State) : State :=
  if role s = Role.out && s.varB .admReq && decide (s.oN Obj.teamAdmState = 1) && (List.range 8).all (fun i => s.varB .digestRx i) then
    match identityDiffers s with
    | none => admGo 2 1000 (((s.setFlag .admEnd false).setVar .admEndAt 0).setO Obj.teamAdmProgress 0)
    | some (item, own, twin) =>
      admFail 0 (s.raise 144 0 (u8 item ++ u16 (own % 65536 : Nat) ++ u16 (twin % 65536 : Nat)))
  else s

/-- Good header: the admission of both sides advances (R290). -/
def admStep (s : State) : State :=
  let s := admGrant s
  let granted := (s.varN .twinAdm).testBit 1
  -- the OUT device sees the grant
  let s := if role s = Role.out && s.varB .admReq && granted && decide (s.oN Obj.teamAdmState ≠ 1 ∧ s.oN Obj.teamAdmState ≠ 2) then
      let s := (s.forRange 8 fun i s => s.setVar .digestRx 0 i).setVar .admMiss 0
      (admGo 1 200 s).record 0x0506 (u32 (twinIs s 0 % 2 ^ 32 : Nat))
    else s
  -- the holder starts the transfer once its identity entries are covered
  let s := if holder s && decide (s.oN Obj.teamAdmState = 1) && s.dsent.isEmpty && !s.dq.any (fun i => i.kind = 6) &&
      decide (s.now ≠ s.varN .admAt) then
      admGo 2 1000 ((s.setVar .xfer 1).setVar .xferPart 0)
    else s
  admIdentity s

/-- Does REIN_IN read low: at the tick, and in the cycle in which the device would assert REIN_OUT, the end of slot 3 at position 0 and of
slot 11 at position 1, as the frame check of this frame brings it (R276)? -/
def reinFree (s : State) : Bool := !s.pinB .reinIn && decide (s.varN .reinInst ≠ s.now + 1)

/-- ELECTION: both are OUT and the twin claims no token; of devices that are OUT since BOOT position 0 takes it as SOLO, with epoch 1
where neither has had another (R259, R276, R278, R289). -/
def election (s : State) : State :=
  if role s = Role.out && decide (s.oN Obj.teamTwinRole = Role.out) && !s.varB .twinTok && decide (position s = 0) &&
      s.varB .electable && reinFree s then
    let s := reinOut true (takeToken 1 s)
    s.record 0x0504 (u8 2 ++ u8 0)
  else s

/-- TOKEN_CONFLICT: the twin claims the token too; position 1 releases it (R259). -/
def tokenConflict (s : State) : State :=
  if holder s && s.varB .twinTok then
    let keep := decide (position s = 0)
    let s := s.raise 143 0 (u32 (s.o Obj.teamEpoch) ++ u16 (s.varN .twinEpoch % 65536 : Nat) ++ u8 (State.ofBool keep))
    if keep then s else reinOut false (enterOut 0xA s)
  else s.condOff 143 0

/-- POSITION_CONFLICT: the twin reports this device's position; the one with the lower id.uid then acts as position 0 (R258). -/
def positionConflict (s : State) : State :=
  if s.varN .twinPos = s.oN Obj.teamPosition then
    let s := s.raise 144 1 (u8 4 ++ u16 (s.o Obj.teamPosition) ++ u16 (s.var .twinPos))
    (s.setFlag .posConf true).setVar .effPos (if s.oN Obj.idUid < twinIs s 0 then 0 else 1)
  else (s.setFlag .posConf false).condOff 144 1

/-- A swap starts on the holder toward a position, with the cause of its yield plus one (R285). -/
def swapStart (cause target : Nat) (s : State) : State :=
  ((s.setVar .swapOn (cause + 1 : Nat)).setVar .swapTo (target + 1 : Nat)).setVar .swapAt s.now

/-- SWAP_COLLISION and the swap request of a STANDBY: a holder takes a request up once, where it begins or where its own has just given way
(R285, R286). -/
def swapHeader (h : Nat) (s : State) : State :=
  let twinAsks := h.testBit 5
  let target := if h.testBit 6 then 1 else 0
  let collides := twinAsks && s.varB .swapReq && decide (position s = 1)
  let fresh := twinAsks && (collides || !s.varB .swapSeen)
  let s := s.setFlag .swapSeen twinAsks
  let s := if collides then
      let s := s.raiseAction 147 0 (u8 0 ++ u8 (s.var .swapReq - 1))
      (s.setVar .swapReq 0).setVar .swapOn 0
    else s
  if fresh && holder s && !s.varB .swapOn then
    if target = position s then s.raiseAction 147 0 (u8 2 ++ u8 target) else swapStart 2 target s
  else s

/-- A SOLO holder whose twin is OUT or lost asserts REIN_OUT, where REIN_IN reads low (R276, R279, R295). -/
def soloRein (s : State) : State := if reinFree s then (reinOut true s).record 0x0504 (u8 1 ++ u8 0) else s

/-- A holder keeps REIN_OUT asserted while its twin is OUT or lost; one that has just admitted its twin gives it 8 frames to show itself as
STANDBY (R279; DESIGN CHOICE, log entry 114). -/
def keepRein (s : State) : State :=
  let t := s.oN Obj.teamTwinRole
  if teamed s && decide (role s = Role.solo) && !s.bit Obj.teamLink 5 && decide (t = Role.out ∨ t = 0xFF) &&
      !(decide (s.oN Obj.teamAdmState = 4) && decide (s.now ≤ s.varN .admAt + 8)) then
    soloRein s
  else s

/-- A good frame (R263 to R292). -/
def frameGood (d : List Byte) (s : State) : State :=
  let s := ((s.setVar .missCnt 0).addVar .goodCnt 1).addVar .goodRun 1
  let s := (s.bumpSat Obj.hlGood).setBit Obj.teamLink 2 true
  let h := field d 1 1
  let frame := field d 2 4
  let s := (s.setVar .lastFrame (frame + 1 : Nat)).setVar .twinPos (h / 4 % 2 : Nat)
  let s := (s.setO Obj.teamTwinRole (h % 4 : Nat)).setFlag .twinTok (h.testBit 3)
  let s := (s.setVar .twinEpoch (field d 6 4)).setVar .twinMode (field d 10 1)
  let s := s.setVar .twinAdm (field d 11 1)
  let s := s.setVar .twinYield (if h.testBit 4 then field d 20 1 + 1 else 0 : Nat)
  let s := s.setVar .twinCfg (field d 16 4 : Nat)
  let match_ := decide (field d 16 4 = s.oN Obj.imgDigest % 2 ^ 32)
  let s := (s.setBit Obj.teamLink 7 match_).setVar .cfgBad (if match_ then 0 else s.var .cfgBad + 1)
  let s := if match_ then s.condOff 144 0 else s
  let s := s.setVar .joinT (s.now + s.oN Obj.teamJoinWait + 1 : Nat)
  let s := tokenConflict (positionConflict s)
  let s := coverAck (field d 14 2) s
  -- a device that takes the state transfer runs in shadow too (R290)
  let s := if role s = Role.standby ∨ (role s = Role.out ∧ s.oN Obj.teamAdmState = 2) then mirrorAdopt d s
    else s
  let ds := (List.range 4).map fun i => Delta.mk (field d (232 + 6 * i) 1) (field d (233 + 6 * i) 1) (field d (234 + 6 * i) 4)
  let s := acceptDeltas (frame + 2) (field d 12 2) ds s
  let s := swapHeader h s
  -- a holder is ACTIVE while its twin is STANDBY, else SOLO (R257)
  let s := if role s = Role.solo ∧ s.oN Obj.teamTwinRole = Role.standby then setRole Role.active 7 s
    else if role s = Role.active ∧ s.oN Obj.teamTwinRole ≠ Role.standby then setRole Role.solo 9 s else s
  admStep (election s)

/-- A received frame is judged good or missed; blocks with corrected bytes count in either (R263). -/
def frameCheck (rx : MirrorRx) (s : State) : State :=
  let (d, corrected, bad) := mirrorDecode rx
  let s := s.setVar .reinInst (if rx.rein then s.now + 1 else 0 : Nat)
  let s := (s.setBit Obj.teamLink 0 rx.lock0).setBit Obj.teamLink 1 rx.lock1
  let s := s.countCond .lockBad (!rx.lock0 || !rx.lock1)
  let s := if s.varN .lockBad = 8 then
      s.raise 140 2 (u32 (s.var .goodRun) ++ u8 (s.oN Obj.teamLink % 4 : Nat) ++ u8 bad) else s
  let s := if s.varB .lockBad then s else s.condOff 140 2
  let s := if 0 < corrected then s.addSat Obj.hlCorrected corrected 4294967295 else s
  let s := if 0 < bad then s.addSat Obj.hlUncorr bad 4294967295 else s
  keepRein (match frameFailure s rx d bad with
    | some why => frameMissed why bad s
    | none => frameGood d s)

/-- HARNESS_UP: 100 consecutive good frames (R264), with no harness loop-back running (R579). -/
def execHarnessUp (s : State) : Out :=
  if teamed s && !s.bit Obj.teamLink 3 && decide (100 ≤ s.varN .goodCnt) && decide (s.oN Obj.testActive ≠ 8) then
    let s := (s.setBit Obj.teamLink 3 true).setVar .linkUpAt s.now
    .next ((s.condOff 140 1).record 0x0503 (u32 (s.now - s.varN .downAt_ : Nat)))
  else .next s

/-- SYMBOL_LOCK_GAINED: a receive lane gains symbol lock, with the skew measured (R262). -/
def execSymbolLockGained (lane skew : Nat) (s : State) : Out :=
  if lane < 2 ∧ s.mgtOn then .next ((s.setBit Obj.teamLink lane true).setO Obj.hlSkew (min skew 255 : Nat)) else .next s

/-- SYMBOL_LOCK_LOST (R262, R263). -/
def execSymbolLockLost (lane : Nat) (s : State) : Out :=
  if lane < 2 then .next (s.setBit Obj.teamLink lane false) else .next s

/-- CFG_MISMATCH: 1,000 consecutive good frames with another cfg_id (R292). -/
def execCfgMismatch (s : State) : Out :=
  if decide (role s = Role.standby) && decide (1000 ≤ s.varN .cfgBad) then
    let s := s.raiseLater 144 0 (u8 3 ++ u16 (s.oN Obj.imgDigest % 65536 : Nat) ++ u16 (s.varN .twinCfg % 65536 : Nat))
    .next (enterOut 0xB (s.setVar .cfgBad 0))
  else .next s

/-! ## Takeover (R274 to R283) -/

/-- A PWM net high too long: longer than P × TFCLK − toff_min + 100 ns, or at 8 ticks while its phase is off, spare or failed (R274). -/
def pwmViolates (s : State) (n : Nat) (x : NetSeen) : Bool :=
  let m := s.oN (Obj.phaseRail n)
  let st := s.oN (Obj.phaseState n)
  phaseExists s n && x.high &&
    ((decide (m < 12) && decide (2 * x.ns + 5 * s.oN (Obj.phaseToffMin n) > 5 * s.oN (Obj.railPeriod m) + 200)) ||
     (decide (st = PS.off ∨ st = PS.spare ∨ st = PS.failed) && decide (8000 ≤ x.ns)))

/-- The level that the mirrored state implies on SEN_MRm (1), EN_SCc (2) or PDIS_N (3); a released open drain is high (R274). -/
def impliedLevel (s : State) (kind num : Nat) : Option Bool :=
  if kind = 1 then (if decide (num < 12) && railExists s num then some (s.varB .senOn num) else none)
  else if kind = 2 then (if num < 32 then some ((enScLevel s num).getD true) else none)
  else if kind = 3 then (if num < 8 then some ((pdisLevel s num).getD true) else none)
  else none

/-- DRIVE_VIOLATION: a team net differs from what the mirrored state implies (R274). -/
def execDriveViolation (kind num : Nat) (seen : NetSeen) (s : State) : Out :=
  let holds := if kind = 0 then pwmViolates s num seen
    else decide (impliedLevel s kind num = some (!seen.high)) && decide (64000 ≤ seen.ns)
  if decide (role s = Role.standby) && s.oB Obj.teamDriveChk && holds then
    .next ((((s.setVar .violAt (s.now + 1 : Nat)).setVar .violKind kind).setVar .violNum num).setVar .violDur seen.ns)
  else .next s

/-- Does the trigger of a takeover hold: 0 missed frames, 1 yield, 2 violation? Never against a holder whose last good header reported
SAFE or BOOT (R280). Each further missed frame in a row is a trigger again, as R277 speaks of later ones (DESIGN CHOICE, log entry 114). -/
def triggerHolds (s : State) (trigger : Nat) : Bool :=
  decide (s.varN .twinMode ≠ Mode.safe.code ∧ s.varN .twinMode ≠ Mode.boot.code) &&
  if trigger = 0 then decide (2 ≤ s.varN .missCnt)
  else if trigger = 1 then s.bit Obj.teamLink 2 && s.varB .twinYield
  else decide (trigger = 2) && decide (s.varN .violAt = s.now + 1)

/-- Every uncleared class takes the mirrored level of its source (R291). -/
def takeLevels (s : State) : State :=
  s.forRange 256 fun x s =>
    if s.varB .mirLevel x ∧ s.o (Obj.srcUncleared x) ≠ 0 then
      showLevel x (s.forRange 32 fun c s =>
        if s.bit (Obj.srcUncleared x) c then s.setVar .clsLevel (s.var .mirLevel x) x c else s)
    else s

/-- TAKEOVER: a STANDBY asserts REIN_OUT (R276, R280). It takes the token 150 ns later, when REIN_LOAD_CHECK has found the rein load
(R277). `gap` is the interval it measures, in ns (R283). -/
def execTakeover (trigger gap : Nat) (s : State) : Out :=
  if decide (role s = Role.standby) && teamed s && !s.varB .reinPend && reinFree s && triggerHolds s trigger then
    .next (reinOut true (((s.setVar .reinPend 1).setVar .reinTrig trigger).setVar .reinGap (min gap 65535 : Nat)))
  else .next s

/-- The sequencer goes on from the mirrored states: a rail that waits for its off command takes the reason of the present state, and a
blocked rail that is still on goes off as a dependant (R218); an enabled channel's OV windows are judged (R203). -/
def takeSequencer (s : State) : State :=
  resumeLatched <| s.forEach (seqRails s) fun r s =>
    let s := if decide (20 ≤ r) && s.varB .scEn (r - 20) then s.setFlag .scOv true (r - 20) else s
    let live := if r < 20 then decide (RS.wait ≤ railState s r ∧ railState s r ≤ RS.softStop) else s.varB .scEn (r - 20)
    if decide (seqSt s r = SS.blocked) && live then markOff r 2 s
    else if s.varB .offKind r then s.setVar .offKind (offKindNow s) r
    else s

/-- The takeover stands: the token is taken, and the first drive is at the next tick; each buck's first cycle has the demand received last
(R259, R261, R281 to R283, R291). `load` is in 0.1 mA. -/
def takeoverDone (load : Nat) (s : State) : State :=
  let trigger := s.varN .reinTrig
  let missed := s.var .missCnt
  let s := (takeToken (3 + trigger) s).setVar .swapReq 0
  let s := (s.bump Obj.teamTakeovers).setO Obj.teamLastGap (s.var .reinGap)
  let s := s.raiseAction 141 trigger (u8 trigger ++ u8 (min missed 255) ++ u16 (s.var .reinGap) ++
    u8 (s.var .twinYield - State.ofBool (s.varB .twinYield)) ++ (u32 (s.o Obj.teamEpoch)).take 3)
  let s := s.record 0x0504 (u8 0 ++ u8 (min load 255 : Nat))
  let s := if trigger = 2 then
      s.record 0x050F (u8 (s.var .violKind) ++ u8 (s.var .violNum) ++ u32 (s.var .violDur)) else s
  let s := takeSequencer (takeLevels ((s.setVar .violAt 0).setVar .twinYield 0))
  clearQueue (s.forRange 8 fun b s => s.setFlag .abAdopt true b)

/-- REIN_LOAD_CHECK: the current that REIN_OUT sources 150 ns after it was asserted for a takeover, in µA; below 0.25 mA the rein is
open: REIN_OUT is released and the device stays in its role (R277). -/
def execReinLoadCheck (load : Nat) (s : State) : Out :=
  if s.varB .reinPend then
    let s := s.setVar .reinPend 0
    if load < 250 then
      let s := reinOut false (s.setBit Obj.teamLink 6 false)
      .next (s.raiseLater 142 1 (u8 (load / 100 : Nat) ++ u8 (s.o Obj.teamRole)))
    else .next (lateEvents (takeoverDone (load / 100)) ((s.setBit Obj.teamLink 6 true).condOff 142 1))
  else .next s

/-- REIN_IN_ASSERTED: a device that samples REIN_IN asserted gives up the token and enters OUT (R257, R278). The SAFE
actions that waited for the yield then apply to no net (R284). -/
def execReinInAsserted (s : State) : Out :=
  if s.pinB .reinIn && teamed s && decide (role s ≠ Role.out) then
    let s := s.raiseLater 142 0 (u8 (role s) ++ u16 (min 65535 (s.var .missCnt)))
    .next ((reinOut false (enterOut 6 s)).setVar .safeWait 0)
  else .next s

/-- TWIN_LOST_SOLO: the harness is down and REIN_IN was low at 8 ticks (R270, R276, R279, R288). -/
def execTwinLostSolo (s : State) : Out :=
  if holder s && teamed s && s.dueT .lostT && !s.bit Obj.teamLink 3 && !s.pinB .reinIn then
    let s := s.stopT .lostT
    let old := role s
    let s := ((s.setO Obj.teamRole Role.solo).setO Obj.teamLastCause 9).setO Obj.teamLastTime s.timeNow
    let s := s.raiseAction 148 0 (u8 old ++ u8 1 ++ u8 9 ++ u32 (s.o Obj.teamEpoch))
    let s := soloRein s
    let s := if old = Role.solo then s else s.post 33
    .next (clearQueue (s.setO Obj.teamTwinRole 0xFF))
  else .next s

/-! ## Yield and swap (R284 to R287) -/

/-- A yield takes effect at this tick (R235, R284). -/
def yieldNow (cause : Nat) (s : State) : State :=
  if holder s && !s.varB .yieldOn then ((s.setVar .yieldOn 1).setVar .yieldCause cause).setVar .yieldAt s.now else s

/-- YIELD_NOT_TAKEN: REIN_IN is still low 5 ticks after the yield (R284). SAFE actions that waited act from here on; a swap has failed, and
a holder without MAIN has no rails left (R17). -/
def execYieldNotTaken (s : State) : Out :=
  if s.varB .yieldOn && decide (s.varN .yieldAt + 5 ≤ s.now) && !s.pinB .reinIn then
    let safe := s.varB .safeWait
    let s := s.raiseAction 146 0 (u8 (s.var .yieldCause) ++ u8 (State.ofBool safe))
    let s := if s.mainOn then s else mainRailsOff s
    .next (resumeLatched (((s.setVar .yieldOn 0).setVar .swapOn 0).setVar .swapReq 0))
  else .next s

/-- team.swap (R285): its status and effect. -/
def teamSwap (v : Nat) (s : State) : Status × State :=
  if 2 ≤ v then (.outOfRange, s)
  else if !teamed s || !(decide (s.oN Obj.teamTwinRole = Role.standby) || decide (s.oN Obj.teamTwinRole = Role.active)) then
    (.stateForbids, s)
  else if holder s then
    if v = position s then (.ok, s.raiseActionLater 147 0 (u8 2 ++ u8 v))
    else (.ok, swapStart 2 v (s.setVar .swapReq (v + 1 : Nat)))
  else (.ok, (s.setVar .swapReq (v + 1 : Nat)).setVar .swapAt s.now)

/-- team.release (R287): its status and effect. An OUT device rejects it as a SOLO one does (DESIGN CHOICE, log entry 114). -/
def teamRelease (v : Nat) (s : State) : Status × State :=
  if v ≠ 1 then (.outOfRange, s)
  else if role s = Role.standby then (.ok, s.setFlag .releaseDue true)
  else if role s = Role.active then
    let v := 1 - position s
    (.ok, swapStart 5 v (s.setVar .swapReq (v + 1 : Nat)))
  else (.stateForbids, s)

/-- team.admit (R290): its status and effect; taken in any role (DESIGN CHOICE, log entry 114). -/
def teamAdmit (v : Nat) (s : State) : Status × State :=
  if v ≠ 1 then (.outOfRange, s) else (.ok, (s.setFlag .readmitOk true).stopT .readmitT)

/-- SWAP_DRAINED: nothing queued and everything acknowledged: the holder yields (R285). -/
def execSwapDrained (s : State) : Out :=
  if s.varB .swapOn && holder s && !s.varB .yieldOn && s.dq.isEmpty && s.dsent.isEmpty then
    .next (yieldNow (s.varN .swapOn - 1) s)
  else .next s

/-- SWAP_TIMEOUT: not drained within 32 frames: the swap fails and the holder resumes (R285). -/
def execSwapTimeout (s : State) : Out :=
  if s.varB .swapOn && holder s && !s.varB .yieldOn && decide (s.varN .swapAt + 32 ≤ s.now) then
    let s := s.raiseAction 147 1 (u8 1 ++ u8 (s.var .swapTo - 1))
    .next (resumeLatched ((s.setVar .swapOn 0).setVar .swapReq 0))
  else .next s

/-! ## Election and admission (R289, R290) -/

/-- JOIN_WAIT_EXPIRY: team.join_wait frames without a good frame since BOOT; position 1 waits 1,000 more (R276, R278, R289). -/
def execJoinWaitExpiry (s : State) : Out :=
  let extra := if position s = 1 then 1000 else 0
  if teamed s && s.varB .electable && decide (role s = Role.out) && s.varB .joinT &&
      decide (s.varN .joinT + extra ≤ s.now + 1) && reinFree s then
    let s := reinOut true (takeToken 2 s)
    .next ((s.stopT .joinT).record 0x0504 (u8 2 ++ u8 0))
  else .next s

/-- Does the state of an OUT device allow its request of admission: SETUP or RUN, MAIN powered and no uncleared fault of L3 or above (R290)?
Where it ceases the request ends. -/
def mayRequest (s : State) : Bool :=
  teamed s && decide (role s = Role.out) && decide (s.mode = .setup ∨ s.mode = .run) && s.mainOn && faultFree s

/-- ADMISSION_REQUEST: an OUT device asks once the harness has been up for 100 frames (R290). -/
def execAdmissionRequest (s : State) : Out :=
  if mayRequest s && s.bit Obj.teamLink 3 && decide (s.varN .linkUpAt + 100 ≤ s.now + 1) && !s.varB .admReq &&
      (s.varB .readmitOk || (s.oB Obj.teamAutoAdmit && !s.varB .readmitT)) then
    .next ((s.setFlag .admReq true).setFlag .readmitOk false)
  else .next s

/-- Has the twin acknowledged kind 0x3F, the last entry of the state transfer (R290, R291)? -/
def xferDone (s : State) : Bool := !s.varB .xfer && !s.dsent.any fun e => decide (e.delta.kind = 0x3F)

/-- ADMISSION_TIMEOUT: the identity state lasts 200 frames, the harness goes down, the holder is lost, or 0x3F is missing at
frame 1,000 (R290); a device whose request has ended since fails there (DESIGN CHOICE, log entry 116). -/
def execAdmissionTimeout (s : State) : Out :=
  let st := s.oN Obj.teamAdmState
  if decide (st = 1 ∨ st = 2) && decide (role s = Role.out ∨ holder s) then
    let down := !s.bit Obj.teamLink 3
    let out := decide (role s = Role.out)
    if down then .next (admFail 1 s)
    else if out && !s.varB .twinTok then .next (admFail 3 s)
    else if st = 1 ∧ s.dueT .admT then
      .next (admFail 0 (if out then s.raise 144 0 (u8 3 ++ u16 (s.oN Obj.imgDigest % 65536 : Nat) ++ u16 (s.varN .twinCfg % 65536 : Nat))
        else s))
    else if st = 2 && s.dueT .admT && (if out then !s.varB .admEnd || !s.varB .admReq else !xferDone s) then .next (admFail 2 s)
    else .next s
  else .next s

/-- ADMISSION_COMPLETE: 1,000 frames after the transfer began, with kind 0x3F across, the holder releases REIN_OUT, and the OUT device, with
MAIN powered, becomes STANDBY once REIN_IN reads low (R272, R279, R290, R294). -/
def execAdmissionComplete (s : State) : Out :=
  if decide (s.oN Obj.teamAdmState = 2) && s.dueT .admT then
    if holder s then
      .next (if xferDone s then (((reinOut false s).setO Obj.teamAdmState 4 |>.stopT .admT).setVar .admAt s.now).post 37 else s)
    else if decide (role s = Role.out) && s.varB .admReq && s.varB .admEnd && s.mainOn && !s.pinB .reinIn then
      let s := ((setRole Role.standby 7 s).setO Obj.teamAdmState 4).stopT .admT
      let s := s.record 0x0509 (u16 (s.o Obj.teamAdmProgress) ++ u16 (s.varN .admEndAt - 1 - s.varN .admAt : Nat) ++ u16 (s.var .admMiss))
      .next ((s.setVar .admReq 0).post 37)
    else .next s
  else .next s

/-- READMIT_WAIT_EXPIRY: team.readmit_wait rounds after a failure a new request may be made (R290). -/
def execReadmitWaitExpiry (s : State) : Out :=
  if s.dueTR .readmitT then .next ((s.stopT .readmitT).setFlag .readmitOk (s.oB Obj.teamAutoAdmit)) else .next s

/-! ## Ticks, rounds and modes -/

/-- At the first drive after a takeover every switching phase waits for its next interleave instant, or starts at once where the undershoot
comparator has tripped (R91, R282). -/
def restartPhases (s : State) : State :=
  s.forRange 12 fun m s => s.forEach (switching s m) fun n s =>
    let s := if s.varB .pulse n then endPulse n (instant s 0) s else s
    let s := ((s.setFlag .fresh true n).setFlag .zHold false n).setFlag .negHit false n
    let s := (s.setFlag .cycOpen false n).setFlag .truncated false n
    if s.varB .uvsFire m then s.setVar .uvsPend 2 n else s

/-- The team's share of a tick: REIN_IN, the first drive of a new holder, the integrator increments, the yield of a holder that has lost MAIN (R273), a swap request that no
holder took up in its 32 frames and the 4 of the harness (log entry 111), the roles that MAIN ends, but for HOLDUP (R144, R272, R336). -/
def teamTick (s : State) : State :=
  let s := if mayRequest s then s else s.setVar .admReq 0
  let s := s.setBit Obj.teamLink 4 (s.pinB .reinIn)
  let s := if holder s && decide (s.varN .driveFrom = s.now) then restartPhases s else s
  let s := s.forRange 12 fun m s => (s.setVar .iaccPrev (s.var .iaccInc m) m).setVar .iaccInc 0 m
  let s := if !s.pinB .reinIn then s.condOff 142 0 else s
  let s := if s.varB .releaseDue && decide (role s = Role.standby) then enterOut 8 s else s.setVar .releaseDue 0
  let s := if s.varB .yieldDue then yieldNow 3 (s.setVar .yieldDue 0) else s
  let s := if s.varB .swapReq && !holder s && decide (s.varN .swapAt + 36 ≤ s.now) then s.setVar .swapReq 0 else s
  if role s = Role.standby && !s.mainOn && decide (s.mode ≠ .holdup) then enterOut 6 s else s

/-- team.en has changed at an activation: a device that is no longer teamed has its transmitters off and REIN_OUT released (R260). Its role
stays until the next BOOT, as that of one that becomes teamed does (R602). -/
def teamEnApplied (s : State) : State :=
  if teamed s then s else { clearQueue (reinOut false s) with mirrorTx := [] }

/-- team.iacc_div of the round. -/
def teamRound (s : State) : State :=
  (s.setO Obj.teamIaccDiv (divNearest (s.var .iaccDiv) 256)).setVar .iaccDiv 0

/-- The end of BOOT (R260, R289): SOLO where the device is not teamed, else OUT with the join wait running. -/
def teamBootEnd (s : State) : State :=
  if teamed s then (s.startT .joinT (s.oN Obj.teamJoinWait)).setFlag .electable true
  else (setRole Role.solo 0 s).setVar .driveFrom s.now

/-- A mode is entered: a STANDBY that enters BOOT, BENCH, SAFE or BACKUP enters OUT (R272). -/
def teamEnterMode (m : Mode) (s : State) : State :=
  if role s = Role.standby ∧ (m = .boot ∨ m = .bench ∨ m = .safe ∨ m = .backup) then enterOut 6 s else s

/-- May this device serve a write of an index (R269)? -/
def teamMayWrite (s : State) (index : Nat) : Bool :=
  let mine := decide ((0x1000 ≤ index ∧ index ≤ 0x131F) ∨ (0x2000 ≤ index ∧ index ≤ 0x25FF) ∨
    (0x2C00 ≤ index ∧ index ≤ 0x2CFF) ∨ (0x4400 ≤ index ∧ index ≤ 0x44FF))
  !(teamed s && mine && (role s = Role.standby || role s = Role.out))

/-- Is a write of an object forwarded as a write group (R269)? -/
def forwarded (key : Nat) : Bool :=
  let i := keyIndex key
  decide ((0x1000 ≤ i ∧ i ≤ 0x131F) ∨ (0x2000 ≤ i ∧ i ≤ 0x25FF) ∨ (0x2C00 ≤ i ∧ i ≤ 0x2CFF)) ||
    decide (key = Obj.sysModeReq)

/-- Is there room in the journal for an object (R269)? -/
def journalRoom (s : State) (key : Nat) : Bool := s.journal.any (fun e => e.1 = key) || decide (s.journal.length < 512)

/-- An accepted write enters the journal and is sent to the twin (R269). -/
def forwardWrite (key len : Nat) (v : Int) (s : State) : State :=
  if teamed s && holder s && forwarded key then
    let j := if s.journal.any (fun e => e.1 = key) then s.journal.map fun e => if e.1 = key then (key, v) else e
      else s.journal ++ [(key, v)]
    let s : State := { s with journal := j }
    let s := s.setO Obj.teamJournal s.journal.length
    if sendsDeltas s then enqueue ⟨3, 0x40, key, writeGroup key len (toTwos (8 * len) v)⟩ s else s
  else s

/-- A write refused for a full journal raises class 0x00 of source 149 (R269). -/
def journalFull (key : Nat) (s : State) : State :=
  s.raiseAction 149 0 (u16 (keyIndex key) ++ u8 (keySub key) ++ u16 s.journal.length)

end Sys2Proof.Machine
end

