-- ==== Sys2Proof/Machine/Ledger.lean ====
section
/-!
DEFINITION. Conservation Guarantees (spec/19_conservation.md): the charge ledger, the power budget, event counts, the
two-slot write-backs, the close.
-/

namespace Sys2Proof.Machine

/-- A violation of a ledger (R544, R545). -/
def violation (cls : Nat) (diff : Int) (boot : Bool) (s : State) : State :=
  (s.bump Obj.ledgerViolations).raiseAction 229 cls (u8 cls ++ u32 diff ++ u8 (if boot then 1 else 0))

/-! ## Charge ledger (R530 to R532) -/

/-- The attributions of R353: 0 charge, 1 holdup, 2 exercise, 3 self-discharge. -/
def chargeTerm (k : Nat) : Nat :=
  [Obj.chgInCharge, Obj.chgOutHoldup, Obj.chgOutExercise, Obj.chgOutSelfdis].getD k Obj.chgOutSelfdis

/-- Whole nanocoulombs enter exactly one term, and the stored charge, in the same frame (R530). -/
def chargeAdd (k : Nat) (n : Int) (s : State) : State :=
  (s.addO (chargeTerm k) (if k = 0 then n else -n)).addO Obj.chgStored n

/-- The left side minus the right side of R530. -/
def chargeBalance (s : State) : Int :=
  s.o Obj.chgStored - (s.o Obj.chgBase + s.o Obj.chgInCharge - s.o Obj.chgOutHoldup - s.o Obj.chgOutExercise -
    s.o Obj.chgOutSelfdis)

/-- CHARGE_LEDGER_CHECK (R532); it leaves out a ledger with a lost line until the line is written again (R542). -/
def chargeCheck (boot : Bool) (s : State) : State :=
  let b := chargeBalance s
  let s := s.setO Obj.chgBalance b
  if ledgerLost s Ledger.charge 128 then s
  else
    let s := s.setBit Obj.ledgerStatus 2 (decide (b = 0))
    if b = 0 then s else violation 0 b boot s

/-! ## Power budget (R533 to R538) -/

/-- The sum of the allocations. -/
def allocSum (s : State) : Nat := ((List.range 52).map fun r => s.oN (Obj.budgetAlloc r)).sum

/-- The sum of the floors. -/
def floorSum (s : State) : Nat := ((List.range 52).map fun r => s.oN (Obj.budgetFloor r)).sum

/-- BUDGET_LEDGER_CHECK (R533); it leaves out a ledger with a lost line until the line is written again (R542). -/
def budgetCheck (boot : Bool) (s : State) : State :=
  let s := s.setO Obj.budgetAllocated (allocSum s)
  let d : Int := (allocSum s : Int) + s.o Obj.budgetFree - s.o Obj.budgetGrant
  if ledgerLost s Ledger.budget 512 then s else
  let s := s.setBit Obj.ledgerStatus 3 (decide (d = 0))
  if d = 0 then s.condOff 229 1 else
    if s.condOn 229 1 then s else (violation 1 d boot s).setBit (Obj.srcCond 229) 1 true

/-- The ledger at the first BOOT and after a loss (R533). -/
def budgetRestart (s : State) : State :=
  let s := s.setO Obj.budgetGrant (s.o Obj.budgetInitGrant)
  let s := s.forRange 52 fun r s => s.setO (Obj.budgetAlloc r) (s.o (Obj.budgetFloor r))
  s.setO Obj.budgetFree (s.o Obj.budgetInitGrant - allocSum s)

/-- The tokens that a rail's limit may claim: an allocation about to fall counts as fallen, up to the transaction that lowers it (R535). -/
def limitTokens (s : State) (r : Nat) : Nat :=
  let a := if s.varB .allocNew r then min (s.oN (Obj.budgetAlloc r)) (s.varN .allocNew r - 1) else s.oN (Obj.budgetAlloc r)
  match s.ledTx.find? fun e => e.1 = r with
  | some e => min a e.2
  | none => a

/-- The code of a rail's set point (R534). -/
def budgetCode (s : State) (r : Nat) : Int :=
  if r < 12 then s.o (Obj.railVset r) + s.o (Obj.railTrim r) else s.o (Obj.abVsetEff (r - 12))

/-- The budget limits of the multiphase rails and bucks at a tick, from the terms as they stood before it (R534). -/
def budgetLimits (s : State) : State :=
  s.forRange 20 fun r s =>
    let c := budgetCode s r
    let l : Option Int := if s.oB Obj.budgetEn ∧ 0 < c then some (limitTokens s r * 1000000 / c) else none
    let s := s.setVar .budgetLim (match l with | some v => v + 1 | none => 0) r
    if r < 12 then s.setO (Obj.railIlimBudget r) (match l with | some v => v | none => 0x7FFFFFFF) else s

/-- Ask for a write-back; one that runs is followed by another (R527, R370). -/
def wbAsk (j : Nat) (s : State) : State := s.setFlag .wbAgain true j

/-- Record 0x0F01. -/
def grantRecord (s : State) : State :=
  s.record 0x0F01 (leBytes 3 (s.varN .grantOld) ++ leBytes 3 (s.oN Obj.budgetGrant) ++ u8 (s.var .grantRails) ++
    u8 (s.var .grantPort))

/-- Apply a transaction (R270): the values, the generation, the slot's write-back; a rise of the grant is recorded (R545). -/
def txApply (s : State) : State :=
  let s := s.ledTx.foldl (fun s e => setTokens e.1 e.2 s) s
  let s : State := { s with ledTx := [] }
  let s := wbAsk 1 ((s.bump Obj.budgetGen).setO Obj.budgetAllocated (allocSum s))
  if s.varN .grantTx = 2 then grantRecord (s.setVar .grantTx 0) else s

/-- Send a transaction: its entries, closed by the generation it ends in (R270). -/
def txSend (l : List (Nat × Nat)) (gen : Nat) (s : State) : State :=
  let s := l.foldl (fun s e => enqueueOne 1 0x20 e.1 e.2 s) s
  enqueueOne 1 0x21 0 (gen % 2 ^ 32) s

/-- Start a transaction: a holder with a STANDBY twin sends it first, else it is applied at once, and sent where a twin is being admitted
(R269, R270). -/
def txStart (l : List (Nat × Nat)) (s : State) : State :=
  let s : State := { s with ledTx := l }
  if role s = Role.active then txSend l (s.oN Obj.budgetGen + 1) s
  else
    let s := txApply s
    if sendsDeltas s then txSend l (s.oN Obj.budgetGen) s else s

/-- LEDGER_TRANSACTION_APPLY: the ack covers the 0x21 entry, or the twin was lost and the holder is SOLO (R270). -/
def execLedgerTransactionApply (s : State) : Out :=
  if !s.ledTx.isEmpty && (decide (role s = Role.solo) || (decide (role s = Role.active) && txCovered s)) then .next (txApply s)
  else .next s

/-- Is a ledger transaction outstanding: not applied, or on its way to a twin that is being admitted (R270)? -/
def txOpen (s : State) : Bool := !s.ledTx.isEmpty || (sendsDeltas s && (!txCovered s || xferInLedger s))

/-- Is a change of the budget running? -/
def budgetBusy (s : State) : Bool :=
  txOpen s || s.varB .grantNew || (List.range 52).any fun r => s.varB .allocNew r

/-- A write of budget.alloc[r]: its status and effect (R536, R537, R550). -/
def allocWrite (r v : Nat) (s : State) : Status × State :=
  let old := s.oN (Obj.budgetAlloc r)
  if v < s.oN (Obj.budgetFloor r) ∨ s.oN Obj.budgetFree + old < v then (.outOfRange, s)
  else if s.oN Obj.budgetState = 1 ∨ budgetBusy s ∨ s.varB .swapOn then (.busy, s)
  else if old < v then (.ok, txStart [(r, v), (0xFF, s.oN Obj.budgetFree + old - v)] s)
  else if v < old then (.ok, s.setVar .allocNew (v + 1 : Nat) r)
  else (.ok, s)

/-- The rails in the order in which they give tokens (R537). -/
def givingOrder (s : State) : List Nat :=
  (List.range 52).mergeSort fun a b =>
    decide (s.oN (Obj.budgetPrio a) < s.oN (Obj.budgetPrio b) ∨ (s.oN (Obj.budgetPrio a) = s.oN (Obj.budgetPrio b) ∧ a ≤ b))

/-- Take so many tokens from rails in order, each down to its floor (R537). -/
def takeTokens : List Nat → Nat → State → State
  | [], _, s => s
  | r :: rs, n, s =>
    let give := min n (s.oN (Obj.budgetAlloc r) - s.oN (Obj.budgetFloor r))
    let s := if give = 0 then s
      else (s.setVar .allocNew (s.oN (Obj.budgetAlloc r) - give + 1 : Nat) r).addVar .grantRails 1
    takeTokens rs (n - give) s

/-- A keyed write of budget.grant through a port: its status and effect (R537, R550). The response of a reduction waits for
its commit: budget.state then reads reducing. -/
def grantWrite (v port : Nat) (s : State) : Status × State :=
  let old := s.oN Obj.budgetGrant
  if 1000000 < v ∨ (v < old ∧ v < floorSum s) then (.outOfRange, s)
  else if s.oN Obj.budgetState = 1 ∨ budgetBusy s ∨ s.varB .swapOn then (.busy, s)
  else
    let s' := ((s.setVar .grantOld old).setVar .grantPort port).setVar .grantRails 0
    if old < v then (.ok, txStart [(0xFE, v), (0xFF, s.oN Obj.budgetFree + v - old)] (s'.setVar .grantTx 2))
    else if v = old then (.ok, s)
    else
      let s' := (s'.setO Obj.budgetState 1).setVar .grantNew (v + 1 : Nat)
      (.ok, takeTokens (givingOrder s) (old - v - min (old - v) (s.oN Obj.budgetFree)) s')

/-- A reduction or decrease at the tick at which its lower limits have come into force: its transaction starts (R535 to R537). -/
def budgetTick (s : State) : State :=
  let lower := (List.range 52).filter fun r => s.varB .allocNew r
  if (lower = [] ∧ ¬ s.varB .grantNew) ∨ txOpen s ∨ s.varB .swapOn then s
  else
    let entries := lower.map fun r => (r, s.varN .allocNew r - 1)
    let taken := (lower.map fun r => s.oN (Obj.budgetAlloc r) - (s.varN .allocNew r - 1)).sum
    let free := s.oN Obj.budgetFree + taken
    let l := if s.varB .grantNew then
        let v := s.varN .grantNew - 1
        entries ++ [(0xFE, v), (0xFF, free + v - s.oN Obj.budgetGrant)]
      else entries ++ [(0xFF, free)]
    let s := lower.foldl (fun s r => s.setVar .allocNew 0 r) s
    txStart l ((s.setFlag .grantTx (s.varB .grantNew)).setVar .grantNew 0)

/-- The check of a bank: the floors fit the initial grant (R533). -/
def budgetConfigOk (s : State) : Bool := decide (floorSum s ≤ s.oN Obj.budgetInitGrant)

/-! ## Two-slot write-backs (R370, R527) -/

/-- Size of a slot. -/
def wbSize (j : Nat) : Nat := if j = 0 then 64 else if j = 1 then 256 else 128

/-- Data address of a slot. -/
def wbAddr (j k : Nat) : Nat :=
  (if j = 0 then Ledger.charge else if j = 1 then Ledger.budget else 0x64000) + k * wbSize j

/-- The generation in force of a pair of slots. -/
def wbGenOf (s : State) (j : Nat) : Nat :=
  if j = 0 then s.oN Obj.chgGen else if j = 1 then s.varN .wbGen else s.oN Obj.estGen

/-- Set it. -/
def setWbGen (j g : Nat) (s : State) : State :=
  if j = 0 then s.setO Obj.chgGen g else if j = 1 then s.setVar .wbGen g else s.setO Obj.estGen g

/-- Close a slot's body with crc and mark 0xA55A. -/
def sealSlot (n : Nat) (body : List Byte) : List Byte :=
  let b := (body ++ List.replicate n 0).take (n - 4)
  b ++ u16 (crc16 b) ++ u16 0xA55A

/-- A valid slot's bytes: every line decodes, the crc matches and the mark reads 0xA55A (R371). -/
def readSlot (addr n : Nat) (s : State) : Option (List Byte) × State :=
  let (d, s') := nvmRead addr n s
  let ok := (List.range (n / 32)).all fun i => (nvmLine s (addr / 32 + i)).2.isSome
  (if ok ∧ recField d (n - 2) 2 = 0xA55A ∧ recField d (n - 4) 2 = crc16 (d.take (n - 4)) then some d else none, s')

/-- The charge terms as bytes. -/
def chargeImage (s : State) : List Byte :=
  [Obj.chgStored, Obj.chgInCharge, Obj.chgOutHoldup, Obj.chgOutExercise, Obj.chgOutSelfdis, Obj.chgBase].flatMap fun k =>
    leBytes 8 (toTwos 64 (s.o k))

/-- Take a charge image into force. -/
def setChargeImage (d : List Byte) (s : State) : State :=
  ([Obj.chgStored, Obj.chgInCharge, Obj.chgOutHoldup, Obj.chgOutExercise, Obj.chgOutSelfdis, Obj.chgBase].zipIdx).foldl
    (fun s e => s.setO e.1 (ofTwos 64 (recField d (8 * e.2) 8))) s

/-- The impedance table as U16 values, band 0 first. -/
def estTable (s : State) : List Byte := (List.range 32).flatMap fun i => u16 (s.o (Obj.estR i))

/-- The body of a slot at a generation (R369 for the estimator; the model's layout for the ledgers). -/
def wbBody (j g : Nat) (s : State) : List Byte :=
  if j = 0 then u32 g ++ chargeImage s
  else if j = 1 then u32 g ++ u32 (s.o Obj.budgetGen) ++ u32 (s.o Obj.budgetGrant) ++ u32 (s.o Obj.budgetFree) ++
    ((List.range 52).flatMap fun r => u32 (s.o (Obj.budgetAlloc r)))
  else u32 g ++ leBytes 8 (toTwos 64 (s.o Obj.estCap)) ++ u32 (s.o Obj.estCycles) ++ u16 (s.o Obj.pwrCapNom) ++
    u8 ((if s.bit Obj.estFlags 2 then 1 else 0) + (if s.bit Obj.estFlags 1 then 2 else 0)) ++ u8 (s.var .estLearns) ++
    u48 (s.o Obj.estLastLearn) ++ u16 0 ++ estTable s

/-- The slot that a write-back goes to: the one that does not hold the generation in force. -/
def wbTarget (s : State) (j : Nat) : Nat := wbAddr j (1 - s.varN .wbSlot j)

/-- First commit: the target's mark is cleared (R370). -/
def wbFirst (j : Nat) (s : State) : State :=
  if s.varB .wbAgain j && !s.varB .wbStage j then
    let s := (s.setFlag .wbAgain false j).setVar .wbStage 1 j
    commitAsk (nvmWrite (wbTarget s j + wbSize j - 2) (u16 0) s)
  else s

/-- Has every line of the target been committed: none in the buffer or still waiting for room there, with no commit running? -/
def wbCommitted (s : State) (j : Nat) : Bool :=
  (jobRunning s 5).isNone && (List.range (wbSize j / 32)).all fun i =>
    (bufFind s (wbTarget s j / 32 + i)).isNone && s.waiters.all fun w => decide (w.addr / 32 ≠ wbTarget s j / 32 + i)

/-- Has every requested write-back of the pair completed? -/
def wbIdle (s : State) (j : Nat) : Bool := !s.varB .wbAgain j && !s.varB .wbStage j

/-- Second commit: the body, then the line with crc and mark (R370). -/
def wbSecond (j : Nat) (s : State) : State :=
  if decide (s.varN .wbStage j = 1) && wbCommitted s j then
    let g := wbGenOf s j + 1
    commitAsk (nvmWrite (wbTarget s j) (sealSlot (wbSize j) (wbBody j g s)) (s.setVar .wbStage 2 j))
  else s

/-- The second commit has completed: the generation in force is the new one. -/
def wbDone (j : Nat) (s : State) : State :=
  if decide (s.varN .wbStage j = 2) && wbCommitted s j then
    let g := wbGenOf s j + 1
    let k := 1 - s.varN .wbSlot j
    let s := ((setWbGen j g s).setVar .wbSlot k j).setVar .wbStage 0 j
    if j = 2 then s.record 0x0803 (u8 k ++ u32 g ++ u8 2) else s
  else s

/-- LEDGER_WRITEBACK: every ledger.commit_rounds rounds, and what a transaction asked for (R527). -/
def execLedgerWriteback (s : State) : Out :=
  let due := decide (s.varN .ledgerAt + s.oN Obj.ledgerCommitRounds ≤ s.nowRound)
  let s := if due then wbAsk 1 (wbAsk 0 (s.setVar .ledgerAt s.nowRound)) else s
  .next (wbFirst 1 (wbFirst 0 s))

/-! ## The close (R528, R529, R609) -/

/-- The high-water mark of a command counter slot; a slot that has been found empty has none. -/
def hwmOf (s : State) (k : Nat) : Nat :=
  if s.bit Obj.keyStatus 0 ∧ s.oN (Obj.keyState k) = 0 then 0 else s.oN (Obj.keyHwm k)

/-- The block that slot 32 keeps: charge image, ev.total, H of the slots, in-flight list (R528). -/
def closeBlock (s : State) : List Byte :=
  chargeImage s ++ leBytes 8 (s.oN Obj.evTotal) ++ ((List.range 4).flatMap fun k => u32 (hwmOf s k)) ++ u16 s.queue.length ++
    s.queue.flatMap fun e => match e.fault with
      | some (x, c, _) => u8 x ++ u8 c ++ u16 e.repeats
      | none => [0, 0, 0, 0]

/-- Slot 32: the budget check and the close block. -/
def ledgerSlots (s : State) : State :=
  let s := budgetCheck false s
  { s with closeBlk := closeBlock s }

/-- Lines written to the array in order. -/
def writeLines : List (Nat × List Byte) → State → State
  | [], s => s
  | (l, d) :: t, s => writeLines t (lineMended l (s.writeMram (38 * l) (rsEncode d)))

/-- Write the close of a cause into the close area: its 35 lines, with a generation newer than the last close's and than that of each charge
slot, one that is on its way included (R528, R529, R609). -/
def writeClose (cause : Nat) (s : State) : State :=
  let g := max (s.varN .closeGen) (s.oN Obj.chgGen + (if s.varN .wbStage 0 = 2 then 1 else 0)) + 1
  let d := sealSlot 1120 (u32 g ++ u8 cause ++ s.closeBlk)
  let s := writeLines ((List.range 35).map fun i => (Ledger.close / 32 + i, (d.drop (32 * i)).take 32)) s
  let s := ((s.setVar .closeGen g).setVar .closeCause cause).setFlag .closeStands true
  s.bump Obj.ledgerCloses

/-- The close write: a running commit and every buffered line first, in buffer order, then the close (R528), with the persisted counters
as they stand; writers that waited find room then (R442). Below 2.7 V the array does not run, and nothing is written (R440). -/
def closeNow (cause : Nat) (s : State) : State :=
  if !cresRuns s then s.setVar .closeDue 0 else
  let s := writeLines (s.buf.map fun b => (b.line, b.data)) s
  let running := (jobRunning s 5).isSome
  let s : State := { s with buf := [], saved := countersNow s }
  let s := if running then jobEnd 5 true ((s.bump Obj.nvmCommits).setVar .opSaved (s.o Obj.sysOpSeconds)) else s
  let s := ((s.setVar .commitMarker 0).setFlag .commitReq false).setO Obj.nvmState 0
  let s := (writeClose cause ((bufShow s).setVar .closeDue 0)).setVar .closeAt (s.now + 1 : Nat)
  bufShow (drainWaiters s.waiters.length s)

/-- Has a close been written for a trigger of this frame (R609)? -/
def closedNow (s : State) : Bool := decide (s.varN .closeAt = s.now + 1)

/-- CLOSE_WRITE: VPP below 4.30 V at an armed comparator, or BACKUP or SHELF entered; the triggers of one frame write one close (R528,
R609). -/
def execCloseWrite (vpp : Nat) (s : State) : Out :=
  let low := decide (vpp < 4300) && !s.varB .closeOff
  if s.mgtOn && (s.varB .closeDue || low) then
    let s := if low then s.setFlag .closeOff true else s
    if s.varB .closeDue then .next (closeNow (s.varN .closeDue - 1) s)
    else .next (if closedNow s then s else closeNow 2 s)
  else .next s

/-- The event counts at a commit (R539); lost counters are excluded (R542, R543). -/
def eventCheck (s : State) : State :=
  if countersLost s then s else
  let queued : Nat := (s.queue.map fun e => if e.fault.isSome then e.repeats else 0).sum
  let d := s.o Obj.evTotal - (s.var .ringSum + s.var .retSum + s.var .lostSum + queued)
  let s := s.setBit Obj.ledgerStatus 4 (decide (d = 0))
  if d = 0 then s else violation 2 d false s

/-- COMMIT_COMPLETE: the close-out step clears the marker; the write-backs go on; the event counts are compared; a close
that stands is written again (R440, R527, R539, R609). -/
def execCommitComplete (s : State) : Out :=
  if commitClosing s then
    let s := (commitClose s).setVar .opSaved (s.o Obj.sysOpSeconds)
    let s := wbDone 2 (wbDone 1 (wbDone 0 s))
    let s := wbFirst 1 (wbFirst 0 (wbSecond 1 (wbSecond 0 s)))
    let s := eventCheck s
    .next (if s.varB .closeStands then writeClose (s.varN .closeCause) s else s)
  else .next s

/-- The valid slots of a pair: bytes of A and of B. -/
def readPair (j : Nat) (s : State) : Option (List Byte) × Option (List Byte) × State :=
  let (a, s) := readSlot (wbAddr j 0) (wbSize j) s
  let (b, s) := readSlot (wbAddr j 1) (wbSize j) s
  (a, b, s)

/-- The slot with the higher generation: which, and its bytes (R527). -/
def newerSlot (a b : Option (List Byte)) : Option (Nat × List Byte) :=
  match a, b with
  | none, none => none
  | some x, none => some (0, x)
  | none, some y => some (1, y)
  | some x, some y => if recField x 0 4 < recField y 0 4 then some (1, y) else some (0, x)

/-- Was a pair of slots never written? -/
def pairBlank (j : Nat) (s : State) : Bool := (nvmBytes s (wbAddr j 0) (2 * wbSize j)).all (· == 0)

/-- The charge ledger at BOOT (R527, R543). Where both slots are lost it restarts from est.q_rem as BKP has kept it, which then needs no
correction (DESIGN CHOICE, log entry 117). -/
def chargeLoad (s : State) : State :=
  let blank := pairBlank 0 s
  let (a, b, s) := readPair 0 s
  match newerSlot a b with
  | some (k, d) => setChargeImage (d.drop 4) ((s.setO Obj.chgGen (recField d 0 4)).setVar .wbSlot k 0)
  | none =>
    let q := s.o Obj.estQRem
    let s := setChargeImage (List.replicate 48 0) ((s.setO Obj.chgGen 0).setVar .wbSlot 1 0)
    if blank then s else ((s.setO Obj.chgBase q).setO Obj.chgStored q).setO Obj.estQCorr 0

/-- The budget ledger at BOOT (R527, R533, R543). -/
def budgetLoad (s : State) : State :=
  let (a, b, s) := readPair 1 s
  match newerSlot a b with
  | some (k, d) =>
    let s := (s.setVar .wbGen (recField d 0 4 : Nat)).setVar .wbSlot k 1
    let s := (s.setO Obj.budgetGen (recField d 4 4)).setO Obj.budgetGrant (recField d 8 4)
    let s := s.setO Obj.budgetFree (recField d 12 4)
    s.forRange 52 fun r s => s.setO (Obj.budgetAlloc r) (recField d (16 + 4 * r) 4)
  | none => budgetRestart ((s.setVar .wbGen 0).setVar .wbSlot 1 1)

/-- CLOSE_APPLY (R529) and COUNTER_CHECK (R540). -/
def closeApply (s : State) : State :=
  let (c, s) := readSlot Ledger.close 1120 s
  let s := (s.setBit Obj.ledgerStatus 1 false).setO Obj.ledgerInflight 0
  match c with
  | none => s.setBit Obj.ledgerStatus 5 true
  | some d =>
    let g := recField d 0 4
    let s := s.setVar .closeGen (max g (s.varN .closeGen) : Nat)
    if g ≤ s.oN Obj.chgGen then s.setBit Obj.ledgerStatus 5 true
    else
      let s := (setChargeImage (d.drop 5) s).setO Obj.chgGen g
      let n := recField d 77 2
      let s := s.forRange n fun i s =>
        let x := recField d (79 + 4 * i) 1
        let cl := recField d (80 + 4 * i) 1
        let r := recField d (81 + 4 * i) 2
        if r = 0 then s
        else
          let s := ((s.addO (Obj.srcLostC x cl) r).addO (Obj.srcLost x) r).addO Obj.marshalLost r
          let bits := s.varN .lostClasses x
          ((s.addVar .lostSum r).addVar .lostSince r x).setVar .lostClasses
            (if bits.testBit cl then bits else bits + 2 ^ cl : Nat) x
      let s := s.setO Obj.evTotal (recField d 53 8)
      let down (k : Nat) : Int := if ledgerLost s (Ledger.command + 64 * k + 32) 32 then 0
        else s.o (Obj.keyHwm k) - (recField d (61 + 4 * k) 4 : Nat)
      let low := (List.range 4).find? fun k => decide (down k < 0)
      let s := s.setBit Obj.ledgerStatus 5 low.isNone
      let s := match low with | some k => violation 3 (down k) true s | none => s
      let s := nvmWrite (Ledger.close + 1118) (u16 0) s
      let s := ((s.setBit Obj.ledgerStatus 1 true).setBit Obj.ledgerStatus 0 (decide (recField d 4 1 = 2))).setO
        Obj.ledgerInflight n
      s.record 0x0F03 (u16 n ++ u8 (recField d 4 1))

/-- The recomputed occurrence counters against ev.total at BOOT (R539); a difference of lost counters is explained by their report (R542,
R543). -/
def bootEventCheck (s : State) : State :=
  if countersLost s then s else
  let d : Int := s.o Obj.evTotal - (s.var .ringSum + s.var .retSum + s.var .lostSum)
  let s := s.setBit Obj.ledgerStatus 4 (decide (d = 0))
  if d = 0 then s else violation 2 d true s

end Sys2Proof.Machine
end

