-- ==== Sys2Proof/Machine/Estimator.lean ====
section
/-!
DEFINITION. Pack State Estimation (spec/11_pack_estimation.md): the coulomb counter, state of charge, rest points, capacity
and impedance learning, the pack exercise, the estimator record.
-/

namespace Sys2Proof.Machine

/-- A change of the source in force, with its duration in µs, the lowest VPP in 10 mV, and 0 loss or 1 return (R323, R348,
R349). A hand-over over 50 µs raises class 0x00 of source 165. -/
def changeSource (new us vlow kind : Nat) (s : State) : State :=
  let old := s.oN Obj.pwrSrc
  let data := u8 old ++ u8 new ++ u16 us ++ u16 vlow ++ u8 kind
  let s := ((s.setO Obj.pwrSrc new).setO Obj.pwrHoTime (min us 65535 : Nat)).setVar .handRound (s.nowRound + 1 : Nat)
  let s := if old = 0 then s else s.bump Obj.pwrHandovers
  let s := s.post 52
  if 50 < us then s.raiseActionLater 165 0 data else s.record 0x0700 data

/-- Is the pack usable (R320)? -/
def packUsable (s : State) : Bool := s.bit Obj.pwrFlags 1

/-- Is the counter in fault (R355)? -/
def counterFault (s : State) : Bool := s.bit Obj.estFlags 10

/-! ## The steps of the pack exercise (R366 to R368) -/

/-- An exercise ends with the charger resumed (R366). -/
def exEnd (s : State) : State :=
  ((s.setO Obj.estExState 0).stopT .exT).setBit Obj.estFlags 5 false |>.setBit Obj.estFlags 6 false |>.setFlag .exAbort false

/-- Record 0x0802. -/
def exData (what why : Nat) (s : State) : List Byte :=
  u8 what ++ u8 why ++ u16 (s.o Obj.estSocRaw) ++ u16 (s.o Obj.estReady)

/-- Does the exercise run? -/
def exRuns (s : State) : Bool := decide (s.oN Obj.estExState = 2 ∨ s.oN Obj.estExState = 3)

/-- The state of the exercise, where no step has been decided in this frame. -/
def exIs (s : State) (st : Nat) : Bool := !s.varB .exGoto && decide (s.oN Obj.estExState = st)

/-- A step of the exercise is decided: 1 due, 2 discharging, 3 resting, 4 complete, 5 refused, 6 aborted, 7 no rest (R366). -/
def exStep (what us vlow why : Nat) (s : State) : State :=
  let s := ((s.setVar .exGoto (what + 1 : Nat)).setVar .exArg us 0).setVar .exArg vlow 1
  s.setVar .exArg why 2

/-- VPP returns from the exercise to VIN_MGT while that is valid, with no 20 ms count (R367). -/
def exReturn (us vlow : Nat) (s : State) : State :=
  if s.oN Obj.pwrSrc = 3 ∧ s.oN Obj.mgtState ≠ 2 then changeSource 1 us vlow 1 s else s

/-- An abort: VPP returned, EXLD deasserted, charging resumed, class 0x01 of source 172 (R368). -/
def exAbortNow (why us vlow : Nat) (s : State) : State :=
  (exReturn us vlow (exEnd s)).raiseAction 172 1 (exData 2 why s)

/-- A BOOT ends an exercise that runs: the hand-over back takes a time, and leaves a lowest VPP, that are left open (R367, R368). -/
def exBootAbort (s : State) : State :=
  if exRuns s then
    let (f, s) := s.drawFree
    let (g, s) := s.drawFree
    exAbortNow 3 (f % 65536) (g % 65536) s
  else s

/-- Discharging begins through a commanded hand-over to the pack (R366, R367). -/
def exBegin (us vlow : Nat) (s : State) : State :=
  let s := (s.setO Obj.estExState 2).setBit Obj.estFlags 5 true
  let s := ((s.startTR .exT 28800000).setVar .exMode s.mode.code).setFlag .exAbort false
  changeSource 3 us vlow 0 ((s.record 0x0802 (exData 0 0xFF s)).post 58)

/-- The step decided in the last frame is carried out, and EXLD follows est.exld_en while discharging (R366). -/
def exTick (s : State) : State :=
  let us := s.varN .exArg 0
  let vlow := s.varN .exArg 1
  let what := s.varN .exGoto - 1
  let s := s.setVar .exGoto 0
  let s := if what = 1 then (s.setO Obj.estExState 1).stopT .exT
    else if what = 2 then exBegin us vlow s
    else if what = 3 then exReturn us vlow ((s.setO Obj.estExState 3).startTR .exT (s.oN Obj.estExRestMax * 60000))
    else if what = 4 then ((exEnd s).record 0x0802 (exData 1 0xFF s)).post 58
    else if what = 5 then
      ((s.setO Obj.estExState 5).startTR .exT (s.oN Obj.estExPeriod * 1000)).raiseAction 172 0 (exData 3 0xFF s)
    else if what = 6 then exAbortNow (s.varN .exArg 2) us vlow s
    else if what = 7 then (exEnd s).raiseAction 172 2 (exData 4 0xFF s)
    else s
  s.setBit Obj.estFlags 6 (decide (s.oN Obj.estExState = 2) && s.oB Obj.estExldEn)

/-! ## Coulomb counting (R352 to R355) -/

/-- A negative increment counts toward the equivalent full cycles, one unit each time it reaches a hundredth of the capacity (R363). -/
def cycleCount (n : Int) (s : State) : State :=
  let cap := s.o Obj.estCap
  if n < 0 ∧ 0 < cap then
    let a := s.var .cycAcc - 100 * n
    (s.setO Obj.estCycles ((s.o Obj.estCycles + a / cap) % 2 ^ 32)).setVar .cycAcc (a % cap)
  else s

/-- COULOMB_INTEGRATION of a frame (R353, R363). -/
def coulomb (s : State) : State :=
  let code := clamp (-32768) 32767 (s.pin .ipackCode)
  let s := s.setO Obj.estIpack (divNearest (code * 25000) 32768)
  let hz := if 0 < s.o Obj.clkFclkMeas then s.o Obj.clkFclkMeas else fclkNominal
  let acc := s.var .cAcc + divNearest (50000 * code * fclkNominal) hz
  let n := acc.tdiv 65536
  let s := s.setVar .cAcc (acc - n * 65536)
  let ex := decide (s.oN Obj.estExState = 2 ∨ s.oN Obj.estExState = 3)
  let s := if n = 0 then s else chargeAdd (if 0 < n then 0 else if ex then 2 else 1) n s
  let s := s.setO Obj.estQRem (s.o Obj.chgStored + s.o Obj.estQCorr)
  cycleCount n s

/-- The estimator at a tick: the exercise's step, integration, the counter fault, the round's sums. -/
def estTick (s : State) : State :=
  let s := coulomb (exTick s)
  let code := clamp (-32768) 32767 (s.pin .ipackCode)
  let bad := decide (code = 32767 ∨ code = -32768 ∨ 300 < (s.pin .packIsn - s.pin .packP).natAbs)
  let s := s.countCond .cntFault bad
  let s := if bad then s else (s.condOff 176 0).setBit Obj.estFlags 10 false
  let s := ((s.addVar .rI code).addVar .rAbs code.natAbs).addVar .rN 1
  let s := s.addVar .rV (s.pin .packP)
  let s := if s.oN Obj.pwrChgState = 3 ∨ s.oN Obj.pwrChgState = 4 then s.setVar .rCv 1 else s
  (s.addVar .minSum (s.pin .packP)).addVar .minN 1

/-- The rest of the pack ends, with the qualification that waits (R360). -/
def restEnd (s : State) : State :=
  let s := ((s.setO Obj.estRestTimer 0).setVar .lastN 0).setBit Obj.estFlags 4 false
  ((s.setVar .restDue 0).setVar .restFirst 0).setVar .restRec 0

/-- COUNTER_FAULT: full scale or PACK_ISN more than 300 mV from PACK_P at 8 ticks; it ends a rest (R355, R360). -/
def execCounterFault (s : State) : Out :=
  if s.metCond .cntFault 8 && !s.condOn 176 0 then
    .next (restEnd ((s.raise 176 0 (u16 (s.o Obj.estIpack) ++ u16 (s.pin .packIsn - s.pin .packP))).setBit Obj.estFlags 10 true))
  else .next s

/-! ## State of charge (R356 to R359) -/

/-- The SoC points of the OCV table and of the impedance table, in 0.1 %. -/
def ocvPoints : List Nat := [0, 50, 100, 150, 200, 900, 950, 1000]
/-- The SoC points of the impedance table, in 0.1 %. -/
def resPoints : List Nat := [0, 150, 300, 450, 600, 750, 900, 1000]

/-- The segment of a table that holds a SoC. -/
def segment (pts : List Nat) (x : Nat) : Nat := min 6 ((pts.drop 1).takeWhile (· < x)).length

/-- Linear interpolation at a SoC, as a numerator over the length of its segment. -/
def interp (pts : List Nat) (f : Nat → Int) (x : Nat) : Int × Int :=
  let i := segment pts x
  let a := pts.getD i 0
  let b := pts.getD (i + 1) 1000
  (f i * ((b : Int) - x) + f (i + 1) * ((x : Int) - a), (b : Int) - a)

/-- The temperature band of the impedance table (R361). -/
def tempBand (s : State) : Nat :=
  let t := s.o Obj.thTPack
  if t < 80 then 0 else if t < 320 then 1 else if t < 560 then 2 else 3

/-- Does the pack at SoC `x` stay at or above the cutoff under a load (R357)? -/
def holdsAt (s : State) (load : Int) (x : Nat) : Bool :=
  let (v, dv) := interp ocvPoints (fun i => s.o (Obj.estOcv i)) x
  let (r, dr) := interp resPoints (fun i => s.o (Obj.estR (8 * tempBand s + i))) x
  decide (s.o Obj.pwrVpackCut * dv * dr * 10000 ≤ v * dr * 10000 - load * r * dv)

/-- The lowest SoC that does, 1,000 where none does (R357). -/
def sCut (s : State) (load : Int) : Nat := ((List.range 1001).find? (holdsAt s load)).getD 1000

/-- Readiness at a SoC above the cut, in % (R358). -/
def readyAt (s : State) (soc : Int) : Int :=
  let need := s.o Obj.estIRef * s.o Obj.pwrLgTime
  if !s.bit Obj.estFlags 0 || !packUsable s then 0
  else if need ≤ 0 then 65535
  else min 65535 (100 * (max 0 (soc - s.o Obj.estSCut) * s.o Obj.estCap) / (1000 * need))

/-- SOC_UPDATE (R357, R358). -/
def socUpdate (mean : Int) (s : State) : State :=
  let cap := s.o Obj.estCap
  let raw := if 0 < cap then clamp 0 1000 (divNearest (1000 * s.o Obj.estQRem) cap) else 0
  let cut := sCut s (max (-mean) (s.o Obj.estIRef))
  let s := (s.setO Obj.estSocRaw raw).setO Obj.estSCut cut
  let (r, dr) := interp resPoints (fun i => s.o (Obj.estR (8 * tempBand s + i))) raw.toNat
  let s := s.setO Obj.estRNow (divNearest r dr)
  let s := s.setO Obj.estSoc
    (if !s.bit Obj.estFlags 0 then 0xFFFF else if cut = 1000 then 0 else clamp 0 1000 (1000 * (raw - cut) / (1000 - cut)))
  let s := (s.setO Obj.estReady (readyAt s raw))
  let low := decide (s.o Obj.estReady < s.o Obj.estReadyMin)
  let s := s.countCond .readyCnt low
  if low then s else s.condOff 174 0

/-- READINESS_LOW: below est.ready_min at 10 consecutive rounds (R358). -/
def execReadinessLow (s : State) : Out :=
  if s.metCond .readyCnt 10 && !s.condOn 174 0 then
    .next (s.raise 174 0 (u16 (s.o Obj.estReady) ++ u16 (s.o Obj.estReadyMin) ++ u16 (s.o Obj.estSocRaw) ++
      u16 (s.o Obj.estSCut)))
  else .next s

/-- A known charge synchronises the estimate (R359). -/
def socSync (q : Int) (s : State) : State :=
  let s := (s.setO Obj.estQCorr (q - s.o Obj.chgStored)).setO Obj.estQRem q
  s.setBit Obj.estFlags 0 true

/-! ## Rounds: self-discharge, impedance, rest (R353, R360, R361) -/

/-- IMPEDANCE_SAMPLE at a round boundary (R361), from the means of this round and the last. -/
def impedance (i v : Int) (s : State) : State :=
  let di := i - s.var .prevI
  let dv := v - s.var .prevV
  let quiet := !s.varB .rCv &&
    decide (s.varN .handRound = 0 ∨ s.varN .handRound < s.nowRound)
  let ok := quiet && s.varB .prevOk && decide (s.o Obj.pwrCapNom ≤ 5 * di.natAbs) && !counterFault s
  let s := ((s.setVar .prevI i).setVar .prevV v).setFlag .prevOk quiet
  if !ok then s
  else
    let sample := divNearest (10 * dv.natAbs) di.natAbs
    let near := (List.range 8).foldl (fun (b : Nat × Nat) k =>
      let d := (s.o Obj.estSocRaw - (resPoints.getD k 0 : Nat)).natAbs
      if d < b.2 then (k, d) else b) (0, 1001)
    let k := 8 * tempBand s + near.1
    let e := s.o (Obj.estR k)
    if 4 * sample < e ∨ 4 * e < sample then s
    else
      let n := e + divNearest (sample - e) 8
      let s := s.setO (Obj.estR k) n
      if s.o Obj.estRAlarm < n then
        s.raise 175 0 (u8 (tempBand s) ++ u8 near.1 ++ u16 n ++ u16 sample)
      else s.condOff 175 0

/-- The rest of the pack at a round boundary (R360). -/
def restRound (s : State) : State :=
  let n := s.var .rN
  let rest := decide (s.var .rAbs * 25000 * 500 < s.o Obj.pwrCapNom * 32768 * n) && decide (0 < n) &&
    decide (80 ≤ s.o Obj.thTPack ∧ s.o Obj.thTPack ≤ 720) && !counterFault s && s.bit Obj.pwrFlags 0
  let s := s.setBit Obj.estFlags 3 rest
  if rest then
    let t := s.oN Obj.estRestTimer + 1
    let s := s.setO Obj.estRestTimer (t : Nat)
    if t = 1 then ((s.setVar .minSum (s.var .rV)).setVar .minN n).setVar .lastN 0
    else if t % 60000 = 0 then
      let a := s.var .lastSum * s.var .minN
      let b := s.var .minSum * s.var .lastN
      let close := decide (0 < s.varN .lastN) && decide (10 * (a - b).natAbs < s.varN .lastN * s.varN .minN)
      let s := s.setFlag .restDue (close && decide (1800000 ≤ t))
      let s := (s.setVar .minSum2 (s.var .minSum)).setVar .minN2 (s.var .minN)
      let s := (s.setVar .lastSum (s.var .minSum)).setVar .lastN (s.var .minN)
      (s.setVar .minSum 0).setVar .minN 0
    else s
  else restEnd s

/-- The estimator at a round boundary. -/
def estRound (s : State) : State :=
  let n := s.var .rN
  let mean := if 0 < n then divNearest (s.var .rI * 25000) (32768 * n) else 0
  let v := if 0 < n then divNearest (s.var .rV * 1000) n else 0
  let s := if s.o Obj.estISd = 0 then s else cycleCount (-s.o Obj.estISd) (chargeAdd 3 (-s.o Obj.estISd) s)
  let s := s.setO Obj.estQRem (s.o Obj.chgStored + s.o Obj.estQCorr)
  let f := s.varN .ageFrac + 1
  let s := if f = 1000 then (s.setVar .ageFrac 0).bumpSat Obj.estLearnAge else s.setVar .ageFrac (f : Nat)
  let s := restRound (impedance mean v (socUpdate mean s))
  let s := ((s.setVar .rI 0).setVar .rAbs 0).setVar .rN 0
  let s := (s.setVar .rV 0).setVar .rCv 0
  if s.varN .estWbAt + 3600 ≤ s.nowRound then
    let s := s.setVar .estWbAt s.nowRound
    if (wbBody 2 (s.oN Obj.estGen) s).drop 4 = (nvmBytes s (wbAddr 2 (s.varN .wbSlot 2)) 92).drop 4 then s else wbAsk 2 s
  else s

/-! ## Rest points and learning (R360, R362) -/

/-- The SoC that a rest voltage stands for, in 0.1 %, where it lies in a band; and whether that is the high one (R356). The
voltage is a sum of `n` samples in mV. -/
def socOfRest (s : State) (sum n : Int) : Option (Nat × Bool) :=
  let v (i : Nat) : Int := s.o (Obj.estOcv i) * n
  let find (l : List Nat) : Option Nat := l.find? fun i => decide (v i ≤ sum ∧ sum ≤ v (i + 1))
  let at_ (i : Nat) : Nat :=
    let a := ocvPoints.getD i 0
    let b := ocvPoints.getD (i + 1) 0
    (a + divNearest ((sum - v i) * ((b : Int) - a)) (v (i + 1) - v i)).toNat
  match find [0, 1, 2, 3] with
  | some i => some (at_ i, false)
  | none => (find [5, 6]).map fun i => (at_ i, true)

/-- nC of a capacity in mAh. -/
def mAh (x : Int) : Int := x * 3600000000

/-- The learned-capacity record's data. -/
def capData (cls : Nat) (sample cap ds : Int) : List Byte :=
  u8 cls ++ u16 (min 65535 (divNearest sample 3600000000)) ++ u16 (divNearest cap 3600000000) ++ u16 ds

/-- CAPACITY_LEARN of a usable point against the last one (R362). -/
def capacityLearn (q : Int) (soc : Nat) (s : State) : State :=
  let ds := ((soc : Int) - s.var .restA 2).natAbs
  let eligible := s.varB .restA 0 && decide (500 ≤ ds) &&
    (if s.rtcValid && s.varB .restA 5 then decide (s.timeNow ≤ s.varN .restA 5 + 1024 * s.oN Obj.estExPeriod)
     else decide (s.oN Obj.sysOpSeconds ≤ s.varN .restA 3 + s.oN Obj.estExPeriod))
  if !eligible then s
  else
    let sample := divNearest ((q - s.var .restA 1).natAbs * 1000) ds
    let nom := mAh (s.o Obj.pwrCapNom)
    if 50 * nom ≤ 100 * sample ∧ 100 * sample ≤ 120 * nom then
      let cap := s.o Obj.estCap
      let new := if !s.bit Obj.estFlags 2 || s.bit Obj.estFlags 1 then sample else cap + (sample - cap) / 4
      let s := ((s.setO Obj.estCap new).setBit Obj.estFlags 2 true).setBit Obj.estFlags 1 false
      let s := ((s.setO Obj.estLearnAge 0).setVar .ageFrac 0).setO Obj.estLastLearn s.timeNow
      let s := wbAsk 2 (s.setVar .estLearns (min 255 (s.var .estLearns + 1)))
      let s := s.raiseAction 170 1 (capData 1 sample new ds)
      if 100 * new < s.o Obj.estCapAlarm * nom then s.raise 171 0 (capData 0 sample new ds) else s.condOff 171 0
    else s.raiseAction 170 0 (capData 0 sample (s.o Obj.estCap) ds)

/-- REST_POINT: a qualifying rest minute (R359, R360); in the exercise's rest, in the low band, the exercise is complete
(R366). -/
def execRestPoint (s : State) : Out :=
  if s.varB .restDue then
    let s := (s.setVar .restDue 0).setBit Obj.estFlags 4 true
    let first := !s.varB .restFirst
    let s := s.setFlag .restFirst true
    match socOfRest s (s.var .minSum2) (s.var .minN2) with
    | none => .next s
    | some (soc, high) =>
      let q := s.o Obj.chgStored
      let mv := divNearest (s.var .minSum2) (s.var .minN2)
      let s := if s.varB .restRec then s
        else (s.setFlag .restRec true).record 0x0800
          (u8 (if high then 1 else 0) ++ u16 mv ++ u16 soc ++ u16 (s.o Obj.thTPack))
      let s := (s.setO Obj.estLastRest s.timeNow).post 63
      -- the capacity in force synchronises the charge before the point is learnt from, and before it takes its place as the last one
      let s := socSync (divNearest (soc * s.o Obj.estCap) 1000) s
      let s := if first then capacityLearn q soc s else s
      let s := ((s.setVar .restA 1 0).setVar .restA q 1).setVar .restA soc 2
      let s := (s.setVar .restA (s.o Obj.sysOpSeconds) 3).setVar .restA (State.ofBool high) 4
      let s := s.setVar .restA s.timeNow 5
      if exIs s 3 ∧ high = false then .next (exStep 4 0 0 0 s)
      else .next s
  else .next s

/-- Removal and refit (R364). -/
def packGone (s : State) : State :=
  let s := ((s.setBit Obj.estFlags 0 false).setBit Obj.estFlags 1 true).setVar .restA 0 0
  restEnd (s.setBit Obj.estFlags 3 false)

/-- PACK_REFIT (R364): the data stay in use, marked STALE. -/
def packRefit (s : State) : State :=
  ((s.setO Obj.estLearnAge 0).setVar .ageFrac 0).raiseAction 177 0
    (u16 (divNearest (s.o Obj.estCap) 3600000000) ++ u32 (s.o Obj.estCycles))

/-! ## Pack exercise (R365 to R368) -/

/-- EXERCISE_DUE: est.learn_age has reached est.ex_period (R365). -/
def execExerciseDue (s : State) : Out :=
  if exIs s 0 && s.oB Obj.estExAuto && decide (s.o Obj.estExPeriod ≤ s.o Obj.estLearnAge) then .next (exStep 1 0 0 0 s)
  else .next s

/-- EXERCISE_REFUSED_EXPIRY: est.ex_period after a refusal (R366). -/
def execExerciseRefusedExpiry (s : State) : Out :=
  if exIs s 5 && s.dueTR .exT then .next (exStep 1 0 0 0 s) else .next s

/-- Do the conditions of a start hold, but for readiness (R365)? -/
def exReady (s : State) : Bool :=
  decide (s.mode = .setup ∨ s.mode = .run) && decide (s.oN Obj.pwrSrc = 1) && decide (s.oN Obj.mgtState = 0) && packUsable s &&
  decide (s.oN Obj.pwrChgState = 5) && s.varB .restA 0 && s.varB .restA 4 && s.bit Obj.estFlags 0 && !counterFault s

/-- EXERCISE_START: the conditions hold; discharging is decided, through a commanded hand-over, or the exercise is refused
(R365 to R367). -/
def execExerciseStart (us vlow : Nat) (s : State) : Out :=
  if exIs s 1 && exReady s then
    .next (exStep (if readyAt s (10 * s.o Obj.estExTarget) < s.o Obj.estReadyMin then 5 else 2) us vlow 0 s)
  else .next s

/-- EXERCISE_TARGET_REACHED (R366). -/
def execExerciseTargetReached (us vlow : Nat) (s : State) : Out :=
  if exIs s 2 && decide (s.o Obj.estSocRaw ≤ 10 * s.o Obj.estExTarget) then .next (exStep 3 us vlow 0 s) else .next s

/-- EXERCISE_TIMEOUT: 8 h of discharging (R366). -/
def execExerciseTimeout (us vlow : Nat) (s : State) : Out :=
  if exIs s 2 && s.dueTR .exT then .next (exStep 6 us vlow 0xFF s) else .next s

/-- EXERCISE_REST_TIMEOUT: no rest within est.ex_rest_max (R366). -/
def execExerciseRestTimeout (s : State) : Out :=
  if exIs s 3 && s.dueTR .exT then .next (exStep 7 0 0 0 s) else .next s

/-- The first reason of R368 that holds. -/
def exReason (s : State) : Option Nat :=
  let t := s.o Obj.thTPack
  if s.oN Obj.mgtState ≠ 0 then some 0
  else if s.o Obj.estReady < s.o Obj.estReadyMin then some 1
  else if t < s.o Obj.pwrTchgLo ∨ s.o Obj.pwrTchgHi < t then some 2
  else if s.varN .exMode ≠ s.mode.code then some 3
  else if s.varB .exAbort then some 4
  else if !s.bit Obj.pwrFlags 0 then some 5
  else none

/-- EXERCISE_ABORT (R368): it takes the place of any other step decided in the frame. -/
def execExerciseAbort (us vlow : Nat) (s : State) : Out :=
  match (if exRuns s && decide (s.varN .exGoto ≠ 7) then exReason s else none) with
  | some why => .next (exStep 6 us vlow why s)
  | none => .next s

/-- A write of est.cmd: its status and effect (R365, R368, R375). -/
def estCmd (v : Nat) (s : State) : Status × State :=
  if v = 1 then
    if s.oN Obj.estExState = 5 ∨ ¬ (s.mode = .setup ∨ s.mode = .run) then (.stateForbids, s)
    else if exIs s 0 then (.ok, exStep 1 0 0 0 s) else (.ok, s)
  else if v = 2 then (.ok, if exRuns s then s.setFlag .exAbort true else s)
  else (.outOfRange, s)

/-! ## The estimator record (R369 to R371) -/

/-- EST_WRITEBACK: the target slot's mark is cleared and committed (R370). -/
def execEstWriteback (s : State) : Out := .next (wbFirst 2 s)

/-- EST_WRITEBACK_SECOND: the body and the last line, once the first commit has completed (R370). -/
def execEstWritebackSecond (s : State) : Out := .next (wbSecond 2 s)

/-- Before the first learn the capacity is the nominal one (R362). -/
def capUnlearned (s : State) : State :=
  if s.bit Obj.estFlags 2 then s else s.setO Obj.estCap (mAh (s.o Obj.pwrCapNom))

/-- EST_RECORD_LOAD at BOOT (R371): a slot's data; with none the table keeps the rule ROM's defaults. -/
def estLoad (s : State) : State :=
  let (a, b, s) := readPair 2 s
  let s := (s.setBit Obj.estFlags 7 a.isSome).setBit Obj.estFlags 8 b.isSome
  match newerSlot a b with
  | some (k, d) =>
    let s := ((s.setO Obj.estGen (recField d 0 4)).setVar .wbSlot k 2).setO Obj.estCap (ofTwos 64 (recField d 4 8))
    let s := (s.setO Obj.estCycles (recField d 12 4)).setO Obj.estLastLearn (recField d 20 6)
    let s := (s.setBit Obj.estFlags 2 ((recField d 18 1).testBit 0)).setBit Obj.estFlags 1 ((recField d 18 1).testBit 1)
    let s := s.setVar .estLearns (recField d 19 1)
    let s := s.forRange 32 fun i s => s.setO (Obj.estR i) (recField d (28 + 2 * i) 2)
    let s := capUnlearned s
    if a.isSome ∧ b.isSome then s
    else s.raiseAction 173 1 (u8 (1 - k : Nat) ++ u32 (s.o Obj.estGen) ++ u8 1)
  | none =>
    let s := (s.setO Obj.estGen 0).setVar .wbSlot 1 2
    let s := (s.setO Obj.estCap (mAh (s.o Obj.pwrCapNom))).setO Obj.estCycles 0
    let s := (s.setBit Obj.estFlags 2 false).setBit Obj.estFlags 1 false
    s.raiseAction 173 0 (u8 0 ++ u32 0 ++ u8 1)

/-- UNPOWERED_ESTIMATE at BOOT (R354). -/
def unpoweredEstimate (bkp : Bool) (s : State) : State :=
  if bkp && s.rtcValid && !s.bit Obj.rtcStatus 0 && decide (s.varN .lossTime ≤ s.oN Obj.rtcNow) then
    let dt := s.oN Obj.rtcNow - s.varN .lossTime
    let q := (s.oN Obj.estISd * 1000 + 350) * dt / 1024
    (cycleCount (-(q : Int)) (chargeAdd 3 (-(q : Int)) s)).setBit Obj.estFlags 9 true
  else ((s.setBit Obj.estFlags 0 false).setBit Obj.estFlags 9 false).setVar .restA 0 0

/-- The check of a write of the OCV table (R356). -/
def estConfigOk (s : State) : Bool := (List.range 7).all fun i => decide (s.o (Obj.estOcv i) < s.o (Obj.estOcv (i + 1)))

end Sys2Proof.Machine
end

