-- ==== Sys2Proof/Machine/Rtc.lean ====
section
/-!
DEFINITION. Real-Time Clock and Calendar (spec/14_real_time_clock.md).
-/

namespace Sys2Proof.Machine

/-- The last second of the range (R418). -/
def rtcEnd : Nat := 12622780799

/-- Recompute rtc.status bit 1 (R427). -/
def rtcValidity (s : State) : State := s.setBit Obj.rtcStatus 1 (!s.bit Obj.rtcStatus 0 && !s.bit Obj.rtcStatus 3)

/-- The sign of a value: −1, 0 or 1. -/
def sgn (v : Int) : Int := if v < 0 then -1 else if v = 0 then 0 else 1

/-- Advance the counter by `d` prescaler cycles; it holds at the end of the range with the fraction at 1,023 (R417, R418). -/
def rtcAdvance (d : Int) (s : State) : State :=
  let pre := s.var .rtcPre + d
  let sec := s.var .rtcSec + pre / 32768
  if (rtcEnd : Int) ≤ sec then (s.setVar .rtcSec rtcEnd).setVar .rtcPre 32767
  else (s.setVar .rtcSec sec).setVar .rtcPre (pre % 32768)

/-- One rising edge of the 32.768 kHz clock (R417, R421, R423, R425). A pending load stops the counter at the third
edge after its write and the counter resumes at the next one. -/
def rtcEdge (s : State) : State :=
  let n := s.varN .rtcHalt
  if n = 3 then
    -- the third edge: the counter stops and the written value is loaded, the prescaler cleared
    ((s.setVar .rtcHalt 4).setVar .rtcSec (s.var .rtcHaltSec)).setVar .rtcPre 0
  else if n = 4 then s.setVar .rtcHalt 0  -- counting resumes at this edge
  else
    let s := if n = 0 then s else s.setVar .rtcHalt (n + 1 : Nat)
    if s.varN .rtcSec = rtcEnd then s
    else
      let p := s.varN .rtcCycle
      let cal := s.o Obj.rtcCal
      let calStep := if p % 32 = 0 ∧ (p : Int) < 32 * (cal.natAbs : Int) then sgn cal else 0
      let left := s.o Obj.rtcShiftLeft
      let wait := s.varN .rtcShiftWait
      let due := decide (left ≠ 0) && decide (wait = 0)
      let step := if due && decide (calStep = 0) then sgn left else 0
      let s := s.setVar .rtcCycle (((p + 1) % 2 ^ 20 : Nat) : Int)
      let s := if left = 0 then s
        else if step ≠ 0 then ((s.setO Obj.rtcShiftLeft (left - step)).setVar .rtcShiftWait 31).addVar .rtcShiftDone step
        else if wait = 0 then s else s.setVar .rtcShiftWait (wait - 1 : Nat)
      rtcAdvance (1 + calStep + step) s

/-- The counter's TIME48. -/
def rtcCount (s : State) : Nat := s.varN .rtcSec * 1024 + s.varN .rtcPre / 32

/-- The snapshot of R419: rtc.now and rtc.cal_now. -/
def rtcSnapshot (s : State) : State :=
  (s.setO Obj.rtcNow (rtcCount s)).setO Obj.rtcCalNow ((calendarOf (s.varN .rtcSec) : Nat) : Int)

/-- The RTC's part of a frame tick, before any other: the edges sampled since the last tick, the oscillator detector, and the snapshot that
every TIME48 of the frame uses (R419). -/
def rtcTick (s : State) : State :=
  let n := (s.pin .rtcEdges).toNat
  let s := s.forRange n (fun _ => rtcEdge)
  rtcSnapshot (if n = 0 then s.addVar .rtcQuiet 1 else (s.setVar .rtcQuiet 0).setFlag .rtcFailed false)

/-- The four actions of every accepted time write (R424). -/
def rtcAccepted (shiftAsHalt : Bool) (s : State) : State :=
  let before := s.oN Obj.rtcNow
  let had := s.bit Obj.rtcStatus 0
  let s := (s.setBit Obj.rtcStatus 0 false).setBit Obj.rtcStatus 3 false
  let s := (rtcValidity s).bump Obj.rtcSets
  (s.post 81).record 0x0B00 (u48 before ++ u8 (if shiftAsHalt then 1 else 0) ++ u8 (if had then 1 else 0))

/-- The end of a shift: its record, steps requested and applied (R423, R424). -/
def rtcShiftRecord (cancelled : Bool) (s : State) : State :=
  s.record 0x0B01 (u16 (s.var .rtcShiftAsked) ++ u16 (s.var .rtcShiftDone) ++ u8 (if cancelled then 1 else 0))

/-- Cancel a pending shift (R424). -/
def rtcCancelShift (s : State) : State :=
  if s.bit Obj.rtcStatus 2 then
    ((rtcShiftRecord true s).setO Obj.rtcShiftLeft 0).setBit Obj.rtcStatus 2 false
  else s

/-- Start a shift of so many steps (R423). -/
def rtcStartShift (steps : Int) (s : State) : State :=
  ((((s.setO Obj.rtcShiftLeft steps).setVar .rtcShiftAsked steps).setVar .rtcShiftDone 0).setVar .rtcShiftWait 0).setBit
    Obj.rtcStatus 2 true

/-- A time write under R421: the value is loaded at the third edge. -/
def rtcHaltWrite (sec : Nat) (shiftAsHalt : Bool) (s : State) : State :=
  ((rtcAccepted shiftAsHalt (rtcCancelShift s)).setVar .rtcHaltSec sec).setVar .rtcHalt 1

/-- A time write (R420 to R422), of whole seconds and a fraction in 1/1,024 s: its status and effect. -/
def rtcTimeWrite (sec frac : Nat) (s : State) : Status × State :=
  if sec > rtcEnd then (.impossible, s)
  else if s.bit Obj.rtcStatus 0 || decide (s.oN Obj.rtcSetMode = 0) then
    if frac ≠ 0 then (.outOfRange, s)
    else (.ok, rtcHaltWrite sec (s.bit Obj.rtcStatus 0 && decide (s.oN Obj.rtcSetMode = 1)) s)
  else
    let delta : Int := (((sec * 1024 + frac : Nat) : Int) - s.o Obj.rtcNow) * 32
    if 16384 < delta.natAbs then (.outOfRange, s)
    else if s.bit Obj.rtcStatus 2 then (.busy, s)
    else (.ok, rtcStartShift delta (rtcAccepted false s))

/-- A write of rtc.set_time: a TIME48. -/
def rtcSetTime (v : Nat) (s : State) : Status × State :=
  match rtcTimeWrite (v / 1024) (v % 1024) s with
  | (.ok, t) => (.ok, t.setO Obj.rtcSetTime v)
  | r => r

/-- A write of rtc.set_cal: a calendar form; an impossible date is status 0x0C (R420). -/
def rtcSetCal (v : Nat) (s : State) : Status × State :=
  match secondsOf v with
  | none => (.impossible, s)
  | some sec =>
    match rtcTimeWrite sec 0 s with
    | (.ok, t) => (.ok, t.setO Obj.rtcSetCal v)
    | r => r

/-- A write of rtc.shift (R423). -/
def rtcShiftWrite (v : Int) (s : State) : Status × State :=
  if s.bit Obj.rtcStatus 0 then (.stateForbids, s)
  else if v < -16384 ∨ 16384 < v then (.outOfRange, s)
  else if s.bit Obj.rtcStatus 2 then (.busy, s)
  else (.ok, (rtcStartShift v s).setO Obj.rtcShift v)

/-- A write of rtc.cal (R425). -/
def rtcCalWrite (v : Int) (s : State) : Status × State :=
  if v < -127 ∨ 127 < v then (.outOfRange, s)
  else (.ok, (s.record 0x0B05 (u8 (s.o Obj.rtcCal) ++ u8 v)).setO Obj.rtcCal v)

/-- A keyed write of rtc.fso_clear from a slot (R430, R432). -/
def rtcFsoClear (v slot : Nat) (s : State) : Status × State :=
  if v ≠ 1 then (.outOfRange, s)
  else if slot ≠ 0 then (.notOwner, s)
  else
    let s := s.record 0x0B04 (u48 (s.o Obj.rtcFso))
    (.ok, (((s.setO Obj.rtcFso 0).setO Obj.rtcFsoPc 0).setBit Obj.rtcStatus 4 false).setBit Obj.rtcStatus 5 false)

/-- The first switch-over stamp (R429), taken while it is armed; MGT's share at once when it runs, else at the next BOOT. -/
def rtcStamp (s : State) : State :=
  if s.bit Obj.rtcStatus 4 then s
  else
    let s := (s.setO Obj.rtcFso (rtcCount s)).setBit Obj.rtcStatus 4 true
    (s.setBit Obj.rtcStatus 5 s.rtcValid).setFlag .fsoTodo true

/-- MGT's share of the stamp (R429). -/
def rtcStampMgt (s : State) : State :=
  if s.varB .fsoTodo then
    let s := ((s.setFlag .fsoTodo false).setO Obj.rtcFsoPc (s.o Obj.sysPowerCycles)).post 84
    s.record 0x0B03 (u48 (s.o Obj.rtcFso) ++ u8 (if s.bit Obj.rtcStatus 5 then 1 else 0))
  else s

/-- BKP loses power: the counter and the stamp are lost, and the flag of R426 is set at its next power-up. -/
def rtcLost (s : State) : State :=
  let s := ((s.setVar .rtcSec 0).setVar .rtcPre 0).setVar .rtcHalt 0
  let s := (s.setO Obj.rtcFso 0).setO Obj.rtcFsoPc 0
  let s := (s.setO Obj.rtcStatus 1).setO Obj.rtcShiftLeft 0
  ((s.setFlag .fsoTodo false).setO Obj.rtcCal 0).setVar .rtcCycle 0

/-- SHIFT complete: rtc.shift_left has reached 0 (R423). -/
def execRtcShiftComplete (s : State) : Out :=
  if s.bit Obj.rtcStatus 2 && decide (s.o Obj.rtcShiftLeft = 0) then
    .next ((((rtcShiftRecord false s).setBit Obj.rtcStatus 2 false)).post 82)
  else .next s

/-- The counter has reached the end of the range (R418). -/
def execRtcRangeEnd (s : State) : Out :=
  if decide (s.varN .rtcSec = rtcEnd) && !s.bit Obj.rtcStatus 3 then
    .next ((rtcValidity ((s.setBit Obj.rtcStatus 3 true).setVar .rtcPre 32767)).post 83)
  else .next s

/-- The oscillator has failed: no edge for 2 ms ± 50 % (R426). While MGT runs the failure is recorded at once; with MGT off each event is a
failure of its own, after edges that MGT has not seen, and is recorded at the next BOOT. -/
def execOscillatorFailure (s : State) : Out :=
  if (if s.mgtOn then decide (1000 ≤ s.varN .rtcQuiet) && !s.varB .rtcFailed else s.varB .bkpValid) then
    let s := rtcValidity ((s.setFlag .rtcFailed true).setBit Obj.rtcStatus 0 true)
    if s.mgtOn then .next (((s.bump Obj.rtcStops).post 80).record 0x0B02 (u8 0 ++ u32 (s.var .rtcSec)))
    else .next (s.addVar .rtcFailTodo 1)
  else .next s

/-- The count and the records 0x0B02 of the failures while MGT was off, `lo` being the counter's seconds when it stopped: the seconds at a detection lie from
there to the present, and no rule places them further (R426, R431). -/
def rtcFailReports : Nat → Nat → State → State
  | 0, _, s => s.setVar .rtcFailTodo 0
  | n + 1, lo, s =>
    let (f, s) := (s.bump Obj.rtcStops).drawFree
    let sec := lo + f % (s.varN .rtcSec - lo + 1)
    rtcFailReports n sec (s.record 0x0B02 (u8 1 ++ u32 sec))

end Sys2Proof.Machine
end

