-- ==== Sys2Proof/Machine/Power.lean ====
section
/-!
DEFINITION. Holdup Pack, Charger and Power Path (spec/10_holdup_charger.md): the pack, the source selector, the charger with
its input-limit search and safety timer, and the events of HOLDUP up to the end of its shutdown.
-/

namespace Sys2Proof.Machine

/-- PACK_P in mV, as pwr.vpack shows it. -/
def packMv (s : State) : Int := s.o Obj.pwrVpack

/-- Is a pack configured (R318)? -/
def packEn (s : State) : Bool := s.oB Obj.pwrPackEn

/-- A class of sources 160 to 164, which raise no event while pwr.pack_en is false (R318). -/
def packRaise (src cls : Nat) (data : List Byte) (s : State) : State :=
  if packEn s then s.raiseAction src cls data else s

/-- Record data of 0x0707 (R349). -/
def protData (src cls : Nat) (s : State) : List Byte :=
  u8 src ++ u8 cls ++ u16 (packMv s) ++ u16 (s.o Obj.estIpack) ++ u16 (s.o Obj.thTPack)

/-! ## Sources (R321 to R324) -/

/-- The sources of VPP: codes of pwr.src. -/
abbrev Src.none : Nat := 0
abbrev Src.vin : Nat := 1
abbrev Src.vbus : Nat := 2
abbrev Src.pack : Nat := 3

/-- Is VIN_MGT valid for the selector (R311, R312)? -/
def vinValid (s : State) : Bool := decide (s.oN Obj.mgtState ≠ 2) || s.varB .mgtRec

/-- Is VBUS valid (R321)? The port keeps the answer in port.flags. -/
def vbusValid (s : State) : Bool := s.bit Obj.portFlags 0

/-- Is a source valid for selection, or still the source in force (R321)? -/
def srcValid (s : State) (k : Nat) : Bool :=
  if k = Src.vin then vinValid s
  else if k = Src.vbus then vbusValid s
  else if k = Src.pack then (if s.oN Obj.pwrSrc = Src.pack then !s.varB .gateOff else packUsable s)
  else false

/-- The order of the sources (R322). -/
def srcOrder (s : State) : List Nat :=
  if s.mode = .run ∨ s.mode = .holdup then [Src.vin, Src.pack, Src.vbus] else [Src.vin, Src.vbus, Src.pack]

/-- The first valid source, other than one excluded. -/
def firstSource (s : State) (not : Nat) : Option Nat := (srcOrder s).find? fun k => decide (k ≠ not) && srcValid s k

/-- Is an external source valid? -/
def externalValid (s : State) : Bool := vinValid s || vbusValid s

/-- Sources of higher priority than the one in force. -/
def higherSources (s : State) : List Nat := (srcOrder s).takeWhile fun k => decide (k ≠ s.oN Obj.pwrSrc)

/-- Hand VPP to a source (R323, R324). -/
def handOver (new us vlow kind : Nat) (s : State) : State :=
  let s := s.forRange 4 fun i s => s.setVar .hbCnt 0 i
  changeSource new us vlow kind (s.setVar .gateOff 0)

/-- No source is left: VPP is fed by none. -/
def noSource (vlow : Nat) (s : State) : State :=
  let data := u8 (s.o Obj.pwrSrc) ++ u8 0 ++ u16 0 ++ u16 vlow ++ u8 0
  (((s.setVar .gateOff 0).setO Obj.pwrSrc 0).post 52).record 0x0700 data

/-! ## The point of no return (R337) -/

/-- Frames since HOLDUP entry. -/
def holdFrames (s : State) : Nat := s.now - s.varN .holdAt

/-- Has the point of no return been passed? -/
def ponrPassed (s : State) : Bool := s.bit Obj.pwrFlags 10

/-- Is the main input qualified in HOLDUP (R339)? -/
def mainQualified (s : State) : Bool := s.bit Obj.pwrFlags 9

/-- POINT_OF_NO_RETURN: the last-gasp rails are commanded off under R199, whatever precedes them (R337); none is taken once the main input
has qualified (R26, R339), unless it is lost again (DEDUCED, log entry 114). -/
def takePonr (cause : Nat) (s : State) : State :=
  if decide (s.mode ≠ .holdup) || ponrPassed s || (mainQualified s && vinValid s) then s
  else
    let s := ((s.setBit Obj.pwrFlags 10 true).setO Obj.pwrPonrCause cause).stopT .lgT
    let s := (s.setVar .cutHeld 0).post 54
    let data := u8 cause ++ u32 (holdFrames s) ++ u16 (packMv s)
    let s := if 3 ≤ cause then s.raiseAction 167 0 data else s.record 0x0702 data
    s.forEach [18, 19] fun r s =>
      if holder s && sequenced s r && isLastGasp s r && seqOn (seqSt s r) then
        setSeq r SS.discharging (commandOff r (offHard s r) (markOff r 1 s))
      else s

/-- Record 0x0704. -/
def mainBackData (what : Nat) (s : State) : List Byte := u8 what ++ u32 (holdFrames s) ++ u16 (packMv s)

/-- A VBUS that served in place of the pack has become invalid in HOLDUP: the point of no return, subject to R340 as the cutoff of a pack
(R322, R337). -/
def vbusGone (s : State) : State :=
  if decide (s.mode ≠ .holdup) || ponrPassed s then s
  else if mainQualified s && vinValid s then s.record 0x0704 (mainBackData 2 s)
  else if mainInputValid s then s.setVar .cutHeld 6
  else lateEvents (takePonr 6) s

/-- SOURCE_HANDOVER: the source in force has become invalid; the next one takes VPP within `us` µs, with a lowest VPP of
`vlow` times 10 mV (R323, R337); the first that goes to the pack is stamped (R429). -/
def execSourceHandover (us vlow : Nat) (s : State) : Out :=
  let old := s.oN Obj.pwrSrc
  if old ≠ Src.none ∧ srcValid s old = false then
    let s := match firstSource s old with
      | some k =>
        let s := handOver k us vlow 0 s
        if k = Src.pack then rtcStampMgt (rtcStamp s) else s
      | none => noSource vlow s
    .next (if old = Src.vbus then vbusGone s else s)
  else .next s

/-- SOURCE_HANDBACK: a source of higher priority has been valid at 20,000 consecutive ticks (R324). -/
def execSourceHandback (us vlow : Nat) (s : State) : Out :=
  match (higherSources s).find? fun k => s.metCond .hbCnt 20000 k && srcValid s k with
  | some k => .next (if s.oN Obj.pwrSrc = Src.none then s else handOver k us vlow 1 s)
  | none => .next s

/-! ## The pack (R318 to R320) -/

/-- The usable bit from its conditions (R320). -/
def showUsable (s : State) : State :=
  s.setBit Obj.pwrFlags 1 (s.bit Obj.pwrFlags 0 && packEn s && decide (s.o Obj.pwrVpackCut < packMv s) && !s.varB .tdisBad &&
    !s.bit Obj.pwrFlags 12)

/-- The conditions of presence. -/
def packThere (s : State) : Bool := s.pinB .packPres && decide (4000 ≤ s.pin .packP)

/-- PACK_PRESENT: 100 consecutive rounds (R319, R364). -/
def execPackPresent (s : State) : Out :=
  if !s.bit Obj.pwrFlags 0 && s.metCond .packCnt 100 && packThere s then
    let s := packRaise 160 1 (u8 1 ++ u16 (packMv s)) (showUsable (s.setBit Obj.pwrFlags 0 true))
    .next (if s.varB .packOut then packRefit (s.setVar .packOut 0) else s)
  else .next s

/-- The input limit of the source in force: the code of pwr.ilim_src, the limit or the search's cap, and the sag level in mV
where the limit is searched (R329). -/
def inputLimit (s : State) : Option (Nat × Int × Option Int) :=
  if s.oN Obj.pwrSrc = Src.vin then
    if s.oN Obj.pwrIlimBus ≠ 0 then some (0, s.o Obj.pwrIlimBus, none) else some (4, 4000, some (vwarnMv s))
  else if s.oN Obj.pwrSrc = Src.vbus then
    if s.oN Obj.portContract = 4 then some (1, s.o Obj.portIContract, none)
    else if s.oN Obj.portContract = 3 then some (3, 3000, none)
    else if s.oN Obj.portContract = 2 then some (2, 1500, none)
    else some (4, 900, some 4500)
  else none

/-- The voltage of the source in force, in mV. -/
def sourceMv (s : State) : Int := if s.oN Obj.pwrSrc = Src.vin then s.pin .vinMgt else s.pin .vbus

/-- The search ends: interrupt 55 and record 0x0709; below 500 mA class 0x00 of source 168 (R330). -/
def searchEnd (sagMv : Int) (s : State) : State :=
  let s := ((s.setBit Obj.pwrFlags 6 false).stopT .searchT).post 55
  let data := u8 (s.o Obj.pwrIlimSrc) ++ u16 (s.o Obj.pwrIlimIn) ++ u16 (cV sagMv) ++ u16 (s.var .searchSteps)
  if s.o Obj.pwrIlimIn < 500 then s.raiseAction 168 0 data else s.record 0x0709 data

/-- The search begins; one that starts at its cap ends there (R330). -/
def searchStart (cap : Int) (s : State) : State :=
  let s := (s.setO Obj.pwrIlimIn (min cap (s.o Obj.pwrIsrc + 50))).setBit Obj.pwrFlags 6 true
  let s := ((s.setVar .searchSteps 0).setVar .sagOn 0).startTR .searchT 10
  if s.o Obj.pwrIlimIn = cap then searchEnd 0 s else s

/-- A search whose source is lost or changes ends with it (R330). -/
def searchLost (s : State) : State := if s.bit Obj.pwrFlags 6 then searchEnd 0 s else s

/-- A charge phase is entered, with its timer; a charge start begins the safety timer and the search anew (R330, R332, R334), and done
synchronises the estimate (R359). -/
def setChg (st : Nat) (s : State) : State :=
  let old := s.oN Obj.pwrChgState
  let s := s.setVar .chgGoto 0
  if old = st then s
  else
    let s := ((s.setO Obj.pwrChgState st).setVar .vpreCnt 0).setVar .cvCnt 0
    let s := s.setVar .rechCnt 0
    let s := if st = 1 then s.startTR .chgT 3600000
      else if st = 4 then s.startTR .chgT (s.oN Obj.pwrTopoff * 60000) else s.stopT .chgT
    let s := if st = 5 ∨ st = 7 then s.post 49 else s
    let s := if st = 5 then socSync (s.o Obj.estCap) s else s
    let s := s.recordPer 0x0705 0 s.nowRound
      (u8 old ++ u8 st ++ u16 (packMv s) ++ u16 (s.o Obj.pwrIchgNow) ++ u16 (divNearest (s.o Obj.pwrTEq) 60))
    if (st = 1 ∨ st = 2) ∧ old ≠ 1 then
      let s := (((s.setO Obj.pwrTEq 0).setO Obj.pwrTWall 0).setVar .teqFrac 0).setVar .twallFrac 0 |>.setVar .teqDen 0
      match inputLimit s with
      | some (_, cap, some _) => searchStart cap s
      | _ => s
    else s

/-- A charge phase is decided: it takes effect at the next tick (R332). -/
def chgNext (st : Nat) (s : State) : State := s.setVar .chgGoto (st + 1 : Nat)

/-- The charge phase, where no other has been decided in this frame. -/
def chgIs (s : State) (st : Nat) : Bool := !s.varB .chgGoto && decide (s.oN Obj.pwrChgState = st)

/-- PACK_REMOVED: a condition fails at the second consecutive tick (R319, R364). -/
def execPackRemoved (s : State) : Out :=
  if s.bit Obj.pwrFlags 0 && s.metCond .packMiss 2 then
    let s := packRaise 160 0 (u8 0 ++ u16 (packMv s)) (showUsable (s.setBit Obj.pwrFlags 0 false))
    let s := (s.setVar .packCnt 0).setFlag .gateOff (decide (s.oN Obj.pwrSrc = Src.pack))
    let s := (s.setBit Obj.pwrFlags 11 false).setBit Obj.pwrFlags 12 false
    .next (packGone (setChg 0 ((s.setBit Obj.pwrFlags 3 false).setFlag .packOut true)))
  else .next s

/-- PACK_UNUSABLE: the temperature is outside the discharge window at 8 ticks (R320, R337). -/
def execPackUnusable (s : State) : Out :=
  if s.metCond .tdisOut 8 && (!s.varB .tdisBad || (decide (s.mode = .holdup) && !ponrPassed s)) then
    let s := showUsable (s.setFlag .tdisBad true)
    let s := if packEn s then s.raise 163 1 (protData 163 1 s) else s
    .next (if s.oN Obj.pwrSrc = Src.pack then takePonr 5 s else s)
  else .next s

/-- DISCHARGE_OVERCURRENT at 8 ticks: the point of no return in HOLDUP, else PACK_GATE off at the next tick (R343). -/
def execDischargeOvercurrent (s : State) : Out :=
  if s.metCond .ocCnt 8 && !s.bit Obj.pwrFlags 12 then
    let s := packRaise 164 0 (protData 164 0 s) (s.setBit Obj.pwrFlags 12 true)
    let s := showUsable s
    .next (if s.mode = .holdup then takePonr 4 s else s.setFlag .gateDue true)
  else .next s

/-- PACK_GATE_OFF_OVERCURRENT: in HOLDUP the overcurrent persists for a further 1,000 ticks (R343). -/
def execPackGateOffOvercurrent (s : State) : Out :=
  if decide (s.mode = .holdup) && s.bit Obj.pwrFlags 12 && s.metCond .ocCnt 1008 && s.bit Obj.pwrFlags 3 then
    .next ((s.setBit Obj.pwrFlags 3 false).setFlag .gateOff (decide (s.oN Obj.pwrSrc = Src.pack)))
  else .next s

/-- PACK_CUTOFF: the frame mean of PACK_P is at or below pwr.vpack_cut at 4 ticks (R326, R337, R340). In RUN, which HOLDUP has entered while
the 20 ms of R324 still run, main wins (R26, R340). In SETUP PACK_GATE turns off
once no commit runs, and MGT stops: R25 has no transition for it (R612, log entry 16). -/
def execPackCutoff (us vlow : Nat) (s : State) : Out :=
  if s.metCond .cutCnt 4 && decide (s.oN Obj.pwrSrc = Src.pack) then
    if s.mode = .holdup ∧ ponrPassed s = false ∧ s.varB .cutHeld = false then
      if mainQualified s && vinValid s then
        .next (handOver Src.vin us vlow 1 (s.record 0x0704 (mainBackData 2 s)))
      else if mainInputValid s then .next (s.setVar .cutHeld 3)
      else .next (takePonr 3 s)
    else if s.mode = .run && mainInputValid s && vinValid s && decide (s.oN Obj.estExState ≠ 2) then
      .next (handOver Src.vin us vlow 1 (s.record 0x0704 (mainBackData 2 s)))
    else if (s.mode = .setup ∨ s.mode = .safe) ∧ externalValid s = false then .next (s.setFlag .cutDone true)
    else .next s
  else .next s

/-! ## Charger (R328 to R334) -/

/-- The modes in which the charger works. -/
def chgMode (s : State) : Bool := decide (s.mode = .setup ∨ s.mode = .run ∨ s.mode = .safe ∨ s.mode = .bench)

/-- The first condition of R328 that fails, as pwr.susp names it; a latch has no code of its own there. An exercise that
discharges has MGT on the pack for its own part: it is the exercise that suspends (R366). -/
def chgFails (s : State) : Option Nat :=
  if s.oN Obj.estExState = 2 ∧ s.oN Obj.pwrSrc = Src.pack then some 4
  else if ¬ (s.oN Obj.pwrSrc = Src.vin ∨ s.oN Obj.pwrSrc = Src.vbus) then some 3
  else if !chgMode s then some 5
  else if !(s.bit Obj.pwrFlags 0 && packEn s) then some 6
  else if s.varB .chgHot then some 2
  else if s.bit Obj.pwrFlags 11 then some 0
  else if exRuns s then some 4
  else if s.varB .susCmd then some 1
  else none

/-- The phase that a failing condition puts the charger in (R332). -/
def chgIdle (s : State) : Nat :=
  if s.bit Obj.pwrFlags 11 then 7 else if !(s.bit Obj.pwrFlags 0 && packEn s) || !chgMode s then 0 else 6

/-- INPUT_LIMIT_SEARCH_STEP: every 10 rounds 50 mA more, to the cap (R330). -/
def execInputLimitSearchStep (s : State) : Out :=
  match inputLimit s with
  | some (_, cap, some _) =>
    if s.bit Obj.pwrFlags 6 && s.dueTR .searchT then
      let s := (s.setO Obj.pwrIlimIn (min cap (s.o Obj.pwrIlimIn + 50))).addVar .searchSteps 1
      .next (if s.o Obj.pwrIlimIn = cap then searchEnd 0 s else s.startTR .searchT 10)
    else .next s
  | _ => .next s

/-- INPUT_LIMIT_SAG: the source voltage reaches the sag level, during a search or after it (R330). -/
def execInputLimitSag (s : State) : Out :=
  match inputLimit s with
  | some (_, _, some sag) =>
    if decide (sourceMv s ≤ sag) && !s.varB .sagOn then
      let s := s.setFlag .sagOn true
      if s.bit Obj.pwrFlags 6 then
        .next (searchEnd (sourceMv s) (s.setO Obj.pwrIlimIn (s.o Obj.pwrIsrc * 90 / 1000 * 10)))
      else .next (s.setO Obj.pwrIlimIn (divNearest (s.o Obj.pwrIlimIn * 9) 10))
    else .next s
  | _ => .next s

/-- CHARGE_START: the conditions hold (R332, R334). -/
def execChargeStart (s : State) : Out :=
  if (chgFails s).isNone && (chgIs s 0 || chgIs s 6 || chgIs s 7 || (chgIs s 5 && s.metCond .rechCnt 10)) then
    .next (chgNext (if packMv s < s.o Obj.pwrVpre then 1 else 2) (s.setO Obj.pwrSusp 0))
  else .next s

/-- PRECHARGE_DONE: at or above pwr.vpre + 100 mV at 100 ticks (R332). -/
def execPrechargeDone (s : State) : Out :=
  if chgIs s 1 && s.metCond .vpreCnt 100 then .next (chgNext 2 s) else .next s

/-- The charger is latched, and off from the next tick on (R332 to R334). -/
def chgLatch (s : State) : State := chgNext 7 (s.setBit Obj.pwrFlags 11 true)

/-- Record data of 0x0706. -/
def timerData (cls which : Nat) (s : State) : List Byte :=
  u8 cls ++ u8 which ++ u16 (divNearest (s.o Obj.pwrTEq) 60) ++ u16 (divNearest (s.o Obj.pwrTWall) 60) ++ u16 (packMv s)

/-- PRECHARGE_TIMEOUT: 1 h in precharge (R332). The record's byte for the safety timer is 0x00 (R349; DESIGN CHOICE, log entry 116). -/
def execPrechargeTimeout (s : State) : Out :=
  if chgIs s 1 && s.dueTR .chgT then .next (packRaise 161 1 (timerData 1 0 s) (chgLatch s)) else .next s

/-- CV_ENTRY: PACK_P reaches pwr.vchg (R332). -/
def execCvEntry (s : State) : Out :=
  if chgIs s 2 && decide (s.o Obj.pwrVchg ≤ packMv s) then .next (chgNext 3 s) else .next s

/-- TOPOFF_ENTRY: below C ÷ 20 at 1,000 consecutive counting ticks (R332). -/
def execTopoffEntry (s : State) : Out :=
  if chgIs s 3 && s.metCond .cvCnt 1000 then .next (chgNext 4 s)
  else .next s

/-- TOPOFF_EXPIRY: done is entered at the next tick, where the stored charge is known (R332, R359). -/
def execTopoffExpiry (s : State) : Out :=
  if chgIs s 4 && s.dueTR .chgT then .next (chgNext 5 s) else .next s

/-- CHARGE_SUSPEND: a condition of R328 fails; the charger is off, suspended or latched (R332). -/
def execChargeSuspend (s : State) : Out :=
  match chgFails s with
  | some why =>
    let s := s.setO Obj.pwrSusp why
    let s := if why = 2 ∧ packEn s then s.raise 163 0 (protData 163 0 s) else s
    .next (if s.oN Obj.pwrChgState = chgIdle s then s.setVar .chgGoto 0 else chgNext (chgIdle s) s)
  | none => .next s

/-- PACK_OVERVOLTAGE: pwr.vchg + 150 mV at 8 ticks; the latch returns while the level lasts (R333). -/
def execPackOvervoltage (s : State) : Out :=
  if s.metCond .chgOvCnt 8 && packEn s && (!s.condOn 162 0 || !s.bit Obj.pwrFlags 11) then
    .next (chgLatch (s.raise 162 0 (protData 162 0 s)))
  else .next s

/-- The limits of the safety timer that are reached: equivalent, absolute (R334). -/
def safetyReached (s : State) : Bool × Bool :=
  (decide (s.o Obj.pwrSafety * 3600 ≤ s.o Obj.pwrTEq), decide (72000 ≤ s.o Obj.pwrTWall))

/-- SAFETY_TIMER_EXPIRY (R334). -/
def execSafetyTimerExpiry (s : State) : Out :=
  let st := s.oN Obj.pwrChgState
  let (e, w) := safetyReached s
  if !s.varB .chgGoto && decide (st = 1 ∨ st = 2 ∨ st = 3) && (e || w) then
    let which : Nat := if e && w then 2 else if w then 1 else 0
    .next (packRaise 161 0 (timerData 0 which s) (chgLatch s))
  else .next s

/-- A write of pwr.cmd (R328, R332, R343, R350): its status and effect. -/
def pwrCmd (v : Nat) (s : State) : Status × State :=
  if v = 1 then
    (.ok, showUsable (((s.setBit Obj.pwrFlags 11 false).setBit Obj.pwrFlags 12 false).setFlag .susCmd false))
  else if v = 2 then (.ok, s.setFlag .susCmd true)
  else (.outOfRange, s)

/-- A write of pwr.lg_done (R337, R350): its status and effect. -/
def lgDoneWrite (v : Nat) (s : State) : Status × State :=
  if s.mode ≠ .holdup then (.stateForbids, s) else if v ≠ 1 then (.outOfRange, s) else (.ok, takePonr 2 s)

/-! ## Holdup (R335 to R342) -/

/-- LAST_GASP_TIMER_EXPIRY (R337). -/
def execLastGaspTimerExpiry (s : State) : Out :=
  if decide (s.mode = .holdup) && s.dueT .lgT then .next (takePonr 1 s) else .next s

/-- MAIN_RETURN_QUALIFIED: the main input is valid for 20 µs before the point of no return; the return is latched as an on request (R26,
R339, R340). -/
def execMainReturnQualified (us vlow : Nat) (s : State) : Out :=
  if decide (s.mode = .holdup) && !ponrPassed s && !mainQualified s && s.metCond .mainCnt 20 then
    let held := s.varB .cutHeld
    let s := ((s.setBit Obj.pwrFlags 9 true).stopT .lgT).setVar .cutHeld 0
    let s := s.record 0x0704 (mainBackData (if held then 2 else 0) s)
    let s := if yardAt s = 0 then s else onRequest 2 s
    .next (if held ∧ s.oN Obj.pwrSrc = Src.pack then handOver Src.vin us vlow 1 s else s)
  else .next s

/-- Is every sequenced rail discharged: none on, each below its threshold or past its discharge wait (R197, R338)? -/
def railsDischarged (s : State) : Bool :=
  (seqRails s).all fun r => !seqOn (seqSt s r) && (s.varB .dis r || decide (s.var .vMean r < s.o (Obj.seqOffThr r)))

/-- Does a commit run? -/
def commitRuns (s : State) : Bool := (jobRunning s 5).isSome

/-- HOLDUP_SHUTDOWN_COMPLETE: R25 then takes BACKUP, or BOOT if the main input is valid (R338, R341). -/
def execHoldupShutdownComplete (s : State) : Out :=
  if decide (s.mode = .holdup) && ponrPassed s && railsDischarged s && !commitRuns s && !s.varB .modeReq Mode.boot.code &&
      !s.varB .modeReq Mode.backup.code then
    let back := mainInputValid s
    let s := if back then s.record 0x0704 (mainBackData 1 s) else s
    let s := s.record 0x0703 (u32 (holdFrames s) ++ u8 (State.ofBool back) ++ u16 (packMv s))
    .next (if back then s.requestMode .boot 4 else s.requestMode .backup 0x0E)
  else .next s

/-- BKP_POWER_LOSS: with MGT unpowered, as in BACKUP, PACK_P has fallen below 4.0 V (R327): everything BKP retains is lost. -/
def execBkpPowerLoss (v : Nat) (s : State) : Out :=
  if !s.mgtOn && decide (v < 4000) && s.varB .bkpValid then
    let s := rtcLost (s.setFlag .bkpValid false)
    .next ((s.setVar .bkpMode 0).setVar .commitMarker 0)
  else .next s

/-! ## Ticks and rounds -/

/-- The higher-priority source's count of R324, the main input's while it is at or above VWARN + 200 mV (R312); none during an
exercise, whose hand-over is commanded (R367). -/
def handbackTick (s : State) : State :=
  let hi := if decide (s.oN Obj.estExState = 2) then [] else higherSources s
  let s := s.forEach [1, 2, 3] fun k s => s.countCond .hbCnt (hi.contains k && srcValid s k && (decide (k ≠ Src.vin) || mainInputValid s)) k
  s.setBit Obj.pwrFlags 8 ([1, 2, 3].any fun k => s.varB .hbCnt k)

/-- What the input limit leaves to the charger: its current less what the source current exceeds pwr.ilim_in by, and 0 where MGT and the
bucks alone draw more (R329). How a change of the charger current changes the source current is the board's: one for one is a DESIGN
CHOICE (log entry 106). -/
def inputHeadroom (s : State) : Int := max 0 (s.o Obj.pwrIchgNow + s.o Obj.pwrIlimIn - s.o Obj.pwrIsrc)

/-- One frame of pwr.t_eq, which counts f of it, exactly (R334): f is a fraction of 1,000 × pwr.ichg, and the part of a second that has passed
keeps a common denominator of all that have been added. -/
def teqTick (s : State) : State :=
  let d := 1000 * s.oN Obj.pwrIchg
  let n := min (1000 * s.oN Obj.pwrIchg) (min (s.oN Obj.pwrIchg * s.oN Obj.thScale) (1000 * s.oN Obj.thChgCeiling))
  let (n, d) := if d = 0 then (1, 1) else (n, d)
  let den := if s.varB .teqDen then Nat.lcm (s.varN .teqDen) d else d
  let a := s.varN .teqFrac * (den / max 1 (s.varN .teqDen)) + n * (den / d)
  let s := (s.setVar .teqDen (den : Nat)).setVar .teqFrac (a % (den * 1000000) : Nat)
  s.addO Obj.pwrTEq (a / (den * 1000000) : Nat)

/-- The charger at a tick: the phase decided in the last frame, counts, ceilings and the two counts of the safety timer. -/
def chargerTick (s : State) : State :=
  let s := if s.varB .chgGoto then setChg (s.varN .chgGoto - 1) s else s
  let st := s.oN Obj.pwrChgState
  let t := s.o Obj.thTPack
  let hot := if s.varB .chgHot then decide (t < s.o Obj.pwrTchgLo + 32 ∨ s.o Obj.pwrTchgHi - 32 < t)
    else decide (t < s.o Obj.pwrTchgLo ∨ s.o Obj.pwrTchgHi < t)
  let s := s.setFlag .chgHot (hot && s.bit Obj.pwrFlags 0)
  let s := if hot then s else s.condOff 163 0
  let ov := decide (s.o Obj.pwrVchg + 150 ≤ packMv s)
  let s := s.countCond .chgOvCnt ov
  let s := if ov then s else s.condOff 162 0
  let scaled := divNearest (s.o Obj.pwrIchg * s.o Obj.thScale) 1000
  let ceil := min scaled (s.o Obj.thChgCeiling)
  let phase := if st = 1 then min (divNearest (s.o Obj.pwrCapNom) 10) ceil else if st = 2 ∨ st = 3 ∨ st = 4 then ceil else 0
  let s := s.setVar .chgCeil (min phase (inputHeadroom s))
  let s := s.countCond .vpreCnt (decide (st = 1) && decide (s.o Obj.pwrVpre + 100 ≤ packMv s))
  let held := decide (s.o Obj.pwrIlimIn ≤ s.o Obj.pwrIsrc) ||
    (decide (s.o Obj.thScale < 1000) && decide (scaled ≤ s.o Obj.pwrIchgNow))
  let s := if held ∧ st = 3 then s
    else s.countCond .cvCnt (decide (st = 3) && decide (20 * s.o Obj.pwrIchgNow < s.o Obj.pwrCapNom))
  if st = 1 ∨ st = 2 ∨ st = 3 then
    let s := teqTick s
    let w := s.var .twallFrac + 1
    (s.setVar .twallFrac (w % 1000000)).addO Obj.pwrTWall (w / 1000000)
  else s

/-- The input limit at a tick (R329, R330): fixed, or searched from an attach or return of its source. -/
def limitTick (s : State) : State :=
  match inputLimit s with
  | none => searchLost (s.setVar .limKey 0)
  | some (code, lim, search) =>
    let key := 16 * s.oN Obj.pwrSrc + code + 1
    let fresh := decide (s.varN .limKey ≠ key)
    let s := ((if fresh then searchLost s else s).setVar .limKey key).setO Obj.pwrIlimSrc code
    match search with
    | none => s.setO Obj.pwrIlimIn lim
    | some sag =>
      let s := if sourceMv s ≤ sag then s else s.setVar .sagOn 0
      if fresh then searchStart lim s else s

/-- A measured quantity as an unsigned object of 16 bits. -/
def shown16 (v : Int) : Int := clamp 0 65535 v

/-- The power path at a tick (R319 to R324, R326, R337, R343). -/
def powerTick (s : State) : State :=
  let s := (s.setO Obj.pwrVpack (shown16 (s.pin .packP))).setO Obj.pwrVpp (shown16 (s.pin .vpp))
  let s := (s.setO Obj.pwrIsrc (shown16 (s.pin .isrc))).setO Obj.pwrIchgNow (shown16 (s.pin .ichg))
  let there := packThere s
  let s := s.countCond .packMiss (!there)
  let s := if there then s else s.setFlag .packBadRound true
  let t := s.o Obj.thTPack
  let out := decide (t < s.o Obj.pwrTdisLo ∨ s.o Obj.pwrTdisHi < t) && s.bit Obj.pwrFlags 0
  let s := (s.countCond .tdisOut out).countCond .tdisIn (!out)
  let s := if s.varB .tdisBad && s.metCond .tdisIn 8 then (s.setFlag .tdisBad false).condOff 163 1 else s
  let oc := decide (s.o Obj.estIpack ≤ -s.o Obj.pwrIdisLim) && s.bit Obj.pwrFlags 0
  let s := s.countCond .ocCnt oc
  let s := s.countCond .cutCnt (decide (packMv s ≤ s.o Obj.pwrVpackCut))
  let s := if s.varB .gateDue then
      (s.setVar .gateDue 0).setFlag .gateOff (decide (s.oN Obj.pwrSrc = Src.pack))
    else s
  let s := if s.oN Obj.pwrSrc = Src.pack then s else s.setVar .gateOff 0
  let s := if externalValid s then s.setVar .cutDone 0 else s
  let s := if decide (s.mode = .setup) && s.varB .cutDone && decide (s.oN Obj.pwrSrc = Src.pack) && !commitRuns s then
      (s.setFlag .gateOff true).setVar .cutDone 0
    else s
  let s := showUsable s
  let s := if s.oN Obj.pwrSrc = Src.none then
      match firstSource s 0 with
      | some k => handOver k 0 (cV (s.o Obj.pwrVpp)).toNat 1 s
      | none => s
    else s
  let armed := s.bit Obj.mgtPrep 0 && packUsable s
  let s := (s.setBit Obj.pwrFlags 2 armed).setBit Obj.pwrFlags 3
    (packEn s && !s.varB .gateOff && (decide (s.oN Obj.pwrSrc = Src.pack) || armed))
  let s := handbackTick s
  let s := limitTick (chargerTick s)
  let s := ((s.setBit Obj.pwrFlags 4 (decide (0 < s.o Obj.pwrIchgNow))).setBit Obj.pwrFlags 5 (decide (s.o Obj.thScale < 1000)))
  let s := s.setO Obj.pwrSusp ((chgFails s).getD 0)
  if s.mode = .holdup then
    let s := s.countCond .mainCnt (mainInputValid s)
    let s := s.setO Obj.pwrLgLeft (if s.varB .lgT then (s.leftT .lgT : Nat) else 0)
    if s.varB .cutHeld && !mainInputValid s then takePonr (s.varN .cutHeld) s else s
  else s.setVar .mainCnt 0

/-- The power path at a round boundary. -/
def powerRound (s : State) : State :=
  let s := (s.countCond .packCnt (!s.varB .packBadRound && packThere s)).setFlag .packBadRound false
  s.countCond .rechCnt (decide (s.oN Obj.pwrChgState = 5) && decide (packMv s < s.o Obj.pwrVrech))

/-- The check of a write (R350). -/
def powerConfigOk (s : State) : Bool :=
  decide (s.o Obj.pwrVrech + 200 ≤ s.o Obj.pwrVchg) && decide (s.o Obj.pwrTchgLo < s.o Obj.pwrTchgHi) &&
  decide (s.o Obj.pwrTdisLo < s.o Obj.pwrTdisHi)

end Sys2Proof.Machine
end

