-- ==== Sys2Proof/Machine/Port.lean ====
section
/-!
DEFINITION. Service Port and Bench Mode (spec/13_service_port.md): attach and detach, contracts, protection, role swaps and
bench mode.
-/

namespace Sys2Proof.Machine

/-- The port's state, the codes of port.state. -/
def portSt (s : State) : Nat := s.oN Obj.portState

/-- Send a message to the partner. -/
def pdSend (m : PdMsg) (s : State) : State := { s with pdTx := s.pdTx ++ [m] }

/-- Has the port an explicit contract? -/
def pdContract (s : State) : Bool := decide (s.oN Obj.portContract = 4)

/-- Has the cable been pulled during a transition, with VBUS not yet discharged (R406)? -/
def cablePulled (s : State) : Bool := decide (portSt s = 2) && s.bit Obj.portFlags 7

/-- Is the port attached to a partner? -/
def portAttached (s : State) : Bool := decide (portSt s = 2 ∨ portSt s = 3) && !cablePulled s

/-- Are PD messages exchanged in this mode (R399)? -/
def pdMode (s : State) : Bool := s.mgtOn && decide (s.mode ≠ .boot ∧ s.mode ≠ .shelf ∧ s.mode ≠ .backup)

/-- May the port act as source (R399)? -/
def sourceAllowed (s : State) : Bool :=
  decide (s.mode = .setup ∨ s.mode = .run ∨ s.mode = .safe) && decide (s.oN Obj.pwrSrc = Src.vin)

/-- A contract comes into force: interrupt 73 and record 0x0A02 (R414, R415). -/
def setContract (kind mv ma : Nat) (s : State) : State :=
  if s.oN Obj.portContract = kind ∧ s.oN Obj.portVContract = mv ∧ s.oN Obj.portIContract = ma then s
  else
    let s := ((s.setO Obj.portContract kind).setO Obj.portVContract mv).setO Obj.portIContract ma
    (s.post 73).record 0x0A02 (u8 kind ++ u16 mv ++ u16 ma ++ u8 (s.o Obj.portPowerRole))

/-- The Type-C contract that an Rp advertisement stands for: 5 V at the advertised current (R401). -/
def typeCContract (term : Nat) (s : State) : State :=
  if term = 3 then setContract 3 5000 3000 s else if term = 2 then setContract 2 5000 1500 s
  else setContract 1 5000 900 s

/-- A voltage transition ends, or its partial contract is discarded. -/
def clearTransition (s : State) : State :=
  ((((s.setBit Obj.portFlags 3 false).stopT .transT).setVar .reqV 0).setVar .reqI 0).setVar .oldV 0

/-- Bench mode ends: the UART's transaction is discarded (R412). -/
def benchExit (cause : Nat) (s : State) : State :=
  if s.bit Obj.portFlags 4 then
    let s := ((resetPort 4 s).setBit Obj.portFlags 4 false).post 77
    s.record 0x0A07 (u8 cause ++ u32 (s.now - s.varN .benchAt : Nat))
  else s

/-- Both paths off and VBUS invalid (R321, R404). -/
def pathsOff (s : State) : State :=
  ((s.setBit Obj.portFlags 0 false).setBit Obj.portFlags 1 false).setBit Obj.portFlags 2 false

/-- The port forgets its partner. -/
def portForget (st : Nat) (s : State) : State :=
  let s := setContract 0 0 0 (clearTransition (pathsOff s))
  let s := (((s.setO Obj.portState st).setO Obj.portOrient 0).setO Obj.portPowerRole 0).setO Obj.portDataRole 0
  let s := (((s.stopT .debT).stopT .openT).stopT .drT).stopT .tryT
  let s := (((s.setVar .ownReq 0).setVar .ownHow 0).setVar .ownAgain 0).setVar .trySnk 0
  (s.stopT .resendT).setBit Obj.portFlags 5 false

/-- DETACH of the port: interrupt 72 and record 0x0A01; a latch and bench mode end (R397, R405, R412). -/
def portDetach (why : Nat) (s : State) : State :=
  let old := portSt s
  let s := (s.post 72).record 0x0A01 (u8 old ++ u16 (s.o Obj.portVbus) ++ u8 why)
  portForget 0 ((benchExit 1 s).setBit Obj.portFlags 6 false)

/-! ## Attach and detach (R396 to R398) -/

/-- What the port applies to its CC pins: 0 open, 1 Rd, 2 Rp for 1.5 A (SinkTxNG), 3 Rp for 3.0 A (SinkTxOk). Rd while MGT is unpowered, in
SHELF and BACKUP, as sink only, latched, attached as sink and while sink is tried; a dual-role port with no partner applies Rp for 30 %
of each 75 ms (R396, R402, R404, R405, R408). A source with a contract shows SinkTxOk but in the frame of a
sequence of its own, which no later message of the row's sender comes into. -/
def ccPad (s : State) : Nat :=
  if s.varB .ccIsol then 0
  else if !s.mgtOn || decide (s.mode = .shelf ∨ s.mode = .backup) || decide (portSt s = 5) then 1
  else if portSt s = 4 then 0
  else if s.oN Obj.portRoleCfg ≠ 1 ∨ portSt s = 2 ∨ s.varN .trySnk = 1 then 1
  else if portSt s = 3 then (if pdContract s && decide (s.varN .ownSeq ≠ s.now + 1) then 3 else 2)
  else if s.varN .trySnk = 2 then 2
  else if portSt s = 1 then (if s.varN .ccTerm = 4 then 2 else 1)
  else if (s.now + Config.toggleLead) % 75000 < 22500 then 2 else 1

/-- What a sideband pin does, SBU1 at 0 and SBU2 at 1: 0 high impedance, 1 transmits, 2 receives (R411, R412). -/
def sbuPad (s : State) (pin : Nat) : Nat :=
  if s.bit Obj.portFlags 4 then (if s.oN Obj.portOrient = pin + 1 then 1 else 2) else 0

/-- The time for which a role of Try.SNK is kept: the Type-C specification gives 75 ms to 150 ms (PRESUMED, log entry 59). -/
def startTry (st : Nat) (s : State) : State :=
  let (f, s) := s.drawFree
  (s.setVar .trySnk st).startT .tryT (75000 + f % 75001)

/-- CC_STATE_CHANGE: a partner's termination appears or changes, which starts or restarts the debounce (R397). A dual-role port that sees
a partner's Rd tries sink first (R396). An attach held since the dead-battery path closed is judged at the end of the debounce, whatever
the CC pins do meanwhile (R398). A sink without explicit contract takes the new advertisement (R401); a source starts to time an open
CC. -/
def execCcStateChange (pin term : Nat) (s : State) : Out :=
  let s := (s.setVar .ccPin (if term = 0 then 0 else pin)).setVar .ccTerm term
  let st := portSt s
  if st = 0 ∨ st = 1 then
    if s.bit Obj.portFlags 5 then .next (s.startT .debT 150000)
    else if 1 ≤ term ∧ term ≤ 3 then
      .next ((((s.setVar .trySnk 0).stopT .tryT).setO Obj.portState 1).startT .debT 150000)
    else if s.varN .trySnk = 1 then .next s
    else if term = 4 ∧ s.oN Obj.portRoleCfg = 1 ∧ s.varN .trySnk = 0 then .next (startTry 1 ((s.setO Obj.portState 1).stopT .debT))
    else if term = 0 then .next ((((s.setO Obj.portState 0).stopT .debT).setVar .trySnk 0).stopT .tryT)
    else .next (((s.setO Obj.portState 1).stopT .tryT).startT .debT 150000)
  else if term = 0 ∧ (st = 3 ∨ st = 5) then .next (s.startT .openT 15000)
  else
    let s := s.stopT .openT
    if st = 2 ∧ cablePulled s = false ∧ 1 ≤ term ∧ term ≤ 3 ∧ pdContract s = false ∧ s.bit Obj.portFlags 3 = false then .next (typeCContract term s)
    else .next s

/-- Record 0x0A00. -/
def attachData (dead : Bool) (s : State) : List Byte :=
  let t := s.varN .ccTerm
  u8 (s.o Obj.portPowerRole) ++ u8 (s.o Obj.portDataRole) ++ u8 (s.o Obj.portOrient) ++
    u8 (if 1 ≤ t ∧ t ≤ 3 then t - 1 else 0xFF : Nat) ++ u8 (State.ofBool dead)

/-- May a new attach as sink be recognised (R399)? BOOT holds what is attached; in SHELF and BACKUP there is the dead-battery path alone. -/
def sinkAllowed (s : State) : Bool :=
  decide (s.mode ≠ .boot) && (s.bit Obj.portFlags 5 || decide (s.mode ≠ .shelf ∧ s.mode ≠ .backup))

/-- CC_ATTACH: CC stable for 150 ms; a sink also needs VBUS at or above 4.40 V, else an attach held since the dead-battery path
closed is dropped (R397, R398). A source has tried sink first (R396). -/
def execCcAttach (s : State) : Out :=
  let t := s.varN .ccTerm
  if decide (portSt s = 1) && s.dueT .debT then
    let dead := s.bit Obj.portFlags 5
    if (1 ≤ t ∧ t ≤ 3) ∨ dead then
      if !sinkAllowed s then .next s
      else if 4400 ≤ s.pin .vbus ∧ 1 ≤ t ∧ t ≤ 3 then
        let s := ((s.setO Obj.portState 2).setO Obj.portPowerRole 1).setO Obj.portDataRole 1
        let s := ((s.setO Obj.portOrient (s.var .ccPin)).setBit Obj.portFlags 1 true).setBit Obj.portFlags 5 false
        let s := ((s.stopT .debT).bump Obj.portAttaches).post 72
        .next (typeCContract t (s.record 0x0A00 (attachData dead s)))
      else if dead then .next (portForget 0 s)
      else .next s
    else if t = 4 ∧ s.oN Obj.portRoleCfg = 1 ∧ s.varN .trySnk = 2 ∧ sourceAllowed s then
      let s := ((s.setO Obj.portState 3).setO Obj.portPowerRole 2).setO Obj.portDataRole 2
      let s := (s.setVar .trySnk 0).setVar .attAt s.now
      let s := ((s.setO Obj.portOrient (s.var .ccPin)).stopT .debT).bump Obj.portAttaches
      .next ((s.post 72).record 0x0A00 (attachData false s))
    else .next s
  else .next s

/-- DETACH: a sink whose VBUS falls below 3.67 V outside a transition; a source, or a latched port, whose CC is open for
15 ms (R397, R405). A pull during a transition ends with its discharge (R406). -/
def execDetach (s : State) : Out :=
  if portSt s = 2 ∧ cablePulled s = false ∧ s.pin .vbus < 3670 ∧ s.bit Obj.portFlags 3 = false then .next (portDetach 0 s)
  else if (portSt s = 3 ∨ portSt s = 5) ∧ s.dueT .openT then .next (portDetach 1 s)
  else .next s

/-- DEAD_BATTERY_ATTACH: while MGT is unpowered, VBUS above 4.0 V with Rp on a CC pin closes the sink path (R398). -/
def execDeadBatteryAttach (v pin term : Nat) (s : State) : Out :=
  if !s.mgtOn && decide (4000 < v) && decide (1 ≤ term ∧ term ≤ 3) then
    let s := ((s.setVar .ccPin pin).setVar .ccTerm term).setPin .vbus v
    .next ((s.setBit Obj.portFlags 1 true).setBit Obj.portFlags 5 true)
  else .next s

/-- Is a sink attach held (R321, R398)? -/
def sinkAttach (s : State) : Bool := decide (portSt s = 2) || s.bit Obj.portFlags 5

/-! ## Contracts (R401 to R403) -/

/-- The highest voltage that port.snk_vmax allows, in mV. -/
def snkVmax (s : State) : Nat := [5000, 9000, 15000].getD (s.oN Obj.portSnkVmax) 15000

/-- The offer that R401 chooses: the highest power, the lower voltage between equals. -/
def choosePdo (vmax imax : Nat) (l : List Pdo) : Option Pdo :=
  (l.filter fun p => p.fixed && decide (p.mv ≤ vmax)).foldl (fun best p =>
    match best with
    | none => some p
    | some b =>
      let pb := b.mv * min b.ma imax
      let pp := p.mv * min p.ma imax
      if pb < pp ∨ (pb = pp ∧ p.mv < b.mv) then some p else some b) none

/-- The sink PDOs that the port advertises: 5 V, 9 V and 15 V up to port.snk_vmax, each at port.snk_imax (R401). -/
def sinkPdos (s : State) : List Pdo :=
  ([5000, 9000, 15000].filter fun v => decide (v ≤ snkVmax s)).map fun v => { fixed := true, mv := v, ma := s.oN Obj.portSnkImax }

/-- The source PDO that the port offers: 5 V at 1.5 A (R402). -/
def sourcePdos : List Pdo := [{ fixed := true, mv := 5000, ma := 1500 }]

/-- REQUEST_WITHDRAWN: as sink, a partner's message has come before the port's own request. One of port.cmd is to be sent again 100 ms after
the partner's sequence, which `ends` here or goes on; once only (R408). -/
def withdrawOwn (ends : Bool) (s : State) : State :=
  if s.varB .ownReq && decide (portSt s = 2) then
    let k := s.varN .ownReq - 1
    let role := if k = 0 then s.oN Obj.portPowerRole else s.oN Obj.portDataRole
    let s := if s.varN .ownHow = 2 then s else s.record 0x0A09 (u8 k ++ u8 role ++ u8 2)
    if s.varB .ownPref || s.varB .ownAgain then ((s.setVar .ownReq 0).setVar .ownPref 0).setVar .ownAgain 0
    else
      let s := s.setVar .ownHow 2
      if ends then s.startT .resendT 100000 else s.stopT .resendT
  else s

/-- SOURCE_CAPABILITIES: a Request for the best fixed supply; the transition to it begins (R401, R404). The partner's sequence goes on to its
PS_RDY. -/
def execSourceCapabilities (pdos : List Pdo) (s : State) : Out :=
  if portAttached s && decide (portSt s = 2) && pdMode s then
    let s := withdrawOwn false s
    let imax := s.oN Obj.portSnkImax
    match choosePdo (snkVmax s) imax pdos with
    | some p =>
      let i := min p.ma imax
      let s := ((s.setVar .reqV p.mv).setVar .reqI i).setBit Obj.portFlags 3 true
      .next (pdSend (.request p.mv i) (s.stopT .transT))
    | none => .next (withdrawOwn true s)
  else .next s

/-- PS_RDY: the new contract is in force: the partner's as sink, the port's own, for the one PDO it offers, as source (R401, R402, R407). -/
def execPsRdy (s : State) : Out :=
  if decide (portSt s = 2) && pdMode s && s.bit Obj.portFlags 3 && s.varB .reqV then
    let old := s.o Obj.portVContract
    let s := (withdrawOwn true (setContract 4 (s.varN .reqV) (s.varN .reqI) s)).setVar .oldV old
    .next (((s.setVar .reqV 0).setVar .reqI 0).startT .transT 10000 |>.startT .drT 100000)
  else if decide (portSt s = 3) && s.bit Obj.portFlags 2 && pdMode s && !pdContract s then
    .next ((setContract 4 5000 1500 s).startT .drT 100000)
  else .next s

/-- TRANSITION_END: 10 ms after PS_RDY (R404). -/
def execTransitionEnd (s : State) : Out :=
  if s.bit Obj.portFlags 3 && s.dueT .transT then .next (clearTransition s) else .next s

/-- EPR_MODE_REQUEST: answered Not_Supported (R401). -/
def execEprModeRequest (s : State) : Out :=
  if portAttached s && pdMode s then .next (pdSend .notSupported (withdrawOwn true s)) else .next s

/-- VBUS_SOURCE_ON: within 275 ms of the attach as source; the port then offers its PDO (R402). -/
def execVbusSourceOn (s : State) : Out :=
  if decide (portSt s = 3) && !s.bit Obj.portFlags 2 && sourceAllowed s && decide (s.now ≤ s.varN .attAt + 275000) then
    .next (pdSend (.sourceCapabilities sourcePdos) (s.setBit Obj.portFlags 2 true))
  else .next s

/-- HARD_RESET sent or received: the contract is lost. The port sends none while VBUS is the only valid source: Soft_Reset
takes its place (R403, R412). -/
def execHardReset (sent : Bool) (s : State) : Out :=
  if !portAttached s || !pdMode s then .next s
  else if sent && vbusValid s && !vinValid s && !packUsable s then .next (pdSend .softReset s)
  else
    let s := if sent then pdSend .hardReset s else withdrawOwn true s
    let s := s.raiseActionLater 184 0 (u8 (if sent then 0 else 1) ++ u8 (s.o Obj.portPowerRole) ++ u8 (s.o Obj.pwrSrc))
    let s := clearTransition (benchExit 2 s)
    let s := s.setO Obj.portDataRole (s.o Obj.portPowerRole)
    .next (if portSt s = 2 then typeCContract (s.varN .ccTerm) s else setContract 0 0 0 s)

/-! ## Protection (R404 to R406) -/

/-- The contract voltage that the overvoltage threshold is taken against, in mV: the higher of old and new while a transition lasts. -/
def ovVolt (s : State) : Nat :=
  if s.bit Obj.portFlags 3 then max (s.varN .oldV) (max (s.oN Obj.portVContract) (s.varN .reqV)) else s.oN Obj.portVContract

/-- A trip's threshold, in quarters and fifths: kinds 1 OV, 2 sink OC, 3 source OC, 4 reverse, 5 CC; in twentieths of a mV or mA. -/
def tripLimit20 (s : State) (kind : Nat) : Nat :=
  if kind = 1 then ovVolt s * 22 else if kind = 2 then s.oN Obj.portIContract * 25
  else if kind = 3 then 37500 else if kind = 4 then 1000 else 120000

/-- The threshold as its record shows it: the nearest mV or mA (R9). -/
def tripLimit (s : State) (kind : Nat) : Int := divNearest (tripLimit20 s kind) 20

/-- Can this kind of trip occur in this state? Reverse current wherever the sink path is closed; a CC pin while its termination is not
isolated. -/
def tripPossible (s : State) (kind : Nat) : Bool :=
  if kind = 1 ∨ kind = 2 then s.bit Obj.portFlags 1 && decide (portSt s = 2)
  else if kind = 4 then s.bit Obj.portFlags 1
  else if kind = 3 then s.bit Obj.portFlags 2
  else decide (kind = 5) && !s.varB .ccIsol

/-- VBUS_PROTECTION_TRIP: path open, VBUS invalid, error recovery; the latch after trip_max trips in 10 s; a CC overvoltage isolates the
terminations, and leaves a latched port latched (R404, R405). -/
def execVbusProtectionTrip (kind val : Nat) (s : State) : Out :=
  if tripPossible s kind && decide (tripLimit20 s kind < 20 * val) then
    let thr := tripLimit s kind
    let recent := (s.hist .hTrip).filter fun f => decide ((s.now : Int) < f + 10000000)
    let n := recent.length + 1
    let s := (s.setHist .hTrip ((s.now : Int) :: recent)).bump Obj.portTrips
    let s := if kind = 5 then s else s.setO Obj.portLastTrip kind
    let cur : Int := if kind = 2 ∨ kind = 3 ∨ kind = 4 then val else s.o Obj.portIbus
    let v : Int := if kind = 1 then val else s.o Obj.portVbus
    let src := if kind = 1 then 180 else if kind = 2 ∨ kind = 3 then 181 else if kind = 4 then 182 else 186
    let s := s.raiseActionLater src (if kind = 3 then 1 else 0) (u8 kind ++ u16 v ++ u16 cur ++ u16 thr ++ u8 n)
    let s := if kind = 5 then s.setVar .ccIsol 1 else s
    if portSt s = 5 then .next s else
    let s := portForget 4 (benchExit 1 s)
    let s := if kind = 3 then s.setBit Obj.portFlags 7 true else s
    if s.oN Obj.portTripMax ≤ n then
      let s := ((s.setO Obj.portState 5).setBit Obj.portFlags 6 true).stopT .errT
      .next (s.raiseActionLater 185 0 (u8 n ++ u8 kind))
    else .next (s.startT .errT 25000)
  else .next s

/-- ERROR_RECOVERY_EXPIRY: after 25 ms, once the trip's condition is gone, the port attaches again; a CC overvoltage that is gone ends the
isolation (R404). -/
def execErrorRecoveryExpiry (gone : Bool) (s : State) : Out :=
  let s := if gone then s.setVar .ccIsol 0 else s
  if decide (portSt s = 4) && s.dueT .errT && gone then .next ((s.setO Obj.portState 0).stopT .errT) else .next s

/-- CABLE_PULLED during a transition: the active CC below 0.15 V or VBUS below 3.67 V (R406). -/
def execCablePulled (cc v : Nat) (s : State) : Out :=
  if decide (portSt s = 2) && s.bit Obj.portFlags 3 && (decide (cc < 150) || decide (v < 3670)) then
    let now := s.oN Obj.portVContract
    let old := if s.varB .oldV && !s.varB .reqV then s.varN .oldV else now
    let new := if s.varB .reqV then s.varN .reqV else now
    let s := setContract 0 0 0 (clearTransition (pathsOff s))
    let s := ((s.setBit Obj.portFlags 7 true).bump Obj.portPulls).setPin .vbus v
    let after := if s.oN Obj.pwrSrc = Src.vbus then (firstSource s Src.vbus).getD 0 else s.oN Obj.pwrSrc
    .next (s.raiseActionLater 183 0 (u16 old ++ u16 new ++ u8 (if cc < 150 then 0 else 1) ++ u8 after))
  else .next s

/-- VBUS_DISCHARGE_DONE: VBUS is below 0.8 V; after a pull the port enters unattached (R406). -/
def execVbusDischargeDone (s : State) : Out :=
  if s.bit Obj.portFlags 7 && decide (s.pin .vbus < 800) then
    let s := s.setBit Obj.portFlags 7 false
    .next (if portSt s = 2 then portDetach 1 s else s)
  else .next s

/-! ## Role swaps (R407, R408) -/

/-- May the power role be swapped: is the role that the port would take allowed (R399, R407)? -/
def prAllowed (s : State) : Bool :=
  portAttached s && pdMode s && (decide (s.oN Obj.portPowerRole = 2) || sourceAllowed s)

/-- A role swap has completed: interrupt 76 and record 0x0A09. -/
def swapDone (kind who : Nat) (s : State) : State :=
  let role := if kind = 0 then s.oN Obj.portPowerRole else s.oN Obj.portDataRole
  (s.post 76).record 0x0A09 (u8 kind ++ u8 role ++ u8 who)

/-- The power role changes. -/
def prSwap (who : Nat) (s : State) : State :=
  let toSource := decide (s.oN Obj.portPowerRole = 1)
  let s := clearTransition (pathsOff s)
  let s := if toSource then ((s.setO Obj.portState 3).setO Obj.portPowerRole 2).setVar .attAt s.now
    else ((s.setO Obj.portState 2).setO Obj.portPowerRole 1).setBit Obj.portFlags 1 true
  let s := if toSource then setContract 0 0 0 s else typeCContract (s.varN .ccTerm) s
  swapDone 0 who s

/-- The data role changes; a swap to DFP ends bench mode (R412). -/
def drSwap (who : Nat) (s : State) : State :=
  let new : Nat := if s.oN Obj.portDataRole = 1 then 2 else 1
  let s := if new = 2 then benchExit 3 s else s
  swapDone 1 who (s.setO Obj.portDataRole new)

/-- PR_SWAP_RECEIVED (R407). -/
def execPrSwapReceived (s : State) : Out :=
  if portAttached s && pdMode s then
    let s := withdrawOwn true s
    .next (if prAllowed s then prSwap 1 (pdSend .accept s) else pdSend .reject s)
  else .next s

/-- DR_SWAP_RECEIVED (R407). -/
def execDrSwapReceived (s : State) : Out :=
  if portAttached s && pdMode s then
    let s := withdrawOwn true s
    .next (if s.oN Obj.portDataRole = 2 ∨ s.bit Obj.portFlags 4 = false then drSwap 1 (pdSend .accept s) else pdSend .reject s)
  else .next s

/-- May a sequence of messages be started: as source, which sets SinkTxNG first, or as sink while Rp reads SinkTxOk (R408)? -/
def mayStart (s : State) : Bool := decide (portSt s = 3 ∨ s.varN .ccTerm = 3)

/-- An own role swap request that is not sent now: how it stands, and whether it is one sent again (R408). -/
def ownWaits (kind how : Nat) (again : Bool) (s : State) : State :=
  ((s.setVar .ownReq (kind + 1 : Nat)).setVar .ownHow (how : Nat)).setFlag .ownAgain again

/-- An own request of a swap, with the partner's answer; `again` says that a withdrawn one is sent again, once. As sink it waits for SinkTxOk,
and a partner's message may overtake it; as source nothing can, and its partner has then given no answer (R408). -/
def ownSwap (kind : Nat) (a : SwapAnswer) (again : Bool) (s : State) : State :=
  let sent := pdSend (if kind = 0 then .prSwap else .drSwap) (if portSt s = 3 then s.setVar .ownSeq (s.now + 1 : Nat) else s)
  if !mayStart s then ownWaits kind 1 again s
  else match a with
    | .preempted => if portSt s = 3 then sent else ownWaits kind 0 again s
    | .reject => sent
    | .accept => if kind = 0 then prSwap 0 sent else drSwap 0 sent

/-- DR_SWAP_PREFERENCE: 100 ms after an explicit contract (R407). -/
def execDrSwapPreference (a : SwapAnswer) (s : State) : Out :=
  if s.dueT .drT && portAttached s && pdContract s && pdMode s then
    let s := s.stopT .drT
    let want := s.oN Obj.portDrPref + 1
    .next (if want ≤ 2 ∧ want ≠ s.oN Obj.portDataRole then ownSwap 1 a false (s.setVar .ownPref 1) else s)
  else .next s

/-- WITHDRAWN_RESEND: once, 100 ms after the partner's sequence, if the condition still holds; a request that waits for SinkTxOk is sent as soon
as Rp reads it (R408). -/
def execWithdrawnResend (a : SwapAnswer) (s : State) : Out :=
  let due := decide (s.varN .ownHow = 2) && s.dueT .resendT
  if s.varB .ownReq && (due || (decide (s.varN .ownHow = 1) && mayStart s)) then
    let k := s.varN .ownReq - 1
    let ok := if k = 0 then prAllowed s else portAttached s && pdMode s
    let again := due || s.varB .ownAgain
    let s := (((s.setVar .ownReq 0).setVar .ownHow 0).setVar .ownAgain 0).stopT .resendT
    .next (if ok then ownSwap k a again s else s)
  else .next s

/-- A write of port.cmd (R405, R407, R412, R416): its status and effect; `a` is the partner's answer to a swap. -/
def portCmd (v : Nat) (a : SwapAnswer) (s : State) : Status × State :=
  if v = 1 then (if prAllowed s then (.ok, ownSwap 0 a false (s.setVar .ownPref 0)) else (.stateForbids, s))
  else if v = 2 then
    (if portAttached s && pdMode s then (.ok, ownSwap 1 a false (s.setVar .ownPref 0)) else (.stateForbids, s))
  else if v = 3 then
    (.ok, if portSt s = 5 then ((s.setO Obj.portState 0).setBit Obj.portFlags 6 false).stopT .openT else s)
  else if v = 4 then (.ok, benchExit 4 s)
  else (.outOfRange, s)

/-- A keyed write of port.bench_en (R412). -/
def benchEnWrite (v : Nat) (s : State) : Status × State :=
  if 1 < v then (.outOfRange, s)
  else
    let s := s.setO Obj.portBenchEn v
    (.ok, if v = 0 then benchExit 5 s else s)

/-! ## Structured messages (R409, R410) -/

/-- Does the port answer structured messages: as UFP (R409)? -/
def answersVdm (s : State) : Bool := portAttached s && pdMode s && decide (s.oN Obj.portDataRole = 1)

/-- The Yavis SVID. -/
def yavisSvid : Nat := 0x59A5

/-- DISCOVER_IDENTITY: ID Header, Cert Stat and Product VDOs (R409). -/
def execDiscoverIdentity (s : State) : Out :=
  if answersVdm s then
    let s := withdrawOwn true s
    let part : Nat := if s.oN Obj.idPart = 2 then 0x4824 else 0x4832
    .next (pdSend (.ack [2 ^ 26 + 3 * 2 ^ 21 + yavisSvid, 0, part * 2 ^ 16 + s.oN Obj.idDieRev]) s)
  else .next s

/-- DISCOVER_SVIDS (R409). -/
def execDiscoverSvids (s : State) : Out :=
  if answersVdm s then .next (pdSend (.ack [yavisSvid * 2 ^ 16]) (withdrawOwn true s)) else .next s

/-- DISCOVER_MODES: the Mode VDO for SVID 0x59A5, NAK for any other (R409). -/
def execDiscoverModes (svid : Nat) (s : State) : Out :=
  if answersVdm s then
    .next (pdSend (if svid = yavisSvid then .ack [0x01 + 0x01 * 2 ^ 8 + 2 ^ 16] else .nak) (withdrawOwn true s))
  else .next s

/-- ENTER_MODE: ACK and bench mode when the port is UFP, has an explicit contract and port.bench_en is true (R410). An ACK in bench mode is
reported as every one is; it is no further entry to count or to time (DEDUCED, log entry 114). -/
def execEnterMode (svid pos : Nat) (s : State) : Out :=
  if answersVdm s then
    let s := withdrawOwn true s
    if svid = yavisSvid ∧ pos = 1 ∧ pdContract s ∧ s.oB Obj.portBenchEn then
      let s := pdSend (.ack []) s
      let s := if s.bit Obj.portFlags 4 then s
        else ((s.setBit Obj.portFlags 4 true).setVar .benchAt s.now).bump Obj.portBenchEntries
      let s := s.post 77
      .next (s.raiseActionLater 187 0 (u8 (s.o Obj.portDataRole) ++ u16 (s.o Obj.portVContract) ++ u8 (s.o Obj.portOrient)))
    else .next (pdSend .nak s)
  else .next s

/-- EXIT_MODE (R409, R412). -/
def execExitMode (svid pos : Nat) (s : State) : Out :=
  if answersVdm s then
    let s := withdrawOwn true s
    if svid = yavisSvid ∧ pos = 1 then .next (benchExit 0 (pdSend (.ack []) s)) else .next (pdSend .nak s)
  else .next s

/-! ## Ticks and BOOT -/

/-- The end of a try: after sink, Rp is applied for as long again; a partner whose Rd has not appeared by then is gone (R396). -/
def tryTick (s : State) : State :=
  if !s.dueT .tryT then s
  else if s.varN .trySnk = 1 then startTry 2 s
  else (s.setVar .trySnk 0).stopT .tryT |>.setO Obj.portState 0

/-- The port at a tick (R321, R396, R399): VBUS and its validity; a source path is turned off where sourcing is not allowed, and bench mode
where that is not: R412 names no cause for this end, which is left open. -/
def portTick (s : State) : State :=
  let v := s.pin .vbus
  let s := tryTick s
  let s := if s.bit Obj.portFlags 4 && decide (s.mode = .shelf ∨ s.mode = .backup) then
      let (f, s) := s.drawFree
      benchExit (f % 6) s
    else s
  let s : State := { s with pdTx := [] }
  let s := (s.setO Obj.portVbus (shown16 v)).setO Obj.portIbus (s.pin .ibus)
  let ok := s.bit Obj.portFlags 0
  let now := sinkAttach s && s.bit Obj.portFlags 1 && (if ok then decide (4000 ≤ v) else decide (4400 ≤ v))
  let s := s.setBit Obj.portFlags 0 now
  if s.bit Obj.portFlags 2 && !sourceAllowed s && decide (s.mode ≠ .boot) then s.setBit Obj.portFlags 2 false else s

/-- A BOOT from MGT power-on reset: the port starts at unattached, except for an attach held since the dead-battery path closed,
whose own debounce begins (R398, R400). -/
def portBoot (s : State) : State :=
  let dead := s.bit Obj.portFlags 5
  let s := (((s.setO Obj.portFlags 0).setO Obj.portState 0).setVar .ownReq 0).setVar .ownAgain 0
  let s := ((s.stopT .debT).stopT .openT).stopT .errT
  let s := (((s.stopT .transT).stopT .drT).stopT .resendT).setHist .hTrip []
  let s := ((s.setVar .trySnk 0).stopT .tryT).setVar .ccIsol 0
  if dead then
    ((s.setBit Obj.portFlags 1 true).setBit Obj.portFlags 5 true).setO Obj.portState 1 |>.startT .debT 150000
  else (s.setVar .ccPin 0).setVar .ccTerm 0

end Sys2Proof.Machine
end

