-- ==== Sys2Proof/Machine/Security.lean ====
section
/-!
DEFINITION. Identity, keyed commands and signed exports (spec/18_security_and_update.md, R493 to R512, R522): the identity
key, presence and claims, slot keys, the ownership generation, the keyed check and the snapshot; and the one operation that
answers a request of the object protocol.
-/

namespace Sys2Proof.Machine

/-! ## Answering a request (R547, R556) -/

/-- A port's state. -/
def portOf (s : State) (p : Nat) : PortState := if h : p < 5 then s.ports[p] else PortState.idle

/-- Replace a port's state. -/
def setPort (p : Nat) (v : PortState) (s : State) : State := if h : p < 5 then { s with ports := s.ports.set p v } else s

/-- The response to a request: data only where the status is OK, the offset for a block transaction (R547). -/
def respOf (q : Req) (st : Status) (data : List Byte) : Resp :=
  { opcode := q.opcode % 128 + 128, tid := q.tid, index := q.index, sub := q.sub, status := st.code,
    offset := if q.opcode = 4 ∨ q.opcode = 5 then some q.offset else none,
    data := if st = .ok then data else [] }

/-- A response as a message: its header, the offset of a block transaction, its data (R547). -/
def respBytes (r : Resp) : List Byte :=
  u8 r.opcode ++ u8 r.tid ++ u16 r.index ++ u8 r.sub ++ u8 r.status ++ u16 r.data.length ++
    (match r.offset with | some o => u32 o | none => []) ++ r.data

/-- The data length that a CAN FD frame carries so many bytes at (R560). The lengths are those of ISO 11898-1 (PRESUMED, log entry 117). -/
def canLength (n : Nat) : Nat := if n ≤ 8 then n else ([12, 16, 20, 24, 32, 48].find? fun k => decide (n ≤ k)).getD 64

/-- A message as a CAN port sends it: padded with 0x00, from the own node ID, with the bit-rate switch where can[p].dbr names a rate (R560). -/
def canFrame (s : State) (p kind dst : Nat) (d : List Byte) : CanFrame :=
  { marker := 0x165, kind := kind, dst := dst % 256, src := s.oN Obj.lopNodeId % 256, brs := decide (s.oN (Obj.canDbr p) ≠ 0)
    data := d ++ List.replicate (canLength d.length - d.length) 0 }

/-- Is a CAN port detached from its bus, by its loop-back inside the controller (R577)? -/
def canDetached (s : State) (p : Nat) : Bool := decide (s.oN Obj.testActive = p + 1) && decide (s.oN (Obj.lbDepth (p + 1)) = 0)

/-- The responses of CAN port p that can be sent now are: none during bus-off, and none before a queued NOTIFY (R562, R563). -/
def canFlush (p : Nat) (s : State) : State :=
  let v := portOf s (p + 2)
  if canClaims s p && decide (notifyCount s p = 0) then
    let l := v.waits.map fun e => canFrame s p 5 e.1 (respBytes e.2)
    (setPort (p + 2) { v with waits := [], sent := v.sent ++ l } s).forEach l fun _ s => s.bump (Obj.canTx p)
  else s

/-- A response of a CAN port goes to the sender of its request, as soon as the port sends (R560, R562, R563). -/
def canAnswer (q : Req) (r : Resp) (s : State) : State :=
  if q.port = 2 ∨ q.port = 3 then
    let v := portOf s q.port
    canFlush (q.port - 2) (setPort q.port { v with waits := v.waits ++ [(q.id.src, r)], sent := [] } s)
  else s

/-- Answer a request on its port, which keeps the pair and holds no transaction any more (R554, R556). A request on the bench UART whose own
effect has ended bench mode gets no response (R412). -/
def respond (q : Req) (st : Status) (data : List Byte) (s : State) : State :=
  if q.port = 4 ∧ s.bit Obj.portFlags 4 = false then setPort 4 PortState.idle s else
  let r := respOf q st data
  let p := portOf s q.port
  canAnswer q r (setPort q.port { txn := none, served := 0, gathered := [], resp := some r, kept := some (q, r), waits := p.waits, sent := p.sent } s)

/-! ## The identity key (R493 to R496) -/

/-- Are the words of both copies of the key blank? -/
def identityBlank (s : State) : Bool := (List.range 8).all fun i => decide (otpWordAt s (38 + i) = 0)

/-- Is a copy of the key marked marginal? -/
def copyMarked (s : State) (base : Nat) : Bool := (List.range 4).any fun i => otpMarginal s (base + i)

/-- Is the identity ready? -/
def identityReady (s : State) : Bool := decide (s.oN Obj.keyIdState = 2)

/-- The first 4 bytes of SHA-256 over a public key (R524). -/
def fingerprint (pub : List Byte) : List Byte := (sha256 pub).take 4

/-- TRNG_HEALTH_FAILURE: the draw stops (R523). -/
def trngFailed (kind : Nat) (s : State) : State := s.raiseActionLater 232 0 (u8 (kind - 1 : Nat))

/-- IDENTITY_DRAW: 32 bytes from the TRNG, as a number from 1 to n − 1 (R493). `trng` is the verdict of its health tests. -/
def identityDraw (trng : Nat) (s : State) : State :=
  if trng ≠ 0 then trngFailed trng s
  else
    let (f, s) := s.drawFree
    s.setVar .idDraw (f % (p256n - 1) + 1 : Nat)

/-- The identity at BOOT: drawn where all words are blank, else read (R493, R494). -/
def identityBoot (trng : Nat) (s : State) : State :=
  let s : State := { s with pubKey := [] }
  let s := s.setVar .idDraw 0
  if identityBlank s then identityDraw trng (s.setO Obj.keyIdState 1)
  else s.setO Obj.keyIdState (if copyMarked s 38 && copyMarked s 42 then 3 else 2)

/-- Burn the four words of a copy; those of the bit map `bad` are marked marginal (R450, R494). -/
def burnCopy (base bad d : Nat) (s : State) : State :=
  s.forRange 4 fun i s =>
    let s := otpBurn (base + i) (d / 2 ^ (64 * i) % 2 ^ 64) s
    if bad.testBit i then otpBlockMarginal (base + i) s else s

/-- The public key's job is requested (R495). -/
def publicKeyAsk (s : State) : State := jobRequest 0 .publicKey s

/-- The identity key is programmed: copy `which` holds it (R495). -/
def identityDone (which : Nat) (fp : List Byte) (s : State) : State :=
  publicKeyAsk (((s.setO Obj.keyIdState 2).post 92).record 0x0E00 (u8 which ++ fp) |>.setVar .idDraw 0)

/-- IDENTITY_PROGRAM at a round boundary at which R449 allows it: the primary words, then the alternate ones if any primary word
is marked marginal; `bad` marks the words that do not verify (R494). -/
def execIdentityProgram (bad trng : Nat) (s : State) : Out :=
  if decide (s.oN Obj.keyIdState = 1) && otpConditions s && !s.varB .otpBusy && decide (s.oN Obj.frameNumber % 1000 = 0) then
    let s := if s.varB .idDraw then s else identityDraw trng s
    if s.varB .idDraw then
      let d := s.varN .idDraw
      let fp := fingerprint (publicKey d)
      let s := burnCopy 38 bad d s
      if bad % 16 = 0 then .next (identityDone 0 fp s)
      else
        let s := burnCopy 42 (bad / 16) d s
        if bad / 16 % 16 = 0 then .next (identityDone 1 fp s)
        else .next (((s.setO Obj.keyIdState 3).setVar .idDraw 0).raiseActionLater 231 0 (u8 2 ++ fp))
    else .next s
  else .next s

/-- PUBLIC_KEY_READY: job 0 has computed Q = d·G (R495). -/
def execPublicKeyReady (s : State) : Out :=
  if s.var .jobDone JobFor.publicKey.slot = 1 then
    let s := s.setVar .jobDone 0 JobFor.publicKey.slot
    let s : State := { s with pubKey := publicKey (identityScalar s) }
    let alt := copyMarked s 38
    .next (((s.setBit Obj.keyStatus 2 (!alt)).setBit Obj.keyStatus 3 alt).post 114)
  else .next s

/-! ## Presence (R497) -/

/-- Is the presence window open? -/
def windowOpen (s : State) : Bool := s.varB .ppT

/-- Does physical presence hold for a request received on a port (R497, R564)? -/
def presenceFor (s : State) (port : Nat) : Bool :=
  (windowOpen s && decide (port = 0 ∨ port = 1 ∨ port = 4)) || (s.bit Obj.portFlags 4 && decide (port = 4))

/-- key.presence and key.pp_left. -/
def showPresence (s : State) : State :=
  let s := s.setO Obj.keyPresence (if windowOpen s then 1 else if s.bit Obj.portFlags 4 then 2 else 0)
  s.setO Obj.keyPpLeft (if windowOpen s then (s.varN .ppT - 1 - s.nowRound : Nat) else 0)

/-- The end of BOOT opens the window when CLAIM has sampled high throughout (R497). -/
def presenceBoot (s : State) : State :=
  if s.varB .claimLow then s.stopT .ppT else s.startTR .ppT (s.oN Obj.keyPpTime)

/-- PRESENCE_WINDOW_EXPIRY (R497). -/
def execPresenceWindowExpiry (s : State) : Out :=
  if s.dueTR .ppT then .next (showPresence (s.stopT .ppT)) else .next s

/-! ## Slot records (R500 to R502) -/

/-- Data address of a slot's record line; its counter line follows. -/
def slotAddr (k : Nat) : Nat := Ledger.command + 64 * k

/-- The bytes of a slot record (R501). -/
def slotRecord (state slot gen : Nat) (wrapped : List Byte) (time : Nat) : List Byte :=
  sealRecord (u8 state ++ u8 slot ++ u8 gen ++ u8 0 ++ wrapped ++ u48 time ++ [0, 0, 0])

/-- The bytes of a counter line (R501). -/
def counterLine (h slot gen flags : Nat) : List Byte :=
  sealRecord (u32 h ++ u8 slot ++ u8 gen ++ u8 flags ++ List.replicate 22 0)

/-- id.uid, most significant byte first (R500). -/
def uidBe (s : State) : List Byte := beBytes 8 (s.oN Obj.idUid)

/-- The text that names the part in R500. -/
def partText (s : State) : List Byte := ("LX48".toList ++ (if s.oN Obj.idPart = 2 then "24".toList else "32".toList)).map
  fun c => BitVec.ofNat 8 c.toNat

/-- The slot key of R500. -/
def slotKeyOf (d slot gen : Nat) (pub : List Byte) (s : State) : List Byte :=
  (hkdf32 (ecdhX d pub) (uidBe s) (partText s ++ u8 slot ++ u8 gen)).take 16

/-- The storage key of R501. -/
def storageKey (d gen : Nat) (s : State) : List Byte :=
  (hkdf32 (beBytes 32 d) (uidBe s) (("store".toList.map fun c => BitVec.ofNat 8 c.toNat) ++ u8 gen)).take 16

/-- key.generation: the bits set by majority of the unmarked copies of the thermometer (R503). -/
def generationOf (s : State) : Nat :=
  let copies := (List.range 3).filter fun i => !otpMarginal s (35 + i)
  ((List.range 32).filter fun b =>
    decide (copies.length < 2 * (copies.filter fun i => (shadowWord s (35 + i)).testBit b).length)).length

/-- Empty a slot in the machine. -/
def clearSlot (k st : Nat) (s : State) : State :=
  let s : State := { s with slotKeys := s.slotKeys.set k [] }
  let s := s.setO (Obj.keyState k) st
  if k = 0 then s.setOB Obj.keyOwned false else s

/-- A line of the ledger region as its owner reads it: its bytes where they decode, with the effects of the read (R445). -/
def ownerLine (addr : Nat) (s : State) : Option (List Byte) × State :=
  let (d, bad) := nvmLine s (addr / 32)
  let s := nvmReadEffect (addr / 32) s
  (if bad.isSome then some d else none, s)

/-- Is a line sealed with its crc and mark? -/
def sealed (d : List Byte) : Bool := decide (recField d 29 2 = crc16 (d.take 29)) && decide (recField d 31 1 = 0xA5)

/-- A valid counter line for a slot and generation, where there is one: H and its flags (R501). -/
def counterOf (d : Option (List Byte)) (slot gen : Nat) : Option (Nat × Nat) :=
  match d with
  | some c => if sealed c && decide (recField c 4 1 = slot) && decide (recField c 5 1 = gen) then
      some (recField c 0 4, recField c 6 1) else none
  | none => none

/-- H of each slot at BOOT, from its counter line; key.last starts there (R509). -/
def countersLoad (s : State) : State :=
  s.forRange 4 fun k s =>
    let (c, s) := ownerLine (slotAddr k + 32) s
    let h := match counterOf c k (generationOf s) with | some (h, _) => h | none => 0
    (s.setO (Obj.keyHwm k) h).setO (Obj.keyLast k) h

/-- Record data of 0x0E04. -/
def slotData (k what : Nat) (s : State) : List Byte := u8 k ++ u8 what ++ u32 (s.o (Obj.keyLast k))

/-- Is a slot's record valid, of this generation and with a state that an enrolment gives it: enrolled or retired (R501, R502)? -/
def slotRecordValid (d : List Byte) (k g : Nat) : Bool :=
  sealed d && decide (recField d 0 1 = 1 ∨ recField d 0 1 = 2) && decide (recField d 1 1 = k) && decide (recField d 2 1 = g)

/-- What a slot is by its two lines (R502): 0 empty, 1 enrolled, 2 retired. -/
def slotClass (r c : Option (List Byte)) (k g : Nat) : Nat :=
  match r with
  | none => 0
  | some d => if !slotRecordValid d k g then 0 else if recField d 0 1 = 2 ∨ (counterOf c k g).isNone then 2 else 1

/-- What a slot is: as it has been unwrapped, and before that as its lines will have it be (R502, R508). -/
def slotIs (s : State) (k : Nat) : Nat :=
  if s.bit Obj.keyStatus 0 then s.oN (Obj.keyState k)
  else
    let line (l : Nat) : Option (List Byte) := if (nvmLine s l).2.isSome then some (nvmLine s l).1 else none
    slotClass (line (slotAddr k / 32)) (line (slotAddr k / 32 + 1)) k (s.oN Obj.keyGeneration)

/-- One slot at the unwrapping of R502. -/
def unwrapSlot (k : Nat) (s : State) : State :=
  let g := s.oN Obj.keyGeneration
  let (r, s) := ownerLine (slotAddr k) s
  let (c, s) := ownerLine (slotAddr k + 32) s
  let s := if r.isNone then s.raiseActionLater 238 0 (slotData k 2 s) else s
  let s := if c.isNone then s.raiseActionLater 238 0 (slotData k 3 s) else s
  let cls := slotClass r c k g
  let d := r.getD []
  match counterOf c k g with
  | none => let s := clearSlot k cls s; if cls = 2 then s.record 0x0E04 (slotData k 3 s) else s
  | some (h, _) =>
    if cls ≠ 1 then clearSlot k cls s
    else
      let key := aesDecrypt (storageKey (identityScalar s) g s) ((d.drop 4).take 16)
      let s : State := { s with slotKeys := s.slotKeys.set k key }
      let s := ((s.setO (Obj.keyState k) 1).setO (Obj.keyHwm k) h).setO (Obj.keyLast k) (max h (s.oN (Obj.keyLast k)) : Nat)
      let s := s.setO (Obj.keyEnrolled k) (recField d 20 6)
      if k = 0 then s.setOB Obj.keyOwned true else s

/-- SLOT_UNWRAP: within 1 round after BOOT the slots are unwrapped and classified (R502). -/
def execSlotUnwrap (s : State) : Out :=
  if s.varB .unwrapTodo && decide (s.mode ≠ .boot) && s.mgtOn then
    let s := (s.setVar .unwrapTodo 0).forRange 4 unwrapSlot
    .next (s.setBit Obj.keyStatus 0 true)
  else .next s

/-! ## The image key (R501) -/

/-- The lines of the image-key record. -/
def imageKeyBytes (pub : List Byte) (gen : Nat) : List Byte :=
  let t := u8 gen ++ List.replicate 28 0
  pub ++ t ++ u16 (crc16 (pub ++ t)) ++ [0xA5]

/-- The image key, where its record is valid and of this generation. -/
def imageKey (s : State) : Option (List Byte) :=
  let d := nvmBytes s Ledger.image 96
  let ok := (List.range 3).all fun i => (nvmLine s (Ledger.image / 32 + i)).2.isSome
  if ok && decide (d = imageKeyBytes (d.take 64) (recField d 64 1)) && decide (recField d 64 1 = s.oN Obj.keyGeneration) then
    some (d.take 64)
  else none

/-! ## The ownership generation (R503) -/

/-- Advance the generation: `copies` names the thermometer copies that verify; `cause` 0 reclaim, 1 transfer, 2 release. A
status other than OK says why it failed. -/
def genAdvance (cause copies : Nat) (s : State) : Status × State :=
  let old := s.oN Obj.keyGeneration
  let data (new n st : Nat) : List Byte := u8 old ++ u8 new ++ u8 cause ++ u8 n ++ u8 st
  if 32 ≤ old then
    (.locked, (s.setBit Obj.keyStatus 4 true).raiseActionLater 237 1 (data old 0 Status.locked.code))
  else if !otpConditions s then (.stateForbids, s)
  else
    let open_ := (List.range 3).filter fun i => !otpMarginal s (35 + i)
    let good := open_.filter fun i => copies.testBit i
    let s := s.forEach good fun i s => otpBurn (35 + i) (2 ^ old) s
    if (if open_.length = 1 then 1 else 2) ≤ good.length then
      let s := s.forEach (open_.filter fun i => !copies.testBit i) fun i s => otpBlockMarginal (35 + i) s
      let s := (s.forRange 4 fun k s => clearSlot k 0 s).setO Obj.keyGeneration (old + 1 : Nat)
      let s := s.setBit Obj.keyStatus 4 (decide (32 ≤ old + 1))
      (.ok, ((s.post 113).post 92).record 0x0E02 (data (old + 1) good.length 0))
    else (.stateForbids, s.raiseActionLater 237 0 (data old good.length Status.stateForbids.code))

/-! ## The keyed check (R507 to R510) -/

/-- The message that a tag is computed over (R507). -/
def tagMessage (q : Req) (s : State) : List Byte :=
  leBytes 8 (s.oN Obj.idUid) ++ u32 q.counter ++ u8 q.opcode ++ u16 q.index ++ u8 q.sub ++ u16 q.data.length ++ q.data

/-- The key of a slot. -/
def slotKey (s : State) (k : Nat) : List Byte := s.slotKeys.getD k []

/-- A rejection at steps 4 to 6 (R508). -/
def keyReject (q : Req) (st : Status) (s : State) : Status × State :=
  let s := s.bump Obj.keyRejects
  (st, s.raisePerLater 230 (if st = .counterStale then 1 else 0) s.nowRound
    (u8 st.code ++ u8 q.slot ++ u16 q.index ++ u32 q.counter))

/-- Steps 2 to 5 of R508. -/
def keyedCheck (q : Req) (s : State) : Status × State :=
  if slotIs s 0 ≠ 1 then (.notOwner, s)
  else if !s.bit Obj.keyStatus 0 then (.busy, s)
  else if ¬ (q.slot < 4 ∧ s.oN (Obj.keyState q.slot) = 1) then keyReject q .tagInvalid s
  else if (cmac (slotKey s q.slot) (tagMessage q s)).take 8 ≠ q.tag then keyReject q .tagInvalid s
  else (.ok, s)

/-- Step 6 of R508. -/
def counterCheck (q : Req) (s : State) : Status × State :=
  if s.oN (Obj.keyLast q.slot) < q.counter ∧ q.counter ≤ 0xFFFFFEFF then (.ok, s) else keyReject q .counterStale s

/-- Flag bit 0 of a slot's counter line: the warning of R510 has been raised. -/
def warnFlag (s : State) (k : Nat) : Nat := recField (nvmBytes s (slotAddr k + 32) 32) 6 1 % 2

/-- Write H and the flag of a slot's counter line. -/
def writeCounter (k h flag : Nat) (s : State) : State :=
  nvmWrite (slotAddr k + 32) (counterLine h k (s.oN Obj.keyGeneration) flag) s

/-- H of a slot is to be raised for a counter: the commit of R509 is requested, with the flag of R510 where it is due. -/
def hwmRaise (q : Req) (s : State) : State :=
  let k := q.slot
  let s := nvmReadEffect (slotAddr k / 32 + 1) s
  let warn := decide (0xF0000000 ≤ q.counter ∧ warnFlag s k = 0)
  let s := ((s.setFlag .hwmOn true k).setVar .hwmAt s.now k).setVar .hwmVal (q.counter + 256 : Nat) k
  commitAsk (writeCounter k (q.counter + 256) (if warn then 1 else warnFlag s k) (s.setFlag .hwmWarn warn k))

/-- Has the counter line of a slot reached the array? -/
def hwmCommitted (s : State) (k : Nat) : Bool :=
  lineStored s ((slotAddr k + 32) / 32) && !commitRuns s

/-- The counter whose commit would have set the warning flag has not taken effect: the line to come holds the flag as it was (R510). -/
def hwmUnwarn (k : Nat) (s : State) : State :=
  if s.varB .hwmWarn k then writeCounter k (s.varN .hwmVal k) 0 (s.setVar .hwmWarn 0 k) else s

/-- A counter takes effect: key.last, the warning of R510 (R508, R510). -/
def consumeCounter (q : Req) (s : State) : State :=
  let k := q.slot
  let s := s.setO (Obj.keyLast k) q.counter
  if s.varB .hwmWarn k then (s.setVar .hwmWarn 0 k).raiseActionLater 234 0 (slotData k 0 s)
  else if 0xF0000000 ≤ q.counter ∧ warnFlag s k = 0 then
    (writeCounter k (s.oN (Obj.keyHwm k)) 1 s).raiseActionLater 234 0 (slotData k 0 s)
  else s

/-- SLOT_RETIRE once a command with a counter at or above 0xFFFF_0000 has taken effect (R510). -/
def retireIfSpent (q : Req) (s : State) : State :=
  if 0xFFFF0000 ≤ q.counter ∧ s.oN (Obj.keyState q.slot) = 1 ∧ s.oN (Obj.keyLast q.slot) = q.counter then
    let k := q.slot
    let (d, s) := nvmRead (slotAddr k) 32 s
    let s := nvmWrite (slotAddr k) (slotRecord 2 k (s.oN Obj.keyGeneration) ((d.drop 4).take 16) (recField d 20 6)) s
    (clearSlot k 2 s).raiseActionLater 234 1 (slotData k 1 s)
  else s

/-! ## Claims (R498, R499, R504, R505) -/

/-- Record data of 0x0E01. -/
def claimData (op slot port : Nat) (pub : List Byte) (s : State) : List Byte :=
  u8 op ++ u8 slot ++ u8 (s.o Obj.keyGeneration) ++ u8 port ++ (if pub = [] then [0, 0, 0, 0] else fingerprint pub)

/-- Fields of the CLAIM body (R497). -/
def bodyOp (q : Req) : Nat := recField q.data 0 1
/-- The slot to fill. -/
def bodyTarget (q : Req) : Nat := recField q.data 1 1
/-- The enroller's public key. -/
def bodyPub (q : Req) : List Byte := (q.data.drop 4).take 64
/-- The owner's image key. -/
def bodyImage (q : Req) : List Byte := (q.data.drop 68).take 64

/-- Is the body of a CLAIM well formed (R497, R498)? -/
def bodyOk (q : Req) : Bool :=
  let op := bodyOp q
  decide (recField q.data 2 2 = 0) && decide (bodyTarget q < 4) && (pointOf (bodyPub q)).isSome &&
  (if op = 3 then (bodyImage q).all (· == 0) else decide (bodyTarget q = 0) && (pointOf (bodyImage q)).isSome)

/-- The conditions of R498 for a CLAIM whose keyed check, where it has one, has passed. -/
def claimAllowed (q : Req) (s : State) : Status :=
  let op := bodyOp q
  if !bodyOk q || decide (op = 0 ∨ 4 < op) then .outOfRange
  else if op = 1 ∧ ¬ (presenceFor s q.port ∧ identityReady s ∧ slotIs s 0 = 0) then .stateForbids
  else if op = 2 ∧ ¬ (presenceFor s q.port ∧ identityReady s) then .stateForbids
  else if (op = 2 ∨ op = 4) ∧ s.oN Obj.keyGeneration < 32 ∧ otpConditions s = false then .stateForbids
  else if s.varB .claimPort then .busy
  else .ok

/-- A CLAIM is refused: class 0x00 of source 233, and the response (R498). -/
def claimRefuse (q : Req) (st : Status) (s : State) : State :=
  respond q st [] (s.raiseActionLater 233 0 (claimData (bodyOp q) (bodyTarget q) q.port (bodyPub q) s))

/-- An accepted CLAIM: the generation advances for ops 0x02 and 0x04, then job 0 is requested; the port holds it (R499). -/
def claimStart (q : Req) (copies : Nat) (s : State) : State :=
  match claimAllowed q s with
  | .ok =>
    let op := bodyOp q
    let (st, s) := if op = 2 ∨ op = 4 then genAdvance (if op = 2 then 0 else 1) copies s else (.ok, s)
    if st = .ok then
      let s := setPort q.port { portOf s q.port with txn := some q } s
      jobRequest 0 (.claim q.port) ((s.setVar .claimPort (q.port + 1 : Nat)).setVar .claimStage 1)
    else claimRefuse q st s
  | st => claimRefuse q st s

/-- A keyed CLAIM has taken effect: the slot that it was keyed with is retired where its counter is spent, unless the CLAIM has filled it anew
(R510). -/
def claimRetire (q : Req) (s : State) : State := if 3 ≤ bodyOp q then retireIfSpent q s else s

/-- The lines that a CLAIM writes. -/
def claimLines (q : Req) : List Nat :=
  let k := slotAddr (bodyTarget q) / 32
  [k, k + 1] ++ (if bodyOp q = 3 then [] else [Ledger.image / 32, Ledger.image / 32 + 1, Ledger.image / 32 + 2])

/-- The security slots' share of a CLAIM: once job 0 has ended the slot key is derived and its records are written and committed
(R499 to R501). -/
def claimSlots (s : State) : State :=
  if s.varN .claimStage = 1 ∧ s.varB .claimPort then
    let p := s.varN .claimPort - 1
    match (portOf s p).txn, s.varN .jobDone (JobFor.claim p).slot with
    | some q, 1 =>
      let g := s.oN Obj.keyGeneration
      let k := bodyTarget q
      let d := identityScalar s
      let key := slotKeyOf d k g (bodyPub q) s
      let s := nvmWrite (slotAddr k) (slotRecord 1 k g (aesEncrypt (storageKey d g s) key) s.timeNow) s
      let s := nvmWrite (slotAddr k + 32) (counterLine 0 k g 0) s
      let s := if bodyOp q = 3 then s else nvmWrite Ledger.image (imageKeyBytes (bodyImage q) g) s
      let s := (s.setVar .jobDone 0 (JobFor.claim p).slot).setVar .claimStage 2
      { commitAsk s with slotKeys := s.slotKeys }
    | some q, 2 =>
      claimRetire q (claimRefuse q .busy ((s.setVar .jobDone 0 (JobFor.claim p).slot).setVar .claimPort 0))
    | _, _ => s
  else s

/-- CLAIM_COMPLETE: the claim's commit has completed; the slot is enrolled and the response carries confirm (R499). -/
def execClaimComplete (s : State) : Out :=
  let p := s.varN .claimPort - 1
  match (portOf s p).txn with
  | some q =>
    if s.varB .claimPort && decide (s.varN .claimStage = 2) && !commitRuns s &&
        (claimLines q).all (lineStored s) then
      let g := s.oN Obj.keyGeneration
      let k := bodyTarget q
      let key := slotKeyOf (identityScalar s) k g (bodyPub q) s
      let s : State := { s with slotKeys := s.slotKeys.set k key }
      let s := ((s.setO (Obj.keyState k) 1).setO (Obj.keyLast k) 0).setO (Obj.keyHwm k) 0
      let s := s.setO (Obj.keyEnrolled k) (recField (nvmBytes s (slotAddr k) 32) 20 6)
      let s := if k = 0 then s.setOB Obj.keyOwned true else s
      let s := if bodyOp q ≤ 2 then s.stopT .ppT else s
      let s := ((s.setVar .claimPort 0).setVar .claimStage 0).post 113
      let s := s.record 0x0E01 (claimData (bodyOp q) k q.port (bodyPub q) s)
      let confirm := (cmac key (leBytes 8 (s.oN Obj.idUid) ++ u8 k ++ u8 g ++ bodyPub q)).take 8
      .next (claimRetire q (respond q .ok (u8 g ++ u8 k ++ u16 0 ++ publicKey (identityScalar s) ++ confirm) s))
    else .next s
  | none => .next s

/-- A keyed write of key.revoke (R505). -/
def keyRevoke (v port : Nat) (s : State) : Status × State :=
  if v = 0 ∨ 3 < v then (.outOfRange, s)
  else if s.oN (Obj.keyState v) = 0 then (.ok, s)
  else
    let s := nvmWrite (slotAddr v) (slotRecord 0 v (s.oN Obj.keyGeneration) (List.replicate 16 0) 0) s
    let s := (clearSlot v 0 s).post 113
    (.ok, s.record 0x0E01 (claimData 5 v port [] s))

/-- A keyed write of key.release (R505). -/
def keyRelease (v port copies : Nat) (s : State) : Status × State :=
  if v ≠ 1 then (.outOfRange, s)
  else
    let (st, s) := genAdvance 2 copies s
    if st = .ok then
      let s := nvmWrite Ledger.image (List.replicate 96 0) s
      (.ok, s.record 0x0E01 (claimData 6 0 port [] s))
    else (st, s)

/-! ## The snapshot (R511) -/

/-- A write of key.snap_cmd: its status and effect. -/
def snapCmd (v : Nat) (s : State) : Status × State :=
  let st := s.oN Obj.keySnapState
  if v = 1 then
    if st = 1 ∨ st = 2 then (.busy, s)
    else (.ok, { s with snapData := [], snapSig := [] }.setO Obj.keySnapState 1 |>.setFlag .snapTodo true)
  else if v = 2 then
    (.ok, { discardJob .snapSign s with snapData := [], snapSig := [] }.setO Obj.keySnapState 0 |>.setFlag .snapTodo false)
  else (.outOfRange, s)

/-- The image of a snapshot is taken at the tick after the command (R511). -/
def snapTick (s : State) : State :=
  if s.varB .snapTodo then
    let hd := exportHeader 2 0 0 0 0 (s.o Obj.keySnapNonce) s
    { s with snapData := hd ++ stateImage s }.setVar .snapTodo 0
  else if s.oN Obj.keySnapState = 1 then jobRequest 1 .snapSign (s.setO Obj.keySnapState 2)
  else s

/-- SNAP_READY: the snapshot is signed, or signing has failed (R511, R512). -/
def execSnapReady (s : State) : Out :=
  let done := s.varN .jobDone JobFor.snapSign.slot
  if decide (s.oN Obj.keySnapState = 2) && decide (done = 1 ∨ done = 2) then
    let s := s.setVar .jobDone 0 JobFor.snapSign.slot
    let nonce := leBytes 4 (s.oN Obj.keySnapNonce)
    if done = 1 then
      let (sig, s) := signWith (identityScalar s) s.snapData s
      let s : State := { s with snapSig := sig }
      .next (((s.setO Obj.keySnapState 3).post 118).record 0x0E08 (u8 0 ++ nonce))
    else .next ((s.setO Obj.keySnapState 4).record 0x0E08 (u8 1 ++ nonce))
  else .next s

/-! ## BOOT (R502, R503, R522) -/

/-- The security engine at BOOT. -/
def securityBoot (trng : Nat) (s : State) : State :=
  let s := identityBoot trng s
  let g := generationOf s
  let s := (s.setO Obj.keyGeneration g).setO Obj.keyStatus 0
  let s := (s.setBit Obj.keyStatus 1 (prodLock s)).setBit Obj.keyStatus 4 (decide (32 ≤ g))
  let s := s.forRange 4 fun k s => ((clearSlot k 0 s).setVar .hwmOn 0 k).setVar .hwmWarn 0 k
  let s : State := { s with snapData := [], snapSig := [], keyQ := [] }
  let s := ((s.setO Obj.keySnapState 0).setVar .claimPort 0).setVar .claimStage 0
  let s := (countersLoad ((s.setVar .snapTodo 0).stopT .ppT)).setFlag .unwrapTodo true
  if prodLock s then s else s.raiseAction 236 0 []

end Sys2Proof.Machine
end

