-- ==== Sys2Proof/Machine/Thermal.lean ====
section
/-!
DEFINITION. Thermal Management and Housekeeping (spec/12_thermal_housekeeping.md): the housekeeping round, the sensors,
the thermal scale and the die shutdown.
-/

namespace Sys2Proof.Machine

/-- The reading of a sensor, 0 to 24. -/
def thKey (i : Nat) : Nat := if i < 9 then Obj.thRo i else if i < 13 then Obj.thDT (i - 9) else Obj.tmT (i - 13)

/-- The threshold and the stop of a sensor (R384). -/
def thThr (s : State) (i : Nat) : Int :=
  if i < 9 then s.o Obj.thDieThr else if i < 13 then s.o (Obj.thDThr (i - 9)) else s.o (Obj.tmThr (i - 13))

/-- The stop of a sensor (R384). -/
def thStop (s : State) (i : Nat) : Int :=
  if i < 9 then s.o Obj.thDieStop else if i < 13 then s.o (Obj.thDStop (i - 9)) else s.o (Obj.tmStop (i - 13))

/-- Is SEN_MRm asserted: as this device drives or mirrors it, or, on a device that is OUT, as the pad reads (R381, R391)? -/
def senAsserted (s : State) (m : Nat) : Bool := if s.oN Obj.teamRole = 0 then s.pinB .senMr m else s.varB .senOn m

/-- Is a sensor judged: a TMON only while SEN_MRm is asserted (R381)? -/
def thJudged (s : State) (i : Nat) : Bool := decide (i < 13) || senAsserted s (i - 13)

/-- The raw code of a sensor: the count of a ring oscillator, the converter's code of a diode or a TMON (R379, R394). -/
def rawCode (s : State) (i : Nat) : Nat :=
  if i < 9 then (min 65535 (s.pin .roCount i)).toNat
  else Config.hkCode i (if i < 13 then s.pin .dxp (i - 9) else s.pin .hk i) % 65536

/-- Is a sensor broken? -/
def thBroken (s : State) (i : Nat) : Bool := s.bit Obj.thBroken i

/-- The sensor of the pack (R383). -/
def packSensor (s : State) : Nat := 9 + s.oN Obj.thPackSrc

/-- Does a sensor take part in the scale (R381, R383, R384)? -/
def thInScale (s : State) (i : Nat) : Bool :=
  s.bit Obj.thScaleMask i && decide (i ≠ packSensor s) && thJudged s i

/-- The scale of a sensor, per mille (R384). -/
def sensorScale (t thr stop : Int) : Int := clamp 0 1000 (1000 * (stop - t) / (stop - thr))

/-- The target scale and the sensor that sets it, 0xFF for none (R384). -/
def scaleTarget (s : State) : Int × Nat :=
  (List.range 25).foldl (fun (b : Int × Nat) i =>
    let v := sensorScale (s.o (thKey i)) (thThr s i) (thStop s i)
    if thInScale s i && decide (v < b.1) then (v, i) else b) (1000, 0xFF)

/-- Put a scale in force: source 65's edges, the classes of source 121 and the records of throttling (R385, R387). -/
def setScale (v : Int) (s : State) : State :=
  let old := s.o Obj.thScale
  if v = old then s
  else
    let s := ((s.setO Obj.thScale v).setBit Obj.thFlags 0 (decide (v < 1000))).setBit Obj.thFlags 1 (decide (v = 0))
    let data := u8 (s.o Obj.thLimiter) ++ u16 (if s.oN Obj.thLimiter < 25 then s.o (thKey (s.oN Obj.thLimiter)) else 0) ++ u16 v
    let s := if old = 1000 then
        (((s.post 65).raise 121 0 data).setVar .thLow v).setVar .thStart s.nowRound
      else s.setVar .thLow (min v (s.var .thLow))
    let s := if v = 0 then (s.post 65).raise 121 1 data else s.condOff 121 1
    if v = 1000 then
      ((s.post 65).condOff 121 0).record 0x0902 (u32 (s.nowRound - s.varN .thStart : Nat) ++ u16 (s.var .thLow))
    else s

/-- Is the die shutdown latched (R389)? -/
def dieLatched (s : State) : Bool := s.bit Obj.thFlags 2

/-! ## Readings -/

/-- A sensor breaks: it reads 150.0 °C and its class of source 122 is raised (R382). -/
def sensorBreak (i crit : Nat) (s : State) : State :=
  let s := (s.setO (thKey i) 2400).setVar .thGood 0 i
  if thBroken s i then s
  else
    let s := (s.setBit Obj.thBroken i true).setVar .thSince s.nowRound i
    s.raise 122 i (u8 i ++ u8 crit ++ u16 (s.var .thLast i) ++ u16 (rawCode s i))

/-- A valid reading: it counts while the sensor is not broken; a diode or TMON at or above its stop raises its class of
source 123 (R392). -/
def sensorValid (i : Nat) (t : Int) (s : State) : State :=
  let s := (s.addVar .thGood 1 i).setVar .thLast t i
  if thBroken s i then s
  else
    let s := s.setO (thKey i) t
    if 9 ≤ i then
      if thStop s i ≤ t then s.raise 123 i (u8 i ++ u16 t ++ u16 (thStop s i)) else s.condOff 123 i
    else s

/-- Twice the median of a list: the middle value, or the sum of the two middle values. -/
def median2 (l : List Int) : Int :=
  let l := l.mergeSort (fun a b => decide (a ≤ b))
  let n := l.length
  l.getD ((n - 1) / 2) 0 + l.getD (n / 2) 0

/-- Why a ring-oscillator reading makes its sensor broken (R379). -/
def roFault (s : State) (i : Nat) (t : Int) : Option Nat :=
  let others := ((List.range 9).filter fun j => j ≠ i && s.varB .roRound j && !thBroken s j).map fun j => s.o (Obj.thRo j)
  if s.pin .roCount i = 0 then some 0
  else if t < -880 ∨ 2800 < t then some 1
  else if others ≠ [] ∧ 2 * s.o Obj.thRoPlaus < (2 * t - median2 others).natAbs then some 2
  else none

/-- Ten consecutive calibrations have failed (R377). -/
def converterFailed (s : State) : Bool := decide (10 ≤ s.oN Obj.hkCalRun)

/-- The temperature that a TMON voltage stands for (R381). -/
def tmonTemp (s : State) (m : Nat) : Int :=
  divNearest (1600 * (s.pin .hk (13 + m) - 1000 * s.o (Obj.tmOffset m))) (1000 * s.o (Obj.tmGain m))

/-- A sensor's reading is taken in (R379 to R382); a TMON without one ends a run of valid rounds. -/
def takeSensor (i : Nat) (s : State) : State :=
  let raw := s.pin .hk i
  if i < 9 then
    let s := s.setVar .roRound (s.nowRound + 1 : Nat) i
    match roFault s i raw with
    | some c => sensorBreak i c s
    | none => sensorValid i raw s
  else if i < 13 then
    let v := s.pin .dxp (i - 9)
    if converterFailed s then sensorBreak i 5 s
    else if 1000 < v then sensorBreak i 3 s
    else if v < 100 then sensorBreak i 4 s
    else sensorValid i raw s
  else if thJudged s i then
    let m := i - 13
    if converterFailed s then sensorBreak i 5 s
    else if raw < 1000 * s.o (Obj.tmVmin m) ∨ 1000 * s.o (Obj.tmVmax m) < raw then sensorBreak i 1 s
    else sensorValid i (tmonTemp s m) s
  else s.setVar .thGood 0 i

/-- The ring oscillators of this round at or above 145.0 °C, as a bit map (R389). -/
def hotRos (s : State) : List Nat :=
  (List.range 9).filter fun i => decide (s.varN .roRound i = s.nowRound + 1) && decide (2320 ≤ s.o (Obj.thRo i))

/-- A list of bit numbers as a bit map. -/
def bitMap (l : List Nat) : Nat := l.foldl (fun a i => a + 2 ^ i) 0

/-- DIE_SHUTDOWN: two or more ROs at or above 145 °C set the latch (R389). -/
def dieShutdown (s : State) : State :=
  if 2 ≤ (hotRos s).length ∧ ¬ dieLatched s then
    (s.setBit Obj.thFlags 2 true).raise 120 0
      (u16 (bitMap (hotRos s)) ++ u16 (s.o Obj.thTDie) ++ u16 (s.oN Obj.thBroken % 512 : Nat) ++ u8 (s.o Obj.sysMode))
  else s

/-- What the readings give: th.t_die, the pack temperature, the charger's ceiling, the target (R379, R383, R384). -/
def thermalShow (s : State) : State :=
  let die := (List.range 9).foldl (fun (a : Int) i => if s.varB .roRound i then max a (s.o (Obj.thRo i)) else a) (-880)
  let s := if (List.range 9).any fun i => s.varB .roRound i then s.setO Obj.thTDie die else s
  let s := if s.o Obj.thTDieMax < s.o Obj.thTDie then s.setO Obj.thTDieMax (s.o Obj.thTDie) else s
  let p := s.o (thKey (packSensor s))
  let s := (s.setO Obj.thTPack p).setBit Obj.thFlags 4 (thBroken s (packSensor s))
  let room := s.o Obj.pwrTchgHi - p
  let s := s.setO Obj.thChgCeiling
    (if room ≤ 0 then 0 else min (s.o Obj.pwrIchg) (divNearest (s.o Obj.pwrIchg * room) (s.o Obj.thPackBand)))
  let (v, l) := scaleTarget s
  (s.setO Obj.thScaleTarget v).setO Obj.thLimiter l

/-- Does a channel read 0 while MAIN is unpowered (R378)? -/
def hkMain (i : Nat) : Bool := decide (i = 38 ∨ i = 39 ∨ (44 ≤ i ∧ i ≤ 59))

/-- HK_CONVERSION: a channel's result is taken in (R376, R378); a TMON that is broken or not judged is converted all the same. -/
def hkTake (i : Nat) (s : State) : State :=
  let s := if i < 25 then takeSensor i s else s
  let v := if 13 ≤ i ∧ i < 25 then tmonTemp s (i - 13)
    else if hkMain i && !s.mainOn then 0 else s.pin .hk i
  let s := s.setO (Obj.hkValue i) v
  if i < 25 then dieShutdown (thermalShow s) else s

/-- HK_CALIBRATION: offset and gain at the end of the round (R377). -/
def hkCalibrate (s : State) : State :=
  let s := s.bump Obj.hkRounds
  if (s.pin .calOff).natAbs ≤ 2000 ∧ (s.pin .calGain).natAbs ≤ 5000 then
    ((s.setO Obj.hkCalRun 0).setBit Obj.thFlags 3 true).condOff 124 0
  else ((s.bumpSat Obj.hkCalRun 65535).bump Obj.hkCalFails).setBit Obj.thFlags 3 false

/-- The housekeeping slots 33 and 34 of a frame (R376). -/
def hkSlots (s : State) : State :=
  let f := s.oN Obj.frameNumber % 1000
  if f = 999 then hkCalibrate s
  else if f % 15 = 0 ∧ 15 ≤ f ∧ f ≤ 960 then hkTake (f / 15 - 1) s
  else s

/-- SCALE_DROP at a tick: a lower target is taken; under the latch the scale is 0 (R385, R389, R390). -/
def thermalTick (s : State) : State :=
  let v := if dieLatched s then 0 else s.o Obj.thScaleTarget
  if v < s.o Obj.thScale then setScale v s else s

/-- SCALE_RISE at a round boundary (R385), and the rounds below 1,000. -/
def thermalRound (s : State) : State :=
  let s := if s.o Obj.thScale < 1000 then s.bump Obj.thThrottled else s
  if !dieLatched s && decide (s.o Obj.thScale < s.o Obj.thScaleTarget) then
    setScale (min (s.o Obj.thScaleTarget) (s.o Obj.thScale + s.o Obj.thScaleRise)) s
  else s

/-- CALIBRATION_FAILURE: 10 consecutive failed calibrations; every remote diode and TMON counts as broken (R377). -/
def execCalibrationFailure (s : State) : Out :=
  if converterFailed s && !s.condOn 124 0 then
    let s := s.raise 124 0 (u16 (s.o Obj.hkCalRun) ++ u16 (s.pin .calOff) ++ u16 (s.pin .calGain))
    .next (thermalShow (s.forRange 16 fun j s => if thJudged s (9 + j) then sensorBreak (9 + j) 5 s else s))
  else .next s

/-- Is a sensor due to be restored (R382)? -/
def restorable (s : State) (i : Nat) : Bool := thBroken s i && decide (s.oN Obj.thRestore ≤ s.varN .thGood i)

/-- SENSOR_RESTORED: valid for th.restore consecutive rounds (R382, R393); the lowest such sensor. -/
def execSensorRestored (s : State) : Out :=
  match (List.range 25).find? (restorable s) with
  | some i =>
    let s := ((s.setBit Obj.thBroken i false).condOff 122 i).setO (thKey i) (s.var .thLast i)
    .next (thermalShow ((s.post 66).record 0x0904
      (u8 i ++ u16 (s.var .thLast i) ++ u32 (s.nowRound - s.varN .thSince i : Nat))))
  | none => .next s

/-! ## Checks of a write (R388) -/

/-- May th.scale_mask take a value? -/
def scaleMaskOk (v : Nat) : Bool :=
  decide (v < 2 ^ 25) && decide (3 ≤ ((List.range 9).filter fun i => v.testBit i).length)

/-- The cross-object checks of this chapter. -/
def thermalConfigOk (s : State) : Bool :=
  scaleMaskOk (s.oN Obj.thScaleMask) &&
  decide (s.o Obj.thDieThr < s.o Obj.thDieStop ∧ s.o Obj.thDieStop ≤ 2240) &&
  (List.range 4).all (fun d => decide (s.o (Obj.thDThr d) < s.o (Obj.thDStop d))) &&
  (List.range 12).all fun m => decide (s.o (Obj.tmThr m) < s.o (Obj.tmStop m) ∧ s.o (Obj.tmVmin m) < s.o (Obj.tmVmax m))

end Sys2Proof.Machine
end

