-- ==== Sys2Proof/Machine/Image.lean ====
section
/-!
DEFINITION. Configuration: which objects a bank sets, their patched defaults and ranges, the cross-object checks, what a
value does when it applies, and the tack images (spec/18_security_and_update.md, R513 to R521; R12 to R14, R20 to R22,
R571 to R573).
-/

namespace Sys2Proof.Machine

/-! ## The dictionary as the part has it -/

/-- Does an index exist on the part (R2, R567, R568)? -/
def indexExists (s : State) (index : Nat) : Bool :=
  indexListed index && !(decide (s.oN Obj.idPart = 2) && absent4824 index)

/-- The row of the rule ROM that describes an object: a row describes objects that share every field, so that those of a run with a default each
have a row each (R571). -/
def romRow (k : Nat) (r : Row) : Row :=
  match r.dfl with
  | .val _ => r
  | d => { r with base := keyIndex k, count := 1, sub := keySub k, subCount := 1, dfl := .val (d.at (keyIndex k) r.base (keySub k) r.sub) }

/-- The row of an object of the part: the classes of a source are those that its chapter defines (R255, R604), the budget objects of
absent rails are absent (R546), and the reaction words and class entries of sources 200 and 120 cannot be written (R231). -/
def objRow (s : State) (index sub : Nat) : Option Row :=
  if !indexExists s index then none
  else if 0x2400 ≤ index ∧ index < 0x2500 ∧ 0x40 ≤ sub ∧ !classDefined (index - 0x2400) (sub % 32) then none
  else if s.oN Obj.idPart = 2 ∧ 0x4411 ≤ index ∧ index ≤ 0x4413 ∧ 0x07 ≤ sub ∧ sub ≤ 0x0C then none
  else if reactFixed (index - 0x2400) ∧ 0x2400 ≤ index ∧ (1 ≤ sub ∧ sub ≤ 5 ∨ 0x40 ≤ sub ∧ sub < 0x60) then
    (dictRow index sub).map fun r => { romRow (objKey index sub) r with access := .ro }
  else (dictRow index sub).map (romRow (objKey index sub))

/-- The key of a row's first object, under which a patch of the row is kept. -/
def rowKey (r : Row) : Nat := objKey r.base r.sub

/-- The minimum in force. -/
def rowLo (s : State) (r : Row) : Int := if s.varB .romMin (rowKey r) then s.var .romMin (rowKey r) - 2 ^ 64 else r.lo
/-- The maximum in force. -/
def rowHi (s : State) (r : Row) : Int := if s.varB .romMax (rowKey r) then s.var .romMax (rowKey r) - 2 ^ 64 else r.hi

/-- Does a value lie in its object's range (R6, R571)? Byte strings of 8 bytes have no range. -/
def inRange (s : State) (r : Row) (v : Int) : Bool :=
  match r.ty with
  | .oct _ => true
  | _ => decide (rowLo s r ≤ v ∧ v ≤ rowHi s r) || decide (r.extra = some v)

/-- The patched rule-ROM default of an object (R21, R22). -/
def romDefault (s : State) (r : Row) (index sub : Nat) : Int :=
  let p := FMap.get 0 s.romDfl (rowKey r)
  if p ≠ 0 then p - 2 ^ 64 else r.dfl.at index r.base sub r.sub

/-- The estimator's record at a BOOT; with no valid slot the impedance table takes the rule ROM's defaults (R371). -/
def estRecordLoad (s : State) : State :=
  let s := estLoad s
  if s.bit Obj.estFlags 7 || s.bit Obj.estFlags 8 then s
  else s.forRange 32 fun i s =>
    match dictRow (keyIndex (Obj.estR i)) (keySub (Obj.estR i)) with
    | some r => s.setO (Obj.estR i) (romDefault s (romRow (Obj.estR i) r) (keyIndex (Obj.estR i)) (keySub (Obj.estR i)))
    | none => s

/-- Is a row configuration: what a bank may name and an activation sets (R514)? -/
def Row.config (r : Row) : Bool :=
  decide (r.access = .rw ∨ r.access = .rws ∨ r.access = .rwk) &&
  decide (r.apply = .nextFrame ∨ r.apply = .nextRound ∨ r.apply = .nextActivation)

/-- Is an object configuration? -/
def isConfig (k : Nat) : Bool := match dictRow (keyIndex k) (keySub k) with | some r => r.config | none => false

/-- Reserved bits of bit fields that their objects list: they read as 0 (R6); on the LX4824 bits 19 to 24 of th.scale_mask do (R395). -/
def withoutReserved (s : State) (k : Nat) (v : Int) : Int :=
  if k = Obj.sbBbEn then v % 4
  else if k = Obj.thScaleMask ∧ s.oN Obj.idPart = 2 then v - v / 2 ^ 19 % 2 ^ 6 * 2 ^ 19
  else v

/-! ## What a value does when it applies (R12) -/

/-- The objects whose value differs between two states. -/
def changedKeys (a b : State) : List Nat :=
  ((a.objs ++ b.objs).map (·.1)).eraseDups.filter fun k => decide (a.o k ≠ b.o k)

/-- The consequences of new values in force: phase lists and spare declarations, switching grids, the clock reference,
SYNC_OUT, the setpoints' slew, the sequence table, the wear scores, whether HOLDUP is watched (R56, R64, R108, R110, R121, R159, R183, R191,
R471). -/
def configEffects (old : State) (ks : List Nat) (s : State) : State :=
  let idx (i : Nat) (p : Nat → Bool) : Bool := ks.any fun k => decide (keyIndex k = i) && p (keySub k)
  let s := s.forRange 12 fun m s =>
    let s := if idx (0x1100 + m) (fun b => decide (0x80 ≤ b ∧ b < 0xB0)) || idx (0x1200 + m) (fun b => decide (b ≤ 2)) then
        listApplied m s else s
    let s := if ks.contains (Obj.railPeriod m) || ks.contains (Obj.railOrigin m) then gridApplied m s else s
    let s := if ks.contains (Obj.railVset m) || ks.contains (Obj.railTrim m) then slewFlag m s else s
    if idx (0x1200 + m) (fun b => decide (7 ≤ b ∧ b ≤ 0x12)) then
      s.forEach (listOf s m) fun n s => wearRescore n m s
    else s
  let s := s.forRange 8 fun b s =>
    let s := if ks.contains (Obj.abVset b) || ks.contains (Obj.abTrim b) then slewFlag (12 + b) s else s
    if ks.contains (Obj.abPeriod b) || ks.contains (Obj.abPhase b) then buckGridApplied b s else s
  let s := if ks.contains Obj.clkRefSel || ks.contains Obj.clkSyncDiv then
      referenceChange (old.oN Obj.clkRefSel) (s.oN Obj.clkRefSel) s else s
  let s := if ks.contains Obj.pwrCapNom then capUnlearned s else s
  let s := if ks.contains Obj.collieHoldupRun then collieMode s else s
  let s := if ks.contains Obj.yardMembers then showLeader s else s
  let s := if ks.contains Obj.teamEn then teamEnApplied s else s
  let s := if ks.contains Obj.clkSyncoutDiv || ks.contains Obj.clkSyncoutPhase then syncOutRestart s else s
  if ks.any fun k => decide (0x2000 ≤ keyIndex k ∧ keyIndex k ≤ 0x206F ∨ keyIndex k = 0x2090) then showTable s else s

/-- A written value takes effect. -/
def applyValue (k : Nat) (v : Int) (s : State) : State :=
  if s.o k = v then s else configEffects s [k] (s.setO k v)

/-- APPLY_DEFERRED_WRITE: the values written for an apply point take effect, in the order served (R12, R14). -/
def applyDeferred (p : Apply) (s : State) : State :=
  let now := s.deferred.filter fun d => d.point = p
  let s : State := { s with deferred := s.deferred.filter fun d => d.point ≠ p }
  s.forEach now fun d s => applyValue d.key d.val s

/-- The value a READ returns: the one written last, though it may not be in force (R13). -/
def newestOf (s : State) (k : Nat) : Int :=
  match s.deferred.reverse.find? fun d => d.key = k with
  | some d => d.val
  | none => s.o k

/-- Every written value taken as in force: what the checks of a write are judged on. -/
def newestState (s : State) : State := s.forEach s.deferred fun d s => s.setO d.key d.val

/-! ## The cross-object checks (R20, R571) -/

/-- The divider of SYNC_OUT exceeds its phase (R65). -/
def syncOutOk (s : State) : Bool := decide (s.o Obj.clkSyncoutPhase < s.o Obj.clkSyncoutDiv)

/-- The data rate of a CAN port is not below its arbitration rate: 125, 250, 500, 1000 kbit/s against 1, 2, 4, 5 Mbit/s. -/
def canRatesOk (s : State) (p : Nat) : Bool :=
  let nbr := [125, 250, 500, 1000].getD (s.oN (Obj.canNbr p)) 0
  let dbr := [0, 1000, 2000, 4000, 5000].getD (s.oN (Obj.canDbr p)) 0
  decide (s.oN (Obj.canDbr p) = 0 ∨ nbr ≤ dbr)

/-- The check that a write of a phase's object must pass: the times of R77, or the slope bounds of R106. -/
def phaseWriteOk (s : State) (n sub : Nat) : Bool :=
  if sub = keySub (Obj.phaseSlopeMin 0) ∨ sub = keySub (Obj.phaseSlopeMax 0) then slopeBoundsOk s n
  else if sub = keySub (Obj.phaseBlank 0) ∨ sub = keySub (Obj.phaseTonMin 0) ∨ sub = keySub (Obj.phaseToffMin 0) then phaseTimesOk s n
  else true

/-- The check of one reaction word or class entry, by its key (R61, R231, R389). -/
def reactionOk (s : State) (k : Nat) : Bool :=
  let src := keyIndex k - 0x2400
  let sub := keySub k
  if reactFixed src && decide (s.o k ≠ dictDefault k) && decide (sub ≤ 5 ∨ (0x40 ≤ sub ∧ sub < 0x60)) then false
  else if 1 ≤ sub ∧ sub ≤ 5 then reactWordOk src (s.oN k)
  else if 0x40 ≤ sub ∧ sub < 0x60 then clsEntryOk (s.oN k)
  else true

/-- Is an object one of the three whose write R120 judges? -/
def setpointKey (k vset trim vmax : Nat) : Bool :=
  decide (keySub k = keySub vset ∨ keySub k = keySub trim ∨ keySub k = keySub vmax)

/-- The bounds that R65 and R111 judge on the values in force: the state has the written value in place, every other object
as it is in force. -/
def inForceOk (k : Nat) (s : State) : Bool :=
  let i := keyIndex k
  if k = Obj.clkSyncoutDiv ∨ k = Obj.clkSyncoutPhase then syncOutOk s
  else if 0x1100 ≤ i ∧ i < 0x110C ∧ (keySub k = keySub (Obj.railPeriod 0) ∨ keySub k = keySub (Obj.railOrigin 0)) then
    railOriginOk s (i - 0x1100)
  else if 0x1180 ≤ i ∧ i < 0x1188 ∧ (keySub k = keySub (Obj.abPeriod 0) ∨ keySub k = keySub (Obj.abPhase 0)) then
    buckOriginOk s (i - 0x1180)
  else true

/-- The checks of the chapter that owns an object, on the configuration that a write would give. -/
def writeCheck (k : Nat) (s : State) : Bool :=
  let i := keyIndex k
  if i = 0x0100 then (List.range 8).all (buckSyncOk s)
  else if 0x1000 ≤ i ∧ i < 0x1030 then phaseWriteOk s (i - 0x1000) (keySub k)
  else if 0x1100 ≤ i ∧ i < 0x110C then
    railConfigOk s (i - 0x1100) && poolConfigOk s (i - 0x1100) &&
      (!setpointKey k (Obj.railVset 0) (Obj.railTrim 0) (Obj.railVmax 0) || railSetpointOk s (i - 0x1100))
  else if 0x1180 ≤ i ∧ i < 0x1188 then
    buckConfigOk s (i - 0x1180) &&
      (!setpointKey k (Obj.abVset 0) (Obj.abTrim 0) (Obj.abVmax 0) || buckSetpointOk s (i - 0x1180))
  else if 0x1200 ≤ i ∧ i < 0x120C then poolConfigOk s (i - 0x1200)
  else if 0x1300 ≤ i ∧ i < 0x1320 then scConfigOk s (i - 0x1300)
  else if 0x2000 ≤ i ∧ i < 0x2034 then seqParentsExist s (i - 0x2000)
  else if 0x2400 ≤ i ∧ i < 0x2500 then reactionOk s k
  else if i = 0x2C00 then hsConfigOk s
  else if i = 0x3000 then powerConfigOk s
  else if i = 0x3103 then estConfigOk s
  else if k = Obj.thScaleMask then scaleMaskOk (s.oN k)
  else if 0x3200 ≤ i ∧ i < 0x3240 then thermalConfigOk s
  else if i = 0x3C00 then collieConfigOk s
  else if i = 0x4800 ∨ i = 0x4801 then canRatesOk s (i - 0x4800)
  else true

/-- Every check of a configuration as a whole, judged as a write in SETUP with every rail off (R20). -/
def configOk (s : State) : Bool :=
  let s := s.forRange 12 fun m s => s.setO (Obj.railState m) 0
  syncOutOk s &&
  (List.range 12).all (fun m => railConfigOk s m && railOriginOk s m && railSetpointOk s m && poolConfigOk s m) &&
  (List.range 48).all (phaseConfigOk s) &&
  (List.range 8).all (fun b => buckConfigOk s b && buckOriginOk s b && buckSetpointOk s b) &&
  (List.range 32).all (scConfigOk s) && tableOk s && hsConfigOk s && powerConfigOk s && estConfigOk s &&
  thermalConfigOk s && scaleMaskOk (s.oN Obj.thScaleMask) && collieConfigOk s && budgetConfigOk s &&
  canRatesOk s 0 && canRatesOk s 1 &&
  (s.objs.filter fun e => decide (0x2400 ≤ keyIndex e.1 ∧ keyIndex e.1 < 0x2500)).all fun e => reactionOk s e.1

/-! ## Defaults and entries (R21, R22, R514) -/

/-- The objects of a row take a value. -/
def setRow (r : Row) (v : Int) (s : State) : State :=
  s.forRange r.count fun i s => s.forRange r.subCount fun j s => s.setO (objKey (r.base + i) (r.sub + r.subStep * j)) v

/-- The patched defaults of the rows that a test picks come into force (R21). -/
def patchedDefaults (p : Row → Bool) (s : State) : State :=
  s.forEach s.romDfl fun e s =>
    match dictRow (keyIndex e.1) (keySub e.1) with
    | some r => if p r then setRow (romRow e.1 r) (e.2 - 2 ^ 64) s else s
    | none => s

/-- Every configuration object at its rule-ROM default, patched where a patch names its row. -/
def configDefaults (s : State) : State := patchedDefaults Row.config (s.keepObjs fun k => !isConfig k)

/-- The configuration that a list of entries gives (R22, R514). -/
def configFrom (es : List (Nat × Int)) (s : State) : State :=
  (configDefaults s).forEach es fun e s => s.setO e.1 (withoutReserved s e.1 e.2)

/-- One entry of an image: its object, its size and its value bytes. -/
structure ImgEntry where
  key : Nat
  size : Nat
  bytes : List Byte
  deriving DecidableEq, Repr

/-- The entries that bytes spell, and what follows them (R513). -/
def imgEntries : Nat → List Byte → List ImgEntry × List Byte
  | 0, d => ([], d)
  | n + 1, d =>
    let size := recField d 3 1
    if d.length < 4 + size then ([], d)
    else
      let (l, rest) := imgEntries n (d.drop (4 + size))
      (⟨objKey (recField d 0 2) (recField d 2 1), size, (d.drop 4).take size⟩ :: l, rest)

/-- Does an entry name an object it may set, at its size, after the one before it (R514)? -/
def entryOk (s : State) (last : Option Nat) (e : ImgEntry) : Bool :=
  (match last with | some k => decide (k < e.key) | none => true) &&
  match objRow s (keyIndex e.key) (keySub e.key) with
  | some r => r.config && decide (r.ty.size = e.size ∧ 1 ≤ e.size ∧ e.size ≤ 8)
  | none => false

/-- The value of an entry. -/
def entryVal (e : ImgEntry) : Int :=
  match dictRow (keyIndex e.key) (keySub e.key) with | some r => decodeVal r.ty e.bytes | none => 0

/-- Does a table row that names a phase or a rail name one of the part (R2): an entry of a phase list, a parent of the sequence table? -/
def namesPresent (s : State) (k : Nat) (v : Int) : Bool :=
  let i := keyIndex k
  if 0x1100 ≤ i ∧ i < 0x110C ∧ keySub (Obj.railPlist 0 0) ≤ keySub k ∧ keySub k < keySub (Obj.railPlist 0 0) + 48 then
    decide (¬ (0 ≤ v ∧ v < 48)) || phaseExists s v.toNat
  else if 0x2000 ≤ i ∧ i < 0x2034 ∧ keySub (Obj.seqParent 0 0) ≤ keySub k ∧ keySub k < keySub (Obj.seqParent 0 0) + 4 then
    decide (¬ (0 ≤ v ∧ v < 52)) || railExists s v.toNat
  else true

/-- Is the value of an entry within its object's range, and what it names present on the part? -/
def entryInRange (s : State) (e : ImgEntry) : Bool :=
  match dictRow (keyIndex e.key) (keySub e.key) with
  | some r => inRange s (romRow e.key r) (entryVal e) && namesPresent s e.key (entryVal e)
  | none => false

/-- The position of the first entry that breaks a rule of order, object or size. -/
def firstBad (s : State) : Nat → Option Nat → List ImgEntry → Option Nat
  | _, _, [] => none
  | i, last, e :: l => if entryOk s last e then firstBad s (i + 1) (some e.key) l else some i

/-! ## Banks (R513, R515) -/

/-- Data address of a bank. -/
def bankAddr (b : Nat) : Nat := 65536 * b

/-- Bytes of the image in a bank. -/
def bankBytes (s : State) (b n : Nat) : List Byte := nvmBytes s (bankAddr b) n

/-- The 64 bytes of a bank's trailer. -/
def trailer (s : State) (b : Nat) : List Byte := nvmBytes s (bankAddr b + 0xFFC0) 64

/-- Does a trailer decode, with crc and mark (R515, R520)? -/
def trailerOk (s : State) (b : Nat) : Bool :=
  let t := trailer s b
  (nvmLine s ((bankAddr b + 0xFFC0) / 32)).2.isSome && (nvmLine s ((bankAddr b + 0xFFC0) / 32 + 1)).2.isSome &&
  decide (recField t 60 2 = crc16 (t.take 60)) && decide (recField t 62 2 = 0xA55A)

/-- State of a bank's trailer; a trailer that does not decode reads empty. -/
def trailerState (s : State) (b : Nat) : Nat := if trailerOk s b then recField (trailer s b) 0 1 else 0

/-- The bytes of a trailer. -/
def trailerBytes (st seq version length : Nat) (digest : List Byte) (time : Nat) : List Byte :=
  let t := u8 st ++ [0, 0, 0] ++ u32 seq ++ u32 version ++ u32 length ++ (digest ++ List.replicate 32 0).take 32 ++
    u48 time ++ List.replicate 6 0
  t ++ u16 (crc16 t) ++ u16 0xA55A

/-- Write a bank's trailer. -/
def writeTrailer (b st seq version length : Nat) (digest : List Byte) (time : Nat) (s : State) : State :=
  nvmWrite (bankAddr b + 0xFFC0) (trailerBytes st seq version length digest time) s

/-- The staging bank: the one that is not active; A while none is (R515, R603). -/
def stageBank (s : State) : Nat := if s.varN .activeBank = 1 then 1 else 0

/-- The entries of a bank's image with their values. -/
def bankEntries (s : State) (b : Nat) : List ImgEntry × List Byte :=
  let len := recField (bankBytes s b 64) 8 4
  imgEntries (recField (bankBytes s b 64) 30 2) (((bankBytes s b len).take (len - 64)).drop 64)

/-- An entry as a configuration value. -/
def entryPairs (es : List ImgEntry) : List (Nat × Int) := es.map fun e => (e.key, entryVal e)

/-- The checks of R20 and R514 on the entries of a bank: the result code of R517 and the failing entry; none where all pass. -/
def entriesFault (s : State) (b : Nat) : Option (Nat × Nat) :=
  let (es, rest) := bankEntries s b
  match firstBad s 0 none es with
  | some i => some (0x06, i)
  | none =>
    if es.length ≠ recField (bankBytes s b 64) 30 2 ∨ 4 ≤ rest.length ∨ rest.any (· ≠ 0) then some (0x06, es.length)
    else
      match es.findIdx? fun e => !entryInRange s e with
      | some i => some (0x07, i)
      | none => if configOk (configFrom (entryPairs es) s) then none else some (0x08, 0)

/-- The checks of R517 on the image in a bank, but for the image key and the signature: the result code and the failing
entry; none where all pass. `written` is the number of bytes written. -/
def imageFault (s : State) (b written : Nat) (minVersion : Nat) : Option (Nat × Nat) :=
  let h := bankBytes s b 64
  let len := recField h 8 4
  if len < 128 ∨ 65472 < len ∨ len % 4 ≠ 0 ∨ written < len then some (0x0B, 0)
  else if recField h 0 1 ≠ 1 ∨ recField h 1 1 ≠ s.oN Obj.idPart ∨ recField h 24 4 ≠ s.oN Obj.dictRomId ∨
      recField h 28 2 ≠ s.oN Obj.dictLayout ∨ recField h 2 2 ≠ 0 ∨ recField h 21 3 ≠ 0 ∨ recField h 32 32 ≠ 0 then some (0x03, 0)
  else if (recField h 12 8 ≠ 0 ∧ recField h 12 8 ≠ s.oN Obj.idUid) ∨ recField h 20 1 ≠ s.oN Obj.keyGeneration then some (0x04, 0)
  else if recField h 4 4 ≤ minVersion then some (0x05, 0)
  else entriesFault s b

/-- The digest of a bank's image (R513). -/
def bankDigest (s : State) (b : Nat) : List Byte := sha256 (bankBytes s b (recField (bankBytes s b 64) 8 4))

/-- The state of the staging bank, with its digest once it is validated: what its trailer has been written as (R515, R516). -/
def setStage (st digest : Nat) (s : State) : State :=
  ((s.setO Obj.imgStageBank (stageBank s)).setO Obj.imgState st).setO Obj.imgStageDigest digest

/-- img.* of the staging bank, as its trailer stands. The bytes written of an image that was staged or validated before are its length (DESIGN
CHOICE for a staged one, log entry 116). -/
def showStage (s : State) : State :=
  let b := stageBank s
  let st := trailerState s b
  setStage st (if st = 2 then ofLeBytes (((trailer s b).drop 16).take 32) else 0)
    (s.setVar .imgLen (if st = 1 ∨ st = 2 then recField (trailer s b) 12 4 else 0 : Nat))

/-- img.* of the active bank. -/
def showActive (s : State) : State :=
  let a := s.varN .activeBank
  let t := if a = 0 then [] else trailer s (a - 1)
  let s := ((s.setO Obj.imgVersion (recField t 8 4)).setO Obj.imgActSeq (recField t 4 4)).setO Obj.imgDigest (recField t 16 32)
  showStage s

/-! ## BOOT (R21, R448, R520) -/

/-- The verdict on patch entry `e`: not programmed, to be skipped, or a word and its new contents (R21, R448). `bad` are the
words that do not decode. -/
def patchEntry (s : State) (bad : List Nat) (e : Nat) : Option (Option (Nat × Nat)) :=
  let a := shadowWord s (128 + 2 * e)
  let revoked := ([54, 55].filter fun w => !otpMarginal s w).any fun w => (shadowWord s w).testBit e
  if a = 0 ∧ !bad.contains (128 + 2 * e) ∧ !bad.contains (129 + 2 * e) then none
  else if bad.contains (128 + 2 * e) || bad.contains (129 + 2 * e) then some none
  else if revoked || otpMarginal s (128 + 2 * e) || otpMarginal s (129 + 2 * e) || !a.testBit 63 ||
      decide (a / 2 ^ 16 % 256 ≠ e) || decide (a / 2 ^ 24 % 256 ≠ 0xA5) then none
  else if 16384 ≤ a % 65536 then some none
  else some (some (a % 65536, shadowWord s (129 + 2 * e)))

/-- Apply one patch word; false where it is skipped: it addresses another word of a dictionary row, or would leave a default
outside its range (R571). -/
def patchWord (w data : Nat) (s : State) : Bool × State :=
  let (part, key) := Config.patchTarget w
  let v := Config.patchValue w data
  match dictRow (keyIndex key) (keySub key) with
  | some r =>
    let r := romRow key r
    let k := rowKey r
    let d := romDefault s r r.base r.sub
    if part = 0 then
      if rowLo s r ≤ v ∧ v ≤ rowHi s r then (true, s.setRom k (v + 2 ^ 64)) else (false, s)
    else if part = 1 then if v ≤ d then (true, s.setVar .romMin (v + 2 ^ 64) k) else (false, s)
    else if part = 2 then if d ≤ v then (true, s.setVar .romMax (v + 2 ^ 64) k) else (false, s)
    else if part = 3 then (false, s)
    else (true, s)
  | none => (decide (3 < part), s)

/-- PATCH_APPLY: programmed entries in ascending order (R21, R448); `bad` are the words that did not decode. A skipped entry
sets sys.boot_status bit 4, and is counted for record 0x0C06 (R453). -/
def patchBoot (bad : List Nat) (s : State) : State :=
  let s := (((s.setO Obj.dictPatches 0).setO Obj.otpPatchUsed 0).setO Obj.otpPatchUsedHi 0).setBit Obj.sysBootStatus 4 false
  let s := s.clearRom.setVar .patchSkip 0
  s.forRange 64 fun e s =>
    match patchEntry s bad e with
    | none => s
    | some none => (s.setBit Obj.sysBootStatus 4 true).addVar .patchSkip 1
    | some (some (w, d)) =>
      let (ok, s) := patchWord w d s
      if ok then
        let s := s.addO Obj.dictPatches 1
        if e < 32 then s.setBit Obj.otpPatchUsed e true else s.setBit Obj.otpPatchUsedHi (e - 32) true
      else (s.setBit Obj.sysBootStatus 4 true).addVar .patchSkip 1

/-- The read-only objects that a rule-ROM word gives: dict.layout, dict.rom_id and id.vendor. The other read-only objects show what the
device is or does, whatever their default (log entry 8). -/
def romConstants : List Nat := [Obj.dictLayout, Obj.dictRomId, Obj.idVendor]

/-- The constants of the rule ROM, patched where a patch names them (R21). -/
def showConstants (s : State) : State :=
  s.forEach romConstants fun k s =>
    s.setO k (if FMap.get 0 s.romDfl k ≠ 0 then FMap.get 0 s.romDfl k - 2 ^ 64 else dictDefault k)

/-- Is a bank valid at BOOT: trailer, digest and R20; owner, version and signature were judged at validation (R520)? -/
def bankValid (s : State) (b : Nat) : Bool :=
  let t := trailer s b
  trailerOk s b && decide (((t.drop 16).take 32) = bankDigest s b) &&
  (entriesFault s b).isNone

/-- A bank is taken as the active one and its image into force (R22, R520). -/
def useBank (b : Nat) (s : State) : State :=
  let es := entryPairs (bankEntries s b).1
  configFrom es ((s.setVar .activeBank (b + 1 : Nat)).setBit Obj.sysBootStatus 3 (decide (b = 1)))

/-- The reads of a bank: its trailer, and the image as long as its header says (R445). -/
def bankTouch (b : Nat) (s : State) : State :=
  nvmTouch (bankAddr b) (min 0xFFC0 (max 64 (recField (bankBytes s b 64) 8 4))) (nvmTouch (bankAddr b + 0xFFC0) 64 s)

/-- BANK_SELECT: both banks are checked and the active bank is selected and taken into force (R22, R33, R520). A patched default of
a writable object that no bank sets, or of a constant, stands from this BOOT on (R21). -/
def bankSelect (s : State) : State :=
  let s := bankTouch 1 (bankTouch 0 (showConstants s))
  let ok (b : Nat) := bankValid s b
  let st (b : Nat) := trailerState s b
  let seq (b : Nat) := recField (trailer s b) 4 4
  let actives := [0, 1].filter fun b => ok b && decide (st b = 3)
  let olds := [0, 1].filter fun b => ok b && decide (st b = 4)
  let best (l : List Nat) : Option Nat := match l with
    | [a, b] => some (if seq a < seq b then b else a)
    | [a] => some a
    | _ => none
  let s := (s.setBit Obj.sysBootStatus 1 (ok 0)).setBit Obj.sysBootStatus 2 (ok 1)
  let s : State := match best actives with
    | some b => useBank b s
    | none =>
      match best olds with
      | some b =>
        let lost := [0, 1].any fun b => decide (st b = 3)
        (useBank b s).raiseAction 235 1 (u8 b ++ u8 (if lost then 0 else 1) ++ u32 (recField (trailer s b) 8 4))
      | none => (configDefaults (s.setVar .activeBank 0)).setBit Obj.sysBootStatus 3 false
  let s := patchedDefaults (fun r => !r.config && !r.keep && decide (r.access ≠ .ro)) s
  showActive (((s.setVar .imgDue 0).setVar .imgVerdict 0).setO Obj.imgPending 0xFE)

/-! ## Staging and validation (R516, R517) -/

/-- Does validation run or wait? -/
def imgBusy (s : State) : Bool := decide (s.oN Obj.imgResult = 1)

/-- A keyed write of img.cmd: its status and effect (R516, R518, R525). -/
def imgCmd (v : Nat) (s : State) : Status × State :=
  if v = 1 then
    if imgBusy s then (.busy, s)
    else (.ok, setStage 0 0 (writeTrailer (stageBank s) 0 0 0 0 [] 0 (s.setVar .imgLen 0)))
  else if v = 2 then
    if imgBusy s then (.busy, s)
    else (.ok, jobRequest 4 .imageCheck ((s.setO Obj.imgResult 1).setO Obj.imgResultEntry 0))
  else if v = 3 then (.ok, s.setO Obj.imgPending 0xFE)
  else (.outOfRange, s)

/-- May bytes be written into the staging bank now: no validation runs, and the buffer has room for them and the trailer (R442, R516)? -/
def stageFree (s : State) (off n : Nat) : Bool :=
  !imgBusy s && decide (s.waiters = []) &&
  let a := bankAddr (stageBank s)
  linesRoom s (linesOf (a + off) n ++ linesOf (a + 0xFFC0) 64).eraseDups

/-- Bytes of a BLOCKWRITE enter the staging bank, whose trailer becomes staged (R516). They may come in any order. -/
def stageWrite (off : Nat) (d : List Byte) (s : State) : State :=
  let b := stageBank s
  let s := nvmWrite (bankAddr b + off) d s
  let s := s.setVar .imgLen (max (s.varN .imgLen) (off + d.length) : Nat)
  setStage 1 0 (writeTrailer b 1 0 0 (s.varN .imgLen) [] 0 s)

/-- The verdict of a validation: result and entry (R517). -/
def imgVerdict (r i : Nat) (s : State) : State := (s.setVar .imgVerdict (r + 1 : Nat)).setVar .imgVerdict i 0 1

/-- The security slots' share of a validation: once job 4 has ended the image is judged; one that passes every other check asks
for job 2, whose end gives the verdict on its signature (R517). -/
def imgSlots (s : State) : State :=
  let b := stageBank s
  if s.varB .jobDone JobFor.imageCheck.slot then
    let failed := s.varN .jobDone JobFor.imageCheck.slot = 2
    let s := bankTouch b (s.setVar .jobDone 0 JobFor.imageCheck.slot)
    match imageFault s b (s.varN .imgLen) (s.oN Obj.imgVersion) with
    | some (r, i) => imgVerdict r i s
    | none =>
      if failed then imgVerdict 0x09 0 s
      else if (imageKey s).isNone then imgVerdict 0x0A 0 s
      else jobRequest 2 .imageVerify s
  else if s.varB .jobDone JobFor.imageVerify.slot then
    let ended := s.varN .jobDone JobFor.imageVerify.slot = 1
    let s := nvmTouch Ledger.image 96 (bankTouch b (s.setVar .jobDone 0 JobFor.imageVerify.slot))
    let len := recField (bankBytes s b 64) 8 4
    let d := bankBytes s b len
    let ok := match imageKey s with
      | some k => ecdsaVerify k (sha256 (d.take (len - 64))) (d.drop (len - 64))
      | none => false
    imgVerdict (if ended && ok then 0x02 else 0x09) 0 s
  else s

/-- Record 0x0E05. -/
def validationData (r i b : Nat) (s : State) : List Byte := u8 r ++ u32 (recField (bankBytes s b 64) 4 4) ++ u16 i ++ u8 b

/-- IMG_VALIDATION_DONE: a pass writes the trailer as validated, with the digest; a failure leaves the bank staged, one that was validated
before among them, and raises class 0x00 of source 235 (R517). -/
def execImgValidationDone (s : State) : Out :=
  if s.varB .imgVerdict then
    let r := s.varN .imgVerdict - 1
    let i := s.varN .imgVerdict 0 1
    let b := stageBank s
    let s := ((s.setVar .imgVerdict 0).setO Obj.imgResult r).setO Obj.imgResultEntry i
    let data := validationData r i b s
    if r = 2 then
      let h := bankBytes s b 64
      let digest := bankDigest s b
      let s := writeTrailer b 2 0 (recField h 4 4) (recField h 8 4) digest 0 s
      .next (setStage 2 (ofLeBytes digest) ((s.post 115).record 0x0E05 data))
    else
      let s := s.raiseActionLater 235 0 data
      .next (if s.oN Obj.imgState = 2 then setStage 1 0 (writeTrailer b 1 0 0 (s.varN .imgLen) [] 0 s) else s)
  else .next s

/-! ## Activation (R518, R519, R573) -/

/-- Would the staged image change the value in force of an RWS object? -/
def changesRws (s : State) : Bool :=
  let t := configFrom (entryPairs (bankEntries s (stageBank s)).1) s
  (changedKeys s t).any fun k =>
    match dictRow (keyIndex k) (keySub k) with | some r => decide (r.access = .rws) | none => false

/-- Does R518 allow the pending activation at an act_at? -/
def activationOk (s : State) (v : Nat) : Bool :=
  decide (s.oN Obj.imgState = 2) && !(decide (s.mode = .run ∧ v ≠ 0) && changesRws s)

/-- A keyed write of img.activate: its status and effect (R518, R525). -/
def imgActivate (v : Nat) (s : State) : Status × State :=
  if ¬ (v ≤ 0x3F ∨ v = 0xFF) then (.outOfRange, s)
  else
    let s := if s.mode = .run ∧ v ≠ 0 then bankTouch (stageBank s) s else s
    if !activationOk s v then (.stateForbids, s)
    else (.ok, ((s.setO Obj.imgPending v).setVar .imgDue 0).setVar .imgYard (s.o Obj.sequencerYardState))

/-- The image's part of a tick: is it the moment of a pending activation (R518)? A yard state that a STANDBY has taken over within the frame
counts at the tick that ends it. -/
def imgTick (s : State) : State :=
  let v := s.oN Obj.imgPending
  let y := s.oN Obj.sequencerYardState
  let due := decide (v ≠ 0xFE) && (decide (s.mode = .setup) || decide (role s = Role.out) || (decide (v = 0xFF) && decide (y = 32)) ||
    (decide (y = v) && decide (s.varN .imgYard ≠ v)))
  (s.setFlag .imgDue due).setVar .imgYard y

/-- Is this the frame of a pending activation's tick (R518)? -/
def activationDue (s : State) : Bool := decide (s.oN Obj.imgPending ≠ 0xFE) && s.varB .imgDue

/-- ACTIVATION: the image takes effect, with its trailers in one commit, the new one first; or it is cancelled because its
condition has failed (R514, R518, R519, R572). What applies at the same tick has applied before it (R573). -/
def execActivation (s : State) : Out :=
  if activationDue s then
    let v := s.oN Obj.imgPending
    let b := stageBank s
    let ok := activationOk s v
    let s := bankTouch b (s.setO Obj.imgPending 0xFE)
    if ok then
      let s := if decide (s.oN Obj.frameNumber % 1000 = 0) && !s.varB .roundDone then applyDeferred .nextRound s else s
      let old := s
      let es := entryPairs (bankEntries s b).1
      let s := configFrom es s
      let s : State := { s with deferred := s.deferred.filter fun d => d.point ≠ .nextActivation, journal := [] }
      let s := configEffects old (changedKeys old s) (s.setO Obj.teamJournal 0)
      let a := s.varN .activeBank
      let seq := s.oN Obj.imgActSeq + 1
      let h := bankBytes s b 64
      let digest := s.oN Obj.imgStageDigest
      let new := (bankAddr b + 0xFFC0, trailerBytes 3 seq (recField h 4 4) (recField h 8 4) (leBytes 32 digest) s.timeNow)
      let t := trailer s (a - 1)
      let past := (bankAddr (a - 1) + 0xFFC0,
        trailerBytes 4 (recField t 4 4) (recField t 8 4) (recField t 12 4) ((t.drop 16).take 32) (recField t 48 6))
      let s := nvmTogether (if a = 0 then [new] else [new, past]) (if a = 0 then s else nvmTouch past.1 64 s)
      let s := commitAsk (s.setVar .activeBank (b + 1 : Nat))
      let s := ((s.setO Obj.imgVersion (recField h 4 4)).setO Obj.imgActSeq seq).setO Obj.imgDigest digest
      let s := if a = 0 then showStage s else (setStage 4 0 s).setVar .imgLen 0
      let s := s.record 0x0E06 (u8 b ++ u32 (s.o Obj.imgVersion) ++ u8 (s.o Obj.sequencerYardState) ++ u16 seq)
      .next (s.post 116)
    else .next (s.record 0x0E05 (validationData 0x07 0 b s))
  else .next s

end Sys2Proof.Machine
end

