-- ==== Sys2Proof/Machine/Test.lean ====
section
/-!
DEFINITION. Loop-backs and production test (spec/22_test_and_loopbacks.md): the start, iterations, end and abort of a run, what it drives,
the reflection of harness test frames, and the control of boundary scan. A loop-back is named by x, its index minus 0x7C00.
-/

namespace Sys2Proof.Machine

/-- The loop-backs (R574): CAN-A, CAN-B, harness, CC, PWM, IMON, hot-swap gate, yard line. -/
def loopbacks : List Nat := [0x01, 0x02, 0x08, 0x0C, 0x10, 0x11, 0x18, 0x19]

/-- Is a loop-back running, or about to start at the next tick (R574)? -/
def lbBusy (s : State) : Bool :=
  decide (s.oN Obj.testActive ≠ 0xFF) || loopbacks.any fun x => s.varB .lbTodo x

/-- Do the depth and the selection of a loop-back exist on the part (R574)? -/
def lbExists (s : State) (x : Nat) : Bool :=
  let d := s.oN (Obj.lbDepth x)
  let sel := s.oN (Obj.lbSel x)
  if x = 1 ∨ x = 2 then decide (d ≤ 1) || (decide (d = 2) && decide (1 ≤ sel ∧ sel ≤ 127))
  else if x = 8 then decide (d ≤ 2)
  else if x = 0x18 then decide (d ≤ 1)
  else if x = 0x10 ∨ x = 0x11 then decide (d = 0) && phaseExists s sel
  else decide (d = 0)

/-- The conditions of a loop-back's row in R577, at its start and while it runs; `port` is the port a start arrives on. -/
def lbCond (s : State) (x : Nat) (port : Option Nat) : Bool :=
  let d := s.oN (Obj.lbDepth x)
  let sel := s.oN (Obj.lbSel x)
  if x = 1 ∨ x = 2 then
    let p := x - 1
    let active := decide (s.oN (Obj.canState p) = 1)
    let free := (portOf s (2 + p)).txn.isNone && decide (port ≠ some (2 + p))
    if d = 0 then free else if d = 1 then free && active else active && decide (s.oN Obj.lopNodeId ≠ 0xFF)
  else if x = 8 then
    if d ≤ 1 then !teamed s || decide (role s = Role.out)
    else decide (role s = Role.out ∨ role s = Role.solo) && s.varB .lastFrame && decide (s.oN Obj.teamTwinRole = Role.out)
  else if x = 0x0C then decide (s.oN Obj.portState = 0 ∨ s.oN Obj.portState = 5)
  else if x = 0x10 then
    let st := s.oN (Obj.phaseState sel)
    decide (s.mode = .setup ∨ s.mode = .safe) && decide (role s = Role.solo) && decide (st = PS.unassigned ∨ st = PS.off) &&
      !s.varB .senOn (s.oN (Obj.phaseRail sel))
  else if x = 0x11 then
    let st := s.oN (Obj.phaseState sel)
    decide (st = PS.unassigned ∨ st = PS.off ∨ st = PS.failed)
  else if x = 0x18 then
    if d = 0 then s.mainOn else decide (hsSt s = HS.absent) && decide (s.pin .hsVin < 5000)
  else
    decide (s.mode = .setup ∨ s.mode = .run) && decide (s.oN Obj.sequencerYardState = 0) && holder s

/-- A write of lb.x.cmd through a port: its status and effect (R550, R574, R576, R585). -/
def lbCmd (x v port : Nat) (s : State) : Status × State :=
  if v = 1 then
    if s.oB Obj.testBscan || !lbExists s x || !lbCond s x (some port) then (.stateForbids, s)
    else if lbBusy s then (.busy, s)
    else
      let s := ((s.setFlag .lbTodo true x).setVar .lbMode (s.mode.code + 1 : Nat)).setVar .lbRole (role s)
      (.ok, s.setVar .lbStop 0 x)
  else if v = 2 then
    (.ok, s.setFlag .lbStop (decide (s.oN (Obj.lbState x) = 1) || s.varB .lbTodo x) x)
  else (.outOfRange, s)

/-- The level that a PWM pad voltage reads as against VDDIO, in mV: 2 high, 0 low, 1 mid, −1 none (R580). -/
def pwmLevel (v vdd : Int) : Int :=
  if 4 * vdd ≤ 5 * v then 2 else if 5 * v ≤ vdd then 0 else if 7 * vdd ≤ 20 * v ∧ 20 * v ≤ 13 * vdd then 1 else -1

/-- The verdict and the value of one iteration, from what the hardware reads back (R577, R580 to R583):
CAN [received equal, error frames or round trip in frames]; harness [blocks that decode, corrected bytes];
CC [received equal, bit errors]; PWM [pad driven high, low, high impedance, VDDIO, in mV];
IMON [64 sampler readings with the source off and 64 with it on, in µV]; gate static [HS_GATE − HS_SRC in mV], pump
[pumped, discharged, in mV]; yard [line low at the begin, low 250 ns after the drive, high 2 µs after release, rise in ns]. -/
def lbJudge (s : State) (x : Nat) (reads : List Int) : Bool × Int :=
  let r (i : Nat) : Int := reads.getD i 0
  let d := s.oN (Obj.lbDepth x)
  if x = 1 ∨ x = 2 then
    let value := if d = 1 then s.o (Obj.canTec (x - 1)) else r 1
    (decide (r 0 = 1) && (decide (d ≠ 2) || decide (r 1 ≤ 100)), value)
  else if x = 8 then (decide (r 0 = 8), r 1)
  else if x = 0x0C then (decide (r 0 = 1), r 1)
  else if x = 0x10 then
    let l (i : Nat) : Int := pwmLevel (r i) (r 3)
    (decide (l 0 = 2 ∧ l 1 = 0 ∧ l 2 = 1), l 2)
  else if x = 0x11 then
    let diff := ((reads.drop 64).take 64).sum - (reads.take 64).sum
    (decide (64 * 500 < diff ∧ diff < 64 * 500000) && ((reads.drop 64).take 64).all fun v => decide (v < 1535000), divNearest diff 6400)
  else if x = 0x18 then
    if d = 0 then
      let st := hsSt s
      (if st = HS.inrush then true else if st = HS.on then decide (4000 < r 0) else decide (r 0 < 500), r 0)
    else (decide (8000 ≤ r 0 ∧ r 1 < 500), r 0)
  else (decide (r 0 = 0 ∧ r 1 = 1 ∧ r 2 = 1), r 3)

/-- Does the run have to be aborted, and why: the first of condition, stop, mode, role (R576, R582, R584). -/
def lbAbortWhy (s : State) (x : Nat) : Option Nat :=
  let killed := s.pinB .reinIn
  let moved := decide (x = 0x18) && s.varB .lbGate
  if !lbCond s x none || killed || moved then some 0
  else if s.varB .lbStop x then some 1
  else if s.mode.code + 1 ≠ s.varN .lbMode then some 2
  else if role s ≠ s.varN .lbRole then some 3
  else none

/-- A run ends, in a state: its pins return to their function. -/
def lbOver (x st : Nat) (s : State) : State :=
  let s := ((s.setO (Obj.lbState x) st).setO Obj.testActive 0xFF).setVar .lbStop 0 x
  ((s.setVar .lbRes 0).setVar .lbEnd 0).setVar .lbWhy 0

/-- The run is aborted, why (R576, R586). -/
def lbAbort (x why : Nat) (s : State) : State :=
  let s := (lbOver x 4 s).post 126
  s.record 0x1102 (u8 x ++ u8 (s.o (Obj.lbDepth x)) ++ u8 why ++ u32 (s.o (Obj.lbDone x)))

/-- The run has passed or failed (R575, R586). -/
def lbEnded (x : Nat) (s : State) : State :=
  let bad := decide (s.o (Obj.lbErrors x) ≠ 0)
  let s := ((lbOver x (if bad then 3 else 2) s).bump Obj.testRuns).post (if bad then 125 else 124)
  s.record 0x1100 (u8 x ++ u8 (s.o (Obj.lbDepth x)) ++ u8 (s.o (Obj.lbSel x)) ++ u8 (State.ofBool bad) ++ u32 (s.o (Obj.lbErrors x)))

/-- The verdict of an iteration is shown, and the next one begins (R575). -/
def lbShow (x : Nat) (s : State) : State :=
  if s.varB .lbRes then
    let s := (s.addO (Obj.lbDone x) 1).addO (Obj.lbErrors x) (if s.varN .lbRes = 1 then 0 else 1)
    ((s.setO (Obj.lbValue x) (s.var .lbVal)).setVar .lbRes 0).setVar .lbFrom s.now
  else s

/-- The running loop-back at a tick: an abort whose cause has come or holds now, else what the frame has shown (R575, R576). -/
def lbRunTick (s : State) : State :=
  let x := s.oN Obj.testActive
  if loopbacks.contains x then
    match if s.varB .lbWhy then some (s.varN .lbWhy - 1) else lbAbortWhy s x with
    | some why => lbAbort x why s
    | none => let s := lbShow x s; if s.varB .lbEnd then lbEnded x s else s
  else s

/-- The loop-backs at a tick: what runs goes on; a run that was asked for starts, but not while EXTEST controls the pads; EARLY_N and LATE_N
are watched (R574 to R576, R582, R585). -/
def lbTick (s : State) : State :=
  let s := lbRunTick s
  let s := s.forEach loopbacks fun x s =>
    if s.varB .lbTodo x then
      let s := s.setVar .lbTodo 0 x
      if s.oB Obj.testBscan then s
      else
        let s := ((s.setO (Obj.lbState x) 1).setO Obj.testActive x).setVar .lbFrom s.now
        (((s.setO (Obj.lbDone x) 0).setO (Obj.lbErrors x) 0).setO (Obj.lbValue x) 0).setVar .lbGate 0 |>.setVar .lbPins 0
    else s
  let high := (if s.pinB .earlyN then 1 else 0) + (if s.pinB .lateN then 2 else 0)
  let old := s.varN .lbPins
  let fell := (old.testBit 0 && !s.pinB .earlyN) || (old.testBit 1 && !s.pinB .lateN)
  let s := if s.oN Obj.testActive = 0x18 ∧ fell then s.setFlag .lbGate true else s
  s.setVar .lbPins (high : Nat)

/-- A warm BOOT changes the mode: the run is aborted (R576). -/
def lbBoot (s : State) : State := if loopbacks.contains (s.oN Obj.testActive) then lbAbort (s.oN Obj.testActive) 2 s else s

/-- Frames of the readings with the source off in an IMON iteration: 64 periods of the phase's rail; of a phase without one, periods of 2 µs as
in the spec's example (R581; DESIGN CHOICE, log entry 117). -/
def imonHalf (s : State) (n : Nat) : Nat :=
  if s.oN (Obj.phaseRail n) < 12 then (64 * periodSteps s (s.oN (Obj.phaseRail n)) + stepsPerFrame - 1) / stepsPerFrame else 128

/-- How many frames an iteration takes at the least: the levels of PWM (R580), the readings of IMON (R581), the round of the pump and the tick
of its discharge (R582). -/
def lbFrames (s : State) (x : Nat) : Nat :=
  if x = 0x10 then 3
  else if x = 0x11 then 2 * imonHalf s (s.oN (Obj.lbSel x))
  else if x = 0x18 ∧ s.oN (Obj.lbDepth x) = 1 then 1001
  else if x = 8 ∧ s.oN (Obj.lbDepth x) = 2 then 2
  else 0

/-- Does a loop-back run with an iteration under way? -/
def lbDrives (s : State) (x : Nat) : Bool :=
  decide (s.oN Obj.testActive = x) && !s.varB .lbRes && decide (s.o (Obj.lbDone x) < s.o (Obj.lbCount x))

/-- Does the source of 100 µA drive IMONn: in the second half of an iteration, off between iterations and at every abort (R581)? -/
def imonSource (s : State) (n : Nat) : Bool :=
  lbDrives s 0x11 && decide (s.oN (Obj.lbSel 0x11) = n) &&
    decide (s.varN .lbFrom + imonHalf s n ≤ s.now ∧ s.now < s.varN .lbFrom + 2 * imonHalf s n)

/-- HS_GATE as it is driven: 0 discharged, 1 by the controller, 2 by the pump of the loop-back, for the round that begins an iteration (R299,
R582). -/
def gateDrive (s : State) : Nat :=
  if hsSt s = HS.inrush ∨ hsSt s = HS.on then 1
  else if lbDrives s 0x18 && decide (s.oN (Obj.lbDepth 0x18) = 1) && decide (s.now < s.varN .lbFrom + 1000) then 2
  else 0

/-- LB_ITERATION: one iteration of the running loop-back is judged; the objects show it at the next tick (R575, R577). The pulse of the yard
loop-back counts as a glitch (R583); a line that was low is not driven, and the value is then open. -/
def execLbIteration (reads : List Int) (s : State) : Out :=
  let x := s.oN Obj.testActive
  if loopbacks.contains x && lbDrives s x && (lbAbortWhy s x).isNone && decide (s.varN .lbFrom + lbFrames s x ≤ s.now) then
    let (ok, v) := lbJudge s x reads
    let d := s.oN (Obj.lbDepth x)
    let s := s.setVar .lbRes (if ok then 1 else 2)
    let undriven := decide (x = 0x19) && decide (reads.getD 0 0 ≠ 0)
    let (f, s') := s.drawFree
    let s := if undriven then s'.setVar .lbVal (ofTwos 32 (f % 2 ^ 32)) else s.setVar .lbVal v
    let s := if x = 0x19 ∧ undriven = false then glitch 500 s else s
    let s := if (x = 1 ∨ x = 2) ∧ d ≠ 0 then s.bump (Obj.canTx (x - 1)) else s
    .next (if (x = 1 ∨ x = 2) ∧ d = 1 ∧ ok then s.bump (Obj.canIgnored (x - 1)) else s)
  else .next s

/-- LB_RUN_END: every iteration is done; at the next tick the run has passed or failed and the pins return (R575, R586). -/
def execLbRunEnd (s : State) : Out :=
  let x := s.oN Obj.testActive
  if loopbacks.contains x && decide (s.o (Obj.lbCount x) ≤ s.o (Obj.lbDone x)) && (lbAbortWhy s x).isNone then
    .next (s.setFlag .lbEnd true)
  else .next s

/-- LB_ABORT: a cause has come that aborts the run at the next tick (R576, R586). -/
def execLbAbort (s : State) : Out :=
  let x := s.oN Obj.testActive
  match if loopbacks.contains x then lbAbortWhy s x else none with
  | some why => .next (s.setVar .lbWhy (why + 1 : Nat))
  | none => .next s

/-- HARNESS_REFLECTION: a device in OUT sends a test frame, whose format byte is 0xE1, back unchanged two frames later
(R579). -/
def execHarnessReflection (frame : List Byte) (s : State) : Out :=
  if s.mgtOn && decide (role s = Role.out) && decide (frame.head? = some 0xE1) then
    .next { s with reflect := (s.reflect.filter fun e => decide (s.now < e.1 ∧ e.1 ≠ s.now + 3)) ++ [(s.now + 3, frame)] }
  else .next s

/-! ## Boundary scan (R585) -/

/-- The instructions of the test access port. -/
inductive Tap where
  | extest | idcode | sample | bypass
  deriving DecidableEq, Repr

/-- The instruction that an opcode selects after the production lock; before it the spec names no other, and BYPASS stands for them (R585). -/
def tapInstr (opcode : Nat) : Tap :=
  if opcode = 0 then .extest else if opcode = 1 then .idcode else if opcode = 2 then .sample else .bypass

/-- The device ID, as id.die_rev and id.part give it (R585). -/
def tapDeviceId (s : State) : Nat :=
  s.oN Obj.idDieRev % 16 * 2 ^ 28 + (if s.oN Obj.idPart = 2 then 0x4824 else 0x4832) * 2 ^ 12 + 0x1A5 * 2 + 1

/-- Does EXTEST control the pads? -/
def showBscan (s : State) : State := s.setOB Obj.testBscan (s.varB .extest && s.oB Obj.testBscanEn)

/-- A keyed write of test.bscan_en: accepted in SETUP or SAFE with role SOLO or OUT and every rail off. -/
def bscanWrite (v : Nat) (s : State) : Status × State :=
  if 1 < v then (.outOfRange, s)
  else if decide (s.mode = .setup ∨ s.mode = .safe) && decide (role s = Role.solo ∨ role s = Role.out) &&
      allRails.all (fun r => !railOn s r && !decide (railState s r = RS.wait ∨ railState s r = RS.test)) then
    (.ok, showBscan (s.setO Obj.testBscanEn v))
  else (.stateForbids, s)

/-- BSCAN_MODE_CLEAR: a change of mode clears test.bscan_en (R585). -/
def bscanClear (s : State) : State := showBscan (s.setO Obj.testBscanEn 0)

/-- EXTEST_LOAD: EXTEST is loaded or left (R585, R586). -/
def execExtestLoad (on : Bool) (s : State) : Out :=
  if s.mgtOn && decide (s.varB .extest ≠ on) then
    let s := (showBscan (s.setFlag .extest on)).post 127
    .next (s.record 0x1101 (u8 (s.o Obj.testBscan) ++ u8 (s.o Obj.sysMode)))
  else .next s

end Sys2Proof.Machine
end

