-- ==== Sys2Proof/Machine/Writes.lean ====
section
/-!
DEFINITION. What an accepted write does: the mode requests of sys.* (R25, R28, R30, R34), the effect of every command object,
and the storing of every other value at its apply point (R12 to R14), with the order of the checks of R508 step 8 and R550
steps 6 to 9, and the write groups of a team (R269).
-/

namespace Sys2Proof.Machine

/-! ## sys.* (R25, R28, R30, R34) -/

/-- Is a write of sys.mode_req undecided? -/
def modeWaits (s : State) : Bool := (List.range 5).any fun p => s.varB .modePort p

/-- A write of sys.mode_req through a port, whose response waits for the tick that decides it (R28, R30). A request for the
present mode is accepted; where another request of this frame is undecided it replaces that one (R14). -/
def modeReqWrite (v : Nat) (port : Option Nat) (s : State) : Option Status × State :=
  if s.mode ≠ .setup ∧ s.mode ≠ .run then (some .stateForbids, s)
  else if v ≠ 3 ∧ v ≠ 4 then (some .outOfRange, s)
  else if v = s.mode.code then
    if modeWaits s then (some .ok, (s.setVar .modeReq 0 Mode.setup.code).setVar .modeReq 0 Mode.run.code) else (some .ok, s)
  else if v = 4 ∧ ¬ (s.varB .activeBank ∧ s.mainOn ∧ tableOk s) then (some .stateForbids, s)
  else
    let s := s.requestMode (Mode.ofCode v) 6
    match port with
    | some p => (none, s.setFlag .modePort true p)
    | none => (none, s)

/-- A keyed write of sys.safe_release (R25, R34, R390). -/
def safeRelease (v : Nat) (s : State) : Status × State :=
  if v ≠ 1 then (.outOfRange, s)
  else if s.mode = .safe ∧ s.mainOn ∧ dieLatched s = false then (.ok, s.requestMode .setup 0x0A)
  else (.stateForbids, s)

/-- A keyed write of sys.reboot (R25, R34, R390). -/
def sysReboot (v : Nat) (s : State) : Status × State :=
  if v ≠ 1 then (.outOfRange, s)
  else if (s.mode = .setup ∨ s.mode = .run ∨ s.mode = .safe ∨ s.mode = .bench) ∧ dieLatched s = false then
    (.ok, s.requestMode .boot 3)
  else (.stateForbids, s)

/-- A keyed write of sys.ship (R25, R34). -/
def sysShip (v : Nat) (s : State) : Status × State :=
  if 1 < v then (.outOfRange, s)
  else if s.mode = .setup ∨ s.mode = .bench then (.ok, s.setFlag .shelfArmed (decide (v = 1)))
  else (.stateForbids, s)

/-! ## Command objects -/

/-- What a write brings beside its value: the thermometer copies that verify (R503), and the partner's answer to a role swap
(R407), which is open where the row gives none. -/
structure Aux where
  copies : Nat := 0
  answer : Option SwapAnswer := none
  deriving DecidableEq, Repr

/-- The partner's answer, drawn where the row gives none. -/
def answerOf (a : Aux) (s : State) : SwapAnswer × State :=
  match a.answer with
  | some x => (x, s)
  | none =>
    let (f, s) := s.drawFree
    (if f % 3 = 0 then .accept else if f % 3 = 1 then .reject else .preempted, s)

/-- A write of nvm.cmd (R437). -/
def nvmCmd (v : Nat) (s : State) : Status × State := if v = 1 then (.ok, commitAsk s) else (.outOfRange, s)

/-- Effects of the command objects of the chapters on devices, modes and the sequencer. -/
def commandA (port k : Nat) (v : Nat) (s : State) : Option (Status × State) :=
  let i := keyIndex k
  let sub := keySub k
  if k = Obj.sysSafeRelease then some (safeRelease v s)
  else if k = Obj.sysReboot then some (sysReboot v s)
  else if k = Obj.sysShip then some (sysShip v s)
  else if 0x1200 ≤ i ∧ i < 0x120C ∧ sub = 0x13 then some (poolRestore (i - 0x1200) v s)
  else if 0x1240 ≤ i ∧ i < 0x1270 ∧ sub = 0x0E then some (wearResetWrite (i - 0x1240) v s)
  else if 0x2060 ≤ i ∧ i < 0x2068 ∧ sub = 0x03 then some (padCmd (i - 0x2060) v s)
  else if k = Obj.sequencerCmd then some (seqCmd v s)
  else if 0x2400 ≤ i ∧ i < 0x2500 ∧ sub = 0x21 then
    let (st, t) := unackWrite (i - 0x2400) v s
    some (st, forwardAck (i - 0x2400) v t)
  else if k = Obj.marshalAckAll then
    let (st, t) := ackAllWrite v s
    some (st, if st = .ok then forwardAckAll t else t)
  else if k = Obj.teamSwap then some (teamSwap v s)
  else if k = Obj.teamRelease then some (teamRelease v s)
  else if k = Obj.teamAdmit then some (teamAdmit v s)
  else if k = Obj.hsCmd then some (hsCmd v s)
  else if k = Obj.pwrCmd then some (pwrCmd v s)
  else if k = Obj.pwrLgDone then some (lgDoneWrite v s)
  else if k = Obj.estCmd then some (estCmd v s)
  else if k = Obj.portBenchEn then some (benchEnWrite v s)
  else if 0x7C01 ≤ i ∧ i ≤ 0x7C19 ∧ sub = 0x04 then some (lbCmd (i - 0x7C00) v port s)
  else if k = Obj.testBscanEn then some (bscanWrite v s)
  else none

/-- Effects of the command objects of the clock, memory, recorder, watchdog, security and ledger chapters. -/
def commandB (port slot copies k : Nat) (v : Int) (s : State) : Option (Status × State) :=
  let n := v.toNat
  if k = Obj.rtcSetTime then some (rtcSetTime n s)
  else if k = Obj.rtcSetCal then some (rtcSetCal n s)
  else if k = Obj.rtcShift then some (rtcShiftWrite v s)
  else if k = Obj.rtcCal then some (rtcCalWrite v s)
  else if k = Obj.rtcFsoClear then some (rtcFsoClear n slot s)
  else if k = Obj.nvmCmd then some (nvmCmd n s)
  else if k = Obj.otpProgCmd then some (otpProgCmd n s)
  else if k = Obj.sbExpCmd then some (expCmd n s)
  else if k = Obj.sbBbCmd then some (bbCmd n s)
  else if k = Obj.collieEn then some (collieEn n port s)
  else if k = Obj.collieServe then some (collieServe n port s)
  else if k = Obj.collieCheckin then some (collieCheckin n s)
  else if k = Obj.collieHostbusy then some (hostbusyWrite n s)
  else if k = Obj.irqClear then some (irqClear n s)
  else if k = Obj.keySnapCmd then some (snapCmd n s)
  else if k = Obj.keyRevoke then some (keyRevoke n port s)
  else if k = Obj.keyRelease then some (keyRelease n port copies s)
  else if k = Obj.imgCmd then some (imgCmd n s)
  else if k = Obj.imgActivate then some (imgActivate n s)
  else if keyIndex k = 0x4411 then some (allocWrite (keySub k - 1) n s)
  else none

/-- A keyed write of budget.grant: a reduction's response waits for its commit (R537). -/
def grantWriteHeld (v port : Nat) (s : State) : Option Status × State :=
  let (st, t) := grantWrite v port s
  (if st = .ok ∧ s.oN Obj.budgetState ≠ 1 ∧ t.oN Obj.budgetState = 1 then none else some st, t)

/-! ## Storing a value (R12 to R14) -/

/-- Store an accepted value: at once, or in the list of values that wait for their apply point. -/
def storeValue (r : Row) (k : Nat) (v : Int) (s : State) : State :=
  if r.apply = .immediate ∨ r.apply = .none then applyValue k v s
  else { s with deferred := (s.deferred.filter fun d => d.key ≠ k) ++ [⟨k, v, r.apply⟩] }

/-- Is a loop-back's parameter written while it runs (R574)? -/
def lbLocked (s : State) (k : Nat) : Bool :=
  let i := keyIndex k
  decide (0x7C01 ≤ i ∧ i ≤ 0x7C19 ∧ 1 ≤ keySub k ∧ keySub k ≤ 3) &&
    (decide (s.oN Obj.testActive = i - 0x7C00) || s.varB .lbTodo (i - 0x7C00))

/-- Is an object a reaction word or a class entry, whose change is recorded as 0x0406? -/
def isReaction (k : Nat) : Bool :=
  decide (0x2400 ≤ keyIndex k ∧ keyIndex k < 0x2500 ∧ ((1 ≤ keySub k ∧ keySub k ≤ 5) ∨ (0x40 ≤ keySub k ∧ keySub k < 0x60)))

/-- The record 0x0406 of a reaction change (R254). -/
def reactionRecord (k : Nat) (old new : Int) (port : Nat) (s : State) : State :=
  s.record 0x0406 (u8 (keyIndex k - 0x2400 : Nat) ++ u8 (keySub k) ++ u16 old ++ u16 new ++ u8 port)

/-- Store a value after its range and cross-object checks, judged on the newest written values, or on
those in force where the rule says so. -/
def checkedStore (q : Req) (r : Row) (k : Nat) (v : Int) (s : State) : Status × State :=
  if !inRange s r v then (.outOfRange, s)
  else
    let v := withoutReserved s k v
    if !writeCheck k ((newestState s).setO k v) || !inForceOk k (s.setO k v) then (.outOfRange, s)
    else if lbLocked s k then (.busy, s)
    else
      let old := newestOf s k
      let s := storeValue r k v s
      (.ok, if isReaction k then reactionRecord k old v q.port s else s)

/-! ## A write served (R550 steps 7 to 9, R508 step 8) -/

/-- May this device serve a write of the object (R269)? A STANDBY takes acknowledgements, which it sends to the holder (R271). -/
def mayServe (s : State) (k : Nat) : Bool :=
  let ack := decide (0x2400 ≤ keyIndex k ∧ keyIndex k < 0x2500 ∧ keySub k = 0x21) || decide (k = Obj.marshalAckAll)
  if ack && decide (role s = Role.standby) then true
  else teamMayWrite s (keyIndex k) &&
    !(decide (k = Obj.sysModeReq) && teamed s && decide (role s = Role.standby ∨ role s = Role.out))

/-- Is an object's write carried to the twin as a write group (R269)? Acknowledgements have delta kinds of their own. -/
def grouped (k : Nat) : Bool :=
  forwarded k && !(decide (keySub k = 0x21 ∧ 0x2400 ≤ keyIndex k ∧ keyIndex k < 0x2500) || decide (k = Obj.marshalAckAll))

/-- The effect of an accepted value: a command object's own, else a checked store. No status: the response waits. -/
def writeValue (q : Req) (aux : Aux) (r : Row) (k : Nat) (v : Int) (s : State) : Option Status × State :=
  if k = Obj.sysModeReq then
    let (st, t) := modeReqWrite v.toNat (some q.port) s
    (st, if st = none ∨ st = some .ok then storeValue r k v t else t)
  else if k = Obj.budgetGrant then grantWriteHeld v.toNat q.port s
  else if k = Obj.portCmd then
    let (a, s) := answerOf aux s
    let (st, s) := portCmd v.toNat a s
    (some st, s)
  else
    match commandA q.port k v.toNat s with
    | some (st, s) => (some st, s)
    | none =>
      match commandB q.port q.slot aux.copies k v s with
      | some (st, s) => (some st, s)
      | none => let (st, s) := checkedStore q r k v s; (some st, s)

/-- A write of an object of up to 8 bytes, or of irq.clear, after its access check: length, then mode and role, range,
cross-object checks and the chapter's own (R550); in a keyed write a value's range comes before the state (R508). -/
def writeObject (q : Req) (aux : Aux) (r : Row) (s : State) : Option Status × State :=
  let k := objKey q.index q.sub
  let v := decodeVal r.ty q.data
  let isKeyed := decide (q.opcode = 3)
  if q.data.length ≠ r.ty.size then (some .mismatch, s)
  else if isKeyed && decide (r.access = .rws) && !inRange s r v then (some .outOfRange, s)
  else if r.access = .rws ∧ s.mode ≠ .setup then (some .stateForbids, s)
  else if !mayServe s k then (some .stateForbids, s)
  else if teamed s && holder s && grouped k && !journalRoom s k then (some .stateForbids, journalFull k s)
  else
    let (st, s) := writeValue q aux r k v s
    (st, if (st = none ∨ st = some .ok) ∧ grouped k then forwardWrite k r.ty.size v s else s)

/-! ## Write groups received (R269) -/

/-- Is an object the command of a paddock: pad[p].cmd? -/
def padCmdKey (k : Nat) : Bool := (List.range 8).any fun p => decide (k = Obj.padCmd p)

/-- A write group that has arrived is applied, at the object's apply point counted from its arrival. Commands of the sequencer,
the paddocks and the input act through the deltas that carry their state (R271). -/
def applyGroup (k : Nat) (d : List Byte) (s : State) : State :=
  match objRow s (keyIndex k) (keySub k) with
  | some r =>
    let v := decodeVal r.ty d
    let s : State :=
      if s.journal.any (fun e => e.1 = k) then { s with journal := s.journal.map fun e => if e.1 = k then (k, v) else e }
      else if s.journal.length < 512 then { s with journal := s.journal ++ [(k, v)] } else s
    let s := s.setO Obj.teamJournal s.journal.length
    if k = Obj.sysModeReq then storeValue r k v (modeReqWrite v.toNat none s).2
    else if k = Obj.sequencerCmd ∨ k = Obj.hsCmd ∨ padCmdKey k then s
    else if 0x1200 ≤ keyIndex k ∧ keyIndex k < 0x120C ∧ keySub k = 0x13 then (poolRestore (keyIndex k - 0x1200) v.toNat s).2
    else if 0x1240 ≤ keyIndex k ∧ keyIndex k < 0x1270 ∧ keySub k = 0x0E then (wearResetWrite (keyIndex k - 0x1240) v.toNat s).2
    else if r.access = .ro then s
    else storeValue r k (withoutReserved s k v) s
  | none => s

/-- The write groups of a frame are applied as their last parts arrive. -/
def applyGroups (s : State) : State :=
  let l := s.fwdIn
  let s : State := { s with fwdIn := [] }
  s.forEach l fun g s => applyGroup g.1 g.2 s

/-- MIRROR_FRAME_CHECK: the received frame is judged good or missed at the end of slot 3, and what it brings is applied (R263, R269). -/
def execMirrorFrameCheck (rx : MirrorRx) (s : State) : Out :=
  if teamed s && s.mgtOn && decide (s.oN Obj.testActive ≠ 8) then
    .next (applyGroups (lateEvents (frameCheck rx) s))
  else .next s

end Sys2Proof.Machine
end

