-- ==== Sys2Proof/Machine/Protocol.lean ====
section
/-!
DEFINITION. The Luadar Object Protocol (spec/20_object_protocol.md): the checks of a request in the order of R550, reads,
writes, keyed commands with their high-water mark (R508, R509), block transactions and their segments, the ports with
their busy and retry rules, and the rows of spec/opcode_table.json that are requests.
-/

namespace Sys2Proof.Machine

/-! ## Requests of the rows that name one object -/

/-- A plain WRITE of one object. -/
def plainReq (c : Plain) (key : Nat) : Req :=
  { port := c.port, id := { src := c.src }, opcode := 2, tid := c.tid, index := keyIndex key, sub := keySub key, slot := 0, len := c.data.length,
    counter := 0, tag := [], offset := 0, data := c.data }

/-- A keyed WRITEK of one object. -/
def keyedReq (c : Keyed) (key : Nat) : Req :=
  { port := c.port, id := { src := c.src }, opcode := 3, tid := c.tid, index := keyIndex key, sub := keySub key, slot := c.slot, len := c.data.length,
    counter := c.counter, tag := c.tag, offset := 0, data := c.data }

/-- A READ of one object. -/
def readReq (port tid key : Nat) : Req :=
  { port := port, opcode := 1, tid := tid, index := keyIndex key, sub := keySub key, slot := 0, len := 0, counter := 0, tag := [],
    offset := 0, data := [] }

/-! ## Format and existence (R547 to R550, steps 1 to 4) -/

/-- The block limit of a port (R548). -/
def blockLimit (port : Nat) : Nat := if port = 2 ∨ port = 3 then 32 else 256

/-- Is the CLAIM keyed: op 0x03 or 0x04? -/
def claimKeyed (q : Req) : Bool := decide (q.opcode = 6 ∧ (q.sub = 3 ∨ q.sub = 4))

/-- The size of an object in bytes (R8, R570); the export's is its length. -/
def objSize (s : State) (k : Nat) (r : Row) : Nat := if k = Obj.sbExpData then s.oN Obj.sbExpLen else r.ty.size

/-- Step 1: the opcode is defined, the slot is zero in a transaction that is not keyed, and length and extension fit the opcode
and the object (R547 to R549, R570). -/
def formatOk (q : Req) (s : State) : Bool :=
  let k := objKey q.index q.sub
  let row := objRow s q.index q.sub
  let size := match row with | some r => objSize s k r | none => 0
  let small := match row with | some _ => decide (size ≤ 8) && decide (k ≠ Obj.sbExpData) | none => true
  let plain := decide (q.slot = 0)
  let whole := decide (q.data.length = q.len)
  if q.opcode = 1 then plain && decide (q.len = 0 ∧ q.data = []) && small
  else if q.opcode = 2 then plain && whole && small && decide (q.len ≤ 8)
  else if q.opcode = 3 then whole && decide (q.tag.length = 8) && small && decide (q.len ≤ 8)
  else if q.opcode = 4 then
    plain && decide (q.data = [] ∧ 1 ≤ q.len ∧ q.len ≤ blockLimit q.port) &&
      (row.isNone || (decide (q.offset + q.len ≤ size) && (!small || decide (q.offset = 0 ∧ q.len = size))))
  else if q.opcode = 5 then
    plain && whole && decide (1 ≤ q.len ∧ q.len ≤ blockLimit q.port) &&
      (row.isNone || (!small && decide (q.offset + q.len ≤ size) &&
        (decide (256 < size) || decide (q.offset = 0 ∧ q.len = size))))
  else if q.opcode = 6 then
    whole && (claimKeyed q || plain) && decide (q.len = 132) && decide (q.port = 0 ∨ q.port = 1 ∨ q.port = 4) &&
      decide (q.index = 0x40F0 ∧ q.sub = bodyOp q) && (!claimKeyed q || decide (q.tag.length = 8))
  else decide (q.opcode = 8) && plain && whole && decide (q.len ≤ blockLimit q.port)

/-- Steps 1 to 4 of R550: format, BOOT, index, subindex. CLAIM skips the last two. -/
def preCheck (q : Req) (s : State) : Status :=
  if !formatOk q s then .mismatch
  else if s.mode = .boot ∧ ¬ (q.opcode = 1 ∧ q.index ≤ 0xFF) then .busy
  else if q.opcode = 6 then .ok
  else if !indexExists s q.index then .noObject
  else if (objRow s q.index q.sub).isNone then .noSub
  else .ok

/-! ## Reading (R13, R549, R553) -/

/-- The value a READ returns: the newest written value, and what stands for the objects that the machine computes. -/
def readVal (s : State) (k : Nat) : Int :=
  let i := keyIndex k
  let sub := keySub k
  if k = Obj.collieCheckin then 0xFF
  else if k = Obj.collieHostbusy then State.ofBool (decide (collieSt s = CS.suspended))
  else if k = Obj.collieBusyLeft then collieBusyLeft s
  else if i = 0x3A20 ∧ 0x20 ≤ sub ∧ sub < 0x40 then s.var .retired (s.oN Obj.sbRetSrc) (sub - 0x20)
  else if i = 0x3D01 ∧ 0x20 ≤ sub then (if holdRuns s (sub - 0x20) then s.leftT .holdT (sub - 0x20) else 0 : Nat)
  else if i = 0x4800 ∨ i = 0x4801 then (if sub = 0x28 then notifyCount s (i - 0x4800) else newestOf s k)
  else withoutReserved s k (newestOf s k)

/-- May an object be read through a port: not a write-only one, and a claim only through its own port (R11, R484)? -/
def mayRead (q : Req) (r : Row) : Bool :=
  let k := objKey q.index q.sub
  decide (r.access ≠ .wok) && decide (k = Obj.irqClaimA → q.port = 0) && decide (k = Obj.irqClaimB → q.port = 1)

/-- The data address of a large object that lies in NVM. -/
def nvmHome (s : State) (k : Nat) : Option Nat :=
  if k = Obj.nvmScratch then some 0x75000
  else if k = Obj.sbRing then some (ringAddr 0)
  else if k = Obj.sbBbSlot0 then some (bbAddr 0)
  else if k = Obj.sbBbSlot1 then some (bbAddr 1)
  else if k = Obj.imgStage then some (bankAddr (stageBank s))
  else if k = Obj.imgActive ∧ s.varB .activeBank then some (bankAddr (s.varN .activeBank - 1))
  else none

/-- The bytes of a large object that does not lie in NVM, and whether its state lets it be read (R466, R495, R511). -/
def largeBytes (s : State) (k : Nat) (r : Row) : Status × List Byte :=
  if k = Obj.nvmBad then (.ok, (s.bad.flatMap (fun a => u32 a) ++ List.replicate 64 0xFF).take 64)
  else if k = Obj.irqPending then (.ok, leBytes 16 (irqPending s))
  else if k = Obj.keyPub then (if s.pubKey = [] then .busy else .ok, s.pubKey)
  else if k = Obj.keyImgPub then (.ok, match imageKey s with | some d => d | none => List.replicate 64 0)
  else if k = Obj.keySnapData then (if s.oN Obj.keySnapState = 3 then .ok else .stateForbids, s.snapData ++ s.snapSig)
  else if k = Obj.sbExpData then (if s.oN Obj.sbExpState = 3 then .ok else .stateForbids, s.expData ++ s.expSig)
  else if k = Obj.imgActive then (.stateForbids, [])
  else (.ok, encodeVal r.ty (readVal s k))

/-- Read bytes of an object, with the effects of the read: a claim (R484), a line that does not decode (R445). -/
def readBytes (k : Nat) (r : Row) (off n : Nat) (s : State) : Status × List Byte × State :=
  if k = Obj.irqClaimA then let (i, s) := claimBy 0 s; (.ok, u8 i, s)
  else if k = Obj.irqClaimB then let (i, s) := claimBy 1 s; (.ok, u8 i, s)
  else
    match nvmHome s k with
    | some a => let (d, s) := nvmRead (a + off) n s; (.ok, d, s)
    | none =>
      let (st, d) := largeBytes s k r
      (st, (d.drop off).take n, if k = Obj.keyImgPub then nvmTouch Ledger.image 96 s else s)

/-! ## Ports (R551, R554 to R558) -/

/-- Can a port take in a request: it is powered and present; a CAN port is neither off, bus-off nor listen-only and does not run
a loop-back that detaches it (R560 to R562, R578); the bench UART exists in bench mode (R411)? -/
def portUsable (s : State) (p : Nat) : Bool :=
  s.mgtOn &&
  if p = 0 ∨ p = 1 then true
  else if p = 2 ∨ p = 3 then
    canClaims s (p - 2) && !(decide (s.oN Obj.testActive = p - 1) && decide (s.oN (Obj.lbDepth (p - 1)) ≤ 1))
  else decide (p = 4) && s.bit Obj.portFlags 4

/-- A request frame is taken in: it is counted, and a new SPI request frame takes the place of a waiting response (R558). -/
def takeIn (p : Nat) (s : State) : State :=
  if p = 2 ∨ p = 3 then s.bump (Obj.canRx (p - 2))
  else if p = 4 then s.bump Obj.uartFrames
  else
    let s := (setPort p { portOf s p with resp := none } s).bump (Obj.spiFrames p)
    (s.setVar .spiErr 0 p).setVar .spiBusy 0 p

/-- A CAN frame is taken in where it is an FD frame with the marker, of kind 0x4, to the own node ID; a request of a row without an
identifier, and one on another port, is for this device (R560). -/
def canTaken (q : Req) (s : State) : Bool :=
  decide (q.port ≠ 2 ∧ q.port ≠ 3) ||
    (q.id.fd && decide (q.id.marker = 0x165 ∧ q.id.kind = 4) && q.id.dst.all fun d => decide (d = s.oN Obj.lopNodeId))

/-- A frame that is not taken in: one with the marker and another format or kind is counted (R560). -/
def canIgnore (q : Req) (s : State) : State :=
  if q.id.marker = 0x165 ∧ (q.id.fd = false ∨ q.id.kind ≠ 4) then s.bump (Obj.canIgnored (q.port - 2)) else s

/-- Is a request's message equal, byte for byte, to the last one answered on its port (R556)? -/
def isReplay (q : Req) (s : State) : Bool :=
  match (portOf s q.port).kept with | some (k, _) => decide ({ k with id := q.id } = q) | none => false

/-- RETRY_REPLAY: the kept response is sent again (R556). -/
def replay (q : Req) (s : State) : State :=
  match (portOf s q.port).kept with
  | some (_, r) =>
    let s := canAnswer q r (setPort q.port { portOf s q.port with resp := some r } s)
    if q.port = 2 ∨ q.port = 3 then s.bump (Obj.canReplays (q.port - 2))
    else s.bump (if q.port = 4 then Obj.uartReplays else Obj.spiReplays q.port)
  | none => s

/-- PORT_BUSY: the port holds a transaction; CAN and the bench UART answer at once, and keep the pair; SPI discards the request (R555, R556). -/
def portBusy (q : Req) (s : State) : State :=
  if q.port = 0 ∨ q.port = 1 then (s.bump (Obj.spiBusy q.port)).setFlag .spiBusy true q.port
  else
    let r := respOf q .busy []
    let s := canAnswer q r (setPort q.port { portOf s q.port with resp := some r, kept := some (q, r) } s)
    if q.port = 4 then s.bump Obj.uartBusy else s

/-- Hold a transaction on its port, with what its row gives beside it. -/
def hold (q : Req) (aux : Aux) (s : State) : State :=
  setPort q.port { portOf s q.port with
    txn := some q, served := 0, gathered := [], copies := aux.copies, answer := aux.answer } s

/-- What a held transaction's row gave beside it. -/
def auxOf (s : State) (p : Nat) : Aux := { copies := (portOf s p).copies, answer := (portOf s p).answer }

/-- Answer where a status has been decided; hold the transaction where the response waits. -/
def finish (q : Req) (aux : Aux) (st : Option Status) (s : State) : State :=
  match st with
  | some st => respond q st [] s
  | none => hold q aux s

/-! ## Keyed commands (R508, R509) -/

/-- The tag check is job 3. Where no security job runs or waits it is run within the row that asks for it, and its job object shows it
done (R45, R46, R508; log entry 94). -/
def tagJob (s : State) : State :=
  let (n, s) := s.drawFree
  let n := n % 2 ^ 32
  let s := (s.setO (Obj.jobState 3) 3).setO (Obj.jobStarted 3) (s.o Obj.frameNumber)
  (s.setO (Obj.jobStepsDone 3) (n : Nat)).setO (Obj.jobStepsTotal 3) (n : Nat)

/-- Is a keyed command owner-only: it needs slot 0 (R430, R508)? -/
def ownerOnly (q : Req) : Bool :=
  decide (q.opcode = 6) || decide (0x4000 ≤ q.index ∧ q.index ≤ 0x40FF) ||
    decide (objKey q.index q.sub = Obj.otpProgCmd ∨ objKey q.index q.sub = Obj.rtcFsoClear)

/-- Step 1 of R508 for a WRITEK: the object is writable. -/
def writable (r : Row) : Bool := decide (r.access ≠ .ro)

/-- A keyed command whose counter is consumed: steps 7 and 8, its effect and its response (R508, R510). A CLAIM that has started takes effect with
its end, and its slot is retired there. A key.last that falls is a violation of its ledger (R540). -/
def keyedEffect (q : Req) (aux : Aux) (s : State) : State :=
  let fall : Int := (q.counter : Int) - s.o (Obj.keyLast q.slot)
  let s := consumeCounter q (if fall < 0 then violation 3 fall false s else s)
  let s :=
    if q.opcode = 6 then (if q.slot ≠ 0 then claimRefuse q .notOwner s else claimStart q aux.copies s)
    else if ownerOnly q && decide (q.slot ≠ 0) then respond q .notOwner [] s
    else
      match objRow s q.index q.sub with
      | some r => let (st, s) := writeObject q aux r s; finish q aux st s
      | none => respond q .noSub [] s
  if q.opcode = 6 ∧ s.varB .claimPort then s else retireIfSpent q s

/-- A keyed command is refused. -/
def keyedRefuse (q : Req) (st : Status) (s : State) : State :=
  if q.opcode = 6 then claimRefuse q st s else respond q st [] s

/-- Step 6 and what follows, for a command that no other of its slot waits before: it takes effect at once where its counter is
covered by H, else H is raised and it waits, before those that have come after it (R509). -/
def keyedGo (q : Req) (aux : Aux) (s : State) : State :=
  match counterCheck q s with
  | (.ok, s) =>
    if q.counter ≤ s.oN (Obj.keyHwm q.slot) then keyedEffect q aux s
    else { hwmRaise q (hold q aux s) with keyQ := (q.slot, q.port) :: s.keyQ }
  | (st, s) => keyedRefuse q st s

/-- A keyed command whose tag check has ended: behind another command of its slot it waits (R509). -/
def keyedChecked (q : Req) (aux : Aux) (s : State) : State :=
  match keyedCheck q s with
  | (.ok, s) =>
    if s.varB .hwmOn q.slot then { hold q aux s with keyQ := s.keyQ ++ [(q.slot, q.port)] }
    else keyedGo q aux s
  | (st, s) => keyedRefuse q st s

/-- A keyed command asks for its tag check: behind other security jobs it waits for it (R43, R45). -/
def keyedServe (q : Req) (aux : Aux) (s : State) : State :=
  if s.jobs.any (fun j => jobSecurity j.kind) then jobRequest 3 (.tagCheck q.port) (hold q aux s)
  else keyedChecked q aux (tagJob s)

/-- A tag check has ended: its command is served (R43). A failed job leaves it unchecked: it is answered as busy (DESIGN CHOICE, log
entry 94). -/
def tagEnd (p : Nat) (s : State) : State :=
  match (portOf s p).txn, s.varN .jobDone (JobFor.tagCheck p).slot with
  | some q, 1 => keyedChecked q (auxOf s p) (s.setVar .jobDone 0 (JobFor.tagCheck p).slot)
  | some q, 2 => keyedRefuse q .busy (s.setVar .jobDone 0 (JobFor.tagCheck p).slot)
  | _, _ => s

/-- The commands of a slot that wait behind one that has ended, in order, until one has to wait for its own commit. -/
def keyedDrain : Nat → Nat → Aux → State → State
  | 0, _, _, s => s
  | n + 1, slot, aux, s =>
    if s.varB .hwmOn slot then s
    else
      match s.keyQ.find? fun e => e.1 = slot with
      | some e =>
        let s : State := { s with keyQ := s.keyQ.erase e }
        match (portOf s e.2).txn with
        | some q => keyedDrain n slot aux (keyedGo q (auxOf s e.2) s)
        | none => keyedDrain n slot aux s
      | none => s

/-- The command of a slot that waits for the commit of H. -/
def hwmWaiter (slot : Nat) (s : State) : Option Req × State :=
  match s.keyQ.find? fun e => e.1 = slot with
  | some e => ((portOf s e.2).txn, { s with keyQ := s.keyQ.erase e }.setVar .hwmOn 0 slot)
  | none => (none, s.setVar .hwmOn 0 slot)

/-- HWM_COMMIT_DONE: the commit of a slot's H has completed; the waiting command takes effect (R509, R510). -/
def execHwmCommitDone (slot copies : Nat) (s : State) : Out :=
  if s.varB .hwmOn slot && decide (slot < 4) && hwmCommitted s slot && decide (s.now < s.varN .hwmAt slot + 1000) then
    let s := s.setO (Obj.keyHwm slot) (s.var .hwmVal slot)
    let aux : Aux := { copies := copies }
    let (q, s) := hwmWaiter slot s
    .next (lateEvents (fun s =>
      keyedDrain 5 slot aux (match q with | some q => keyedEffect q aux s | none => s)) s)
  else .next s

/-- HWM_COMMIT_TIMEOUT: the commit has not completed within 1,000 frames; the command is refused, and its counter does not take effect (R509,
R510). -/
def execHwmCommitTimeout (slot : Nat) (s : State) : Out :=
  if s.varB .hwmOn slot && decide (slot < 4) && decide (s.varN .hwmAt slot + 1000 ≤ s.now) then
    let (q, s) := hwmWaiter slot s
    let s := hwmUnwarn slot s
    let s := match q with | some q => keyedRefuse q .busy s | none => s
    .next (lateEvents (keyedDrain 5 slot {}) s)
  else .next s

/-! ## Serving (R550, R552, R553) -/

/-- Is a plain WRITE of rail[m].vset outside its margins (R119)? -/
def outsideMargins (q : Req) (r : Row) (s : State) : Bool :=
  decide (0x1100 ≤ q.index ∧ q.index < 0x110C) && decide (q.sub = keySub (Obj.railVset 0)) &&
    decide (q.data.length = r.ty.size) && !marginOk s (q.index - 0x1100) (decodeVal r.ty q.data)

/-- A READ or WRITE whose object exists: access, then the rest. -/
def serveSmall (q : Req) (aux : Aux) (r : Row) (s : State) : State :=
  if q.opcode = 1 then
    if !mayRead q r then respond q .denied [] s
    else
      let (st, d, s) := readBytes (objKey q.index q.sub) r 0 r.ty.size s
      respond q st d s
  else if r.access = .ro ∨ r.access = .rwk ∨ r.access = .wok ∨ outsideMargins q r s then respond q .denied [] s
  else
    let (st, s) := writeObject q aux r s
    finish q aux st s

/-- A transaction enters the dictionary queue, or returns to it: its reception, or a segment of it, has completed in this frame (R42,
R553). -/
def backToQueue (p : Nat) (s : State) : State := s.setVar .dqAt (s.now + 1 : Nat) p

/-- The next segment of the block transaction a port holds; the last one ends it (R549, R552, R553). -/
def serveSegment (p : Nat) (s : State) : State :=
  let ps := portOf s p
  match ps.txn with
  | some q =>
    match objRow s q.index q.sub with
    | none => respond q .noSub [] s
    | some r =>
      let k := objKey q.index q.sub
      let done := 32 * ps.served
      let n := min 32 (q.len - done)
      let last := decide (q.len ≤ done + 32)
      if q.opcode = 4 then
        let (st, d, s) := readBytes k r (q.offset + done) n s
        if st ≠ .ok then respond q st [] s
        else if last then respond q .ok (ps.gathered ++ d) s
        else backToQueue p (setPort p { ps with served := ps.served + 1, gathered := ps.gathered ++ d } s)
      else if !last then backToQueue p (setPort p { ps with served := ps.served + 1 } s)
      else if k = Obj.nvmScratch then
        let a := 0x75000 + q.offset
        if decide (s.waiters = []) && linesRoom s (linesOf a q.len) then
          respond q .ok [] (nvmWrite a q.data s)
        else respond q .busy [] s
      else if k = Obj.imgStage then
        if stageFree s q.offset q.len then respond q .ok [] (stageWrite q.offset q.data s) else respond q .busy [] s
      else
        let (st, s) := writeObject q {} r s
        finish q {} st s
  | none => s

/-- A block transaction whose object exists: access, then its first segment. -/
def serveBlock (q : Req) (r : Row) (s : State) : State :=
  if q.opcode = 4 then
    if !mayRead q r then respond q .denied [] s else serveSegment q.port (hold q {} s)
  else if r.access ≠ .rw then respond q .denied [] s
  else serveSegment q.port (hold q {} s)

/-- Serve a request in its dictionary slot. -/
def serve (q : Req) (aux : Aux) (s : State) : State :=
  match preCheck q s with
  | .ok =>
    if q.opcode = 8 then respond q .ok q.data s
    else if q.opcode = 6 then
      if claimKeyed q then keyedServe q aux s else claimStart q aux.copies s
    else
      match objRow s q.index q.sub with
      | some r =>
        if q.opcode = 3 then (if writable r then keyedServe q aux s else respond q .denied [] s)
        else if q.opcode = 4 ∨ q.opcode = 5 then serveBlock q r s
        else serveSmall q aux r s
      | none => respond q .noSub [] s
  | st => respond q st [] s

/-- The transaction that the dictionary queue serves next: the one received first, and of those received in one frame that of the first
port (R42). -/
def dictionaryHead (s : State) : Option Nat :=
  (List.range 5).foldl (fun h p =>
    if !s.varB .dqAt p then h
    else match h with
      | some g => if s.varN .dqAt p < s.varN .dqAt g then some p else h
      | none => some p) none

/-- One stage of a frame's slots, where it is the next (R38): 1 the marshal, shed and spare decisions of slots 13 to 30; 2 the ledgers and
housekeeping of slots 31 to 34; 3 the studbook and security slots 36 to 42. -/
def slotStage (n : Nat) (s : State) : State :=
  if s.varN .slotsDone + 1 ≠ n then s
  else if n = 1 then midSlots s
  else
    let t := if n = 2 then hkSlots (ledgerSlots s)
      else imgSlots (claimSlots (jobTick (bbSlotWork (traceFrame (expSlot (assemblySlot (offerRecords s)))))))
    t.setVar .slotsDone (n : Nat)

/-- The stages of a frame's slots up to one of them. -/
def slotsTo (n : Nat) (s : State) : State := s.forRange n fun i s => slotStage (i + 1) s

/-- What a frame has done by its next dictionary slot: D0 is slot 12, before the marshal; D1 is slot 26, after its evaluation; D2 is slot 35,
after the ledgers and housekeeping; D3 is slot 43, after the studbook and the security engine (R38, R239). -/
def beforeDictionary (s : State) : State :=
  if s.varN .dSlots ≤ s.varN .slotsDone then s
  else if s.varN .dSlots = 1 then evaluate s else slotsTo (s.varN .dSlots) s

/-- A dictionary slot serves the first segment of the queue; a fifth segment of a frame waits for the next (R42). -/
def dictionarySlot (s : State) : State :=
  match dictionaryHead s with
  | some p =>
    if s.varN .dSlots < 4 then
      let s := ((beforeDictionary s).setVar .dqAt 0 p).addVar .dSlots 1
      match (portOf s p).txn with
      | some q =>
        lateEvents (fun s =>
          if s.varB .jobDone (JobFor.tagCheck p).slot then tagEnd p s
          else if (portOf s p).served = 0 then serve q (auxOf s p) s else serveSegment p s) s
      | none => s
    else s
  | none => s

/-- The dictionary slots of a frame that no reception has used serve what waits, each in its place among the other slots (R38, R42, R43). -/
def dictionarySlots (s : State) : State := (s.forRange 4 fun _ s => dictionarySlot s).setVar .dSlots 0

/-- An ECHO is answered at the tick after its reception (R552). -/
def echoTick (s : State) : State :=
  s.forRange 5 fun p s => match (portOf s p).txn with
    | some q => if q.opcode = 8 then serve q {} s else s
    | none => s

/-- A tag check that has ended brings its command back to the dictionary queue: it is served in the first dictionary slot after (R43). -/
def tagReturn (p : Nat) (s : State) : State :=
  if s.varB .jobDone (JobFor.tagCheck p).slot && (portOf s p).txn.isSome then
    let s := backToQueue p s
    if dictionaryHead s = some p then dictionarySlot s else s
  else s

/-- JOB_COMPLETE: a job ends as done or failed, and the next waiting job of its kind starts (R45); a tag check's end returns its command
to the dictionary slots (R43). The commit's end is its close-out step, COMMIT_COMPLETE. -/
def execJobComplete (kind : Nat) (ok : Bool) (s : State) : Out :=
  if kind < 5 then .next ((jobEnd kind ok s).forRange 5 tagReturn) else .next s

/-- A request received on a port (R550 to R556, R560): ignored where its CAN frame is not for this device, replayed, refused as busy, or held. An ECHO waits for the tick; any other transaction
enters the dictionary queue, which serves it at once while it is the first and the frame has slots (R42, R552; log entry 95). -/
def request (q : Req) (aux : Aux) (s : State) : State :=
  if !portUsable s q.port then s
  else if !canTaken q s then canIgnore q s
  else
    let s := takeIn q.port s
    if isReplay q s then replay q s
    else if (portOf s q.port).txn.isSome then portBusy q s
    else
      let s := hold q aux s
      if q.opcode = 8 then s
      else
        let s := backToQueue q.port s
        if dictionaryHead s = some q.port then dictionarySlot s else s

/-- A plain WRITE of an object with a row of its own. -/
def plainWrite (c : Plain) (key : Nat) (s : State) : Out := .next (request (plainReq c key) {} s)

/-- A keyed WRITEK of an object with a row of its own. -/
def keyedWrite (c : Keyed) (key : Nat) (s : State) : Out := .next (request (keyedReq c key) {} s)

/-! ## The rows of the protocol -/

/-- READ (R547, R549). An opcode without a row of its own is answered here, with status 0x09 (R550). -/
def execRead (q : Req) (s : State) : Out :=
  .next (request (if (2 ≤ q.opcode ∧ q.opcode ≤ 6) ∨ q.opcode = 8 then { q with opcode := 1 } else q) {} s)
/-- WRITE of any object. -/
def execWrite (q : Req) (s : State) : Out := .next (request { q with opcode := 2 } {} s)
/-- WRITEK of any object; `copies` serves a release of ownership (R503). -/
def execWritek (q : Req) (copies : Nat) (s : State) : Out := .next (request { q with opcode := 3 } { copies := copies } s)
/-- BLOCKREAD. -/
def execBlockread (q : Req) (s : State) : Out := .next (request { q with opcode := 4 } {} s)
/-- BLOCKWRITE. -/
def execBlockwrite (q : Req) (s : State) : Out := .next (request { q with opcode := 5 } {} s)
/-- ECHO (R552). -/
def execEcho (q : Req) (s : State) : Out := .next (request { q with opcode := 8 } {} s)

/-- CLAIM with op 0x01, and with any op that has no row of its own (R497 to R499). -/
def execClaim (q : Req) (s : State) : Out :=
  if 2 ≤ q.sub ∧ q.sub ≤ 4 then .next s else .next (request { q with opcode := 6 } {} s)
/-- CLAIM with op 0x02; `copies` are the thermometer copies that verify. -/
def execReclaim (q : Req) (copies : Nat) (s : State) : Out :=
  if q.sub = 2 then .next (request { q with opcode := 6 } { copies := copies } s) else .next s
/-- CLAIM with op 0x03. -/
def execEnrolSlot (q : Req) (s : State) : Out :=
  if q.sub = 3 then .next (request { q with opcode := 6 } {} s) else .next s
/-- CLAIM with op 0x04; `copies` are the thermometer copies that verify. -/
def execTransfer (q : Req) (copies : Nat) (s : State) : Out :=
  if q.sub = 4 then .next (request { q with opcode := 6 } { copies := copies } s) else .next s

/-- SEGMENT_SERVE: a dictionary slot of this frame serves the next segment of the transaction that port p holds, where the queue has
it first (R42, R553). -/
def execSegmentServe (p : Nat) (s : State) : Out :=
  if s.mgtOn && decide (dictionaryHead s = some p) then .next (dictionarySlot s) else .next s

/-- PORT_BUSY: a request arrives on a port whose previous transaction has not been answered (R555). -/
def execPortBusy (q : Req) (s : State) : Out :=
  if portUsable s q.port && canTaken q s && (portOf s q.port).txn.isSome && !isReplay q s then .next (portBusy q (takeIn q.port s)) else .next s

/-- RETRY_REPLAY: a request equal to the last one answered (R556). -/
def execRetryReplay (q : Req) (s : State) : Out :=
  if portUsable s q.port && canTaken q s && isReplay q s then .next (replay q (takeIn q.port s)) else .next s

/-- FRAMING_FAILURE: a frame fails its check; causes 0 crc, 1 length, 2 gap or early end, 3 kind byte (R551, R557, R559,
R565). -/
def execFramingFailure (p cause : Nat) (s : State) : Out :=
  if s.mgtOn && decide (p < 5) && decide (cause ≤ 3) && (decide (p < 4) || s.bit Obj.portFlags 4) then
    let s :=
      if p = 2 ∨ p = 3 then s.bump (Obj.canErrors (p - 2))
      else if p = 4 then s.bump Obj.uartFrameErr
      else (setPort p { portOf s p with resp := none } (s.bump (Obj.spiFrameErr p))).setFlag .spiErr true p
    let s := s.addVar .failCnt 1 p
    let s := if s.varB .failCause p then s else s.setVar .failCause (cause + 1 : Nat) p
    let s := if s.varB .failSeen then s else (s.setFlag .failSeen true).post 122
    .next (s.recordPer 0x1003 0 s.nowRound (u8 p ++ u16 (s.var .failCnt p) ++ u8 (s.varN .failCause p - 1 : Nat)))
  else .next s

/-- SPI_FETCH: a fetch frame returns the port's status byte and the response that waits, which stays (R557, R558). It shows a
frame error of the previous request frame and changes nothing. -/
def execSpiFetch (_p : Nat) (s : State) : Out := .next s

/-- The port status byte that a fetch or request frame of an SPI port carries on MISO. -/
def spiStatus (s : State) (p : Nat) : Nat :=
  let b (v : Bool) (n : Nat) : Nat := if v then 2 ^ n else 0
  b (portOf s p).resp.isSome 0 + b ((portOf s p).txn.isSome || s.varB .spiBusy p) 1 + b (s.varB .spiErr p) 2 +
    b (s.varB .irqLow p) 3 + b (decide (s.mode = .boot)) 4

/-- MISO during the first byte of a frame of an SPI port: the status byte, and high impedance while VDDIO is absent (R595). -/
def misoPad (s : State) (p : Nat) : Option Nat := if s.mgtOn then some (spiStatus s p) else none

/-- CAN_FRAME_IGNORED: a frame with the marker is ignored for its format, kind or size (R560). -/
def execCanFrameIgnored (p : Nat) (s : State) : Out :=
  if decide (p < 2) && s.mgtOn && decide (s.oN (Obj.canState p) ≠ 0) && !canDetached s p then .next (s.bump (Obj.canIgnored p)) else .next s

/-- A NOTIFY message of CAN port p, for an interrupt source claimed in a frame (R563). -/
def notifyBytes (p src frame : Nat) : List Byte :=
  u8 0x87 ++ u8 0 ++ u16 0x3D02 ++ u8 (7 + p : Nat) ++ u8 0 ++ u16 4 ++ u8 src ++ leBytes 3 frame

/-- NOTIFY_SEND: the oldest queued NOTIFY of a CAN port is sent, to can[p].notify_dst; after the last of them the responses that wait are
(R563). -/
def execNotifySend (p : Nat) (s : State) : Out :=
  match s.notify.find? fun e => e.1 = p with
  | some e =>
    if decide (p < 2) && s.mgtOn && canClaims s p && !canDetached s p then
      let f := canFrame s p 1 (s.oN (Obj.canNotifyDst p)) (notifyBytes p e.2.1 e.2.2)
      let s := setPort (p + 2) { portOf s (p + 2) with sent := [f] } { s with notify := s.notify.erase e }
      .next (canFlush p ((s.bump (Obj.canTx p)).setO (Obj.canNotifyQ p) (notifyCount s p)))
    else .next s
  | none => .next s

/-- BUS_OFF: a CAN port reaches bus-off with its transmit error count (R562, R565). -/
def execBusOff (p tec : Nat) (s : State) : Out :=
  if decide (p < 2) && s.mgtOn && canClaims s p then
    let since := if s.varB .offAt p then s.now - (s.varN .offAt p - 1) else s.now
    let s := ((s.setO (Obj.canState p) 3).setO (Obj.canTec p) (min tec 255 : Nat)).bump (Obj.canBusoffs p)
    let s := ((s.setVar .offAt (s.now + 1 : Nat) p).setVar .offRound s.nowRound p).post 120
    .next (s.record 0x1001 (u8 (p + 2 : Nat) ++ u8 (min tec 255 : Nat) ++ u32 since))
  else .next s

/-- BUS_RECOVERY: the port resumes, error active; a response that came due in bus-off is sent (R562, R565). -/
def execBusRecovery (p : Nat) (s : State) : Out :=
  if decide (p < 2) && s.mgtOn && decide (s.oN (Obj.canState p) = 3) then
    let s := (((s.setO (Obj.canState p) 1).setO (Obj.canTec p) 0).setO (Obj.canRec p) 0).post 120
    let s := s.record 0x1002 (u8 (p + 2 : Nat) ++ u32 (s.nowRound - s.varN .offRound p : Nat))
    .next (canFlush p (setPort (p + 2) { portOf s (p + 2) with sent := [] } s))
  else .next s

/-- ERROR_PASSIVE_CHANGE: the port changes between error active and error passive, as its error counts say (R565). -/
def execErrorPassiveChange (p tec rec : Nat) (s : State) : Out :=
  let new : Nat := if 128 ≤ tec ∨ 128 ≤ rec then 2 else 1
  if decide (p < 2) && s.mgtOn && canClaims s p && decide (s.oN (Obj.canState p) ≠ new) then
    let s := (s.setO (Obj.canTec p) (min tec 255 : Nat)).setO (Obj.canRec p) (min rec 255 : Nat)
    .next ((s.setO (Obj.canState p) new).post 121)
  else .next s

/-- The held answer to a write of budget.grant. -/
def grantAnswer (q : Option Req) (st : Status) (s : State) : State :=
  match q with
  | some q => if objKey q.index q.sub = Obj.budgetGrant then respond q st [] s else s
  | none => s

/-- A reduction on a device that is no longer the holder ends: the write of budget.grant that it holds stays unanswered (R538). -/
def dropBudget (s : State) : State :=
  let v := portOf s (s.varN .grantPort)
  let s := (dropChanges s).setO Obj.budgetState 0
  if v.txn.any fun q => decide (objKey q.index q.sub = Obj.budgetGrant) then
    setPort (s.varN .grantPort) { v with txn := none, served := 0, gathered := [] } s
  else s

/-- A takeover before the response of a reduction, at the tick that follows it (R538). -/
def grantTick (s : State) : State := if s.oN Obj.budgetState = 1 ∧ holder s = false then dropBudget s else s

/-- GRANT_REDUCTION_DONE: the lower limits are in force, the transaction is applied and its slot committed; the response of the
grant write is sent (R537). A device that is no longer the holder leaves the write unanswered (R538). -/
def execGrantReductionDone (s : State) : Out :=
  if decide (s.oN Obj.budgetState = 1) then
    if !holder s then .next (dropBudget s)
    else if !budgetBusy s && decide (s.varN .wbStage 1 = 0) && !s.varB .wbAgain 1 then
      .next (grantAnswer (portOf s (s.varN .grantPort)).txn .ok (grantRecord (s.setO Obj.budgetState 0)))
    else .next s
  else .next s

/-! ## The rows of single objects -/

/-- SYS_MODE_REQ: a write of sys.mode_req (R30). -/
def execSysModeReq (c : Plain) (s : State) : Out := plainWrite c Obj.sysModeReq s
/-- SYS_SAFE_RELEASE (R25, R34). -/
def execSysSafeRelease (c : Keyed) (s : State) : Out := keyedWrite c Obj.sysSafeRelease s
/-- SYS_REBOOT (R25, R27). -/
def execSysReboot (c : Keyed) (s : State) : Out := keyedWrite c Obj.sysReboot s
/-- SYS_SHIP (R25, R34). -/
def execSysShip (c : Keyed) (s : State) : Out := keyedWrite c Obj.sysShip s
/-- POOL_RESTORE (R172). -/
def execPoolRestore (m : Nat) (c : Keyed) (s : State) : Out := keyedWrite c (Obj.poolRestore m) s
/-- WEAR_RESET (R184). -/
def execWearReset (n : Nat) (c : Keyed) (s : State) : Out := keyedWrite c (Obj.wearReset n) s
/-- SEQ_CMD_ON: seq.cmd 0x01 (R210). -/
def execSeqCmdOn (c : Plain) (s : State) : Out := plainWrite c Obj.sequencerCmd s
/-- SEQ_CMD_OFF: seq.cmd 0x02 (R210). -/
def execSeqCmdOff (c : Plain) (s : State) : Out := plainWrite c Obj.sequencerCmd s
/-- PADDOCK_OFF_CMD: pad[p].cmd 0x01 (R207). -/
def execPaddockOffCmd (p : Nat) (c : Keyed) (s : State) : Out := keyedWrite c (Obj.padCmd p) s
/-- PADDOCK_RELEASE_CMD: pad[p].cmd 0x02 (R208, R209). -/
def execPaddockReleaseCmd (p : Nat) (c : Keyed) (s : State) : Out := keyedWrite c (Obj.padCmd p) s
/-- ACKNOWLEDGE: src[s].unack (R239). -/
def execAcknowledge (src : Nat) (c : Plain) (s : State) : Out := plainWrite c (Obj.srcUnack src) s
/-- ACK_ALL: marshal.ack_all (R239). -/
def execAckAll (c : Plain) (s : State) : Out := plainWrite c Obj.marshalAckAll s
/-- REACTION_WRITE: a reaction word, class entry or counting object of a source (R231, R254). -/
def execReactionWrite (src sub : Nat) (c : Keyed) (s : State) : Out := keyedWrite c (objKey (0x2400 + src) sub) s
/-- TEAM_SWAP (R285). -/
def execTeamSwap (c : Keyed) (s : State) : Out := keyedWrite c Obj.teamSwap s
/-- TEAM_RELEASE (R287). -/
def execTeamRelease (c : Keyed) (s : State) : Out := keyedWrite c Obj.teamRelease s
/-- TEAM_ADMIT (R290). -/
def execTeamAdmit (c : Keyed) (s : State) : Out := keyedWrite c Obj.teamAdmit s
/-- HS_CMD_ON: hs.cmd 0x01 (R308). -/
def execHsCmdOn (c : Keyed) (s : State) : Out := keyedWrite c Obj.hsCmd s
/-- HS_CMD_OFF: hs.cmd 0x02 (R308). -/
def execHsCmdOff (c : Keyed) (s : State) : Out := keyedWrite c Obj.hsCmd s
/-- PWR_CMD_RESUME: pwr.cmd 0x01 (R350). -/
def execPwrCmdResume (c : Plain) (s : State) : Out := plainWrite c Obj.pwrCmd s
/-- PWR_CMD_SUSPEND: pwr.cmd 0x02 (R350). -/
def execPwrCmdSuspend (c : Plain) (s : State) : Out := plainWrite c Obj.pwrCmd s
/-- LG_DONE: pwr.lg_done (R337). -/
def execLgDone (c : Plain) (s : State) : Out := plainWrite c Obj.pwrLgDone s
/-- EST_CMD_REQUEST: est.cmd 0x01 (R375). -/
def execEstCmdRequest (c : Plain) (s : State) : Out := plainWrite c Obj.estCmd s
/-- EST_CMD_ABORT: est.cmd 0x02 (R375). -/
def execEstCmdAbort (c : Plain) (s : State) : Out := plainWrite c Obj.estCmd s
/-- SCALE_MASK_WRITE (R388). -/
def execScaleMaskWrite (c : Keyed) (s : State) : Out := keyedWrite c Obj.thScaleMask s
/-- PORT_CMD_PR_SWAP: port.cmd 0x01, with the partner's answer (R407). -/
def execPortCmdPrSwap (c : Plain) (a : SwapAnswer) (s : State) : Out :=
  .next (request (plainReq c Obj.portCmd) { answer := some a } s)
/-- PORT_CMD_DR_SWAP: port.cmd 0x02, with the partner's answer (R407). -/
def execPortCmdDrSwap (c : Plain) (a : SwapAnswer) (s : State) : Out :=
  .next (request (plainReq c Obj.portCmd) { answer := some a } s)
/-- PORT_CMD_CLEAR_LATCH: port.cmd 0x03 (R405). -/
def execPortCmdClearLatch (c : Plain) (s : State) : Out := plainWrite c Obj.portCmd s
/-- PORT_CMD_EXIT_BENCH: port.cmd 0x04 (R412). -/
def execPortCmdExitBench (c : Plain) (s : State) : Out := plainWrite c Obj.portCmd s
/-- BENCH_EN_WRITE (R410, R412). -/
def execBenchEnWrite (c : Keyed) (s : State) : Out := keyedWrite c Obj.portBenchEn s
/-- RTC_SET_HALT: rtc.set_time or rtc.set_cal while rtc.set_mode is HALT (R420, R421). -/
def execRtcSetHalt (calendar : Bool) (c : Plain) (s : State) : Out :=
  plainWrite c (if calendar then Obj.rtcSetCal else Obj.rtcSetTime) s
/-- RTC_SET_SHIFT: rtc.set_time or rtc.set_cal while rtc.set_mode is SHIFT (R420, R422). -/
def execRtcSetShift (calendar : Bool) (c : Plain) (s : State) : Out :=
  plainWrite c (if calendar then Obj.rtcSetCal else Obj.rtcSetTime) s
/-- RTC_SHIFT_WRITE (R423). -/
def execRtcShiftWrite (c : Plain) (s : State) : Out := plainWrite c Obj.rtcShift s
/-- RTC_CAL_WRITE (R425). -/
def execRtcCalWrite (c : Plain) (s : State) : Out := plainWrite c Obj.rtcCal s
/-- FSO_CLEAR (R430). -/
def execFsoClear (c : Keyed) (s : State) : Out := keyedWrite c Obj.rtcFsoClear s
/-- NVM_CMD_COMMIT (R437). -/
def execNvmCmdCommit (c : Plain) (s : State) : Out := plainWrite c Obj.nvmCmd s
/-- OTP_PROG_CMD (R449 to R451). -/
def execOtpProgCmd (c : Keyed) (s : State) : Out := keyedWrite c Obj.otpProgCmd s
/-- EXPORT_START: sb.exp_cmd 0x01 (R465). -/
def execExportStart (c : Plain) (s : State) : Out := plainWrite c Obj.sbExpCmd s
/-- EXPORT_END: sb.exp_cmd 0x02 (R465). -/
def execExportEnd (c : Plain) (s : State) : Out := plainWrite c Obj.sbExpCmd s
/-- BB_CMD_CAPTURE: sb.bb_cmd 0x01 (R467). -/
def execBbCmdCapture (c : Plain) (s : State) : Out := plainWrite c Obj.sbBbCmd s
/-- BB_CMD_RELEASE: sb.bb_cmd 0x02 (R467). -/
def execBbCmdRelease (c : Plain) (s : State) : Out := plainWrite c Obj.sbBbCmd s
/-- COLLIE_SERVE (R473, R474). -/
def execCollieServe (c : Plain) (s : State) : Out := plainWrite c Obj.collieServe s
/-- COLLIE_CHECKIN (R476, R477). -/
def execCollieCheckin (c : Plain) (s : State) : Out := plainWrite c Obj.collieCheckin s
/-- HOSTBUSY_SET: collie.hostbusy 0x01 (R478). -/
def execHostbusySet (c : Plain) (s : State) : Out := plainWrite c Obj.collieHostbusy s
/-- HOSTBUSY_CLEAR: collie.hostbusy 0x00 (R478). -/
def execHostbusyClear (c : Plain) (s : State) : Out := plainWrite c Obj.collieHostbusy s
/-- COLLIE_EN (R481). -/
def execCollieEn (c : Keyed) (s : State) : Out := keyedWrite c Obj.collieEn s
/-- CLAIM_READ: a READ of irq.claim_a or irq.claim_b (R484, R485). -/
def execClaimRead (b : Bool) (port tid : Nat) (s : State) : Out :=
  .next (request (readReq port tid (if b then Obj.irqClaimB else Obj.irqClaimA)) {} s)
/-- IRQ_CLEAR: a BLOCKWRITE of irq.clear (R487). -/
def execIrqClear (c : Plain) (s : State) : Out :=
  .next (request { plainReq c Obj.irqClear with opcode := 5 } {} s)
/-- KEY_REVOKE (R505). -/
def execKeyRevoke (c : Keyed) (s : State) : Out := keyedWrite c Obj.keyRevoke s
/-- KEY_RELEASE (R505); `copies` are the thermometer copies that verify (R503). -/
def execKeyRelease (c : Keyed) (copies : Nat) (s : State) : Out :=
  .next (request (keyedReq c Obj.keyRelease) { copies := copies } s)
/-- SNAP_START: key.snap_cmd 0x01 (R511). -/
def execSnapStart (c : Plain) (s : State) : Out := plainWrite c Obj.keySnapCmd s
/-- SNAP_END: key.snap_cmd 0x02 (R511). -/
def execSnapEnd (c : Plain) (s : State) : Out := plainWrite c Obj.keySnapCmd s
/-- IMG_OPEN: img.cmd 0x01 (R516). -/
def execImgOpen (c : Keyed) (s : State) : Out := keyedWrite c Obj.imgCmd s
/-- IMG_VALIDATE: img.cmd 0x02 (R516). -/
def execImgValidate (c : Keyed) (s : State) : Out := keyedWrite c Obj.imgCmd s
/-- IMG_CANCEL: img.cmd 0x03 (R518). -/
def execImgCancel (c : Keyed) (s : State) : Out := keyedWrite c Obj.imgCmd s
/-- IMG_STAGE_WRITE: a BLOCKWRITE of img.stage (R516). -/
def execImgStageWrite (q : Req) (s : State) : Out :=
  .next (request { q with opcode := 5, index := keyIndex Obj.imgStage, sub := keySub Obj.imgStage } {} s)
/-- IMG_ACTIVATE (R518). -/
def execImgActivate (c : Keyed) (s : State) : Out := keyedWrite c Obj.imgActivate s
/-- BUDGET_ALLOC_WRITE (R536). -/
def execBudgetAllocWrite (r : Nat) (c : Plain) (s : State) : Out := plainWrite c (Obj.budgetAlloc r) s
/-- BUDGET_GRANT_WRITE (R537). -/
def execBudgetGrantWrite (c : Keyed) (s : State) : Out := keyedWrite c Obj.budgetGrant s
/-- LB_START: lb.x.cmd 0x01 (R574). -/
def execLbStart (x : Nat) (c : Plain) (s : State) : Out := plainWrite c (Obj.lbCmd x) s
/-- LB_STOP: lb.x.cmd 0x02 (R576). -/
def execLbStop (x : Nat) (c : Plain) (s : State) : Out := plainWrite c (Obj.lbCmd x) s
/-- BSCAN_EN: test.bscan_en (R585). -/
def execBscanEn (c : Keyed) (s : State) : Out := keyedWrite c Obj.testBscanEn s

end Sys2Proof.Machine
end

