-- ==== Sys2Proof/Machine/Boot.lean ====
section
/-!
DEFINITION. What stops and what stays when MGT stops, and the two kinds of BOOT (spec/01_device_organisation.md R21 to R27,
R612, with the BOOT rules of the other chapters): the retained state, the sensing of OTP, the loading of rule ROM, patches and
bank, and the start of every block from them.
-/

namespace Sys2Proof.Machine

/-! ## What is retained -/

/-- Is the key of a hidden quantity of a kind between two others, in the order of their declaration? -/
def kindBetween (a b : VarKind) (key : Nat) : Bool := decide (a.ctorIdx ≤ key.unpair.1 ∧ key.unpair.1 ≤ b.ctorIdx)

/-- Quantities in BKP (R16, R59, R417 to R430, R440, R488, R612). -/
def bkpKinds : List VarKind :=
  [.bkpMode, .bkpCause, .bkpValid, .rtcSec, .rtcPre, .rtcCycle, .rtcHalt, .rtcHaltSec, .rtcShiftWait, .rtcShiftAsked,
   .rtcShiftDone, .rtcQuiet, .rtcFailed, .rtcFailTodo, .fsoTodo, .terrierRec, .commitMarker, .irqSavedPend,
   .irqSavedPrev, .irqSavedLast, .lossTime, .restA]

/-- Quantities in the NVM array, or powered with the wake latch (R182, R345). -/
def nvmKinds : List VarKind := [.porCount, .opSaved, .shelfLatch, .shelfWord, .wakeWhy, .ccPin, .ccTerm]

/-- Objects that a warm BOOT spares as every BOOT does: identity of the part and persisted counters. -/
def persistedObj (k : Nat) : Bool := decide (keyIndex k ≤ 1) || counterObj k

/-- The state as it is with MGT unpowered (R16, R27, R612): pins, OTP, the NVM array with the persisted counters of its last commit, what
BKP and the wake latch hold, and the attach of the dead-battery path are left, and nothing else of MGT or MAIN. -/
def unpowered (s : State) : State :=
  let bkp := s.varB .bkpValid
  let flags := s.oN Obj.portFlags
  let t : State := { State.reset with
    pending := s.pending, mram := s.mram, saved := s.saved, otp := s.otp, pins := s.pins, free := s.free, keptRecs := s.keptRecs
    vars := s.vars.filter fun e => kindIn nvmKinds e.1 || (bkp && kindIn bkpKinds e.1)
    objs := s.objs.filter fun e => decide (keyIndex e.1 ≤ 1) || (bkp && bkpObj e.1) }
  let t := countersBack s.saved t
  let t := ((t.setBit Obj.portFlags 1 (flags.testBit 1)).setBit Obj.portFlags 5 (flags.testBit 5)).setFlag .mgtLost true
  if bkp then t.setO Obj.estFlags (s.oN Obj.estFlags % 2 : Nat) else t

/-- BKP loses what it retains (R327, R426). -/
def bkpLost (s : State) : State :=
  let s := rtcLost (s.setVar .bkpValid 0)
  let s := (s.keepVars fun k => !kindIn bkpKinds k).keepObjs fun k => !bkpObj k
  rtcLost (s.setVar .rtcFailed 0)

/-- MGT stops (R612): the TIME48 of the loss is kept (R354). `feed` says that the pack goes on feeding BKP. -/
def mgtStops (feed : Bool) (s : State) : State :=
  let s := unpowered (s.setVar .lossTime (rtcCount s))
  if feed then s else bkpLost s

/-- A mode is written into BKP retention at every transition (R612). -/
def retainMode (m : Mode) (cause : Nat) (s : State) : State :=
  ((s.setVar .bkpMode (m.code + 1 : Nat)).setVar .bkpCause cause).setVar .bkpValid 1

/-- The record of a transition (R31). -/
def modeRecord (old new cause : Nat) (won : Bool) (s : State) : State :=
  s.record 0x0320 (u8 old ++ u8 new ++ u8 cause ++ u32 (s.o Obj.frameNumber) ++ u8 (State.ofBool won))

/-! ## OTP (R447, R448, R605) -/

/-- Words with single-error correction and double-error detection. -/
def otpChecked (w : Nat) : Bool := decide (w ≤ 34 ∨ (38 ≤ w ∧ w ≤ 45) ∨ (128 ≤ w ∧ w < 256))

/-- What the shadow of a word that does not decode holds is left open. -/
def otpDrawBad : List Nat → State → State
  | [], s => s
  | w :: t, s =>
    let (f, s) := s.drawFree
    otpDrawBad t (s.setShadow w (f % 2 ^ 64))

/-- Every shadow register takes its word. -/
def senseAll (s : State) : State := { s with shadow := s.otp }

/-- Record data of 0x0C06. -/
def otpSenseData (cls w : Nat) (s : State) : List Byte := u8 cls ++ u8 w ++ u16 (s.o Obj.otpCorrected) ++ u8 (s.var .patchSkip)

/-- The first of the words that do not decode without which BOOT enters SAFE: words 0 to 34, or both copies of the identity key (R447). -/
def essentialWord (double : List Nat) : Option Nat :=
  let a := double.find? fun w => decide (38 ≤ w ∧ w ≤ 41)
  let b := double.find? fun w => decide (42 ≤ w ∧ w ≤ 45)
  match double.find? (fun w => decide (w ≤ 34)) with
  | some w => some w
  | none => if a.isSome ∧ b.isSome then a else none

/-- OTP_SHADOW_LOAD: every word is sensed; `single` and `double` are the words sensed with one and with two wrong bits (R447). What has been
found is reported once the patches have been judged. -/
def otpSense (single double : List Nat) (s : State) : State :=
  let double := double.filter otpChecked
  let single := single.filter fun w => otpChecked w && !double.contains w
  let s := otpDrawBad double (senseAll s)
  let s := (s.setO Obj.otpCorrected single.length).setO Obj.otpLock (State.ofBool (prodLock s))
  if (essentialWord double).isSome then (s.setBit Obj.sysBootStatus 0 false).setFlag .bootHoldSafe true
  else s.setBit Obj.sysBootStatus 0 true

/-- The classes of source 223: words corrected, patch entries skipped for a word that does not decode, an essential word that does not
(R447, R453). -/
def otpReport (single double : List Nat) (s : State) : State :=
  let double := double.filter otpChecked
  let single := single.filter fun w => otpChecked w && !double.contains w
  let s := s.forEach single fun w s => s.raiseAction 223 0 (otpSenseData 0 w s)
  let s := s.forRange 64 fun e s =>
    match double.find? fun w => decide (w = 128 + 2 * e ∨ w = 129 + 2 * e) with
    | some w => s.raiseAction 223 1 (otpSenseData 1 w s)
    | none => s
  match essentialWord double with
  | some w => s.raiseAction 223 2 (otpSenseData 2 w s)
  | none => s

/-- The objects that OTP words give: the unique ID and the defaults of word 34 (R605). A default that a word gives stands in
place of the rule ROM's; a word 34 that is marked marginal gives none (R450). -/
def otpDefaults (s : State) : State :=
  let s := otpShow (s.setO Obj.idUid (shadowWord s 32))
  let w := if otpMarginal s 34 then 0 else shadowWord s 34
  let s := if w / 2 % 2 = 0 then s else s.setRom Obj.rtcSetMode (1 + 2 ^ 64)
  let s := if w % 2 = 0 then s else s.setRom Obj.clkRefSel (1 + 2 ^ 64)
  s.setO Obj.lopNodeOff (w / 4 % 128 : Nat)

/-- The node ID at MGT reset release; one that is not valid puts both CAN ports into listen-only operation (R561). -/
def nodeId (pins : Nat) (s : State) : State :=
  let p := pins % 32
  let o := s.oN Obj.lopNodeOff
  let s := s.setO Obj.lopNodePins p
  if 1 ≤ p + o ∧ p + o ≤ 127 then s.setO Obj.lopNodeId (p + o : Nat)
  else ((s.setO Obj.lopNodeId 0xFF).post 123).record 0x1000 (u8 p ++ u8 o ++ u16 (p + o : Nat))

/-- can[p].state after a BOOT or a change of can[p].en (R560, R561). -/
def canRestart (p : Nat) (s : State) : State :=
  s.setO (Obj.canState p) (if !s.oB (Obj.canEn p) then 0 else if s.oN Obj.lopNodeId = 0xFF then 4 else 1)

/-! ## What both kinds of BOOT load (R21, R22, R27) -/

/-- Rule ROM, patches, bank, and the blocks that every BOOT starts afresh. `bad` are the words that do not decode, `trng` the
verdict of the TRNG's health tests, `bkp` whether BKP has survived. The time from the reset release to the first frame tick is left open
within 400 µs. -/
def bootLoad (bad : List Nat) (trng : Nat) (bkp : Bool) (s : State) : State :=
  let s := condsBoot s
  let s := otpReport s.otpSingle s.otpDouble (otpDefaults (patchBoot bad s))
  let s := bankSelect (securityBoot trng s)
  let s := irqRestore bkp (collieBoot (sequencerBoot s))
  let s : State := { s.forRange 5 fun p s => resetPort p s with deferred := [], due := [] }
  let (f, s) := s.drawFree
  (((canRestart 1 (canRestart 0 s)).setVar .bootStart s.now).setVar .bootLead (f % 401 : Nat)).setVar .bootGoto 0 |>.setVar .bootWaited 0

/-- The mode becomes BOOT (R25, R27): its cause, and what preceded it. A terrier expiry whose record is still to be written is one of before
this BOOT (R59). -/
def bootMode (prev cause : Nat) (warm : Bool) (s : State) : State :=
  let s := ((s.setO Obj.sysMode Mode.boot.code).setO Obj.sysLastCause cause).setO Obj.sysModeSince s.timeNow
  let s := s.setFlag .terrierRec (s.varB .terrierRec)
  retainMode .boot cause ((s.setO Obj.sysPrevMode prev).setBit Obj.sysBootStatus 6 warm)

/-! ## The warm BOOT (R27, R400) -/

/-- Indices whose read-only objects describe what a BOOT starts afresh: phases and rails, the sequencer, the team, the hot-swap
controller, the collie. -/
def bootFresh (i : Nat) : Bool :=
  decide ((0x1000 ≤ i ∧ i < 0x1240) ∨ (0x1300 ≤ i ∧ i < 0x1400) ∨ (0x2000 ≤ i ∧ i < 0x2400) ∨ (0x2800 ≤ i ∧ i ≤ 0x2801) ∨
    (0x2C00 ≤ i ∧ i < 0x2C02) ∨ i = 0x3C00 ∨ (0x4800 ≤ i ∧ i ≤ 0x4820))

/-- Does an object stay through a warm BOOT: what the spec keeps, the service port, and every read-only object that describes
what goes on running, and the tokens of the budget ledger (R533)? Counters since BOOT begin again. -/
def warmKeeps (k : Nat) : Bool :=
  persistedObj k || bkpObj k || decide (0x3400 ≤ keyIndex k ∧ keyIndex k < 0x3500) ||
  decide (k = Obj.teamPosition ∨ k = Obj.budgetGrant ∨ keyIndex k = 0x4411) ||
  (!bootFresh (keyIndex k) && !decide (k = Obj.marshalQMax ∨ k = Obj.marshalIntakeMax ∨ k = Obj.thTDieMax ∨
      k = Obj.irqClaims ∨ k = Obj.teamRole) &&
    match dictRow (keyIndex k) (keySub k) with | some r => decide (r.access = .ro) | none => false)

/-- Is a hidden quantity begun afresh by a warm BOOT: those of phases, rails, sequencer, hot-swap controller and team, interrupt
senses, loop-backs and requests? -/
def warmFresh (k : Nat) : Bool :=
  (kindBetween .pulse .hsPinCnt k && !kindIn [.wearNext, .wearSoon, .wearPushed, .excArm, .excRef, .onRounds,
      .lastRounds, .lastOnSec, .hW] k) ||
  kindBetween .driveFrom .thLast k && !kindIn [.thLast] k || kindBetween .irqPend .collieBusyAt k &&
    !kindIn [.irqSavedPend, .irqSavedPrev, .irqSavedLast] k || kindBetween .lbTodo .lbFrom k ||
  kindIn [.exGoto, .modeReq, .autorunTodo, .romMin, .romMax, .benchVin, .setupTodo, .modePort, .cutDone, .lbPins, .lbGate, .allocNew, .grantNew,
    .grantRails, .grantTx, .entryTodo, .shelfReady, .r29] k

/-- WARM_BOOT (R27): OTP, rule ROM, patches and bank are loaded as at a counted BOOT; MGT goes on running, and every rail is
off. The fuses are sensed again, with the words that sensing has found wrong (log entry 87). A cause other than 0x11 disarms
sys.ship: R25 says that it stays armed for that cause alone (DESIGN CHOICE, log entry 88). A new clock reference is carried out as
a slew (R64). The estimator's record is taken into force again; a write-back that had not completed is asked for again (R371). No close is
applied (R529). A loop-back that runs is aborted (R576). -/
def warmBoot (cause : Nat) (won : Bool) (s : State) : State :=
  let s := lbBoot (exBootAbort s)
  let s := if collieSt s = CS.suspended then suspensionEnd 0 s else s
  let old := s.mode
  let armed := s.varB .shelfArmed
  let ref := s.oN Obj.clkRefSel
  let div := s.oN Obj.clkSyncDiv
  let s := setRole Role.out 0 s
  let s := s.forEach allRails fun r s => if railExists s r then killRail r RS.off s else s
  let s := ((s.keepObjs warmKeeps).keepVars fun k => !warmFresh k).keepHists (kindIn [.hW, .hTrip])
  let s := showBscan s
  let s : State := { s.clearLast with
    dq := [], dsent := [], journal := [], ledTx := [], ledRx := [], fwdIn := [], reflect := [], mirrorTx := [] }
  let s := ((s.setFlag .mainOn false).setFlag .shelfArmed (armed && decide (cause = 0x11))).setO Obj.estExState 0
  let s := modeRecord old.code Mode.boot.code cause won (bootMode old.code cause true s)
  let s := ((s.setVar .bootHoldSafe 0).setVar .bootWait 0).setBit Obj.sysBootStatus 5 false
  let s := ((s.setO Obj.budgetState 0).setBit Obj.ledgerStatus 1 false).setO Obj.ledgerInflight 0
  let s := otpSense s.otpSingle s.otpDouble s
  let s := listsAtBoot (bootLoad (s.otpDouble.filter otpChecked) (s.varN .trngIn) true s)
  let s := cresWarm s
  let s := if s.varB .wbStage 2 then wbAsk 2 (s.setVar .wbStage 0 2) else s
  let s := sbBoot (estRecordLoad (s.setFlag .claimLow true))
  if s.oN Obj.clkRefSel = ref ∧ s.oN Obj.clkSyncDiv = div then s else referenceChange ref (s.oN Obj.clkRefSel) s

/-! ## BOOT from MGT power-on reset (R27) -/

/-- The records kept for this BOOT, oldest first, then 0x070B after SHELF and this BOOT's own entry (R31, R345, R612). Records
kept in BKP retention are lost with it, and counted for subsystem 0x03. -/
def bootRecords (shelf bkp : Bool) (prev cause packP : Nat) (s : State) : State :=
  let kept := s.keptRecs
  let s : State := { s with keptRecs := [] }
  let s := if shelf || bkp then s.forEach kept fun e s => offerEntry e s
    else s.forEach kept fun _ s => s.bump (Obj.sbLostSub 3)
  let s := if shelf then s.record 0x070B (u8 (s.varN .wakeWhy - 1 : Nat) ++ u16 packP) else s
  modeRecord prev Mode.boot.code cause false s

/-- Record 0x0D40 of a terrier expiry, from the captures in BKP retention (R59). -/
def terrierReport (s : State) : State :=
  s.record 0x0D40 (u8 (s.o Obj.terrierStepSlot) ++ u16 (s.o Obj.terrierStepRow) ++ u16 (s.o Obj.terrierMissing) ++
    u8 (s.o Obj.terrierJob) ++ u16 (s.o Obj.terrierFrame))

/-- What BKP and NVM report at a BOOT: a terrier expiry not yet recorded, oscillator failures since the counter read `lo` seconds, an
interrupted commit (R59, R426, R441). -/
def bootReports (lo : Nat) (s : State) : State :=
  let s := if s.varB .terrierRec then terrierReport s else s
  let s := rtcFailReports (s.varN .rtcFailTodo) lo s
  if s.varB .commitMarker then
    (s.raiseAction 222 0 (u8 (s.varN .commitMarker - 1 : Nat))).setVar .commitMarker 0
  else s

/-- The stores in NVM at a BOOT from MGT power-on reset (R185, R371, R463, R527, R529, R532, R533, R539, R540). -/
def bootStores (bkp : Bool) (s : State) : State :=
  let s := estRecordLoad (healthBoot s)
  let corr := s.o Obj.estQCorr
  let s := sbBoot (budgetLoad (chargeLoad s))
  let s := sbRecount (closeApply s)
  let s := if s.bit Obj.ledgerStatus 1 then s.setO Obj.estQCorr corr else s
  let s := unpoweredEstimate bkp (bootEventCheck s)
  budgetCheck true (chargeCheck true s)

/-- A BOOT from MGT power-on reset: a counted BOOT that reads BKP retention and the wake cause, senses OTP, loads rule ROM,
patches and bank, and every store of NVM. `rtcEdges` are the 32.768 kHz edges since MGT stopped, or, where BKP had lost its power, since
BKP is powered again, as from the wake on (R417, R428). -/
def powerOnBoot (b : BootIn) (s : State) : State :=
  let shelf := s.varB .shelfLatch
  let had := s.varB .bkpMode && s.varB .bkpValid
  let bkp := s.varB .bkpValid
  let prev : Nat := if shelf then s.varN .shelfWord - 1 else if had then s.varN .bkpMode - 1 else 0xFF
  let cause : Nat := if shelf then 1 else if had ∧ prev = Mode.backup.code then 2 else 0
  let s := (unpowered s).setFlag .mgtLost false
  let s := if bkp then s else rtcLost s
  let lo := s.varN .rtcSec
  let s := rtcSnapshot (s.forRange b.rtcEdges fun _ => rtcEdge)
  let s := (s.setVar .porCount 1).setO Obj.sysOpSeconds (s.var .opSaved)
  let s := s.bumpSat Obj.sysPowerCycles 0x00FFFFFF
  let s := (s.setO Obj.dictIndices (if s.oN Obj.idPart = 2 then 483 else 585)).setO Obj.teamPosition (State.ofBool b.tpos)
  let s := (s.setPin .packP b.packP).setPin .vpp b.vpp |>.setPin .claim (State.ofBool b.claim)
  let s := ((s.setO Obj.mgtState 2).setVar .limKey 0).setFlag .claimLow (!b.claim)
  let s := s.setBit Obj.nvmCresFlags 0 true
  let s := portBoot (bootMode prev cause false s)
  let s : State := { s.setVar .trngIn b.trng with otpSingle := b.otpSingle, otpDouble := b.otpDouble }
  let s := otpSense b.otpSingle b.otpDouble s
  let s := bootRecords shelf bkp prev cause b.packP s
  let s := ((s.setVar .shelfLatch 0).setVar .shelfWord 0).setVar .wakeWhy 0
  let s := nodeId b.nodePins (bootLoad (b.otpDouble.filter otpChecked) b.trng bkp s)
  let s := bootReports lo (canRestart 1 (canRestart 0 s))
  rtcStampMgt (listsAtBoot (bootStores bkp s))

end Sys2Proof.Machine
end

