-- ==== Sys2Proof/Machine/Modes.lean ====
section
/-!
DEFINITION. Modes (spec/01_device_organisation.md, R23 to R33, with R326, R335, R345 and R612): the decided actions of a frame
as they take effect, the transitions of R25 in the order of R28, and the commands that enter and leave a mode.
-/

namespace Sys2Proof.Machine

/-! ## Decided actions (R233 to R236) -/

/-- Is there a twin in STANDBY to which a holder can yield (R235)? -/
def canYield (s : State) : Bool := holder s && teamed s && decide (s.oN Obj.teamTwinRole = Role.standby)

/-- The SAFE and yield decisions of a frame: source, class, level. -/
def bigDecisions (l : List Due) : List (Nat × Nat × Nat) :=
  (l.filterMap fun d => match d with
    | .safe a c v => some (a, c, v)
    | .yieldToken a c v => some (a, c, v)
    | _ => none).eraseDups

/-- Record 0x0407 of a decision: SAFE, yield or both; interrupt source 30 on SAFE (R253). -/
def decisionRecord (l : List Due) (d : Nat × Nat × Nat) (s : State) : State :=
  let safe := l.contains (.safe d.1 d.2.1 d.2.2)
  let yields := l.contains (.yieldToken d.1 d.2.1 d.2.2)
  let kind : Nat := if safe && yields then 2 else if yields then 1 else 0
  (if safe then s.post 30 else s).record 0x0407 (u8 d.1 ++ u8 d.2.1 ++ u8 d.2.2 ++ u8 kind ++ u32 (s.o Obj.frameNumber))

/-- Is a rail in a paddock that goes off in this frame? -/
def inPaddockOff (s : State) (l : List Due) (r : Nat) : Bool :=
  sequenced s r && l.any fun d => match d with
    | .paddockOff p _ _ _ => decide (paddockOf s r = p)
    | .paddockCmd p => decide (paddockOf s r = p)
    | _ => false

/-- The hiccups decided for a rail, one for each source: its lowest class, its retries and level (R606). -/
def hiccupsOf (l : List Due) (r : Nat) : List (Nat × Nat × Nat × Nat) :=
  let hs := l.filterMap fun d => match d with
    | .hiccup q c x n v => if q = r then some (x, c, n, v) else none
    | _ => none
  hs.filter fun h => hs.all fun g => decide (g.1 ≠ h.1 ∨ h.2.1 ≤ g.2.1)

/-- HICCUP_RETRY_DECISION for a rail (R236): taken, or replaced by rail off with dependants off where a source has spent its
retries. A rail that is off, failed or in its hiccup wait already stays so: only a start command or the wait's end leaves those states
(R142; DESIGN CHOICE, log entry 112). -/
def hiccupDecide (r : Nat) (hs : List (Nat × Nat × Nat × Nat)) (s : State) : State :=
  let st := railState s r
  if hs = [] then s
  else
    let spent := hs.filter fun h => decide (h.2.2.1 ≤ s.oN (Obj.srcHiccups h.1))
    match spent with
    | [] =>
      let s := s.forEach (hs.map (·.1)).eraseDups fun x s => (s.addO (Obj.srcHiccups x) 1).setFlag .series true x
      let h := hs.headD (0, 0, 0, 0)
      if RS.wait ≤ st ∧ st ≤ RS.softStop then (reactHiccup r h.2.1 s).setVar .hicNum (s.o (Obj.srcHiccups h.1)) r else s
    | h :: _ =>
      let s := s.forEach spent fun h s =>
        (s.post 31).record 0x0404 (u8 h.1 ++ u8 h.2.1 ++ u8 h.2.2.1 ++ u8 r ++ u8 h.2.2.2)
      blockDependants r h.2.1 (fun _ => true) (reactRailOff r h.1 s)

/-- The rail actions of a frame, merged for each rail: paddock off before rail off before hiccup, and dependants off in
addition to any of them (R234). -/
def railActions (l : List Due) (s : State) : State :=
  let covered := allRails.filter (inPaddockOff s l)
  let s := s.forEach l fun d s => match d with
    | .paddockOff p r c x => paddockOff p 2 c (some x) r s
    | .paddockCmd p => paddockOff p 4 0xFF none 0xFF s
    | _ => s
  let s := s.forEach allRails fun r s =>
    if covered.contains r then s
    else
      match l.find? (fun d => match d with | .railOff q _ _ => decide (q = r) | _ => false) with
      | some (.railOff _ _ x) => reactRailOff r x s
      | _ => hiccupDecide r (hiccupsOf l r) s
  let s := s.forEach l fun d s => match d with
    | .depOff r c => blockDependants r c (fun _ => true) s
    | _ => s
  dependantsNow s

/-- REACTION_APPLY: the actions decided in the last frame take effect at this tick (R233 to R237). A SAFE decision overrides the
rail actions; the rails are the holder's to act on. -/
def dueTick (s : State) : State :=
  let l := s.due
  let s : State := { s with due := [] }
  let s := s.forEach l fun d s => match d with | .irq i => s.post i | _ => s
  let s := s.forEach (bigDecisions l) fun d s => decisionRecord l d s
  let s := match l.find? (fun d => match d with | .yieldToken _ _ _ => true | _ => false) with
    | some (.yieldToken x _ _) => if canYield s then yieldNow (if x = 200 then 4 else 1) s else s
    | _ => s
  -- a SAFE decided with a yield waits while that is pending (R284)
  let yields := s.varB .yieldOn && l.any fun d => match d with | .yieldToken _ _ _ => true | _ => false
  match l.find? (fun d => match d with | .safe _ _ _ => true | _ => false) with
  | some (.safe x _ _) => (s.requestMode .safe (if x = 200 then 9 else 8)).setFlag .safeWait yields
  | _ => if holder s then railActions l s else s

/-! ## Entering a mode -/

/-- The end of BOOT: the marshal's fresh start, the team role, the presence window, the public key, and the numbering of frames (R50, R260,
R495, R497, R608). -/
def leaveBoot (s : State) : State :=
  let s := s.setO Obj.sysBootTime (min 65535 (s.now - s.varN .bootStart + s.varN .bootLead) : Nat)
  let s := presenceBoot (teamBootEnd (marshalBoot s))
  let s := if identityReady s then publicKeyAsk s else s
  ((s.setFlag .restartFrame true).setVar .bootWait 0).setVar .bootGoto 0

/-- MAIN is powered at the end of BOOT where it is valid (R25). -/
def bootMain (s : State) : State :=
  let main := vinValid s && decide (6900 ≤ s.pin .vinMain)
  (s.setFlag .mainOn main).setBit Obj.sysBootStatus 5 main

/-- What a BOOT does at the tick at which it ends by its own choice of a mode (R25, R32); a SAFE requested before its end powers nothing. -/
def bootEnd (m : Mode) (s : State) : State :=
  if s.mode ≠ .boot || !s.varB .bootGoto then s
  else if m = .setup then (leaveBoot (bootMain s)).setFlag .autorunTodo (s.oB Obj.sysAutorun)
  else if m = .bench then leaveBoot s
  else bootMain s

/-- A rail goes off at once at SAFE entry; one that was sequenced on is then discharged (R25, R197). -/
def safeOff (r : Nat) (s : State) : State :=
  let st := railState s r
  let on := sequenced s r && seqOn (seqSt s r)
  if !railExists s r || (!on && decide (st = RS.off ∨ st = RS.failed)) then s
  else
    let s := killRail r RS.off s
    if on then ((setSeq r SS.discharging (measure r 0 s)).setFlag .offGot true r).setVar .offTick s.now r else s

/-- The entry actions of SAFE on the nets the device drives: all rails off, PDIS_N of every paddock asserted; the hot-swap
gate follows the mode (R25, R207, R217). In BENCH, where MAIN is off, there are none. With yard.safe_abort false the device neither
holds YARD nor reports an abort; that its sequencer then returns to state 0 all the same is a DESIGN CHOICE (log entry 107). -/
def safeEntry (old : Mode) (s : State) : State :=
  if old = .bench ∨ holder s = false then s
  else
    let s := if s.oB Obj.yardSafeAbort then seqAbortEntry 2 false s else abortRails false (s.setVar .abortFrom 0)
    let s := s.forEach allRails safeOff
    s.forRange 8 fun p s => pdisAssert p 3 0xFF none s

/-- Leaving HOLDUP ends its timer and its flags. -/
def leaveHoldup (s : State) : State :=
  let s := ((s.stopT .lgT).setVar .cutHeld 0).setO Obj.pwrLgLeft 0
  (s.setBit Obj.pwrFlags 9 false).setBit Obj.pwrFlags 10 false

/-- HOLDUP to RUN: MAIN is powered again, which ends its loss, and the latched return starts a fresh power-up (R26, R336). -/
def runFromHoldup (s : State) : State :=
  let s := s.record 0x0703 (u32 (holdFrames s) ++ u8 2 ++ u16 (packMv s))
  let s := s.setFlag .mainOn (s.mainOn || decide (6900 ≤ s.pin .vinMain))
  let s := if s.mainOn then s.condOff 100 0 else s
  let s := seqEnterRun true s
  if holder s then onRequest 2 s else s

/-- MODE_TRANSITION: a mode is entered with its cause; `won` says that it won over another transition (R24, R25, R31). Every
request that waits lapses, an accepted sys.reboot that loses to SAFE in the same frame among them (DESIGN CHOICE, log entry 89). -/
def enterMode (m : Mode) (cause : Nat) (won : Bool) (s : State) : State :=
  let old := s.mode
  let s := s.setFlag .moved true
  if m = .boot then warmBoot cause won (bscanClear (teamEnterMode m s))
  else
    let s := modeRecord old.code m.code cause won (bscanClear s)
    let s := ((s.setO Obj.sysMode m.code).setO Obj.sysLastCause cause).setO Obj.sysModeSince s.timeNow
    let s := retainMode m cause s
    let s := s.forRange 8 fun i s => s.setVar .modeReq 0 i
    let s := (((s.setVar .setupTodo 0).setVar .cutDone 0).setVar .benchVin 0).setVar .safeWait 0
    let s := if m = .setup ∧ old = .boot then s else s.setVar .autorunTodo 0
    let s := if old = .holdup ∧ m ≠ .run then leaveHoldup s else s
    let s := teamEnterMode m (collieMode s)
    match m with
    | .safe =>
      let s := safeEntry old (if old = .boot then leaveBoot s else s)
      if s.bit Obj.sbBbEn 0 then bbTrigger 1 s else s
    | .run => if old = .holdup then leaveHoldup (runFromHoldup s) else seqEnterRun false s
    | .holdup => s.setFlag .entryTodo true Mode.holdup.code
    | .backup => (s.setFlag .entryTodo true Mode.backup.code).setVar .closeDue 1
    | .shelf => (s.setFlag .entryTodo true Mode.shelf.code).setVar .closeDue 2
    | _ => s

/-! ## The transitions of R25 -/

/-- A requested transition, with its cause. -/
def requested (s : State) (m : Mode) : Option Nat :=
  if s.varB .modeReq m.code then some (s.varN .modeReq m.code - 1) else none

/-- A candidate as a list. -/
def moveIf (c : Bool) (m : Mode) (cause : Option Nat) : List (Mode × Option Nat) := if c then [(m, cause)] else []

/-- A requested candidate as a list. -/
def moveReq (c : Bool) (s : State) (m : Mode) : List (Mode × Option Nat) :=
  match requested s m with | some x => moveIf c m (some x) | none => []

/-- Does MGT run on the pack alone? -/
def onPackAlone (s : State) : Bool := decide (s.oN Obj.pwrSrc = Src.pack) && !externalValid s

/-- BACKUP from SAFE: on the pack alone with no commit running, at the pack's cutoff, or under R29 once the studbook holds every
record (R25, R29, R326). -/
def backupDue (s : State) : Bool :=
  onPackAlone s && !commitRuns s && (s.varB .cutDone || (s.varB .r29 && s.queue.isEmpty && s.offers.isEmpty && s.intake.isEmpty && s.arrived.isEmpty))

/-- Has the yard reached state 0 with nothing left to do? -/
def yardDown (s : State) : Bool := decide (s.oN Obj.sequencerYardState = 0 ∧ s.oN Obj.sequencerState = 0)

/-- Is RUN possible: a valid bank, MAIN powered, a valid sequence table (R30, R33, R191)? -/
def runPossible (s : State) : Bool := s.varB .activeBank && s.mainOn && tableOk s

/-- Does SAFE wait for a yield that was decided with it (R284)? -/
def safeHeld (s : State) : Bool := s.varB .yieldOn && s.varB .safeWait

/-- Has the BOOT that has finished its steps chosen this mode (R25)? -/
def bootChose (s : State) (m : Mode) : Bool := decide (s.varN .bootGoto = m.code + 1)

/-- The transitions of R25 whose conditions hold, in the order of R28. A SAFE decided with a yield waits while that is pending (R284). The
cause of an entry into BACKUP from SAFE is the cause of SAFE, which is kept; none stands for a cause that R25 does not name. No
rule names the cause of SETUP to RUN by sys.autorun: the model gives 0x05, boot complete; and sys.autorun that finds no valid bank
at the end of BOOT stays latched in SETUP, so that a bank activated later lets RUN be entered (DESIGN CHOICE, log entry 90). -/
def moves (s : State) : List (Mode × Option Nat) :=
  let m := s.mode
  let live := decide (m = .boot ∨ m = .setup ∨ m = .run ∨ m = .holdup ∨ m = .bench)
  moveReq (live && !safeHeld s) s .safe ++
  moveIf (decide (m = .run ∧ s.oN Obj.mgtState = 2) && decide (s.oN Obj.pwrSrc = Src.pack ∨ s.oN Obj.pwrSrc = Src.vbus)) .holdup (some 7) ++
  moveIf (decide (m = .setup ∨ m = .bench) && s.varB .shelfArmed && !externalValid s) .shelf (some 0x0D) ++
  moveReq (decide (m = .holdup)) s .backup ++
  moveIf (decide (m = .bench) && !externalValid s && !commitRuns s) .backup (some 0x0C) ++
  moveIf (decide (m = .safe) && backupDue s) .backup (some (s.oN Obj.sysLastCause)) ++
  moveReq (decide (m = .setup ∨ m = .run ∨ m = .safe ∨ m = .bench ∨ m = .holdup ∨ m = .shelf)) s .boot ++
  moveIf (decide (m = .bench) && s.metCond .benchVin 20000) .boot none ++
  moveIf (decide (m = .holdup) && mainQualified s && !ponrPassed s && yardDown s) .run (some 0x0F) ++
  moveIf (decide (m = .run) && s.varB .setupTodo && yardDown s) .setup (some 6) ++
  moveReq (decide (m = .safe) && s.mainOn) s .setup ++
  moveIf (decide (m = .boot) && bootChose s .safe) .safe (some 8) ++
  moveIf (decide (m = .boot) && bootChose s .setup) .setup (some 5) ++
  moveIf (decide (m = .boot) && bootChose s .bench) .bench (some 0x0B) ++
  (if m = .setup ∧ runPossible s then
    (match requested s .run with
     | some x => [(.run, some x)]
     | none => moveIf (s.varB .autorunTodo) .run (some 5))
   else [])

/-- A commit that runs holds back a transition out of HOLDUP, BENCH or SETUP (R325). -/
def commitHolds (s : State) : Bool := commitRuns s && decide (s.mode = .holdup ∨ s.mode = .bench ∨ s.mode = .setup)

/-- Answer the writes of sys.mode_req that waited for this tick; a request that lost is rejected, and its value is not taken
(R28, R554). -/
def answerModeReq (ok : Bool) (s : State) : State :=
  let s : State := if ok then s else { s with deferred := s.deferred.filter fun d => d.key ≠ Obj.sysModeReq }
  s.forRange 5 fun p s =>
    if s.varB .modePort p then
      let s := s.setVar .modePort 0 p
      match (portOf s p).txn with
      | some q => if objKey q.index q.sub = Obj.sysModeReq then respond q (if ok then .ok else .stateForbids) [] s else s
      | none => s
    else s

/-- A request for SETUP in RUN starts the full power-down that the transition waits for (R25); a STANDBY takes that from the mirror (R271), and
a swap that runs holds it back (R285). -/
def beginSetup (s : State) : State :=
  if decide (s.mode = .run) && s.varB .modeReq Mode.setup.code && !s.varB .swapOn then
    let s := (s.setVar .modeReq 0 Mode.setup.code).setVar .setupTodo 1
    if holder s then offRequest 1 s else s
  else s

/-- The cause of a transition; one that no rule gives is left open. -/
def drawnCause (cause : Option Nat) (s : State) : Nat × State :=
  match cause with
  | some c => (c, s)
  | none => let (f, s) := s.drawFree; (f % 18, s)

/-- One evaluation of the mode transitions, at the tick: at most one is taken (R24, R28). A SAFE entry in a frame in which the main
input is lost, whether or not VPP has been handed over, is that of R29. -/
def modeTick (s : State) : State :=
  let s := if s.mode = .bench then s.countCond .benchVin (mainInputValid s) else s
  let s := if decide (s.mode = .run ∨ s.mode = .setup ∨ s.mode = .holdup ∨ s.mode = .bench ∨ s.mode = .boot) &&
      s.varB .modeReq Mode.safe.code && s.varN .modeReq Mode.safe.code = 10 && canYield s && !s.varB .safeWait then
    -- a terrier expiry in a holder yields first (R60)
    (yieldNow 4 s).setFlag .safeWait true
    else s
  let user := decide (s.mode = .setup ∧ s.varB .modeReq Mode.run.code) ||
    decide (s.mode = .run ∧ s.varB .modeReq Mode.setup.code)
  match moves s with
  | [] =>
    let waiting := safeHeld s
    let s := answerModeReq (!waiting && !decide (s.mode = .setup ∧ s.varB .modeReq Mode.run.code))
      (if waiting then s else beginSetup s)
    -- requests that the present mode does not take lapse
    let s := if s.mode = .setup then s.setVar .modeReq 0 Mode.run.code else s
    if s.mode = .safe then s.setVar .modeReq 0 Mode.safe.code else s
  | (m, cause) :: rest =>
    let own := decide ((m = .run ∧ s.mode = .setup) ∨ (m = .setup ∧ s.mode = .run))
    let ok := own || !user
    let s := answerModeReq ok s
    if commitHolds s then
      if ok then s else (s.setVar .modeReq 0 Mode.run.code).setVar .modeReq 0 Mode.setup.code
    else
      let s := s.setFlag .r29 (decide (m = .safe ∧ s.mode = .run ∧ s.oN Obj.mgtState = 2))
      let (c, s) := drawnCause cause s
      enterMode m c (decide (2 ≤ (((m, cause) :: rest).map (·.1)).eraseDups.length) || !ok) (bootEnd m s)

/-! ## BOOT -/

/-- MGT_POWER_ON_RESET: VPP has risen through the release threshold of 3.80 V ± 80 mV (R594, R611); after SHELF, once the wake
latch starts BOOT (R346). -/
def execMgtPowerOnReset (b : BootIn) (s : State) : Out :=
  if (!s.mgtOn || !s.varB .porCount) && decide (3720 < b.vpp) && (!s.varB .shelfLatch || s.varB .wakeWhy) then
    .next (powerOnBoot b s)
  else .next s

/-- Does a record of a code wait to be assembled? -/
def recordWaits (s : State) (code : Nat) : Bool :=
  s.queue.any (fun e => decide (e.code = code)) || s.offers.any fun o => decide (o.code = code)

/-- The records that a BOOT takes from BKP retention or the shelf retention word, and its own: transitions, the wake from SHELF, clock
failures, the switch-over stamp, an interrupted commit, restored interrupts (R31, R349, R429, R431, R441, R488). -/
def retainedCodes : List Nat := [0x0320, 0x070B, 0x0B02, 0x0B03, 0x0C05, 0x0D10]

/-- Do records from retention, and this BOOT's own, still wait to be written (R31, R457)? What is left of an earlier mode comes before
them. -/
def bootRecordsWait (s : State) : Bool := retainedCodes.any (recordWaits s)

/-- BOOT waits for a valid source (R611); the wait does not count toward its limit (R32). -/
def bootWaits (s : State) : State := if s.varB .bootWait then s else s.setVar .bootWait (s.now + 1 : Nat)

/-- The wait of R611 ends at the tick at which a source is valid that lets BOOT choose a mode. -/
def bootWaitTick (s : State) : State :=
  if s.varB .bootWait && (externalValid s || (s.varB .bootHoldSafe && srcValid s Src.pack)) then
    (s.addVar .bootWaited (s.now + 1 - s.varN .bootWait : Nat)).setVar .bootWait 0
  else s

/-- BOOT_COMPLETE: with a source valid the mode of R25 is chosen, which the next tick enters with MAIN powered where it is valid (R24, R40);
without one BOOT waits (R32, R33, R611). Record 0x0D40 of an earlier terrier expiry and what BKP retention kept have
been written before it; 0x0D40 is offered again where it was lost (R59, R457). With VBUS and the pack both valid BENCH is entered, and with the pack alone BOOT waits: no row
of R25 covers either (DESIGN CHOICE, log entry 102). -/
def execBootComplete (s : State) : Out :=
  if s.mgtOn && decide (s.mode = .boot) && s.varB .porCount then
    if s.varN .terrierRec = 1 then .next (if recordWaits s 0x0D40 then s else terrierReport s)
    else if bootRecordsWait s then .next s
    else if !externalValid s && !srcValid s Src.pack then .next (bootWaits s)
    else if s.varB .bootHoldSafe then .next (s.setVar .bootGoto (Mode.safe.code + 1 : Nat))
    else if vinValid s then .next (s.setVar .bootGoto (Mode.setup.code + 1 : Nat))
    else if vbusValid s then .next (s.setVar .bootGoto (Mode.bench.code + 1 : Nat))
    else .next (bootWaits s)
  else .next s

/-! ## MAIN and MGT -/

/-- MAIN_SUPPLY_LOSS: VIN_MAIN below 6.60 V (R594): MAIN's rails and drivers are gone until the next BOOT. A holder with a twin in STANDBY
yields at the next tick with cause 0x03, and mirrors the rails as they were until the twin has taken them (R17, R273). In HOLDUP it is the
expected course (R336). -/
def execMainSupplyLoss (v : Nat) (s : State) : Out :=
  if s.mgtOn && s.mainOn && decide (v < 6600) then
    let s := s.setFlag .mainOn false
    if s.mode = .holdup then .next (mainRailsOff s)
    else
      let s := s.raiseLater 100 0 (u8 s.mode.code ++ u8 (s.o Obj.hsState))
      .next (if canYield s then s.setVar .yieldDue 1 else mainRailsOff s)
  else .next s

/-- MAIN_VALID: MAIN becomes valid in SETUP after a BOOT that ended without it (R25). -/
def execMainValid (s : State) : Out :=
  if s.mgtOn && decide (s.mode = .setup) && !s.bit Obj.sysBootStatus 5 && decide (6900 ≤ s.pin .vinMain) &&
      !s.varB .modeReq Mode.boot.code then
    .next (s.requestMode .boot 0x10)
  else .next s

/-- The entries of the record queue, and the offers not yet queued, that are mode records (R31). -/
def modeRecords (s : State) : List QEntry :=
  (s.queue.filter fun e => decide (e.code = 0x0320)) ++
  ((s.offers.filter fun o => decide (o.code = 0x0320)).map fun o => entryNow s o.code none o.data)

/-- The mode records that a stop of MGT keeps: those of entries into SHELF, BACKUP and BOOT (R31). -/
def keepEntries (s : State) : State :=
  { s with keptRecs := s.keptRecs ++ (modeRecords s).filter fun e => decide ((e.data.getD 1 0).toNat ≤ 2) }

/-- MGT_LOSS: VPP has fallen through the reset threshold of 3.60 V ± 70 mV in any mode: no transition, and the mode in force is
the one retained (R612). The close of the VPP comparator, at 4.30 V, has preceded it, and a started commit completes while CRES
is at or above 2.7 V (R440, R441, R528). BKP goes on from a pack at or above 4.0 V (R327). -/
def execMgtLoss (v packP : Nat) (s : State) : Out :=
  if s.mgtOn && decide (v < 3670) then
    let s := if s.varB .closeDue then closeNow (s.varN .closeDue - 1) s
      else if (s.varB .closeOff || closedNow s) && !commitRuns s then s
      else closeNow 2 s
    .next (mgtStops (decide (4000 ≤ packP)) (keepEntries (s.setPin .packP packP)))
  else .next s

/-! ## HOLDUP, BACKUP and SHELF -/

/-- HOLDUP_ENTRY: the entry actions of R335 after the transition from RUN. -/
def execHoldupEntry (s : State) : Out :=
  if decide (s.mode = .holdup) && s.varB .entryTodo Mode.holdup.code then
    let s := s.setVar .entryTodo 0 Mode.holdup.code
    let s := ((s.setBit Obj.pwrFlags 9 false).setBit Obj.pwrFlags 10 false).setO Obj.pwrPonrCause 0
    let s := (s.setVar .holdAt s.now).bump Obj.pwrHoldups
    let s := seqAbortEntry 1 true (setChg (chgIdle s) s)
    let s := irqSave s
    let s := s.startT .lgT (s.oN Obj.pwrLgTime)
    let s := s.forRange 48 fun n s => s.setVar .wearSoon (s.nowRound + 1 : Nat) n
    let s := commitAsk (wbAsk 2 (wbAsk 1 (wbAsk 0 s)))
    let s := s.raiseAction 166 0 (u16 (packMv s) ++ u16 (s.o Obj.mgtVin) ++ u32 (s.o Obj.pwrLgTime))
    let s := if s.bit Obj.sbBbEn 1 then bbTrigger 2 s else s
    .next (if s.oN Obj.pwrLgTime = 0 then takePonr 1 s else s)
  else .next s

/-- BACKUP_ENTRY: PACK_GATE turns off, the close is written, interrupt state and time go into BKP, and MGT stops; mode records
not yet assembled are kept (R31, R326, R429, R488, R528). -/
def execBackupEntry (s : State) : Out :=
  if s.mgtOn && decide (s.mode = .backup) && s.varB .entryTodo Mode.backup.code && !commitRuns s then
    let s := irqSave (rtcStamp (s.setBit Obj.pwrFlags 3 false))
    let s := if s.varB .closeDue then closeNow (s.varN .closeDue - 1) s else s
    let s : State := { s with keptRecs := s.keptRecs ++ modeRecords s }
    .next ((mgtStops true s).setO Obj.sysMode Mode.backup.code)
  else .next s

/-- SHELF_ENTRY: once every started commit is complete, record 0x070A and the shelf retention word, with a commit and the estimator's
write-back asked for (R345, R370, R437). -/
def execShelfEntry (s : State) : Out :=
  if s.mgtOn && decide (s.mode = .shelf) && s.varB .entryTodo Mode.shelf.code && !commitRuns s then
    let s := s.setVar .entryTodo 0 Mode.shelf.code
    let s := s.record 0x070A (u16 (packMv s) ++ u32 (s.o Obj.sysOpSeconds))
    .next (commitAsk (wbAsk 2 ((s.setVar .shelfWord (Mode.shelf.code + 1 : Nat)).setFlag .shelfReady true)))
  else .next s

/-- Do the write-back and the commit that SHELF entry asked for go on? A commit that CRES refuses is not waited for: the latch is set within
the round, and the close then writes every buffered line (R345, R438, R528; DESIGN CHOICE, log entry 114). -/
def shelfWrites (s : State) : Bool := decide (420 ≤ s.oN Obj.nvmCres) && (s.varB .commitReq || !wbIdle s 2)

/-- SHELF_LATCH_SET: PACK_GATE and BKP's pack feed are off and the shelf latch is set; only the latch and the retention word
draw from the pack. Record 0x070A has been assembled before, and the close is written with the last buffered lines (R345, R428,
R528, R609). -/
def execShelfLatchSet (s : State) : Out :=
  if s.mgtOn && decide (s.mode = .shelf) && s.varB .shelfReady && !externalValid s && !commitRuns s &&
      !s.varB .modeReq Mode.boot.code && !recordWaits s 0x070A && !shelfWrites s then
    let s := if s.varB .closeDue || !s.buf.isEmpty then closeNow 1 s else s
    let s := (s.setBit Obj.pwrFlags 3 false).setVar .shelfLatch 1
    let s : State := { s with keptRecs := s.keptRecs ++ modeRecords s }
    .next ((mgtStops false s).setO Obj.sysMode Mode.shelf.code)
  else .next s

/-- SHELF_ABANDON: an external source becomes valid before the latch is set: a warm BOOT with cause 0x11 at the next tick; sys.ship stays
armed, and the close that the entry into SHELF has made due is written (R24, R25, R345, R528). -/
def execShelfAbandon (s : State) : Out :=
  if s.mgtOn && decide (s.mode = .shelf) && externalValid s then
    let s := if s.varB .closeDue then closeNow (s.varN .closeDue - 1) s else s
    .next ((s.setVar .shelfWord 0).requestMode .boot 0x11)
  else .next s

/-- SHELF_WAKE: SHIP_WAKE_N low for `low` ms, VIN_MGT or VBUS at `v` mV: the first event starts BOOT (R346). The 50 ms of the
pin are nominal. -/
def execShelfWake (why low v : Nat) (s : State) : Out :=
  let holds := decide (why = 0 ∧ 50 ≤ low) || decide (why = 1 ∧ 4500 < v) ||
    (decide (why = 2 ∧ 4000 < v) && decide (1 ≤ s.varN .ccTerm ∧ s.varN .ccTerm ≤ 3))
  if s.varB .shelfLatch && !s.varB .wakeWhy && holds then .next (s.setVar .wakeWhy (why + 1 : Nat)) else .next s

end Sys2Proof.Machine
end

