-- ==== Sys2Proof/Machine/Frame.lean ====
section
/-!
DEFINITION. The frame and the round (R38 to R50): FRAME_TICK ends the frame that runs, with the slots its work has, and begins
the next with the samples of the tick; ROUND_BOUNDARY does the work that each round starts with.
-/

namespace Sys2Proof.Machine
open State

/-! ## The slots of a frame -/

/-- One more frame in which a slot class carried work (R44). -/
def carryIf (c : Nat) (b : Bool) (s : State) : State := if b then s.bump (Obj.frameCarry c) else s

/-- Has a running job steps left that this frame's slots did not complete? R44 speaks of rows or entries; that the steps of a job count as
such in every frame they remain is the model's choice (DESIGN CHOICE, log entry 103). -/
def stepsLeft (s : State) (j : Option Job) : Bool :=
  match j with
  | some j => decide (s.o (Obj.jobStepsDone j.kind) < s.o (Obj.jobStepsTotal j.kind))
  | none => false

/-- The work that did not fit dictionary access, the studbook queue, the security engine or mirror assembly (R44). The other classes
have slots for every row and entry there can be. -/
def slotCarry (s : State) : State :=
  let s := carryIf 8 (!s.queue.isEmpty || stepsLeft s (jobRunning s 5)) (carryIf 7 (dictionaryHead s).isSome s)
  carryIf 10 (decide (s.dq ≠ [])) (carryIf 9 (stepsLeft s (runningSecurity s)) s)

/-- The slots of the frame that ends and have not run, in their order (R38): the dictionary slots that are left, each with the slots before
it, the other slots, mirror assembly, interrupts, whose first slot 48 comes after BOOT (R488). The marshal takes what has come in since its slots before the rest (DESIGN CHOICE, log entry 7). -/
def closeFrame (s : State) : State :=
  let s := dictionarySlots s
  let s := slotsTo 3 (if s.varB .slotsDone then evaluate s else s)
  let s := slotCarry (mirrorAssembly s)
  (if s.mode = .boot then s else irqSlot s).setVar .slotsDone 0

/-! ## The tick -/

/-- The frame and round counters at a tick (R50): the first tick after BOOT starts both afresh, with SYNC_OUT's divider (R56) and the
period grids (R110, R147). Where frame.number wraps, the round starts at number 0, although 2^32 is no multiple of 1,000: the round
before it has 296 frames (DESIGN CHOICE, log entry 91). -/
def countFrame (s : State) : State :=
  let s := s.addVar .now 1
  let s := (s.setVar .roundDone 0).setVar .moved 0
  let s := if s.now % 1000000 = 0 then s.bump Obj.sysOpSeconds else s
  if s.varB .restartFrame then
    let s := ((s.setO Obj.frameNumber 0).setO Obj.frameRound 0).addVar .nowRound 1
    (syncOutRestart (gridsStart s)).setVar .restartFrame 0
  else
    let n : Nat := (s.oN Obj.frameNumber + 1) % 2 ^ 32
    let s := s.setO Obj.frameNumber (n : Nat)
    if n % 1000 = 0 then
      (s.setO Obj.frameRound ((s.oN Obj.frameRound + 1) % 2 ^ 32 : Nat)).addVar .nowRound 1
    else s

/-- The samples of the tick (R39). -/
def takeSamples (l : List Sample) (s : State) : State := s.forEach l fun x s => s.setPin x.sig x.value x.line

/-- Set lines 0 to n − 1 of an input to one value. -/
def holdPins (g : Sig) (n : Nat) (v : Int) (s : State) : State := s.forRange n fun i s => s.setPin g v i

/-- What the isolation cells hold of MAIN's signals while MAIN has no power (R16): data zero, power-good inputs off, fault lines asserted.
AB6 and AB7 belong to MGT (R18). -/
def isolateMain (s : State) : State :=
  if s.mainOn then s
  else
    let s := holdPins .imon 48 0 (holdPins .railN 12 0 (holdPins .railFs 12 0 (holdPins .railV 18 0 s)))
    let s := holdPins .abVin 6 0 (holdPins .abHs 6 0 (holdPins .railI 6 0 (holdPins .vins 4 0 s)))
    let s := holdPins .senMr 12 0 <| holdPins .sflt 12 1 (holdPins .scPgIn 32 0 (holdPins .scRaw 32 0 s))
    let s := holdPins .hsShunt 1 0 (holdPins .hsSrc 1 0 (holdPins .hsVin 1 0 s))
    holdPins .hsGate 1 0 (holdPins .hsIsn 1 0 s)

/-- The raw lines posted in the frame that ended, and at this tick, are driven for this frame; what a BOOT has posted, for the first frame after
it (R488, R610). -/
def driveLines (s : State) : State := if s.mode = .boot then s else { s with lines := s.posts, posts := [] }

/-- The rails and phases at a tick: what the last frame decided enters first (R174), then samples, comparisons and detectors. -/
def railsTick (s : State) : State :=
  let s := s.forRange 48 fun n s => phaseTick n s
  let s := s.forRange 12 fun m s => railTick m (deratedTick m (railMeans m s))
  let s := s.forRange 8 fun b s => buckTick b s
  let s := s.forRange 32 fun c s => scTick c s
  let s := s.forRange 20 fun r s => shtTick r (openWindow r s)
  s.forRange 12 fun m s =>
    let s := s.forEach (railPhases s m) fun n s => plausTick m n s
    detectTick m (stageTick m s)

/-- The other blocks at a tick. -/
def blocksTick (s : State) : State :=
  let s := clockTick (nvmTick (mgtTick (hsTick s)))
  let s := sequencerTick (teamTick s)
  let s := bootWaitTick (powerTick (estTick (portTick s)))
  let s := showPresence (snapTick (budgetTick s))
  let s := if s.mode = .boot ∧ ¬ s.pinB .claim then s.setFlag .claimLow true else s
  let s := if 4400 < s.pin .vpp then s.setVar .closeOff 0 else s
  lbTick s

/-- FRAME_TICK: the frame that runs ends with its slots' work, and the next begins: samples, decided transitions and reactions,
deferred writes, counters (R12, R24, R38, R39, R50, R233). A transaction that waits has slot 12 (R42). With MGT unpowered there are no frames. -/
def execFrameTick (samples : List Sample) (s : State) : Out :=
  if s.mgtOn then
    let s := countFrame (closeFrame s)
    let s := rtcTick (isolateMain (takeSamples samples s))
    let s := echoTick (takeArrived s)
    let s := budgetLimits s
    let s := applyDeferred .nextFrame (modeTick (dueTick (sequencerEffects s)))
    let s := blocksTick (railsTick (thermalTick s))
    .next (dictionarySlot (imgTick (driveLines (quietTick (clearTick (faultNTick (grantTick s)))))))
  else .next s

/-! ## The round boundary -/

/-- A CAN port whose can[p].en has changed starts or stops, which resets it (R554, R560). -/
def canRound (p : Nat) (s : State) : State :=
  if s.oB (Obj.canEn p) = decide (s.oN (Obj.canState p) ≠ 0) then s else canRestart p (resetPort (p + 2) s)

/-- The counts of framing failures start afresh (R563). -/
def portsRound (s : State) : State :=
  (s.forRange 5 fun p s => (s.setVar .failCnt 0 p).setVar .failCause 0 p).setVar .failSeen 0

/-- The phases and rails at a round boundary. -/
def railsRound (s : State) : State :=
  let s := s.forRange 12 fun m s => railRound m s
  let s := s.forRange 8 fun b s => buckRound b s
  let s := s.forRange 32 fun c s => scRound c s
  let s := s.forRange 48 fun n s => wearRound n (phaseRound n s)
  s.forRange 12 fun m s => balanceRound m s

/-- The other blocks at a round boundary. -/
def blocksRound (s : State) : State :=
  let s := otpRound (nvmRound (clockRound (hsRound s)))
  let s := powerRound (chargeCheck false (estRound (thermalRound s)))
  portsRound (teamRound (sequencerRound s))

/-- ROUND_BOUNDARY: the work of the first frame of a round, once in it (R12, R50). -/
def execRoundBoundary (s : State) : Out :=
  if s.mgtOn && decide (s.mode ≠ .boot) && decide (s.oN Obj.frameNumber % 1000 = 0) && !s.varB .roundDone then
    let s := applyDeferred .nextRound (s.setFlag .roundDone true)
    let s := canRound 1 (canRound 0 s)
    .next (blocksRound (railsRound s))
  else .next s

end Sys2Proof.Machine
end

