-- ==== Sys2Proof/Machine/Switch.lean ====
section
/-!
DEFINITION. The switching events of phases, rails and bucks (spec/03_phase_control.md, spec/04_rail_regulation.md). Each names its
instant, in steps of 78.125 ps after the tick that began the frame.
-/

namespace Sys2Proof.Machine

/-! ## Phases -/

/-- PHASE_TURN_ON: a phase turns on at its interleave instant, or when its off-time is complete (R66 to R68, R71, R110). During an
overshoot or overvoltage hold the instant begins a period without a pulse (R90, R140), as every period of a shed phase does. On a device
that does not drive, the first phase's edge, its offset after the period origin, aligns the grid (R111). -/
def execPhaseTurnOn (n at_ : Nat) (valley centre : Int) (s : State) : Out :=
  let s := slotsBy at_ s
  let t := instant s at_
  let m := s.oN (Obj.phaseRail n)
  let st := s.oN (Obj.phaseState n)
  if phaseExists s n && decide (at_ < stepsPerFrame) && decide (m < 12) && railOn s m &&
      decide (st = PS.switching ∨ st = PS.shed) && !s.varB .pulse n && offDone s n t &&
      (alignsGrid s n m || isInterleave s n m t || isDelayed s n m t || isFired s n m || shedPeriod s n m t) then
    let s := if alignsGrid s n m then s.setVar .grid (t - (offsetAt s n t - 1) : Nat) m else s
    if s.varB .ovsHold m || s.varB .ovpHold m ||
        !(alignsGrid s n m || isInterleave s n m t || isDelayed s n m t || isFired s n m) then .next (closeCycle n m valley centre s)
    else .next (turnOn n m t valley centre s)
  else .next s

/-- BLANKING_END: the peak and limit comparators are heeded again (R74). -/
def execBlankingEnd (n at_ : Nat) (s : State) : Out :=
  let s := slotsBy at_ s
  if phaseExists s n && s.varB .pulse n && s.varB .blanked n &&
      decide (s.varN .lastOn n + s.oN (Obj.phaseBlank n) * stepsPerCycle ≤ instant s at_) then
    .next (s.setFlag .blanked false n)
  else .next s

/-- PEAK_COMPARATOR_TRIP: the sensed voltage reaches the reference minus the ramp (R73, R78). -/
def execPeakComparatorTrip (n at_ : Nat) (imon : Int) (s : State) : Out :=
  let s := slotsBy at_ s
  let t := instant s at_
  if phaseExists s n && s.varB .pulse n && !s.varB .blanked n && decide (s.varN .lastOn n ≤ t) &&
      decide (peakThreshold s n (t - s.varN .lastOn n) ≤ imon) then
    .next (tripPulse n t s)
  else .next s

/-- MIN_ON_TIME_END: a pulse whose comparator tripped earlier ends (R75). -/
def execMinOnTimeEnd (n at_ : Nat) (s : State) : Out :=
  let s := slotsBy at_ s
  let t := instant s at_
  if phaseExists s n && s.varB .pulse n && s.varB .tripped n && decide (s.varN .lastOn n + minOn s n ≤ t) then
    .next (endPulse n t s)
  else .next s

/-- FORCED_TURN_OFF: a pulse still on at P − toff_min ends, and the max_duty flag is set (R76). -/
def execForcedTurnOff (n at_ : Nat) (s : State) : Out :=
  let s := slotsBy at_ s
  let t := instant s at_
  let m := s.oN (Obj.phaseRail n)
  if phaseExists s n && s.varB .pulse n && decide (m < 12) &&
      decide (s.varN .lastOn n + periodSteps s m ≤ t + minOff s n) then
    .next ((endPulse n t s).setBit (Obj.phaseFlags n) 3 true)
  else .next s

/-- POSITIVE_CURRENT_LIMIT: the current reaches ilim_eff and the pulse ends (R85); the 64th consecutive such cycle
raises class 0x00 (R87). -/
def execPositiveCurrentLimit (n at_ : Nat) (imon : Int) (s : State) : Out :=
  let s := slotsBy at_ s
  let t := instant s at_
  if phaseExists s n && s.varB .pulse n && !s.varB .blanked n && !s.varB .limHit n && decide (s.varN .lastOn n ≤ t) &&
      decide ((s.var .ilimCode n - 128) * 1000 ≤ imon) then
    let s := tripPulse n t s
    let s := ((s.setFlag .limHit true n).setFlag .cycBad true n).setFlag .ilimSeen true n
    let s := (s.addVar .ilimCnt 1 n).bumpSat (Obj.phaseIlimCycles n)
    if 64 ≤ s.varN .ilimCnt n then
      .next (s.raiseLater n 0 (u8 n ++ u16 (dA (s.o (Obj.phaseIlimEff n))) ++ u32 (s.var .ilimCnt n) ++
        u8 (s.o (Obj.phaseRail n))))
    else .next s
  else .next s

/-- NEGATIVE_CURRENT_LIMIT: PWMn goes to high impedance for the rest of the period (R86); the 64th consecutive such
cycle raises class 0x01 (R87). -/
def execNegativeCurrentLimit (n at_ : Nat) (imon : Int) (s : State) : Out :=
  let s := slotsBy at_ s
  if phaseExists s n && decide (at_ < stepsPerFrame) && lowSideOn s n &&
      decide (imon ≤ (s.var .inegCode n - 128) * 1000) then
    let s := ((s.setFlag .negHit true n).setFlag .cycBad true n).setFlag .inegSeen true n
    let s := (s.addVar .inegCnt 1 n).bumpSat (Obj.phaseInegCycles n)
    if 64 ≤ s.varN .inegCnt n then
      .next (s.raiseLater n 1 (u8 n ++ u16 (dA (s.o (Obj.phaseIneg n))) ++ u32 (s.var .inegCnt n) ++
        u8 (s.o (Obj.phaseRail n))))
    else .next s
  else .next s

/-- ZERO_CROSSING: the detector ends low-side conduction after its blanking (R88, R89), and the cycle's mean is that of a discontinuous
cycle (R72). The overvoltage fast path leaves only the negative limit (R140). -/
def execZeroCrossing (n at_ : Nat) (imon : Int) (s : State) : Out :=
  let s := slotsBy at_ s
  let t := instant s at_
  let off := s.varN .lastOff n - 1
  if phaseExists s n && decide (at_ < stepsPerFrame) && lowSideOn s n && deInForce s n &&
      !s.varB .ovpHold (s.oN (Obj.phaseRail n)) &&
      decide (off + s.oN (Obj.phaseBlank n) * stepsPerCycle ≤ t) &&
      decide (imon ≤ s.o (Obj.phaseZcdOffset n) * 1000) then
    let ipk := phaseCurrent s n (refUv s n)
    let p : Int := periodSteps s (s.oN (Obj.phaseRail n))
    let mean := divNearest (ipk * (s.var .tonLast n + (t - off : Nat))) (2 * p)
    let s := ((s.setFlag .zHold true n).setFlag .cycBad true n).setFlag .deSeen true n
    .next (if s.varB .cycOpen n then (s.setFlag .deHit true n).setVar .cycMean mean n else s)
  else .next s

/-! ## Rails -/

/-- OVERSHOOT_TRIP: pulses are truncated and turn-ons are held (R90, R139). -/
def execOvershootTrip (m at_ v : Nat) (s : State) : Out :=
  let s := slotsBy at_ s
  if decide (m < 12) && railExists s m && railOn s m && !s.varB .ovsHold m &&
      decide (railTarget s m + s.o (Obj.railOvsThr m) < v) then
    .next ((truncate m (instant s at_) s).setFlag .ovsHold true m)
  else .next s

/-- UNDERSHOOT_FIRING: every present phase turns on, or waits for its off-time (R91), and shedding is aborted (R134). A hold puts the firing
off while it lasts; a phase that the negative limit holds at high impedance stays so for the rest of its period (R93). Each phase fires
once, and its interleave instants act while the undershoot lasts (DESIGN CHOICE, log entry 104). -/
def execUndershootFiring (m at_ : Nat) (f : FiringIn) (s : State) : Out :=
  let s := slotsBy at_ s
  let t := instant s at_
  if decide (m < 12) && railExists s m && railOn s m && !s.varB .uvsFire m &&
      decide ((f.v : Int) < railTarget s m - s.o (Obj.railUvsThr m)) then
    let s := s.setFlag .uvsFire true m
    let blocked := s.varB .ovsHold m || s.varB .ovpHold m
    let s := s.forEach (present s m).zipIdx fun p s =>
      let n := p.1
      let x := f.samples.getD p.2 (0, 0)
      let s := s.setFlag .uvsSeen true n
      if s.varB .pulse n then s
      else if blocked then s.setVar .uvsPend 2 n
      else if s.varB .negHit n then s
      else if offDone s n t then turnOn n m t x.1 x.2 s
      else s.setFlag .uvsPend true n
    .next (shedAbort m t f.v s)
  else .next s

/-- OV_FAST_PATH_TRIP: the unfiltered comparator at the OV fault threshold acts (R92, R140, R152). A buck's low-side switch turns on until
its current reaches −1.0 A, and not again before the next pulse (DESIGN CHOICE, log entry 104). The byte of record 0x0204 for the phases
switching is 0 for a buck (DESIGN CHOICE, log entry 92). The event of the trip comes with the end of its hold (log entry 30). -/
def execOvFastPathTrip (r at_ : Nat) (x : OvTripIn) (s : State) : Out :=
  let s := slotsBy at_ s
  if decide (r < 20) && railExists s r && judged (railState s r) && !s.varB .ovpHold r &&
      decide (winThreshold s r 0 ≤ x.v) then
    let n : Nat := if r < 12 then (switching s r).length else 0
    let s := if r < 12 then truncate r (instant s at_) s else buckTruncate (r - 12) (instant s at_) (lowTime (-1000) x.ma x.fall) s
    let s := s.setFlag .ovpHold true r
    let s := s.setBit (ovpFlagKey r) 2 true
    let s := ((s.setVar .ovpPeak x.v r).setVar .ovpThr (winThreshold s r 0) r).setVar .ovpAt s.now r
    .next ((s.setVar .ovpN n r).bumpSat (if r < 12 then Obj.railOvpTrips r else Obj.abOvpTrips (r - 12)))
  else .next s

/-- LOOP_UPDATE: the mean of `cnt` ADC samples and the input voltage that rail[m].vin_sel selects among `vins` (R114) give the target and
the demand (R113 to R126). With a sense fault in force the loop keeps its last demand (R141). -/
def execLoopUpdate (m at_ sum cnt : Nat) (vins : List Int) (s : State) : Out :=
  let s := slotsBy at_ s
  if decide (m < 12) && railExists s m && railOn s m && decide (0 < cnt) && decide (at_ < stepsPerFrame) &&
      decide (s.oN (Obj.railUpdDiv m) ≤ s.varN .updCnt m) then
    let t := instant s at_
    let vin := vins.getD (s.oN (Obj.railVinSel m)) 0
    let steps := if s.varB .updAt m then t - (s.varN .updAt m - 1) else 0
    let s := slewVramp m steps s
    let irail := railCurrent s m
    let s := s.setVar .ilp (nextIlp s m steps irail) m
    let target := targetOf (s.var .vramp m) (s.o (Obj.railRllDc m)) (s.o (Obj.railRllAc m)) (s.var .ilp m) irail
    let k : Int := if s.bit (Obj.railFlags m) 11 then 6 else 2
    let vmeas := divNearest (k * sum) cnt
    let s := (s.setVar .targetNow (max 0 target) m).setVar .rvin vin m
    let s := (s.setVar .updAt (t + 1 : Nat) m).addVar .updCnt (-(s.o (Obj.railUpdDiv m))) m
    let s := (s.addVar .irSum irail m).addVar .irCnt 1 m
    let s := if s.bit (Obj.railFlags m) 3 then s
      else giveReferences m (compensate m steps target vmeas vin (s.setVar .vmeas vmeas m))
    .next (softStopEnd m (softStartEnd m s))
  else .next s

/-- BUCK_TURN_ON: a buck's period begins with a pulse, or is skipped (R147, R148, R150, R151). After a takeover the first cycle runs to
the demand received from the twin (R261). A buck started before its input is restored begins no pulse until it is, and then switches
without another start (DESIGN CHOICE, log entry 104). -/
def execBuckTurnOn (b at_ : Nat) (x : BuckPulseIn) (s : State) : Out :=
  let s := slotsBy at_ s
  let r := 12 + b
  let t := instant s at_
  if decide (b < 8) && decide (at_ < stepsPerFrame) && buckDriven s b && judged (railState s r) && buckOffDone s b t &&
      buckInstant s b t x.edge then
    let s := buckCycle b (if buckOnSync s b then s.setVar .abGrid (t + s.oN (Obj.abPhase b) * stepsPerCycle - x.edge : Nat) b else s)
    if s.varB .ovpHold r || s.varB .abLow b || decide (s.o (Obj.abIlimEff b) = 0) then .next (s.setFlag .abPulse false b)
    else
      let demand := if s.varB .abAdopt b then s.varN .abDemand b else x.demand
      let s := ((s.addVar .turnCnt 1 b).setVar .abDemand demand b).setFlag .abAdopt false b
      let short := buckTooShort s b x.i0 x.rise
      let skip := short || (!s.oB (Obj.abFpwm b) && decide (demand < s.oN (Obj.abSkipThr b)))
      let s := s.setBit (Obj.abFlags b) 3 short
      if skip then .next ((s.addVar .skipCnt 1 b).setFlag .abPulse false b)
      else
        let ton := buckOnTime s b x.i0 x.rise
        let iEnd := x.i0 + x.rise * ton / stepsPerFrame
        .next (buckEnds b (t + ton) (lowTime (buckFloor s b) iEnd x.fall) ((s.setFlag .abPulse true b).setVar .abOn t b))
  else .next s

/-- BUCK_CURRENT_LIMIT: a pulse reaches ilim_eff and ends, not before its minimum on-time (R149, R151); the 64th consecutive such cycle
raises class 0x06. The byte Nh of record 0x0205 is 0 for a buck (DESIGN CHOICE, log entry 92). -/
def execBuckCurrentLimit (b at_ : Nat) (x : BuckLimitIn) (s : State) : Out :=
  let s := slotsBy at_ s
  let t := instant s at_
  if decide (b < 8) && s.varB .abPulse b && decide (s.varN .abOn b ≤ t) && decide (t + 1 < s.varN .abOff b) &&
      decide (s.o (Obj.abIlimEff b) ≤ x.ma) then
    let s := buckEnds b (max t (s.varN .abOn b + 512)) (lowTime (buckFloor s b) x.ma x.fall) ((s.setFlag .abPulse false b).setFlag .abLimHit true b)
    let s := s.addVar .abLimCnt 1 b
    if 64 ≤ s.varN .abLimCnt b then
      .next (s.raiseLater (60 + b) 6 (u8 (12 + b) ++ u16 (s.pin .railI b) ++ u16 (s.o (Obj.abIlimEff b)) ++
        u8 (buckLimit s b).2 ++ u8 0))
    else .next s
  else .next s

end Sys2Proof.Machine
end

