-- ==== Sys2Proof/Machine/Dispatch.lean ====
section
/-!
DEFINITION. The meaning of every command: one arm per constructor, each one direct call.
-/

namespace Sys2Proof.Machine

def exec (i : Instr) (s : State) : Host.Outcome State Fault Refusal :=
  match i with
  | .frameTick samples => Sys2Proof.Machine.execFrameTick samples s
  | .roundBoundary => Sys2Proof.Machine.execRoundBoundary s
  | .jobComplete kind ok => Sys2Proof.Machine.execJobComplete kind ok s
  | .mgtPowerOnReset b => Sys2Proof.Machine.execMgtPowerOnReset b s
  | .bootComplete => Sys2Proof.Machine.execBootComplete s
  | .sysModeReq c => Sys2Proof.Machine.execSysModeReq c s
  | .sysSafeRelease c => Sys2Proof.Machine.execSysSafeRelease c s
  | .sysReboot c => Sys2Proof.Machine.execSysReboot c s
  | .sysShip c => Sys2Proof.Machine.execSysShip c s
  | .mainSupplyLoss v => Sys2Proof.Machine.execMainSupplyLoss v s
  | .mainValid => Sys2Proof.Machine.execMainValid s
  | .mgtLoss v packP => Sys2Proof.Machine.execMgtLoss v packP s
  | .terrierExpiry cause slot row => Sys2Proof.Machine.execTerrierExpiry cause slot row s
  | .syncInLost gap => Sys2Proof.Machine.execSyncInLost gap s
  | .syncInOutOfRange hz => Sys2Proof.Machine.execSyncInOutOfRange hz s
  | .holdoverExpiry => Sys2Proof.Machine.execHoldoverExpiry s
  | .slewToCrystalComplete => Sys2Proof.Machine.execSlewToCrystalComplete s
  | .syncInReturned hz => Sys2Proof.Machine.execSyncInReturned hz s
  | .syncInSlewComplete => Sys2Proof.Machine.execSyncInSlewComplete s
  | .phaseLockRegained => Sys2Proof.Machine.execPhaseLockRegained s
  | .crystalFailed => Sys2Proof.Machine.execCrystalFailed s
  | .crystalRestored => Sys2Proof.Machine.execCrystalRestored s
  | .pllLossOfLock => Sys2Proof.Machine.execPllLossOfLock s
  | .mirrorFrameCheck rx => Sys2Proof.Machine.execMirrorFrameCheck rx s
  | .phaseTurnOn n at_ valley centre => Sys2Proof.Machine.execPhaseTurnOn n at_ valley centre s
  | .blankingEnd n at_ => Sys2Proof.Machine.execBlankingEnd n at_ s
  | .peakComparatorTrip n at_ imon => Sys2Proof.Machine.execPeakComparatorTrip n at_ imon s
  | .minOnTimeEnd n at_ => Sys2Proof.Machine.execMinOnTimeEnd n at_ s
  | .forcedTurnOff n at_ => Sys2Proof.Machine.execForcedTurnOff n at_ s
  | .positiveCurrentLimit n at_ imon => Sys2Proof.Machine.execPositiveCurrentLimit n at_ imon s
  | .negativeCurrentLimit n at_ imon => Sys2Proof.Machine.execNegativeCurrentLimit n at_ imon s
  | .zeroCrossing n at_ imon => Sys2Proof.Machine.execZeroCrossing n at_ imon s
  | .overshootTrip m at_ v => Sys2Proof.Machine.execOvershootTrip m at_ v s
  | .overshootClear m v => Sys2Proof.Machine.execOvershootClear m v s
  | .undershootFiring m at_ f => Sys2Proof.Machine.execUndershootFiring m at_ f s
  | .ovFastPathTrip r at_ x => Sys2Proof.Machine.execOvFastPathTrip r at_ x s
  | .ovFastPathRelease r v below => Sys2Proof.Machine.execOvFastPathRelease r v below s
  | .onDelayExpiry r => Sys2Proof.Machine.execOnDelayExpiry r s
  | .startCommand r => Sys2Proof.Machine.execStartCommand r s
  | .prebiasWaitEnd r => Sys2Proof.Machine.execPrebiasWaitEnd r s
  | .shtWindowEnd r => Sys2Proof.Machine.execShtWindowEnd r s
  | .loopUpdate m at_ sum cnt vins => Sys2Proof.Machine.execLoopUpdate m at_ sum cnt vins s
  | .railOffCommand r => Sys2Proof.Machine.execRailOffCommand r s
  | .shedMoveDown m => Sys2Proof.Machine.execShedMoveDown m s
  | .shedHoldoffExpiry m => Sys2Proof.Machine.execShedHoldoffExpiry m s
  | .windowQualified r w => Sys2Proof.Machine.execWindowQualified r w s
  | .railCurrentLimitSustained m => Sys2Proof.Machine.execRailCurrentLimitSustained m s
  | .senseFault m => Sys2Proof.Machine.execSenseFault m s
  | .vinFfOutOfRange m => Sys2Proof.Machine.execVinFfOutOfRange m s
  | .hiccupWaitExpiry r => Sys2Proof.Machine.execHiccupWaitExpiry r s
  | .buckInputUndervoltage b v => Sys2Proof.Machine.execBuckInputUndervoltage b v s
  | .buckInputRestored b v => Sys2Proof.Machine.execBuckInputRestored b v s
  | .buckCurrentLimit b at_ x => Sys2Proof.Machine.execBuckCurrentLimit b at_ x s
  | .openPhase n => Sys2Proof.Machine.execOpenPhase n s
  | .senseFailure n crit samples => Sys2Proof.Machine.execSenseFailure n crit samples s
  | .stageFaultUnattributed m => Sys2Proof.Machine.execStageFaultUnattributed m s
  | .spareRangeFailure n samples => Sys2Proof.Machine.execSpareRangeFailure n samples s
  | .poolRestore m c => Sys2Proof.Machine.execPoolRestore m c s
  | .wearCommit n => Sys2Proof.Machine.execWearCommit n s
  | .wearRingPush n => Sys2Proof.Machine.execWearRingPush n s
  | .wearReset n c => Sys2Proof.Machine.execWearReset n c s
  | .yardAdvance => Sys2Proof.Machine.execYardAdvance s
  | .yardReadinessTimeout => Sys2Proof.Machine.execYardReadinessTimeout s
  | .railQualified r => Sys2Proof.Machine.execRailQualified r s
  | .riseTimerExpiry r => Sys2Proof.Machine.execRiseTimerExpiry r s
  | .offDelayExpiry r => Sys2Proof.Machine.execOffDelayExpiry r s
  | .railDischarged r => Sys2Proof.Machine.execRailDischarged r s
  | .dischargeWaitExpiry r => Sys2Proof.Machine.execDischargeWaitExpiry r s
  | .dependantRestart r => Sys2Proof.Machine.execDependantRestart r s
  | .seqCmdOn c => Sys2Proof.Machine.execSeqCmdOn c s
  | .seqCmdOff c => Sys2Proof.Machine.execSeqCmdOff c s
  | .yardAdvancePulse low => Sys2Proof.Machine.execYardAdvancePulse low s
  | .yardReversePulse low => Sys2Proof.Machine.execYardReversePulse low s
  | .yardHold low => Sys2Proof.Machine.execYardHold low s
  | .yardGlitch low => Sys2Proof.Machine.execYardGlitch low s
  | .yardAbort low => Sys2Proof.Machine.execYardAbort low s
  | .abortComplete => Sys2Proof.Machine.execAbortComplete s
  | .backupLeaderAdvance high => Sys2Proof.Machine.execBackupLeaderAdvance high s
  | .pgScLost ch => Sys2Proof.Machine.execPgScLost ch s
  | .paddockOffCmd p c => Sys2Proof.Machine.execPaddockOffCmd p c s
  | .paddockReleaseCmd p c => Sys2Proof.Machine.execPaddockReleaseCmd p c s
  | .lostRecordOffer => Sys2Proof.Machine.execLostRecordOffer s
  | .countWindowClose src => Sys2Proof.Machine.execCountWindowClose src s
  | .quietPeriodExpiry src => Sys2Proof.Machine.execQuietPeriodExpiry src s
  | .acknowledge src c => Sys2Proof.Machine.execAcknowledge src c s
  | .ackAll c => Sys2Proof.Machine.execAckAll c s
  | .reactionWrite src sub c => Sys2Proof.Machine.execReactionWrite src sub c s
  | .harnessUp => Sys2Proof.Machine.execHarnessUp s
  | .deltaResend => Sys2Proof.Machine.execDeltaResend s
  | .ledgerTransactionApply => Sys2Proof.Machine.execLedgerTransactionApply s
  | .driveViolation kind num seen => Sys2Proof.Machine.execDriveViolation kind num seen s
  | .takeover trigger gap => Sys2Proof.Machine.execTakeover trigger gap s
  | .reinLoadCheck load => Sys2Proof.Machine.execReinLoadCheck load s
  | .reinInAsserted => Sys2Proof.Machine.execReinInAsserted s
  | .yieldNotTaken => Sys2Proof.Machine.execYieldNotTaken s
  | .teamSwap c => Sys2Proof.Machine.execTeamSwap c s
  | .swapDrained => Sys2Proof.Machine.execSwapDrained s
  | .swapTimeout => Sys2Proof.Machine.execSwapTimeout s
  | .teamRelease c => Sys2Proof.Machine.execTeamRelease c s
  | .teamAdmit c => Sys2Proof.Machine.execTeamAdmit c s
  | .admissionRequest => Sys2Proof.Machine.execAdmissionRequest s
  | .admissionTimeout => Sys2Proof.Machine.execAdmissionTimeout s
  | .admissionComplete => Sys2Proof.Machine.execAdmissionComplete s
  | .readmitWaitExpiry => Sys2Proof.Machine.execReadmitWaitExpiry s
  | .joinWaitExpiry => Sys2Proof.Machine.execJoinWaitExpiry s
  | .twinLostSolo => Sys2Proof.Machine.execTwinLostSolo s
  | .cfgMismatch => Sys2Proof.Machine.execCfgMismatch s
  | .cardRemoval => Sys2Proof.Machine.execCardRemoval s
  | .cardMated => Sys2Proof.Machine.execCardMated s
  | .hsDebounceMet => Sys2Proof.Machine.execHsDebounceMet s
  | .inrushStart => Sys2Proof.Machine.execInrushStart s
  | .hsPowerGood => Sys2Proof.Machine.execHsPowerGood s
  | .currentLimiting ma => Sys2Proof.Machine.execCurrentLimiting ma s
  | .fastTrip ma => Sys2Proof.Machine.execFastTrip ma s
  | .soaTrip => Sys2Proof.Machine.execSoaTrip s
  | .breakerTrip => Sys2Proof.Machine.execBreakerTrip s
  | .inrushTimeout => Sys2Proof.Machine.execInrushTimeout s
  | .hsCooldownExpiry => Sys2Proof.Machine.execHsCooldownExpiry s
  | .hsRetriesReset => Sys2Proof.Machine.execHsRetriesReset s
  | .hsCmdOn c => Sys2Proof.Machine.execHsCmdOn c s
  | .hsCmdOff c => Sys2Proof.Machine.execHsCmdOff c s
  | .backplaneOv => Sys2Proof.Machine.execBackplaneOv s
  | .backplaneUv => Sys2Proof.Machine.execBackplaneUv s
  | .backplaneWarn => Sys2Proof.Machine.execBackplaneWarn s
  | .inputFaultEnd => Sys2Proof.Machine.execInputFaultEnd s
  | .shortedMosfet => Sys2Proof.Machine.execShortedMosfet s
  | .shuntSenseFault => Sys2Proof.Machine.execShuntSenseFault s
  | .vinMgtWarning => Sys2Proof.Machine.execVinMgtWarning s
  | .vinMgtWarningEnd => Sys2Proof.Machine.execVinMgtWarningEnd s
  | .mainInputLost v => Sys2Proof.Machine.execMainInputLost v s
  | .mainInputValid => Sys2Proof.Machine.execMainInputValid s
  | .packPresent => Sys2Proof.Machine.execPackPresent s
  | .packRemoved => Sys2Proof.Machine.execPackRemoved s
  | .packUnusable => Sys2Proof.Machine.execPackUnusable s
  | .sourceHandover us vlow => Sys2Proof.Machine.execSourceHandover us vlow s
  | .sourceHandback us vlow => Sys2Proof.Machine.execSourceHandback us vlow s
  | .chargeStart => Sys2Proof.Machine.execChargeStart s
  | .prechargeDone => Sys2Proof.Machine.execPrechargeDone s
  | .prechargeTimeout => Sys2Proof.Machine.execPrechargeTimeout s
  | .cvEntry => Sys2Proof.Machine.execCvEntry s
  | .topoffEntry => Sys2Proof.Machine.execTopoffEntry s
  | .topoffExpiry => Sys2Proof.Machine.execTopoffExpiry s
  | .chargeSuspend => Sys2Proof.Machine.execChargeSuspend s
  | .packOvervoltage => Sys2Proof.Machine.execPackOvervoltage s
  | .safetyTimerExpiry => Sys2Proof.Machine.execSafetyTimerExpiry s
  | .inputLimitSearchStep => Sys2Proof.Machine.execInputLimitSearchStep s
  | .inputLimitSag => Sys2Proof.Machine.execInputLimitSag s
  | .pwrCmdResume c => Sys2Proof.Machine.execPwrCmdResume c s
  | .pwrCmdSuspend c => Sys2Proof.Machine.execPwrCmdSuspend c s
  | .holdupEntry => Sys2Proof.Machine.execHoldupEntry s
  | .lastGaspTimerExpiry => Sys2Proof.Machine.execLastGaspTimerExpiry s
  | .lgDone c => Sys2Proof.Machine.execLgDone c s
  | .packCutoff us vlow => Sys2Proof.Machine.execPackCutoff us vlow s
  | .dischargeOvercurrent => Sys2Proof.Machine.execDischargeOvercurrent s
  | .packGateOffOvercurrent => Sys2Proof.Machine.execPackGateOffOvercurrent s
  | .holdupShutdownComplete => Sys2Proof.Machine.execHoldupShutdownComplete s
  | .mainReturnQualified us vlow => Sys2Proof.Machine.execMainReturnQualified us vlow s
  | .backupEntry => Sys2Proof.Machine.execBackupEntry s
  | .bkpPowerLoss v => Sys2Proof.Machine.execBkpPowerLoss v s
  | .shelfEntry => Sys2Proof.Machine.execShelfEntry s
  | .shelfLatchSet => Sys2Proof.Machine.execShelfLatchSet s
  | .shelfAbandon => Sys2Proof.Machine.execShelfAbandon s
  | .shelfWake why low v => Sys2Proof.Machine.execShelfWake why low v s
  | .counterFault => Sys2Proof.Machine.execCounterFault s
  | .readinessLow => Sys2Proof.Machine.execReadinessLow s
  | .restPoint => Sys2Proof.Machine.execRestPoint s
  | .exerciseDue => Sys2Proof.Machine.execExerciseDue s
  | .estCmdRequest c => Sys2Proof.Machine.execEstCmdRequest c s
  | .exerciseStart us vlow => Sys2Proof.Machine.execExerciseStart us vlow s
  | .exerciseTargetReached us vlow => Sys2Proof.Machine.execExerciseTargetReached us vlow s
  | .exerciseTimeout us vlow => Sys2Proof.Machine.execExerciseTimeout us vlow s
  | .exerciseRestTimeout => Sys2Proof.Machine.execExerciseRestTimeout s
  | .exerciseRefusedExpiry => Sys2Proof.Machine.execExerciseRefusedExpiry s
  | .exerciseAbort us vlow => Sys2Proof.Machine.execExerciseAbort us vlow s
  | .estCmdAbort c => Sys2Proof.Machine.execEstCmdAbort c s
  | .estWriteback => Sys2Proof.Machine.execEstWriteback s
  | .estWritebackSecond => Sys2Proof.Machine.execEstWritebackSecond s
  | .calibrationFailure => Sys2Proof.Machine.execCalibrationFailure s
  | .sensorRestored => Sys2Proof.Machine.execSensorRestored s
  | .scaleMaskWrite c => Sys2Proof.Machine.execScaleMaskWrite c s
  | .ccAttach => Sys2Proof.Machine.execCcAttach s
  | .detach => Sys2Proof.Machine.execDetach s
  | .deadBatteryAttach v pin term => Sys2Proof.Machine.execDeadBatteryAttach v pin term s
  | .sourceCapabilities pdos => Sys2Proof.Machine.execSourceCapabilities pdos s
  | .psRdy => Sys2Proof.Machine.execPsRdy s
  | .transitionEnd => Sys2Proof.Machine.execTransitionEnd s
  | .eprModeRequest => Sys2Proof.Machine.execEprModeRequest s
  | .vbusSourceOn => Sys2Proof.Machine.execVbusSourceOn s
  | .hardReset sent => Sys2Proof.Machine.execHardReset sent s
  | .vbusProtectionTrip kind val => Sys2Proof.Machine.execVbusProtectionTrip kind val s
  | .errorRecoveryExpiry gone => Sys2Proof.Machine.execErrorRecoveryExpiry gone s
  | .cablePulled cc v => Sys2Proof.Machine.execCablePulled cc v s
  | .prSwapReceived => Sys2Proof.Machine.execPrSwapReceived s
  | .drSwapReceived => Sys2Proof.Machine.execDrSwapReceived s
  | .drSwapPreference a => Sys2Proof.Machine.execDrSwapPreference a s
  | .withdrawnResend a => Sys2Proof.Machine.execWithdrawnResend a s
  | .portCmdPrSwap c a => Sys2Proof.Machine.execPortCmdPrSwap c a s
  | .portCmdDrSwap c a => Sys2Proof.Machine.execPortCmdDrSwap c a s
  | .portCmdClearLatch c => Sys2Proof.Machine.execPortCmdClearLatch c s
  | .portCmdExitBench c => Sys2Proof.Machine.execPortCmdExitBench c s
  | .benchEnWrite c => Sys2Proof.Machine.execBenchEnWrite c s
  | .discoverIdentity => Sys2Proof.Machine.execDiscoverIdentity s
  | .discoverSvids => Sys2Proof.Machine.execDiscoverSvids s
  | .discoverModes svid => Sys2Proof.Machine.execDiscoverModes svid s
  | .enterMode svid pos => Sys2Proof.Machine.execEnterMode svid pos s
  | .exitMode svid pos => Sys2Proof.Machine.execExitMode svid pos s
  | .rtcSetHalt calendar c => Sys2Proof.Machine.execRtcSetHalt calendar c s
  | .rtcSetShift calendar c => Sys2Proof.Machine.execRtcSetShift calendar c s
  | .rtcShiftWrite c => Sys2Proof.Machine.execRtcShiftWrite c s
  | .rtcShiftComplete => Sys2Proof.Machine.execRtcShiftComplete s
  | .rtcCalWrite c => Sys2Proof.Machine.execRtcCalWrite c s
  | .rtcRangeEnd => Sys2Proof.Machine.execRtcRangeEnd s
  | .oscillatorFailure => Sys2Proof.Machine.execOscillatorFailure s
  | .fsoClear c => Sys2Proof.Machine.execFsoClear c s
  | .commitAgeExpiry => Sys2Proof.Machine.execCommitAgeExpiry s
  | .nvmCmdCommit c => Sys2Proof.Machine.execNvmCmdCommit c s
  | .commitStart => Sys2Proof.Machine.execCommitStart s
  | .commitStep => Sys2Proof.Machine.execCommitStep s
  | .commitComplete => Sys2Proof.Machine.execCommitComplete s
  | .writerWaitTimeout => Sys2Proof.Machine.execWriterWaitTimeout s
  | .cresFirstCharge => Sys2Proof.Machine.execCresFirstCharge s
  | .cresLow => Sys2Proof.Machine.execCresLow s
  | .cresFault => Sys2Proof.Machine.execCresFault s
  | .scrubStep => Sys2Proof.Machine.execScrubStep s
  | .otpProgCmd c => Sys2Proof.Machine.execOtpProgCmd c s
  | .otpProgramDone differ => Sys2Proof.Machine.execOtpProgramDone differ s
  | .otpProgramStopped => Sys2Proof.Machine.execOtpProgramStopped s
  | .recordAssembly => Sys2Proof.Machine.execRecordAssembly s
  | .exportStart c => Sys2Proof.Machine.execExportStart c s
  | .exportReady => Sys2Proof.Machine.execExportReady s
  | .exportEnd c => Sys2Proof.Machine.execExportEnd c s
  | .exportTimeout => Sys2Proof.Machine.execExportTimeout s
  | .bbCmdCapture c => Sys2Proof.Machine.execBbCmdCapture c s
  | .bbCmdRelease c => Sys2Proof.Machine.execBbCmdRelease c s
  | .blackBoxComplete => Sys2Proof.Machine.execBlackBoxComplete s
  | .collieTick => Sys2Proof.Machine.execCollieTick s
  | .collieExpiry => Sys2Proof.Machine.execCollieExpiry s
  | .collieServe c => Sys2Proof.Machine.execCollieServe c s
  | .collieCheckin c => Sys2Proof.Machine.execCollieCheckin c s
  | .hostbusySet c => Sys2Proof.Machine.execHostbusySet c s
  | .hostbusyClear c => Sys2Proof.Machine.execHostbusyClear c s
  | .suspensionExpiry => Sys2Proof.Machine.execSuspensionExpiry s
  | .collieEn c => Sys2Proof.Machine.execCollieEn c s
  | .claimRead b port tid => Sys2Proof.Machine.execClaimRead b port tid s
  | .holdoffExpiry g => Sys2Proof.Machine.execHoldoffExpiry g s
  | .irqClear c => Sys2Proof.Machine.execIrqClear c s
  | .identityProgram bad trng => Sys2Proof.Machine.execIdentityProgram bad trng s
  | .publicKeyReady => Sys2Proof.Machine.execPublicKeyReady s
  | .slotUnwrap => Sys2Proof.Machine.execSlotUnwrap s
  | .presenceWindowExpiry => Sys2Proof.Machine.execPresenceWindowExpiry s
  | .claim q => Sys2Proof.Machine.execClaim q s
  | .reclaim q copies => Sys2Proof.Machine.execReclaim q copies s
  | .enrolSlot q => Sys2Proof.Machine.execEnrolSlot q s
  | .transfer q copies => Sys2Proof.Machine.execTransfer q copies s
  | .claimComplete => Sys2Proof.Machine.execClaimComplete s
  | .hwmCommitDone slot copies => Sys2Proof.Machine.execHwmCommitDone slot copies s
  | .hwmCommitTimeout slot => Sys2Proof.Machine.execHwmCommitTimeout slot s
  | .keyRevoke c => Sys2Proof.Machine.execKeyRevoke c s
  | .keyRelease c copies => Sys2Proof.Machine.execKeyRelease c copies s
  | .snapStart c => Sys2Proof.Machine.execSnapStart c s
  | .snapReady => Sys2Proof.Machine.execSnapReady s
  | .snapEnd c => Sys2Proof.Machine.execSnapEnd c s
  | .imgOpen c => Sys2Proof.Machine.execImgOpen c s
  | .imgStageWrite q => Sys2Proof.Machine.execImgStageWrite q s
  | .imgValidate c => Sys2Proof.Machine.execImgValidate c s
  | .imgValidationDone => Sys2Proof.Machine.execImgValidationDone s
  | .imgCancel c => Sys2Proof.Machine.execImgCancel c s
  | .imgActivate c => Sys2Proof.Machine.execImgActivate c s
  | .activation => Sys2Proof.Machine.execActivation s
  | .closeWrite vpp => Sys2Proof.Machine.execCloseWrite vpp s
  | .ledgerWriteback => Sys2Proof.Machine.execLedgerWriteback s
  | .budgetAllocWrite r c => Sys2Proof.Machine.execBudgetAllocWrite r c s
  | .budgetGrantWrite c => Sys2Proof.Machine.execBudgetGrantWrite c s
  | .grantReductionDone => Sys2Proof.Machine.execGrantReductionDone s
  | .read q => Sys2Proof.Machine.execRead q s
  | .write q => Sys2Proof.Machine.execWrite q s
  | .writek q copies => Sys2Proof.Machine.execWritek q copies s
  | .blockread q => Sys2Proof.Machine.execBlockread q s
  | .blockwrite q => Sys2Proof.Machine.execBlockwrite q s
  | .segmentServe p => Sys2Proof.Machine.execSegmentServe p s
  | .echo q => Sys2Proof.Machine.execEcho q s
  | .framingFailure p cause => Sys2Proof.Machine.execFramingFailure p cause s
  | .portBusy q => Sys2Proof.Machine.execPortBusy q s
  | .retryReplay q => Sys2Proof.Machine.execRetryReplay q s
  | .spiFetch p => Sys2Proof.Machine.execSpiFetch p s
  | .canFrameIgnored p => Sys2Proof.Machine.execCanFrameIgnored p s
  | .notifySend p => Sys2Proof.Machine.execNotifySend p s
  | .busOff p tec => Sys2Proof.Machine.execBusOff p tec s
  | .busRecovery p => Sys2Proof.Machine.execBusRecovery p s
  | .errorPassiveChange p tec rec => Sys2Proof.Machine.execErrorPassiveChange p tec rec s
  | .lbStart x c => Sys2Proof.Machine.execLbStart x c s
  | .lbIteration reads => Sys2Proof.Machine.execLbIteration reads s
  | .lbRunEnd => Sys2Proof.Machine.execLbRunEnd s
  | .lbStop x c => Sys2Proof.Machine.execLbStop x c s
  | .lbAbort => Sys2Proof.Machine.execLbAbort s
  | .harnessReflection frame => Sys2Proof.Machine.execHarnessReflection frame s
  | .bscanEn c => Sys2Proof.Machine.execBscanEn c s
  | .extestLoad on => Sys2Proof.Machine.execExtestLoad on s
  | .undershootClear m v => Sys2Proof.Machine.execUndershootClear m v s
  | .symbolLockGained lane skew => Sys2Proof.Machine.execSymbolLockGained lane skew s
  | .symbolLockLost lane => Sys2Proof.Machine.execSymbolLockLost lane s
  | .ccStateChange pin term => Sys2Proof.Machine.execCcStateChange pin term s
  | .vbusDischargeDone => Sys2Proof.Machine.execVbusDischargeDone s
  | .buckTurnOn b at_ x => Sys2Proof.Machine.execBuckTurnOn b at_ x s

end Sys2Proof.Machine
end

