-- ==== Sys2Proof/Machine/Step.lean ====
section
/-!
DEFINITION. One step: the command that has waited longest runs. Time passes by FRAME_TICK, a command of the table, so a block
with nothing waiting stays as it is (log entry 1).
-/

namespace Sys2Proof.Machine

/-- Take the command at the front of the queue and run it with the queue's rest; with none waiting, idle. -/
def step (s : State) : Host.Outcome State Fault Refusal :=
  match s.pending with
  | [] => .next s
  | c :: rest => exec c { s with pending := rest }

/-- The state with the command that a word spells at the front of its queue; unchanged where it spells none. -/
def State.withFetchWord (s : State) (nbits w : Nat) : State :=
  match decodeTableWord nbits w with
  | some c => { s with pending := c :: s.pending }
  | none => s

end Sys2Proof.Machine
end

