-- ==== Sys2Proof/Safety.lean ====
section
/-!
DEFINITION. What a safe run keeps: every store of the state in its one canonical form, so that equal contents are equal data;
fuse bits that only ever go from 0 to 1; a queue that only its front leaves. The commands that may write the MRAM array, the
fuses, the sampled inputs or the protocol ports, by name. When a request reaches the checks of its own object.
-/

namespace Sys2Proof.Machine

/-- The stores of a state are in canonical form: keys strictly rising, no entry that reads as if it were not there. -/
def State.wf (s : State) : Bool :=
  FMap.wf dictDefault s.objs && FMap.wf (fun _ => 0) s.vars && FMap.wf (fun _ => 0) s.pins && FMap.wf (fun _ => 0) s.mram &&
  FMap.wf (fun _ => 0) s.otp && FMap.wf (fun _ => 0) s.shadow && FMap.wf (fun _ => []) s.hists &&
  FMap.wf (fun _ => -1) s.dlast && FMap.wf (fun _ => 0) s.romDfl

/-- Every programmed fuse bit of one state is programmed in the other (R449: fuses are antifuses). -/
def OtpKept (s t : State) : Prop := ∀ w b, (FMap.get 0 s.otp w).testBit b = true → (FMap.get 0 t.otp w).testBit b = true

/-- A command completes in a state: exec answers a next state, and that state has a property. -/
def Completes (c : Instr) (s : State) (P : State → Prop) : Prop := ∃ t, exec c s = .next t ∧ P t

/-- What a piece of work may change: the objects of a list and of families (one object per phase, rail …), the hidden quantities
of a list of kinds, histories of samples, the count of free values drawn, and what it hands on to the marshal, the studbook and the
interrupt controller. Every other part of the state, every memory, queue, port, pin and fuse, stays as it was. -/
structure WithinAll (ks : List Nat) (fs : List (Nat → Nat)) (vs : List VarKind) (s t : State) : Prop where
  objs : ∀ k, k ∉ ks → (∀ f, f ∈ fs → ∀ n, k ≠ f n) → t.o k = s.o k
  vars : ∀ v i j, v ∉ vs → t.var v i j = s.var v i j
  rest : t = { s with objs := t.objs, vars := t.vars, hists := t.hists, free := t.free, intake := t.intake, arrived := t.arrived,
                      offers := t.offers, posts := t.posts }

/-- The objects of a family with the indices 0 to 63, which take in every phase, rail, buck, channel and stall. -/
def first64 (f : Nat → Nat) (n : Nat) : Nat := f (n % 64)

/-- The same for work that writes no object of a family. -/
abbrev Within (ks : List Nat) (vs : List VarKind) (s t : State) : Prop := WithinAll ks [] vs s t

/-- What a piece of work may change among the objects and the hidden quantities, where it also works on a buffer, a queue, a job,
a memory or a record ring: the objects and the kinds of hidden quantities outside the lists stay as they were. -/
structure RegsWithin (ks : List Nat) (fs : List (Nat → Nat)) (vs : List VarKind) (s t : State) : Prop where
  objs : ∀ k, k ∉ ks → (∀ f, f ∈ fs → ∀ n, k ≠ f n) → t.o k = s.o k
  vars : ∀ v i j, v ∉ vs → t.var v i j = s.var v i j

/-- Which rarely written parts of the state a piece of work may write. -/
structure Touch where
  mram : Bool
  otp : Bool
  pins : Bool
  ports : Bool

/-- What a piece of work keeps from one state to the next: the queue, the canonical form, the programmed fuses, and each part
it may not touch. -/
structure Keeps (w : Touch) (s t : State) : Prop where
  pending : t.pending = s.pending
  wf : s.wf = true → t.wf = true
  fuses : OtpKept s t
  mram : w.mram = false → t.mram = s.mram
  otp : w.otp = false → t.otp = s.otp
  pins : w.pins = false → t.pins = s.pins
  ports : w.ports = false → t.ports = s.ports

/-- The commands that may write the MRAM array: the steps of a commit and of the power-loss close (R439, R528). -/
def writesMram : Instr → Bool
  | .mgtLoss _ _ | .backupEntry | .shelfLatchSet | .shelfAbandon | .commitStep | .commitComplete | .closeWrite _ => true
  | _ => false

/-- The commands that may program a fuse: OTP programming, the identity key, the keyed commands whose generation or counter is kept in
fuses, and the ends of a job and of a frame, which serve a keyed command that has waited (R42, R43, R449, R495, R505, R509). -/
def burnsFuses : Instr → Bool
  | .frameTick _ | .jobComplete _ _ | .sysModeReq _ | .sysSafeRelease _ | .sysReboot _ | .sysShip _ | .poolRestore _ _
  | .wearReset _ _ | .seqCmdOn _ | .seqCmdOff _ | .paddockOffCmd _ _ | .paddockReleaseCmd _ _ | .acknowledge _ _
  | .ackAll _ | .reactionWrite _ _ _ | .teamSwap _ | .teamRelease _ | .teamAdmit _ | .hsCmdOn _ | .hsCmdOff _
  | .pwrCmdResume _ | .pwrCmdSuspend _ | .lgDone _ | .estCmdRequest _ | .estCmdAbort _ | .scaleMaskWrite _
  | .portCmdPrSwap _ _ | .portCmdDrSwap _ _ | .portCmdClearLatch _ | .portCmdExitBench _ | .benchEnWrite _
  | .rtcSetHalt _ _ | .rtcSetShift _ _ | .rtcShiftWrite _ | .rtcCalWrite _ | .fsoClear _ | .nvmCmdCommit _
  | .otpProgCmd _ | .otpProgramDone _ | .otpProgramStopped | .exportStart _ | .exportEnd _ | .bbCmdCapture _
  | .bbCmdRelease _ | .collieServe _ | .collieCheckin _ | .hostbusySet _ | .hostbusyClear _ | .collieEn _
  | .claimRead _ _ _ | .irqClear _ | .identityProgram _ _ | .claim _ | .reclaim _ _ | .enrolSlot _ | .transfer _ _
  | .hwmCommitDone _ _ | .hwmCommitTimeout _ | .keyRevoke _ | .keyRelease _ _ | .snapStart _ | .snapEnd _ | .imgOpen _
  | .imgStageWrite _ | .imgValidate _ | .imgCancel _ | .imgActivate _ | .budgetAllocWrite _ _ | .budgetGrantWrite _
  | .read _ | .write _ | .writek _ _ | .blockread _ | .blockwrite _ | .segmentServe _ | .echo _ | .lbStart _ _
  | .lbStop _ _ | .bscanEn _ => true
  | _ => false

/-- The commands that bring samples or a supply state from outside. -/
def takesSamples : Instr → Bool
  | .frameTick _ | .mgtPowerOnReset _ | .mgtLoss _ _ | .deadBatteryAttach _ _ _ | .cablePulled _ _ => true
  | _ => false

/-- The commands that may change what a protocol port holds: requests, what resets a port, and the steps that serve or answer a
transaction that waits (R42, R43, R45, R552, R554). -/
def usesPorts : Instr → Bool
  | .frameTick _ | .roundBoundary | .jobComplete _ _ | .mgtPowerOnReset _ | .sysModeReq _ | .sysSafeRelease _
  | .sysReboot _ | .sysShip _ | .mgtLoss _ _ | .poolRestore _ _ | .wearReset _ _ | .seqCmdOn _ | .seqCmdOff _
  | .paddockOffCmd _ _ | .paddockReleaseCmd _ _ | .acknowledge _ _ | .ackAll _ | .reactionWrite _ _ _ | .teamSwap _
  | .teamRelease _ | .teamAdmit _ | .hsCmdOn _ | .hsCmdOff _ | .pwrCmdResume _ | .pwrCmdSuspend _ | .lgDone _
  | .backupEntry | .shelfLatchSet | .estCmdRequest _ | .estCmdAbort _ | .scaleMaskWrite _ | .detach | .hardReset _
  | .vbusProtectionTrip _ _ | .drSwapReceived | .drSwapPreference _ | .withdrawnResend _ | .portCmdPrSwap _ _
  | .portCmdDrSwap _ _ | .portCmdClearLatch _ | .portCmdExitBench _ | .benchEnWrite _ | .exitMode _ _
  | .rtcSetHalt _ _ | .rtcSetShift _ _ | .rtcShiftWrite _ | .rtcCalWrite _ | .fsoClear _ | .nvmCmdCommit _
  | .otpProgCmd _ | .exportStart _ | .exportEnd _ | .bbCmdCapture _ | .bbCmdRelease _ | .collieServe _
  | .collieCheckin _ | .hostbusySet _ | .hostbusyClear _ | .collieEn _ | .claimRead _ _ _ | .irqClear _ | .claim _
  | .reclaim _ _ | .enrolSlot _ | .transfer _ _ | .claimComplete | .hwmCommitDone _ _ | .hwmCommitTimeout _
  | .keyRevoke _ | .keyRelease _ _ | .snapStart _ | .snapEnd _ | .imgOpen _ | .imgStageWrite _ | .imgValidate _
  | .imgCancel _ | .imgActivate _ | .budgetAllocWrite _ _ | .budgetGrantWrite _ | .grantReductionDone | .read _
  | .write _ | .writek _ _ | .blockread _ | .blockwrite _ | .segmentServe _ | .echo _ | .framingFailure _ _
  | .portBusy _ | .retryReplay _ | .notifySend _ | .busRecovery _ | .lbStart _ _ | .lbStop _ _ | .bscanEn _
  | .vbusDischargeDone => true
  | _ => false

/-- What a command may write of the rarely written parts. -/
def touched (c : Instr) : Touch := ⟨writesMram c, burnsFuses c, takesSamples c, usesPorts c⟩

/-- The objects, one per rail, phase or buck, that a rail's going off may change (R123, R142, R199). -/
abbrev railOffObjs : List (Nat → Nat) :=
  [Obj.abFlags, Obj.abState, Obj.phaseFlags, Obj.phaseState, Obj.phaseTon, Obj.poolFailedHi, Obj.poolFailedLo, Obj.poolIder, Obj.poolNh,
    Obj.poolSparesFree, Obj.railBalOffsets, Obj.railFlags, Obj.railNSw, Obj.railState, Obj.railTarget, Obj.scFlags, Obj.srcCond,
    Obj.wearStatus]

/-- The kinds of hidden quantities that a rail's going off may change. -/
abbrev railOffKinds : List VarKind :=
  [.abLimCnt, .abLimHit, .abLowEnd, .abOff, .abPulse, .blanked, .cycOpen, .demand, .hicT, .holdoffT, .iacc, .ilimCnt, .ilimSust, .inegCnt,
    .lastOff, .offNew, .offOld, .ovpHold, .ovsHold, .pgCnt, .posPhase, .pulse, .railSince, .riseT, .scEn, .scOv, .scState, .senOn,
    .startDue, .startHeld, .targetNow, .testStart, .tonLast, .tripped, .truncated, .uvsFire, .uvsPend, .vramp, .waitT, .winCnt, .zHold]

/-! ## When a request reaches the checks of its own object -/

/-- A transaction received now is the first of the dictionary queue, the frame has a slot for it (R42), and no ended tag check of the port
has a command to be served (R43). The slots that come before it in the frame have run (R38, R239). -/
def slotFree (s : State) (p : Nat) : Bool :=
  decide (s.varN .dSlots < 4 ∧ dictionaryHead (backToQueue p s) = some p) && !s.varB .jobDone (JobFor.tagCheck p).slot &&
    decide (s.varN .dSlots ≤ s.varN .slotsDone)

/-- The state in which a request that is served at once reaches the checks of its object: it has been received, its port holds it, and
it has taken a dictionary slot (R42, R552). -/
def inSlot (q : Req) (s : State) : State :=
  ((backToQueue q.port (hold q {} (takeIn q.port s))).setVar .dqAt 0 q.port).addVar .dSlots 1

/-- A request that a port takes in and serves at once (R42, R550 steps 1 to 4, R554 to R556, R560): the port is usable, a CAN frame is for
this device, the port holds no transaction, a dictionary slot is free for it, the request is no retry of the last one answered, and format, mode and object are in
order. -/
def freeFor (s : State) (q : Req) : Bool :=
  portUsable s q.port && canTaken q s && (portOf s q.port).txn.isNone && slotFree s q.port && !isReplay q s && decide (preCheck q s = .ok)

/-- May this device store a write of the object now: its role allows it, and the journal has room for one that it forwards (R269)? -/
def storeOk (s : State) (key : Nat) : Bool :=
  mayServe s key && (!(teamed s && holder s && grouped key) || journalRoom s key)

/-- A plain write that reaches the checks of its own object. -/
def plainOk (s : State) (c : Plain) (key : Nat) : Bool := freeFor s (plainReq c key) && storeOk s key

/-- No security job waits or runs. -/
def engineFree (s : State) : Bool := !s.jobs.any fun j => jobSecurity j.kind

/-- Steps 2 to 6 of R508 pass, the counter is covered by the slot's high-water mark, no other command of the slot waits for its commit
(R509), and an owner-only command comes from slot 0. -/
def keyedPass (s : State) (q : Req) : Bool :=
  decide (s.oN (Obj.keyState 0) = 1) && s.bit Obj.keyStatus 0 && decide (q.slot < 4 ∧ s.oN (Obj.keyState q.slot) = 1) &&
    decide ((cmac (slotKey s q.slot) (tagMessage q s)).take 8 = q.tag) && !s.varB .hwmOn q.slot &&
    decide (s.oN (Obj.keyLast q.slot) < q.counter ∧ q.counter ≤ 0xFFFFFEFF ∧ q.counter ≤ s.oN (Obj.keyHwm q.slot)) &&
    (!ownerOnly q || decide (q.slot = 0))

/-- A keyed write that reaches the checks of its own object: its tag check does not wait for another security job (R43, R45). -/
def keyedOk (s : State) (c : Keyed) (key : Nat) : Bool :=
  freeFor s (keyedReq c key) && engineFree s && keyedPass s (keyedReq c key) && storeOk s key

/-- A request has been answered with a status and no data, and its port holds no transaction. -/
def answered (t : State) (q : Req) (st : Status) : Bool :=
  decide ((portOf t q.port).resp = some (respOf q st [])) && (portOf t q.port).txn.isNone

end Sys2Proof.Machine
end

