-- ==== Sys2Proof/Certificates/Slice0/Obligations.lean ====
section
/-!
DEFINITION. The statements for the provers, drawn from the numbered rules of spec/ chapter by chapter: what every command and event
does, under hypotheses on the state and the operands alone, and what it leaves as it was; then what holds of every step. `Completes c s P`
says that `exec c s` answers a next state with the property P; `Within` and `RegsWithin` are the frames (Safety.lean).
-/

open Sys2Proof Sys2Proof.Machine

/-- SYNC_IN lost or returned, holdover, the slews, phase lock, the crystal and the PLL (R37, R51 to R55, R62). Says that these
complete: syncInLost, syncInOutOfRange, holdoverExpiry, slewToCrystalComplete, syncInReturned, syncInSlewComplete,
phaseLockRegained, crystalFailed, crystalRestored, pllLossOfLock. -/
def Obligations.ClockReferenceEvents : Prop :=
  ∀ s : State,
    (∀ (gap : Nat), s.bit Obj.clkStatus 2 = true → 4 * s.oN Obj.clkSyncDiv ≤ gap → Completes (.syncInLost gap) s fun t =>
      t.bit Obj.clkStatus 2 = false ∧
      t.bit Obj.clkStatus 3 = false ∧
      t.o Obj.clkSyncLosses = (s.bump Obj.clkSyncLosses).o Obj.clkSyncLosses ∧
      t.o Obj.clkRefState = (if s.oN Obj.clkRefState = 1 ∨ s.oN Obj.clkRefState = 2 then (if s.varB .xtalFailed then 6 else 3) else
        s.o Obj.clkRefState) ∧
      t.condOn 203 0 = true ∧
      Within [Obj.clkStatus, Obj.clkSyncLosses, Obj.clkRefState, Obj.srcCond 203] [.clkPull, .holdoverT] s t) ∧
    (∀ (hz : Nat), s.bit Obj.clkStatus 2 = true → syncInRange (s.oN Obj.clkSyncDiv) hz = false → Completes (.syncInOutOfRange hz) s
        fun t =>
      t.bit Obj.clkStatus 2 = false ∧
      t.bit Obj.clkStatus 3 = false ∧
      t.o Obj.clkSyncLosses = (s.bump Obj.clkSyncLosses).o Obj.clkSyncLosses ∧
      t.o Obj.clkRefState = (if s.oN Obj.clkRefState = 1 ∨ s.oN Obj.clkRefState = 2 then (if s.varB .xtalFailed then 6 else 3) else
        s.o Obj.clkRefState) ∧
      t.condOn 204 0 = true ∧
      Within [Obj.clkStatus, Obj.clkSyncLosses, Obj.clkRefState, Obj.srcCond 204] [.clkPull, .holdoverT] s t) ∧
    (s.oN Obj.clkRefState = 3 → s.dueTR .holdoverT = true → Completes (.holdoverExpiry) s fun t =>
      t.o Obj.clkRefState = 4 ∧
      t.var .holdoverT = 0 ∧
      Within [Obj.clkRefState] [.holdoverT, .clkStartOff] s t) ∧
    (s.oN Obj.clkRefState = 4 → s.var .clkPpb = 0 → Completes (.slewToCrystalComplete) s fun t =>
      t.o Obj.clkRefState = 0 ∧
      t.offers = s.offers ++ [⟨0x0D46, u16 (s.var .clkStartOff), false⟩] ∧
      Within [Obj.clkRefState] [] s t) ∧
    (∀ (hz : List Nat), s.bit Obj.clkStatus 2 = false → 64 ≤ hz.length → hz.all (syncInRange (s.oN Obj.clkSyncDiv)) = true →
        Completes (.syncInReturned hz) s fun t =>
      t.bit Obj.clkStatus 2 = true ∧
      t.bit Obj.clkStatus 3 = true ∧
      t.o Obj.clkSyncMeas = hz.getLastD 0 ∧
      t.o Obj.clkRefState = (if s.oN Obj.clkRefSel = 1 ∧ s.oN Obj.clkRefState ≠ 5 then 2 else s.o Obj.clkRefState) ∧
      Within [Obj.clkStatus, Obj.clkSyncMeas, Obj.clkRefState, Obj.srcCond 203, Obj.srcCond 204] [.clkPull, .holdoverT, .clkReturn]
        s t) ∧
    (s.oN Obj.clkRefState = 2 → s.varB .clkPull = false → s.var .clkPpb = ppbOf (s.oN Obj.clkSyncDiv) (s.pin .syncHz).toNat →
        Completes (.syncInSlewComplete) s fun t =>
      t.varB .clkPull = true ∧
      t.var .clkLockCnt = 0 ∧
      Within [] [.clkPull, .clkLockCnt] s t) ∧
    (s.oN Obj.clkRefState = 2 → s.varB .clkPull = true → s.metCond .clkLockCnt 1000 = true → Completes (.phaseLockRegained) s fun t
        =>
      t.o Obj.clkRefState = 1 ∧
      t.bit Obj.clkStatus 4 = true ∧
      t.intake = s.intake ++ [⟨205, 0, u32 ((s.now : Int) - s.var .clkReturn), false⟩] ∧
      Within [Obj.clkRefState, Obj.clkStatus] [.clkPull] s t) ∧
    (s.varB .xtalFailed = false → s.metCond .xtalCnt 1 = true → Completes (.crystalFailed) s fun t =>
      t.bit Obj.clkStatus 1 = false ∧
      t.condOn 202 0 = true ∧
      t.o Obj.clkRefState = (if s.oN Obj.clkRefState = 0 ∨ s.oN Obj.clkRefState = 3 ∨ s.oN Obj.clkRefState = 4 then 6 else s.o
        Obj.clkRefState) ∧
      t.varB .xtalFailed = true ∧
      Within [Obj.clkStatus, Obj.srcCond 202, Obj.clkRefState] [.holdoverT, .xtalGood, .xtalFailed] s t) ∧
    (s.varB .xtalFailed = true → 10 ≤ s.varN .xtalGood → Completes (.crystalRestored) s fun t =>
      t.bit Obj.clkStatus 1 = true ∧
      t.condOn 202 0 = false ∧
      t.offers = s.offers ++ [⟨0x0D42, u8 1, false⟩] ∧
      t.o Obj.clkRefState = (if s.oN Obj.clkRefState = 6 then 4 else s.o Obj.clkRefState) ∧
      t.varB .xtalFailed = false ∧
      Within [Obj.clkStatus, Obj.srcCond 202, Obj.clkRefState] [.clkStartOff, .xtalFailed] s t) ∧
    (s.metCond .pllCnt 3 = true → s.condOn 201 0 = false → Completes (.pllLossOfLock) s fun t =>
      t.o Obj.clkPllUnlocks = (s.bump Obj.clkPllUnlocks).o Obj.clkPllUnlocks ∧
      t.condOn 201 0 = true ∧
      t.intake = s.intake ++ [⟨201, 0, u8 (s.o Obj.clkRefState) ++ u16 (s.o Obj.clkOffset), false⟩] ∧
      Within [Obj.clkPllUnlocks, Obj.srcCond 201] [] s t)

/-- What a job's end, the terrier's expiry and the events of the real-time clock do. That a tag check on an idle engine ends within
the row that carries its command (log entry 94), and how FRAME_TICK's sample counts the edges of the oscillator (log entry 62), are
the model's choice. Says that these complete: jobComplete, terrierExpiry, rtcShiftComplete, rtcRangeEnd, oscillatorFailure. -/
def Obligations.ScheduleAndCalendarEvents : Prop :=
  ∀ s : State,
    (∀ (kind : Nat) (ok : Bool) (j : Job), kind < 5 → jobRunning s kind = some j → j.who.slot < 16 → (∀ p, p < 5 → s.var .jobDone
        (JobFor.tagCheck p).slot = 0) → Completes (.jobComplete kind ok) s fun t =>
      t.var .jobDone j.who.slot = (if ok then 1 else 2) ∧
      t.jobs.length + 1 = s.jobs.length ∧
      RegsWithin [] [Obj.jobState, Obj.jobStepsDone, Obj.jobStepsTotal, Obj.jobStarted, Obj.jobWaiting] [.jobDone, .jobLast,
        .jobBegan] s t) ∧
    (∀ (kind p : Nat) (q : Req), kind < 5 → p < 5 → q.port = p → q.opcode ≠ 6 → (portOf s p).txn = some q → jobRunning s kind = some
        ⟨kind, .tagCheck p, true⟩ → (p = 4 → s.bit Obj.portFlags 4 = true) → s.varN .dSlots < 4 → (∀ r, r < 5 → r ≠ p → s.var
        .jobDone (JobFor.tagCheck r).slot = 0 ∧ s.var .dqAt r = 0) → Completes (.jobComplete kind false) s fun t =>
      answered t q .busy = true ∧
      t.jobs.length + 1 = s.jobs.length) ∧
    (∀ (cause : TerrierCause) (slot row : Nat), s.mgtOn = true → terrierHolds cause s = true → Completes (.terrierExpiry cause slot
        row) s fun t =>
      t.o Obj.terrierExpiries = (s.bump Obj.terrierExpiries).o Obj.terrierExpiries ∧
      t.o Obj.terrierFrame = s.o Obj.frameNumber ∧
      t.o Obj.terrierTime = s.timeNow ∧
      t.o Obj.terrierMissing = (match cause with | .classMissed m => (m : Int) | _ => 0) ∧
      t.o Obj.terrierJob = (match cause with | .jobStalled j => (j : Int) | .jobOverrun j => (j : Int) | _ => 0xFF) ∧
      t.o Obj.terrierStepSlot = (match cause with | .bootOverrun _ => 0xFE | _ => ((slot % 50 : Nat) : Int)) ∧
      t.o Obj.terrierStepRow = (match cause with | .bootOverrun k => (k : Int) | _ => ((row % 65536 : Nat) : Int)) ∧
      t.varB .terrierRec = true ∧
      t.var .modeReq (Mode.safe).code = 0x09 + 1 ∧
      t.arrived = s.arrived ++
        [⟨200, 0, u8 (t.o Obj.terrierStepSlot) ++ u16 (t.o Obj.terrierStepRow) ++ u16 (t.o Obj.terrierMissing) ++ u8 (t.o Obj.terrierJob) ++ u16 (s.o Obj.frameNumber), false⟩] ∧
      Within [Obj.terrierExpiries, Obj.terrierStepSlot, Obj.terrierStepRow, Obj.terrierFrame, Obj.terrierMissing, Obj.terrierJob,
        Obj.terrierTime] [.bootHoldSafe, .terrierRec, .modeReq] s t) ∧
    (s.bit Obj.rtcStatus 2 = true → s.o Obj.rtcShiftLeft = 0 → Completes (.rtcShiftComplete) s fun t =>
      t.bit Obj.rtcStatus 2 = false ∧
      t.posts = s.posts ++ [82] ∧
      t.offers = s.offers ++ [⟨0x0B01, u16 (s.var .rtcShiftAsked) ++ u16 (s.var .rtcShiftDone) ++ u8 0, false⟩] ∧
      Within [Obj.rtcStatus] [] s t) ∧
    (s.varN .rtcSec = 12622780799 → s.bit Obj.rtcStatus 3 = false → Completes (.rtcRangeEnd) s fun t =>
      t.bit Obj.rtcStatus 3 = true ∧
      t.bit Obj.rtcStatus 1 = false ∧
      t.var .rtcPre = 32767 ∧
      t.posts = s.posts ++ [83] ∧
      Within [Obj.rtcStatus] [.rtcPre] s t) ∧
    ((if s.mgtOn then decide (1000 ≤ s.varN .rtcQuiet) else s.varB .bkpValid) = true → s.varB .rtcFailed = false → Completes
        (.oscillatorFailure) s fun t =>
      t.bit Obj.rtcStatus 0 = true ∧
      t.bit Obj.rtcStatus 1 = false ∧
      t.o Obj.rtcStops = (s.bump Obj.rtcStops).o Obj.rtcStops ∧
      t.varB .rtcFailed = true ∧
      t.posts = (if s.mgtOn then s.posts ++ [80] else s.posts) ∧
      Within [Obj.rtcStatus, Obj.rtcStops] [.rtcFailed, .rtcFailTodo] s t) ∧
    (∀ (kind p : Nat) (q : Req), kind < 5 → p < 5 → q.port = p → q.opcode ≠ 6 → (portOf s p).txn = some q → jobRunning s kind = some
        ⟨kind, .tagCheck p, true⟩ → s.bit Obj.portFlags 4 = false → p = 4 → s.varN .dSlots < 4 → (∀ r, r < 5 → r ≠ p → s.var
        .jobDone (JobFor.tagCheck r).slot = 0 ∧ s.var .dqAt r = 0) → Completes (.jobComplete kind false) s fun t =>
      portOf t 4 = PortState.idle ∧
      t.jobs.length + 1 = s.jobs.length) ∧
    (∀ (kind p : Nat) (q : Req), kind < 5 → p < 5 → q.port = p → q.opcode ≠ 6 → (portOf s p).txn = some q → jobRunning s kind = some
        ⟨kind, .tagCheck p, true⟩ → 4 ≤ s.varN .dSlots → (∀ r, r < 5 → r ≠ p → s.var .jobDone (JobFor.tagCheck r).slot = 0 ∧ s.var
        .dqAt r = 0) → Completes (.jobComplete kind false) s fun t =>
      t.var .jobDone (JobFor.tagCheck p).slot = 2 ∧
      t.varN .dqAt p = s.now + 1 ∧
      t.ports = s.ports)

/-- A pulse begins, its blanking ends, and each way it or the low-side conduction after it ends (R66 to R68, R73 to R76, R85 to
R88). Says that these complete: phaseTurnOn, blankingEnd, peakComparatorTrip, minOnTimeEnd, forcedTurnOff, positiveCurrentLimit,
negativeCurrentLimit, zeroCrossing. -/
def Obligations.PulseEvents : Prop :=
  ∀ s : State,
    (∀ (n at_ : Nat) (valley centre : Int), let u := slotsBy at_ s; phaseExists u n = true → at_ < 12800 → u.oN (Obj.phaseRail n) <
        12 → railOn u (u.oN (Obj.phaseRail n)) = true → (u.oN (Obj.phaseState n) = 3 ∨ u.oN (Obj.phaseState n) = 4) → u.varB .pulse
        n = false → offDone u n (instant u at_) = true → (alignsGrid u n (u.oN (Obj.phaseRail n)) || isInterleave u n (u.oN
        (Obj.phaseRail n)) (instant u at_) || isDelayed u n (u.oN (Obj.phaseRail n)) (instant u at_) || isFired u n (u.oN
        (Obj.phaseRail n))) = true → u.varB .ovsHold (u.oN (Obj.phaseRail n)) = false → u.varB .ovpHold (u.oN (Obj.phaseRail n)) =
        false → Completes (.phaseTurnOn n at_ valley centre) s fun t =>
      t.varB .pulse n = true ∧
      t.o (Obj.phaseDacCode n) = refCode u n ∧
      t.var .rampCode n = u.o (Obj.phaseSlopeCode n) ∧
      t.var .lastOn n = instant u at_ ∧
      t.varB .blanked n = true ∧
      t.varB .cycOpen n = true ∧
      Within [Obj.phaseDacCode n, Obj.phaseFlags n, Obj.srcCond n] [.ilimCnt, .inegCnt, .limHit, .negHit, .cycMean, .rangeCnt,
        .outSeen, .ripSum, .ripCnt, .learnTaken, .learnLs, .cycSum, .cycCnt, .frSum, .frCnt, .openSkip, .openCnt, .cycBadPrev,
        .valley, .rampCode, .pulse, .zHold, .lastOn, .blanked, .tripped, .uvsPend, .deHit, .ipkMax, .cycBad, .updCnt, .subPhase,
        .cycOpen, .fresh, .truncated, .qualSeen, .grid, .ipkSeen] u t) ∧
    (∀ (n at_ : Nat) (valley centre : Int), let u := slotsBy at_ s; phaseExists u n = true → at_ < 12800 → u.oN (Obj.phaseRail n) <
        12 → railOn u (u.oN (Obj.phaseRail n)) = true → (u.oN (Obj.phaseState n) = 3 ∨ u.oN (Obj.phaseState n) = 4) → u.varB .pulse
        n = false → offDone u n (instant u at_) = true → (alignsGrid u n (u.oN (Obj.phaseRail n)) || isInterleave u n (u.oN
        (Obj.phaseRail n)) (instant u at_) || isDelayed u n (u.oN (Obj.phaseRail n)) (instant u at_) || isFired u n (u.oN
        (Obj.phaseRail n))) = true → (u.varB .ovsHold (u.oN (Obj.phaseRail n)) || u.varB .ovpHold (u.oN (Obj.phaseRail n))) = true →
        Completes (.phaseTurnOn n at_ valley centre) s fun t =>
      t.varB .pulse n = false ∧
      t.varB .zHold n = u.varB .zHold n ∧
      t.varB .cycOpen n = false ∧
      t.var .valley n = sampled valley ∧
      Within [Obj.phaseFlags n, Obj.srcCond n] [.ilimCnt, .inegCnt, .limHit, .negHit, .cycMean, .rangeCnt, .outSeen, .ripSum,
        .ripCnt, .learnTaken, .learnLs, .qualSeen, .cycSum, .cycCnt, .frSum, .frCnt, .openSkip, .openCnt, .cycBadPrev, .valley,
        .cycOpen, .grid] u t) ∧
    (∀ (n at_ : Nat), let u := slotsBy at_ s; phaseExists u n = true → u.varB .pulse n = true → u.varB .blanked n = true → u.varN
        .lastOn n + u.oN (Obj.phaseBlank n) * 32 ≤ instant u at_ → Completes (.blankingEnd n at_) s fun t =>
      t.varB .blanked n = false ∧
      Within [] [.blanked] u t) ∧
    (∀ (n at_ : Nat) (imon : Int), let u := slotsBy at_ s; phaseExists u n = true → u.varB .pulse n = true → u.varB .blanked n =
        false → u.varN .lastOn n ≤ instant u at_ → peakThreshold u n (instant u at_ - u.varN .lastOn n) ≤ imon → Completes
        (.peakComparatorTrip n at_ imon) s fun t =>
      (u.varN .lastOn n + minOn u n < instant u at_ → t.varB .pulse n = false ∧ t.var .tonLast n = (instant u at_ - u.varN .lastOn n
        : Nat)) ∧
      (instant u at_ ≤ u.varN .lastOn n + minOn u n → t.varB .pulse n = true ∧ t.varB .tripped n = true) ∧
      Within [Obj.phaseTon n, Obj.phaseFlags n] [.pulse, .lastOff, .tonLast, .tripped, .blanked] u t) ∧
    (∀ (n at_ : Nat), let u := slotsBy at_ s; phaseExists u n = true → u.varB .pulse n = true → u.varB .tripped n = true → u.varN
        .lastOn n + minOn u n ≤ instant u at_ → Completes (.minOnTimeEnd n at_) s fun t =>
      t.varB .pulse n = false ∧
      t.var .lastOff n = (instant u at_ + 1 : Nat) ∧
      t.var .tonLast n = (instant u at_ - u.varN .lastOn n : Nat) ∧
      Within [Obj.phaseTon n, Obj.phaseFlags n] [.pulse, .lastOff, .tonLast, .tripped, .blanked] u t) ∧
    (∀ (n at_ : Nat), let u := slotsBy at_ s; phaseExists u n = true → u.varB .pulse n = true → u.oN (Obj.phaseRail n) < 12 → u.varN
        .lastOn n + periodSteps u (u.oN (Obj.phaseRail n)) ≤ instant u at_ + minOff u n → Completes (.forcedTurnOff n at_) s fun t
        =>
      t.varB .pulse n = false ∧
      t.bit (Obj.phaseFlags n) 3 = true ∧
      t.var .tonLast n = (instant u at_ - u.varN .lastOn n : Nat) ∧
      Within [Obj.phaseTon n, Obj.phaseFlags n] [.pulse, .lastOff, .tonLast, .tripped, .blanked] u t) ∧
    (∀ (n at_ : Nat) (imon : Int), let u := slotsBy at_ s; phaseExists u n = true → u.varB .pulse n = true → u.varB .blanked n =
        false → u.varB .limHit n = false → u.varN .lastOn n ≤ instant u at_ → (u.var .ilimCode n - 128) * 1000 ≤ imon → Completes
        (.positiveCurrentLimit n at_ imon) s fun t =>
      (t.varB .pulse n = true ↔ instant u at_ ≤ u.varN .lastOn n + minOn u n) ∧
      t.varB .limHit n = true ∧
      t.var .ilimCnt n = u.var .ilimCnt n + 1 ∧
      (64 ≤ (u.var .ilimCnt n + 1).toNat → t.condOn n 0 = true) ∧
      ((u.var .ilimCnt n + 1).toNat < 64 → t.arrived = u.arrived) ∧
      Within [Obj.phaseTon n, Obj.phaseFlags n, Obj.phaseIlimCycles n, Obj.srcCond n] [.pulse, .lastOff, .tonLast, .tripped,
        .blanked, .limHit, .cycBad, .ilimSeen, .ilimCnt] u t) ∧
    (∀ (n at_ : Nat) (imon : Int), let u := slotsBy at_ s; phaseExists u n = true → at_ < 12800 → lowSideOn u n = true → imon ≤
        (u.var .inegCode n - 128) * 1000 → Completes (.negativeCurrentLimit n at_ imon) s fun t =>
      t.varB .negHit n = true ∧
      (u.oB Obj.testBscan = false → lbPwm u n = none → u.varB .ovpHold (u.oN (Obj.phaseRail n)) = false → pwmPad t n = 0) ∧
      t.var .inegCnt n = u.var .inegCnt n + 1 ∧
      (64 ≤ (u.var .inegCnt n + 1).toNat → t.condOn n 1 = true) ∧
      ((u.var .inegCnt n + 1).toNat < 64 → t.arrived = u.arrived) ∧
      Within [Obj.phaseInegCycles n, Obj.srcCond n] [.negHit, .cycBad, .inegSeen, .inegCnt] u t) ∧
    (∀ (n at_ : Nat) (imon : Int), let u := slotsBy at_ s; phaseExists u n = true → at_ < 12800 → lowSideOn u n = true → deInForce u
        n = true → u.varN .lastOff n - 1 + u.oN (Obj.phaseBlank n) * 32 ≤ instant u at_ → imon ≤ u.o (Obj.phaseZcdOffset n) * 1000 →
        u.varB .ovpHold (u.oN (Obj.phaseRail n)) = false → Completes (.zeroCrossing n at_ imon) s fun t =>
      t.varB .zHold n = true ∧
      t.varB .deSeen n = true ∧
      (u.varB .cycOpen n = true → t.varB .deHit n = true ∧ t.var .cycMean n = divNearest (phaseCurrent u n (refUv u n) * (u.var
        .tonLast n + (instant u at_ - (u.varN .lastOff n - 1) : Nat))) (2 * (periodSteps u (u.oN (Obj.phaseRail n)) : Int))) ∧
      (u.varB .cycOpen n = false → t.var .cycMean n = u.var .cycMean n) ∧
      Within [] [.zHold, .deHit, .cycBad, .deSeen, .cycMean] u t)

/-- The events that a rail's comparators and tick filters report (R90 to R92, R128, R133, R134, R137, R140, R141, R152, R154). That
the event of class 0x05 comes with the end of the hold (log entry 30), and that shed moves are decided at the end of slot 30 with
the hold-off counted in ticks (log entry 33), are the model's choice. Says that these complete: windowQualified, shedMoveDown,
shedHoldoffExpiry, overshootTrip, overshootClear, undershootFiring, undershootClear, ovFastPathTrip, ovFastPathRelease,
railCurrentLimitSustained, senseFault, vinFfOutOfRange. -/
def Obligations.RailComparatorEvents : Prop :=
  ∀ s : State,
    (∀ (r w : Nat), railExists s r = true → w < 4 → s.metCond .winCnt (s.oN (winFilt r w)) r w = true → Completes (.windowQualified
        r w) s fun t =>
      t.condOn (48 + r) ([0, 3, 4, 1].getD w 0) = true ∧
      Within [Obj.srcCond (48 + r)] [] s t) ∧
    (∀ (m : Nat), m < 12 → railExists s m = true → mayDrop s m = true → s.metCond .shedDrop 1000 m = true → Completes (.shedMoveDown
        m) s fun t =>
      t.o (Obj.railShedLvl m) = ((s.oN (Obj.railShedLvl m) - 1 : Nat) : Int) ∧
      t.var .shedDrop m = 0 ∧
      WithinAll [Obj.railShedLvl m, Obj.railNSw m, Obj.poolNh m, Obj.poolSparesFree m, Obj.poolFailedLo m, Obj.poolFailedHi m]
        [Obj.phaseState] [.shedDrop, .shedAt, .cb, .openSkip, .openCnt, .zHold, .offOld, .offNew, .offFrom, .setChanged] s t) ∧
    (∀ (m : Nat), m < 12 → s.dueT .holdoffT m = true → Completes (.shedHoldoffExpiry m) s fun t =>
      t.var .holdoffT m = 0 ∧
      t.bit (Obj.railFlags m) 4 = false ∧
      Within [Obj.railFlags m] [.holdoffT] s t) ∧
    (∀ (m at_ v : Nat), let u := slotsBy at_ s; m < 12 → railExists u m = true → railOn u m = true → u.varB .ovsHold m = false →
        railTarget u m + u.o (Obj.railOvsThr m) < v → Completes (.overshootTrip m at_ v) s fun t =>
      t.varB .ovsHold m = true ∧
      (∀ n, n ∈ railPhases u m → t.varB .pulse n = false) ∧
      (∀ n, n ∉ railPhases u m → t.varB .pulse n = u.varB .pulse n) ∧
      WithinAll [] [first64 Obj.phaseTon, first64 Obj.phaseFlags] [.ovsHold, .pulse, .lastOff, .tonLast, .tripped, .blanked,
        .cycBad, .truncated] u t) ∧
    (∀ (m v : Nat), m < 12 → s.varB .ovsHold m = true → 2 * (v : Int) < 2 * railTarget s m + s.o (Obj.railOvsThr m) → Completes
        (.overshootClear m v) s fun t =>
      t.varB .ovsHold m = false ∧
      Within [] [.ovsHold] s t) ∧
    (∀ (m at_ v : Nat) (samples : List (Int × Int)), let u := slotsBy at_ s; m < 12 → railExists u m = true → railOn u m = true →
        u.varB .uvsFire m = false → (v : Int) < railTarget u m - u.o (Obj.railUvsThr m) → Completes (.undershootFiring m at_
        ⟨v, samples⟩) s fun t =>
      t.varB .uvsFire m = true ∧
      (u.oN (Obj.railShedLvl m) < u.oN (Obj.railShedLevels m) - 1 → t.o (Obj.railShedLvl m) = ((u.oN (Obj.railShedLevels m) - 1 :
        Nat) : Int) ∧ t.bit (Obj.railFlags m) 4 = true ∧ t.var .holdoffT m = ((u.now + 1002 : Nat) : Int)) ∧
      (u.oN (Obj.railShedLevels m) - 1 ≤ u.oN (Obj.railShedLvl m) → t.o (Obj.railShedLvl m) = u.o (Obj.railShedLvl m) ∧ t.arrived =
        u.arrived) ∧
      (∀ n, n ∈ present u m → u.varB .pulse n = false → u.varB .ovsHold m = false → u.varB .ovpHold m = false → offDone u n (instant
        u at_) = true → t.varB .pulse n = true ∧ t.var .lastOn n = ((instant u at_ : Nat) : Int)) ∧
      WithinAll [Obj.railShedLvl m, Obj.railNSw m, Obj.railFlags m, Obj.poolNh m, Obj.poolSparesFree m, Obj.poolFailedLo m,
        Obj.poolFailedHi m, Obj.railBalOffsets m, Obj.srcCond (48 + m)] [first64 Obj.phaseDacCode, first64 Obj.phaseFlags, first64
        Obj.phaseState, first64 Obj.srcCond] [.uvsFire, .uvsSeen, .uvsPend, .blanked, .cb, .cycBad, .cycBadPrev, .cycCnt, .cycMean,
        .cycOpen, .cycSum, .deHit, .frCnt, .frSum, .fresh, .holdoffT, .ilimCnt, .inegCnt, .ipkMax, .lastOn, .learnLs, .learnTaken,
        .limHit, .limitStampSrc, .negHit, .offFrom, .offNew, .offOld, .openCnt, .openSkip, .outSeen, .pulse, .qualSeen, .rampCode,
        .rangeCnt, .ripCnt, .ripSum, .setChanged, .shedAt, .shedDrop, .subPhase, .tripped, .truncated, .updCnt, .valley, .zHold,
        .ipkSeen] u t) ∧
    (∀ (m v : Nat), m < 12 → s.varB .uvsFire m = true → railTarget s m - s.o (Obj.railUvsThr m) ≤ v → Completes (.undershootClear m
        v) s fun t =>
      t.varB .uvsFire m = false ∧
      Within [] [.uvsFire, .uvsPend] s t) ∧
    (∀ (r at_ v fall : Nat) (ma : Int), let u := slotsBy at_ s; r < 20 → railExists u r = true → judged (railState u r) = true →
        u.varB .ovpHold r = false → winThreshold u r 0 ≤ v → Completes (.ovFastPathTrip r at_ ⟨v, ma, fall⟩) s fun t =>
      t.varB .ovpHold r = true ∧
      t.var .ovpPeak r = (v : Int) ∧
      t.var .ovpThr r = winThreshold u r 0 ∧
      t.var .ovpAt r = (u.now : Int) ∧
      t.arrived = u.arrived ∧
      t.o (if r < 12 then Obj.railOvpTrips r else Obj.abOvpTrips (r - 12)) = (u.bumpSat (if r < 12 then Obj.railOvpTrips r else
        Obj.abOvpTrips (r - 12))).o (if r < 12 then Obj.railOvpTrips r else Obj.abOvpTrips (r - 12)) ∧
      (r < 12 → ∀ n, n ∈ railPhases u r → t.varB .pulse n = false) ∧
      (12 ≤ r → t.varB .abPulse (r - 12) = false) ∧
      (12 ≤ r → t.varN .abOff (r - 12) = instant u at_ + 1) ∧
      WithinAll [ovpFlagKey r, Obj.railOvpTrips r, Obj.abOvpTrips (r - 12)] [first64 Obj.phaseTon, first64 Obj.phaseFlags]
        [.ovpHold, .ovpPeak, .ovpThr, .ovpAt, .ovpN, .pulse, .lastOff, .tonLast, .tripped, .blanked, .cycBad, .truncated, .abPulse,
        .abOff, .abLowEnd] u t) ∧
    (∀ (r v below : Nat), r < 20 → s.varB .ovpHold r = true → (v : Int) < winThreshold s r 1 → 12800 ≤ below → Completes
        (.ovFastPathRelease r v below) s fun t =>
      t.varB .ovpHold r = false ∧
      t.arrived = s.arrived ++
        [⟨railSrc r, 5, u8 r ++ u16 (mvOf (s.var .ovpPeak r)) ++ u16 (mvOf (s.var .ovpThr r)) ++ u16 (min 65535 (s.now - s.varN .ovpAt r) : Nat) ++ u8 (s.var .ovpN r), false⟩] ∧
      Within [ovpFlagKey r] [.ovpHold] s t) ∧
    (∀ (m : Nat), m < 12 → railExists s m = true → s.metCond .ilimSust (s.oN (Obj.railIlimFilt m)) m = true → Completes
        (.railCurrentLimitSustained m) s fun t =>
      t.bit (Obj.railFlags m) 7 = true ∧
      t.condOn (48 + m) 6 = true ∧
      Within [Obj.railFlags m, Obj.srcCond (48 + m)] [] s t) ∧
    (∀ (m : Nat), m < 12 → railExists s m = true → s.metCond .senseCnt 8 m = true → Completes (.senseFault m) s fun t =>
      t.bit (Obj.railFlags m) 3 = true ∧
      t.condOn (48 + m) 8 = true ∧
      Within [Obj.railFlags m, Obj.srcCond (48 + m)] [] s t) ∧
    (∀ (m : Nat), m < 12 → railExists s m = true → s.metCond .vinCnt 8 m = true → Completes (.vinFfOutOfRange m) s fun t =>
      t.bit (Obj.railFlags m) 8 = true ∧
      t.condOn (48 + m) 9 = true ∧
      Within [Obj.railFlags m, Obj.srcCond (48 + m)] [] s t)

/-- The pre-bias wait, the end of the shorted high-side test, a loop update, and a buck's pulses (R94 to R98, R115 to R126, R146 to
R151). Says that these complete: prebiasWaitEnd, shtWindowEnd, loopUpdate, buckTurnOn, buckCurrentLimit, buckInputRestored. -/
def Obligations.RailStartAndLoopEvents : Prop :=
  ∀ s : State,
    (∀ (r : Nat), r < 20 → holder s = true → railState s r = 1 → s.varB .waitT r = true → s.varB .shtFailed r = false → (decide
        (s.var .vMean r < 600) || s.dueT .waitT r) = true → Completes (.prebiasWaitEnd r) s fun t =>
      (s.var .vMean r ≤ 800 → railState t r = 1 ∧ t.var .testStart r = ((s.now + 2 : Nat) : Int)) ∧
      (800 < s.var .vMean r → t.varB .shtFailed r = true) ∧
      t.posts = s.posts ++ [3] ∧
      t.offers = s.offers ++
        [⟨0x0104, u8 r ++ u16 (mvOf (s.var .waitV r)) ++ u32 (s.now - s.varN .waitStart r : Nat) ++ u8 (if s.var .vMean r ≤ 800 then 0 else 1), false⟩] ∧
      t.varB .waitT r = false ∧
      (800 < s.var .vMean r → s.intake.length < t.intake.length) ∧
      Within [Obj.railState r, Obj.abState (r - 12)] [.scState, .shtAb, .shtCharged, .shtFailed, .shtV, .testStart, .waitT] s t) ∧
    (∀ (r : Nat), r < 20 → holder s = true → railState s r = 2 → s.varB .shtFailed r = false → s.varN .testStart r + 200 ≤ s.now + 1
        → Completes (.shtWindowEnd r) s fun t =>
      (railState t r = 3 ∨ railState t r = 4 ∨ railState t r = 5) ∧
      t.var .vramp r = 3200000 * s.var .vMean r ∧
      t.var .testStart r = 0 ∧
      WithinAll [Obj.railState r, Obj.abState (r - 12), Obj.railTarget r, Obj.railNSw r, Obj.railBalOffsets r, Obj.poolDeratedSince
        r, Obj.poolFailedHi r, Obj.poolFailedLo r, Obj.poolIder r, Obj.poolNh r, Obj.poolSparesFree r, Obj.srcCond (48 + r),
        Obj.railFlags r, Obj.abFlags (r - 12)] [first64 Obj.phaseFlags, first64 Obj.phaseState] [.cb, .fresh, .negHit, .offFrom,
        .offNew, .offOld, .openCnt, .openSkip, .riseT, .scState, .setChanged, .targetNow, .testStart, .updAt, .vramp, .zHold,
        .slewSeen, .railSince] s t) ∧
    (∀ (m at_ sum cnt : Nat) (vins : List Int), let u := slotsBy at_ s; m < 12 → railExists u m = true → railOn u m = true → 0 < cnt
        → at_ < 12800 → u.oN (Obj.railUpdDiv m) ≤ u.varN .updCnt m → Completes (.loopUpdate m at_ sum cnt vins) s fun t =>
      t.var .rvin m = vins.getD (u.oN (Obj.railVinSel m)) 0 ∧
      t.var .updAt m = ((instant u at_ + 1 : Nat) : Int) ∧
      WithinAll [Obj.railFlags m, Obj.railState m, Obj.abState (m - 12), Obj.railTarget m, Obj.railNSw m, Obj.railBalOffsets m,
        Obj.poolDeratedSince m, Obj.poolFailedHi m, Obj.poolFailedLo m, Obj.poolIder m, Obj.poolNh m, Obj.poolSparesFree m,
        Obj.srcCond (48 + m)] [first64 Obj.phaseTon, first64 Obj.phaseFlags, first64 Obj.phaseState, first64 Obj.wearStatus]
        [.blanked, .cycOpen, .demand, .ePrev, .eValid, .holdoffT, .iacc, .iaccInc, .ilimCnt, .ilimSust, .ilp, .inegCnt, .irCnt,
        .irSum, .lastOff, .offNew, .offOld, .ovpHold, .ovsHold, .posPhase, .pulse, .refNext, .rvin, .scState, .senOn, .slewSeen,
        .startHeld, .targetNow, .testStart, .tonLast, .tripped, .truncated, .updAt, .updCnt, .uvsFire, .uvsPend, .vinLp, .vinValid,
        .vmeas, .vramp, .winCnt, .zHold] u t) ∧
    (∀ (b at_ demand rise fall edge : Nat) (i0 : Int), let u := slotsBy at_ s; b < 8 → at_ < 12800 → buckDriven u b = true → judged
        (railState u (12 + b)) = true → u.varB .ovpHold (12 + b) = false → u.o (Obj.abIlimEff b) ≠ 0 → buckOffDone u b (instant u
        at_) = true → buckInstant u b (instant u at_) edge = true → u.varB .abLow b = false → Completes (.buckTurnOn b at_
        ⟨demand, i0, rise, fall, edge⟩) s fun t =>
      t.varB .abPulse b = !(buckTooShort t b i0 rise || (!u.oB (Obj.abFpwm b) && decide ((if u.varB .abAdopt b then u.varN .abDemand
        b else demand) < u.oN (Obj.abSkipThr b)))) ∧
      t.bit (Obj.abFlags b) 3 = buckTooShort t b i0 rise ∧
      t.var .turnCnt b = u.var .turnCnt b + 1 ∧
      (t.varB .abPulse b = true → t.varN .abOn b = instant u at_ ∧ t.varN .abOff b = instant u at_ + buckOnTime t b i0 rise + 1) ∧
      t.varN .abDemand b = (if u.varB .abAdopt b then u.varN .abDemand b else demand) ∧
      t.varB .abAdopt b = false ∧
      Within [Obj.abFlags b, Obj.srcCond (60 + b)] [.turnCnt, .abDemand, .abLimCnt, .abLimHit, .skipCnt, .abPulse, .abGrid, .abOff,
        .abOn, .abLowEnd, .abAdopt] u t) ∧
    (∀ (b at_ demand rise fall edge : Nat) (i0 : Int), let u := slotsBy at_ s; b < 8 → at_ < 12800 → buckDriven u b = true → judged
        (railState u (12 + b)) = true → buckOffDone u b (instant u at_) = true → buckInstant u b (instant u at_) edge = true →
        (u.varB .ovpHold (12 + b) || u.varB .abLow b || decide (u.o (Obj.abIlimEff b) = 0)) = true → Completes (.buckTurnOn b at_
        ⟨demand, i0, rise, fall, edge⟩) s fun t =>
      t.varB .abPulse b = false ∧
      t.var .turnCnt b = u.var .turnCnt b ∧
      Within [Obj.srcCond (60 + b)] [.abGrid, .abLimCnt, .abLimHit, .abPulse] u t) ∧
    (∀ (b at_ ma fall : Nat), let u := slotsBy at_ s; b < 8 → u.varB .abPulse b = true → u.o (Obj.abIlimEff b) ≤ ma → u.varN .abOn b
        ≤ instant u at_ → instant u at_ + 1 < u.varN .abOff b → Completes (.buckCurrentLimit b at_ ⟨ma, fall⟩) s fun t =>
      t.varB .abPulse b = false ∧
      t.varB .abLimHit b = true ∧
      t.var .abLimCnt b = u.var .abLimCnt b + 1 ∧
      (64 ≤ (u.var .abLimCnt b + 1).toNat → t.condOn (60 + b) 6 = true) ∧
      ((u.var .abLimCnt b + 1).toNat < 64 → t.arrived = u.arrived) ∧
      t.varN .abOff b = max (instant u at_) (u.varN .abOn b + 512) + 1 ∧
      Within [Obj.srcCond (60 + b)] [.abPulse, .abLimHit, .abOff, .abLimCnt, .abLowEnd] u t) ∧
    (∀ (b v : Nat), b < 8 → s.varB .abLow b = true → 4400 < v → Completes (.buckInputRestored b v) s fun t =>
      t.varB .abLow b = false ∧
      t.bit (Obj.abFlags b) 5 = false ∧
      t.condOn (60 + b) 7 = false ∧
      Within [Obj.abFlags b, Obj.srcCond (60 + b)] [.abLow] s t)

/-- The detectors of a phase and the events of its wear account (R161 to R165, R180, R182). Says that these complete: openPhase,
senseFailure, stageFaultUnattributed, spareRangeFailure, wearCommit, wearRingPush. -/
def Obligations.PhaseHealthEvents : Prop :=
  ∀ s : State,
    (∀ (n : Nat), phaseExists s n = true → s.oN (Obj.phaseRail n) < 12 → settled s (s.oN (Obj.phaseRail n)) = true → s.oN
        (Obj.phaseState n) = 3 → s.oN (Obj.poolOpenCycles (s.oN (Obj.phaseRail n))) ≤ s.varN .openCnt n → 2 ≤ (switching s (s.oN
        (Obj.phaseRail n))).length → Completes (.openPhase n) s fun t =>
      t.varB .detOpen n = true ∧
      t.var .detPeer n = peerMean s (s.oN (Obj.phaseRail n)) n ∧
      Within [] [.detOpen, .detPeer] s t) ∧
    (∀ (n crit : Nat) (samples : List Int), phaseExists s n = true → s.oN (Obj.phaseRail n) < 12 → detectorsOn s (s.oN
        (Obj.phaseRail n)) = true → senseCriterion s (s.oN (Obj.phaseRail n)) n crit samples = true → Completes (.senseFailure n
        crit samples) s fun t =>
      t.var .detSense n = ((crit + 1 : Nat) : Int) ∧
      t.var .detPeer n = peerFrame s (s.oN (Obj.phaseRail n)) n ∧
      Within [] [.detSense, .detPeer] s t) ∧
    (∀ (m : Nat), m < 12 → railExists s m = true → sfltOn s m = true → 9 ≤ s.varN .sfltTicks m → Completes (.stageFaultUnattributed
        m) s fun t =>
      t.condOn (48 + m) 0xF = true ∧
      t.var .sfltTicks m = 1 ∧
      t.intake = (if s.condOn (48 + m) 0xF then s.intake else s.intake ++
        [⟨48 + m, 0xF, u8 m ++ u16 (min 65535 (s.var .sfltCnt m)) ++ u16 (dA (s.var .ifr m)) ++ u8 (switching s m).length, false⟩]) ∧
      Within [Obj.srcCond (48 + m)] [.sfltTicks] s t) ∧
    (∀ (n : Nat) (samples : List Int), phaseExists s n = true → s.oN (Obj.phaseRail n) < 12 → holder s = true → detectorsOn s (s.oN
        (Obj.phaseRail n)) = true → s.oN (Obj.phaseState n) = 5 → 8 ≤ samples.length → (samples.take 8).all imonOut = true →
        Completes (.spareRangeFailure n samples) s fun t =>
      t.bit (Obj.wearStatus n) 0 = true ∧
      t.o (Obj.wearFailCause n) = 2 ∧
      t.oN (Obj.phaseState n) = 6 ∧
      t.arrived = s.arrived ++
        [⟨n, 0xD, u8 n ++ u8 (s.o (Obj.phaseRail n)) ++ u16 (dA (phaseCurrent s n (samples.getD 7 0))) ++ u8 (t.o (Obj.poolSparesFree (s.oN (Obj.phaseRail n)))), false⟩] ∧
      RegsWithin [Obj.wearStatus n, Obj.wearFailCause n, Obj.wearFailures n, Obj.phaseState n, Obj.poolNh (s.oN (Obj.phaseRail n)),
        Obj.poolSparesFree (s.oN (Obj.phaseRail n)), Obj.poolFailedLo (s.oN (Obj.phaseRail n)), Obj.poolFailedHi (s.oN
        (Obj.phaseRail n)), Obj.wearRlHours n] [] [.senseMark, .wearSoon] s t) ∧
    (∀ (n : Nat), phaseExists s n = true → wearDue s n = true → Completes (.wearCommit n) s fun t =>
      t.var .wearNext n = ((s.nowRound + 3600 : Nat) : Int) ∧
      t.varB .wearSoon n = false ∧
      (s.oN (Obj.phaseRail n) < 12 → t.o (Obj.wearScore n) = wearScore s n (s.oN (Obj.phaseRail n))) ∧
      RegsWithin [Obj.wearScore n, Obj.wearStatus n, Obj.srcCond n, Obj.nvmBufLines, Obj.nvmState, Obj.wearRlHours n,
        Obj.nvmCorrected, Obj.nvmUncorr, Obj.nvmLastBad, Obj.ledgerStatus] [] [.wearNext, .wearSoon, .commitReq, .commitReqRound,
        .ledLost] s t) ∧
    (∀ (n : Nat), phaseExists s n = true → s.varN .wearPushed n < s.oN Obj.sysOpSeconds / 86400 → Completes (.wearRingPush n) s fun
        t =>
      t.o (Obj.wearRlHours n) = remainingLife (s.o (Obj.wearScore n)) (s.hist .hW n) ∧
      t.hist .hW n = (s.o (Obj.wearScore n) :: s.hist .hW n).take 32 ∧
      t.var .wearPushed n = ((s.oN Obj.sysOpSeconds / 86400 : Nat) : Int) ∧
      Within [Obj.wearRlHours n] [.wearPushed] s t)

/-- A rail is released, started, qualified or failed, restarted, and taken off and discharged (R192 to R205, R143, R146). Says that
these complete: pgScLost, onDelayExpiry, startCommand, railQualified, riseTimerExpiry, dependantRestart, hiccupWaitExpiry,
buckInputUndervoltage, offDelayExpiry, railOffCommand, railDischarged, dischargeWaitExpiry. -/
def Obligations.RailSequenceEvents : Prop :=
  ∀ s : State,
    (∀ (ch : Nat), ch < 32 → s.oB (Obj.scPginEn ch) = true → seqSt s (20 + ch) = 4 → s.metCond .scPg (s.oN (Obj.scPginFilt ch)) ch =
        true → Completes (.pgScLost ch) s fun t =>
      t.condOn (68 + ch) 0x16 = true ∧
      Within [Obj.srcCond (68 + ch)] [] s t) ∧
    (∀ (r : Nat), deciding s = true → sequenced s r = true → seqSt s r = 1 → s.dueT .onT r = true → Completes (.onDelayExpiry r) s
        fun t =>
      seqSt t r = 2 ∧
      t.var .onT r = 0 ∧
      Within [Obj.seqState r, Obj.sequencerRailsUp, Obj.sequencerRailsFailed] [.onT, .seqSince] s t) ∧
    (∀ (r reason : Nat), deciding s = true → startDue s r = true → startRefusal s r = some reason → Completes (.startCommand r) s
        fun t =>
      seqSt t r = 8 ∧
      ⟨48 + r, 0x11, u8 r ++ u8 reason, false⟩ ∈ t.arrived ∧
      t.var .offDue r = 3 ∧
      t.varB .startDue r = false ∧
      WithinAll [Obj.seqFails r, Obj.sequencerRailsUp, Obj.sequencerRailsFailed] [first64 Obj.seqState] [.blockedAt, .dis, .disOn,
        .offDue, .offGot, .offKind, .offT, .onT, .startDue, .relSeen, .seqSince, .disT, .disPast] s t) ∧
    (∀ (r : Nat), deciding s = true → startDue s r = true → startRefusal s r = none → Completes (.startCommand r) s fun t =>
      seqSt t r = 3 ∧
      t.o (Obj.seqChatter r) = 0 ∧
      t.var .startTick r = ((s.now + 2 : Nat) : Int) ∧
      t.varB .startDue r = true ∧
      Within [Obj.seqState r, Obj.sequencerRailsUp, Obj.sequencerRailsFailed, Obj.seqChatter r, Obj.srcCond (railSrc r)] [.dis,
        .disOn, .failSrc, .offDue, .offKind, .onT, .pgCnt, .pgSeen, .relSeen, .startDue, .startTick, .seqSince] s t) ∧
    (∀ (r : Nat), deciding s = true → sequenced s r = true → seqSt s r = 3 → qualifyMet s r = true → Completes (.railQualified r) s
        fun t =>
      seqSt t r = 4 ∧
      t.o (Obj.seqTRise r) = (s.now + 1 : Int) - s.var .startTick r ∧
      t.var .riseT r = 0 ∧
      Within [Obj.seqState r, Obj.sequencerRailsUp, Obj.sequencerRailsFailed, Obj.seqTRise r] [.riseT, .lastPar, .seqSince] s t) ∧
    (∀ (r : Nat), deciding s = true → sequenced s r = true → seqSt s r = 3 → s.dueT .riseT r = true → qualifyMet s r = false →
        Completes (.riseTimerExpiry r) s fun t =>
      seqSt t r = 8 ∧
      ⟨48 + r, 0x10, u8 r ++ u16 (s.o (Obj.seqChatter r)) ++ u32 ((s.now + 1 : Int) - s.var .startTick r), false⟩ ∈ t.arrived ∧
      t.var .offDue r = 3 ∧
      WithinAll [Obj.seqFails r, Obj.sequencerRailsUp, Obj.sequencerRailsFailed] [first64 Obj.seqState] [.blockedAt, .dis, .disOn,
        .offDue, .offGot, .offKind, .offT, .onT, .startDue, .seqSince, .disT, .disPast] s t) ∧
    (∀ (r : Nat), deciding s = true → sequenced s r = true → seqSt s r = 9 → s.oB (Obj.seqDepRestart r) = true → parentsUp s r =
        true → s.varN .blockedAt r < s.now → pdisHeld s r = false → upOf s r ≤ yardAt s ∧ yardAt s ≤ 32 → startRefusal s r = none →
        Completes (.dependantRestart r) s fun t =>
      seqSt t r = 3 ∧
      t.o (Obj.seqChatter r) = 0 ∧
      t.var .startTick r = ((s.now + 2 : Nat) : Int) ∧
      t.varB .startDue r = true ∧
      t.arrived = s.arrived ++ [⟨railSrc r, 0x15, u8 r ++ u8 (s.var .lastPar r), false⟩] ∧
      Within [Obj.seqState r, Obj.sequencerRailsUp, Obj.sequencerRailsFailed, Obj.seqChatter r, Obj.srcCond (railSrc r)] [.dis,
        .disOn, .failSrc, .offDue, .offKind, .onT, .pgCnt, .pgSeen, .relSeen, .startDue, .startTick, .seqSince] s t) ∧
    (∀ (r : Nat), railExists s r = true → railState s r = 8 → s.dueTR .hicT r = true → s.varB .offKind r = false → startRefusal s r
        = none → Completes (.hiccupWaitExpiry r) s fun t =>
      seqSt t r = 3 ∧
      t.varB .startDue r = true ∧
      t.arrived = s.arrived ++
        [⟨railSrc r, 0xA, u8 r ++ u8 (s.var .hicNum r) ++ u16 (if r < 12 then s.o (Obj.railHiccupWait r) else if r < 20 then s.o (Obj.abHiccupWait (r - 12)) else s.o (Obj.scHiccupWait (r - 20))) ++ u8 (s.var .hicCls r), false⟩] ∧
      Within [Obj.seqState r, Obj.sequencerRailsUp, Obj.sequencerRailsFailed, Obj.seqChatter r, Obj.srcCond (railSrc r)] [.dis,
        .disOn, .failSrc, .offDue, .offKind, .onT, .pgCnt, .pgSeen, .relSeen, .startDue, .startTick, .hicT, .seqSince] s t) ∧
    (∀ (b v : Nat), b < 8 → v < 4200 → judged (railState s (12 + b)) = true → sequenced s (12 + b) = true → Completes
        (.buckInputUndervoltage b v) s fun t =>
      t.varB .abLow b = true ∧
      seqSt t (12 + b) = 8 ∧
      railState t (12 + b) = 7 ∧
      t.condOn (60 + b) 7 = true ∧
      t.bit (Obj.abFlags b) 5 = true) ∧
    (∀ (r : Nat), deciding s = true → sequenced s r = true → seqSt s r = 5 → s.dueT .offT r = true → Completes (.offDelayExpiry r) s
        fun t =>
      seqSt t r = 6 ∧
      t.var .offT r = 0 ∧
      Within [Obj.seqState r, Obj.sequencerRailsUp, Obj.sequencerRailsFailed] [.offT, .seqSince] s t) ∧
    (∀ (r : Nat), deciding s = true → sequenced s r = true → s.varN .offKind r ≠ 0 → s.varB .offGot r = false → predsDown s r = true
        → s.varN .offKind r ≠ 1 ∨ seqSt s r = 6 ∨ (seqSt s r = 5 ∧ s.dueT .offT r = true) → Completes (.railOffCommand r) s fun t =>
      t.varB .offGot r = true ∧
      t.varB .dis r = false ∧
      t.varB .disOn r = true ∧
      t.var .offTick r = ((s.now + 1 : Nat) : Int) ∧
      (s.varN .offKind r ≠ 2 → seqSt t r = 7) ∧
      t.varB .offDue r = true ∧
      Within [Obj.seqState r, Obj.sequencerRailsUp, Obj.sequencerRailsFailed] [.offDue, .startDue, .offGot, .offTick, .dis, .disOn,
        .disPast, .disT, .offT, .hicT, .seqSince] s t) ∧
    (∀ (r : Nat), sequenced s r = true → s.varB .disOn r = true → s.var .vMean r < s.o (Obj.seqOffThr r) → Completes
        (.railDischarged r) s fun t =>
      t.varB .dis r = true ∧
      t.varB .disOn r = false ∧
      t.var .offKind r = 0 ∧
      t.condOn (48 + r) 0x12 = false ∧
      (seqSt s r = 7 → seqSt t r = 0) ∧
      Within [Obj.seqState r, Obj.sequencerRailsUp, Obj.sequencerRailsFailed, Obj.seqTDis r, Obj.srcCond (48 + r)] [.dis, .disOn,
        .disT, .scOv, .offKind, .offGot, .seqSince] s t) ∧
    (∀ (r : Nat), deciding s = true → sequenced s r = true → s.varB .disOn r = true → s.varB .dis r = false → s.dueT .disT r = true
        → s.o (Obj.seqOffThr r) ≤ s.var .vMean r → Completes (.dischargeWaitExpiry r) s fun t =>
      t.condOn (48 + r) 0x12 = true ∧
      t.varB .dis r = true ∧
      t.varB .disPast r = true ∧
      Within [Obj.srcCond (48 + r)] [.dis, .disPast, .disT, .scOv] s t)

/-- The yard advances, reverses, waits, aborts and completes an abort (R211 to R217, R220). Says that these complete: abortComplete,
yardAdvance, yardReadinessTimeout, yardAdvancePulse, yardReversePulse, yardHold, yardGlitch, yardAbort, backupLeaderAdvance. -/
def Obligations.YardEvents : Prop :=
  ∀ s : State,
    (deciding s = true → s.varB .yardGo = false → s.oN Obj.sequencerState = 5 → yardAlone s = true ∨ (s.pinB .yardLow = false ∧
        s.varB .yardHold = false) → (seqRails s).all (fun r => (!decide (s.varN .offKind r = 3) && !decide (seqSt s r =
        SS.discharging)) || s.varB .dis r) = true → s.bit Obj.sequencerPending 0 = false → Completes (.abortComplete) s fun t =>
      yardTo t = 0 ∧
      yardAt t = yardAt s ∧
      Within [] [.yardGo, .yardPulse] s t) ∧
    (deciding s = true → s.varB .yardGo = false → s.oN Obj.sequencerState ≠ 5 → yardAlone s = true → (1 ≤ yardAt s ∧ yardAt s ≤ 31)
        ∨ (33 ≤ yardAt s) → s.dueT .dwellT = true → yardReady s = true → Completes (.yardAdvance) s fun t =>
      yardTo t = (if yardAt s = 63 then 0 else yardAt s + 1) ∧
      yardAt t = yardAt s ∧
      Within [] [.yardGo, .yardPulse] s t) ∧
    (deciding s = true → s.varB .yardGo = false → s.oN Obj.sequencerState ≠ 5 → yardAlone s = false → yardRank s = 0 → s.pinB
        .yardLow = false → s.varB .yardHold = false → s.varB .yardPulse = false → (if yardAt s = 0 ∨ yardAt s = 32 then s.varB
        .yardReq else s.dueT .dwellT && yardReady s && yardHighLong s) = true → Completes (.yardAdvance) s fun t =>
      t.var .yardPulse = 1 ∧
      Within [] [.yardPulse] s t) ∧
    (deciding s = true → yardAlone s = true → s.oN Obj.sequencerState ≠ 5 → s.dueT .readyT = true → yardReady s = false → Completes
        (.yardReadinessTimeout) s fun t =>
      t.o Obj.sequencerState = 5 ∧
      t.o Obj.sequencerPending = 0 ∧
      t.o Obj.sequencerAborts = (s.bump Obj.sequencerAborts).o Obj.sequencerAborts ∧
      RegsWithin [Obj.sequencerState, Obj.sequencerPending, Obj.sequencerAborts, Obj.sequencerRailsUp, Obj.sequencerRailsFailed]
        [first64 Obj.seqState] [.holdMax, .yardPulse, .yardReq, .dwellT, .readyT, .upAt, .downAt, .failSrc, .scState, .onT, .offT,
        .relSeen, .pdisT, .pdisSrc, .disPast, .upCause, .downCause, .yardHold, .yardHoldT, .offKind, .offGot, .dis, .disOn, .disT,
        .abortFrom, .seqSince, .yardGo, .abortOff] s t) ∧
    (∀ (low : Nat), yardSteps s = true → s.mgtOn = true → 1000 ≤ low → low ≤ 4000 → s.oN Obj.sequencerState ≠ 5 → Completes
        (.yardAdvancePulse low) s fun t =>
      yardTo t = (if yardAt s = 63 then 0 else yardAt s + 1) ∧
      yardAt t = yardAt s ∧
      Within [] [.yardGo, .yardPulse, .upCause, .downCause] s t) ∧
    (∀ (low : Nat), s.mgtOn = true → 1000 ≤ low → low ≤ 4000 → yardAlone s = false → s.oN Obj.sequencerState ≠ 5 → deciding s =
        false → holder s = false → Completes (.yardAdvancePulse low) s fun t =>
      t.varN .yardSeen = (s.varN .yardSeen + 1) % 64 ∧
      yardTo t = yardTo s ∧
      Within [] [.yardSeen] s t) ∧
    (∀ (low : Nat), yardSteps s = true → s.mgtOn = true → 6000 ≤ low → low ≤ 10000 → 1 ≤ yardAt s → yardAt s ≤ 31 → s.oN
        Obj.sequencerState = 1 → Completes (.yardReversePulse low) s fun t =>
      yardTo t = 64 - yardAt s ∧
      yardAt t = yardAt s ∧
      Within [] [.yardGo, .yardPulse] s t) ∧
    (∀ (low : Nat), s.mgtOn = true → 12000 < low → low ≤ 1000000 → Completes (.yardHold low) s fun t =>
      t.varN .holdMax = max (s.varN .holdMax) (low / 1000) ∧
      Within [] [.holdMax, .yardReq] s t) ∧
    (∀ (low : Nat), s.mgtOn = true → low < 1000 ∨ (4000 < low ∧ low < 6000) ∨ (10000 < low ∧ low ≤ 12000) → Completes (.yardGlitch
        low) s fun t =>
      t.o Obj.yardGlitches = (s.bump Obj.yardGlitches).o Obj.yardGlitches ∧
      t.posts = s.posts ++ [22] ∧
      Within [Obj.yardGlitches] [.glitchRound, .limitStamp] s t) ∧
    (∀ (low : Nat), deciding s = true → s.mgtOn = true → 1000000 < low → s.varN .yardHold < 2 ∨ 4 < s.varN .yardHold → Completes
        (.yardAbort low) s fun t =>
      t.o Obj.sequencerState = 5 ∧
      t.o Obj.sequencerPending = 0 ∧
      t.o Obj.sequencerAborts = (s.bump Obj.sequencerAborts).o Obj.sequencerAborts ∧
      RegsWithin [Obj.sequencerState, Obj.sequencerPending, Obj.sequencerAborts, Obj.sequencerRailsUp, Obj.sequencerRailsFailed]
        [first64 Obj.seqState] [.holdMax, .yardPulse, .yardReq, .dwellT, .readyT, .upAt, .downAt, .failSrc, .scState, .onT, .offT,
        .relSeen, .pdisT, .pdisSrc, .disPast, .upCause, .downCause, .yardHold, .yardHoldT, .offKind, .offGot, .dis, .disOn, .disT,
        .abortFrom, .seqSince, .yardGo, .abortOff] s t) ∧
    (∀ (high : Nat), yardSteps s = true → 0 < yardRank s → 2000 + 50000 * yardRank s ≤ high → s.varB .yardPulse = false → ((1 ≤
        yardAt s ∧ yardAt s ≤ 31 ∨ 33 ≤ yardAt s) ∧ s.dueT .dwellT = true) ∨ ((yardAt s = 0 ∨ yardAt s = 32) ∧ s.varB .yardReq =
        true) → s.oN Obj.sequencerState ≠ 5 → s.varB .yardGo = false → Completes (.backupLeaderAdvance high) s fun t =>
      t.o Obj.yardLeader = s.o Obj.yardAddr ∧
      t.var .yardPulse = 1 ∧
      t.posts = s.posts ++ [22] ∧
      Within [Obj.yardLeader] [.yardPulse] s t)

/-- Insertion and removal, inrush, trips, cool-down and the backplane window (R298 to R308). That a sense fault trips with
last_cause 0x0A and without a retry (log entry 47), and which exit of one frame goes first (log entry 105), are the model's choice.
Says that these complete: cardRemoval, cardMated, hsDebounceMet, inrushStart, hsPowerGood, hsRetriesReset, currentLimiting,
fastTrip, soaTrip, breakerTrip, inrushTimeout, hsCooldownExpiry, backplaneOv, backplaneUv, backplaneWarn, inputFaultEnd,
shortedMosfet, shuntSenseFault. -/
def Obligations.InsertionEvents : Prop :=
  ∀ s : State,
    (s.varB .hsActive = true → hsNextSt s ≠ 0 → 2 ≤ s.varN .hsRem ∨ (hsSt s = 1 ∧ s.varB .hsRem = true) → Completes (.cardRemoval) s
        fun t =>
      hsNextSt t = 0 ∧
      hsSt t = hsSt s ∧
      hsSt (hsEnter (t.bit Obj.hsFlags 0 && t.bit Obj.hsFlags 1) t) = 0 ∧
      t.o Obj.hsRetriesUsed = 0 ∧
      t.o Obj.hsBounces = (if hsSt s = 1 then (s.bump Obj.hsBounces).o Obj.hsBounces else s.o Obj.hsBounces) ∧
      t.o Obj.hsLastCause = (if hsSt s = 4 ∨ hsSt s = 3 then 7 else s.o Obj.hsLastCause) ∧
      (hsSt s = 3 ∨ hsSt s = 4 → t.condOn 104 0 = true) ∧
      Within [Obj.srcCond 104, Obj.hsBounces, Obj.hsRetriesUsed, Obj.hsLastCause] [.hsGoto] s t) ∧
    (s.varB .hsActive = true → hsNextSt s = 0 ∧ hsSt s = 0 → s.pinB .earlyN = false → s.pinB .lateN = false → hsRankNow s < 4 →
        Completes (.cardMated) s fun t =>
      hsNextSt t = 1 ∧
      hsSt t = hsSt s ∧
      hsSt (hsEnter (t.bit Obj.hsFlags 0 && t.bit Obj.hsFlags 1) t) = 1 ∧
      t.condOn 104 0 = false ∧
      Within [Obj.srcCond 104] [.hsGoto] s t) ∧
    (hsNextSt s = 1 → hsSt s = 1 → s.metCond .hsDeb (s.oN Obj.hsDebounce * 1000) = true → Completes (.hsDebounceMet) s fun t =>
      hsNextSt t = 2 ∧
      hsSt t = hsSt s ∧
      hsSt (hsEnter (t.bit Obj.hsFlags 0 && t.bit Obj.hsFlags 1) t) = 2 ∧
      t.o Obj.hsInsertions = (s.bump Obj.hsInsertions).o Obj.hsInsertions ∧
      Within [Obj.hsInsertions] [.hsGoto] s t) ∧
    (hsNextSt s = 2 → hsSt s = 2 → s.oB Obj.hsAuto = true → hsWindow s = true → Completes (.inrushStart) s fun t =>
      hsNextSt t = (if hsMayStart s then 3 else 2) ∧
      hsSt t = 2 ∧
      Within [] [.hsGoto] s t) ∧
    (s.varB .hsGoto = false → hsSt s = 3 → s.metCond .hsPg (s.oN Obj.hsPgQual) = true → Completes (.hsPowerGood) s fun t =>
      hsNextSt t = 4 ∧
      hsSt t = hsSt s ∧
      hsSt (hsEnter (t.bit Obj.hsFlags 0 && t.bit Obj.hsFlags 1) t) = 4 ∧
      (hsEnter (t.bit Obj.hsFlags 0 && t.bit Obj.hsFlags 1) t).posts = s.posts ++ [41] ∧
      (hsEnter (t.bit Obj.hsFlags 0 && t.bit Obj.hsFlags 1) t).offers = s.offers ++
        [⟨0x0600, u32 (s.now - s.varN .hsSince : Nat) ++ u16 (min 65535 (divNearest (s.var .hsSoaPk) 1000000)) ++ u8 (s.o Obj.hsRetriesUsed), false⟩] ∧
      Within [] [.hsGoto] s t) ∧
    (hsSt s = 4 → s.dueTR .hsOnT = true → Completes (.hsRetriesReset) s fun t =>
      t.o Obj.hsRetriesUsed = 0 ∧
      t.var .hsOnT = 0 ∧
      Within [Obj.hsRetriesUsed] [.hsOnT] s t) ∧
    (∀ (i : Nat), hsSt s = 3 ∨ hsSt s = 4 → 5 * s.oN Obj.hsIlim ≤ 4 * i → Completes (.currentLimiting i) s fun t =>
      t.varB .hsLim = true ∧
      t.bit Obj.hsFlags 3 = true ∧
      Within [Obj.hsFlags] [.hsLim] s t) ∧
    (∀ (i : Nat), mayTrip s = true → 2 * s.oN Obj.hsIlim ≤ i → Completes (.fastTrip i) s fun t =>
      t.o Obj.hsLastCause = (if hsRankNow s < 2 then 1 else s.o Obj.hsLastCause) ∧
      t.o Obj.hsTrips = (s.bump Obj.hsTrips).o Obj.hsTrips ∧
      (hsRankNow s < 2 → hsNextSt t = 5) ∧
      (2 ≤ hsRankNow s → hsNextSt t = hsNextSt s) ∧
      (hsRankNow s < 2 → s.o Obj.hsRetriesUsed < s.o Obj.hsRetries → hsSt (hsEnter (t.bit Obj.hsFlags 0 && t.bit Obj.hsFlags 1) t) =
        5 ∧ (hsEnter (t.bit Obj.hsFlags 0 && t.bit Obj.hsFlags 1) t).o Obj.hsRetriesUsed = s.o Obj.hsRetriesUsed + 1) ∧
      (hsRankNow s < 2 → s.o Obj.hsRetries ≤ s.o Obj.hsRetriesUsed → hsSt (hsEnter (t.bit Obj.hsFlags 0 && t.bit Obj.hsFlags 1) t) =
        6 ∧ (hsEnter (t.bit Obj.hsFlags 0 && t.bit Obj.hsFlags 1) t).o Obj.hsRetriesUsed = s.o Obj.hsRetriesUsed) ∧
      hsSt t = hsSt s ∧
      hsGateOn t = false ∧
      t.arrived = s.arrived ++ [⟨101, 0, tripData 1 s, false⟩] ∧
      Within [Obj.hsLastCause, Obj.hsTrips] [.hsGoto, .hsTripped, .hsHalf, .hsCut] s t) ∧
    (∀ (i : Nat), tripState s = true → s.varN .hsTripped ≠ 0 → s.varN .hsTripped ≠ 1 → 2 * s.oN Obj.hsIlim ≤ i → Completes
        (.fastTrip i) s fun t =>
      t.o Obj.hsTrips = s.o Obj.hsTrips ∧
      t.o Obj.hsLastCause = (if hsRankNow s < 2 then 1 else s.o Obj.hsLastCause) ∧
      t.varN .hsTripped = 1 ∧
      hsGateOn t = false ∧
      (∀ e, e ∈ t.intake → e.src ≠ 101) ∧
      Within [Obj.hsLastCause] [.hsGoto, .hsTripped, .hsHalf, .hsCut] s t) ∧
    (mayTrip s = true → soaMet s = true → Completes (.soaTrip) s fun t =>
      t.o Obj.hsLastCause = (if hsRankNow s < 2 then 2 else s.o Obj.hsLastCause) ∧
      t.o Obj.hsTrips = (s.bump Obj.hsTrips).o Obj.hsTrips ∧
      (hsRankNow s < 2 → hsNextSt t = 5) ∧
      (2 ≤ hsRankNow s → hsNextSt t = hsNextSt s) ∧
      (hsRankNow s < 2 → s.o Obj.hsRetriesUsed < s.o Obj.hsRetries → hsSt (hsEnter (t.bit Obj.hsFlags 0 && t.bit Obj.hsFlags 1) t) =
        5 ∧ (hsEnter (t.bit Obj.hsFlags 0 && t.bit Obj.hsFlags 1) t).o Obj.hsRetriesUsed = s.o Obj.hsRetriesUsed + 1) ∧
      (hsRankNow s < 2 → s.o Obj.hsRetries ≤ s.o Obj.hsRetriesUsed → hsSt (hsEnter (t.bit Obj.hsFlags 0 && t.bit Obj.hsFlags 1) t) =
        6 ∧ (hsEnter (t.bit Obj.hsFlags 0 && t.bit Obj.hsFlags 1) t).o Obj.hsRetriesUsed = s.o Obj.hsRetriesUsed) ∧
      hsSt t = hsSt s ∧
      t.intake = s.intake ++ [⟨101, 1, tripData 2 s, false⟩] ∧
      Within [Obj.hsLastCause, Obj.hsTrips] [.hsGoto, .hsTripped, .hsHalf] s t) ∧
    (mayTrip s = true → s.metCond .hsCb (s.oN Obj.hsCbFilt) = true → soaMet s = false → Completes (.breakerTrip) s fun t =>
      t.o Obj.hsLastCause = (if hsRankNow s < 2 then 3 else s.o Obj.hsLastCause) ∧
      t.o Obj.hsTrips = (s.bump Obj.hsTrips).o Obj.hsTrips ∧
      (hsRankNow s < 2 → hsNextSt t = 5) ∧
      (2 ≤ hsRankNow s → hsNextSt t = hsNextSt s) ∧
      (hsRankNow s < 2 → s.o Obj.hsRetriesUsed < s.o Obj.hsRetries → hsSt (hsEnter (t.bit Obj.hsFlags 0 && t.bit Obj.hsFlags 1) t) =
        5 ∧ (hsEnter (t.bit Obj.hsFlags 0 && t.bit Obj.hsFlags 1) t).o Obj.hsRetriesUsed = s.o Obj.hsRetriesUsed + 1) ∧
      (hsRankNow s < 2 → s.o Obj.hsRetries ≤ s.o Obj.hsRetriesUsed → hsSt (hsEnter (t.bit Obj.hsFlags 0 && t.bit Obj.hsFlags 1) t) =
        6 ∧ (hsEnter (t.bit Obj.hsFlags 0 && t.bit Obj.hsFlags 1) t).o Obj.hsRetriesUsed = s.o Obj.hsRetriesUsed) ∧
      hsSt t = hsSt s ∧
      t.intake = s.intake ++ [⟨101, 2, tripData 3 s, false⟩] ∧
      Within [Obj.hsLastCause, Obj.hsTrips] [.hsGoto, .hsTripped, .hsHalf] s t) ∧
    (mayTrip s = true ∧ hsSt s = 3 → s.dueTR .hsT = true → soaMet s = false → s.metCond .hsCb (s.oN Obj.hsCbFilt) = false →
        s.metCond .hsPg (s.oN Obj.hsPgQual) = false → Completes (.inrushTimeout) s fun t =>
      t.o Obj.hsLastCause = (if hsRankNow s < 2 then 4 else s.o Obj.hsLastCause) ∧
      t.o Obj.hsTrips = (s.bump Obj.hsTrips).o Obj.hsTrips ∧
      (hsRankNow s < 2 → hsNextSt t = 5) ∧
      (2 ≤ hsRankNow s → hsNextSt t = hsNextSt s) ∧
      (hsRankNow s < 2 → s.o Obj.hsRetriesUsed < s.o Obj.hsRetries → hsSt (hsEnter (t.bit Obj.hsFlags 0 && t.bit Obj.hsFlags 1) t) =
        5 ∧ (hsEnter (t.bit Obj.hsFlags 0 && t.bit Obj.hsFlags 1) t).o Obj.hsRetriesUsed = s.o Obj.hsRetriesUsed + 1) ∧
      (hsRankNow s < 2 → s.o Obj.hsRetries ≤ s.o Obj.hsRetriesUsed → hsSt (hsEnter (t.bit Obj.hsFlags 0 && t.bit Obj.hsFlags 1) t) =
        6 ∧ (hsEnter (t.bit Obj.hsFlags 0 && t.bit Obj.hsFlags 1) t).o Obj.hsRetriesUsed = s.o Obj.hsRetriesUsed) ∧
      hsSt t = hsSt s ∧
      t.intake = s.intake ++ [⟨101, 3, tripData 4 s, false⟩] ∧
      Within [Obj.hsLastCause, Obj.hsTrips] [.hsGoto, .hsTripped, .hsHalf] s t) ∧
    (hsNextSt s = 5 → hsSt s = 5 → s.dueTR .hsT = true → 2 * s.var .hsSoa ≤ s.o Obj.hsSoaLim * 1000 → Completes (.hsCooldownExpiry)
        s fun t =>
      hsNextSt t = (if s.bit Obj.hsFlags 7 then 5 else 3) ∧
      hsSt t = 5 ∧
      Within [] [.hsGoto] s t) ∧
    (s.varB .hsActive = true → s.metCond .hsOv (s.oN Obj.hsVinFilt) = true → s.condOn 103 0 = false ∨ hsNextSt s ≠ 8 → ¬ (hsNextSt s
        = 0 ∧ 2 ≤ s.varN .hsRem) → hsRankNow s < 4 → Completes (.backplaneOv) s fun t =>
      hsNextSt t = 8 ∧
      hsSt t = hsSt s ∧
      hsSt (hsEnter (t.bit Obj.hsFlags 0 && t.bit Obj.hsFlags 1) t) = 8 ∧
      t.o Obj.hsLastCause = 5 ∧
      t.condOn 103 0 = true ∧
      Within [Obj.hsLastCause, Obj.srcCond 103] [.hsGoto, .hsFault] s t) ∧
    (s.varB .hsActive = true → s.metCond .hsUv (s.oN Obj.hsVinFilt) = true → s.condOn 103 2 = false ∨ hsNextSt s ≠ 8 → ¬ (hsNextSt s
        = 0 ∧ 2 ≤ s.varN .hsRem) → hsRankNow s < 4 → Completes (.backplaneUv) s fun t =>
      hsNextSt t = 8 ∧
      hsSt t = hsSt s ∧
      hsSt (hsEnter (t.bit Obj.hsFlags 0 && t.bit Obj.hsFlags 1) t) = 8 ∧
      t.o Obj.hsLastCause = 6 ∧
      t.condOn 103 2 = true ∧
      Within [Obj.hsLastCause, Obj.srcCond 103] [.hsGoto, .hsFault] s t) ∧
    (s.varB .hsActive = true → s.metCond .hsWarn (s.oN Obj.hsVinFilt) = true → s.condOn 103 1 = false → Completes (.backplaneWarn) s
        fun t =>
      t.condOn 103 1 = true ∧
      t.intake = s.intake ++ [⟨103, 1, u8 1 ++ u16 (s.o Obj.hsVin) ++ u16 (s.o Obj.hsVinWarn), false⟩] ∧
      Within [Obj.srcCond 103] [] s t) ∧
    (hsNextSt s = 8 ∧ s.varB .hsGoto = false → (if s.var .hsFault = 1 then decide (s.pin .hsVin < (s.o Obj.hsVinOv - s.o
        Obj.hsVinHys) * 10) else decide ((s.o Obj.hsVinUv + s.o Obj.hsVinHys) * 10 < s.pin .hsVin)) = true → Completes
        (.inputFaultEnd) s fun t =>
      hsNextSt t = 1 ∧
      hsSt t = hsSt s ∧
      hsSt (hsEnter (t.bit Obj.hsFlags 0 && t.bit Obj.hsFlags 1) t) = 1 ∧
      Within [] [.hsGoto] s t) ∧
    (s.metCond .hsFet 64 = true → s.condOn 106 0 = false → Completes (.shortedMosfet) s fun t =>
      t.condOn 106 0 = true ∧
      t.bit Obj.hsFlags 6 = true ∧
      Within [Obj.hsFlags, Obj.srcCond 106] [] s t) ∧
    (s.metCond .hsSense 8 = true → s.condOn 106 1 = false → Completes (.shuntSenseFault) s fun t =>
      t.condOn 106 1 = true ∧
      t.bit Obj.hsFlags 7 = true ∧
      (mayTrip s = true → soaMet s = false → hsRankNow s < 2 → hsNextSt t = 5 ∧ hsSt (hsEnter (t.bit Obj.hsFlags 0 && t.bit
        Obj.hsFlags 1) t) = 5 ∧ (hsEnter (t.bit Obj.hsFlags 0 && t.bit Obj.hsFlags 1) t).o Obj.hsRetriesUsed = s.o
        Obj.hsRetriesUsed) ∧
      hsSt t = hsSt s ∧
      Within [Obj.hsFlags, Obj.hsLastCause, Obj.hsTrips, Obj.srcCond 106] [.hsGoto, .hsTripped, .hsHalf, .hsAsk] s t)

/-- The VIN_MGT warning, its end, the loss of the main input and its return (R309 to R312). Says that these complete: vinMgtWarning,
vinMgtWarningEnd, mainInputLost, mainInputValid. -/
def Obligations.InputMonitorEvents : Prop :=
  ∀ s : State,
    (s.oN Obj.mgtState = 0 → s.metCond .mgtWarn (s.oN Obj.mgtVwarnFilt) = true → Completes (.vinMgtWarning) s fun t =>
      t.o Obj.mgtState = 1 ∧
      t.o Obj.mgtDips = (s.bump Obj.mgtDips).o Obj.mgtDips ∧
      t.o Obj.mgtVmin = s.o Obj.mgtVin ∧
      t.bit Obj.mgtPrep 0 = true ∧
      t.condOn 105 0 = true ∧
      Within [Obj.mgtState, Obj.mgtDips, Obj.mgtVmin, Obj.mgtPrep, Obj.srcCond 105] [.mgtAt, .commitReq, .commitReqRound] s t) ∧
    (s.oN Obj.mgtState = 1 → s.metCond .mgtRec (s.oN Obj.mgtRecTime) = true → Completes (.vinMgtWarningEnd) s fun t =>
      t.o Obj.mgtState = 0 ∧
      t.o Obj.mgtPrep = 0 ∧
      t.condOn 105 0 = false ∧
      t.offers = s.offers ++ [⟨0x0605, u16 (s.o Obj.mgtVmin) ++ u32 (s.now - s.varN .mgtAt : Nat) ++ u8 (s.o Obj.mgtPrep), false⟩] ∧
      Within [Obj.mgtState, Obj.mgtPrep, Obj.srcCond 105] [] s t) ∧
    (∀ (v : Nat), v < 4200 → s.oN Obj.mgtState ≠ 2 → s.mgtOn = true → Completes (.mainInputLost v) s fun t =>
      t.o Obj.mgtState = 2 ∧
      t.o Obj.mgtLosses = (s.bump Obj.mgtLosses).o Obj.mgtLosses ∧
      t.bit Obj.mgtPrep 0 = true ∧
      t.condOn 105 1 = true ∧
      Within [Obj.mgtState, Obj.mgtLosses, Obj.mgtPrep, Obj.srcCond 105] [.mgtLostAt, .mgtValidAt, .mgtRec, .commitReq,
        .commitReqRound] s t) ∧
    (s.oN Obj.mgtState = 2 → s.varB .mgtRec = true → Completes (.mainInputValid) s fun t =>
      t.o Obj.mgtState = 0 ∧
      t.o Obj.mgtPrep = 0 ∧
      t.condOn 105 0 = false ∧
      t.condOn 105 1 = false ∧
      t.posts = s.posts ++ [44] ∧
      t.varB .mgtEver = true ∧
      Within [Obj.mgtState, Obj.mgtPrep, Obj.srcCond 105] [.mgtEver] s t)

/-- The events of the fault marshal (R226, R241, R247). Says that these complete: countWindowClose, quietPeriodExpiry,
lostRecordOffer. -/
def Obligations.MarshalEvents : Prop :=
  ∀ s : State,
    (∀ (src : Nat), src < 256 → s.dueTR .winT src = true → Completes (.countWindowClose src) s fun t =>
      t.o (Obj.srcWinCount src) = 0 ∧
      t.var .winT src = 0 ∧
      t.varB .winPosted src = false ∧
      t.offers = s.offers ∧ t.posts = s.posts ∧ t.intake = s.intake ∧
      Within [Obj.srcWinCount src] [.winT, .winPosted] s t) ∧
    (∀ (src : Nat), 256 ≤ src ∨ s.dueTR .winT src = false → Completes (.countWindowClose src) s fun t =>
      t = s) ∧
    (∀ (src : Nat), src < 256 → s.o (Obj.srcUncleared src) ≠ 0 → s.o (Obj.srcCond src) = 0 → s.varN .quietStart src + s.oN
        (Obj.srcQuiet src) * 1000 ≤ s.nowRound → restartsQuiet src s = false → Completes (.quietPeriodExpiry src) s fun t =>
      (∀ c, c < 32 → t.bit (Obj.srcUncleared src) c = false) ∧
      t.o (Obj.srcRecoveries src) = (s.bump (Obj.srcRecoveries src)).o (Obj.srcRecoveries src) ∧
      t.o Obj.marshalRecoveries = (s.bump Obj.marshalRecoveries).o Obj.marshalRecoveries ∧
      (∀ c, c < 32 → s.bit (Obj.srcUncleared src) c = true → t.bit (Obj.srcUnack src) c = false) ∧
      t.posts = s.posts ++ [26] ∧
      t.offers = s.offers ++
        [⟨0x0403, u8 src ++ u32 (s.o (Obj.srcUncleared src)) ++ u8 (srcLevelUp s src - 1 : Nat) ++ u16 (t.o (Obj.srcRecoveries src)), false⟩] ∧
      t.intake = s.intake ∧
      t.bit Obj.marshalInFault src = false ∧
      Within [Obj.srcUnack src, Obj.srcUncleared src, Obj.srcLevel src, Obj.srcHiccups src, Obj.srcRecoveries src,
        Obj.marshalRecoveries, Obj.marshalLevel, Obj.marshalInFault] [.clsLevel, .series, .limitStamp] s t) ∧
    (∀ (src : Nat), 256 ≤ src ∨ s.o (Obj.srcUncleared src) = 0 ∨ s.o (Obj.srcCond src) ≠ 0 ∨ restartsQuiet src s = true ∨ s.nowRound
        < s.varN .quietStart src + s.oN (Obj.srcQuiet src) * 1000 → Completes (.quietPeriodExpiry src) s fun t =>
      t = s) ∧
    (let u := ((List.range 256).filter fun src => s.varB .lostSince src).take (256 - (s.queue.length + s.offers.length)); Completes
        (.lostRecordOffer) s fun t =>
      t.offers = s.offers ++ u.map (fun (src : Nat) =>
        (⟨0x0405, u8 src ++ u32 (s.var .lostClasses src) ++ u16 (min 65535 (s.varN .lostSince src) : Nat), false⟩ : Offer)) ∧
      (∀ src ∈ u, t.var .lostSince src = 0 ∧ t.var .lostClasses src = 0) ∧
      (∀ src, src < 256 → src ∉ u → t.var .lostSince src = s.var .lostSince src ∧ t.var .lostClasses src = s.var .lostClasses src) ∧
      t.intake = s.intake ∧ t.posts = s.posts ∧
      Within [] [.lostSince, .lostClasses] s t)

/-- The events of the thermal controller (R377, R382). What a sensor not yet read counts as, and that SENSOR_RESTORED takes the
lowest sensor first, are the model's choice (log entry 58). Says that these complete: calibrationFailure, sensorRestored. -/
def Obligations.ThermalEvents : Prop :=
  ∀ s : State,
    (converterFailed s = true → s.condOn 124 0 = false → Completes (.calibrationFailure) s fun t =>
      t.condOn 124 0 = true ∧
      (∀ j, j < 16 → thJudged s (9 + j) = true → thBroken t (9 + j) = true) ∧
      WithinAll [Obj.srcCond 124, Obj.srcCond 122, Obj.thBroken, Obj.thTDie, Obj.thTDieMax, Obj.thTPack, Obj.thFlags,
        Obj.thChgCeiling, Obj.thScaleTarget, Obj.thLimiter] [Obj.thDT, Obj.tmT] [.thGood, .thSince] s t) ∧
    (∀ (i : Nat), (List.range 25).find? (restorable s) = some i → Completes (.sensorRestored) s fun t =>
      thBroken t i = false ∧
      t.condOn 122 i = false ∧
      t.o (thKey i) = s.var .thLast i ∧
      t.posts = s.posts ++ [66] ∧
      Within [Obj.srcCond 122, Obj.thBroken, thKey i, Obj.thTDie, Obj.thTDieMax, Obj.thTPack, Obj.thFlags, Obj.thChgCeiling,
        Obj.thScaleTarget, Obj.thLimiter] [] s t)

/-- The harness, the mirror frame and its deltas (R262 to R264, R267, R274, R292). That a mirror frame which shows the own position
is no failed frame (log entry 113), and that the tick counts of R274 are read as durations (log entry 98), are the model's choice.
Says that these complete: deltaResend, mirrorFrameCheck, harnessUp, symbolLockGained, symbolLockLost, cfgMismatch, driveViolation.
-/
def Obligations.TeamLinkEvents : Prop :=
  ∀ s : State,
    (∀ (e : SentDelta) (rest : List SentDelta), s.dsent = e :: rest → teamed s = true → e.frame + 6 ≤ s.now → s.varB .dqResend =
        false → Completes (.deltaResend) s fun t =>
      t.var .dqResend = ((e.seq + 1 : Nat) : Int) ∧
      t.o Obj.hlResends = (s.bumpSat Obj.hlResends).o Obj.hlResends ∧
      Within [Obj.hlResends] [.dqResend] s t) ∧
    (∀ (rx : MirrorRx), teamed s = true → s.mgtOn = true → s.oN Obj.testActive ≠ 8 → rx.lock0 = false ∨ rx.lock1 = false → Completes
        (.mirrorFrameCheck rx) s fun t =>
      t.var .missCnt = s.var .missCnt + 1 ∧
      t.var .goodCnt = 0 ∧
      t.bit Obj.teamLink 2 = false) ∧
    (∀ (rx : MirrorRx), teamed s = true → s.mgtOn = true → s.oN Obj.testActive ≠ 8 → rx.lock0 = true → rx.lock1 = true → rx.marks =
        true → rx.blocks.length = 8 → rx.blocks.any (fun b => b.length ≠ 38) = false → (mirrorDecode rx).2.2 = 0 → field
        (mirrorDecode rx).1 0 1 = 1 → s.varB .lastFrame = false ∨ s.varN .missCnt ≠ 0 ∨ field (mirrorDecode rx).1 2 4 = s.varN
        .lastFrame % 2 ^ 32 → Completes (.mirrorFrameCheck rx) s fun t =>
      t.var .missCnt = 0 ∧
      t.var .lastFrame = ((field (mirrorDecode rx).1 2 4 + 1 : Nat) : Int)) ∧
    (teamed s = true → s.bit Obj.teamLink 3 = false → 100 ≤ s.varN .goodCnt → Completes (.harnessUp) s fun t =>
      t.bit Obj.teamLink 3 = true ∧
      t.condOn 140 1 = false ∧
      t.offers = s.offers ++ [⟨0x0503, u32 (s.now - s.varN .downAt_ : Nat), false⟩] ∧
      Within [Obj.teamLink, Obj.srcCond 140] [.linkUpAt] s t) ∧
    (∀ (lane skew : Nat), lane < 2 → s.mgtOn = true → Completes (.symbolLockGained lane skew) s fun t =>
      t.bit Obj.teamLink lane = true ∧
      t.o Obj.hlSkew = ((min skew 255 : Nat) : Int) ∧
      Within [Obj.teamLink, Obj.hlSkew] [] s t) ∧
    (∀ (lane : Nat), lane < 2 → Completes (.symbolLockLost lane) s fun t =>
      t.bit Obj.teamLink lane = false ∧
      Within [Obj.teamLink] [] s t) ∧
    (role s = Role.standby → 1000 ≤ s.varN .cfgBad → s.mainOn = true → Completes (.cfgMismatch) s fun t =>
      role t = Role.out ∧
      t.condOn 144 0 = true ∧
      t.var .cfgBad = 0 ∧
      (∀ r, r < 20 → railExists s r = true → railState t r = if railState s r = RS.failed then RS.failed else RS.off) ∧
      RegsWithin [Obj.teamRole, Obj.teamLastCause, Obj.teamLastTime, Obj.srcCond 144, Obj.teamDqDepth, Obj.clkRefState,
        Obj.clkStatus] railOffObjs ([.swapOn, .swapReq, .yieldOn, .yieldDue, .releaseDue, .admReq, .reinPend, .xfer, .cfgBad,
        .electable, .clkPull, .clkReturn, .holdoverT] ++ railOffKinds) s t) ∧
    (role s = Role.standby → 1000 ≤ s.varN .cfgBad → s.mainOn = false → Completes (.cfgMismatch) s fun t =>
      role t = Role.out ∧
      t.condOn 144 0 = true ∧
      t.var .cfgBad = 0 ∧
      (∀ r, r < 20 → railExists s r = true → railState t r = if railState s r = RS.failed then RS.failed else RS.off)) ∧
    (∀ (kind num : Nat) (x : NetSeen), role s = Role.standby → s.oB Obj.teamDriveChk = true → 1 ≤ kind → kind < 4 → impliedLevel s
        kind num = some (!x.high) → 64000 ≤ x.ns → Completes (.driveViolation kind num x) s fun t =>
      t.var .violAt = ((s.now + 1 : Nat) : Int) ∧
      t.var .violKind = kind ∧
      t.var .violNum = num ∧
      t.var .violDur = x.ns ∧
      Within [] [.violAt, .violKind, .violNum, .violDur] s t)

/-- Takeover, the rein lines, yield and swap, election and admission (R257, R259, R276 to R290). That the token is taken by
REIN_LOAD_CHECK, and that a swap, an admission and a release act at the next tick, are the model's choice (log entry 98). Says that
these complete: takeover, reinLoadCheck, reinInAsserted, twinLostSolo, yieldNotTaken, swapDrained, swapTimeout, joinWaitExpiry,
admissionRequest, admissionTimeout, admissionComplete, readmitWaitExpiry. -/
def Obligations.TokenEvents : Prop :=
  ∀ s : State,
    (∀ (trigger gap : Nat), role s = Role.standby → teamed s = true → reinFree s = true → triggerHolds s trigger = true → s.varB
        .reinPend = false → Completes (.takeover trigger gap) s fun t =>
      role t = role s ∧
      t.bit Obj.teamLink 5 = true ∧
      t.varB .reinPend = true ∧
      t.varN .reinTrig = trigger ∧
      t.varN .reinGap = min gap 65535 ∧
      Within [Obj.teamLink] [.reinPend, .reinTrig, .reinGap] s t) ∧
    (∀ (load : Nat), s.varB .reinPend = true → load < 250 → Completes (.reinLoadCheck load) s fun t =>
      role t = role s ∧
      t.bit Obj.teamLink 5 = false ∧
      t.bit Obj.teamLink 6 = false ∧
      t.condOn 142 1 = true ∧
      t.var .reinPend = 0 ∧
      Within [Obj.teamLink, Obj.srcCond 142] [.reinPend] s t) ∧
    (∀ (load : Nat), s.varB .reinPend = true → 250 ≤ load → role s = Role.standby → Completes (.reinLoadCheck load) s fun t =>
      role t = Role.solo ∧
      t.o Obj.teamEpoch = (((max (s.oN Obj.teamEpoch) (s.varN .twinEpoch) + 1) % 2 ^ 32 : Nat) : Int) ∧
      t.bit Obj.teamLink 6 = true ∧
      t.condOn 142 1 = false ∧
      t.var .reinPend = 0 ∧
      t.o Obj.teamTakeovers = (s.bump Obj.teamTakeovers).o Obj.teamTakeovers ∧
      t.o Obj.teamLastGap = s.var .reinGap ∧
      t.dq = [] ∧ t.dsent = [] ∧
      (∀ b, b < 8 → t.varB .abAdopt b = true) ∧
      RegsWithin [Obj.teamLink, Obj.srcCond 142, Obj.teamRole, Obj.teamLastCause, Obj.teamLastTime, Obj.teamEpoch,
        Obj.teamTakeovers, Obj.teamLastGap, Obj.clkRefState, Obj.clkStatus, Obj.teamDqDepth] [Obj.srcLevel] [.reinPend, .driveFrom,
        .electable, .clkPull, .clkReturn, .holdoverT, .clsLevel, .twinYield, .violAt, .swapReq, .abGrid, .abAdopt, .offKind,
        .offGot, .offT, .dis, .disOn] s t) ∧
    (s.pinB .reinIn = true → teamed s = true → role s ≠ Role.out → s.mainOn = true → Completes (.reinInAsserted) s fun t =>
      role t = Role.out ∧
      t.bit Obj.teamLink 5 = false ∧
      t.condOn 142 0 = true ∧
      t.var .safeWait = 0 ∧
      (∀ r, r < 20 → railExists s r = true → railState t r = if railState s r = RS.failed then RS.failed else RS.off) ∧
      RegsWithin [Obj.teamRole, Obj.teamLastCause, Obj.teamLastTime, Obj.teamLink, Obj.srcCond 142, Obj.clkRefState, Obj.clkStatus,
        Obj.teamDqDepth] railOffObjs ([.swapOn, .swapReq, .yieldOn, .admReq, .reinPend, .xfer, .safeWait, .clkPull, .clkReturn,
        .electable, .holdoverT, .releaseDue, .yieldDue] ++ railOffKinds) s t) ∧
    (s.pinB .reinIn = true → teamed s = true → role s ≠ Role.out → s.mainOn = false → Completes (.reinInAsserted) s fun t =>
      role t = Role.out ∧
      t.bit Obj.teamLink 5 = false ∧
      t.condOn 142 0 = true ∧
      t.var .safeWait = 0 ∧
      (∀ r, r < 20 → railExists s r = true → railState t r = if railState s r = RS.failed then RS.failed else RS.off)) ∧
    (holder s = true → teamed s = true → s.dueT .lostT = true → s.bit Obj.teamLink 3 = false → s.pinB .reinIn = false → Completes
        (.twinLostSolo) s fun t =>
      role t = Role.solo ∧
      t.o Obj.teamLastCause = 9 ∧
      t.o Obj.teamTwinRole = 0xFF ∧
      t.bit Obj.teamLink 5 = true ∧
      t.var .lostT = 0 ∧
      t.dq = [] ∧ t.dsent = [] ∧
      RegsWithin [Obj.teamRole, Obj.teamLastCause, Obj.teamLastTime, Obj.teamLink, Obj.teamTwinRole, Obj.teamDqDepth] [] [.lostT] s
        t) ∧
    (s.varB .yieldOn = true → s.varN .yieldAt + 5 ≤ s.now → s.pinB .reinIn = false → s.mainOn = true → Completes (.yieldNotTaken) s
        fun t =>
      t.varB .yieldOn = false ∧
      t.varB .swapOn = false ∧
      t.intake = s.intake ++ [⟨146, 0, u8 (s.var .yieldCause) ++ u8 (State.ofBool (s.varB .safeWait)), false⟩] ∧
      t.varB .swapReq = false ∧
      Within [] [.yieldOn, .swapOn, .swapReq] s t) ∧
    (s.varB .yieldOn = true → s.varN .yieldAt + 5 ≤ s.now → s.pinB .reinIn = false → s.mainOn = false → Completes (.yieldNotTaken) s
        fun t =>
      t.varB .yieldOn = false ∧
      t.varB .swapOn = false ∧
      t.varB .swapReq = false ∧
      (∀ r, r < 20 → railExists s r = true → r ≠ 18 → r ≠ 19 → railState t r = RS.off)) ∧
    (s.varB .swapOn = true → holder s = true → s.varB .yieldOn = false → s.dq = [] → s.dsent = [] → Completes (.swapDrained) s fun t
        =>
      t.varB .yieldOn = true ∧
      t.varN .yieldCause = s.varN .swapOn - 1 ∧
      t.varN .yieldAt = s.now ∧
      Within [] [.yieldOn, .yieldCause, .yieldAt] s t) ∧
    (s.varB .swapOn = true → holder s = true → s.varB .yieldOn = false → s.varN .swapAt + 32 ≤ s.now → Completes (.swapTimeout) s
        fun t =>
      t.varB .swapOn = false ∧
      t.varB .swapReq = false ∧
      t.intake = s.intake ++ [⟨147, 1, u8 1 ++ u8 (s.var .swapTo - 1), false⟩] ∧
      Within [] [.swapOn, .swapReq] s t) ∧
    (teamed s = true → s.varB .electable = true → role s = Role.out → s.varB .joinT = true → s.varN .joinT + (if position s = 1 then
        1000 else 0) ≤ s.now + 1 → reinFree s = true → Completes (.joinWaitExpiry) s fun t =>
      role t = Role.solo ∧
      t.o Obj.teamEpoch = (((max (s.oN Obj.teamEpoch) (s.varN .twinEpoch) + 1) % 2 ^ 32 : Nat) : Int) ∧
      t.bit Obj.teamLink 5 = true ∧
      t.var .joinT = 0 ∧
      Within [Obj.teamRole, Obj.teamLastCause, Obj.teamLastTime, Obj.teamEpoch, Obj.teamLink, Obj.clkRefState, Obj.clkStatus]
        [.driveFrom, .joinT, .electable, .clkPull, .clkReturn, .holdoverT, .abGrid] s t) ∧
    (teamed s = true → role s = Role.out → s.mode = .setup ∨ s.mode = .run → s.mainOn = true → faultFree s = true → s.bit
        Obj.teamLink 3 = true → s.varN .linkUpAt + 100 ≤ s.now + 1 → s.varB .twinTok = true → s.varB .admReq = false → (s.varB
        .readmitOk || (s.oB Obj.teamAutoAdmit && !s.varB .readmitT)) = true → Completes (.admissionRequest) s fun t =>
      t.varB .admReq = true ∧
      t.varB .readmitOk = false ∧
      Within [] [.admReq, .readmitOk] s t) ∧
    (s.oN Obj.teamAdmState = 1 ∨ s.oN Obj.teamAdmState = 2 → role s = Role.out ∨ holder s = true → s.bit Obj.teamLink 3 = false ∨
        (role s = Role.out ∧ s.varB .twinTok = false) ∨ (s.oN Obj.teamAdmState = 1 ∧ s.dueT .admT = true) ∨
      (s.oN
        Obj.teamAdmState = 2 ∧ s.dueT .admT = true ∧ (if role s = Role.out then s.varB .admEnd = false else xferDone s = false)) →
        Completes (.admissionTimeout) s fun t =>
      t.o Obj.teamAdmState = 5 ∧
      WithinAll [Obj.teamAdmState, Obj.srcCond 144] railOffObjs ([.admT, .admReq, .xfer, .readmitT] ++ railOffKinds) s t) ∧
    (s.oN Obj.teamAdmState = 2 → s.dueT .admT = true → holder s = true → xferDone s = true → Completes (.admissionComplete) s fun t
        =>
      t.o Obj.teamAdmState = 4 ∧
      t.bit Obj.teamLink 5 = false ∧
      t.var .admT = 0 ∧
      t.posts = s.posts ++ [37] ∧
      t.varN .admAt = s.now ∧
      Within [Obj.teamAdmState, Obj.teamLink] [.admT, .admAt] s t) ∧
    (s.oN Obj.teamAdmState = 2 → s.dueT .admT = true → role s = Role.out → s.varB .admEnd = true → s.pinB .reinIn = false → s.mainOn
        = true → s.varB .admReq = true → Completes (.admissionComplete) s fun t =>
      role t = Role.standby ∧
      t.o Obj.teamAdmState = 4 ∧
      t.var .admReq = 0 ∧
      t.var .admT = 0 ∧
      t.o Obj.clkRefState = 5 ∧
      Within [Obj.teamRole, Obj.teamLastCause, Obj.teamLastTime, Obj.teamAdmState, Obj.clkRefState, Obj.clkStatus] [.admT, .admReq,
        .electable, .clkPull, .clkReturn, .holdoverT] s t) ∧
    (s.dueTR .readmitT = true → Completes (.readmitWaitExpiry) s fun t =>
      t.var .readmitT = 0 ∧
      t.varB .readmitOk = s.oB Obj.teamAutoAdmit ∧
      Within [] [.readmitT, .readmitOk] s t)

/-- The events of the studbook (R458 to R468). Says that these complete: recordAssembly, exportReady, exportTimeout,
blackBoxComplete. -/
def Obligations.StudbookEvents : Prop :=
  ∀ s : State,
    (∀ (e : QEntry) (q : List QEntry), let u := offerRecords (slotsBy slot30End s); s.queue ≠ [] → u.queue = e :: q → u.mgtOn = true
        → u.buf.length < 128 → u.varN .asmFrame ≠ u.now + 1 → foldTarget u e = none → expHolds u (u.oN Obj.sbHead) = false → u.oN
        Obj.sbHead < 8192 → Completes (.recordAssembly) s fun t =>
      t.queue = q ∧
      t.o Obj.sbHead = (((u.oN Obj.sbHead + 1) % 8192 : Nat) : Int) ∧
      t.oN Obj.sbLap = (if u.oN Obj.sbHead = 8191 then (u.oN Obj.sbLap + 1) % 256 else u.oN Obj.sbLap) ∧
      t.o Obj.sbRecords = (u.bump Obj.sbRecords).o Obj.sbRecords ∧
      t.posts = u.posts ++ (if u.oN Obj.sbHead = 8191 then [100] else []) ∧
      t.o Obj.marshalQDepth = ((q.length : Nat) : Int) ∧
      t.mram = u.mram ∧
      RegsWithin [Obj.nvmBufLines, Obj.nvmState, Obj.sbHead, Obj.sbLap, Obj.sbRecords, Obj.marshalQDepth, Obj.marshalQMax,
        Obj.nvmCorrected, Obj.nvmUncorr, Obj.nvmLastBad, Obj.ledgerStatus] [Obj.sbRet04] [.commitReq, .commitReqRound, .asmFrame,
        .ringSum, .retired, .retSum, .terrierRec, .ledLost] u t) ∧
    (∀ (e : QEntry) (q : List QEntry) (p : Nat) (d : List Byte), let u := offerRecords (slotsBy slot30End s); s.queue ≠ [] → u.queue
        = e :: q → u.mgtOn = true → u.buf.length < 128 → u.varN .asmFrame ≠ u.now + 1 → foldTarget u e = some (p, d) → Completes
        (.recordAssembly) s fun t =>
      t.queue = q ∧
      t.o Obj.sbFolds = (u.bump Obj.sbFolds).o Obj.sbFolds ∧
      t.o Obj.sbHead = u.o Obj.sbHead ∧
      t.mram = u.mram ∧
      RegsWithin [Obj.nvmBufLines, Obj.nvmState, Obj.sbFolds, Obj.marshalQDepth, Obj.marshalQMax, Obj.nvmCorrected, Obj.nvmUncorr,
        Obj.nvmLastBad, Obj.ledgerStatus] [] [.commitReq, .commitReqRound, .asmFrame, .ringSum, .terrierRec, .ledLost] u t) ∧
    (∀ (e : QEntry) (q : List QEntry), let u := offerRecords (slotsBy slot30End s); s.queue ≠ [] → u.queue = e :: q → foldTarget u e
        = none → expHolds u (u.oN Obj.sbHead) = true → Completes (.recordAssembly) s fun t =>
      t.queue = u.queue ∧
      t.mram = u.mram ∧ t.buf = u.buf ∧
      RegsWithin [Obj.nvmCorrected, Obj.nvmUncorr, Obj.nvmLastBad, Obj.ledgerStatus] [] [.ledLost] u t) ∧
    (s.oN Obj.sbExpState = 2 → s.var .jobDone JobFor.exportSign.slot = 1 → Completes (.exportReady) s fun t =>
      t.o Obj.sbExpState = 3 ∧
      t.var .jobDone JobFor.exportSign.slot = 0 ∧
      t.varN .expSince = s.nowRound ∧
      t.posts = s.posts ++ [96] ∧
      t.expData = s.expData ∧
      t.expSig = (signWith (identityScalar s) s.expData s).1 ∧
      RegsWithin [Obj.sbExpState] [] [.jobDone, .expSince] s t) ∧
    ((s.oN Obj.sbExpState = 3 ∧ s.varN .expSince + 60000 ≤ s.nowRound) ∨ (s.oN Obj.sbExpState = 2 ∧ s.var .jobDone
        JobFor.exportSign.slot = 2) → Completes (.exportTimeout) s fun t =>
      t.o Obj.sbExpState = 4 ∧
      t.expData = [] ∧ t.expSig = [] ∧
      t.posts = s.posts ++ [97] ∧
      t.offers = s.offers ++ [⟨0x0C41, u8 (if s.oN Obj.sbExpState = 3 then 1 else 2) ++ (s.expData.drop 12).take 4, false⟩] ∧
      RegsWithin [Obj.sbExpState] [] [.jobDone] s t) ∧
    (s.oN Obj.sbBbState = 1 → s.varN .bbLine = 1024 → s.buf.length < 128 → Completes (.blackBoxComplete) s fun t =>
      t.o Obj.sbBbState = 0 ∧
      t.var .bbLine = 0 ∧
      t.bbImage = [] ∧
      t.posts = s.posts ++ [98] ∧
      t.offers = s.offers ++ [⟨0x0C42, u8 (s.varN .bbSlot : Nat) ++ u8 (s.var .bbTrig) ++ u32 (s.var .bbGen), false⟩] ∧
      t.mram = s.mram ∧
      RegsWithin [Obj.nvmBufLines, Obj.nvmState, Obj.sbBbState, Obj.nvmCorrected, Obj.nvmUncorr, Obj.nvmLastBad, Obj.ledgerStatus]
        [] [.commitReq, .commitReqRound, .bbLine, .ledLost] s t)

/-- The collie's tick, its expiries and the hold-off timers (R471, R472, R479, R480, R485, R490). Says that these complete:
holdoffExpiry, collieTick, collieExpiry. -/
def Obligations.CollieEvents : Prop :=
  ∀ s : State,
    (∀ (g : Nat), g < 16 → s.dueT .holdT g = true → Completes (.holdoffExpiry g) s fun t =>
      t.var .holdT g = 0 ∧
      Within [] [.holdT] s t) ∧
    (s.oN Obj.frameNumber % 100 = 0 → s.varN .collieFrame ≠ s.now + 1 → collieSt s = 1 → Completes (.collieTick) s fun t =>
      collieSt t = 2 ∧
      t.o Obj.collieCount = 0 ∧
      t.o Obj.collieHostbusy = 0 ∧
      t.varN .collieFrame = s.now + 1 ∧
      Within [Obj.collieState, Obj.collieCount, Obj.collieHostbusy] [.collieFrame, .collieHit] s t) ∧
    (s.oN Obj.frameNumber % 100 = 0 → s.varN .collieFrame ≠ s.now + 1 → collieSt s = 2 → Completes (.collieTick) s fun t =>
      collieSt t = 2 ∧
      t.o Obj.collieCount = (if s.o Obj.collieCount < 65535 then s.o Obj.collieCount + 1 else 65535) ∧
      t.varB .collieHit = decide (s.o Obj.collieClose ≤ t.o Obj.collieCount) ∧
      t.varN .collieFrame = s.now + 1 ∧
      Within [Obj.collieCount] [.collieFrame, .collieHit] s t) ∧
    (s.oN Obj.frameNumber % 100 = 0 → s.varN .collieFrame ≠ s.now + 1 → collieSt s ≠ 1 ∧ collieSt s ≠ 2 → Completes (.collieTick) s
        fun t =>
      Within [] [.collieFrame] s t) ∧
    (s.oN Obj.frameNumber % 100 ≠ 0 ∨ s.varN .collieFrame = s.now + 1 → Completes (.collieTick) s fun t =>
      t = s) ∧
    (collieSt s = 2 → s.varB .collieHit = true → Completes (.collieExpiry) s fun t =>
      collieSt t = 1 ∧
      t.o Obj.collieEvCause = 0 ∧
      t.o Obj.collieEvChecked = s.o Obj.collieChecked ∧
      t.o Obj.collieEvMissing = ((collieMissing s : Nat) : Int) ∧
      t.o Obj.collieEvTag = s.o Obj.collieLastTag ∧
      t.o Obj.collieEvFrame = s.o Obj.collieLastFrame ∧
      t.o Obj.collieEvTime = s.o Obj.collieLastTime ∧
      t.o Obj.collieChecked = 0 ∧
      t.o Obj.collieExpiries = (s.bump Obj.collieExpiries).o Obj.collieExpiries ∧
      t.arrived = s.arrived ++
        [⟨240, 0, u8 0 ++ u16 (s.o Obj.collieChecked) ++ u16 (collieMissing s) ++ u16 (s.o Obj.collieLastTag), false⟩] ∧
      Within [Obj.collieState, Obj.collieHostbusy, Obj.collieEvCause, Obj.collieEvChecked, Obj.collieEvMissing, Obj.collieEvTag,
        Obj.collieEvFrame, Obj.collieEvTime, Obj.collieChecked, Obj.collieExpiries] [.collieHit] s t)

/-- R479, with what an expiry writes (R480). Says that these complete: suspensionExpiry. -/
def Obligations.SuspensionExpires : Prop :=
  ∀ s : State,
    (collieSt s = 3 → s.dueTR .collieBusyT = true → Completes (.suspensionExpiry) s fun t =>
      collieSt t = 1 ∧
      t.o Obj.collieHostbusy = 0 ∧
      t.o Obj.collieEvCause = 1 ∧
      t.o Obj.collieEvChecked = s.o Obj.collieChecked ∧
      t.o Obj.collieEvMissing = ((collieMissing s : Nat) : Int) ∧
      t.o Obj.collieEvTag = s.o Obj.collieLastTag ∧
      t.o Obj.collieEvFrame = s.o Obj.collieLastFrame ∧
      t.o Obj.collieEvTime = s.o Obj.collieLastTime ∧
      t.o Obj.collieChecked = 0 ∧
      t.o Obj.collieExpiries = (s.bump Obj.collieExpiries).o Obj.collieExpiries ∧
      t.var .collieBusyT = 0 ∧
      t.posts = s.posts ++ [107] ∧
      t.arrived = s.arrived ++
        [⟨240, 0, u8 1 ++ u16 (s.o Obj.collieChecked) ++ u16 (collieMissing s) ++ u16 (s.o Obj.collieLastTag), false⟩] ∧
      t.offers = s.offers ++ [⟨0x0D06, u8 1 ++ u32 (s.nowRound - s.varN .collieBusyAt : Nat), false⟩] ∧
      Within [Obj.collieState, Obj.collieHostbusy, Obj.collieEvCause, Obj.collieEvChecked, Obj.collieEvMissing, Obj.collieEvTag,
        Obj.collieEvFrame, Obj.collieEvTime, Obj.collieChecked, Obj.collieExpiries] [.collieHit, .collieBusyT] s t)

/-- The events of the ledgers (R270, R370, R440, R527, R528, R539, R609). Which cause a close keeps (log entry 77), and that a
commit goes on while CRES reads at least 2.7 V (log entry 66), are the model's choice. Says that these complete:
ledgerTransactionApply, ledgerWriteback, closeWrite, commitComplete. -/
def Obligations.LedgerEvents : Prop :=
  ∀ s : State,
    (s.ledTx ≠ [] → role s = Role.solo ∨ (role s = Role.active ∧ txCovered s = true) → Completes (.ledgerTransactionApply) s fun t
        =>
      t.ledTx = [] ∧
      t.o Obj.budgetGen = (s.bump Obj.budgetGen).o Obj.budgetGen ∧
      t.o Obj.budgetAllocated = ((allocSum t : Nat) : Int) ∧
      t.varB .wbAgain 1 = true ∧
      RegsWithin [Obj.budgetGen, Obj.budgetAllocated, Obj.budgetGrant, Obj.budgetFree] [Obj.budgetAlloc] [.wbAgain] s t) ∧
    (∀ (r v f : Nat), r < 52 → s.ledTx = [(r, v), (0xFF, f)] → role s = Role.solo → Completes (.ledgerTransactionApply) s fun t =>
      t.o (Obj.budgetAlloc r) = ((v : Nat) : Int) ∧
      t.o Obj.budgetFree = ((f : Nat) : Int) ∧
      t.o Obj.budgetGrant = s.o Obj.budgetGrant ∧
      RegsWithin [Obj.budgetGen, Obj.budgetAllocated, Obj.budgetAlloc r, Obj.budgetFree] [] [.wbAgain] s t) ∧
    (s.ledTx = [] ∨ (role s ≠ Role.solo ∧ (role s ≠ Role.active ∨ txCovered s = false)) → Completes (.ledgerTransactionApply) s fun
        t =>
      t = s) ∧
    (s.varN .ledgerAt + s.oN Obj.ledgerCommitRounds ≤ s.nowRound → s.var .wbStage 0 = 0 → s.var .wbStage 1 = 0 → s.waiters = [] →
        Completes (.ledgerWriteback) s fun t =>
      t.varN .ledgerAt = s.nowRound ∧
      t.varN .wbStage 0 = 1 ∧
      t.varN .wbStage 1 = 1 ∧
      t.varB .wbAgain 0 = false ∧
      t.varB .wbAgain 1 = false ∧
      t.varB .commitReq = true ∧
      t.mram = s.mram ∧
      RegsWithin [Obj.nvmBufLines, Obj.nvmState, Obj.nvmCorrected, Obj.nvmUncorr, Obj.nvmLastBad, Obj.ledgerStatus] [] [.commitReq,
        .commitReqRound, .ledgerAt, .wbAgain, .wbStage, .ledLost] s t) ∧
    (s.nowRound < s.varN .ledgerAt + s.oN Obj.ledgerCommitRounds → s.varB .wbAgain 0 = false → s.varB .wbAgain 1 = false → Completes
        (.ledgerWriteback) s fun t =>
      t = s) ∧
    (∀ (vpp : Nat), s.mgtOn = true → s.varB .closeDue = true ∨ (vpp < 4300 ∧ s.varB .closeOff = false ∧ closedNow s = false) → 270 ≤
        s.pin .cres → Completes (.closeWrite vpp) s fun t =>
      (s.waiters = [] → t.buf = [] ∧ t.o Obj.nvmState = 0 ∧ t.o Obj.nvmBufLines = 0) ∧
      t.var .closeDue = 0 ∧
      t.varB .closeStands = true ∧
      t.varN .closeCause = (if s.varB .closeDue then s.varN .closeDue - 1 else 2) ∧
      t.varB .closeOff = (s.varB .closeOff || decide (vpp < 4300)) ∧
      t.varN .closeGen = max (s.varN .closeGen) (s.oN Obj.chgGen + (if s.varN .wbStage 0 = 2 then 1 else 0)) + 1 ∧
      t.o Obj.ledgerCloses = (s.bump Obj.ledgerCloses).o Obj.ledgerCloses ∧
      t.var .commitMarker = 0 ∧
      closedNow t = true ∧
      RegsWithin [Obj.nvmBufLines, Obj.nvmState, Obj.ledgerCloses, Obj.nvmCommits, Obj.nvmCorrected, Obj.nvmUncorr, Obj.nvmLastBad,
        Obj.ledgerStatus] [Obj.jobState, Obj.jobWaiting, Obj.jobStepsDone, Obj.jobStepsTotal, Obj.jobStarted] [.closeDue,
        .closeStands, .closeCause, .closeOff, .closeGen, .commitMarker, .commitReq, .opSaved, .jobLast, .jobDone, .ledLost,
        .closeAt, .commitReqRound] s t) ∧
    (∀ (vpp : Nat), s.mgtOn = true → s.varB .closeDue = true ∨ (vpp < 4300 ∧ s.varB .closeOff = false ∧ closedNow s = false) → s.pin
        .cres < 270 → Completes (.closeWrite vpp) s fun t =>
      t = (if vpp < 4300 ∧ s.varB .closeOff = false then s.setFlag .closeOff true else s).setVar .closeDue 0) ∧
    (∀ (vpp : Nat), s.mgtOn = false ∨ (s.varB .closeDue = false ∧ (4300 ≤ vpp ∨ s.varB .closeOff = true)) → Completes (.closeWrite
        vpp) s fun t =>
      t = s) ∧
    (∀ (vpp : Nat), s.mgtOn = true → s.varB .closeDue = false → vpp < 4300 → s.varB .closeOff = false → closedNow s = true →
        Completes (.closeWrite vpp) s fun t =>
      t = s.setFlag .closeOff true) ∧
    (commitClosing s = true → s.var .wbStage 0 = 0 → s.var .wbStage 1 = 0 → s.var .wbStage 2 = 0 → s.varB .wbAgain 0 = false →
        s.varB .wbAgain 1 = false → s.varB .closeStands = false → Completes (.commitComplete) s fun t =>
      t.var .commitMarker = 0 ∧
      t.o Obj.nvmCommits = (s.bump Obj.nvmCommits).o Obj.nvmCommits ∧
      t.o Obj.nvmCommitTime = (((s.now - s.varN .commitStart) % 65536 : Nat) : Int) ∧
      t.var .opSaved = s.o Obj.sysOpSeconds ∧
      t.mram = s.mram ∧
      RegsWithin [Obj.nvmCommits, Obj.nvmCommitTime, Obj.nvmState, Obj.ledgerStatus, Obj.ledgerViolations] [Obj.jobState,
        Obj.jobWaiting, Obj.jobStepsDone, Obj.jobStepsTotal, Obj.jobStarted] [.commitMarker, .opSaved, .jobLast, .jobDone] s t) ∧
    (commitClosing s = true → Completes (.commitComplete) s fun t =>
      t.var .opSaved = s.o Obj.sysOpSeconds ∧
      t.o Obj.nvmCommits = (s.bump Obj.nvmCommits).o Obj.nvmCommits ∧
      RegsWithin [Obj.nvmBufLines, Obj.nvmState, Obj.nvmCommits, Obj.nvmCommitTime, Obj.ledgerStatus, Obj.ledgerViolations,
        Obj.ledgerCloses, Obj.chgGen, Obj.estGen, Obj.nvmCorrected, Obj.nvmUncorr, Obj.nvmLastBad] [Obj.jobState, Obj.jobWaiting,
        Obj.jobStepsDone, Obj.jobStepsTotal, Obj.jobStarted] [.commitMarker, .opSaved, .jobLast, .jobDone, .commitReq,
        .commitReqRound, .wbStage, .wbSlot, .wbGen, .wbAgain, .closeGen, .closeCause, .closeStands, .ledLost] s t) ∧
    (commitClosing s = false → Completes (.commitComplete) s fun t =>
      t = s)

/-- The commit buffer, its commits, CRES (R436 to R444). That a refused commit is counted once in each frame, and when CRES is
judged (log entry 66), and that the persisted counters enter the ledger region all together (log entry 115), are the model's choice.
Says that these complete: commitAgeExpiry, commitStart, commitStep, writerWaitTimeout, cresFirstCharge, cresLow, cresFault. -/
def Obligations.CommitEvents : Prop :=
  ∀ s : State,
    (∀ (b : BufLine) (r : List BufLine), (s.buf.filter fun b => !b.committing) = b :: r → b.entered + s.oN Obj.nvmCommitAge ≤
        s.nowRound → s.varB .commitReq = false → Completes (.commitAgeExpiry) s fun t =>
      t.varB .commitReq = true ∧
      t.varN .commitReqRound = s.nowRound ∧
      Within [] [.commitReq, .commitReqRound] s t) ∧
    (s.varB .commitReq = true → (jobRunning s 5).isNone = true → 420 ≤ s.oN Obj.nvmCres → Completes (.commitStart) s fun t =>
      t.varB .commitReq = false ∧
      t.varN .commitMarker = s.buf.length + 1 ∧
      t.varN .commitStart = s.now ∧
      t.o Obj.nvmState = 3 ∧
      t.buf = s.buf.map (fun b => { b with committing := true }) ∧
      t.saving = countersNow s ∧
      t.jobs.length = s.jobs.length + 1 ∧
      t.mram = s.mram ∧
      RegsWithin [Obj.nvmState] [Obj.jobState, Obj.jobWaiting, Obj.jobStepsDone, Obj.jobStepsTotal, Obj.jobStarted] [.commitReq,
        .commitMarker, .commitStart, .commitLast, .jobLast, .jobDone] s t) ∧
    (s.varB .commitReq = true → (jobRunning s 5).isNone = true → s.oN Obj.nvmCres < 420 → s.varN .refusedAt ≠ s.now + 1 → Completes
        (.commitStart) s fun t =>
      t.varB .commitReq = true ∧
      t.o Obj.nvmState = 2 ∧
      t.o Obj.nvmRefused = (s.bump Obj.nvmRefused).o Obj.nvmRefused ∧
      Within [Obj.nvmState, Obj.nvmRefused] [.limitStamp, .refusedAt] s t) ∧
    (s.varB .commitReq = true → (jobRunning s 5).isNone = true → s.oN Obj.nvmCres < 420 → s.varN .refusedAt = s.now + 1 → Completes
        (.commitStart) s fun t =>
      t = s) ∧
    (∀ (b : BufLine), (s.buf.find? fun b => b.committing) = some b → (jobRunning s 5).isSome = true → s.var .commitLast + 2 ≤ s.now
        → s.waiters = [] → 270 ≤ s.pin .cres → Completes (.commitStep) s fun t =>
      t.mram = (s.writeMram (38 * b.line) (rsEncode b.data)).mram ∧
      t.buf = s.buf.erase b ∧
      t.varN .commitLast = s.now ∧
      t.o (Obj.jobStepsDone 5) = s.o (Obj.jobStepsDone 5) + 1 ∧
      t.o Obj.nvmBufLines = ((s.buf.length - 1 : Nat) : Int) ∧
      RegsWithin [Obj.nvmBufLines, Obj.nvmState, Obj.jobStepsDone 5, Obj.nvmCorrected, Obj.nvmUncorr, Obj.nvmLastBad,
        Obj.ledgerStatus] [] [.commitLast, .jobLast, .ledLost] s t) ∧
    (∀ (r : Nat), waitSince s = some r → r + 100 ≤ s.nowRound → Completes (.writerWaitTimeout) s fun t =>
      t.condOn 225 0 = true ∧
      t.intake = s.intake ++ (if s.condOn 225 0 then [] else [⟨225, 0, commitWaitData true r s, false⟩]) ∧
      t.waiters = s.waiters ∧
      Within [Obj.srcCond 225] [] s t) ∧
    (s.bit Obj.nvmCresFlags 0 = true → s.bit Obj.nvmCresFlags 1 = false → 491 ≤ s.varN .cresRound → Completes (.cresFirstCharge) s
        fun t =>
      t.bit Obj.nvmCresFlags 1 = true ∧
      (∀ b, b ≠ 1 → t.bit Obj.nvmCresFlags b = s.bit Obj.nvmCresFlags b) ∧
      Within [Obj.nvmCresFlags] [] s t) ∧
    (1000 ≤ s.varN .cresLowCnt → Completes (.cresLow) s fun t =>
      t.condOn 220 0 = true ∧
      t.intake = s.intake ++ (if s.condOn 220 0 then [] else [⟨220, 0, u8 0 ++ u16 (s.o Obj.nvmCres), false⟩]) ∧
      Within [Obj.srcCond 220] [] s t) ∧
    (s.bit Obj.nvmCresFlags 0 = true → 0 < s.varN .cresRound ∧ s.varN .cresFrom + 100 < s.nowRound ∧ s.varN .cresRound ≤ 100 ∨ 552 ≤
        s.varN .cresRound → Completes (.cresFault) s fun t =>
      t.bit Obj.nvmCresFlags 0 = false ∧
      t.bit Obj.nvmCresFlags 2 = true ∧
      t.condOn 220 1 = true ∧
      t.intake = s.intake ++ (if s.condOn 220 1 then [] else [⟨220, 1, u8 1 ++ u16 (s.o Obj.nvmCres), false⟩]) ∧
      Within [Obj.nvmCresFlags, Obj.srcCond 220] [] s t)

/-- The scrubber (R445, R446) and the programming of an OTP word (R449, R450). How far a stopped burn got is a free value. Says that
these complete: scrubStep, otpProgramDone, otpProgramStopped. -/
def Obligations.MramOtpEvents : Prop :=
  ∀ s : State,
    (∀ (d : List Byte) (n : Nat), s.mgtOn = true → scrubDue s = true → mramDecode s (s.varN .scrubLine) = (d, some n) → n = 0 ∨ n <
        s.oN Obj.nvmRewriteThr → Completes (.scrubStep) s fun t =>
      t.varN .scrubLine = (if s.varN .scrubLine + 1 = nvmLines then 0 else s.varN .scrubLine + 1) ∧
      t.posts = s.posts ++ (if s.varN .scrubLine + 1 = nvmLines then [94] else []) ∧
      t.o Obj.nvmCorrected = (if n = 0 then s.o Obj.nvmCorrected else (s.bump Obj.nvmCorrected).o Obj.nvmCorrected) ∧
      t.buf = s.buf ∧ t.mram = s.mram ∧
      RegsWithin [Obj.nvmCorrected] [] [.scrubLine, .scrubStart] s t) ∧
    (s.mgtOn = true → scrubDue s = true → (mramDecode s (s.varN .scrubLine)).2 = none → Completes (.scrubStep) s fun t =>
      t.varN .scrubLine = (if s.varN .scrubLine + 1 = nvmLines then 0 else s.varN .scrubLine + 1) ∧
      t.o Obj.nvmUncorr = (s.bump Obj.nvmUncorr).o Obj.nvmUncorr ∧
      t.o Obj.nvmLastBad = ((32 * s.varN .scrubLine : Nat) : Int) ∧
      t.bad = (32 * s.varN .scrubLine :: s.bad).take 16 ∧
      t.mram = s.mram ∧ t.buf = s.buf ∧
      RegsWithin [Obj.nvmUncorr, Obj.nvmLastBad, Obj.ledgerStatus] [] [.scrubLine, .scrubStart, .ledLost] s t) ∧
    (∀ (differ : Nat), s.varB .otpBusy = true → otpConditions s = true → differ = 0 → Completes (.otpProgramDone differ) s fun t =>
      t.varB .otpBusy = false ∧
      t.o Obj.otpResult = 1 ∧
      t.posts = s.posts ++ [92] ∧
      otpWordAt t (s.varN .otpWord) = otpWordAt s (s.varN .otpWord) ||| s.varN .otpValue ∧
      shadowWord t (s.varN .otpWord) = shadowWord s (s.varN .otpWord) ||| s.varN .otpValue ∧
      (∀ w, w ≠ s.varN .otpWord → otpWordAt t w = otpWordAt s w) ∧
      t.o Obj.otpDefaults = shadowWord t 34 ∧
      RegsWithin [Obj.otpResult, Obj.otpMarginal, Obj.otpRevoked, Obj.otpDefaults] [] [.otpBusy] s t) ∧
    (∀ (differ : Nat), s.varB .otpBusy = true → otpConditions s = true → differ ≠ 0 → s.varN .otpWord < 256 → Completes
        (.otpProgramDone differ) s fun t =>
      t.varB .otpBusy = false ∧
      t.o Obj.otpResult = 3 ∧
      otpMarginal t (s.varN .otpWord) = true ∧
      (∀ w, w ≠ s.varN .otpWord → w ≠ 46 + s.varN .otpWord / 64 → w ≠ 50 + s.varN .otpWord / 64 → otpWordAt t w = otpWordAt s w) ∧
      t.arrived = s.arrived ++ [⟨224, 0, u8 (s.varN .otpWord) ++ u16 differ ++ u16 (s.o Obj.mgtVin) ++ u16 (s.o Obj.thTDie), false⟩] ∧
      t.o Obj.otpDefaults = shadowWord t 34 ∧
      RegsWithin [Obj.otpResult, Obj.otpMarginal, Obj.otpRevoked, Obj.otpDefaults] [] [.otpBusy] s t) ∧
    (s.varB .otpBusy = true → otpConditions s = false → s.varN .otpWord < 256 → Completes (.otpProgramStopped) s fun t =>
      t.varB .otpBusy = false ∧
      t.o Obj.otpResult = 4 ∧
      otpMarginal t (s.varN .otpWord) = true ∧
      t.free = s.free + 1 ∧
      t.o Obj.otpDefaults = shadowWord t 34 ∧
      RegsWithin [Obj.otpResult, Obj.otpMarginal, Obj.otpRevoked, Obj.otpDefaults] [] [.otpBusy] s t)

/-- The pack estimator's events outside the exercise (R355, R358 to R362, R370). Says that these complete: counterFault,
readinessLow, restPoint, estWriteback, estWritebackSecond. -/
def Obligations.PackStateEvents : Prop :=
  ∀ s : State,
    (8 ≤ s.varN .cntFault → s.condOn 176 0 = false → Completes (.counterFault) s fun t =>
      t.condOn 176 0 = true ∧
      t.bit Obj.estFlags 10 = true ∧
      t.intake = s.intake ++ [⟨176, 0, u16 (s.o Obj.estIpack) ++ u16 (s.pin .packIsn - s.pin .packP), false⟩] ∧
      Within [Obj.estFlags, Obj.srcCond 176] [] s t) ∧
    (s.varN .cntFault < 8 ∨ s.condOn 176 0 = true → Completes (.counterFault) s fun t =>
      t = s) ∧
    (10 ≤ s.varN .readyCnt → s.condOn 174 0 = false → Completes (.readinessLow) s fun t =>
      t.condOn 174 0 = true ∧
      t.intake = s.intake ++
        [⟨174, 0, u16 (s.o Obj.estReady) ++ u16 (s.o Obj.estReadyMin) ++ u16 (s.o Obj.estSocRaw) ++ u16 (s.o Obj.estSCut), false⟩] ∧
      Within [Obj.srcCond 174] [] s t) ∧
    (∀ (soc : Nat) (high : Bool), s.varB .restDue = true → socOfRest s (s.var .minSum2) (s.var .minN2) = some (soc, high) → s.varB
        .restFirst = true → s.oN Obj.estExState ≠ 3 ∨ high = true → Completes (.restPoint) s fun t =>
      t.o Obj.estQRem = soc * s.o Obj.estCap / 1000 ∧
      t.o Obj.estQCorr = t.o Obj.estQRem - s.o Obj.chgStored ∧
      t.bit Obj.estFlags 0 = true ∧ t.bit Obj.estFlags 4 = true ∧
      t.var .restDue = 0 ∧
      t.var .restA 1 = s.o Obj.chgStored ∧ t.var .restA 2 = soc ∧ t.var .restA 3 = s.o Obj.sysOpSeconds ∧
      t.o Obj.estLastRest = ((s.timeNow : Nat) : Int) ∧
      t.posts = s.posts ++ [63] ∧
      Within [Obj.estQRem, Obj.estQCorr, Obj.estFlags, Obj.estLastRest] [.restDue, .restFirst, .restRec, .restA] s t) ∧
    (s.varB .restDue = true → socOfRest s (s.var .minSum2) (s.var .minN2) = none → Completes (.restPoint) s fun t =>
      t.var .restDue = 0 ∧
      t.varB .restFirst = true ∧
      t.bit Obj.estFlags 4 = true ∧
      Within [Obj.estFlags] [.restDue, .restFirst] s t) ∧
    (∀ (soc : Nat), s.varB .restDue = true → s.varB .exGoto = false → socOfRest s (s.var .minSum2) (s.var .minN2) = some (soc,
        false) → s.oN Obj.estExState = 3 → s.varB .restFirst = true → Completes (.restPoint) s fun t =>
      t.varN .exGoto = 5 ∧
      (exTick t).oN Obj.estExState = 0 ∧
      (exTick t).var .exT = 0 ∧
      (exTick t).bit Obj.estFlags 5 = false ∧ (exTick t).bit Obj.estFlags 6 = false ∧
      t.o Obj.estQRem = soc * s.o Obj.estCap / 1000 ∧
      t.posts = s.posts ++ [63] ∧
      (exTick t).posts = s.posts ++ [63, 58] ∧
      Within [Obj.estQRem, Obj.estQCorr, Obj.estFlags, Obj.estLastRest] [.restDue, .restFirst, .restRec, .restA, .exGoto, .exArg] s
        t) ∧
    (∀ (soc : Nat) (high : Bool), s.varB .restDue = true → socOfRest s (s.var .minSum2) (s.var .minN2) = some (soc, high) → s.varB
        .restFirst = false → Completes (.restPoint) s fun t =>
      t.varB .restFirst = true ∧
      t.var .restDue = 0 ∧
      t.var .restA 1 = s.o Obj.chgStored ∧ t.var .restA 2 = soc ∧ t.var .restA 3 = s.o Obj.sysOpSeconds ∧
      t.bit Obj.estFlags 0 = true ∧ t.bit Obj.estFlags 4 = true ∧
      Within [Obj.estQRem, Obj.estQCorr, Obj.estFlags, Obj.estLastRest, Obj.estCap, Obj.estLearnAge, Obj.estLastLearn, Obj.srcCond
        171] [.restDue, .restFirst, .restRec, .restA, .ageFrac, .wbAgain, .estLearns, .exGoto, .exArg] s t) ∧
    (s.varB .wbAgain 2 = true → s.var .wbStage 2 = 0 → s.waiters = [] → Completes (.estWriteback) s fun t =>
      t.varB .wbAgain 2 = false ∧
      t.varN .wbStage 2 = 1 ∧
      t.varB .commitReq = true ∧
      t.mram = s.mram ∧
      RegsWithin [Obj.nvmBufLines, Obj.nvmState, Obj.nvmCorrected, Obj.nvmUncorr, Obj.nvmLastBad, Obj.ledgerStatus] [] [.commitReq,
        .commitReqRound, .wbAgain, .wbStage, .ledLost] s t) ∧
    (s.varB .wbAgain 2 = false ∨ s.varB .wbStage 2 = true → Completes (.estWriteback) s fun t =>
      t = s) ∧
    (s.varN .wbStage 2 = 1 → wbCommitted s 2 = true → Completes (.estWritebackSecond) s fun t =>
      t.varN .wbStage 2 = 2 ∧
      t.varB .commitReq = true ∧
      t.mram = s.mram ∧
      RegsWithin [Obj.nvmBufLines, Obj.nvmState, Obj.nvmCorrected, Obj.nvmUncorr, Obj.nvmLastBad, Obj.ledgerStatus] [] [.commitReq,
        .commitReqRound, .wbStage, .ledLost] s t) ∧
    (s.varN .wbStage 2 ≠ 1 ∨ wbCommitted s 2 = false → Completes (.estWritebackSecond) s fun t =>
      t = s)

/-- The pack exercise (R365 to R368). Says that these complete: exerciseDue, exerciseRefusedExpiry, exerciseStart,
exerciseTargetReached, exerciseTimeout, exerciseRestTimeout, exerciseAbort. -/
def Obligations.PackExerciseEvents : Prop :=
  ∀ s : State,
    (s.varB .exGoto = false → s.oN Obj.estExState = 0 → s.oB Obj.estExAuto = true → s.o Obj.estExPeriod ≤ s.o Obj.estLearnAge →
        Completes (.exerciseDue) s fun t =>
      t.varN .exGoto = 2 ∧
      (exTick t).o Obj.estExState = 1 ∧
      Within [Obj.estFlags, Obj.estExState] [.exGoto, .exArg] s (exTick t) ∧
      Within [] [.exGoto, .exArg] s t) ∧
    (s.varB .exGoto = false → s.oN Obj.estExState = 5 → s.dueTR .exT = true → Completes (.exerciseRefusedExpiry) s fun t =>
      t.varN .exGoto = 2 ∧
      (exTick t).o Obj.estExState = 1 ∧
      (exTick t).var .exT = 0 ∧
      Within [Obj.estFlags, Obj.estExState] [.exT, .exGoto, .exArg] s (exTick t) ∧
      Within [] [.exGoto, .exArg] s t) ∧
    (∀ (us vlow : Nat), s.varB .exGoto = false → s.oN Obj.estExState = 1 → exReady s = true → readyAt s (10 * s.o Obj.estExTarget) <
        s.o Obj.estReadyMin → Completes (.exerciseStart us vlow) s fun t =>
      t.varN .exGoto = 6 ∧
      (exTick t).o Obj.estExState = 5 ∧
      (exTick t).varN .exT = s.nowRound + s.oN Obj.estExPeriod * 1000 + 1 ∧
      (exTick t).intake = s.intake ++ [⟨172, 0, u8 3 ++ u8 0xFF ++ u16 (s.o Obj.estSocRaw) ++ u16 (s.o Obj.estReady), false⟩] ∧
      Within [Obj.estFlags, Obj.estExState] [.exT, .exGoto, .exArg] s (exTick t) ∧
      Within [] [.exGoto, .exArg] s t) ∧
    (∀ (us vlow : Nat), s.varB .exGoto = false → s.oN Obj.estExState = 1 → exReady s = true → s.o Obj.estReadyMin ≤ readyAt s (10 *
        s.o Obj.estExTarget) → Completes (.exerciseStart us vlow) s fun t =>
      t.varN .exGoto = 3 ∧
      (exTick t).o Obj.estExState = 2 ∧
      (exTick t).o Obj.pwrSrc = 3 ∧
      (exTick t).o Obj.pwrHoTime = ((min us 65535 : Nat) : Int) ∧
      (exTick t).o Obj.pwrHandovers = (s.bump Obj.pwrHandovers).o Obj.pwrHandovers ∧
      (exTick t).bit Obj.estFlags 5 = true ∧
      (exTick t).bit Obj.estFlags 6 = s.oB Obj.estExldEn ∧
      (exTick t).varN .exT = s.nowRound + 28800001 ∧
      (exTick t).varN .exMode = s.mode.code ∧
      (exTick t).posts = s.posts ++ [58, 52] ∧
      (exTick t).intake = s.intake ++ (if 50 < us then [⟨165, 0, u8 1 ++ u8 3 ++ u16 us ++ u16 vlow ++ u8 0, false⟩] else []) ∧
      Within [Obj.estExState, Obj.estFlags, Obj.pwrSrc, Obj.pwrHoTime, Obj.pwrHandovers] [.exT, .exMode, .exAbort, .handRound,
        .exGoto, .exArg] s (exTick t) ∧
      Within [] [.exGoto, .exArg] s t) ∧
    (∀ (us vlow : Nat), s.varB .exGoto = false → s.oN Obj.estExState = 2 → s.o Obj.estSocRaw ≤ 10 * s.o Obj.estExTarget → Completes
        (.exerciseTargetReached us vlow) s fun t =>
      t.varN .exGoto = 4 ∧
      (exTick t).o Obj.estExState = 3 ∧
      (exTick t).bit Obj.estFlags 6 = false ∧
      (exTick t).varN .exT = s.nowRound + s.oN Obj.estExRestMax * 60000 + 1 ∧
      (exTick t).o Obj.pwrSrc = (if s.oN Obj.pwrSrc = 3 ∧ s.oN Obj.mgtState ≠ 2 then 1 else s.o Obj.pwrSrc) ∧
      Within [Obj.estExState, Obj.estFlags, Obj.pwrSrc, Obj.pwrHoTime, Obj.pwrHandovers] [.exT, .handRound, .exGoto, .exArg] s
        (exTick t) ∧
      Within [] [.exGoto, .exArg] s t) ∧
    (∀ (us vlow : Nat), s.varB .exGoto = false → s.oN Obj.estExState = 2 → s.dueTR .exT = true → Completes (.exerciseTimeout us
        vlow) s fun t =>
      t.varN .exGoto = 7 ∧
      (exTick t).o Obj.estExState = 0 ∧
      (exTick t).var .exT = 0 ∧
      (exTick t).bit Obj.estFlags 5 = false ∧ (exTick t).bit Obj.estFlags 6 = false ∧
      (exTick t).o Obj.pwrSrc = (if s.oN Obj.pwrSrc = 3 ∧ s.oN Obj.mgtState ≠ 2 then 1 else s.o Obj.pwrSrc) ∧
      Within [Obj.estExState, Obj.estFlags, Obj.pwrSrc, Obj.pwrHoTime, Obj.pwrHandovers] [.exT, .exAbort, .handRound, .exGoto,
        .exArg] s (exTick t) ∧
      Within [] [.exGoto, .exArg] s t) ∧
    (s.varB .exGoto = false → s.oN Obj.estExState = 3 → s.dueTR .exT = true → Completes (.exerciseRestTimeout) s fun t =>
      t.varN .exGoto = 8 ∧
      (exTick t).o Obj.estExState = 0 ∧
      (exTick t).var .exT = 0 ∧
      (exTick t).bit Obj.estFlags 5 = false ∧ (exTick t).bit Obj.estFlags 6 = false ∧
      (exTick t).intake = s.intake ++ [⟨172, 2, u8 4 ++ u8 0xFF ++ u16 (s.o Obj.estSocRaw) ++ u16 (s.o Obj.estReady), false⟩] ∧
      Within [Obj.estExState, Obj.estFlags] [.exT, .exAbort, .exGoto, .exArg] s (exTick t) ∧
      Within [] [.exGoto, .exArg] s t) ∧
    (∀ (us vlow why : Nat), exRuns s = true → exReason s = some why → s.varN .exGoto ≠ 7 → Completes (.exerciseAbort us vlow) s fun
        t =>
      t.varN .exGoto = 7 ∧
      (exTick t).o Obj.estExState = 0 ∧
      (exTick t).var .exT = 0 ∧
      (exTick t).bit Obj.estFlags 5 = false ∧ (exTick t).bit Obj.estFlags 6 = false ∧
      (exTick t).o Obj.pwrSrc = (if s.oN Obj.pwrSrc = 3 ∧ s.oN Obj.mgtState ≠ 2 then 1 else s.o Obj.pwrSrc) ∧
      Within [Obj.estExState, Obj.estFlags, Obj.pwrSrc, Obj.pwrHoTime, Obj.pwrHandovers] [.exT, .exAbort, .handRound, .exGoto,
        .exArg] s (exTick t) ∧
      Within [] [.exGoto, .exArg] s t) ∧
    (∀ (us vlow : Nat), exRuns s = false ∨ exReason s = none ∨ s.varN .exGoto = 7 → Completes (.exerciseAbort us vlow) s fun t =>
      t = s)

/-- The power path (R318 to R327, R337, R343). That a hand-over is one indivisible command is the model's choice (log entry 50).
Says that these complete: sourceHandover, sourceHandback, packPresent, packRemoved, packUnusable, dischargeOvercurrent,
packGateOffOvercurrent, packCutoff, bkpPowerLoss. -/
def Obligations.PowerPathEvents : Prop :=
  ∀ s : State,
    (∀ (us vlow k : Nat), s.oN Obj.pwrSrc ≠ 0 → srcValid s (s.oN Obj.pwrSrc) = false → firstSource s (s.oN Obj.pwrSrc) = some k → k
        ≠ 3 → s.oN Obj.pwrSrc ≠ 2 ∨ s.mode ≠ .holdup → Completes (.sourceHandover us vlow) s fun t =>
      t.o Obj.pwrSrc = ((k : Nat) : Int) ∧
      t.o Obj.pwrHoTime = ((min us 65535 : Nat) : Int) ∧
      t.o Obj.pwrHandovers = (s.bump Obj.pwrHandovers).o Obj.pwrHandovers ∧
      t.varB .gateOff = false ∧
      t.posts = s.posts ++ [52] ∧
      t.arrived = s.arrived ++ (if 50 < us then [⟨165, 0, u8 (s.o Obj.pwrSrc) ++ u8 k ++ u16 us ++ u16 vlow ++ u8 0, false⟩] else
        []) ∧
      Within [Obj.pwrSrc, Obj.pwrHoTime, Obj.pwrHandovers] [.hbCnt, .gateOff, .handRound] s t) ∧
    (∀ (us vlow : Nat), s.oN Obj.pwrSrc ≠ 0 → srcValid s (s.oN Obj.pwrSrc) = false → firstSource s (s.oN Obj.pwrSrc) = some 3 → s.oN
        Obj.pwrSrc ≠ 2 ∨ s.mode ≠ .holdup → Completes (.sourceHandover us vlow) s fun t =>
      t.o Obj.pwrSrc = 3 ∧
      t.o Obj.pwrHoTime = ((min us 65535 : Nat) : Int) ∧
      t.bit Obj.rtcStatus 4 = true ∧
      t.posts = s.posts ++ [52] ++ (if s.bit Obj.rtcStatus 4 && !s.varB .fsoTodo then [] else [84]) ∧
      Within [Obj.pwrSrc, Obj.pwrHoTime, Obj.pwrHandovers, Obj.rtcFso, Obj.rtcStatus, Obj.rtcFsoPc] [.hbCnt, .gateOff, .handRound,
        .fsoTodo] s t) ∧
    (∀ (us vlow : Nat), s.oN Obj.pwrSrc ≠ 0 → srcValid s (s.oN Obj.pwrSrc) = false → firstSource s (s.oN Obj.pwrSrc) = none → s.oN
        Obj.pwrSrc ≠ 2 ∨ s.mode ≠ .holdup → Completes (.sourceHandover us vlow) s fun t =>
      t.o Obj.pwrSrc = 0 ∧
      t.varB .gateOff = false ∧
      t.posts = s.posts ++ [52] ∧
      t.offers = s.offers ++ [⟨0x0700, u8 (s.o Obj.pwrSrc) ++ u8 0 ++ u16 0 ++ u16 vlow ++ u8 0, false⟩] ∧
      Within [Obj.pwrSrc] [.gateOff] s t) ∧
    (∀ (us vlow : Nat), s.oN Obj.pwrSrc = 2 → vbusValid s = false → s.mode = .holdup → ponrPassed s = false → (mainQualified s &&
        vinValid s) = false → Completes (.sourceHandover us vlow) s fun t =>
      ponrPassed t = true ∧
      t.o Obj.pwrPonrCause = 6 ∧
      t.varB .lgT = false ∧
      RegsWithin [Obj.pwrFlags, Obj.pwrPonrCause, Obj.seqState 18, Obj.seqState 19, Obj.sequencerRailsUp, Obj.sequencerRailsFailed,
        Obj.pwrSrc, Obj.pwrHoTime, Obj.pwrHandovers, Obj.srcCond (railSrc 18), Obj.srcCond (railSrc 19)] [] [.lgT, .cutHeld, .offT,
        .offKind, .offGot, .dis, .disOn, .hbCnt, .gateOff, .handRound, .offDue, .offTick, .disT, .disPast, .hicT, .startDue,
        .seqSince] s t) ∧
    (∀ (us vlow : Nat), s.oN Obj.pwrSrc = 0 ∨ srcValid s (s.oN Obj.pwrSrc) = true → Completes (.sourceHandover us vlow) s fun t =>
      t = s) ∧
    (∀ (us vlow k : Nat), ((higherSources s).find? fun k => s.metCond .hbCnt 20000 k && srcValid s k) = some k → s.oN Obj.pwrSrc ≠ 0
        → k ≠ 3 → Completes (.sourceHandback us vlow) s fun t =>
      t.o Obj.pwrSrc = ((k : Nat) : Int) ∧
      t.o Obj.pwrHoTime = ((min us 65535 : Nat) : Int) ∧
      t.posts = s.posts ++ [52] ∧
      Within [Obj.pwrSrc, Obj.pwrHoTime, Obj.pwrHandovers] [.hbCnt, .gateOff, .handRound] s t) ∧
    (s.bit Obj.pwrFlags 0 = false → 100 ≤ s.varN .packCnt → packThere s = true → Completes (.packPresent) s fun t =>
      t.bit Obj.pwrFlags 0 = true ∧
      t.bit Obj.pwrFlags 1 = (packEn s && decide (s.o Obj.pwrVpackCut < packMv s) && !s.varB .tdisBad && !s.bit Obj.pwrFlags 12) ∧
      t.varB .packOut = false ∧
      t.intake = s.intake ++ (if packEn s then [⟨160, 1, u8 1 ++ u16 (packMv s), false⟩] else []) ++ (if s.varB .packOut then
        [⟨177, 0, u16 (divNearest (s.o Obj.estCap) 3600000000) ++ u32 (s.o Obj.estCycles), false⟩] else []) ∧
      Within [Obj.pwrFlags, Obj.estLearnAge] [.packOut, .ageFrac] s t) ∧
    (s.bit Obj.pwrFlags 0 = true → 2 ≤ s.varN .packMiss → Completes (.packRemoved) s fun t =>
      t.bit Obj.pwrFlags 0 = false ∧ t.bit Obj.pwrFlags 1 = false ∧
      t.bit Obj.pwrFlags 3 = false ∧ t.bit Obj.pwrFlags 11 = false ∧ t.bit Obj.pwrFlags 12 = false ∧
      t.oN Obj.pwrChgState = 0 ∧
      t.bit Obj.estFlags 0 = false ∧ t.bit Obj.estFlags 1 = true ∧
      t.varB .packOut = true ∧
      t.varB .gateOff = decide (s.oN Obj.pwrSrc = 3) ∧
      t.intake = s.intake ++ (if packEn s then [⟨160, 0, u8 0 ++ u16 (packMv s), false⟩] else []) ∧
      Within [Obj.pwrFlags, Obj.pwrChgState, Obj.estFlags, Obj.estRestTimer] [.packCnt, .gateOff, .packOut, .restA, .restDue,
        .restFirst, .vpreCnt, .cvCnt, .rechCnt, .chgT, .limitStamp] s t) ∧
    (8 ≤ s.varN .tdisOut → s.varB .tdisBad = false → s.oN Obj.pwrSrc ≠ 3 ∨ s.mode ≠ .holdup → Completes (.packUnusable) s fun t =>
      t.varB .tdisBad = true ∧
      t.bit Obj.pwrFlags 1 = false ∧
      (packEn s = true → t.condOn 163 1 = true) ∧
      Within [Obj.pwrFlags, Obj.srcCond 163] [.tdisBad] s t) ∧
    (8 ≤ s.varN .tdisOut → s.varB .tdisBad = false → s.oN Obj.pwrSrc = 3 → s.mode = .holdup → ponrPassed s = false → (mainQualified
        s && vinValid s) = false → Completes (.packUnusable) s fun t =>
      t.varB .tdisBad = true ∧
      t.bit Obj.pwrFlags 1 = false ∧
      ponrPassed t = true ∧
      t.o Obj.pwrPonrCause = 5 ∧
      RegsWithin [Obj.pwrFlags, Obj.pwrPonrCause, Obj.seqState 18, Obj.seqState 19, Obj.sequencerRailsUp, Obj.sequencerRailsFailed,
        Obj.srcCond 163, Obj.srcCond (railSrc 18), Obj.srcCond (railSrc 19)] [] [.lgT, .cutHeld, .offT, .offKind, .offGot, .dis,
        .disOn, .tdisBad, .offDue, .offTick, .disT, .disPast, .hicT, .startDue, .seqSince] s t) ∧
    (8 ≤ s.varN .ocCnt → s.bit Obj.pwrFlags 12 = false → s.mode ≠ .holdup → Completes (.dischargeOvercurrent) s fun t =>
      t.bit Obj.pwrFlags 12 = true ∧
      t.bit Obj.pwrFlags 1 = false ∧
      t.varB .gateDue = true ∧
      t.intake = s.intake ++ (if packEn s then [⟨164, 0, protData 164 0 s, false⟩] else []) ∧
      Within [Obj.pwrFlags] [.gateDue] s t) ∧
    (8 ≤ s.varN .ocCnt → s.bit Obj.pwrFlags 12 = false → s.mode = .holdup → ponrPassed s = false → (mainQualified s && vinValid s) =
        false → Completes (.dischargeOvercurrent) s fun t =>
      t.bit Obj.pwrFlags 12 = true ∧
      ponrPassed t = true ∧
      t.o Obj.pwrPonrCause = 4 ∧
      t.varB .gateDue = s.varB .gateDue ∧
      RegsWithin [Obj.pwrFlags, Obj.pwrPonrCause, Obj.seqState 18, Obj.seqState 19, Obj.sequencerRailsUp, Obj.sequencerRailsFailed,
        Obj.srcCond (railSrc 18), Obj.srcCond (railSrc 19)] [] [.lgT, .cutHeld, .offT, .offKind, .offGot, .dis, .disOn, .offDue,
        .offTick, .disT, .disPast, .hicT, .startDue, .seqSince] s t) ∧
    (s.mode = .holdup → s.bit Obj.pwrFlags 12 = true → 1008 ≤ s.varN .ocCnt → s.bit Obj.pwrFlags 3 = true → Completes
        (.packGateOffOvercurrent) s fun t =>
      t.bit Obj.pwrFlags 3 = false ∧
      t.varB .gateOff = decide (s.oN Obj.pwrSrc = 3) ∧
      (∀ b, b ≠ 3 → t.bit Obj.pwrFlags b = s.bit Obj.pwrFlags b) ∧
      Within [Obj.pwrFlags] [.gateOff] s t) ∧
    (∀ (us vlow : Nat), 4 ≤ s.varN .cutCnt → s.oN Obj.pwrSrc = 3 → s.mode = .setup ∨ s.mode = .safe → externalValid s = false →
        Completes (.packCutoff us vlow) s fun t =>
      t.varB .cutDone = true ∧
      Within [] [.cutDone] s t) ∧
    (∀ (us vlow : Nat), 4 ≤ s.varN .cutCnt → s.oN Obj.pwrSrc = 3 → s.mode = .holdup → ponrPassed s = false → s.varB .cutHeld = false
        → (mainQualified s && vinValid s) = false → mainInputValid s = false → Completes (.packCutoff us vlow) s fun t =>
      ponrPassed t = true ∧
      t.o Obj.pwrPonrCause = 3 ∧
      RegsWithin [Obj.pwrFlags, Obj.pwrPonrCause, Obj.seqState 18, Obj.seqState 19, Obj.sequencerRailsUp, Obj.sequencerRailsFailed,
        Obj.srcCond (railSrc 18), Obj.srcCond (railSrc 19)] [] [.lgT, .cutHeld, .offT, .offKind, .offGot, .dis, .disOn, .offDue,
        .offTick, .disT, .disPast, .hicT, .startDue, .seqSince] s t) ∧
    (∀ (us vlow : Nat), 4 ≤ s.varN .cutCnt → s.oN Obj.pwrSrc = 3 → s.mode = .holdup → ponrPassed s = false → s.varB .cutHeld = false
        → (mainQualified s && vinValid s) = false → mainInputValid s = true → Completes (.packCutoff us vlow) s fun t =>
      t.varN .cutHeld = 3 ∧
      Within [] [.cutHeld] s t) ∧
    (∀ (us vlow : Nat), 4 ≤ s.varN .cutCnt → s.oN Obj.pwrSrc = 3 → s.mode = .holdup → ponrPassed s = false → s.varB .cutHeld = false
        → (mainQualified s && vinValid s) = true → Completes (.packCutoff us vlow) s fun t =>
      t.o Obj.pwrSrc = 1 ∧
      ponrPassed t = false ∧
      Within [Obj.pwrSrc, Obj.pwrHoTime, Obj.pwrHandovers] [.hbCnt, .gateOff, .handRound] s t) ∧
    (∀ (v : Nat), s.mgtOn = false → v < 4000 → s.varB .bkpValid = true → Completes (.bkpPowerLoss v) s fun t =>
      t.varB .bkpValid = false ∧
      t.var .bkpMode = 0 ∧
      t.var .commitMarker = 0 ∧
      t.rtcValid = false ∧
      Within [Obj.rtcFso, Obj.rtcFsoPc, Obj.rtcStatus, Obj.rtcShiftLeft, Obj.rtcCal] [.bkpValid, .bkpMode, .commitMarker, .rtcSec,
        .rtcPre, .rtcHalt, .fsoTodo, .rtcCycle] s t)

/-- HOLDUP up to the end of its shutdown (R335 to R342). Says that these complete: lastGaspTimerExpiry, mainReturnQualified,
holdupShutdownComplete. -/
def Obligations.HoldupEvents : Prop :=
  ∀ s : State,
    (s.mode = .holdup → s.dueT .lgT = true → ponrPassed s = false → (mainQualified s && vinValid s) = false → Completes
        (.lastGaspTimerExpiry) s fun t =>
      ponrPassed t = true ∧
      t.o Obj.pwrPonrCause = 1 ∧
      t.var .lgT = 0 ∧
      t.var .cutHeld = 0 ∧
      (∀ r < 2, isLastGasp s (18 + r) = true → sequenced s (18 + r) = true → seqOn (seqSt s (18 + r)) = true → holder s = true →
        seqSt t (18 + r) = SS.discharging ∧ t.varB .offGot (18 + r) = true ∧ t.varN .offDue (18 + r) = (if offHard s (18 + r) then 2
        else 1) ∧ t.varB .disOn (18 + r) = true) ∧
      RegsWithin [Obj.pwrFlags, Obj.pwrPonrCause, Obj.seqState 18, Obj.seqState 19, Obj.sequencerRailsUp, Obj.sequencerRailsFailed,
        Obj.srcCond (railSrc 18), Obj.srcCond (railSrc 19)] [] [.lgT, .cutHeld, .offT, .offKind, .offGot, .dis, .disOn, .offDue,
        .offTick, .disT, .disPast, .hicT, .startDue, .seqSince] s t) ∧
    (s.mode ≠ .holdup ∨ s.dueT .lgT = false ∨ ponrPassed s = true ∨ (mainQualified s && vinValid s) = true → Completes
        (.lastGaspTimerExpiry) s fun t =>
      t = s) ∧
    (∀ (us vlow : Nat), s.mode = .holdup → ponrPassed s = false → mainQualified s = false → 20 ≤ s.varN .mainCnt → s.varB .cutHeld =
        false → Completes (.mainReturnQualified us vlow) s fun t =>
      mainQualified t = true ∧
      ponrPassed t = false ∧
      t.var .lgT = 0 ∧
      t.offers = s.offers ++ [⟨0x0704, mainBackData 0 s, false⟩] ∧
      Within [Obj.pwrFlags] [.lgT, .cutHeld] s t) ∧
    (∀ (us vlow : Nat), s.mode = .holdup → ponrPassed s = false → mainQualified s = false → 20 ≤ s.varN .mainCnt → s.varB .cutHeld =
        true → s.oN Obj.pwrSrc = 3 → Completes (.mainReturnQualified us vlow) s fun t =>
      mainQualified t = true ∧
      t.o Obj.pwrSrc = 1 ∧
      t.var .lgT = 0 ∧ t.var .cutHeld = 0 ∧
      Within [Obj.pwrFlags, Obj.pwrSrc, Obj.pwrHoTime, Obj.pwrHandovers] [.lgT, .cutHeld, .hbCnt, .gateOff, .handRound] s t) ∧
    (s.mode = .holdup → ponrPassed s = true → railsDischarged s = true → commitRuns s = false → s.varB .modeReq 2 = false → s.varB
        .modeReq 1 = false → Completes (.holdupShutdownComplete) s fun t =>
      t.varN .modeReq 2 = (if mainInputValid s then 5 else s.varN .modeReq 2) ∧
      t.varN .modeReq 1 = (if mainInputValid s then s.varN .modeReq 1 else 15) ∧
      t.offers = s.offers ++ (if mainInputValid s then [⟨0x0704, mainBackData 1 s, false⟩] else []) ++
        [⟨0x0703, u32 (holdFrames s) ++ u8 (State.ofBool (mainInputValid s)) ++ u16 (packMv s), false⟩] ∧
      Within [] [.modeReq] s t)

/-- The charger (R328 to R334, R359). Says that these complete: chargeStart, prechargeDone, prechargeTimeout, cvEntry, topoffEntry,
topoffExpiry, chargeSuspend, packOvervoltage, safetyTimerExpiry, inputLimitSearchStep, inputLimitSag. -/
def Obligations.ChargerEvents : Prop :=
  ∀ s : State,
    (s.varB .chgGoto = false → chgFails s = none → s.oN Obj.pwrChgState = 0 ∨ s.oN Obj.pwrChgState = 6 ∨ s.oN Obj.pwrChgState = 7 ∨
        (s.oN Obj.pwrChgState = 5 ∧ 10 ≤ s.varN .rechCnt) → Completes (.chargeStart) s fun t =>
      t.varN .chgGoto = (if packMv s < s.o Obj.pwrVpre then 2 else 3) ∧
      t.o Obj.pwrSusp = 0 ∧
      (chargerTick t).oN Obj.pwrChgState = (if packMv s < s.o Obj.pwrVpre then 1 else 2) ∧
      (packMv s < s.o Obj.pwrVpre → (chargerTick t).varN .chgT = s.nowRound + 3600001) ∧
      (s.oN Obj.pwrChgState ≠ 5 ∨ 10 ≤ s.varN .rechCnt) ∧ (chargerTick t).o Obj.pwrTEq = 0 ∧ (chargerTick t).o Obj.pwrTWall = 0 ∧
      ((inputLimit s).all fun x => x.2.2.isNone || decide ((chargerTick t).o Obj.pwrIlimIn = min x.2.1 (s.o Obj.pwrIsrc + 50))) =
        true ∧
      Within [Obj.pwrSusp] [.chgGoto] s t) ∧
    (s.varB .chgGoto = false → s.oN Obj.pwrChgState = 1 → 100 ≤ s.varN .vpreCnt → Completes (.prechargeDone) s fun t =>
      t.varN .chgGoto = 3 ∧
      (chargerTick t).oN Obj.pwrChgState = 2 ∧
      (chargerTick t).var .chgT = 0 ∧
      Within [] [.chgGoto] s t) ∧
    (s.varB .chgGoto = false → s.oN Obj.pwrChgState = 1 → s.dueTR .chgT = true → Completes (.prechargeTimeout) s fun t =>
      t.varN .chgGoto = 8 ∧
      (chargerTick t).oN Obj.pwrChgState = 7 ∧
      t.bit Obj.pwrFlags 11 = true ∧
      t.intake = s.intake ++ (if packEn s then [⟨161, 1, timerData 1 0 s, false⟩] else []) ∧
      49 ∈ (chargerTick t).posts ∧
      Within [Obj.pwrFlags] [.chgGoto] s t) ∧
    (s.varB .chgGoto = false → s.oN Obj.pwrChgState = 2 → s.o Obj.pwrVchg ≤ packMv s → Completes (.cvEntry) s fun t =>
      t.varN .chgGoto = 4 ∧
      (chargerTick t).oN Obj.pwrChgState = 3 ∧
      Within [] [.chgGoto] s t) ∧
    (s.varB .chgGoto = false → s.oN Obj.pwrChgState = 3 → 1000 ≤ s.varN .cvCnt → Completes (.topoffEntry) s fun t =>
      t.varN .chgGoto = 5 ∧
      (chargerTick t).oN Obj.pwrChgState = 4 ∧
      (chargerTick t).varN .chgT = s.nowRound + s.oN Obj.pwrTopoff * 60000 + 1 ∧
      Within [] [.chgGoto] s t) ∧
    (s.varB .chgGoto = false → s.oN Obj.pwrChgState = 4 → s.dueTR .chgT = true → Completes (.topoffExpiry) s fun t =>
      t.varN .chgGoto = 6 ∧
      (chargerTick t).oN Obj.pwrChgState = 5 ∧
      (chargerTick t).o Obj.estQRem = s.o Obj.estCap ∧
      (chargerTick t).o Obj.estQCorr = s.o Obj.estCap - s.o Obj.chgStored ∧
      (chargerTick t).bit Obj.estFlags 0 = true ∧
      49 ∈ (chargerTick t).posts ∧
      Within [] [.chgGoto] s t) ∧
    (∀ (why : Nat), chgFails s = some why → Completes (.chargeSuspend) s fun t =>
      t.o Obj.pwrSusp = ((why : Nat) : Int) ∧
      (why = 2 → packEn s = true → t.condOn 163 0 = true) ∧
      (chargerTick t).oN Obj.pwrChgState = chgIdle s ∧
      Within [Obj.pwrSusp, Obj.srcCond 163] [.chgGoto] s t) ∧
    (chgFails s = none → Completes (.chargeSuspend) s fun t =>
      t = s) ∧
    (8 ≤ s.varN .chgOvCnt → packEn s = true → s.condOn 162 0 = false → Completes (.packOvervoltage) s fun t =>
      t.bit Obj.pwrFlags 11 = true ∧
      t.condOn 162 0 = true ∧
      t.intake = s.intake ++ [⟨162, 0, protData 162 0 s, false⟩] ∧
      t.varN .chgGoto = 8 ∧
      (chargerTick t).oN Obj.pwrChgState = 7 ∧
      Within [Obj.pwrFlags, Obj.srcCond 162] [.chgGoto] s t) ∧
    (s.varB .chgGoto = false → s.oN Obj.pwrChgState = 1 ∨ s.oN Obj.pwrChgState = 2 ∨ s.oN Obj.pwrChgState = 3 → s.o Obj.pwrSafety *
        3600 ≤ s.o Obj.pwrTEq ∨ 72000 ≤ s.o Obj.pwrTWall → Completes (.safetyTimerExpiry) s fun t =>
      t.bit Obj.pwrFlags 11 = true ∧
      t.intake = s.intake ++ (if packEn s then
        [⟨161, 0, timerData 0 (if s.o Obj.pwrTWall < 72000 then 0 else if s.o Obj.pwrTEq < s.o Obj.pwrSafety * 3600 then 1 else 2) s, false⟩]
        else []) ∧
      t.varN .chgGoto = 8 ∧
      (chargerTick t).oN Obj.pwrChgState = 7 ∧
      49 ∈ (chargerTick t).posts ∧
      Within [Obj.pwrFlags] [.chgGoto] s t) ∧
    (s.oN Obj.pwrChgState = 0 ∨ 4 ≤ s.oN Obj.pwrChgState ∨ (s.o Obj.pwrTEq < s.o Obj.pwrSafety * 3600 ∧ s.o Obj.pwrTWall < 72000) ∨
        s.varB .chgGoto = true → Completes (.safetyTimerExpiry) s fun t =>
      t = s) ∧
    (∀ (c : Nat) (cap sag : Int), inputLimit s = some (c, cap, some sag) → s.bit Obj.pwrFlags 6 = true → s.dueTR .searchT = true →
        s.o Obj.pwrIlimIn + 50 < cap → Completes (.inputLimitSearchStep) s fun t =>
      t.o Obj.pwrIlimIn = s.o Obj.pwrIlimIn + 50 ∧
      t.varN .searchT = s.nowRound + 11 ∧
      t.var .searchSteps = s.var .searchSteps + 1 ∧
      Within [Obj.pwrIlimIn] [.searchSteps, .searchT] s t) ∧
    (∀ (c : Nat) (cap sag : Int), inputLimit s = some (c, cap, some sag) → s.bit Obj.pwrFlags 6 = true → s.dueTR .searchT = true →
        cap ≤ s.o Obj.pwrIlimIn + 50 → Completes (.inputLimitSearchStep) s fun t =>
      t.o Obj.pwrIlimIn = cap ∧
      t.bit Obj.pwrFlags 6 = false ∧
      t.var .searchT = 0 ∧
      t.posts = s.posts ++ [55] ∧
      (500 ≤ cap → t.offers = s.offers ++
        [⟨0x0709, u8 (s.o Obj.pwrIlimSrc) ++ u16 cap ++ u16 0 ++ u16 (s.var .searchSteps + 1), false⟩]) ∧
      (cap < 500 → t.intake = s.intake ++
        [⟨168, 0, u8 (s.o Obj.pwrIlimSrc) ++ u16 cap ++ u16 0 ++ u16 (s.var .searchSteps + 1), false⟩]) ∧
      Within [Obj.pwrIlimIn, Obj.pwrFlags] [.searchSteps, .searchT] s t) ∧
    (∀ (c : Nat) (cap sag : Int), inputLimit s = some (c, cap, some sag) → sourceMv s ≤ sag → s.varB .sagOn = false → s.bit
        Obj.pwrFlags 6 = true → Completes (.inputLimitSag) s fun t =>
      t.o Obj.pwrIlimIn = s.o Obj.pwrIsrc * 90 / 1000 * 10 ∧
      t.bit Obj.pwrFlags 6 = false ∧
      t.varB .sagOn = true ∧
      t.posts = s.posts ++ [55] ∧
      (500 ≤ t.o Obj.pwrIlimIn → t.offers = s.offers ++
        [⟨0x0709, u8 (s.o Obj.pwrIlimSrc) ++ u16 (t.o Obj.pwrIlimIn) ++ u16 (divNearest (sourceMv s) 10) ++ u16 (s.var .searchSteps), false⟩]) ∧
      (t.o Obj.pwrIlimIn < 500 → t.intake = s.intake ++
        [⟨168, 0, u8 (s.o Obj.pwrIlimSrc) ++ u16 (t.o Obj.pwrIlimIn) ++ u16 (divNearest (sourceMv s) 10) ++ u16 (s.var .searchSteps), false⟩]) ∧
      Within [Obj.pwrIlimIn, Obj.pwrFlags] [.sagOn, .searchT] s t) ∧
    (∀ (c : Nat) (cap sag : Int), inputLimit s = some (c, cap, some sag) → sourceMv s ≤ sag → s.varB .sagOn = false → s.bit
        Obj.pwrFlags 6 = false → Completes (.inputLimitSag) s fun t =>
      t.o Obj.pwrIlimIn = divNearest (s.o Obj.pwrIlimIn * 9) 10 ∧
      t.posts = s.posts ∧
      t.varB .sagOn = true ∧
      Within [Obj.pwrIlimIn] [.sagOn] s t)

/-- Attach, detach and protection of the service port (R396 to R406). That the partner's messages are operands (log entry 59), and
that a protection trip forgets the attach without a record (log entry 61), are the model's choice. Says that these complete:
ccStateChange, ccAttach, detach, deadBatteryAttach, vbusSourceOn, vbusProtectionTrip, errorRecoveryExpiry, cablePulled,
vbusDischargeDone. -/
def Obligations.PortAttachEvents : Prop :=
  ∀ s : State,
    (∀ (pin term : Nat), portSt s = 0 ∨ portSt s = 1 → s.bit Obj.portFlags 5 = false → 1 ≤ term → term ≤ 3 → Completes
        (.ccStateChange pin term) s fun t =>
      portSt t = 1 ∧
      t.varN .debT = s.now + 150001 ∧
      t.var .ccPin = pin ∧ t.var .ccTerm = term ∧
      t.var .trySnk = 0 ∧
      t.posts = s.posts ∧ t.offers = s.offers ∧
      Within [Obj.portState] [.ccPin, .ccTerm, .debT, .trySnk, .tryT] s t) ∧
    (∀ (pin term : Nat), portSt s = 0 ∨ portSt s = 1 → s.bit Obj.portFlags 5 = true → Completes (.ccStateChange pin term) s fun t =>
      portSt t = portSt s ∧
      t.varN .debT = s.now + 150001 ∧
      t.var .ccPin = (if term = 0 then 0 else (pin : Int)) ∧ t.var .ccTerm = term ∧
      Within [] [.ccPin, .ccTerm, .debT] s t) ∧
    (∀ (pin term : Nat), portSt s = 0 ∨ portSt s = 1 → s.bit Obj.portFlags 5 = false → term = 4 → s.oN Obj.portRoleCfg = 1 → s.varN
        .trySnk = 0 → Completes (.ccStateChange pin term) s fun t =>
      portSt t = 1 ∧
      t.varN .trySnk = 1 ∧
      t.var .debT = 0 ∧
      (s.now + 75001 ≤ t.varN .tryT ∧ t.varN .tryT ≤ s.now + 150001) ∧
      ccPad t = (if s.varB .ccIsol then 0 else 1) ∧
      Within [Obj.portState] [.ccPin, .ccTerm, .debT, .trySnk, .tryT] s t) ∧
    (∀ (pin term : Nat), portSt s = 0 ∨ portSt s = 1 → s.bit Obj.portFlags 5 = false → term = 4 → s.oN Obj.portRoleCfg = 1 → s.varN
        .trySnk = 2 → Completes (.ccStateChange pin term) s fun t =>
      portSt t = 1 ∧
      t.varN .trySnk = 2 ∧
      t.varN .debT = s.now + 150001 ∧
      t.var .tryT = 0 ∧
      Within [Obj.portState] [.ccPin, .ccTerm, .debT, .tryT] s t) ∧
    (∀ (pin term : Nat), portSt s = 0 ∨ portSt s = 1 → s.bit Obj.portFlags 5 = false → term = 0 → s.varN .trySnk ≠ 1 → Completes
        (.ccStateChange pin term) s fun t =>
      portSt t = 0 ∧
      t.var .debT = 0 ∧
      t.var .ccPin = 0 ∧ t.var .ccTerm = 0 ∧
      t.var .trySnk = 0 ∧
      Within [Obj.portState] [.ccPin, .ccTerm, .debT, .trySnk, .tryT] s t) ∧
    (∀ (pin term : Nat), portSt s = 3 ∨ portSt s = 5 → term = 0 → Completes (.ccStateChange pin term) s fun t =>
      t.varN .openT = s.now + 15001 ∧
      portSt t = portSt s ∧
      Within [] [.ccPin, .ccTerm, .openT] s t) ∧
    (∀ (pin term : Nat), portSt s = 2 → s.bit Obj.portFlags 7 = false → 1 ≤ term → term ≤ 3 → pdContract s = false → s.bit
        Obj.portFlags 3 = false → Completes (.ccStateChange pin term) s fun t =>
      t.o Obj.portContract = ((term : Nat) : Int) ∧
      t.o Obj.portVContract = 5000 ∧
      t.o Obj.portIContract = (if term = 3 then 3000 else if term = 2 then 1500 else 900) ∧
      t.var .openT = 0 ∧
      Within [Obj.portContract, Obj.portVContract, Obj.portIContract] [.ccPin, .ccTerm, .openT] s t) ∧
    (portSt s = 1 → s.dueT .debT = true → 1 ≤ s.varN .ccTerm → s.varN .ccTerm ≤ 3 → 4400 ≤ s.pin .vbus → sinkAllowed s = true →
        Completes (.ccAttach) s fun t =>
      portSt t = 2 ∧
      t.o Obj.portPowerRole = 1 ∧ t.o Obj.portDataRole = 1 ∧
      t.o Obj.portOrient = s.var .ccPin ∧
      t.bit Obj.portFlags 1 = true ∧ t.bit Obj.portFlags 5 = false ∧
      t.o Obj.portContract = ((s.varN .ccTerm : Nat) : Int) ∧
      t.o Obj.portAttaches = (s.bump Obj.portAttaches).o Obj.portAttaches ∧
      t.oN Obj.portVContract = 5000 ∧ t.oN Obj.portIContract = (if s.varN .ccTerm = 3 then 3000 else if s.varN .ccTerm = 2 then 1500
        else 900) ∧
      t.posts.take (s.posts.length + 1) = s.posts ++ [72] ∧
      t.offers.take (s.offers.length + 1) = s.offers ++
        [⟨0x0A00, u8 1 ++ u8 1 ++ u8 (s.var .ccPin) ++ u8 (s.varN .ccTerm - 1 : Nat) ++ u8 (State.ofBool (s.bit Obj.portFlags 5)), false⟩] ∧
      t.var .debT = 0 ∧
      Within [Obj.portState, Obj.portPowerRole, Obj.portDataRole, Obj.portOrient, Obj.portFlags, Obj.portAttaches, Obj.portContract,
        Obj.portVContract, Obj.portIContract] [.debT] s t) ∧
    (portSt s = 1 → s.dueT .debT = true → s.varN .ccTerm = 4 → s.bit Obj.portFlags 5 = false → s.oN Obj.portRoleCfg = 1 → s.varN
        .trySnk = 2 → sourceAllowed s = true → Completes (.ccAttach) s fun t =>
      portSt t = 3 ∧
      t.o Obj.portPowerRole = 2 ∧ t.o Obj.portDataRole = 2 ∧
      t.o Obj.portOrient = s.var .ccPin ∧
      t.o Obj.portAttaches = (s.bump Obj.portAttaches).o Obj.portAttaches ∧
      t.posts = s.posts ++ [72] ∧
      t.var .debT = 0 ∧
      t.varN .attAt = s.now ∧ t.var .trySnk = 0 ∧
      t.offers = s.offers ++ [⟨0x0A00, u8 2 ++ u8 2 ++ u8 (s.var .ccPin) ++ u8 0xFF ++ u8 0, false⟩] ∧
      Within [Obj.portState, Obj.portPowerRole, Obj.portDataRole, Obj.portOrient, Obj.portAttaches] [.debT, .trySnk, .attAt] s t) ∧
    (portSt s = 1 → s.dueT .debT = true → s.bit Obj.portFlags 5 = true → s.mode ≠ .boot → s.pin .vbus < 4400 ∨ s.varN .ccTerm = 0 ∨
        3 < s.varN .ccTerm → Completes (.ccAttach) s fun t =>
      portSt t = 0 ∧
      t.bit Obj.portFlags 5 = false ∧ t.bit Obj.portFlags 1 = false ∧
      Within [Obj.portState, Obj.portOrient, Obj.portPowerRole, Obj.portDataRole, Obj.portFlags, Obj.portContract,
        Obj.portVContract, Obj.portIContract] [.transT, .reqV, .reqI, .debT, .openT, .drT, .ownReq, .resendT, .ownHow, .trySnk,
        .tryT] s t) ∧
    (portSt s ≠ 1 ∨ s.dueT .debT = false ∨ ((1 ≤ s.varN .ccTerm ∧ s.varN .ccTerm ≤ 3 ∨ s.bit Obj.portFlags 5 = true) ∧ sinkAllowed s
        = false) → Completes (.ccAttach) s fun t =>
      t = s) ∧
    (portSt s = 2 → s.bit Obj.portFlags 7 = false → s.pin .vbus < 3670 → s.bit Obj.portFlags 3 = false → Completes (.detach) s fun t
        =>
      portSt t = 0 ∧
      t.oN Obj.portContract = 0 ∧
      t.bit Obj.portFlags 0 = false ∧ t.bit Obj.portFlags 1 = false ∧ t.bit Obj.portFlags 2 = false ∧ t.bit Obj.portFlags 4 = false
        ∧ t.bit Obj.portFlags 6 = false ∧
      t.o Obj.portPowerRole = 0 ∧ t.o Obj.portDataRole = 0 ∧ t.o Obj.portOrient = 0 ∧
      (s.bit Obj.portFlags 4 = true → t.ports[4] = PortState.idle) ∧
      72 ∈ t.posts ∧
      t.offers.take (s.offers.length + 1) = s.offers ++ [⟨0x0A01, u8 (portSt s : Nat) ++ u16 (s.o Obj.portVbus) ++ u8 0, false⟩] ∧
      (s.oN Obj.portContract ≠ 0 → 73 ∈ t.posts) ∧
      RegsWithin [Obj.portState, Obj.portOrient, Obj.portPowerRole, Obj.portDataRole, Obj.portFlags, Obj.portContract,
        Obj.portVContract, Obj.portIContract] [] [.transT, .reqV, .reqI, .debT, .openT, .drT, .ownReq, .resendT, .ownHow, .trySnk,
        .tryT] s t) ∧
    (portSt s = 2 → s.pin .vbus < 3670 → s.bit Obj.portFlags 3 = true ∨ s.bit Obj.portFlags 7 = true → Completes (.detach) s fun t
        =>
      t = s) ∧
    (portSt s = 3 ∨ portSt s = 5 → s.dueT .openT = true → Completes (.detach) s fun t =>
      portSt t = 0 ∧
      t.oN Obj.portContract = 0 ∧
      t.var .openT = 0 ∧
      t.bit Obj.portFlags 2 = false ∧ t.bit Obj.portFlags 6 = false ∧
      72 ∈ t.posts ∧
      t.offers.take (s.offers.length + 1) = s.offers ++ [⟨0x0A01, u8 (portSt s : Nat) ++ u16 (s.o Obj.portVbus) ++ u8 1, false⟩] ∧
      (s.oN Obj.portContract ≠ 0 → 73 ∈ t.posts) ∧
      RegsWithin [Obj.portState, Obj.portOrient, Obj.portPowerRole, Obj.portDataRole, Obj.portFlags, Obj.portContract,
        Obj.portVContract, Obj.portIContract] [] [.transT, .reqV, .reqI, .debT, .openT, .drT, .ownReq, .resendT, .ownHow, .trySnk,
        .tryT] s t) ∧
    (∀ (v pin term : Nat), s.mgtOn = false → 4000 < v → 1 ≤ term → term ≤ 3 → Completes (.deadBatteryAttach v pin term) s fun t =>
      t.bit Obj.portFlags 1 = true ∧ t.bit Obj.portFlags 5 = true ∧
      t.var .ccPin = pin ∧ t.var .ccTerm = term ∧
      t.pin .vbus = v ∧
      RegsWithin [Obj.portFlags] [] [.ccPin, .ccTerm] s t) ∧
    (portSt s = 3 → s.bit Obj.portFlags 2 = false → sourceAllowed s = true → s.now ≤ s.varN .attAt + 275000 → Completes
        (.vbusSourceOn) s fun t =>
      t.bit Obj.portFlags 2 = true ∧
      (∀ b, b ≠ 2 → t.bit Obj.portFlags b = s.bit Obj.portFlags b) ∧
      t.pdTx = s.pdTx ++ [PdMsg.sourceCapabilities [⟨true, 5000, 1500⟩]] ∧
      RegsWithin [Obj.portFlags] [] [] s t) ∧
    (portSt s ≠ 3 ∨ s.bit Obj.portFlags 2 = true ∨ sourceAllowed s = false ∨ s.varN .attAt + 275000 < s.now → Completes
        (.vbusSourceOn) s fun t =>
      t = s) ∧
    (∀ (kind val : Nat), (kind = 1 ∧ s.bit Obj.portFlags 1 = true ∧ portSt s = 2 ∧ 11 * (if s.bit Obj.portFlags 3 then max (s.oN
        Obj.portVContract) (s.varN .reqV) else s.oN Obj.portVContract) < 10 * val) ∨ (kind = 2 ∧ s.bit Obj.portFlags 1 = true ∧
        portSt s = 2 ∧ 5 * s.oN Obj.portIContract < 4 * val) ∨ (kind = 3 ∧ s.bit Obj.portFlags 2 = true ∧ 1875 < val) ∨ (kind = 4 ∧
        s.bit Obj.portFlags 1 = true ∧ 50 < val) ∨ (kind = 5 ∧ s.varB .ccIsol = false ∧ 6000 < val) → portSt s ≠ 5 → ((s.hist
        .hTrip).filter fun f => decide ((s.now : Int) < f + 10000000)).length + 1 < s.oN Obj.portTripMax → Completes
        (.vbusProtectionTrip kind val) s fun t =>
      portSt t = 4 ∧
      t.varN .errT = s.now + 25001 ∧
      t.o Obj.portTrips = (s.bump Obj.portTrips).o Obj.portTrips ∧
      t.o Obj.portLastTrip = (if kind = 5 then s.o Obj.portLastTrip else ((kind : Nat) : Int)) ∧
      t.bit Obj.portFlags 0 = false ∧ t.bit Obj.portFlags 1 = false ∧ t.bit Obj.portFlags 2 = false ∧ t.bit Obj.portFlags 4 = false ∧
      t.oN Obj.portContract = 0 ∧
      t.varB .ccIsol = (s.varB .ccIsol || decide (kind = 5)) ∧
      t.bit Obj.portFlags 7 = (s.bit Obj.portFlags 7 || decide (kind = 3)) ∧
      t.hist .hTrip = (s.now : Int) :: (s.hist .hTrip).filter (fun f => decide ((s.now : Int) < f + 10000000)) ∧
      t.arrived = s.arrived ++
        [⟨if kind = 1 then 180 else if kind = 2 ∨ kind = 3 then 181 else if kind = 4 then 182 else 186, if kind = 3 then 1 else 0, u8 kind ++ u16 (if kind = 1 then val else s.o Obj.portVbus) ++ u16 (if 2 ≤ kind ∧ kind ≤ 4 then val else s.o Obj.portIbus) ++ u16 (if kind = 1 then divNearest (11 * (if s.bit Obj.portFlags 3 then max (s.oN Obj.portVContract) (s.varN .reqV) else s.oN Obj.portVContract)) 10 else if kind = 2 then divNearest (5 * s.oN Obj.portIContract) 4 else if kind = 3 then 1875 else if kind = 4 then 50 else 6000) ++ u8 (((s.hist .hTrip).filter fun f => decide ((s.now : Int) < f + 10000000)).length + 1 : Nat), false⟩] ∧
      RegsWithin [Obj.portState, Obj.portOrient, Obj.portPowerRole, Obj.portDataRole, Obj.portFlags, Obj.portContract,
        Obj.portVContract, Obj.portIContract, Obj.portTrips, Obj.portLastTrip] [] [.transT, .reqV, .reqI, .debT, .openT, .drT,
        .ownReq, .resendT, .errT, .ccIsol, .ownHow, .trySnk, .tryT] s t) ∧
    (∀ (kind val : Nat), (kind = 1 ∧ s.bit Obj.portFlags 1 = true ∧ portSt s = 2 ∧ 11 * (if s.bit Obj.portFlags 3 then max (s.oN
        Obj.portVContract) (s.varN .reqV) else s.oN Obj.portVContract) < 10 * val) ∨ (kind = 2 ∧ s.bit Obj.portFlags 1 = true ∧
        portSt s = 2 ∧ 5 * s.oN Obj.portIContract < 4 * val) ∨ (kind = 3 ∧ s.bit Obj.portFlags 2 = true ∧ 1875 < val) ∨ (kind = 4 ∧
        s.bit Obj.portFlags 1 = true ∧ 50 < val) ∨ (kind = 5 ∧ s.varB .ccIsol = false ∧ 6000 < val) → portSt s ≠ 5 → s.oN
        Obj.portTripMax ≤ ((s.hist .hTrip).filter fun f => decide ((s.now : Int) < f + 10000000)).length + 1 → Completes
        (.vbusProtectionTrip kind val) s fun t =>
      portSt t = 5 ∧
      t.bit Obj.portFlags 6 = true ∧
      t.var .errT = 0 ∧
      t.o Obj.portTrips = (s.bump Obj.portTrips).o Obj.portTrips ∧
      t.bit Obj.portFlags 1 = false ∧ t.bit Obj.portFlags 2 = false ∧
      t.varB .ccIsol = (s.varB .ccIsol || decide (kind = 5)) ∧
      t.bit Obj.portFlags 7 = (s.bit Obj.portFlags 7 || decide (kind = 3)) ∧
      t.hist .hTrip = (s.now : Int) :: (s.hist .hTrip).filter (fun f => decide ((s.now : Int) < f + 10000000)) ∧
      t.arrived = s.arrived ++
        [⟨if kind = 1 then 180 else if kind = 2 ∨ kind = 3 then 181 else if kind = 4 then 182 else 186, if kind = 3 then 1 else 0, u8 kind ++ u16 (if kind = 1 then val else s.o Obj.portVbus) ++ u16 (if 2 ≤ kind ∧ kind ≤ 4 then val else s.o Obj.portIbus) ++ u16 (if kind = 1 then divNearest (11 * (if s.bit Obj.portFlags 3 then max (s.oN Obj.portVContract) (s.varN .reqV) else s.oN Obj.portVContract)) 10 else if kind = 2 then divNearest (5 * s.oN Obj.portIContract) 4 else if kind = 3 then 1875 else if kind = 4 then 50 else 6000) ++ u8 (((s.hist .hTrip).filter fun f => decide ((s.now : Int) < f + 10000000)).length + 1 : Nat), false⟩,
        ⟨185, 0, u8 (((s.hist .hTrip).filter fun f => decide ((s.now : Int) < f + 10000000)).length + 1 : Nat) ++ u8 kind, false⟩] ∧
      RegsWithin [Obj.portState, Obj.portOrient, Obj.portPowerRole, Obj.portDataRole, Obj.portFlags, Obj.portContract,
        Obj.portVContract, Obj.portIContract, Obj.portTrips, Obj.portLastTrip] [] [.transT, .reqV, .reqI, .debT, .openT, .drT,
        .ownReq, .resendT, .errT, .ccIsol, .ownHow, .trySnk, .tryT] s t) ∧
    (∀ (kind val : Nat), (kind = 1 ∧ s.bit Obj.portFlags 1 = true ∧ portSt s = 2 ∧ 11 * (if s.bit Obj.portFlags 3 then max (s.oN
        Obj.portVContract) (s.varN .reqV) else s.oN Obj.portVContract) < 10 * val) ∨ (kind = 2 ∧ s.bit Obj.portFlags 1 = true ∧
        portSt s = 2 ∧ 5 * s.oN Obj.portIContract < 4 * val) ∨ (kind = 3 ∧ s.bit Obj.portFlags 2 = true ∧ 1875 < val) ∨ (kind = 4 ∧
        s.bit Obj.portFlags 1 = true ∧ 50 < val) ∨ (kind = 5 ∧ s.varB .ccIsol = false ∧ 6000 < val) → portSt s = 5 → Completes
        (.vbusProtectionTrip kind val) s fun t =>
      portSt t = 5 ∧
      t.o Obj.portTrips = (s.bump Obj.portTrips).o Obj.portTrips ∧
      t.arrived = s.arrived ++
        [⟨if kind = 1 then 180 else if kind = 2 ∨ kind = 3 then 181 else if kind = 4 then 182 else 186, if kind = 3 then 1 else 0, u8 kind ++ u16 (if kind = 1 then val else s.o Obj.portVbus) ++ u16 (if 2 ≤ kind ∧ kind ≤ 4 then val else s.o Obj.portIbus) ++ u16 (if kind = 1 then divNearest (11 * (if s.bit Obj.portFlags 3 then max (s.oN Obj.portVContract) (s.varN .reqV) else s.oN Obj.portVContract)) 10 else if kind = 2 then divNearest (5 * s.oN Obj.portIContract) 4 else if kind = 3 then 1875 else if kind = 4 then 50 else 6000) ++ u8 (((s.hist .hTrip).filter fun f => decide ((s.now : Int) < f + 10000000)).length + 1 : Nat), false⟩] ∧
      t.varB .ccIsol = (s.varB .ccIsol || decide (kind = 5)) ∧
      t.bit Obj.portFlags 6 = s.bit Obj.portFlags 6 ∧
      Within [Obj.portTrips, Obj.portLastTrip] [.ccIsol] s t) ∧
    (∀ (kind val : Nat), ¬ ((kind = 1 ∧ s.bit Obj.portFlags 1 = true ∧ portSt s = 2 ∧ 11 * (if s.bit Obj.portFlags 3 then max (s.oN
        Obj.portVContract) (s.varN .reqV) else s.oN Obj.portVContract) < 10 * val) ∨ (kind = 2 ∧ s.bit Obj.portFlags 1 = true ∧
        portSt s = 2 ∧ 5 * s.oN Obj.portIContract < 4 * val) ∨ (kind = 3 ∧ s.bit Obj.portFlags 2 = true ∧ 1875 < val) ∨ (kind = 4 ∧
        s.bit Obj.portFlags 1 = true ∧ 50 < val) ∨ (kind = 5 ∧ s.varB .ccIsol = false ∧ 6000 < val)) → Completes
        (.vbusProtectionTrip kind val) s fun t =>
      t = s) ∧
    (∀ (gone : Bool), portSt s = 4 → s.dueT .errT = true → gone = true → Completes (.errorRecoveryExpiry gone) s fun t =>
      portSt t = 0 ∧
      t.var .errT = 0 ∧
      t.var .ccIsol = 0 ∧
      Within [Obj.portState] [.errT, .ccIsol] s t) ∧
    (∀ (gone : Bool), gone = false → Completes (.errorRecoveryExpiry gone) s fun t =>
      t = s) ∧
    (∀ (cc v : Nat), portSt s = 2 → s.bit Obj.portFlags 3 = true → cc < 150 ∨ v < 3670 → Completes (.cablePulled cc v) s fun t =>
      t.bit Obj.portFlags 0 = false ∧ t.bit Obj.portFlags 1 = false ∧ t.bit Obj.portFlags 3 = false ∧ t.bit Obj.portFlags 7 = true ∧
      portSt t = 2 ∧
      t.oN Obj.portContract = 0 ∧
      t.o Obj.portPulls = (s.bump Obj.portPulls).o Obj.portPulls ∧
      t.pin .vbus = v ∧
      t.arrived = s.arrived ++
        [⟨183, 0, u16 (s.oN Obj.portVContract : Nat) ++ u16 (if s.varB .reqV then s.varN .reqV else s.oN Obj.portVContract : Nat) ++ u8 (if cc < 150 then 0 else 1) ++ u8 (if s.oN Obj.pwrSrc = 2 then (firstSource s 2).getD 0 else s.oN Obj.pwrSrc : Nat), false⟩] ∧
      RegsWithin [Obj.portFlags, Obj.portContract, Obj.portVContract, Obj.portIContract, Obj.portPulls] [] [.transT, .reqV, .reqI] s
        t) ∧
    (∀ (cc v : Nat), portSt s ≠ 2 ∨ s.bit Obj.portFlags 3 = false ∨ (150 ≤ cc ∧ 3670 ≤ v) → Completes (.cablePulled cc v) s fun t =>
      t = s) ∧
    (s.bit Obj.portFlags 7 = true → s.pin .vbus < 800 → portSt s ≠ 2 → Completes (.vbusDischargeDone) s fun t =>
      t.bit Obj.portFlags 7 = false ∧
      (∀ b, b ≠ 7 → t.bit Obj.portFlags b = s.bit Obj.portFlags b) ∧
      Within [Obj.portFlags] [] s t) ∧
    (s.bit Obj.portFlags 7 = true → s.pin .vbus < 800 → portSt s = 2 → Completes (.vbusDischargeDone) s fun t =>
      t.bit Obj.portFlags 7 = false ∧
      portSt t = 0 ∧
      72 ∈ t.posts ∧
      RegsWithin [Obj.portState, Obj.portOrient, Obj.portPowerRole, Obj.portDataRole, Obj.portFlags, Obj.portContract,
        Obj.portVContract, Obj.portIContract] [] [.transT, .reqV, .reqI, .debT, .openT, .drT, .ownReq, .resendT, .ownHow, .trySnk,
        .tryT] s t) ∧
    (∀ (gone : Bool), portSt s ≠ 4 ∨ s.dueT .errT = false → gone = true → Completes (.errorRecoveryExpiry gone) s fun t =>
      t = s.setVar .ccIsol 0)

/-- USB PD messages (R399 to R412). That the partner's messages are operands (log entry 59), what a swap and a hard reset presume
(log entry 60), and the points that no rule settles (log entry 114), are the model's choice. Says that these complete:
sourceCapabilities, psRdy, transitionEnd, eprModeRequest, hardReset, prSwapReceived, drSwapReceived, drSwapPreference,
withdrawnResend, discoverIdentity, discoverSvids, discoverModes, enterMode, exitMode. -/
def Obligations.PdMessageEvents : Prop :=
  ∀ s : State,
    (∀ (pdos : List Pdo) (p : Pdo), portSt s = 2 → s.bit Obj.portFlags 7 = false → pdMode s = true → choosePdo (snkVmax s) (s.oN
        Obj.portSnkImax) pdos = some p → Completes (.sourceCapabilities pdos) s fun t =>
      t.varN .reqV = p.mv ∧
      t.varN .reqI = min p.ma (s.oN Obj.portSnkImax) ∧
      t.bit Obj.portFlags 3 = true ∧
      t.var .transT = 0 ∧
      t.pdTx = s.pdTx ++ [PdMsg.request p.mv (min p.ma (s.oN Obj.portSnkImax))] ∧
      t.offers = (withdrawOwn false s).offers ∧ t.var .ownReq = (withdrawOwn false s).var .ownReq ∧
      RegsWithin [Obj.portFlags] [] [.transT, .reqV, .reqI, .ownReq, .ownHow, .ownPref, .resendT] s t) ∧
    (∀ (pdos : List Pdo), portSt s = 2 → s.bit Obj.portFlags 7 = false → pdMode s = true → choosePdo (snkVmax s) (s.oN
        Obj.portSnkImax) pdos = none → Completes (.sourceCapabilities pdos) s fun t =>
      t = withdrawOwn true (withdrawOwn false s)) ∧
    (portSt s = 2 → s.bit Obj.portFlags 3 = true → s.varB .reqV = true → pdMode s = true → Completes (.psRdy) s fun t =>
      t.oN Obj.portContract = 4 ∧
      t.oN Obj.portVContract = s.varN .reqV ∧
      t.oN Obj.portIContract = s.varN .reqI ∧
      t.var .reqV = 0 ∧ t.var .reqI = 0 ∧
      t.varN .transT = s.now + 10001 ∧
      t.varN .drT = s.now + 100001 ∧
      t.bit Obj.portFlags 3 = true ∧
      (s.oN Obj.portContract ≠ 4 ∨ s.oN Obj.portVContract ≠ s.varN .reqV → t.offers.take (s.offers.length + 1) = s.offers ++
        [⟨0x0A02, u8 4 ++ u16 (s.varN .reqV : Nat) ++ u16 (s.varN .reqI : Nat) ++ u8 (s.o Obj.portPowerRole), false⟩] ∧ t.posts =
        s.posts ++ [73]) ∧
      t.varN .oldV = s.oN Obj.portVContract ∧
      Within [Obj.portContract, Obj.portVContract, Obj.portIContract] [.transT, .reqV, .reqI, .drT, .ownReq, .ownHow, .ownPref,
        .resendT, .oldV] s t) ∧
    (portSt s = 3 → s.bit Obj.portFlags 2 = true → pdMode s = true → pdContract s = false → Completes (.psRdy) s fun t =>
      t.oN Obj.portContract = 4 ∧
      t.oN Obj.portVContract = 5000 ∧ t.oN Obj.portIContract = 1500 ∧
      t.varN .drT = s.now + 100001 ∧
      t.posts = s.posts ++ [73] ∧
      Within [Obj.portContract, Obj.portVContract, Obj.portIContract] [.drT] s t) ∧
    (¬ (portSt s = 2 ∧ pdMode s = true ∧ s.bit Obj.portFlags 3 = true ∧ s.varB .reqV = true) → ¬ (portSt s = 3 ∧ s.bit Obj.portFlags
        2 = true ∧ pdMode s = true ∧ pdContract s = false) → Completes (.psRdy) s fun t =>
      t = s) ∧
    (s.bit Obj.portFlags 3 = true → s.dueT .transT = true → Completes (.transitionEnd) s fun t =>
      t.bit Obj.portFlags 3 = false ∧
      t.var .transT = 0 ∧
      Within [Obj.portFlags] [.transT, .reqV, .reqI] s t) ∧
    (portAttached s = true → pdMode s = true → Completes (.eprModeRequest) s fun t =>
      t.pdTx = s.pdTx ++ [PdMsg.notSupported] ∧
      t = { withdrawOwn true s with pdTx := t.pdTx }) ∧
    (∀ (sent : Bool), portSt s = 2 → s.bit Obj.portFlags 7 = false → pdMode s = true → sent = false ∨ vbusValid s = false ∨ vinValid
        s = true ∨ packUsable s = true → 1 ≤ s.varN .ccTerm ∧ s.varN .ccTerm ≤ 3 → Completes (.hardReset sent) s fun t =>
      t.o Obj.portDataRole = s.o Obj.portPowerRole ∧
      t.bit Obj.portFlags 3 = false ∧ t.bit Obj.portFlags 4 = false ∧
      t.oN Obj.portContract = s.varN .ccTerm ∧
      t.o Obj.portVContract = 5000 ∧
      t.pdTx = s.pdTx ++ (if sent then [PdMsg.hardReset] else []) ∧
      t.arrived = s.arrived ++ [⟨184, 0, u8 (if sent then 0 else 1) ++ u8 (s.o Obj.portPowerRole) ++ u8 (s.o Obj.pwrSrc), false⟩] ∧
      RegsWithin [Obj.portFlags, Obj.portContract, Obj.portVContract, Obj.portIContract, Obj.portDataRole] [] [.transT, .reqV,
        .reqI, .ownReq, .ownHow, .ownPref, .resendT] s t) ∧
    (∀ (sent : Bool), portSt s = 3 → pdMode s = true → sent = false ∨ vbusValid s = false ∨ vinValid s = true ∨ packUsable s = true
        → Completes (.hardReset sent) s fun t =>
      t.o Obj.portDataRole = s.o Obj.portPowerRole ∧
      t.bit Obj.portFlags 3 = false ∧ t.bit Obj.portFlags 4 = false ∧
      t.oN Obj.portContract = 0 ∧
      t.pdTx = s.pdTx ++ (if sent then [PdMsg.hardReset] else []) ∧
      t.arrived = s.arrived ++ [⟨184, 0, u8 (if sent then 0 else 1) ++ u8 (s.o Obj.portPowerRole) ++ u8 (s.o Obj.pwrSrc), false⟩] ∧
      RegsWithin [Obj.portFlags, Obj.portContract, Obj.portVContract, Obj.portIContract, Obj.portDataRole] [] [.transT, .reqV,
        .reqI, .ownReq, .ownHow, .ownPref, .resendT] s t) ∧
    (∀ (sent : Bool), portAttached s = true → pdMode s = true → sent = true → vbusValid s = true → vinValid s = false → packUsable s
        = false → Completes (.hardReset sent) s fun t =>
      t.pdTx = s.pdTx ++ [PdMsg.softReset] ∧
      t = { s with pdTx := t.pdTx }) ∧
    (prAllowed s = true → s.oN Obj.portPowerRole = 1 → Completes (.prSwapReceived) s fun t =>
      portSt t = 3 ∧
      t.o Obj.portPowerRole = 2 ∧
      t.oN Obj.portContract = 0 ∧
      t.bit Obj.portFlags 1 = false ∧
      t.pdTx = s.pdTx ++ [PdMsg.accept] ∧
      76 ∈ t.posts ∧ t.varN .attAt = s.now ∧
      (⟨0x0A09, u8 0 ++ u8 2 ++ u8 1, false⟩ : Offer) ∈ t.offers ∧
      RegsWithin [Obj.portFlags, Obj.portContract, Obj.portVContract, Obj.portIContract, Obj.portState, Obj.portPowerRole] []
        [.transT, .reqV, .reqI, .attAt, .ownReq, .ownHow, .ownPref, .resendT] s t) ∧
    (prAllowed s = true → s.oN Obj.portPowerRole = 2 → Completes (.prSwapReceived) s fun t =>
      portSt t = 2 ∧
      t.o Obj.portPowerRole = 1 ∧
      t.oN Obj.portVContract = 5000 ∧
      t.bit Obj.portFlags 1 = true ∧ t.bit Obj.portFlags 2 = false ∧
      t.pdTx = s.pdTx ++ [PdMsg.accept] ∧
      76 ∈ t.posts ∧
      (⟨0x0A09, u8 0 ++ u8 1 ++ u8 1, false⟩ : Offer) ∈ t.offers ∧
      RegsWithin [Obj.portFlags, Obj.portContract, Obj.portVContract, Obj.portIContract, Obj.portState, Obj.portPowerRole] []
        [.transT, .reqV, .reqI, .attAt, .ownReq, .ownHow, .ownPref, .resendT] s t) ∧
    (portAttached s = true → pdMode s = true → prAllowed s = false → Completes (.prSwapReceived) s fun t =>
      t.pdTx = s.pdTx ++ [PdMsg.reject] ∧
      t = { withdrawOwn true s with pdTx := t.pdTx }) ∧
    (portAttached s = true → pdMode s = true → s.oN Obj.portDataRole = 2 ∨ s.bit Obj.portFlags 4 = false → Completes
        (.drSwapReceived) s fun t =>
      t.o Obj.portDataRole = (if s.o Obj.portDataRole = 1 then 2 else 1) ∧
      t.pdTx = s.pdTx ++ [PdMsg.accept] ∧
      76 ∈ t.posts ∧ (⟨0x0A09, u8 1 ++ u8 (t.o Obj.portDataRole) ++ u8 1, false⟩ : Offer) ∈ t.offers ∧
      RegsWithin [Obj.portDataRole] [] [.ownReq, .ownHow, .ownPref, .resendT] s t) ∧
    (portAttached s = true → pdMode s = true → s.oN Obj.portDataRole ≠ 2 → s.bit Obj.portFlags 4 = true → Completes
        (.drSwapReceived) s fun t =>
      t.pdTx = s.pdTx ++ [PdMsg.reject] ∧
      t = { withdrawOwn true s with pdTx := t.pdTx }) ∧
    (portSt s = 2 → s.bit Obj.portFlags 7 = false → pdMode s = true → s.varB .ownReq = true → s.varB .ownPref = false → s.varN
        .ownHow ≠ 2 → Completes (.drSwapReceived) s fun t =>
      t.varN .resendT = s.now + 100001 ∧
      t.var .ownReq = s.var .ownReq ∧ t.varN .ownHow = 2 ∧
      t.offers.take (s.offers.length + 1) = s.offers ++
        [⟨0x0A09, u8 (s.varN .ownReq - 1 : Nat) ++ u8 (if s.varN .ownReq = 1 then s.oN Obj.portPowerRole else s.oN Obj.portDataRole : Nat) ++ u8 2, false⟩]) ∧
    (portSt s = 2 → s.bit Obj.portFlags 7 = false → pdMode s = true → s.varB .ownReq = true → s.varB .ownPref = true → s.varN
        .ownHow ≠ 2 → Completes (.drSwapReceived) s fun t =>
      t.var .ownReq = 0 ∧ t.var .ownPref = 0 ∧
      t.var .resendT = s.var .resendT ∧
      t.offers.take (s.offers.length + 1) = s.offers ++
        [⟨0x0A09, u8 (s.varN .ownReq - 1 : Nat) ++ u8 (if s.varN .ownReq = 1 then s.oN Obj.portPowerRole else s.oN Obj.portDataRole : Nat) ++ u8 2, false⟩]) ∧
    (∀ (a : SwapAnswer), s.dueT .drT = true → portAttached s = true → pdContract s = true → pdMode s = true → s.oN Obj.portDrPref +
        1 ≤ 2 → s.oN Obj.portDrPref + 1 ≠ s.oN Obj.portDataRole → portSt s = 3 ∨ s.varN .ccTerm = 3 → a = .reject → Completes
        (.drSwapPreference a) s fun t =>
      t.var .drT = 0 ∧
      t.pdTx = s.pdTx ++ [PdMsg.drSwap] ∧
      t.o Obj.portDataRole = s.o Obj.portDataRole ∧
      t.offers = s.offers ∧
      RegsWithin [] [] [.drT, .ownPref] s t) ∧
    (∀ (a : SwapAnswer), s.dueT .drT = true → portAttached s = true → pdContract s = true → pdMode s = true → s.oN Obj.portDrPref +
        1 ≤ 2 → s.oN Obj.portDrPref + 1 ≠ s.oN Obj.portDataRole → portSt s = 3 ∨ s.varN .ccTerm = 3 → a = .accept → 1 ≤ s.oN
        Obj.portDataRole ∧ s.oN Obj.portDataRole ≤ 2 → Completes (.drSwapPreference a) s fun t =>
      t.var .drT = 0 ∧
      t.pdTx = s.pdTx ++ [PdMsg.drSwap] ∧
      t.oN Obj.portDataRole = s.oN Obj.portDrPref + 1 ∧
      76 ∈ t.posts ∧ (⟨0x0A09, u8 1 ++ u8 (t.o Obj.portDataRole) ++ u8 0, false⟩ : Offer) ∈ t.offers ∧
      (s.oN Obj.portDrPref = 1 → t.bit Obj.portFlags 4 = false) ∧
      RegsWithin [Obj.portDataRole, Obj.portFlags] [] [.drT, .ownPref] s t) ∧
    (∀ (a : SwapAnswer), s.dueT .drT = true → portAttached s = true → pdContract s = true → pdMode s = true → s.oN Obj.portDrPref +
        1 ≤ 2 → s.oN Obj.portDrPref + 1 ≠ s.oN Obj.portDataRole → portSt s = 2 → s.varN .ccTerm ≠ 3 → Completes (.drSwapPreference
        a) s fun t =>
      t.pdTx = s.pdTx ∧
      t.varN .ownReq = 2 ∧ t.varN .ownHow = 1 ∧ t.varB .ownPref = true ∧
      Within [] [.drT, .ownReq, .ownHow, .ownPref] s t) ∧
    (∀ (a : SwapAnswer), s.dueT .drT = true → portAttached s = true → pdContract s = true → pdMode s = true → 2 < s.oN
        Obj.portDrPref + 1 ∨ s.oN Obj.portDrPref + 1 = s.oN Obj.portDataRole → Completes (.drSwapPreference a) s fun t =>
      t.var .drT = 0 ∧
      Within [] [.drT] s t) ∧
    (∀ (a : SwapAnswer), s.varN .ownReq = 2 → (s.varN .ownHow = 2 ∧ s.dueT .resendT = true ∧ (portSt s = 3 ∨ s.varN .ccTerm = 3)) ∨
        (s.varN .ownHow = 1 ∧ (portSt s = 3 ∨ s.varN .ccTerm = 3)) → portAttached s = true → pdMode s = true → s.oN Obj.portDataRole
        = 1 → a = .accept → Completes (.withdrawnResend a) s fun t =>
      t.var .ownReq = 0 ∧ t.var .resendT = 0 ∧
      t.o Obj.portDataRole = 2 ∧
      t.bit Obj.portFlags 4 = false ∧
      t.pdTx = s.pdTx ++ [PdMsg.drSwap] ∧
      76 ∈ t.posts ∧ (⟨0x0A09, u8 1 ++ u8 2 ++ u8 0, false⟩ : Offer) ∈ t.offers ∧
      RegsWithin [Obj.portDataRole, Obj.portFlags] [] [.ownReq, .ownHow, .resendT] s t) ∧
    (∀ (a : SwapAnswer), s.varN .ownReq = 1 → (s.varN .ownHow = 2 ∧ s.dueT .resendT = true ∧ (portSt s = 3 ∨ s.varN .ccTerm = 3)) ∨
        (s.varN .ownHow = 1 ∧ (portSt s = 3 ∨ s.varN .ccTerm = 3)) → prAllowed s = true → s.oN Obj.portPowerRole = 1 → a = .accept →
        Completes (.withdrawnResend a) s fun t =>
      t.var .ownReq = 0 ∧ t.var .resendT = 0 ∧
      portSt t = 3 ∧ t.oN Obj.portPowerRole = 2 ∧
      t.oN Obj.portContract = 0 ∧
      t.pdTx = s.pdTx ++ [PdMsg.prSwap] ∧
      76 ∈ t.posts ∧ (⟨0x0A09, u8 0 ++ u8 2 ++ u8 0, false⟩ : Offer) ∈ t.offers ∧
      RegsWithin [Obj.portFlags, Obj.portState, Obj.portPowerRole, Obj.portContract, Obj.portVContract, Obj.portIContract] []
        [.ownReq, .ownHow, .resendT, .transT, .reqV, .reqI, .attAt] s t) ∧
    (∀ (a : SwapAnswer), s.varB .ownReq = true → s.varN .ownHow = 2 → s.dueT .resendT = true → (s.varN .ownReq = 1 ∧ prAllowed s =
        false) ∨ portAttached s = false ∨ pdMode s = false → Completes (.withdrawnResend a) s fun t =>
      t.var .ownReq = 0 ∧ t.var .ownHow = 0 ∧ t.var .resendT = 0 ∧
      t.pdTx = s.pdTx ∧
      Within [] [.ownReq, .ownHow, .resendT] s t) ∧
    (∀ (a : SwapAnswer), s.varB .ownReq = false ∨ (s.varN .ownHow ≠ 2 ∧ s.varN .ownHow ≠ 1) ∨ (s.varN .ownHow = 2 ∧ s.dueT .resendT
        = false) ∨ (s.varN .ownHow = 1 ∧ portSt s ≠ 3 ∧ s.varN .ccTerm ≠ 3) → Completes (.withdrawnResend a) s fun t =>
      t = s) ∧
    (answersVdm s = true → Completes (.discoverIdentity) s fun t =>
      t.pdTx = s.pdTx ++ [PdMsg.ack [2 ^ 26 + 3 * 2 ^ 21 + 0x59A5, 0, (if s.oN Obj.idPart = 2 then 0x4824 else 0x4832) * 2 ^ 16 +
        s.oN Obj.idDieRev]] ∧
      t = { withdrawOwn true s with pdTx := t.pdTx }) ∧
    (answersVdm s = true → Completes (.discoverSvids) s fun t =>
      t.pdTx = s.pdTx ++ [PdMsg.ack [0x59A5 * 2 ^ 16]] ∧
      t = { withdrawOwn true s with pdTx := t.pdTx }) ∧
    (∀ (svid : Nat), answersVdm s = true → Completes (.discoverModes svid) s fun t =>
      t.pdTx = s.pdTx ++ [if svid = 0x59A5 then PdMsg.ack [0x01 + 0x01 * 2 ^ 8 + 2 ^ 16] else PdMsg.nak] ∧
      t = { withdrawOwn true s with pdTx := t.pdTx }) ∧
    (∀ (svid pos : Nat), answersVdm s = true → svid = 0x59A5 → pos = 1 → pdContract s = true → s.oB Obj.portBenchEn = true → s.bit
        Obj.portFlags 4 = false → Completes (.enterMode svid pos) s fun t =>
      t.bit Obj.portFlags 4 = true ∧
      t.varN .benchAt = s.now ∧
      t.o Obj.portBenchEntries = (s.bump Obj.portBenchEntries).o Obj.portBenchEntries ∧
      t.pdTx = s.pdTx ++ [PdMsg.ack []] ∧
      t.posts = s.posts ++ [77] ∧
      t.arrived = s.arrived ++
        [⟨187, 0, u8 (s.o Obj.portDataRole) ++ u16 (s.o Obj.portVContract) ++ u8 (s.o Obj.portOrient), false⟩] ∧
      RegsWithin [Obj.portFlags, Obj.portBenchEntries] [] [.benchAt, .ownReq, .ownHow, .ownPref, .resendT] s t) ∧
    (∀ (svid pos : Nat), answersVdm s = true → svid = 0x59A5 → pos = 1 → pdContract s = true → s.oB Obj.portBenchEn = true → s.bit
        Obj.portFlags 4 = true → Completes (.enterMode svid pos) s fun t =>
      t.pdTx = s.pdTx ++ [PdMsg.ack []] ∧
      t.posts = s.posts ++ [77] ∧
      t.arrived = s.arrived ++
        [⟨187, 0, u8 (s.o Obj.portDataRole) ++ u16 (s.o Obj.portVContract) ++ u8 (s.o Obj.portOrient), false⟩] ∧
      RegsWithin [] [] [.ownReq, .ownHow, .ownPref, .resendT] s t) ∧
    (∀ (svid pos : Nat), answersVdm s = true → svid ≠ 0x59A5 ∨ pos ≠ 1 ∨ pdContract s = false ∨ s.oB Obj.portBenchEn = false →
        Completes (.enterMode svid pos) s fun t =>
      t.pdTx = s.pdTx ++ [PdMsg.nak] ∧
      t = { withdrawOwn true s with pdTx := t.pdTx }) ∧
    (∀ (svid pos : Nat), answersVdm s = true → svid = 0x59A5 → pos = 1 → s.bit Obj.portFlags 4 = true → Completes (.exitMode svid
        pos) s fun t =>
      t.bit Obj.portFlags 4 = false ∧
      t.ports[4] = PortState.idle ∧
      t.pdTx = s.pdTx ++ [PdMsg.ack []] ∧
      t.posts = s.posts ++ [77] ∧
      (⟨0x0A07, u8 0 ++ u32 (s.now - s.varN .benchAt : Nat), false⟩ : Offer) ∈ t.offers ∧
      RegsWithin [Obj.portFlags] [] [.ownReq, .ownHow, .ownPref, .resendT] s t) ∧
    (∀ (svid pos : Nat), answersVdm s = true → svid = 0x59A5 → pos = 1 → s.bit Obj.portFlags 4 = false → Completes (.exitMode svid
        pos) s fun t =>
      t = { withdrawOwn true s with pdTx := t.pdTx } ∧
      t.pdTx = s.pdTx ++ [PdMsg.ack []]) ∧
    (∀ (svid pos : Nat), answersVdm s = true → svid ≠ 0x59A5 ∨ pos ≠ 1 → Completes (.exitMode svid pos) s fun t =>
      t = { withdrawOwn true s with pdTx := t.pdTx } ∧
      t.pdTx = s.pdTx ++ [PdMsg.nak])

/-- Loop-backs, test frames and boundary scan (R575 to R586). What an iteration, an end or an abort has brought about is shown by
the loop-backs' work at the next tick (lbRunTick; R575, R576). Says that these complete: lbIteration, lbRunEnd, lbAbort,
harnessReflection, extestLoad. -/
def Obligations.LoopbackEvents : Prop :=
  ∀ s : State,
    (∀ (reads : List Int) (x : Nat), s.oN Obj.testActive = x → x = 8 ∨ x = 0x0C ∨ x = 0x10 ∨ x = 0x11 ∨ x = 0x18 → lbDrives s x =
        true → lbAbortWhy s x = none → s.varN .lbFrom + lbFrames s x ≤ s.now → Completes (.lbIteration reads) s fun t =>
      t.varN .lbRes = (if (lbJudge s x reads).1 then 1 else 2) ∧
      t.var .lbVal = (lbJudge s x reads).2 ∧
      (s.varB .lbWhy = false → (lbRunTick t).o (Obj.lbDone x) = s.o (Obj.lbDone x) + 1) ∧
      (s.varB .lbWhy = false → (lbRunTick t).o (Obj.lbErrors x) = s.o (Obj.lbErrors x) + (if (lbJudge s x reads).1 then 0 else 1)) ∧
      (s.varB .lbWhy = false → (lbRunTick t).o (Obj.lbValue x) = (lbJudge s x reads).2) ∧
      Within [] [.lbRes, .lbVal] s t) ∧
    (∀ (reads : List Int) (x : Nat), s.oN Obj.testActive = x → x = 1 ∨ x = 2 → lbDrives s x = true → lbAbortWhy s x = none → s.varN
        .lbFrom ≤ s.now → Completes (.lbIteration reads) s fun t =>
      t.varN .lbRes = (if (lbJudge s x reads).1 then 1 else 2) ∧
      t.var .lbVal = (lbJudge s x reads).2 ∧
      (s.varB .lbWhy = false → (lbRunTick t).o (Obj.lbDone x) = s.o (Obj.lbDone x) + 1) ∧
      (s.varB .lbWhy = false → (lbRunTick t).o (Obj.lbErrors x) = s.o (Obj.lbErrors x) + (if (lbJudge s x reads).1 then 0 else 1)) ∧
      (s.varB .lbWhy = false → (lbRunTick t).o (Obj.lbValue x) = (lbJudge s x reads).2) ∧
      t.o (Obj.canTx (x - 1)) = (if s.oN (Obj.lbDepth x) = 0 then s.o (Obj.canTx (x - 1)) else (s.bump (Obj.canTx (x - 1))).o
        (Obj.canTx (x - 1))) ∧
      t.o (Obj.canIgnored (x - 1)) = (if s.oN (Obj.lbDepth x) = 1 ∧ (lbJudge s x reads).1 then (s.bump (Obj.canIgnored (x - 1))).o
        (Obj.canIgnored (x - 1)) else s.o (Obj.canIgnored (x - 1))) ∧
      Within [Obj.canTx (x - 1), Obj.canIgnored (x - 1)] [.lbRes, .lbVal] s t) ∧
    (∀ (reads : List Int), s.oN Obj.testActive = 0x19 → lbDrives s 0x19 = true → lbAbortWhy s 0x19 = none → s.varN .lbFrom ≤ s.now →
        Completes (.lbIteration reads) s fun t =>
      t.varN .lbRes = (if (lbJudge s 0x19 reads).1 then 1 else 2) ∧
      (reads.getD 0 0 = 0 → t.var .lbVal = reads.getD 3 0) ∧
      (s.varB .lbWhy = false → (lbRunTick t).o (Obj.lbDone 0x19) = s.o (Obj.lbDone 0x19) + 1) ∧
      (s.varB .lbWhy = false → (lbRunTick t).o (Obj.lbErrors 0x19) = s.o (Obj.lbErrors 0x19) + (if (lbJudge s 0x19 reads).1 then 0
        else 1)) ∧
      (reads.getD 0 0 = 0 → s.varB .lbWhy = false → (lbRunTick t).o (Obj.lbValue 0x19) = reads.getD 3 0) ∧
      Within [Obj.yardGlitches] [.lbRes, .lbVal, .glitchRound, .limitStamp] s t) ∧
    (∀ (x : Nat), s.oN Obj.testActive = x → loopbacks.contains x = true → s.o (Obj.lbCount x) ≤ s.o (Obj.lbDone x) → lbAbortWhy s x
        = none → s.varB .lbRes = false → s.varB .lbWhy = false → Completes (.lbRunEnd) s fun t =>
      t.varB .lbEnd = true ∧
      (lbRunTick t).o (Obj.lbState x) = (if s.o (Obj.lbErrors x) ≠ 0 then 3 else 2) ∧
      (lbRunTick t).o Obj.testActive = 0xFF ∧
      (lbRunTick t).o Obj.testRuns = (s.bump Obj.testRuns).o Obj.testRuns ∧
      (lbRunTick t).posts = s.posts ++ [if s.o (Obj.lbErrors x) ≠ 0 then 125 else 124] ∧
      (lbRunTick t).offers = s.offers ++
        [⟨0x1100, u8 x ++ u8 (s.o (Obj.lbDepth x)) ++ u8 (s.o (Obj.lbSel x)) ++ u8 (State.ofBool (decide (s.o (Obj.lbErrors x) ≠ 0))) ++ u32 (s.o (Obj.lbErrors x)), false⟩] ∧
      Within [] [.lbEnd] s t ∧
      Within [Obj.lbState x, Obj.testActive, Obj.testRuns] [.lbStop, .lbRes, .lbEnd, .lbWhy] s (lbRunTick t)) ∧
    (∀ (x why : Nat), s.oN Obj.testActive = x → loopbacks.contains x = true → lbAbortWhy s x = some why → Completes (.lbAbort) s fun
        t =>
      t.varN .lbWhy = why + 1 ∧
      (lbRunTick t).o (Obj.lbState x) = 4 ∧
      (lbRunTick t).o Obj.testActive = 0xFF ∧
      (lbRunTick t).var .lbStop x = 0 ∧
      (lbRunTick t).posts = s.posts ++ [126] ∧
      (lbRunTick t).offers = s.offers ++ [⟨0x1102, u8 x ++ u8 (s.o (Obj.lbDepth x)) ++ u8 why ++ u32 (s.o (Obj.lbDone x)), false⟩] ∧
      Within [] [.lbWhy] s t ∧
      Within [Obj.lbState x, Obj.testActive] [.lbStop, .lbRes, .lbEnd, .lbWhy] s (lbRunTick t)) ∧
    (s.oN Obj.testActive = 0xFF → Completes (.lbAbort) s fun t =>
      t = s) ∧
    (∀ (frame : List Byte), s.mgtOn = true → role s = Role.out → frame.head? = some 0xE1 → Completes (.harnessReflection frame) s
        fun t =>
      t = { s with reflect := (s.reflect.filter fun e => decide (s.now < e.1 ∧ e.1 ≠ s.now + 3)) ++ [(s.now + 3, frame)] }) ∧
    (∀ (frame : List Byte), s.mgtOn = false ∨ role s ≠ Role.out ∨ frame.head? ≠ some 0xE1 → Completes (.harnessReflection frame) s
        fun t =>
      t = s) ∧
    (∀ (on : Bool), s.mgtOn = true → s.varB .extest ≠ on → Completes (.extestLoad on) s fun t =>
      t.varB .extest = on ∧
      t.oB Obj.testBscan = (on && s.oB Obj.testBscanEn) ∧
      t.posts = s.posts ++ [127] ∧
      t.offers = s.offers ++ [⟨0x1101, u8 (t.o Obj.testBscan) ++ u8 (s.o Obj.sysMode), false⟩] ∧
      Within [Obj.testBscan] [.extest] s t) ∧
    (∀ (on : Bool), s.mgtOn = false ∨ s.varB .extest = on → Completes (.extestLoad on) s fun t =>
      t = s)

/-- The events of the security engine (R493 to R512). Says that these complete: identityProgram, publicKeyReady, slotUnwrap,
presenceWindowExpiry, claimComplete, snapReady. -/
def Obligations.SecurityEvents : Prop :=
  ∀ s : State,
    (∀ (bad trng : Nat), s.oN Obj.keyIdState = 1 → otpConditions s = true → s.varB .otpBusy = false → s.oN Obj.frameNumber % 1000 =
        0 → s.varB .idDraw = true → bad % 16 = 0 → Completes (.identityProgram bad trng) s fun t =>
      t.o Obj.keyIdState = 2 ∧
      92 ∈ t.posts ∧
      t.var .idDraw = 0 ∧
      (∀ i < 4, otpWordAt t (38 + i) = otpWordAt s (38 + i) ||| (s.varN .idDraw / 2 ^ (64 * i) % 2 ^ 64)) ∧
      t.offers = s.offers ++ [⟨0x0E00, u8 0 ++ fingerprint (publicKey (s.varN .idDraw)), false⟩] ∧
      t.jobs.length = s.jobs.length + 1 ∧
      RegsWithin [Obj.keyIdState, Obj.otpMarginal, Obj.otpRevoked, Obj.otpDefaults] [Obj.jobState, Obj.jobWaiting, Obj.jobStepsDone,
        Obj.jobStepsTotal, Obj.jobStarted] [.idDraw, .jobLast, .jobDone] s t) ∧
    (∀ (bad trng : Nat), s.oN Obj.keyIdState = 1 → otpConditions s = true → s.varB .otpBusy = false → s.oN Obj.frameNumber % 1000 =
        0 → s.varB .idDraw = true → bad % 16 ≠ 0 → bad / 16 % 16 = 0 → Completes (.identityProgram bad trng) s fun t =>
      t.o Obj.keyIdState = 2 ∧
      92 ∈ t.posts ∧
      copyMarked t 38 = true ∧
      (∀ i < 4, otpWordAt t (42 + i) = otpWordAt s (42 + i) ||| (s.varN .idDraw / 2 ^ (64 * i) % 2 ^ 64)) ∧
      RegsWithin [Obj.keyIdState, Obj.otpMarginal, Obj.otpRevoked, Obj.otpDefaults] [Obj.jobState, Obj.jobWaiting, Obj.jobStepsDone,
        Obj.jobStepsTotal, Obj.jobStarted] [.idDraw, .jobLast, .jobDone] s t) ∧
    (∀ (bad trng : Nat), s.oN Obj.keyIdState = 1 → otpConditions s = true → s.varB .otpBusy = false → s.oN Obj.frameNumber % 1000 =
        0 → s.varB .idDraw = true → bad % 16 ≠ 0 → bad / 16 % 16 ≠ 0 → Completes (.identityProgram bad trng) s fun t =>
      t.o Obj.keyIdState = 3 ∧
      copyMarked t 38 = true ∧ copyMarked t 42 = true ∧
      t.var .idDraw = 0 ∧
      t.arrived.getLast? = some ⟨231, 0, u8 2 ++ fingerprint (publicKey (s.varN .idDraw)), false⟩ ∧
      t.arrived.take s.arrived.length = s.arrived ∧
      t.arrived.length = s.arrived.length + ((List.range 8).filter fun i => bad.testBit i).length + 1 ∧
      RegsWithin [Obj.keyIdState, Obj.otpMarginal, Obj.otpRevoked, Obj.otpDefaults] [] [.idDraw] s t) ∧
    (∀ (bad trng : Nat), s.oN Obj.keyIdState ≠ 1 ∨ otpConditions s = false ∨ s.varB .otpBusy = true ∨ s.oN Obj.frameNumber % 1000 ≠
        0 → Completes (.identityProgram bad trng) s fun t =>
      t = s) ∧
    (s.var .jobDone JobFor.publicKey.slot = 1 → Completes (.publicKeyReady) s fun t =>
      t.pubKey = publicKey (identityScalar s) ∧
      t.var .jobDone JobFor.publicKey.slot = 0 ∧
      t.bit Obj.keyStatus 2 = !copyMarked s 38 ∧
      t.bit Obj.keyStatus 3 = copyMarked s 38 ∧
      t.posts = s.posts ++ [114] ∧
      RegsWithin [Obj.keyStatus] [] [.jobDone] s t) ∧
    (s.varB .unwrapTodo = true → s.mode ≠ .boot → s.mgtOn = true → Completes (.slotUnwrap) s fun t =>
      t.var .unwrapTodo = 0 ∧
      t.bit Obj.keyStatus 0 = true ∧
      t.mram = s.mram ∧ t.otp = s.otp ∧
      RegsWithin [Obj.keyStatus, Obj.keyOwned, Obj.nvmCorrected, Obj.nvmUncorr, Obj.nvmLastBad, Obj.ledgerStatus] [Obj.keyState,
        Obj.keyHwm, Obj.keyLast, Obj.keyEnrolled] [.unwrapTodo, .ledLost] s t) ∧
    (s.dueTR .ppT = true → Completes (.presenceWindowExpiry) s fun t =>
      windowOpen t = false ∧
      t.o Obj.keyPpLeft = 0 ∧
      t.o Obj.keyPresence = (if s.bit Obj.portFlags 4 then 2 else 0) ∧
      Within [Obj.keyPresence, Obj.keyPpLeft] [.ppT] s t) ∧
    (∀ (q : Req), (portOf s (s.varN .claimPort - 1)).txn = some q → s.varB .claimPort = true → s.varN .claimStage = 2 → commitRuns s
        = false → (claimLines q).all (fun l => (bufFind s l).isNone) = true → q.port = s.varN .claimPort - 1 → s.varN .claimPort ≤ 5
        → bodyTarget q < 4 → (q.port = 4 → s.bit Obj.portFlags 4 = true) → Completes (.claimComplete) s fun t =>
      t.o (Obj.keyState (bodyTarget q)) = 1 ∧
      t.o (Obj.keyLast (bodyTarget q)) = 0 ∧ t.o (Obj.keyHwm (bodyTarget q)) = 0 ∧
      t.var .claimPort = 0 ∧ t.var .claimStage = 0 ∧
      t.posts = s.posts ++ [113] ∧
      (portOf t q.port).txn = none ∧
      (portOf t q.port).resp.map (fun r => r.status) = some 0 ∧
      (bodyTarget q = 0 → t.oB Obj.keyOwned = true) ∧
      (bodyOp q ≤ 2 → windowOpen t = false) ∧
      RegsWithin [Obj.keyOwned, Obj.keyState (bodyTarget q), Obj.keyLast (bodyTarget q), Obj.keyHwm (bodyTarget q), Obj.keyEnrolled
        (bodyTarget q)] [Obj.canTx] [.ppT, .claimPort, .claimStage] s t) ∧
    (s.varB .claimPort = false ∨ s.varN .claimStage ≠ 2 ∨ commitRuns s = true → Completes (.claimComplete) s fun t =>
      t = s) ∧
    (s.oN Obj.keySnapState = 2 → s.var .jobDone JobFor.snapSign.slot = 1 → Completes (.snapReady) s fun t =>
      t.o Obj.keySnapState = 3 ∧
      t.snapSig = (signWith (identityScalar s) s.snapData s).1 ∧
      t.snapData = s.snapData ∧
      t.posts = s.posts ++ [118] ∧
      t.var .jobDone JobFor.snapSign.slot = 0 ∧
      RegsWithin [Obj.keySnapState] [] [.jobDone] s t) ∧
    (s.oN Obj.keySnapState = 2 → s.var .jobDone JobFor.snapSign.slot = 2 → Completes (.snapReady) s fun t =>
      t.o Obj.keySnapState = 4 ∧
      t.var .jobDone JobFor.snapSign.slot = 0 ∧
      t.offers = s.offers ++ [⟨0x0E08, u8 1 ++ leBytes 4 (s.oN Obj.keySnapNonce), false⟩] ∧
      Within [Obj.keySnapState] [.jobDone] s t)

/-- The end of a validation (R517) and the activation (R514, R518, R519). When an activation acts, and that its conditions are
checked again as it acts, are the model's choice (log entry 76). Says that these complete: imgValidationDone, activation. -/
def Obligations.ImageEvents : Prop :=
  ∀ s : State,
    (s.varN .imgVerdict = 3 → Completes (.imgValidationDone) s fun t =>
      t.var .imgVerdict = 0 ∧
      t.o Obj.imgResult = 2 ∧
      t.o Obj.imgResultEntry = ((s.varN .imgVerdict 0 1 : Nat) : Int) ∧
      t.posts = s.posts ++ [115] ∧
      t.mram = s.mram ∧
      RegsWithin [Obj.imgResult, Obj.imgResultEntry, Obj.imgStageBank, Obj.imgState, Obj.imgStageDigest, Obj.nvmBufLines,
        Obj.nvmState, Obj.nvmCorrected, Obj.nvmUncorr, Obj.nvmLastBad, Obj.ledgerStatus] [] [.imgVerdict, .commitReq,
        .commitReqRound, .ledLost] s t) ∧
    (s.varB .imgVerdict = true → s.varN .imgVerdict ≠ 3 → Completes (.imgValidationDone) s fun t =>
      t.o Obj.imgResult = ((s.varN .imgVerdict - 1 : Nat) : Int) ∧
      t.arrived.take (s.arrived.length + 1) = s.arrived ++
        [⟨235, 0, validationData (s.varN .imgVerdict - 1) (s.varN .imgVerdict 0 1) (stageBank s) s, false⟩] ∧
      t.mram = s.mram ∧
      (s.oN Obj.imgState ≠ 2 → t.buf = s.buf ∧ t.o Obj.imgState = s.o Obj.imgState) ∧
      (s.oN Obj.imgState = 2 → t.oN Obj.imgState = 1) ∧
      RegsWithin [Obj.imgResult, Obj.imgResultEntry, Obj.imgStageBank, Obj.imgState, Obj.imgStageDigest, Obj.nvmBufLines,
        Obj.nvmState, Obj.nvmCorrected, Obj.nvmUncorr, Obj.nvmLastBad, Obj.ledgerStatus] [] [.imgVerdict, .commitReq,
        .commitReqRound, .ledLost] s t) ∧
    (s.varB .imgVerdict = false → Completes (.imgValidationDone) s fun t =>
      t = s) ∧
    (activationDue s = false → Completes (.activation) s fun t =>
      t = s) ∧
    (activationDue s = true → activationOk s (s.oN Obj.imgPending) = false → Completes (.activation) s fun t =>
      t.o Obj.imgPending = 0xFE ∧
      t.offers = s.offers ++ [⟨0x0E05, validationData 0x07 0 (stageBank s) (s.setO Obj.imgPending 0xFE), false⟩] ∧
      t.mram = s.mram ∧ t.otp = s.otp ∧ t.pins = s.pins ∧
      RegsWithin [Obj.imgPending, Obj.nvmCorrected, Obj.nvmUncorr, Obj.nvmLastBad, Obj.ledgerStatus] [] [.ledLost] s t) ∧
    (activationDue s = true → activationOk s (s.oN Obj.imgPending) = true → Completes (.activation) s fun t =>
      t.varN .activeBank = stageBank s + 1 ∧
      t.posts.getLast? = some 116 ∧
      t.varB .commitReq = true ∧
      t.journal = [] ∧
      t.deferred.any (fun d => decide (d.point = .nextActivation)) = false ∧
      t.mram = s.mram ∧ t.otp = s.otp ∧ t.pins = s.pins)

/-- The tick and the round boundary (R12, R39, R50, R610). With MGT unpowered there are no frames. FRAME_TICK takes the events of
the frame that ends into the intake (R39), has the marshal take in what stood there (R244), senses the interrupt lines of that frame
(R482), drives the lines posted in it (R610), takes the mode transition (R24) and applies the deferred writes (R12). What happens
where frame.number wraps (log entry 91), and that isolated samples read zero (log entry 97), are the model's choice. Says that these
complete: frameTick, roundBoundary. -/
def Obligations.FrameEvents : Prop :=
  ∀ s : State,
    (∀ (samples : List Sample), s.mgtOn = true → s.varB .restartFrame = false → Completes (.frameTick samples) s fun t =>
      t.now = s.now + 1 ∧
      t.o Obj.frameNumber = (((s.oN Obj.frameNumber + 1) % 2 ^ 32 : Nat) : Int) ∧
      t.var .roundDone = 0 ∧
      t.nowRound = (if (s.oN Obj.frameNumber + 1) % 2 ^ 32 % 1000 = 0 then s.nowRound + 1 else s.nowRound) ∧
      t.pins = (isolateMain (takeSamples samples s)).pins ∧
      t.mram = s.mram ∧ t.otp = s.otp) ∧
    (∀ (samples : List Sample), s.mgtOn = true → s.mode ≠ .boot → Completes (.frameTick samples) s fun t =>
      (t.mode ≠ .boot → ∀ i ∈ s.posts, t.lines.contains i = true) ∧
      (t.mode ≠ .boot → ∀ e ∈ s.arrived, t.intake.contains e = true) ∧
      (t.mode ≠ .boot → ∀ i < 128, i ≠ 29 → i ≠ 65 → t.varB .irqPrev i = s.lines.contains i)) ∧
    (∀ (samples : List Sample), s.mgtOn = true → s.mode ≠ .boot → ((List.range 5).all fun p => (portOf s p).txn.isNone) = true →
        Completes (.frameTick samples) s fun t =>
      (t.mode ≠ .boot → (s.intake.length : Int) ≤ t.o Obj.marshalIntakeMax) ∧
      (t.mode ≠ .boot → ∀ i < 128, i ≠ 29 → i ≠ 65 → irqCfg s i % 4 = 0 → s.lines.contains i = true → s.varB .irqPrev i = false →
        t.varB .irqPend i = true ∨ t.varB .irqClaimed i = true)) ∧
    (∀ (samples : List Sample) (d : Deferred) (r : Row), s.mgtOn = true → s.mode ≠ .boot → s.deferred = [d] → d.point = .nextFrame →
        objRow s (keyIndex d.key) (keySub d.key) = some r → r.apply = .nextFrame → ((List.range 5).all fun p => (portOf s
        p).txn.isNone) = true → Completes (.frameTick samples) s fun t =>
      (t.mode ≠ .boot → t.o d.key = d.val) ∧
      (t.mode ≠ .boot → t.deferred.any (fun e => decide (e.point = .nextFrame)) = false)) ∧
    (∀ (samples : List Sample), s.mgtOn = true → s.mode = .run → s.varB .modeReq Mode.safe.code = true → teamed s = false → s.varB
        .yieldOn = false → Completes (.frameTick samples) s fun t =>
      t.mode = .safe ∧
      t.varB .moved = true) ∧
    (∀ (samples : List Sample), s.mgtOn = true → s.varB .restartFrame = true → Completes (.frameTick samples) s fun t =>
      t.now = s.now + 1 ∧
      t.o Obj.frameNumber = 0 ∧
      t.o Obj.frameRound = 0 ∧
      t.varB .restartFrame = false ∧
      t.pins = (isolateMain (takeSamples samples s)).pins) ∧
    (∀ (samples : List Sample), s.mgtOn = false → Completes (.frameTick samples) s fun t =>
      t = s) ∧
    (s.mgtOn = true → s.mode ≠ .boot → s.oN Obj.frameNumber % 1000 = 0 → s.varB .roundDone = false → Completes (.roundBoundary) s
        fun t =>
      t.varB .roundDone = true ∧
      t.now = s.now ∧ t.o Obj.frameNumber = s.o Obj.frameNumber ∧
      (∀ p < 5, t.var .failCnt p = 0 ∧ t.var .failCause p = 0) ∧
      t.var .failSeen = 0 ∧
      t.mram = s.mram ∧ t.otp = s.otp ∧ t.pins = s.pins) ∧
    (s.mgtOn = false ∨ s.mode = .boot ∨ s.oN Obj.frameNumber % 1000 ≠ 0 ∨ s.varB .roundDone = true → Completes (.roundBoundary) s
        fun t =>
      t = s)

/-- BOOT from MGT power-on reset and its end (R25, R27, R32, R33, R611). BENCH with VBUS beside the pack (log entry 102), the causes
that no table names (log entry 17), the supply thresholds (log entry 19) and the persisted counters' way back (log entry 115) are
the model's choice. Says that these complete: mgtPowerOnReset, bootComplete, mainSupplyLoss, mainValid. -/
def Obligations.BootEvents : Prop :=
  ∀ s : State,
    (∀ (b : BootIn), s.mgtOn = false ∨ s.varB .porCount = false → 3720 < b.vpp → s.varB .shelfLatch = false ∨ s.varB .wakeWhy = true
        → Completes (.mgtPowerOnReset b) s fun t =>
      t.mode = .boot ∧
      t.mgtOn = true ∧
      t.mainOn = false ∧
      t.varB .porCount = true ∧
      t.o Obj.sysLastCause = (if s.varB .shelfLatch then 1 else if s.varB .bkpMode && s.varB .bkpValid && decide (s.varN .bkpMode =
        2) then 2 else 0) ∧
      t.o Obj.sysPowerCycles = min 0xFFFFFF ((countersBack s.saved State.reset).o Obj.sysPowerCycles + 1) ∧
      t.varB .shelfLatch = false ∧
      t.pin .packP = b.packP ∧ t.pin .vpp = b.vpp ∧
      t.otp = s.otp ∧ t.mram = s.mram ∧
      (∀ p : Fin 5, t.ports[p] = PortState.idle) ∧
      t.deferred = []) ∧
    (∀ (b : BootIn), (s.mgtOn = true ∧ s.varB .porCount = true) ∨ b.vpp ≤ 3720 ∨ (s.varB .shelfLatch = true ∧ s.varB .wakeWhy =
        false) → Completes (.mgtPowerOnReset b) s fun t =>
      t = s) ∧
    (s.mgtOn = true → s.mode = .boot → s.varB .porCount = true → s.varN .terrierRec = 1 → recordWaits s 0x0D40 = false → Completes
        (.bootComplete) s fun t =>
      t = terrierReport s) ∧
    (s.mgtOn = true → s.mode = .boot → s.varB .porCount = true → s.varN .terrierRec = 1 ∧ recordWaits s 0x0D40 = true ∨ s.varN
        .terrierRec ≠ 1 ∧ bootRecordsWait s = true → Completes (.bootComplete) s fun t =>
      t = s) ∧
    (s.mgtOn = true → s.mode = .boot → s.varB .porCount = true → s.varN .terrierRec ≠ 1 → bootRecordsWait s = false → externalValid
        s = false → srcValid s 3 = false ∨ s.varB .bootHoldSafe = false → Completes (.bootComplete) s fun t =>
      t.varB .bootWait = true ∧
      t.mode = .boot ∧
      Within [] [.bootWait] s t) ∧
    (s.mgtOn = true → s.mode = .boot → s.varB .porCount = true → s.varN .terrierRec ≠ 1 → bootRecordsWait s = false → s.varB
        .bootHoldSafe = false → vinValid s = true → Completes (.bootComplete) s fun t =>
      bootChose t .setup = true ∧
      t.mode = .boot ∧
      (.setup, some 5) ∈ moves t ∧
      (enterMode .setup 5 false (bootEnd .setup t)).mode = .setup ∧
      (enterMode .setup 5 false (bootEnd .setup t)).o Obj.sysLastCause = 5 ∧
      (enterMode .setup 5 false (bootEnd .setup t)).mainOn = decide (6900 ≤ s.pin .vinMain) ∧
      (enterMode .setup 5 false (bootEnd .setup t)).bit Obj.sysBootStatus 5 = decide (6900 ≤ s.pin .vinMain) ∧
      (enterMode .setup 5 false (bootEnd .setup t)).varB .restartFrame = true ∧
      (enterMode .setup 5 false (bootEnd .setup t)).varB .autorunTodo = s.oB Obj.sysAutorun ∧
      (enterMode .setup 5 false (bootEnd .setup t)).varN .bkpMode = 4 ∧
      Within [] [.bootGoto] s t) ∧
    (s.mgtOn = true → s.mode = .boot → s.varB .porCount = true → s.varN .terrierRec ≠ 1 → bootRecordsWait s = false → s.varB
        .bootHoldSafe = false → vinValid s = false → vbusValid s = true → Completes (.bootComplete) s fun t =>
      bootChose t .bench = true ∧
      t.mode = .boot ∧
      (.bench, some 0x0B) ∈ moves t ∧
      (enterMode .bench 0x0B false (bootEnd .bench t)).mode = .bench ∧
      (enterMode .bench 0x0B false (bootEnd .bench t)).o Obj.sysLastCause = 0x0B ∧
      (enterMode .bench 0x0B false (bootEnd .bench t)).varB .restartFrame = true ∧
      Within [] [.bootGoto] s t) ∧
    (s.mgtOn = true → s.mode = .boot → s.varB .porCount = true → s.varN .terrierRec ≠ 1 → bootRecordsWait s = false → s.varB
        .bootHoldSafe = true → externalValid s = true ∨ srcValid s 3 = true → Completes (.bootComplete) s fun t =>
      bootChose t .safe = true ∧
      t.mode = .boot ∧
      (.safe, some 8) ∈ moves t ∧
      (enterMode .safe 8 false (bootEnd .safe t)).mode = .safe ∧
      (enterMode .safe 8 false (bootEnd .safe t)).mainOn = (vinValid s && decide (6900 ≤ s.pin .vinMain)) ∧
      Within [] [.bootGoto] s t) ∧
    (∀ (v : Nat), s.mgtOn = true → s.mainOn = true → v < 6600 → s.mode ≠ .holdup → canYield s = false → Completes (.mainSupplyLoss
        v) s fun t =>
      t.mainOn = false ∧
      t.condOn 100 0 = true ∧
      (∀ r < 52, railExists s r = true → r ≠ 18 → r ≠ 19 → railState t r = RS.off) ∧
      t.mode = s.mode ∧
      t.mram = s.mram ∧ t.otp = s.otp ∧ t.pins = s.pins) ∧
    (∀ (v : Nat), s.mgtOn = false ∨ s.mainOn = false ∨ 6600 ≤ v → Completes (.mainSupplyLoss v) s fun t =>
      t = s) ∧
    (s.mgtOn = true → s.mode = .setup → s.bit Obj.sysBootStatus 5 = false → 6900 ≤ s.pin .vinMain → s.varB .modeReq 2 = false →
        Completes (.mainValid) s fun t =>
      t.var .modeReq 2 = 0x11 ∧
      Within [] [.modeReq] s t)

/-- The ways into and out of the low-power modes (R335, R345, R346, R612). The supply thresholds (log entry 19), the durations of a
wake (log entry 22), when CRES stops a commit (log entry 66) and the points that no rule settles (log entry 114) are the model's
choice. Says that these complete: mgtLoss, holdupEntry, backupEntry, shelfEntry, shelfLatchSet, shelfAbandon, shelfWake. -/
def Obligations.PowerDownEvents : Prop :=
  ∀ s : State,
    (∀ (v packP : Nat), s.mgtOn = true → v < 3670 → Completes (.mgtLoss v packP) s fun t =>
      t.mgtOn = false ∧
      t.pin .packP = packP ∧
      t.var .mainOn = 0 ∧
      t.deferred = [] ∧ t.queue = [] ∧ t.jobs = [] ∧ t.buf = [] ∧
      t.otp = s.otp ∧
      (s.pin .cres < 270 → t.mram = s.mram) ∧
      (s.varB .bkpValid = true → 4000 ≤ packP → t.var .bkpMode = s.var .bkpMode ∧ t.var .bkpCause = s.var .bkpCause) ∧
      (packP < 4000 → t.var .bkpMode = 0)) ∧
    (s.mode = .holdup → s.varB .entryTodo 5 = true → s.oN Obj.pwrLgTime ≠ 0 → Completes (.holdupEntry) s fun t =>
      t.varB .entryTodo 5 = false ∧
      t.varN .holdAt = s.now ∧
      t.varN .lgT = s.now + s.oN Obj.pwrLgTime + 1 ∧
      t.o Obj.pwrHoldups = (s.bump Obj.pwrHoldups).o Obj.pwrHoldups ∧
      t.o Obj.pwrPonrCause = 0 ∧
      t.bit Obj.pwrFlags 9 = false ∧ t.bit Obj.pwrFlags 10 = false ∧
      t.varB .commitReq = true ∧
      t.varB .wbAgain 0 = true ∧ t.varB .wbAgain 1 = true ∧ t.varB .wbAgain 2 = true ∧
      t.mode = .holdup ∧
      t.mram = s.mram ∧ t.otp = s.otp ∧ t.pins = s.pins) ∧
    (s.mode = .holdup → s.varB .entryTodo 5 = true → s.oN Obj.pwrLgTime = 0 → Completes (.holdupEntry) s fun t =>
      t.varB .entryTodo 5 = false ∧
      ponrPassed t = true ∧
      t.o Obj.pwrPonrCause = 1 ∧
      t.varB .lgT = false) ∧
    (s.mgtOn = true → s.mode = .backup → s.varB .entryTodo 1 = true → commitRuns s = false → Completes (.backupEntry) s fun t =>
      t.mgtOn = false ∧
      t.mode = .backup ∧
      t.keptRecs = s.keptRecs ++ modeRecords s ∧
      (s.varB .closeDue = false → t.mram = s.mram) ∧
      t.otp = s.otp ∧ t.pins = s.pins ∧
      t.queue = [] ∧ t.deferred = [] ∧ t.jobs = []) ∧
    (s.mgtOn = true → s.mode = .shelf → s.varB .entryTodo 0 = true → commitRuns s = false → Completes (.shelfEntry) s fun t =>
      t.varB .entryTodo 0 = false ∧
      t.var .shelfWord = 1 ∧
      t.varB .shelfReady = true ∧
      t.offers = s.offers ++ [⟨0x070A, u16 (packMv s) ++ u32 (s.o Obj.sysOpSeconds), false⟩] ∧
      t.varB .commitReq = true ∧
      wbIdle t 2 = false ∧
      Within [] [.entryTodo, .shelfWord, .shelfReady, .wbAgain, .wbStage, .wbSlot, .wbGen, .commitReq, .commitReqRound] s t) ∧
    (s.mgtOn = true → s.mode = .shelf → s.varB .shelfReady = true → externalValid s = false → commitRuns s = false → s.queue.any
        (fun e => decide (e.code = 0x070A)) = false → s.offers.any (fun o => decide (o.code = 0x070A)) = false → s.varB .modeReq
        Mode.boot.code = false → shelfWrites s = false → Completes (.shelfLatchSet) s fun t =>
      t.mgtOn = false ∧
      t.mode = .shelf ∧
      t.var .shelfLatch = 1 ∧
      t.rtcValid = false ∧
      t.keptRecs = s.keptRecs ++ modeRecords s ∧
      (s.varB .closeDue = false → s.buf = [] → t.mram = s.mram) ∧
      t.otp = s.otp ∧ t.pins = s.pins) ∧
    (s.mgtOn = true → s.mode = .shelf → s.varB .shelfReady = true → externalValid s = false → commitRuns s = false → s.queue.any
        (fun e => decide (e.code = 0x070A)) = false → s.offers.any (fun o => decide (o.code = 0x070A)) = false → s.varB .modeReq
        Mode.boot.code = false → shelfWrites s = true → Completes (.shelfLatchSet) s fun t =>
      t = s) ∧
    (s.mgtOn = true → s.mode = .shelf → externalValid s = true → Completes (.shelfAbandon) s fun t =>
      t.var .modeReq Mode.boot.code = 0x11 + 1 ∧
      (.boot, some 0x11) ∈ moves t ∧
      t.mode = .shelf ∧
      t.var .shelfWord = 0 ∧
      t.var .closeDue = 0 ∧
      t.varB .shelfArmed = s.varB .shelfArmed ∧
      Within [] [.shelfWord, .closeDue, .modeReq] s t) ∧
    (∀ (why low v : Nat), s.varB .shelfLatch = true → s.varB .wakeWhy = false → (why = 0 ∧ 50 ≤ low) ∨ (why = 1 ∧ 4500 < v) ∨ (why =
        2 ∧ 4000 < v ∧ 1 ≤ s.varN .ccTerm ∧ s.varN .ccTerm ≤ 3) → Completes (.shelfWake why low v) s fun t =>
      t.varN .wakeWhy = why + 1 ∧
      Within [] [.wakeWhy] s t) ∧
    (∀ (why low v : Nat), (why = 0 ∧ low < 50) ∨ (why = 1 ∧ v ≤ 4500) ∨ (why = 2 ∧ v ≤ 4000) ∨ 3 ≤ why → Completes (.shelfWake why
        low v) s fun t =>
      t = s)

/-- Plain command writes of modes, sequencer, marshal and loop-backs. Says that these complete: sysModeReq, seqCmdOn, seqCmdOff,
acknowledge, ackAll, lbStart, lbStop. -/
def Obligations.ModeAndSequencerWrites : Prop :=
  ∀ s : State,
    (∀ (c : Plain), plainOk s c (Obj.sysModeReq) = true → c.data = [4] → s.mode = .setup → s.varB .activeBank = true → s.mainOn =
        true → tableOk s = true → Completes (.sysModeReq c) s fun t =>
      t.var .modeReq 4 = 7 ∧
      t.varB .modePort c.port = true ∧
      (portOf t c.port).txn = some (plainReq c Obj.sysModeReq) ∧
      t.mode = .setup ∧
      RegsWithin [Obj.uartFrames, Obj.teamJournal, Obj.teamDqDepth, Obj.teamDqMax, Obj.sysModeReq] [Obj.canRx, Obj.canTx,
        Obj.spiFrames] [.spiErr, .spiBusy, .dSlots, .dqAt, .modeReq, .modePort] s t) ∧
    (∀ (c : Plain), plainOk s c (Obj.sysModeReq) = true → c.data = [3] → s.mode = .run → Completes (.sysModeReq c) s fun t =>
      t.var .modeReq 3 = 7 ∧
      t.varB .modePort c.port = true ∧
      (portOf t c.port).txn = some (plainReq c Obj.sysModeReq) ∧
      RegsWithin [Obj.uartFrames, Obj.teamJournal, Obj.teamDqDepth, Obj.teamDqMax, Obj.sysModeReq] [Obj.canRx, Obj.canTx,
        Obj.spiFrames] [.spiErr, .spiBusy, .dSlots, .dqAt, .modeReq, .modePort] s t) ∧
    (∀ (c : Plain), plainOk s c (Obj.sysModeReq) = true → c.data = [3] → s.mode = .setup → modeWaits s = false → Completes
        (.sysModeReq c) s fun t =>
      answered t (plainReq c (Obj.sysModeReq)) .ok = true ∧
      RegsWithin [Obj.uartFrames, Obj.teamJournal, Obj.teamDqDepth, Obj.teamDqMax, Obj.sysModeReq] [Obj.canRx, Obj.canTx,
        Obj.spiFrames] [.spiErr, .spiBusy, .dSlots, .dqAt] s t) ∧
    (∀ (c : Plain), plainOk s c (Obj.sysModeReq) = true → c.data = [4] → s.mode = .setup → s.varB .activeBank = false → Completes
        (.sysModeReq c) s fun t =>
      answered t (plainReq c (Obj.sysModeReq)) .stateForbids = true ∧
      RegsWithin [Obj.uartFrames] [Obj.canRx, Obj.canTx, Obj.spiFrames] [.spiErr, .spiBusy, .dSlots, .dqAt] s t) ∧
    (∀ (c : Plain), plainOk s c (Obj.sequencerCmd) = true → c.data = [1] → s.mode = .run → s.varB .swapOn = false → s.oN
        Obj.sequencerState = 5 ∨ 33 ≤ yardAt s → Completes (.seqCmdOn c) s fun t =>
      answered t (plainReq c (Obj.sequencerCmd)) .ok = true ∧
      t.bit Obj.sequencerPending 0 = true ∧
      RegsWithin [Obj.uartFrames, Obj.teamJournal, Obj.teamDqDepth, Obj.teamDqMax, Obj.sequencerPending] [Obj.canRx, Obj.canTx,
        Obj.spiFrames] [.spiErr, .spiBusy, .dSlots, .dqAt] s t) ∧
    (∀ (c : Plain), plainOk s c (Obj.sequencerCmd) = true → c.data = [1] → s.mode = .run → s.varB .swapOn = false → s.oN
        Obj.sequencerState ≠ 5 → yardAt s = 0 → yardAlone s = true → Completes (.seqCmdOn c) s fun t =>
      answered t (plainReq c (Obj.sequencerCmd)) .ok = true ∧
      yardTo t = 1 ∧
      yardAt t = 0 ∧
      t.var .upCause = 0 ∧
      RegsWithin [Obj.uartFrames, Obj.teamJournal, Obj.teamDqDepth, Obj.teamDqMax] [Obj.canRx, Obj.canTx, Obj.spiFrames] [.spiErr,
        .spiBusy, .dSlots, .dqAt, .upCause, .yardGo, .yardPulse] s t) ∧
    (∀ (c : Plain), plainOk s c (Obj.sequencerCmd) = true → c.data = [2] → s.mode = .run → s.varB .swapOn = false → s.oN
        Obj.sequencerState = 5 ∨ 33 ≤ yardAt s ∨ yardAt s = 0 → Completes (.seqCmdOff c) s fun t =>
      answered t (plainReq c (Obj.sequencerCmd)) .ok = true ∧
      t.bit Obj.sequencerPending 0 = false ∧
      yardAt t = yardAt s ∧
      RegsWithin [Obj.uartFrames, Obj.teamJournal, Obj.teamDqDepth, Obj.teamDqMax, Obj.sequencerPending] [Obj.canRx, Obj.canTx,
        Obj.spiFrames] [.spiErr, .spiBusy, .dSlots, .dqAt, .yardReq, .yardGo] s t) ∧
    (∀ (c : Plain), plainOk s c (Obj.sequencerCmd) = true → c.data = [2] → s.mode = .run → s.varB .swapOn = false → s.oN
        Obj.sequencerState ≠ 5 → yardAt s = 32 → yardAlone s = true → Completes (.seqCmdOff c) s fun t =>
      answered t (plainReq c (Obj.sequencerCmd)) .ok = true ∧
      yardTo t = 33 ∧
      yardAt t = 32 ∧
      t.var .downCause = 0 ∧
      RegsWithin [Obj.uartFrames, Obj.teamJournal, Obj.teamDqDepth, Obj.teamDqMax] [Obj.canRx, Obj.canTx, Obj.spiFrames] [.spiErr,
        .spiBusy, .dSlots, .dqAt, .downCause, .yardGo, .yardPulse] s t) ∧
    (∀ (src : Nat) (c : Plain), plainOk s c (Obj.srcUnack src) = true → src < 256 → c.data.length = 4 → Completes (.acknowledge src
        c) s fun t =>
      answered t (plainReq c (Obj.srcUnack src)) .ok = true ∧
      t.oN (Obj.srcUnack src) = s.oN (Obj.srcUnack src) - (s.oN (Obj.srcUnack src) &&& ofLeBytes c.data) ∧
      RegsWithin [Obj.uartFrames, Obj.teamJournal, Obj.teamDqDepth, Obj.teamDqMax, Obj.srcUnack src] [Obj.canRx, Obj.canTx,
        Obj.spiFrames] [.spiErr, .spiBusy, .dSlots, .dqAt] s t) ∧
    (∀ (c : Plain), plainOk s c (Obj.marshalAckAll) = true → c.data = [1] → Completes (.ackAll c) s fun t =>
      answered t (plainReq c (Obj.marshalAckAll)) .ok = true ∧
      (∀ x < 256, s.o (Obj.srcUnack x) = ((s.oN (Obj.srcUnack x) % 2 ^ 32 : Nat) : Int) → t.o (Obj.srcUnack x) = 0) ∧
      RegsWithin [Obj.uartFrames, Obj.teamJournal, Obj.teamDqDepth, Obj.teamDqMax] [Obj.canRx, Obj.canTx, Obj.spiFrames,
        Obj.srcUnack] [.spiErr, .spiBusy, .dSlots, .dqAt] s t) ∧
    (∀ (x : Nat) (c : Plain), plainOk s c (Obj.lbCmd x) = true → c.data = [1] → loopbacks.contains x = true → lbBusy s = false →
        s.oB Obj.testBscan = false → lbExists s x = true → lbCond s x (some c.port) = true → Completes (.lbStart x c) s fun t =>
      answered t (plainReq c (Obj.lbCmd x)) .ok = true ∧
      t.varB .lbTodo x = true ∧
      t.varN .lbMode = s.mode.code + 1 ∧
      t.varN .lbRole = role s ∧
      t.var .lbStop x = 0 ∧
      RegsWithin [Obj.uartFrames] [Obj.canRx, Obj.canTx, Obj.spiFrames] [.spiErr, .spiBusy, .dSlots, .dqAt, .lbTodo, .lbMode,
        .lbRole, .lbStop] s t) ∧
    (∀ (x : Nat) (c : Plain), plainOk s c (Obj.lbCmd x) = true → c.data = [2] → loopbacks.contains x = true → Completes (.lbStop x
        c) s fun t =>
      answered t (plainReq c (Obj.lbCmd x)) .ok = true ∧
      t.varB .lbStop x = (decide (s.oN (Obj.lbState x) = 1) || s.varB .lbTodo x) ∧
      RegsWithin [Obj.uartFrames] [Obj.canRx, Obj.canTx, Obj.spiFrames] [.spiErr, .spiBusy, .dSlots, .dqAt, .lbStop] s t)

/-- Plain command writes of the power path, the estimator and the service port. That est.cmd is rejected outside SETUP and RUN and
accepted without effect in an exercise (log entry 55), and what port.cmd is rejected for (log entry 60), are the model's choice.
Says that these complete: pwrCmdResume, pwrCmdSuspend, lgDone, estCmdRequest, estCmdAbort, portCmdPrSwap, portCmdDrSwap,
portCmdClearLatch, portCmdExitBench. -/
def Obligations.PowerAndPortWrites : Prop :=
  ∀ s : State,
    (∀ (c : Plain), plainOk s c (Obj.pwrCmd) = true → c.data = [1] → Completes (.pwrCmdResume c) s fun t =>
      answered t (plainReq c (Obj.pwrCmd)) .ok = true ∧
      t.bit Obj.pwrFlags 11 = false ∧ t.bit Obj.pwrFlags 12 = false ∧
      t.varB .susCmd = false ∧
      RegsWithin [Obj.uartFrames, Obj.pwrFlags] [Obj.canRx, Obj.canTx, Obj.spiFrames] [.spiErr, .spiBusy, .dSlots, .dqAt, .susCmd] s
        t) ∧
    (∀ (c : Plain), plainOk s c (Obj.pwrCmd) = true → c.data = [2] → Completes (.pwrCmdSuspend c) s fun t =>
      answered t (plainReq c (Obj.pwrCmd)) .ok = true ∧
      t.varB .susCmd = true ∧
      RegsWithin [Obj.uartFrames] [Obj.canRx, Obj.canTx, Obj.spiFrames] [.spiErr, .spiBusy, .dSlots, .dqAt, .susCmd] s t) ∧
    (∀ (c : Plain), plainOk s c (Obj.pwrLgDone) = true → c.data = [1] → s.mode = .holdup → ponrPassed s = false → (mainQualified s
        && vinValid s) = false → Completes (.lgDone c) s fun t =>
      answered t (plainReq c (Obj.pwrLgDone)) .ok = true ∧
      ponrPassed t = true ∧
      t.o Obj.pwrPonrCause = 2 ∧
      t.varB .lgT = false ∧
      RegsWithin [Obj.uartFrames, Obj.pwrFlags, Obj.pwrPonrCause, Obj.seqState 18, Obj.seqState 19, Obj.sequencerRailsUp,
        Obj.sequencerRailsFailed, Obj.srcCond (railSrc 18), Obj.srcCond (railSrc 19)] [Obj.canRx, Obj.canTx, Obj.spiFrames]
        [.spiErr, .spiBusy, .dSlots, .dqAt, .lgT, .cutHeld, .offT, .offKind, .offGot, .dis, .disOn, .offDue, .offTick, .disT,
        .disPast, .hicT, .startDue, .seqSince] s t) ∧
    (∀ (c : Plain), plainOk s c (Obj.pwrLgDone) = true → c.data = [1] → s.mode ≠ .holdup → Completes (.lgDone c) s fun t =>
      answered t (plainReq c (Obj.pwrLgDone)) .stateForbids = true ∧
      RegsWithin [Obj.uartFrames] [Obj.canRx, Obj.canTx, Obj.spiFrames] [.spiErr, .spiBusy, .dSlots, .dqAt] s t) ∧
    (∀ (c : Plain), plainOk s c (Obj.estCmd) = true → c.data = [1] → s.mode = .setup ∨ s.mode = .run → s.oN Obj.estExState ≠ 5 →
        s.varB .exGoto = false → Completes (.estCmdRequest c) s fun t =>
      answered t (plainReq c (Obj.estCmd)) .ok = true ∧
      t.varN .exGoto = (if s.oN Obj.estExState = 0 then 2 else 0) ∧
      (exTick t).oN Obj.estExState = (if s.oN Obj.estExState = 0 then 1 else s.oN Obj.estExState) ∧
      RegsWithin [Obj.uartFrames] [Obj.canRx, Obj.canTx, Obj.spiFrames] [.spiErr, .spiBusy, .dSlots, .dqAt, .exGoto, .exArg] s t) ∧
    (∀ (c : Plain), plainOk s c (Obj.estCmd) = true → c.data = [2] → Completes (.estCmdAbort c) s fun t =>
      answered t (plainReq c (Obj.estCmd)) .ok = true ∧
      t.varB .exAbort = (s.varB .exAbort || exRuns s) ∧
      RegsWithin [Obj.uartFrames] [Obj.canRx, Obj.canTx, Obj.spiFrames] [.spiErr, .spiBusy, .dSlots, .dqAt, .exAbort] s t) ∧
    (∀ (a : SwapAnswer) (c : Plain), plainOk s c (Obj.portCmd) = true → c.data = [1] → prAllowed s = true → s.oN Obj.portPowerRole =
        1 → a = .accept → portSt s = 3 ∨ s.varN .ccTerm = 3 → Completes (.portCmdPrSwap c a) s fun t =>
      answered t (plainReq c (Obj.portCmd)) .ok = true ∧
      t.oN Obj.portPowerRole = 2 ∧
      portSt t = 3 ∧
      t.oN Obj.portContract = 0 ∧
      t.pdTx = s.pdTx ++ [.prSwap] ∧
      RegsWithin [Obj.uartFrames, Obj.portFlags, Obj.portState, Obj.portPowerRole, Obj.portContract, Obj.portVContract,
        Obj.portIContract] [Obj.canRx, Obj.canTx, Obj.spiFrames] [.spiErr, .spiBusy, .dSlots, .dqAt, .transT, .reqV, .reqI,
        .ownPref, .attAt] s t) ∧
    (∀ (a : SwapAnswer) (c : Plain), plainOk s c (Obj.portCmd) = true → c.data = [1] → prAllowed s = true → a = .reject → portSt s =
        3 ∨ s.varN .ccTerm = 3 → Completes (.portCmdPrSwap c a) s fun t =>
      answered t (plainReq c (Obj.portCmd)) .ok = true ∧
      t.pdTx = s.pdTx ++ [.prSwap] ∧
      RegsWithin [Obj.uartFrames] [Obj.canRx, Obj.canTx, Obj.spiFrames] [.spiErr, .spiBusy, .dSlots, .dqAt, .ownPref, .attAt] s t) ∧
    (∀ (a : SwapAnswer) (c : Plain), plainOk s c (Obj.portCmd) = true → c.data = [1] → prAllowed s = false → Completes
        (.portCmdPrSwap c a) s fun t =>
      answered t (plainReq c (Obj.portCmd)) .stateForbids = true ∧
      RegsWithin [Obj.uartFrames] [Obj.canRx, Obj.canTx, Obj.spiFrames] [.spiErr, .spiBusy, .dSlots, .dqAt] s t) ∧
    (∀ (a : SwapAnswer) (c : Plain), plainOk s c (Obj.portCmd) = true → c.data = [2] → portAttached s = true → pdMode s = true →
        s.oN Obj.portDataRole = 1 → a = .accept → portSt s = 3 ∨ s.varN .ccTerm = 3 → Completes (.portCmdDrSwap c a) s fun t =>
      t.oN Obj.portDataRole = 2 ∧
      t.bit Obj.portFlags 4 = false ∧
      t.pdTx = s.pdTx ++ [.drSwap] ∧
      RegsWithin [Obj.uartFrames, Obj.portFlags, Obj.portDataRole] [Obj.canRx, Obj.canTx, Obj.spiFrames] [.spiErr, .spiBusy,
        .dSlots, .dqAt, .ownPref] s t) ∧
    (∀ (a : SwapAnswer) (c : Plain), plainOk s c (Obj.portCmd) = true → c.data = [2] → portAttached s = true → pdMode s = true → a =
        .preempted → portSt s = 2 ∧ s.varN .ccTerm = 3 → Completes (.portCmdDrSwap c a) s fun t =>
      answered t (plainReq c (Obj.portCmd)) .ok = true ∧
      t.var .ownReq = 2 ∧
      t.var .ownHow = 0 ∧
      RegsWithin [Obj.uartFrames] [Obj.canRx, Obj.canTx, Obj.spiFrames] [.spiErr, .spiBusy, .dSlots, .dqAt, .ownReq, .ownHow,
        .ownPref] s t) ∧
    (∀ (a : SwapAnswer) (c : Plain), plainOk s c (Obj.portCmd) = true → portAttached s = true → pdMode s = true → portSt s = 2 →
        s.varN .ccTerm ≠ 3 → Completes (.portCmdDrSwap c a) s fun t =>
      answered t (plainReq c (Obj.portCmd)) .ok = true ∧
      t.pdTx = s.pdTx ∧
      t.var .ownReq = 2 ∧
      t.var .ownHow = 1 ∧
      RegsWithin [Obj.uartFrames] [Obj.canRx, Obj.canTx, Obj.spiFrames] [.spiErr, .spiBusy, .dSlots, .dqAt, .ownReq, .ownHow,
        .ownPref] s t) ∧
    (∀ (c : Plain), plainOk s c (Obj.portCmd) = true → c.data = [3] → portSt s = 5 → Completes (.portCmdClearLatch c) s fun t =>
      answered t (plainReq c (Obj.portCmd)) .ok = true ∧
      portSt t = 0 ∧
      t.bit Obj.portFlags 6 = false ∧
      t.var .openT = 0 ∧
      RegsWithin [Obj.uartFrames, Obj.portFlags, Obj.portState] [Obj.canRx, Obj.canTx, Obj.spiFrames] [.spiErr, .spiBusy, .dSlots,
        .dqAt, .openT] s t) ∧
    (∀ (c : Plain), plainOk s c (Obj.portCmd) = true → c.data = [4] → s.bit Obj.portFlags 4 = true → c.port ≠ 4 → Completes
        (.portCmdExitBench c) s fun t =>
      answered t (plainReq c (Obj.portCmd)) .ok = true ∧
      t.bit Obj.portFlags 4 = false ∧
      t.posts = s.posts ++ [77] ∧
      RegsWithin [Obj.uartFrames, Obj.portFlags] [Obj.canRx, Obj.canTx, Obj.spiFrames] [.spiErr, .spiBusy, .dSlots, .dqAt] s t) ∧
    (∀ (c : Plain), plainOk s c (Obj.portCmd) = true → c.data = [4] → s.bit Obj.portFlags 4 = true → c.port = 4 → Completes
        (.portCmdExitBench c) s fun t =>
      portOf t 4 = PortState.idle ∧
      t.bit Obj.portFlags 4 = false ∧
      t.posts = s.posts ++ [77] ∧
      RegsWithin [Obj.uartFrames, Obj.portFlags] [Obj.canRx, Obj.canTx, Obj.spiFrames] [.spiErr, .spiBusy, .dSlots, .dqAt] s t)

/-- Plain command writes of clock, memory, recorder and ledger. That a change of the budget under way rejects another with 0x08 is
the model's choice (log entry 78). Says that these complete: rtcSetHalt, rtcSetShift, rtcShiftWrite, rtcCalWrite, nvmCmdCommit,
exportStart, exportEnd, bbCmdCapture, bbCmdRelease, snapStart, snapEnd, budgetAllocWrite. -/
def Obligations.ClockAndStoreWrites : Prop :=
  ∀ s : State,
    (∀ (sec : Nat) (c : Plain), plainOk s c (Obj.rtcSetTime) = true → c.data = leBytes 6 (1024 * sec) → sec ≤ rtcEnd → s.oN
        Obj.rtcSetMode = 0 → Completes (.rtcSetHalt false c) s fun t =>
      answered t (plainReq c (Obj.rtcSetTime)) .ok = true ∧
      t.o Obj.rtcSetTime = ((1024 * sec : Nat) : Int) ∧
      t = respond (plainReq c Obj.rtcSetTime) .ok [] ((rtcTimeWrite sec 0 (inSlot (plainReq c Obj.rtcSetTime) s)).2.setO
        Obj.rtcSetTime ((1024 * sec : Nat) : Int))) ∧
    (∀ (c : Plain), plainOk s c (Obj.rtcSetTime) = true → c.data.length = 6 → s.bit Obj.rtcStatus 0 = false → s.oN Obj.rtcSetMode =
        1 → s.bit Obj.rtcStatus 2 = false → ofLeBytes c.data / 1024 ≤ rtcEnd → ((((ofLeBytes c.data : Nat) : Int) - s.o Obj.rtcNow)
        * 32).natAbs ≤ 16384 → Completes (.rtcSetShift false c) s fun t =>
      answered t (plainReq c (Obj.rtcSetTime)) .ok = true ∧
      t.o Obj.rtcShiftLeft = (((ofLeBytes c.data : Nat) : Int) - s.o Obj.rtcNow) * 32 ∧
      t.bit Obj.rtcStatus 2 = true ∧
      t.o Obj.rtcSetTime = ((ofLeBytes c.data : Nat) : Int)) ∧
    (∀ (c : Plain), plainOk s c (Obj.rtcSetCal) = true → c.data.length = 8 → secondsOf (ofLeBytes c.data) = none → Completes
        (.rtcSetShift true c) s fun t =>
      answered t (plainReq c (Obj.rtcSetCal)) .impossible = true ∧
      RegsWithin [Obj.uartFrames] [Obj.canRx, Obj.canTx, Obj.spiFrames] [.spiErr, .spiBusy, .dSlots, .dqAt] s t) ∧
    (∀ (c : Plain), plainOk s c (Obj.rtcShift) = true → c.data.length = 2 → s.bit Obj.rtcStatus 0 = false → s.bit Obj.rtcStatus 2 =
        false → -16384 ≤ ofTwos 16 (ofLeBytes c.data) → ofTwos 16 (ofLeBytes c.data) ≤ 16384 → Completes (.rtcShiftWrite c) s fun t
        =>
      answered t (plainReq c (Obj.rtcShift)) .ok = true ∧
      t.o Obj.rtcShiftLeft = ofTwos 16 (ofLeBytes c.data) ∧
      t.o Obj.rtcShift = ofTwos 16 (ofLeBytes c.data) ∧
      t.bit Obj.rtcStatus 2 = true ∧
      t.var .rtcShiftDone = 0 ∧
      RegsWithin [Obj.uartFrames, Obj.rtcShiftLeft, Obj.rtcShift, Obj.rtcStatus] [Obj.canRx, Obj.canTx, Obj.spiFrames] [.spiErr,
        .spiBusy, .dSlots, .dqAt, .rtcShiftAsked, .rtcShiftDone, .rtcShiftWait] s t) ∧
    (∀ (c : Plain), plainOk s c (Obj.rtcCal) = true → c.data.length = 1 → -127 ≤ ofTwos 8 (ofLeBytes c.data) → Completes
        (.rtcCalWrite c) s fun t =>
      answered t (plainReq c (Obj.rtcCal)) .ok = true ∧
      t.o Obj.rtcCal = ofTwos 8 (ofLeBytes c.data) ∧
      t.offers = s.offers ++ [⟨0x0B05, u8 (s.o Obj.rtcCal) ++ u8 (ofTwos 8 (ofLeBytes c.data)), false⟩] ∧
      RegsWithin [Obj.uartFrames, Obj.rtcCal] [Obj.canRx, Obj.canTx, Obj.spiFrames] [.spiErr, .spiBusy, .dSlots, .dqAt] s t) ∧
    (∀ (c : Plain), plainOk s c (Obj.nvmCmd) = true → c.data = [1] → Completes (.nvmCmdCommit c) s fun t =>
      answered t (plainReq c (Obj.nvmCmd)) .ok = true ∧
      t.varB .commitReq = true ∧
      RegsWithin [Obj.uartFrames] [Obj.canRx, Obj.canTx, Obj.spiFrames] [.spiErr, .spiBusy, .dSlots, .dqAt, .commitReq,
        .commitReqRound] s t) ∧
    (∀ (c : Plain), plainOk s c (Obj.sbExpCmd) = true → c.data = [1] → s.oN Obj.sbExpState ≠ 1 → s.oN Obj.sbExpState ≠ 2 → Completes
        (.exportStart c) s fun t =>
      answered t (plainReq c (Obj.sbExpCmd)) .ok = true ∧
      t.oN Obj.sbExpState = 1 ∧
      t.varN .expHead = s.oN Obj.sbHead ∧
      t.varN .expCnt = s.oN Obj.sbExpCount ∧
      t.var .expDone = 0 ∧
      t.expSig = [] ∧
      RegsWithin [Obj.uartFrames, Obj.sbExpState, Obj.sbExpLen] [Obj.canRx, Obj.canTx, Obj.spiFrames] [.spiErr, .spiBusy, .dSlots,
        .dqAt, .expHead, .expLap, .expCnt, .expDone] s t) ∧
    (∀ (c : Plain), plainOk s c (Obj.sbExpCmd) = true → c.data = [2] → Completes (.exportEnd c) s fun t =>
      answered t (plainReq c (Obj.sbExpCmd)) .ok = true ∧
      t.oN Obj.sbExpState = 0 ∧
      (s.oN Obj.sbExpState = 3 → t.expData = [] ∧ t.expSig = []) ∧
      RegsWithin [Obj.uartFrames, Obj.sbExpState] [Obj.canRx, Obj.canTx, Obj.spiFrames] [.spiErr, .spiBusy, .dSlots, .dqAt] s t) ∧
    (∀ (c : Plain), plainOk s c (Obj.sbBbCmd) = true → c.data = [1] → s.oN Obj.sbBbState = 1 ∨ (bbProtected s 0 = true ∧ bbProtected
        s 1 = true) → Completes (.bbCmdCapture c) s fun t =>
      answered t (plainReq c (Obj.sbBbCmd)) .ok = true ∧
      t.o Obj.sbBbMissed = (s.bump Obj.sbBbMissed).o Obj.sbBbMissed ∧
      t.posts = s.posts ++ [99] ∧
      RegsWithin [Obj.uartFrames, Obj.sbBbMissed] [Obj.canRx, Obj.canTx, Obj.spiFrames] [.spiErr, .spiBusy, .dSlots, .dqAt] s t) ∧
    (∀ (c : Plain), plainOk s c (Obj.sbBbCmd) = true → c.data = [1] → s.oN Obj.sbBbState ≠ 1 → bbProtected s 0 = false → Completes
        (.bbCmdCapture c) s fun t =>
      answered t (plainReq c (Obj.sbBbCmd)) .ok = true ∧
      t.oN Obj.sbBbState = 1 ∧
      t.var .bbLine = 1 ∧
      t.var .bbTrig = 3 ∧
      RegsWithin [Obj.uartFrames, Obj.sbBbState, Obj.nvmBufLines, Obj.nvmState, Obj.nvmCorrected, Obj.nvmUncorr, Obj.nvmLastBad,
        Obj.ledgerStatus] [Obj.canRx, Obj.canTx, Obj.spiFrames] [.spiErr, .spiBusy, .dSlots, .dqAt, .bbSlot, .bbLine, .bbTrig,
        .bbGen, .bbCause, .bbTime, .bbOp, .bbFrame, .commitReq, .commitReqRound, .ledLost] s t) ∧
    (∀ (c : Plain), plainOk s c (Obj.sbBbCmd) = true → c.data = [2] → bbProtected s 0 = false → bbProtected s 1 = false → s.oN
        Obj.sbBbState ≠ 1 → Completes (.bbCmdRelease c) s fun t =>
      answered t (plainReq c (Obj.sbBbCmd)) .ok = true ∧
      RegsWithin [Obj.uartFrames, Obj.nvmCorrected, Obj.nvmUncorr, Obj.nvmLastBad, Obj.ledgerStatus] [Obj.canRx, Obj.canTx,
        Obj.spiFrames] [.spiErr, .spiBusy, .dSlots, .dqAt, .ledLost] s t) ∧
    (∀ (c : Plain), plainOk s c (Obj.sbBbCmd) = true → c.data = [2] → Completes (.bbCmdRelease c) s fun t =>
      answered t (plainReq c (Obj.sbBbCmd)) .ok = true ∧
      t = respond (plainReq c Obj.sbBbCmd) .ok [] (bbRelease 1 (bbRelease 0 (inSlot (plainReq c Obj.sbBbCmd) s))) ∧
      t.mram = s.mram ∧
      RegsWithin [Obj.uartFrames, Obj.nvmBufLines, Obj.nvmState, Obj.nvmCorrected, Obj.nvmUncorr, Obj.nvmLastBad, Obj.ledgerStatus]
        [Obj.canRx, Obj.canTx, Obj.spiFrames] [.spiErr, .spiBusy, .dSlots, .dqAt, .commitReq, .commitReqRound, .ledLost, .bbFree] s
        t) ∧
    (∀ (c : Plain), plainOk s c (Obj.keySnapCmd) = true → c.data = [1] → s.oN Obj.keySnapState ≠ 1 → s.oN Obj.keySnapState ≠ 2 →
        Completes (.snapStart c) s fun t =>
      answered t (plainReq c (Obj.keySnapCmd)) .ok = true ∧
      t.o Obj.keySnapState = 1 ∧
      t.varB .snapTodo = true ∧
      t.snapData = [] ∧ t.snapSig = [] ∧
      RegsWithin [Obj.uartFrames, Obj.keySnapState] [Obj.canRx, Obj.canTx, Obj.spiFrames] [.spiErr, .spiBusy, .dSlots, .dqAt,
        .snapTodo] s t) ∧
    (∀ (c : Plain), plainOk s c (Obj.keySnapCmd) = true → c.data = [2] → Completes (.snapEnd c) s fun t =>
      answered t (plainReq c (Obj.keySnapCmd)) .ok = true ∧
      t.o Obj.keySnapState = 0 ∧
      t.varB .snapTodo = false ∧
      t.snapData = [] ∧ t.snapSig = [] ∧
      RegsWithin [Obj.uartFrames, Obj.keySnapState] [Obj.canRx, Obj.canTx, Obj.spiFrames] [.spiErr, .spiBusy, .dSlots, .dqAt,
        .snapTodo] s t) ∧
    (∀ (r : Nat) (c : Plain), plainOk s c (Obj.budgetAlloc r) = true → r < 52 → c.data.length = 4 → s.oN Obj.budgetState ≠ 1 →
        budgetBusy s = false → s.oN (Obj.budgetFloor r) ≤ ofLeBytes c.data → ofLeBytes c.data < s.oN (Obj.budgetAlloc r) → s.varB
        .swapOn = false → Completes (.budgetAllocWrite r c) s fun t =>
      answered t (plainReq c (Obj.budgetAlloc r)) .ok = true ∧
      t.varN .allocNew r = ofLeBytes c.data + 1 ∧
      t.o (Obj.budgetAlloc r) = s.o (Obj.budgetAlloc r) ∧
      RegsWithin [Obj.uartFrames] [Obj.canRx, Obj.canTx, Obj.spiFrames] [.spiErr, .spiBusy, .dSlots, .dqAt, .allocNew] s t) ∧
    (∀ (r : Nat) (c : Plain), plainOk s c (Obj.budgetAlloc r) = true → r < 52 → c.data.length = 4 → s.oN Obj.budgetState ≠ 1 →
        budgetBusy s = false → role s ≠ Role.active → s.oN (Obj.budgetAlloc r) < ofLeBytes c.data → s.oN (Obj.budgetFloor r) ≤
        ofLeBytes c.data → ofLeBytes c.data ≤ s.oN Obj.budgetFree + s.oN (Obj.budgetAlloc r) → s.varB .swapOn = false → Completes
        (.budgetAllocWrite r c) s fun t =>
      answered t (plainReq c (Obj.budgetAlloc r)) .ok = true ∧
      t.oN (Obj.budgetAlloc r) = ofLeBytes c.data ∧
      t.oN Obj.budgetFree + ofLeBytes c.data = s.oN Obj.budgetFree + s.oN (Obj.budgetAlloc r) ∧
      t.o Obj.budgetGen = (s.bump Obj.budgetGen).o Obj.budgetGen ∧
      RegsWithin [Obj.uartFrames, Obj.budgetAlloc r, Obj.budgetFree, Obj.budgetGen, Obj.budgetAllocated] [Obj.canRx, Obj.canTx,
        Obj.spiFrames] [.spiErr, .spiBusy, .dSlots, .dqAt, .wbAgain] s t) ∧
    (∀ (r : Nat) (c : Plain), plainOk s c (Obj.budgetAlloc r) = true → r < 52 → c.data.length = 4 → s.oN Obj.budgetState = 1 ∨
        budgetBusy s = true ∨ s.varB .swapOn = true → s.oN (Obj.budgetFloor r) ≤ ofLeBytes c.data → ofLeBytes c.data ≤ s.oN
        Obj.budgetFree + s.oN (Obj.budgetAlloc r) → Completes (.budgetAllocWrite r c) s fun t =>
      answered t (plainReq c (Obj.budgetAlloc r)) .busy = true ∧
      RegsWithin [Obj.uartFrames] [Obj.canRx, Obj.canTx, Obj.spiFrames] [.spiErr, .spiBusy, .dSlots, .dqAt] s t)

/-- Writes to the collie and accesses to the interrupt controller. Says that these complete: collieServe, collieCheckin,
hostbusySet, hostbusyClear, claimRead, irqClear. -/
def Obligations.CollieAndInterruptAccesses : Prop :=
  ∀ s : State,
    (∀ (c : Plain), plainOk s c (Obj.collieServe) = true → c.data.length = 4 → ofLeBytes c.data % 65536 = 0xA5C3 → collieSt s = 2 →
        s.o Obj.collieOpen ≤ s.o Obj.collieCount → collieMissing s = 0 → Completes (.collieServe c) s fun t =>
      answered t (plainReq c (Obj.collieServe)) .ok = true ∧
      collieSt t = 1 ∧
      t.o Obj.collieLastTag = ((ofLeBytes c.data / 65536 : Nat) : Int) ∧
      t.o Obj.collieLastFrame = s.o Obj.frameNumber ∧
      t.o Obj.collieChecked = 0 ∧
      t.o Obj.collieServices = (s.bump Obj.collieServices).o Obj.collieServices ∧
      RegsWithin [Obj.uartFrames, Obj.collieState, Obj.collieHostbusy, Obj.collieLastTag, Obj.collieLastFrame, Obj.collieLastTime,
        Obj.collieServe, Obj.collieChecked, Obj.collieServices] [Obj.canRx, Obj.canTx, Obj.spiFrames] [.spiErr, .spiBusy, .dSlots,
        .dqAt, .collieHit] s t) ∧
    (∀ (c : Plain), plainOk s c (Obj.collieServe) = true → c.data.length = 4 → ofLeBytes c.data % 65536 = 0xA5C3 → collieSt s = 2 →
        s.o Obj.collieCount < s.o Obj.collieOpen → Completes (.collieServe c) s fun t =>
      answered t (plainReq c (Obj.collieServe)) .stateForbids = true ∧
      t.arrived = s.arrived ++
        [⟨240, 1, u16 (s.o Obj.collieCount) ++ u16 (s.o Obj.collieOpen) ++ u16 (ofLeBytes c.data / 65536 : Nat) ++ u8 0, false⟩] ∧
      RegsWithin [Obj.uartFrames] [Obj.canRx, Obj.canTx, Obj.spiFrames] [.spiErr, .spiBusy, .dSlots, .dqAt] s t) ∧
    (∀ (c : Plain), plainOk s c (Obj.collieServe) = true → c.data.length = 4 → ofLeBytes c.data % 65536 ≠ 0xA5C3 → collieSt s ≠ 0 →
        collieSt s ≠ 4 → Completes (.collieServe c) s fun t =>
      answered t (plainReq c (Obj.collieServe)) .outOfRange = true ∧
      t.arrived = s.arrived ++
        [⟨240, 4, u16 (ofLeBytes c.data % 65536 : Nat) ++ u16 (ofLeBytes c.data / 65536 : Nat) ++ u8 c.port, false⟩] ∧
      RegsWithin [Obj.uartFrames] [Obj.canRx, Obj.canTx, Obj.spiFrames] [.spiErr, .spiBusy, .dSlots, .dqAt] s t) ∧
    (∀ (c : Plain), plainOk s c (Obj.collieServe) = true → c.data.length = 4 → ofLeBytes c.data % 65536 = 0xA5C3 → collieSt s = 1 →
        Completes (.collieServe c) s fun t =>
      answered t (plainReq c (Obj.collieServe)) .stateForbids = true ∧
      t.arrived = s.arrived ++
        [⟨240, 1, u16 (s.o Obj.collieCount) ++ u16 (s.o Obj.collieOpen) ++ u16 (ofLeBytes c.data / 65536 : Nat) ++ u8 1, false⟩] ∧
      RegsWithin [Obj.uartFrames] [Obj.canRx, Obj.canTx, Obj.spiFrames] [.spiErr, .spiBusy, .dSlots, .dqAt] s t) ∧
    (∀ (c : Plain), plainOk s c (Obj.collieServe) = true → c.data.length = 4 → ofLeBytes c.data % 65536 = 0xA5C3 → collieSt s = 2 →
        s.o Obj.collieOpen ≤ s.o Obj.collieCount → collieMissing s ≠ 0 → Completes (.collieServe c) s fun t =>
      answered t (plainReq c (Obj.collieServe)) .stateForbids = true ∧
      t.arrived = s.arrived ++
        [⟨240, 2, u16 (collieMissing s) ++ u16 (s.o Obj.collieChecked) ++ u16 (ofLeBytes c.data / 65536 : Nat) ++ u16 (s.o Obj.collieCount), false⟩] ∧
      RegsWithin [Obj.uartFrames] [Obj.canRx, Obj.canTx, Obj.spiFrames] [.spiErr, .spiBusy, .dSlots, .dqAt] s t) ∧
    (∀ (c : Plain), plainOk s c (Obj.collieServe) = true → c.data.length = 4 → ofLeBytes c.data % 65536 = 0xA5C3 → collieSt s = 3 →
        Completes (.collieServe c) s fun t =>
      answered t (plainReq c (Obj.collieServe)) .stateForbids = true ∧
      t.arrived = s.arrived ∧
      RegsWithin [Obj.uartFrames] [Obj.canRx, Obj.canTx, Obj.spiFrames] [.spiErr, .spiBusy, .dSlots, .dqAt] s t) ∧
    (∀ (c : Plain), plainOk s c (Obj.collieServe) = true → c.data.length = 4 → collieSt s = 0 ∨ collieSt s = 4 → Completes
        (.collieServe c) s fun t =>
      answered t (plainReq c (Obj.collieServe)) .stateForbids = true ∧
      t.arrived = s.arrived ∧
      RegsWithin [Obj.uartFrames] [Obj.canRx, Obj.canTx, Obj.spiFrames] [.spiErr, .spiBusy, .dSlots, .dqAt] s t) ∧
    (∀ (c : Plain), plainOk s c (Obj.collieCheckin) = true → c.data.length = 1 → ofLeBytes c.data ≤ 15 → collieSt s ≠ 0 → collieSt s
        ≠ 4 → s.bit Obj.collieChecked (ofLeBytes c.data) = false → Completes (.collieCheckin c) s fun t =>
      answered t (plainReq c (Obj.collieCheckin)) .ok = true ∧
      t.bit Obj.collieChecked (ofLeBytes c.data) = true ∧
      RegsWithin [Obj.uartFrames, Obj.collieChecked] [Obj.canRx, Obj.canTx, Obj.spiFrames] [.spiErr, .spiBusy, .dSlots, .dqAt] s t) ∧
    (∀ (c : Plain), plainOk s c (Obj.collieCheckin) = true → c.data.length = 1 → ofLeBytes c.data ≤ 15 → collieSt s ≠ 0 → collieSt s
        ≠ 4 → s.bit Obj.collieChecked (ofLeBytes c.data) = true → Completes (.collieCheckin c) s fun t =>
      answered t (plainReq c (Obj.collieCheckin)) .ok = true ∧
      t.o Obj.collieAnomalies = (s.bump Obj.collieAnomalies).o Obj.collieAnomalies ∧
      t.arrived = s.arrived ++ [⟨240, 3, u8 (ofLeBytes c.data) ++ u16 (s.o Obj.collieCount) ++ u16 (s.o Obj.collieChecked), false⟩] ∧
      RegsWithin [Obj.uartFrames, Obj.collieAnomalies] [Obj.canRx, Obj.canTx, Obj.spiFrames] [.spiErr, .spiBusy, .dSlots, .dqAt] s t) ∧
    (∀ (c : Plain), plainOk s c (Obj.collieHostbusy) = true → c.data = [1] → collieSt s = 2 → Completes (.hostbusySet c) s fun t =>
      answered t (plainReq c (Obj.collieHostbusy)) .ok = true ∧
      collieSt t = 3 ∧
      t.o Obj.collieHostbusy = 1 ∧
      t.varN .collieBusyT = s.nowRound + s.oN Obj.collieBusyMax + 1 ∧
      t.varN .collieBusyAt = s.nowRound ∧
      t.posts = s.posts ++ [107] ∧
      RegsWithin [Obj.uartFrames, Obj.collieState, Obj.collieHostbusy] [Obj.canRx, Obj.canTx, Obj.spiFrames] [.spiErr, .spiBusy,
        .dSlots, .dqAt, .collieHit, .collieBusyT, .collieBusyAt] s t) ∧
    (∀ (c : Plain), plainOk s c (Obj.collieHostbusy) = true → c.data = [1] → collieSt s ≠ 2 → collieSt s ≠ 3 → Completes
        (.hostbusySet c) s fun t =>
      answered t (plainReq c (Obj.collieHostbusy)) .stateForbids = true ∧
      RegsWithin [Obj.uartFrames] [Obj.canRx, Obj.canTx, Obj.spiFrames] [.spiErr, .spiBusy, .dSlots, .dqAt] s t) ∧
    (∀ (c : Plain), plainOk s c (Obj.collieHostbusy) = true → c.data = [0] → collieSt s = 3 → Completes (.hostbusyClear c) s fun t
        =>
      answered t (plainReq c (Obj.collieHostbusy)) .ok = true ∧
      collieSt t = 1 ∧
      t.o Obj.collieHostbusy = 0 ∧
      t.var .collieBusyT = 0 ∧
      t.posts = s.posts ++ [107] ∧
      RegsWithin [Obj.uartFrames, Obj.collieState, Obj.collieHostbusy] [Obj.canRx, Obj.canTx, Obj.spiFrames] [.spiErr, .spiBusy,
        .dSlots, .dqAt, .collieHit, .collieBusyT] s t) ∧
    (∀ (tid i : Nat), freeFor s (readReq 0 tid Obj.irqClaimA) = true → lowestFor s 0 = some i → Completes (.claimRead false 0 tid) s
        fun t =>
      t.varB .irqPend i = false ∧
      t.varB .irqClaimed i = true ∧
      t.o Obj.irqLastA = ((i : Nat) : Int) ∧
      t.o Obj.irqClaims = (s.bump Obj.irqClaims).o Obj.irqClaims ∧
      (portOf t 0).resp = some (respOf (readReq 0 tid Obj.irqClaimA) .ok (u8 i)) ∧
      (∀ j < 128, j ≠ i → t.var .irqPend j = s.var .irqPend j) ∧
      RegsWithin [Obj.irqLastA, Obj.irqClaims, Obj.spiFrames 0] [] [.irqPend, .irqClaimed, .holdT, .spiErr, .spiBusy, .dSlots,
        .dqAt] s t) ∧
    (∀ (tid : Nat), freeFor s (readReq 1 tid Obj.irqClaimB) = true → lowestFor s 1 = none → Completes (.claimRead true 1 tid) s fun
        t =>
      t.o Obj.irqLastB = 0xFF ∧
      (portOf t 1).resp = some (respOf (readReq 1 tid Obj.irqClaimB) .ok [0xFF]) ∧
      RegsWithin [Obj.irqLastB, Obj.irqSpurious 1, Obj.spiFrames 1] [] [.spiErr, .spiBusy, .dSlots, .dqAt] s t) ∧
    (∀ (b : Bool) (port tid : Nat), freeFor s (readReq port tid (if b then Obj.irqClaimB else Obj.irqClaimA)) = true → port ≠ (if b
        then 1 else 0) → Completes (.claimRead b port tid) s fun t =>
      answered t (readReq port tid (if b then Obj.irqClaimB else Obj.irqClaimA)) .denied = true ∧
      RegsWithin [Obj.uartFrames] [Obj.canRx, Obj.canTx, Obj.spiFrames] [.spiErr, .spiBusy, .dSlots, .dqAt] s t) ∧
    (∀ (c : Plain), freeFor s { plainReq c Obj.irqClear with opcode := 5 } = true → c.data.length = 16 → Completes (.irqClear c) s
        fun t =>
      answered t { plainReq c Obj.irqClear with opcode := 5 } .ok = true ∧
      (∀ i < 128, t.varB .irqPend i = (s.varB .irqPend i && !(ofLeBytes c.data).testBit i)) ∧
      RegsWithin [Obj.uartFrames] [Obj.canRx, Obj.canTx, Obj.spiFrames] [.irqPend, .spiErr, .spiBusy, .dSlots, .dqAt] s t)

/-- Keyed commands of modes, pools, wear accounts, paddocks and reactions. The counter of the command becomes the last one of its
slot. Says that these complete: sysSafeRelease, sysReboot, sysShip, poolRestore, wearReset, paddockOffCmd, paddockReleaseCmd,
reactionWrite. -/
def Obligations.KeyedModeAndPoolWrites : Prop :=
  ∀ s : State,
    (∀ (c : Keyed), keyedOk s c (Obj.sysSafeRelease) = true → c.data = [1] → s.mode = .safe → s.mainOn = true → dieLatched s = false
        → Completes (.sysSafeRelease c) s fun t =>
      answered t (keyedReq c (Obj.sysSafeRelease)) .ok = true ∧
      t.oN (Obj.keyLast c.slot) = c.counter ∧
      t.var .modeReq 3 = 0x0B ∧
      RegsWithin [Obj.uartFrames, Obj.jobState 3, Obj.jobStarted 3, Obj.jobStepsDone 3, Obj.jobStepsTotal 3, Obj.nvmBufLines,
        Obj.nvmState, Obj.keyOwned, Obj.nvmCorrected, Obj.nvmUncorr, Obj.nvmLastBad, Obj.ledgerStatus] [Obj.canRx, Obj.canTx,
        Obj.spiFrames, Obj.keyLast, Obj.keyState] [.spiErr, .spiBusy, .dSlots, .dqAt, .hwmWarn, .commitReq, .commitReqRound,
        .modeReq, .ledLost] s t) ∧
    (∀ (c : Keyed), keyedOk s c (Obj.sysSafeRelease) = true → c.data = [1] → s.mode ≠ .safe ∨ s.mainOn = false ∨ dieLatched s = true
        → Completes (.sysSafeRelease c) s fun t =>
      answered t (keyedReq c (Obj.sysSafeRelease)) .stateForbids = true ∧
      t.oN (Obj.keyLast c.slot) = c.counter ∧
      RegsWithin [Obj.uartFrames, Obj.jobState 3, Obj.jobStarted 3, Obj.jobStepsDone 3, Obj.jobStepsTotal 3, Obj.nvmBufLines,
        Obj.nvmState, Obj.keyOwned, Obj.nvmCorrected, Obj.nvmUncorr, Obj.nvmLastBad, Obj.ledgerStatus] [Obj.canRx, Obj.canTx,
        Obj.spiFrames, Obj.keyLast, Obj.keyState] [.spiErr, .spiBusy, .dSlots, .dqAt, .hwmWarn, .commitReq, .commitReqRound,
        .ledLost] s t) ∧
    (∀ (c : Keyed), keyedOk s c (Obj.sysReboot) = true → c.data = [1] → s.mode = .setup ∨ s.mode = .run ∨ s.mode = .safe ∨ s.mode =
        .bench → dieLatched s = false → Completes (.sysReboot c) s fun t =>
      answered t (keyedReq c (Obj.sysReboot)) .ok = true ∧
      t.oN (Obj.keyLast c.slot) = c.counter ∧
      t.var .modeReq 2 = 4 ∧
      RegsWithin [Obj.uartFrames, Obj.jobState 3, Obj.jobStarted 3, Obj.jobStepsDone 3, Obj.jobStepsTotal 3, Obj.nvmBufLines,
        Obj.nvmState, Obj.keyOwned, Obj.nvmCorrected, Obj.nvmUncorr, Obj.nvmLastBad, Obj.ledgerStatus] [Obj.canRx, Obj.canTx,
        Obj.spiFrames, Obj.keyLast, Obj.keyState] [.spiErr, .spiBusy, .dSlots, .dqAt, .hwmWarn, .commitReq, .commitReqRound,
        .modeReq, .ledLost] s t) ∧
    (∀ (c : Keyed), keyedOk s c (Obj.sysShip) = true → c.data = [1] → s.mode = .setup ∨ s.mode = .bench → Completes (.sysShip c) s
        fun t =>
      answered t (keyedReq c (Obj.sysShip)) .ok = true ∧
      t.oN (Obj.keyLast c.slot) = c.counter ∧
      t.varB .shelfArmed = true ∧
      RegsWithin [Obj.uartFrames, Obj.jobState 3, Obj.jobStarted 3, Obj.jobStepsDone 3, Obj.jobStepsTotal 3, Obj.nvmBufLines,
        Obj.nvmState, Obj.keyOwned, Obj.nvmCorrected, Obj.nvmUncorr, Obj.nvmLastBad, Obj.ledgerStatus] [Obj.canRx, Obj.canTx,
        Obj.spiFrames, Obj.keyLast, Obj.keyState] [.spiErr, .spiBusy, .dSlots, .dqAt, .hwmWarn, .commitReq, .commitReqRound,
        .shelfArmed, .ledLost] s t) ∧
    (∀ (c : Keyed), keyedOk s c (Obj.sysShip) = true → c.data = [0] → s.mode = .setup ∨ s.mode = .bench → Completes (.sysShip c) s
        fun t =>
      answered t (keyedReq c (Obj.sysShip)) .ok = true ∧
      t.oN (Obj.keyLast c.slot) = c.counter ∧
      t.varB .shelfArmed = false ∧
      RegsWithin [Obj.uartFrames, Obj.jobState 3, Obj.jobStarted 3, Obj.jobStepsDone 3, Obj.jobStepsTotal 3, Obj.nvmBufLines,
        Obj.nvmState, Obj.keyOwned, Obj.nvmCorrected, Obj.nvmUncorr, Obj.nvmLastBad, Obj.ledgerStatus] [Obj.canRx, Obj.canTx,
        Obj.spiFrames, Obj.keyLast, Obj.keyState] [.spiErr, .spiBusy, .dSlots, .dqAt, .hwmWarn, .commitReq, .commitReqRound,
        .shelfArmed, .ledLost] s t) ∧
    (∀ (m n : Nat) (c : Keyed), keyedOk s c (Obj.poolRestore m) = true → m < 12 → c.data.length = 1 → ofLeBytes c.data = n →
        phaseExists s n = true → (listOf s m).contains n = true → railState s m = RS.off ∨ railState s m = RS.failed → phaseFailed s
        n = true → s.o (Obj.srcUncleared n) = 0 → Completes (.poolRestore m c) s fun t =>
      answered t (keyedReq c (Obj.poolRestore m)) .ok = true ∧
      t.oN (Obj.keyLast c.slot) = c.counter ∧
      t.oN (Obj.phaseState n) = PS.off ∧
      t.o (Obj.wearFailCause n) = 0 ∧
      t.bit (Obj.wearStatus n) 0 = false ∧
      t.varB .senseMark n = false ∧
      t.arrived.take s.arrived.length = s.arrived ∧
      (t.arrived.drop s.arrived.length).filter (fun e => decide (e.src ≠ 234)) =
        [⟨n, 0xE, u8 n ++ u8 m ++ u8 (s.o (Obj.wearFailCause n)) ++ u8 (State.ofBool (declaredSpare s m n)), false⟩] ∧
      RegsWithin [Obj.uartFrames, Obj.jobState 3, Obj.jobStarted 3, Obj.jobStepsDone 3, Obj.jobStepsTotal 3, Obj.nvmBufLines,
        Obj.nvmState, Obj.keyOwned, Obj.teamJournal, Obj.teamDqDepth, Obj.teamDqMax, Obj.phaseState n, Obj.wearFailCause n,
        Obj.wearStatus n, Obj.poolSparesFree m, Obj.poolNh m, Obj.nvmCorrected, Obj.nvmUncorr, Obj.nvmLastBad, Obj.ledgerStatus]
        [Obj.canRx, Obj.canTx, Obj.spiFrames, Obj.keyLast, Obj.keyState] [.spiErr, .spiBusy, .dSlots, .dqAt, .hwmWarn, .commitReq,
        .commitReqRound, .senseMark, .wearSoon, .ledLost] s t) ∧
    (∀ (n : Nat) (c : Keyed), keyedOk s c (Obj.wearReset n) = true → c.data = [1] → phaseExists s n = true → s.oN (Obj.phaseState n)
        ≠ PS.switching → Completes (.wearReset n c) s fun t =>
      answered t (keyedReq c (Obj.wearReset n)) .ok = true ∧
      t.oN (Obj.keyLast c.slot) = c.counter ∧
      t.o (Obj.wearAmpsec n) = 0 ∧ t.o (Obj.wearOnSec n) = 0 ∧ t.o (Obj.wearScore n) = 0 ∧
      t.oN (Obj.wearStatus n) = s.oN (Obj.wearStatus n) &&& 0x11 ∧
      t.o (Obj.wearFailCause n) = s.o (Obj.wearFailCause n) ∧
      t.hist .hW n = [] ∧
      t.arrived.take s.arrived.length = s.arrived ∧
      (t.arrived.drop s.arrived.length).filter (fun e => decide (e.src ≠ 234)) =
        [⟨n, 0xF, u8 n ++ u8 0 ++ u16 (s.o (Obj.wearScore n)) ++ u32 (divNearest (s.o (Obj.wearOnSec n)) 3600), false⟩]) ∧
    (∀ (p : Nat) (c : Keyed), keyedOk s c (Obj.padCmd p) = true → c.data = [1] → p < 8 → Completes (.paddockOffCmd p c) s fun t =>
      answered t (keyedReq c (Obj.padCmd p)) .ok = true ∧
      t.oN (Obj.keyLast c.slot) = c.counter ∧
      t.due = s.due ++ [.paddockCmd p] ∧
      (paddockOff p 4 0xFF none 0xFF t).oN (Obj.padState p) = 1) ∧
    (∀ (p : Nat) (c : Keyed), keyedOk s c (Obj.padCmd p) = true → c.data = [2] → p < 8 → s.oN (Obj.padState p) = 1 → pdisFree s p =
        true → Completes (.paddockReleaseCmd p c) s fun t =>
      answered t (keyedReq c (Obj.padCmd p)) .ok = true ∧
      t.oN (Obj.keyLast c.slot) = c.counter ∧
      t.o (Obj.padState p) = 0 ∧ t.o (Obj.padCause p) = 0 ∧
      (∀ x < 256, t.varB .pdisSrc p x = false) ∧
      RegsWithin [Obj.uartFrames, Obj.jobState 3, Obj.jobStarted 3, Obj.jobStepsDone 3, Obj.jobStepsTotal 3, Obj.nvmBufLines,
        Obj.nvmState, Obj.keyOwned, Obj.teamJournal, Obj.teamDqDepth, Obj.teamDqMax, Obj.padState p, Obj.padCause p,
        Obj.nvmCorrected, Obj.nvmUncorr, Obj.nvmLastBad, Obj.ledgerStatus] [Obj.canRx, Obj.canTx, Obj.spiFrames, Obj.keyLast,
        Obj.keyState] [.spiErr, .spiBusy, .dSlots, .dqAt, .hwmWarn, .commitReq, .commitReqRound, .pdisT, .pdisSrc, .ledLost] s t) ∧
    (∀ (p : Nat) (c : Keyed), keyedOk s c (Obj.padCmd p) = true → c.data = [2] → p < 8 → s.oN (Obj.padState p) = 1 → pdisFree s p =
        false → Completes (.paddockReleaseCmd p c) s fun t =>
      answered t (keyedReq c (Obj.padCmd p)) .stateForbids = true ∧
      t.oN (Obj.keyLast c.slot) = c.counter ∧
      RegsWithin [Obj.uartFrames, Obj.jobState 3, Obj.jobStarted 3, Obj.jobStepsDone 3, Obj.jobStepsTotal 3, Obj.nvmBufLines,
        Obj.nvmState, Obj.keyOwned, Obj.nvmCorrected, Obj.nvmUncorr, Obj.nvmLastBad, Obj.ledgerStatus] [Obj.canRx, Obj.canTx,
        Obj.spiFrames, Obj.keyLast, Obj.keyState] [.spiErr, .spiBusy, .dSlots, .dqAt, .hwmWarn, .commitReq, .commitReqRound,
        .ledLost] s t) ∧
    (∀ (src sub : Nat) (r : Row) (v : Int) (c : Keyed), keyedOk s c (objKey (0x2400 + src) sub) = true → src < 256 → sub < 256 →
        objRow s (0x2400 + src) sub = some r → r.access = .rwk → c.data.length = r.ty.size → decodeVal r.ty c.data = v → inRange s r
        v = true → withoutReserved s (objKey (0x2400 + src) sub) v = v → writeCheck (objKey (0x2400 + src) sub) ((newestState
        s).setO (objKey (0x2400 + src) sub) v) = true → Completes (.reactionWrite src sub c) s fun t =>
      answered t (keyedReq c (objKey (0x2400 + src) sub)) .ok = true ∧
      t.oN (Obj.keyLast c.slot) = c.counter ∧
      newestOf t (objKey (0x2400 + src) sub) = v ∧
      t.o (objKey (0x2400 + src) sub) = s.o (objKey (0x2400 + src) sub) ∧
      t.offers = s.offers ++ (if isReaction (objKey (0x2400 + src) sub) then
        [⟨0x0406, u8 src ++ u8 sub ++ u16 (newestOf s (objKey (0x2400 + src) sub)) ++ u16 v ++ u8 c.port, false⟩] else []) ∧
      RegsWithin [Obj.uartFrames, Obj.jobState 3, Obj.jobStarted 3, Obj.jobStepsDone 3, Obj.jobStepsTotal 3, Obj.nvmBufLines,
        Obj.nvmState, Obj.keyOwned, Obj.teamJournal, Obj.teamDqDepth, Obj.teamDqMax, Obj.nvmCorrected, Obj.nvmUncorr,
        Obj.nvmLastBad, Obj.ledgerStatus] [Obj.canRx, Obj.canTx, Obj.spiFrames, Obj.keyLast, Obj.keyState] [.spiErr, .spiBusy,
        .dSlots, .dqAt, .hwmWarn, .commitReq, .commitReqRound, .ledLost] s t)

/-- Keyed commands of the team, the main input, the thermal scale and the service port. The counter of the command becomes the last
one of its slot. From which states hs.cmd 0x02 leads to off (log entry 47), that hs.cmd is rejected while the controller does not
operate (log entry 99), which exit of one frame goes first (log entry 105), and the points that no rule settles (log entry 114), are
the model's choice. Says that these complete: teamSwap, teamRelease, teamAdmit, hsCmdOn, hsCmdOff, scaleMaskWrite, benchEnWrite. -/
def Obligations.KeyedTeamAndInputWrites : Prop :=
  ∀ s : State,
    (∀ (v : Nat) (c : Keyed), keyedOk s c (Obj.teamSwap) = true → c.data.length = 1 → ofLeBytes c.data = v → v < 2 → teamed s = true
        → s.oN Obj.teamTwinRole = Role.standby ∨ s.oN Obj.teamTwinRole = Role.active → holder s = true → v ≠ s.oN Obj.teamPosition →
        Completes (.teamSwap c) s fun t =>
      answered t (keyedReq c (Obj.teamSwap)) .ok = true ∧
      t.oN (Obj.keyLast c.slot) = c.counter ∧
      t.var .swapOn = 3 ∧
      t.varN .swapTo = v + 1 ∧
      t.varN .swapAt = s.now ∧
      RegsWithin [Obj.uartFrames, Obj.jobState 3, Obj.jobStarted 3, Obj.jobStepsDone 3, Obj.jobStepsTotal 3, Obj.nvmBufLines,
        Obj.nvmState, Obj.keyOwned, Obj.teamJournal, Obj.teamDqDepth, Obj.teamDqMax, Obj.nvmCorrected, Obj.nvmUncorr,
        Obj.nvmLastBad, Obj.ledgerStatus] [Obj.canRx, Obj.canTx, Obj.spiFrames, Obj.keyLast, Obj.keyState] [.spiErr, .spiBusy,
        .dSlots, .dqAt, .hwmWarn, .commitReq, .commitReqRound, .swapOn, .swapReq, .swapAt, .swapTo, .ledLost] s t) ∧
    (∀ (c : Keyed), keyedOk s c (Obj.teamSwap) = true → c.data.length = 1 → ofLeBytes c.data < 2 → teamed s = false → Completes
        (.teamSwap c) s fun t =>
      answered t (keyedReq c (Obj.teamSwap)) .stateForbids = true ∧
      t.oN (Obj.keyLast c.slot) = c.counter ∧
      RegsWithin [Obj.uartFrames, Obj.jobState 3, Obj.jobStarted 3, Obj.jobStepsDone 3, Obj.jobStepsTotal 3, Obj.nvmBufLines,
        Obj.nvmState, Obj.keyOwned, Obj.nvmCorrected, Obj.nvmUncorr, Obj.nvmLastBad, Obj.ledgerStatus] [Obj.canRx, Obj.canTx,
        Obj.spiFrames, Obj.keyLast, Obj.keyState] [.spiErr, .spiBusy, .dSlots, .dqAt, .hwmWarn, .commitReq, .commitReqRound,
        .ledLost] s t) ∧
    (∀ (c : Keyed), keyedOk s c (Obj.teamRelease) = true → c.data = [1] → role s = Role.standby → Completes (.teamRelease c) s fun t
        =>
      answered t (keyedReq c (Obj.teamRelease)) .ok = true ∧
      t.oN (Obj.keyLast c.slot) = c.counter ∧
      t.varB .releaseDue = true ∧
      role t = Role.standby ∧
      role (teamTick t) = Role.out ∧ (teamTick t).o Obj.teamLastCause = 8 ∧
      RegsWithin [Obj.uartFrames, Obj.jobState 3, Obj.jobStarted 3, Obj.jobStepsDone 3, Obj.jobStepsTotal 3, Obj.nvmBufLines,
        Obj.nvmState, Obj.keyOwned, Obj.teamJournal, Obj.teamDqDepth, Obj.teamDqMax, Obj.teamRole, Obj.teamLastCause,
        Obj.teamLastTime, Obj.nvmCorrected, Obj.nvmUncorr, Obj.nvmLastBad, Obj.ledgerStatus] [Obj.canRx, Obj.canTx, Obj.spiFrames,
        Obj.keyLast, Obj.keyState] [.spiErr, .spiBusy, .dSlots, .dqAt, .hwmWarn, .commitReq, .commitReqRound, .swapOn, .swapReq,
        .yieldOn, .admReq, .reinPend, .xfer, .releaseDue, .ledLost] s t) ∧
    (∀ (c : Keyed), keyedOk s c (Obj.teamRelease) = true → c.data = [1] → role s = Role.active → Completes (.teamRelease c) s fun t
        =>
      answered t (keyedReq c (Obj.teamRelease)) .ok = true ∧
      t.oN (Obj.keyLast c.slot) = c.counter ∧
      t.var .swapOn = 6 ∧
      t.varN .swapReq = 2 - position s ∧
      t.varN .swapAt = s.now ∧
      t.varN .swapTo = 2 - position s ∧
      RegsWithin [Obj.uartFrames, Obj.jobState 3, Obj.jobStarted 3, Obj.jobStepsDone 3, Obj.jobStepsTotal 3, Obj.nvmBufLines,
        Obj.nvmState, Obj.keyOwned, Obj.teamJournal, Obj.teamDqDepth, Obj.teamDqMax, Obj.nvmCorrected, Obj.nvmUncorr,
        Obj.nvmLastBad, Obj.ledgerStatus] [Obj.canRx, Obj.canTx, Obj.spiFrames, Obj.keyLast, Obj.keyState] [.spiErr, .spiBusy,
        .dSlots, .dqAt, .hwmWarn, .commitReq, .commitReqRound, .swapOn, .swapReq, .swapAt, .swapTo, .ledLost] s t) ∧
    (∀ (c : Keyed), keyedOk s c (Obj.teamRelease) = true → c.data = [1] → role s ≠ Role.active → role s ≠ Role.standby → Completes
        (.teamRelease c) s fun t =>
      answered t (keyedReq c (Obj.teamRelease)) .stateForbids = true ∧
      t.oN (Obj.keyLast c.slot) = c.counter ∧
      RegsWithin [Obj.uartFrames, Obj.jobState 3, Obj.jobStarted 3, Obj.jobStepsDone 3, Obj.jobStepsTotal 3, Obj.nvmBufLines,
        Obj.nvmState, Obj.keyOwned, Obj.nvmCorrected, Obj.nvmUncorr, Obj.nvmLastBad, Obj.ledgerStatus] [Obj.canRx, Obj.canTx,
        Obj.spiFrames, Obj.keyLast, Obj.keyState] [.spiErr, .spiBusy, .dSlots, .dqAt, .hwmWarn, .commitReq, .commitReqRound,
        .ledLost] s t) ∧
    (∀ (c : Keyed), keyedOk s c (Obj.teamAdmit) = true → c.data = [1] → Completes (.teamAdmit c) s fun t =>
      answered t (keyedReq c (Obj.teamAdmit)) .ok = true ∧
      t.oN (Obj.keyLast c.slot) = c.counter ∧
      t.varB .readmitOk = true ∧
      t.var .readmitT = 0 ∧
      RegsWithin [Obj.uartFrames, Obj.jobState 3, Obj.jobStarted 3, Obj.jobStepsDone 3, Obj.jobStepsTotal 3, Obj.nvmBufLines,
        Obj.nvmState, Obj.keyOwned, Obj.teamJournal, Obj.teamDqDepth, Obj.teamDqMax, Obj.nvmCorrected, Obj.nvmUncorr,
        Obj.nvmLastBad, Obj.ledgerStatus] [Obj.canRx, Obj.canTx, Obj.spiFrames, Obj.keyLast, Obj.keyState] [.spiErr, .spiBusy,
        .dSlots, .dqAt, .hwmWarn, .commitReq, .commitReqRound, .readmitOk, .readmitT, .ledLost] s t) ∧
    (∀ (c : Keyed), keyedOk s c (Obj.hsCmd) = true → c.data = [1] → s.varB .hsActive = true → hsSt s = HS.off → s.varB .hsGoto =
        false → hsMayStart s = true → Completes (.hsCmdOn c) s fun t =>
      answered t (keyedReq c (Obj.hsCmd)) .ok = true ∧
      t.oN (Obj.keyLast c.slot) = c.counter ∧
      hsNextSt t = HS.inrush ∧
      hsSt (hsEnter (t.bit Obj.hsFlags 0 && t.bit Obj.hsFlags 1) t) = HS.inrush ∧
      hsSt t = hsSt s ∧
      RegsWithin [Obj.uartFrames, Obj.jobState 3, Obj.jobStarted 3, Obj.jobStepsDone 3, Obj.jobStepsTotal 3, Obj.nvmBufLines,
        Obj.nvmState, Obj.keyOwned, Obj.nvmCorrected, Obj.nvmUncorr, Obj.nvmLastBad, Obj.ledgerStatus] [Obj.canRx, Obj.canTx,
        Obj.spiFrames, Obj.keyLast, Obj.keyState] [.spiErr, .spiBusy, .dSlots, .dqAt, .hwmWarn, .commitReq, .commitReqRound,
        .hsGoto, .ledLost] s t) ∧
    (∀ (c : Keyed), keyedOk s c (Obj.hsCmd) = true → c.data = [1] → s.varB .hsActive = true → hsSt s = HS.off → hsMayStart s = false
        → Completes (.hsCmdOn c) s fun t =>
      answered t (keyedReq c (Obj.hsCmd)) .ok = true ∧
      t.oN (Obj.keyLast c.slot) = c.counter ∧
      t.varB .hsAsk = true ∧
      hsSt t = hsSt s ∧
      RegsWithin [Obj.uartFrames, Obj.jobState 3, Obj.jobStarted 3, Obj.jobStepsDone 3, Obj.jobStepsTotal 3, Obj.nvmBufLines,
        Obj.nvmState, Obj.keyOwned, Obj.nvmCorrected, Obj.nvmUncorr, Obj.nvmLastBad, Obj.ledgerStatus] [Obj.canRx, Obj.canTx,
        Obj.spiFrames, Obj.keyLast, Obj.keyState] [.spiErr, .spiBusy, .dSlots, .dqAt, .hwmWarn, .commitReq, .commitReqRound, .hsAsk,
        .ledLost] s t) ∧
    (∀ (c : Keyed), keyedOk s c (Obj.hsCmd) = true → c.data = [1] → s.varB .hsActive = false → Completes (.hsCmdOn c) s fun t =>
      answered t (keyedReq c (Obj.hsCmd)) .stateForbids = true ∧
      t.oN (Obj.keyLast c.slot) = c.counter ∧
      RegsWithin [Obj.uartFrames, Obj.jobState 3, Obj.jobStarted 3, Obj.jobStepsDone 3, Obj.jobStepsTotal 3, Obj.nvmBufLines,
        Obj.nvmState, Obj.keyOwned, Obj.nvmCorrected, Obj.nvmUncorr, Obj.nvmLastBad, Obj.ledgerStatus] [Obj.canRx, Obj.canTx,
        Obj.spiFrames, Obj.keyLast, Obj.keyState] [.spiErr, .spiBusy, .dSlots, .dqAt, .hwmWarn, .commitReq, .commitReqRound,
        .ledLost] s t) ∧
    (∀ (c : Keyed), keyedOk s c (Obj.hsCmd) = true → c.data = [2] → s.varB .hsGoto = false → hsSt s = HS.inrush ∨ hsSt s = HS.on ∨
        hsSt s = HS.ready ∨ hsSt s = HS.cooldown ∨ hsSt s = HS.latched → Completes (.hsCmdOff c) s fun t =>
      answered t (keyedReq c (Obj.hsCmd)) .ok = true ∧
      t.oN (Obj.keyLast c.slot) = c.counter ∧
      hsNextSt t = HS.off ∧
      hsSt (hsEnter (t.bit Obj.hsFlags 0 && t.bit Obj.hsFlags 1) t) = HS.off ∧
      hsSt t = hsSt s ∧
      t.o Obj.hsLastCause = 8 ∧
      RegsWithin [Obj.uartFrames, Obj.jobState 3, Obj.jobStarted 3, Obj.jobStepsDone 3, Obj.jobStepsTotal 3, Obj.nvmBufLines,
        Obj.nvmState, Obj.keyOwned, Obj.hsLastCause, Obj.nvmCorrected, Obj.nvmUncorr, Obj.nvmLastBad, Obj.ledgerStatus] [Obj.canRx,
        Obj.canTx, Obj.spiFrames, Obj.keyLast, Obj.keyState] [.spiErr, .spiBusy, .dSlots, .dqAt, .hwmWarn, .commitReq,
        .commitReqRound, .hsGoto, .ledLost] s t) ∧
    (∀ (c : Keyed), keyedOk s c (Obj.thScaleMask) = true → c.data.length = 4 → (∀ r, objRow s (keyIndex Obj.thScaleMask) (keySub
        Obj.thScaleMask) = some r → inRange s r ((ofLeBytes c.data : Nat) : Int) = true) → withoutReserved s Obj.thScaleMask
        ((ofLeBytes c.data : Nat) : Int) = ((ofLeBytes c.data : Nat) : Int) → writeCheck Obj.thScaleMask ((newestState s).setO
        Obj.thScaleMask ((ofLeBytes c.data : Nat) : Int)) = true → Completes (.scaleMaskWrite c) s fun t =>
      answered t (keyedReq c (Obj.thScaleMask)) .ok = true ∧
      t.oN (Obj.keyLast c.slot) = c.counter ∧
      newestOf t Obj.thScaleMask = ((ofLeBytes c.data : Nat) : Int) ∧
      t.o Obj.thScaleMask = s.o Obj.thScaleMask ∧
      RegsWithin [Obj.uartFrames, Obj.jobState 3, Obj.jobStarted 3, Obj.jobStepsDone 3, Obj.jobStepsTotal 3, Obj.nvmBufLines,
        Obj.nvmState, Obj.keyOwned, Obj.nvmCorrected, Obj.nvmUncorr, Obj.nvmLastBad, Obj.ledgerStatus] [Obj.canRx, Obj.canTx,
        Obj.spiFrames, Obj.keyLast, Obj.keyState] [.spiErr, .spiBusy, .dSlots, .dqAt, .hwmWarn, .commitReq, .commitReqRound,
        .ledLost] s t) ∧
    (∀ (c : Keyed), keyedOk s c (Obj.portBenchEn) = true → c.data = [1] → Completes (.benchEnWrite c) s fun t =>
      answered t (keyedReq c (Obj.portBenchEn)) .ok = true ∧
      t.oN (Obj.keyLast c.slot) = c.counter ∧
      t.o Obj.portBenchEn = 1 ∧
      RegsWithin [Obj.uartFrames, Obj.jobState 3, Obj.jobStarted 3, Obj.jobStepsDone 3, Obj.jobStepsTotal 3, Obj.nvmBufLines,
        Obj.nvmState, Obj.keyOwned, Obj.portBenchEn, Obj.nvmCorrected, Obj.nvmUncorr, Obj.nvmLastBad, Obj.ledgerStatus] [Obj.canRx,
        Obj.canTx, Obj.spiFrames, Obj.keyLast, Obj.keyState] [.spiErr, .spiBusy, .dSlots, .dqAt, .hwmWarn, .commitReq,
        .commitReqRound, .ledLost] s t) ∧
    (∀ (c : Keyed), keyedOk s c (Obj.portBenchEn) = true → c.data = [0] → s.bit Obj.portFlags 4 = true → c.port ≠ 4 → Completes
        (.benchEnWrite c) s fun t =>
      t.oN (Obj.keyLast c.slot) = c.counter ∧
      t.o Obj.portBenchEn = 0 ∧
      t.bit Obj.portFlags 4 = false ∧
      t.posts = s.posts ++ [77] ∧
      RegsWithin [Obj.uartFrames, Obj.jobState 3, Obj.jobStarted 3, Obj.jobStepsDone 3, Obj.jobStepsTotal 3, Obj.nvmBufLines,
        Obj.nvmState, Obj.keyOwned, Obj.portBenchEn, Obj.portFlags, Obj.nvmCorrected, Obj.nvmUncorr, Obj.nvmLastBad,
        Obj.ledgerStatus] [Obj.canRx, Obj.canTx, Obj.spiFrames, Obj.keyLast, Obj.keyState] [.spiErr, .spiBusy, .dSlots, .dqAt,
        .hwmWarn, .commitReq, .commitReqRound, .ledLost] s t) ∧
    (∀ (c : Keyed), keyedOk s c (Obj.portBenchEn) = true → c.data = [0] → s.bit Obj.portFlags 4 = true → c.port = 4 → Completes
        (.benchEnWrite c) s fun t =>
      portOf t 4 = PortState.idle ∧
      t.oN (Obj.keyLast c.slot) = c.counter ∧
      t.o Obj.portBenchEn = 0 ∧
      t.bit Obj.portFlags 4 = false ∧
      t.posts = s.posts ++ [77] ∧
      RegsWithin [Obj.uartFrames, Obj.jobState 3, Obj.jobStarted 3, Obj.jobStepsDone 3, Obj.jobStepsTotal 3, Obj.nvmBufLines,
        Obj.nvmState, Obj.keyOwned, Obj.portBenchEn, Obj.portFlags, Obj.nvmCorrected, Obj.nvmUncorr, Obj.nvmLastBad,
        Obj.ledgerStatus] [Obj.canRx, Obj.canTx, Obj.spiFrames, Obj.keyLast, Obj.keyState] [.spiErr, .spiBusy, .dSlots, .dqAt,
        .hwmWarn, .commitReq, .commitReqRound, .ledLost] s t)

/-- Keyed commands of the stores and of security. Says that these complete: fsoClear, otpProgCmd, collieEn, keyRevoke, keyRelease,
imgOpen, imgValidate, imgCancel, imgActivate, budgetGrantWrite, bscanEn. -/
def Obligations.KeyedStoreWrites : Prop :=
  ∀ s : State,
    (∀ (c : Keyed), keyedOk s c (Obj.rtcFsoClear) = true → c.data = [1] → Completes (.fsoClear c) s fun t =>
      answered t (keyedReq c (Obj.rtcFsoClear)) .ok = true ∧
      t.oN (Obj.keyLast c.slot) = c.counter ∧
      t.o Obj.rtcFso = 0 ∧ t.o Obj.rtcFsoPc = 0 ∧
      t.bit Obj.rtcStatus 4 = false ∧ t.bit Obj.rtcStatus 5 = false ∧
      RegsWithin [Obj.uartFrames, Obj.jobState 3, Obj.jobStarted 3, Obj.jobStepsDone 3, Obj.jobStepsTotal 3, Obj.nvmBufLines,
        Obj.nvmState, Obj.keyOwned, Obj.rtcFso, Obj.rtcFsoPc, Obj.rtcStatus, Obj.nvmCorrected, Obj.nvmUncorr, Obj.nvmLastBad,
        Obj.ledgerStatus] [Obj.canRx, Obj.canTx, Obj.spiFrames, Obj.keyLast, Obj.keyState] [.spiErr, .spiBusy, .dSlots, .dqAt,
        .hwmWarn, .commitReq, .commitReqRound, .ledLost] s t) ∧
    (∀ (c : Keyed), keyedOk s c (Obj.otpProgCmd) = true → c.data = [1] → otpConditions s = true → s.oN Obj.otpProgWord = 34 ∨ (128 ≤
        s.oN Obj.otpProgWord ∧ s.oN Obj.otpProgWord ≤ 255) → otpMarginal s (s.oN Obj.otpProgWord) = false → otpWordAt s (s.oN
        Obj.otpProgWord) = 0 → s.varB .otpBusy = false → Completes (.otpProgCmd c) s fun t =>
      answered t (keyedReq c (Obj.otpProgCmd)) .ok = true ∧
      t.oN (Obj.keyLast c.slot) = c.counter ∧
      t.varB .otpBusy = true ∧
      t.varN .otpWord = s.oN Obj.otpProgWord ∧
      t.varN .otpValue = s.oN Obj.otpProgData ∧
      t.o Obj.otpResult = 2 ∧
      RegsWithin [Obj.uartFrames, Obj.jobState 3, Obj.jobStarted 3, Obj.jobStepsDone 3, Obj.jobStepsTotal 3, Obj.nvmBufLines,
        Obj.nvmState, Obj.keyOwned, Obj.otpResult, Obj.nvmCorrected, Obj.nvmUncorr, Obj.nvmLastBad, Obj.ledgerStatus] [Obj.canRx,
        Obj.canTx, Obj.spiFrames, Obj.keyLast, Obj.keyState] [.spiErr, .spiBusy, .dSlots, .dqAt, .hwmWarn, .commitReq,
        .commitReqRound, .otpBusy, .otpWord, .otpValue, .ledLost] s t) ∧
    (∀ (c : Keyed), keyedOk s c (Obj.otpProgCmd) = true → c.data = [1] → otpConditions s = false → Completes (.otpProgCmd c) s fun t
        =>
      answered t (keyedReq c (Obj.otpProgCmd)) .stateForbids = true ∧
      t.oN (Obj.keyLast c.slot) = c.counter ∧
      RegsWithin [Obj.uartFrames, Obj.jobState 3, Obj.jobStarted 3, Obj.jobStepsDone 3, Obj.jobStepsTotal 3, Obj.nvmBufLines,
        Obj.nvmState, Obj.keyOwned, Obj.nvmCorrected, Obj.nvmUncorr, Obj.nvmLastBad, Obj.ledgerStatus] [Obj.canRx, Obj.canTx,
        Obj.spiFrames, Obj.keyLast, Obj.keyState] [.spiErr, .spiBusy, .dSlots, .dqAt, .hwmWarn, .commitReq, .commitReqRound,
        .ledLost] s t) ∧
    (∀ (c : Keyed), keyedOk s c (Obj.collieEn) = true → c.data = [0] → Completes (.collieEn c) s fun t =>
      answered t (keyedReq c (Obj.collieEn)) .ok = true ∧
      t.oN (Obj.keyLast c.slot) = c.counter ∧
      collieSt t = 0 ∧
      t.o Obj.collieEn = 0 ∧
      t.o Obj.collieChecked = 0 ∧
      t.o Obj.collieHostbusy = 0 ∧
      RegsWithin [Obj.uartFrames, Obj.jobState 3, Obj.jobStarted 3, Obj.jobStepsDone 3, Obj.jobStepsTotal 3, Obj.nvmBufLines,
        Obj.nvmState, Obj.keyOwned, Obj.collieEn, Obj.collieState, Obj.collieHostbusy, Obj.collieChecked, Obj.nvmCorrected,
        Obj.nvmUncorr, Obj.nvmLastBad, Obj.ledgerStatus] [Obj.canRx, Obj.canTx, Obj.spiFrames, Obj.keyLast, Obj.keyState] [.spiErr,
        .spiBusy, .dSlots, .dqAt, .hwmWarn, .commitReq, .commitReqRound, .collieHit, .collieBusyT, .ledLost] s t) ∧
    (∀ (c : Keyed), keyedOk s c (Obj.collieEn) = true → c.data = [1] → collieSt s = 0 → Completes (.collieEn c) s fun t =>
      answered t (keyedReq c (Obj.collieEn)) .ok = true ∧
      t.oN (Obj.keyLast c.slot) = c.counter ∧
      collieSt t = (if collieRuns s then 1 else 4) ∧
      t.o Obj.collieEn = 1 ∧
      RegsWithin [Obj.uartFrames, Obj.jobState 3, Obj.jobStarted 3, Obj.jobStepsDone 3, Obj.jobStepsTotal 3, Obj.nvmBufLines,
        Obj.nvmState, Obj.keyOwned, Obj.collieEn, Obj.collieState, Obj.collieHostbusy, Obj.nvmCorrected, Obj.nvmUncorr,
        Obj.nvmLastBad, Obj.ledgerStatus] [Obj.canRx, Obj.canTx, Obj.spiFrames, Obj.keyLast, Obj.keyState] [.spiErr, .spiBusy,
        .dSlots, .dqAt, .hwmWarn, .commitReq, .commitReqRound, .collieHit, .ledLost] s t) ∧
    (∀ (v : Nat) (c : Keyed), keyedOk s c (Obj.keyRevoke) = true → c.data.length = 1 → ofLeBytes c.data = v → 1 ≤ v → v ≤ 3 → s.oN
        (Obj.keyState v) ≠ 0 → c.counter < 0xFFFF0000 → Completes (.keyRevoke c) s fun t =>
      answered t (keyedReq c (Obj.keyRevoke)) .ok = true ∧
      t.oN (Obj.keyLast c.slot) = c.counter ∧
      t.o (Obj.keyState v) = 0 ∧
      t.posts = s.posts ++ [113] ∧
      t.mram = s.mram ∧
      RegsWithin [Obj.uartFrames, Obj.jobState 3, Obj.jobStarted 3, Obj.jobStepsDone 3, Obj.jobStepsTotal 3, Obj.nvmBufLines,
        Obj.nvmState, Obj.keyOwned, Obj.nvmCorrected, Obj.nvmUncorr, Obj.nvmLastBad, Obj.ledgerStatus] [Obj.canRx, Obj.canTx,
        Obj.spiFrames, Obj.keyLast, Obj.keyState] [.spiErr, .spiBusy, .dSlots, .dqAt, .hwmWarn, .commitReq, .commitReqRound,
        .ledLost] s t) ∧
    (∀ (copies : Nat) (c : Keyed), keyedOk s c (Obj.keyRelease) = true → c.data = [1] → (genAdvance 2 copies s).1 = .ok → c.counter
        < 0xFFFF0000 → Completes (.keyRelease c copies) s fun t =>
      answered t (keyedReq c (Obj.keyRelease)) .ok = true ∧
      t.oN (Obj.keyLast c.slot) = c.counter ∧
      t.oN Obj.keyGeneration = s.oN Obj.keyGeneration + 1 ∧
      (∀ k < 4, t.o (Obj.keyState k) = 0) ∧
      t.oB Obj.keyOwned = false ∧
      t.mram = s.mram) ∧
    (∀ (c : Keyed), keyedOk s c (Obj.imgCmd) = true → c.data = [1] → imgBusy s = false → Completes (.imgOpen c) s fun t =>
      answered t (keyedReq c (Obj.imgCmd)) .ok = true ∧
      t.oN (Obj.keyLast c.slot) = c.counter ∧
      t.var .imgLen = 0 ∧
      t.mram = s.mram ∧
      RegsWithin [Obj.uartFrames, Obj.jobState 3, Obj.jobStarted 3, Obj.jobStepsDone 3, Obj.jobStepsTotal 3, Obj.nvmBufLines,
        Obj.nvmState, Obj.keyOwned, Obj.imgStageBank, Obj.imgState, Obj.imgStageDigest, Obj.nvmCorrected, Obj.nvmUncorr,
        Obj.nvmLastBad, Obj.ledgerStatus] [Obj.canRx, Obj.canTx, Obj.spiFrames, Obj.keyLast, Obj.keyState] [.spiErr, .spiBusy,
        .dSlots, .dqAt, .hwmWarn, .commitReq, .commitReqRound, .imgLen, .ledLost] s t) ∧
    (∀ (c : Keyed), keyedOk s c (Obj.imgCmd) = true → c.data = [2] → imgBusy s = false → Completes (.imgValidate c) s fun t =>
      answered t (keyedReq c (Obj.imgCmd)) .ok = true ∧
      t.oN (Obj.keyLast c.slot) = c.counter ∧
      t.o Obj.imgResult = 1 ∧
      t.o Obj.imgResultEntry = 0 ∧
      t.jobs.length = s.jobs.length + 1 ∧
      RegsWithin [Obj.uartFrames, Obj.jobState 3, Obj.jobStarted 3, Obj.jobStepsDone 3, Obj.jobStepsTotal 3, Obj.nvmBufLines,
        Obj.nvmState, Obj.keyOwned, Obj.imgResult, Obj.imgResultEntry, Obj.nvmCorrected, Obj.nvmUncorr, Obj.nvmLastBad,
        Obj.ledgerStatus] [Obj.canRx, Obj.canTx, Obj.spiFrames, Obj.keyLast, Obj.keyState, Obj.jobState, Obj.jobWaiting,
        Obj.jobStepsDone, Obj.jobStepsTotal, Obj.jobStarted] [.spiErr, .spiBusy, .dSlots, .dqAt, .hwmWarn, .commitReq,
        .commitReqRound, .jobLast, .jobDone, .ledLost] s t) ∧
    (∀ (c : Keyed), keyedOk s c (Obj.imgCmd) = true → c.data = [2] → imgBusy s = true → Completes (.imgValidate c) s fun t =>
      answered t (keyedReq c (Obj.imgCmd)) .busy = true ∧
      t.oN (Obj.keyLast c.slot) = c.counter ∧
      RegsWithin [Obj.uartFrames, Obj.jobState 3, Obj.jobStarted 3, Obj.jobStepsDone 3, Obj.jobStepsTotal 3, Obj.nvmBufLines,
        Obj.nvmState, Obj.keyOwned, Obj.nvmCorrected, Obj.nvmUncorr, Obj.nvmLastBad, Obj.ledgerStatus] [Obj.canRx, Obj.canTx,
        Obj.spiFrames, Obj.keyLast, Obj.keyState] [.spiErr, .spiBusy, .dSlots, .dqAt, .hwmWarn, .commitReq, .commitReqRound,
        .ledLost] s t) ∧
    (∀ (c : Keyed), keyedOk s c (Obj.imgCmd) = true → c.data = [3] → Completes (.imgCancel c) s fun t =>
      answered t (keyedReq c (Obj.imgCmd)) .ok = true ∧
      t.oN (Obj.keyLast c.slot) = c.counter ∧
      t.o Obj.imgPending = 0xFE ∧
      RegsWithin [Obj.uartFrames, Obj.jobState 3, Obj.jobStarted 3, Obj.jobStepsDone 3, Obj.jobStepsTotal 3, Obj.nvmBufLines,
        Obj.nvmState, Obj.keyOwned, Obj.imgPending, Obj.nvmCorrected, Obj.nvmUncorr, Obj.nvmLastBad, Obj.ledgerStatus] [Obj.canRx,
        Obj.canTx, Obj.spiFrames, Obj.keyLast, Obj.keyState] [.spiErr, .spiBusy, .dSlots, .dqAt, .hwmWarn, .commitReq,
        .commitReqRound, .ledLost] s t) ∧
    (∀ (c : Keyed), keyedOk s c (Obj.imgActivate) = true → c.data.length = 1 → ofLeBytes c.data ≤ 0x3F ∨ ofLeBytes c.data = 0xFF →
        activationOk s (ofLeBytes c.data) = true → Completes (.imgActivate c) s fun t =>
      answered t (keyedReq c (Obj.imgActivate)) .ok = true ∧
      t.oN (Obj.keyLast c.slot) = c.counter ∧
      t.oN Obj.imgPending = ofLeBytes c.data ∧
      RegsWithin [Obj.uartFrames, Obj.jobState 3, Obj.jobStarted 3, Obj.jobStepsDone 3, Obj.jobStepsTotal 3, Obj.nvmBufLines,
        Obj.nvmState, Obj.keyOwned, Obj.imgPending, Obj.nvmCorrected, Obj.nvmUncorr, Obj.nvmLastBad, Obj.ledgerStatus] [Obj.canRx,
        Obj.canTx, Obj.spiFrames, Obj.keyLast, Obj.keyState] [.spiErr, .spiBusy, .dSlots, .dqAt, .hwmWarn, .commitReq,
        .commitReqRound, .ledLost] s t) ∧
    (∀ (c : Keyed), keyedOk s c (Obj.imgActivate) = true → c.data.length = 1 → ofLeBytes c.data ≤ 0x3F ∨ ofLeBytes c.data = 0xFF →
        activationOk s (ofLeBytes c.data) = false → Completes (.imgActivate c) s fun t =>
      answered t (keyedReq c (Obj.imgActivate)) .stateForbids = true ∧
      t.oN (Obj.keyLast c.slot) = c.counter ∧
      RegsWithin [Obj.uartFrames, Obj.jobState 3, Obj.jobStarted 3, Obj.jobStepsDone 3, Obj.jobStepsTotal 3, Obj.nvmBufLines,
        Obj.nvmState, Obj.keyOwned, Obj.nvmCorrected, Obj.nvmUncorr, Obj.nvmLastBad, Obj.ledgerStatus] [Obj.canRx, Obj.canTx,
        Obj.spiFrames, Obj.keyLast, Obj.keyState] [.spiErr, .spiBusy, .dSlots, .dqAt, .hwmWarn, .commitReq, .commitReqRound,
        .ledLost] s t) ∧
    (∀ (c : Keyed), keyedOk s c (Obj.budgetGrant) = true → c.data.length = 4 → ofLeBytes c.data = s.oN Obj.budgetGrant → s.oN
        Obj.budgetState ≠ 1 → budgetBusy s = false → Completes (.budgetGrantWrite c) s fun t =>
      answered t (keyedReq c (Obj.budgetGrant)) .ok = true ∧
      t.oN (Obj.keyLast c.slot) = c.counter ∧
      RegsWithin [Obj.uartFrames, Obj.jobState 3, Obj.jobStarted 3, Obj.jobStepsDone 3, Obj.jobStepsTotal 3, Obj.nvmBufLines,
        Obj.nvmState, Obj.keyOwned, Obj.nvmCorrected, Obj.nvmUncorr, Obj.nvmLastBad, Obj.ledgerStatus] [Obj.canRx, Obj.canTx,
        Obj.spiFrames, Obj.keyLast, Obj.keyState] [.spiErr, .spiBusy, .dSlots, .dqAt, .hwmWarn, .commitReq, .commitReqRound,
        .ledLost] s t) ∧
    (∀ (v : Nat) (c : Keyed), keyedOk s c (Obj.budgetGrant) = true → c.data.length = 4 → ofLeBytes c.data = v → s.oN Obj.budgetGrant
        < v → s.oN Obj.budgetState ≠ 1 → budgetBusy s = false → role s ≠ Role.active → Completes (.budgetGrantWrite c) s fun t =>
      answered t (keyedReq c (Obj.budgetGrant)) .ok = true ∧
      t.oN (Obj.keyLast c.slot) = c.counter ∧
      t.oN Obj.budgetGrant = v ∧
      t.oN Obj.budgetFree + s.oN Obj.budgetGrant = s.oN Obj.budgetFree + v ∧
      t.o Obj.budgetGen = (s.bump Obj.budgetGen).o Obj.budgetGen ∧
      RegsWithin [Obj.uartFrames, Obj.jobState 3, Obj.jobStarted 3, Obj.jobStepsDone 3, Obj.jobStepsTotal 3, Obj.nvmBufLines,
        Obj.nvmState, Obj.keyOwned, Obj.budgetGrant, Obj.budgetFree, Obj.budgetGen, Obj.budgetAllocated, Obj.nvmCorrected,
        Obj.nvmUncorr, Obj.nvmLastBad, Obj.ledgerStatus] [Obj.canRx, Obj.canTx, Obj.spiFrames, Obj.keyLast, Obj.keyState] [.spiErr,
        .spiBusy, .dSlots, .dqAt, .hwmWarn, .commitReq, .commitReqRound, .grantOld, .grantPort, .grantRails, .wbAgain, .ledLost] s t) ∧
    (∀ (v : Nat) (c : Keyed), keyedOk s c (Obj.budgetGrant) = true → c.data.length = 4 → ofLeBytes c.data = v → v < s.oN
        Obj.budgetGrant → floorSum s ≤ v → s.oN Obj.budgetState ≠ 1 → budgetBusy s = false → Completes (.budgetGrantWrite c) s fun t
        =>
      t.oN (Obj.keyLast c.slot) = c.counter ∧
      t.o Obj.budgetState = 1 ∧
      t.varN .grantNew = v + 1 ∧
      (portOf t c.port).txn = some (keyedReq c Obj.budgetGrant) ∧
      t.o Obj.budgetGrant = s.o Obj.budgetGrant ∧
      RegsWithin [Obj.uartFrames, Obj.jobState 3, Obj.jobStarted 3, Obj.jobStepsDone 3, Obj.jobStepsTotal 3, Obj.nvmBufLines,
        Obj.nvmState, Obj.keyOwned, Obj.budgetState, Obj.nvmCorrected, Obj.nvmUncorr, Obj.nvmLastBad, Obj.ledgerStatus] [Obj.canRx,
        Obj.canTx, Obj.spiFrames, Obj.keyLast, Obj.keyState] [.spiErr, .spiBusy, .dSlots, .dqAt, .hwmWarn, .commitReq,
        .commitReqRound, .grantOld, .grantPort, .grantRails, .grantNew, .allocNew, .ledLost] s t) ∧
    (∀ (c : Keyed), keyedOk s c (Obj.testBscanEn) = true → c.data = [1] → s.mode = .setup ∨ s.mode = .safe → role s = Role.out ∨
        role s = Role.solo → allRails.all (fun r => !railOn s r && !decide (railState s r = RS.wait ∨ railState s r = RS.test)) =
        true → Completes (.bscanEn c) s fun t =>
      answered t (keyedReq c (Obj.testBscanEn)) .ok = true ∧
      t.oN (Obj.keyLast c.slot) = c.counter ∧
      t.o Obj.testBscanEn = 1 ∧
      t.oB Obj.testBscan = s.varB .extest ∧
      RegsWithin [Obj.uartFrames, Obj.jobState 3, Obj.jobStarted 3, Obj.jobStepsDone 3, Obj.jobStepsTotal 3, Obj.nvmBufLines,
        Obj.nvmState, Obj.keyOwned, Obj.testBscanEn, Obj.testBscan, Obj.nvmCorrected, Obj.nvmUncorr, Obj.nvmLastBad,
        Obj.ledgerStatus] [Obj.canRx, Obj.canTx, Obj.spiFrames, Obj.keyLast, Obj.keyState] [.spiErr, .spiBusy, .dSlots, .dqAt,
        .hwmWarn, .commitReq, .commitReqRound, .ledLost] s t) ∧
    (∀ (c : Keyed), keyedOk s c (Obj.testBscanEn) = true → c.data = [1] → s.mode ≠ .setup → s.mode ≠ .safe → Completes (.bscanEn c)
        s fun t =>
      answered t (keyedReq c (Obj.testBscanEn)) .stateForbids = true ∧
      t.oN (Obj.keyLast c.slot) = c.counter ∧
      RegsWithin [Obj.uartFrames, Obj.jobState 3, Obj.jobStarted 3, Obj.jobStepsDone 3, Obj.jobStepsTotal 3, Obj.nvmBufLines,
        Obj.nvmState, Obj.keyOwned, Obj.nvmCorrected, Obj.nvmUncorr, Obj.nvmLastBad, Obj.ledgerStatus] [Obj.canRx, Obj.canTx,
        Obj.spiFrames, Obj.keyLast, Obj.keyState] [.spiErr, .spiBusy, .dSlots, .dqAt, .hwmWarn, .commitReq, .commitReqRound,
        .ledLost] s t)

/-- READ, WRITE and WRITEK of an object of up to 8 bytes. Says that these complete: read, write, writek. -/
def Obligations.SmallRequests : Prop :=
  ∀ s : State,
    (∀ (q : Req) (r : Row), q.opcode = 1 → freeFor s q = true → objRow s q.index q.sub = some r → mayRead q r = true → [Obj.nvmBad,
        Obj.irqPending, Obj.keyPub, Obj.keyImgPub, Obj.keySnapData, Obj.sbExpData, Obj.imgActive, Obj.irqClaimA,
        Obj.irqClaimB].contains (objKey q.index q.sub) = false → nvmHome s (objKey q.index q.sub) = none → Completes (.read q) s fun
        t =>
      (portOf t q.port).resp = some (respOf q .ok ((encodeVal r.ty (readVal (takeIn q.port s) (objKey q.index q.sub))).take
        r.ty.size)) ∧
      (portOf t q.port).txn = none ∧
      t.mram = s.mram ∧
      RegsWithin [Obj.uartFrames] [Obj.canRx, Obj.canTx, Obj.spiFrames] [.spiErr, .spiBusy, .dSlots, .dqAt] s t) ∧
    (∀ (q : Req) (r : Row), q.opcode = 1 → freeFor s q = true → objRow s q.index q.sub = some r → mayRead q r = false → Completes
        (.read q) s fun t =>
      answered t q .denied = true ∧
      t.mram = s.mram ∧
      RegsWithin [Obj.uartFrames] [Obj.canRx, Obj.canTx, Obj.spiFrames] [.spiErr, .spiBusy, .dSlots, .dqAt] s t) ∧
    (∀ (q : Req) (st : Status), q.opcode = 1 → portUsable s q.port = true → canTaken q s = true → (portOf s q.port).txn = none →
        isReplay q s = false → preCheck q (takeIn q.port s) = st → st ≠ .ok → slotFree s q.port = true → Completes (.read q) s fun t
        =>
      answered t q st = true ∧
      t.mram = s.mram ∧
      RegsWithin [Obj.uartFrames] [Obj.canRx, Obj.canTx, Obj.spiFrames] [.spiErr, .spiBusy, .dSlots, .dqAt] s t) ∧
    (∀ (q : Req), q.opcode = 1 → portUsable s q.port = true → canTaken q s = true → (portOf s q.port).txn = none → isReplay q s =
        false → 4 ≤ s.varN .dSlots ∨ dictionaryHead (backToQueue q.port s) ≠ some q.port → Completes (.read q) s fun t =>
      (portOf t q.port).txn = some q ∧
      (portOf t q.port).served = 0 ∧
      t.varN .dqAt q.port = s.now + 1 ∧
      t.mram = s.mram ∧
      RegsWithin [Obj.uartFrames] [Obj.canRx, Obj.spiFrames] [.spiErr, .spiBusy, .dqAt] s t) ∧
    (∀ (q : Req) (r : Row) (k : Nat) (v : Int), q.opcode = 2 → freeFor s q = true → k = objKey q.index q.sub → objRow s q.index
        q.sub = some r → r.access = .rw ∨ (r.access = .rws ∧ s.mode = .setup) → outsideMargins q r s = false → storeOk s k = true →
        q.data.length = r.ty.size → decodeVal r.ty q.data = v → [Obj.sysModeReq, Obj.budgetGrant, Obj.portCmd].contains k = false →
        commandA q.port k v.toNat (takeIn q.port s) = none → commandB q.port q.slot 0 k v (takeIn q.port s) = none → inRange (takeIn
        q.port s) r v = true → lbLocked s k = false → withoutReserved s k v = v → writeCheck k ((newestState (takeIn q.port s)).setO
        k v) = true → inForceOk k ((takeIn q.port s).setO k v) = true → r.apply ≠ .immediate → r.apply ≠ .none → Completes (.write
        q) s fun t =>
      answered t q .ok = true ∧
      newestOf t k = v ∧
      t.o k = s.o k ∧
      t.mram = s.mram ∧
      RegsWithin [Obj.uartFrames, Obj.teamJournal, Obj.teamDqDepth, Obj.teamDqMax] [Obj.canRx, Obj.canTx, Obj.spiFrames] [.spiErr,
        .spiBusy, .dSlots, .dqAt] s t) ∧
    (∀ (q : Req) (r : Row), q.opcode = 2 → freeFor s q = true → objRow s q.index q.sub = some r → r.access = .ro ∨ r.access = .rwk →
        Completes (.write q) s fun t =>
      answered t q .denied = true ∧
      t.mram = s.mram ∧
      RegsWithin [Obj.uartFrames] [Obj.canRx, Obj.canTx, Obj.spiFrames] [.spiErr, .spiBusy, .dSlots, .dqAt] s t) ∧
    (∀ (q : Req) (r : Row), q.opcode = 2 → freeFor s q = true → objRow s q.index q.sub = some r → r.access = .rws → q.data.length =
        r.ty.size → s.mode ≠ .setup → Completes (.write q) s fun t =>
      answered t q .stateForbids = true ∧
      t.mram = s.mram ∧
      RegsWithin [Obj.uartFrames] [Obj.canRx, Obj.canTx, Obj.spiFrames] [.spiErr, .spiBusy, .dSlots, .dqAt] s t) ∧
    (∀ (q : Req) (copies : Nat), q.opcode = 3 → q.index = keyIndex Obj.portBenchEn → q.sub = keySub Obj.portBenchEn → q.data = [1] →
        freeFor s q = true → keyedPass s q = true → storeOk s Obj.portBenchEn = true → engineFree s = true → Completes (.writek q
        copies) s fun t =>
      answered t q .ok = true ∧
      t.o Obj.portBenchEn = 1 ∧
      t.oN (Obj.keyLast q.slot) = q.counter ∧
      RegsWithin [Obj.uartFrames, Obj.jobState 3, Obj.jobStarted 3, Obj.jobStepsDone 3, Obj.jobStepsTotal 3, Obj.nvmBufLines,
        Obj.nvmState, Obj.keyOwned, Obj.portBenchEn, Obj.nvmCorrected, Obj.nvmUncorr, Obj.nvmLastBad, Obj.ledgerStatus] [Obj.canRx,
        Obj.canTx, Obj.spiFrames, Obj.keyLast, Obj.keyState] [.spiErr, .spiBusy, .dSlots, .dqAt, .hwmWarn, .commitReq,
        .commitReqRound, .ledLost] s t) ∧
    (∀ (q : Req) (copies : Nat) (r : Row), q.opcode = 3 → freeFor s q = true → objRow s q.index q.sub = some r → r.access = .ro →
        Completes (.writek q copies) s fun t =>
      answered t q .denied = true ∧
      t.mram = s.mram ∧
      RegsWithin [Obj.uartFrames] [Obj.canRx, Obj.canTx, Obj.spiFrames] [.spiErr, .spiBusy, .dSlots, .dqAt] s t) ∧
    (∀ (q : Req) (copies : Nat) (r : Row), q.opcode = 3 → freeFor s q = true → objRow s q.index q.sub = some r → r.access ≠ .ro →
        s.oN (Obj.keyState 0) = 1 → s.bit Obj.keyStatus 0 = true → q.slot < 4 → s.oN (Obj.keyState q.slot) ≠ 1 → engineFree s = true
        → Completes (.writek q copies) s fun t =>
      answered t q .tagInvalid = true ∧
      t.o (Obj.keyLast q.slot) = s.o (Obj.keyLast q.slot) ∧
      t.o Obj.keyRejects = (s.bump Obj.keyRejects).o Obj.keyRejects ∧
      t.mram = s.mram) ∧
    (∀ (q : Req) (r : Row), let u := beforeDictionary (backToQueue q.port (hold q {} (takeIn q.port s))); q.opcode = 1 → portUsable
        s q.port = true → canTaken q s = true → (portOf s q.port).txn = none → isReplay q s = false → s.varB .jobDone
        (JobFor.tagCheck q.port).slot = false → s.varN .dSlots < 4 → dictionaryHead (backToQueue q.port s) = some q.port → preCheck
        q u = .ok → (q.port = 4 → u.bit Obj.portFlags 4 = true) → objRow u q.index q.sub = some r → mayRead q r = true →
        [Obj.nvmBad, Obj.irqPending, Obj.keyPub, Obj.keyImgPub, Obj.keySnapData, Obj.sbExpData, Obj.imgActive, Obj.irqClaimA,
        Obj.irqClaimB].contains (objKey q.index q.sub) = false → nvmHome u (objKey q.index q.sub) = none → Completes (.read q) s fun
        t =>
      (portOf t q.port).resp = some (respOf q .ok ((encodeVal r.ty (readVal u (objKey q.index q.sub))).take r.ty.size)) ∧
      (portOf t q.port).txn = none ∧
      t.mram = u.mram ∧
      RegsWithin [] [Obj.canTx] [.dSlots, .dqAt] u t)

/-- Block transactions and their segments, ECHO, busy ports and retries. Says that these complete: blockread, blockwrite,
imgStageWrite, segmentServe, echo, portBusy, retryReplay, spiFetch. -/
def Obligations.BlockRequestsAndRetries : Prop :=
  ∀ s : State,
    (∀ (q : Req) (r : Row) (d : List Byte), q.opcode = 4 → freeFor s q = true → q.len ≤ 32 → objRow s q.index q.sub = some r →
        mayRead q r = true → objKey q.index q.sub ≠ Obj.irqClaimA → objKey q.index q.sub ≠ Obj.irqClaimB → nvmHome s (objKey q.index
        q.sub) = none → largeBytes (takeIn q.port s) (objKey q.index q.sub) r = (.ok, d) → Completes (.blockread q) s fun t =>
      (portOf t q.port).resp = some (respOf q .ok ((d.drop q.offset).take q.len)) ∧
      (portOf t q.port).txn = none ∧
      t.mram = s.mram ∧
      RegsWithin [Obj.uartFrames] [Obj.canRx, Obj.canTx, Obj.spiFrames] [.spiErr, .spiBusy, .dSlots, .dqAt] s t) ∧
    (∀ (q : Req) (r : Row) (d : List Byte), q.opcode = 4 → freeFor s q = true → 32 < q.len → objRow s q.index q.sub = some r →
        mayRead q r = true → objKey q.index q.sub ≠ Obj.irqClaimA → objKey q.index q.sub ≠ Obj.irqClaimB → nvmHome s (objKey q.index
        q.sub) = none → largeBytes (takeIn q.port s) (objKey q.index q.sub) r = (.ok, d) → Completes (.blockread q) s fun t =>
      (portOf t q.port).txn = some q ∧
      (portOf t q.port).served = 1 ∧
      (portOf t q.port).gathered = (d.drop q.offset).take 32 ∧
      t.mram = s.mram ∧
      t.varN .dqAt q.port = s.now + 1 ∧
      RegsWithin [Obj.uartFrames] [Obj.canRx, Obj.canTx, Obj.spiFrames] [.spiErr, .spiBusy, .dSlots, .dqAt] s t) ∧
    (∀ (q : Req) (a : Nat), q.opcode = 5 → freeFor s q = true → q.index = keyIndex Obj.nvmScratch → q.sub = keySub Obj.nvmScratch →
        a = 0x75000 + q.offset → q.offset % 32 + q.len ≤ 32 → s.waiters = [] → s.buf.length < 128 → (s.buf.all fun b => decide
        (b.line ≠ a / 32)) = true → Completes (.blockwrite q) s fun t =>
      answered t q .ok = true ∧
      nvmBytes t a q.len = q.data ∧
      t.buf.length = s.buf.length + 1 ∧
      t.mram = s.mram ∧
      RegsWithin [Obj.uartFrames, Obj.nvmBufLines, Obj.nvmState, Obj.nvmCorrected, Obj.nvmUncorr, Obj.nvmLastBad, Obj.ledgerStatus]
        [Obj.canRx, Obj.canTx, Obj.spiFrames] [.spiErr, .spiBusy, .dSlots, .dqAt, .commitReq, .commitReqRound, .ledLost] s t) ∧
    (∀ (q : Req) (r : Row), q.opcode = 5 → freeFor s q = true → objRow s q.index q.sub = some r → r.access ≠ .rw → Completes
        (.blockwrite q) s fun t =>
      answered t q .denied = true ∧
      t.mram = s.mram ∧
      RegsWithin [Obj.uartFrames] [Obj.canRx, Obj.canTx, Obj.spiFrames] [.spiErr, .spiBusy, .dSlots, .dqAt] s t) ∧
    (∀ (q : Req), q.opcode = 5 → q.index = keyIndex Obj.imgStage → q.sub = keySub Obj.imgStage → freeFor s q = true → q.len ≤ 32 →
        imgBusy s = false → s.waiters = [] → s.buf.length + 3 ≤ 128 → q.offset ≤ s.varN .imgLen → Completes (.imgStageWrite q) s fun
        t =>
      answered t q .ok = true ∧
      t.varN .imgLen = max (s.varN .imgLen) (q.offset + q.len) ∧
      t.o Obj.imgState = 1 ∧
      t.mram = s.mram ∧
      RegsWithin [Obj.uartFrames, Obj.nvmBufLines, Obj.nvmState, Obj.imgState, Obj.imgStageBank, Obj.imgStageDigest,
        Obj.nvmCorrected, Obj.nvmUncorr, Obj.nvmLastBad, Obj.ledgerStatus] [Obj.canRx, Obj.canTx, Obj.spiFrames] [.spiErr, .spiBusy,
        .dSlots, .dqAt, .commitReq, .commitReqRound, .imgLen, .ledLost] s t) ∧
    (∀ (q : Req), q.opcode = 5 → q.index = keyIndex Obj.imgStage → q.sub = keySub Obj.imgStage → freeFor s q = true → q.len ≤ 32 →
        imgBusy s = true → Completes (.imgStageWrite q) s fun t =>
      answered t q .busy = true ∧
      t.mram = s.mram ∧
      t.buf = s.buf ∧
      RegsWithin [Obj.uartFrames] [Obj.canRx, Obj.canTx, Obj.spiFrames] [.spiErr, .spiBusy, .dSlots, .dqAt] s t) ∧
    (∀ (p : Nat) (q : Req) (r : Row) (d : List Byte), let u := beforeDictionary s; p < 5 → s.mgtOn = true → dictionaryHead s = some
        p → s.varN .dSlots < 4 → 0 < (portOf u p).served → u.varB .jobDone (JobFor.tagCheck p).slot = false → (portOf u p).txn =
        some q → q.port = p → q.opcode = 4 → (portOf u p).served ≤ q.len / 32 → q.len ≤ 32 * (portOf u p).served + 32 → objRow u
        q.index q.sub = some r → objKey q.index q.sub ≠ Obj.irqClaimA → objKey q.index q.sub ≠ Obj.irqClaimB → nvmHome u (objKey
        q.index q.sub) = none → largeBytes u (objKey q.index q.sub) r = (.ok, d) → Completes (.segmentServe p) s fun t =>
      (portOf t p).resp = some (respOf q .ok ((portOf u p).gathered ++ (d.drop (q.offset + 32 * (portOf u p).served)).take (min 32
        (q.len - 32 * (portOf u p).served)))) ∧
      (portOf t p).txn = none ∧
      t.mram = u.mram ∧
      t.var .dSlots = u.var .dSlots + 1 ∧
      RegsWithin [] [Obj.canTx] [.dSlots, .dqAt] u t) ∧
    (∀ (p : Nat) (q : Req) (r : Row), let u := beforeDictionary s; p < 5 → s.mgtOn = true → dictionaryHead s = some p → s.varN
        .dSlots < 4 → (portOf u p).served = 0 → u.varB .jobDone (JobFor.tagCheck p).slot = false → (portOf u p).txn = some q →
        q.port = p → q.opcode = 1 → preCheck q u = .ok → objRow u q.index q.sub = some r → mayRead q r = true → [Obj.nvmBad,
        Obj.irqPending, Obj.keyPub, Obj.keyImgPub, Obj.keySnapData, Obj.sbExpData, Obj.imgActive, Obj.irqClaimA,
        Obj.irqClaimB].contains (objKey q.index q.sub) = false → nvmHome u (objKey q.index q.sub) = none → Completes (.segmentServe
        p) s fun t =>
      (portOf t p).resp = some (respOf q .ok ((encodeVal r.ty (readVal u (objKey q.index q.sub))).take r.ty.size)) ∧
      (portOf t p).txn = none ∧
      t.var .dSlots = u.var .dSlots + 1 ∧
      t.mram = u.mram ∧
      RegsWithin [] [Obj.canTx] [.dSlots, .dqAt] u t) ∧
    (∀ (p : Nat), s.mgtOn = false ∨ dictionaryHead s ≠ some p ∨ 4 ≤ s.varN .dSlots → Completes (.segmentServe p) s fun t =>
      t = s) ∧
    (∀ (q : Req), q.opcode = 8 → portUsable s q.port = true → canTaken q s = true → (portOf s q.port).txn = none → isReplay q s =
        false → preCheck q s = .ok → Completes (.echo q) s fun t =>
      (portOf t q.port).txn = some q ∧
      (portOf (echoTick t) q.port).resp = some (respOf q .ok q.data) ∧
      (portOf (echoTick t) q.port).txn = none ∧
      t.mram = s.mram ∧
      RegsWithin [Obj.uartFrames] [Obj.canRx, Obj.spiFrames] [.spiErr, .spiBusy] s t) ∧
    (∀ (q : Req), portUsable s q.port = true → canTaken q s = true → (portOf s q.port).txn ≠ none → isReplay q s = false → q.port <
        2 → Completes (.portBusy q) s fun t =>
      (portOf t q.port).txn = (portOf s q.port).txn ∧
      (portOf t q.port).resp = none ∧
      t.varB .spiBusy q.port = true ∧
      t.o (Obj.spiBusy q.port) = (s.bump (Obj.spiBusy q.port)).o (Obj.spiBusy q.port) ∧
      t.mram = s.mram ∧
      RegsWithin [Obj.spiFrames q.port, Obj.spiBusy q.port] [] [.spiErr, .spiBusy, .dSlots, .dqAt] s t) ∧
    (∀ (q : Req), portUsable s q.port = true → canTaken q s = true → (portOf s q.port).txn ≠ none → isReplay q s = false → 2 ≤
        q.port → Completes (.portBusy q) s fun t =>
      (portOf t q.port).txn = (portOf s q.port).txn ∧
      (portOf t q.port).resp = some (respOf q .busy []) ∧
      t.mram = s.mram ∧
      RegsWithin [Obj.uartFrames, Obj.uartBusy] [Obj.canRx, Obj.canTx] [] s t) ∧
    (∀ (q : Req) (a : Resp), portUsable s q.port = true → canTaken q s = true → (portOf s q.port).kept = some (q, a) → Completes
        (.retryReplay q) s fun t =>
      (portOf t q.port).resp = some a ∧
      (portOf t q.port).txn = (portOf s q.port).txn ∧
      t.mram = s.mram ∧
      RegsWithin [Obj.uartFrames, Obj.uartReplays] [Obj.canRx, Obj.canTx, Obj.canReplays, Obj.spiFrames, Obj.spiReplays] [.spiErr,
        .spiBusy, .dSlots, .dqAt] s t) ∧
    (∀ (p : Nat), Completes (.spiFetch p) s fun t =>
      t = s)

/-- Events of the object-protocol ports. A reduction whose device has lost the token leaves the write unanswered (R538). Says that
these complete: canFrameIgnored, notifySend, busOff, busRecovery, errorPassiveChange, grantReductionDone. -/
def Obligations.PortEvents : Prop :=
  ∀ s : State,
    (∀ (p : Nat), p < 2 → s.mgtOn = true → s.oN (Obj.canState p) ≠ 0 → canDetached s p = false → Completes (.canFrameIgnored p) s
        fun t =>
      t.o (Obj.canIgnored p) = (s.bump (Obj.canIgnored p)).o (Obj.canIgnored p) ∧
      Within [Obj.canIgnored p] [] s t) ∧
    (∀ (p i n : Nat), p < 2 → s.mgtOn = true → canClaims s p = true → s.notify = [(p, i, n)] → canDetached s p = false → Completes
        (.notifySend p) s fun t =>
      t.notify = [] ∧
      (portOf t (p + 2)).sent.head? = some (canFrame s p 1 (s.oN (Obj.canNotifyDst p)) (notifyBytes p i n)) ∧
      (portOf t (p + 2)).waits = [] ∧
      ((portOf s (p + 2)).waits = [] → (portOf t (p + 2)).sent.length = 1 ∧ t.o (Obj.canTx p) = (s.bump (Obj.canTx p)).o (Obj.canTx
        p)) ∧
      t.o (Obj.canNotifyQ p) = 0 ∧
      (portOf t (p + 2)).txn = (portOf s (p + 2)).txn ∧ (portOf t (p + 2)).resp = (portOf s (p + 2)).resp ∧
      t.mram = s.mram ∧
      RegsWithin [Obj.canTx p, Obj.canNotifyQ p] [] [] s t) ∧
    (∀ (p : Nat), s.notify = [] ∨ canClaims s p = false ∨ canDetached s p = true → Completes (.notifySend p) s fun t =>
      t = s) ∧
    (∀ (p tec : Nat), p < 2 → s.mgtOn = true → s.oN (Obj.canState p) = 1 ∨ s.oN (Obj.canState p) = 2 → Completes (.busOff p tec) s
        fun t =>
      t.oN (Obj.canState p) = 3 ∧
      t.oN (Obj.canTec p) = min tec 255 ∧
      t.o (Obj.canBusoffs p) = (s.bump (Obj.canBusoffs p)).o (Obj.canBusoffs p) ∧
      t.posts = s.posts ++ [120] ∧
      Within [Obj.canState p, Obj.canTec p, Obj.canBusoffs p] [.offAt, .offRound] s t) ∧
    (∀ (p : Nat), p < 2 → s.mgtOn = true → s.oN (Obj.canState p) = 3 → Completes (.busRecovery p) s fun t =>
      t.o (Obj.canState p) = 1 ∧
      t.o (Obj.canTec p) = 0 ∧ t.o (Obj.canRec p) = 0 ∧
      t.posts = s.posts ++ [120] ∧
      (notifyCount s p = 0 → (portOf t (p + 2)).waits = []) ∧
      ((portOf s (p + 2)).waits = [] ∨ notifyCount s p ≠ 0 → t.o (Obj.canTx p) = s.o (Obj.canTx p)) ∧
      (notifyCount s p = 0 → (portOf t (p + 2)).sent.length = (portOf s (p + 2)).waits.length) ∧
      (portOf t (p + 2)).txn = (portOf s (p + 2)).txn ∧
      t.mram = s.mram ∧
      RegsWithin [Obj.canState p, Obj.canTec p, Obj.canRec p, Obj.canTx p] [] [] s t) ∧
    (∀ (p tec er : Nat), p < 2 → s.mgtOn = true → s.oN (Obj.canState p) = 1 → 128 ≤ tec ∨ 128 ≤ er → Completes (.errorPassiveChange
        p tec er) s fun t =>
      t.o (Obj.canState p) = 2 ∧
      t.oN (Obj.canTec p) = min tec 255 ∧
      t.oN (Obj.canRec p) = min er 255 ∧
      t.posts = s.posts ++ [121] ∧
      Within [Obj.canState p, Obj.canTec p, Obj.canRec p] [] s t) ∧
    (∀ (p tec er : Nat), p < 2 → s.mgtOn = true → s.oN (Obj.canState p) = 2 → tec < 128 → er < 128 → Completes (.errorPassiveChange
        p tec er) s fun t =>
      t.o (Obj.canState p) = 1 ∧
      t.oN (Obj.canTec p) = min tec 255 ∧
      t.oN (Obj.canRec p) = min er 255 ∧
      t.posts = s.posts ++ [121] ∧
      Within [Obj.canState p, Obj.canTec p, Obj.canRec p] [] s t) ∧
    (∀ (q : Req), s.oN Obj.budgetState = 1 → holder s = true → budgetBusy s = false → s.var .wbStage 1 = 0 → s.varB .wbAgain 1 =
        false → (portOf s (s.varN .grantPort)).txn = some q → objKey q.index q.sub = Obj.budgetGrant → q.port = s.varN .grantPort →
        Completes (.grantReductionDone) s fun t =>
      t.o Obj.budgetState = 0 ∧
      answered t q .ok = true ∧
      t.o Obj.budgetGrant = s.o Obj.budgetGrant ∧
      t.mram = s.mram ∧
      RegsWithin [Obj.budgetState] [Obj.canTx] [] s t) ∧
    (∀ (q : Req), s.oN Obj.budgetState = 1 → holder s = false → (portOf s (s.varN .grantPort)).txn = some q → objKey q.index q.sub =
        Obj.budgetGrant → q.port = s.varN .grantPort → Completes (.grantReductionDone) s fun t =>
      t.o Obj.budgetState = 0 ∧
      (portOf t q.port).txn = none ∧
      (portOf t q.port).resp = (portOf s q.port).resp ∧ (portOf t q.port).sent = (portOf s q.port).sent ∧
      t.varB .grantNew = false ∧
      t.mram = s.mram ∧
      RegsWithin [Obj.budgetState] [] [.allocNew, .grantNew, .grantTx] s t) ∧
    (s.oN Obj.budgetState ≠ 1 → Completes (.grantReductionDone) s fun t =>
      t = s)

/-- Claims and high-water marks. Says that these complete: claim, reclaim, enrolSlot, transfer, hwmCommitDone, hwmCommitTimeout. -/
def Obligations.ClaimCommands : Prop :=
  ∀ s : State,
    (∀ (q : Req), q.opcode = 6 → q.sub = 1 → freeFor s q = true → claimAllowed q (takeIn q.port s) = .ok → Completes (.claim q) s
        fun t =>
      (portOf t q.port).txn = some q ∧
      t.varN .claimPort = q.port + 1 ∧
      t.var .claimStage = 1 ∧
      t.jobs.length = s.jobs.length + 1 ∧
      t.mram = s.mram ∧
      t.o Obj.keyGeneration = s.o Obj.keyGeneration ∧
      RegsWithin [Obj.uartFrames] [Obj.canRx, Obj.canTx, Obj.spiFrames, Obj.jobState, Obj.jobWaiting, Obj.jobStepsDone,
        Obj.jobStepsTotal, Obj.jobStarted] [.spiErr, .spiBusy, .dSlots, .dqAt, .claimPort, .claimStage, .jobDone, .jobLast] s t) ∧
    (∀ (q : Req) (st : Status), q.opcode = 6 → q.sub = 1 → freeFor s q = true → claimAllowed q (takeIn q.port s) = st → st ≠ .ok →
        Completes (.claim q) s fun t =>
      answered t q st = true ∧
      t.jobs = s.jobs ∧
      t.mram = s.mram ∧
      RegsWithin [Obj.uartFrames] [Obj.canRx, Obj.canTx, Obj.spiFrames] [.spiErr, .spiBusy, .dSlots, .dqAt] s t) ∧
    (∀ (q : Req), 2 ≤ q.sub → q.sub ≤ 4 → Completes (.claim q) s fun t =>
      t = s) ∧
    (∀ (q : Req) (copies : Nat), q.opcode = 6 → q.sub = 2 → freeFor s q = true → claimAllowed q (takeIn q.port s) = .ok →
        (genAdvance 0 copies (takeIn q.port s)).1 = .ok → Completes (.reclaim q copies) s fun t =>
      (portOf t q.port).txn = some q ∧
      t.varN .claimPort = q.port + 1 ∧
      t.var .claimStage = 1 ∧
      t.jobs.length = s.jobs.length + 1 ∧
      t.mram = s.mram ∧
      t.oN Obj.keyGeneration = s.oN Obj.keyGeneration + 1 ∧
      (∀ k < 4, t.o (Obj.keyState k) = 0) ∧
      t.oB Obj.keyOwned = false) ∧
    (∀ (q : Req) (copies : Nat), q.sub ≠ 2 → Completes (.reclaim q copies) s fun t =>
      t = s) ∧
    (∀ (q : Req), q.opcode = 6 → q.sub = 3 → freeFor s q = true → keyedPass s q = true → claimAllowed q (takeIn q.port s) = .ok →
        q.counter < 0xF0000000 → engineFree s = true → Completes (.enrolSlot q) s fun t =>
      (portOf t q.port).txn = some q ∧
      t.varN .claimPort = q.port + 1 ∧
      t.var .claimStage = 1 ∧
      t.jobs.length = s.jobs.length + 1 ∧
      t.mram = s.mram ∧
      t.oN (Obj.keyLast 0) = q.counter ∧
      t.o Obj.keyGeneration = s.o Obj.keyGeneration) ∧
    (∀ (q : Req) (copies : Nat), q.opcode = 6 → q.sub = 4 → freeFor s q = true → keyedPass s q = true → claimAllowed q (takeIn
        q.port s) = .ok → q.counter < 0xF0000000 → (genAdvance 1 copies (takeIn q.port s)).1 = .ok → engineFree s = true → Completes
        (.transfer q copies) s fun t =>
      (portOf t q.port).txn = some q ∧
      t.varN .claimPort = q.port + 1 ∧
      t.var .claimStage = 1 ∧
      t.jobs.length = s.jobs.length + 1 ∧
      t.mram = s.mram ∧
      t.oN Obj.keyGeneration = s.oN Obj.keyGeneration + 1 ∧
      (∀ k < 4, t.o (Obj.keyState k) = 0)) ∧
    (∀ (slot copies : Nat), slot < 4 → s.varB .hwmOn slot = true → hwmCommitted s slot = true → s.now < s.varN .hwmAt slot + 1000 →
        s.keyQ = [] → Completes (.hwmCommitDone slot copies) s fun t =>
      t.o (Obj.keyHwm slot) = s.var .hwmVal slot ∧
      t.varB .hwmOn slot = false ∧
      t.mram = s.mram ∧
      Within [Obj.keyHwm slot] [.hwmOn] s t) ∧
    (∀ (slot copies p : Nat) (q : Req), slot < 4 → s.varB .hwmOn slot = true → hwmCommitted s slot = true → s.now < s.varN .hwmAt
        slot + 1000 → s.keyQ = [(slot, p)] → p < 5 → (portOf s p).txn = some q → q.port = p → q.slot = slot → q.opcode = 3 → objKey
        q.index q.sub = Obj.portBenchEn → q.index = keyIndex Obj.portBenchEn → q.sub = keySub Obj.portBenchEn → q.data = [1] →
        q.counter < 0xF0000000 → s.varB .hwmWarn slot = false → storeOk s Obj.portBenchEn = true → s.oN (Obj.keyLast slot) ≤
        q.counter → Completes (.hwmCommitDone slot copies) s fun t =>
      t.o (Obj.keyHwm slot) = s.var .hwmVal slot ∧
      t.varB .hwmOn slot = false ∧
      t.oN (Obj.keyLast slot) = q.counter ∧
      t.o Obj.portBenchEn = 1 ∧
      answered t q .ok = true ∧
      t.keyQ = [] ∧
      t.mram = s.mram ∧
      RegsWithin [Obj.keyHwm slot, Obj.keyLast slot, Obj.portBenchEn] [Obj.canTx] [.hwmOn] s t) ∧
    (∀ (slot copies : Nat), s.varB .hwmOn slot = false ∨ hwmCommitted s slot = false → Completes (.hwmCommitDone slot copies) s fun
        t =>
      t = s) ∧
    (∀ (slot p : Nat) (q : Req), slot < 4 → s.varB .hwmOn slot = true → s.varN .hwmAt slot + 1000 ≤ s.now → s.keyQ = [(slot, p)] → p
        < 5 → (portOf s p).txn = some q → q.port = p → q.opcode = 3 → Completes (.hwmCommitTimeout slot) s fun t =>
      t.o (Obj.keyHwm slot) = s.o (Obj.keyHwm slot) ∧
      t.o (Obj.keyLast slot) = s.o (Obj.keyLast slot) ∧
      t.varB .hwmOn slot = false ∧
      answered t q .busy = true ∧
      t.keyQ = [] ∧
      t.mram = s.mram ∧
      RegsWithin [Obj.nvmCorrected, Obj.nvmUncorr, Obj.nvmLastBad, Obj.ledgerStatus, Obj.nvmBufLines, Obj.nvmState] [Obj.canTx]
        [.hwmOn, .hwmWarn, .ledLost, .commitReq, .commitReqRound] s t) ∧
    (∀ (slot : Nat), s.varB .hwmOn slot = false ∨ s.now < s.varN .hwmAt slot + 1000 → Completes (.hwmCommitTimeout slot) s fun t =>
      t = s)

/-- R23, for a transaction that passes its format check (step 1 of R550) on a free port. Says that these complete: read, write,
writek, blockread, blockwrite, echo, claim, reclaim, enrolSlot, transfer. -/
def Obligations.BootAnswersBusy : Prop :=
  ∀ s : State,
    (∀ (q : Req), q.opcode = 1 → portUsable s q.port = true → canTaken q s = true → (portOf s q.port).txn = none → isReplay q s =
        false → formatOk q (takeIn q.port s) = true → s.mode = .boot → 0xFF < q.index → slotFree s q.port = true → Completes (.read
        q) s fun t =>
      answered t q .busy = true ∧
      t.mram = s.mram ∧
      t.deferred = s.deferred ∧
      RegsWithin [Obj.uartFrames] [Obj.canRx, Obj.canTx, Obj.spiFrames] [.spiErr, .spiBusy, .dSlots, .dqAt] s t) ∧
    (∀ (q : Req), q.opcode = 2 → portUsable s q.port = true → canTaken q s = true → (portOf s q.port).txn = none → isReplay q s =
        false → formatOk q (takeIn q.port s) = true → s.mode = .boot → slotFree s q.port = true → Completes (.write q) s fun t =>
      answered t q .busy = true ∧
      t.mram = s.mram ∧
      t.deferred = s.deferred ∧
      RegsWithin [Obj.uartFrames] [Obj.canRx, Obj.canTx, Obj.spiFrames] [.spiErr, .spiBusy, .dSlots, .dqAt] s t) ∧
    (∀ (q : Req) (copies : Nat), q.opcode = 3 → portUsable s q.port = true → canTaken q s = true → (portOf s q.port).txn = none →
        isReplay q s = false → formatOk q (takeIn q.port s) = true → s.mode = .boot → slotFree s q.port = true → Completes (.writek
        q copies) s fun t =>
      answered t q .busy = true ∧
      t.mram = s.mram ∧
      t.deferred = s.deferred ∧
      RegsWithin [Obj.uartFrames] [Obj.canRx, Obj.canTx, Obj.spiFrames] [.spiErr, .spiBusy, .dSlots, .dqAt] s t) ∧
    (∀ (q : Req), q.opcode = 4 → portUsable s q.port = true → canTaken q s = true → (portOf s q.port).txn = none → isReplay q s =
        false → formatOk q (takeIn q.port s) = true → s.mode = .boot → slotFree s q.port = true → Completes (.blockread q) s fun t
        =>
      answered t q .busy = true ∧
      t.mram = s.mram ∧
      t.deferred = s.deferred ∧
      RegsWithin [Obj.uartFrames] [Obj.canRx, Obj.canTx, Obj.spiFrames] [.spiErr, .spiBusy, .dSlots, .dqAt] s t) ∧
    (∀ (q : Req), q.opcode = 5 → portUsable s q.port = true → canTaken q s = true → (portOf s q.port).txn = none → isReplay q s =
        false → formatOk q (takeIn q.port s) = true → s.mode = .boot → slotFree s q.port = true → Completes (.blockwrite q) s fun t
        =>
      answered t q .busy = true ∧
      t.mram = s.mram ∧
      t.deferred = s.deferred ∧
      RegsWithin [Obj.uartFrames] [Obj.canRx, Obj.canTx, Obj.spiFrames] [.spiErr, .spiBusy, .dSlots, .dqAt] s t) ∧
    (∀ (q : Req), q.opcode = 8 → portUsable s q.port = true → canTaken q s = true → (portOf s q.port).txn = none → isReplay q s =
        false → formatOk q (takeIn q.port s) = true → s.mode = .boot → Completes (.echo q) s fun t =>
      (portOf t q.port).txn = some q ∧
      answered (echoTick t) q .busy = true ∧
      t.mram = s.mram ∧
      t.deferred = s.deferred ∧
      RegsWithin [Obj.uartFrames] [Obj.canRx, Obj.spiFrames] [.spiErr, .spiBusy] s t) ∧
    (∀ (q : Req), q.opcode = 6 → q.sub = 1 → portUsable s q.port = true → canTaken q s = true → (portOf s q.port).txn = none →
        isReplay q s = false → formatOk q (takeIn q.port s) = true → s.mode = .boot → slotFree s q.port = true → Completes (.claim
        q) s fun t =>
      answered t q .busy = true ∧
      t.mram = s.mram ∧
      RegsWithin [Obj.uartFrames] [Obj.canRx, Obj.canTx, Obj.spiFrames] [.spiErr, .spiBusy, .dSlots, .dqAt] s t) ∧
    (∀ (q : Req) (copies : Nat), q.opcode = 6 → q.sub = 2 → portUsable s q.port = true → canTaken q s = true → (portOf s q.port).txn
        = none → isReplay q s = false → formatOk q (takeIn q.port s) = true → s.mode = .boot → slotFree s q.port = true → Completes
        (.reclaim q copies) s fun t =>
      answered t q .busy = true ∧
      t.mram = s.mram ∧
      RegsWithin [Obj.uartFrames] [Obj.canRx, Obj.canTx, Obj.spiFrames] [.spiErr, .spiBusy, .dSlots, .dqAt] s t) ∧
    (∀ (q : Req), q.opcode = 6 → q.sub = 3 → portUsable s q.port = true → canTaken q s = true → (portOf s q.port).txn = none →
        isReplay q s = false → formatOk q (takeIn q.port s) = true → s.mode = .boot → slotFree s q.port = true → Completes
        (.enrolSlot q) s fun t =>
      answered t q .busy = true ∧
      t.mram = s.mram ∧
      RegsWithin [Obj.uartFrames] [Obj.canRx, Obj.canTx, Obj.spiFrames] [.spiErr, .spiBusy, .dSlots, .dqAt] s t) ∧
    (∀ (q : Req) (copies : Nat), q.opcode = 6 → q.sub = 4 → portUsable s q.port = true → canTaken q s = true → (portOf s q.port).txn
        = none → isReplay q s = false → formatOk q (takeIn q.port s) = true → s.mode = .boot → slotFree s q.port = true → Completes
        (.transfer q copies) s fun t =>
      answered t q .busy = true ∧
      t.mram = s.mram ∧
      RegsWithin [Obj.uartFrames] [Obj.canRx, Obj.canTx, Obj.spiFrames] [.spiErr, .spiBusy, .dSlots, .dqAt] s t)

/-- R7, for a transaction on a free port that passes its format check and arrives outside BOOT (steps 1 and 2 of R550). Says that
these complete: read, write, writek, blockread, blockwrite, echo. -/
def Obligations.ReservedIndicesDoNotExist : Prop :=
  ∀ s : State,
    (∀ (q : Req), q.opcode = 1 → portUsable s q.port = true → canTaken q s = true → (portOf s q.port).txn = none → isReplay q s =
        false → formatOk q (takeIn q.port s) = true → s.mode ≠ .boot → 0xF000 ≤ q.index → q.index ≤ 0xFFFF → slotFree s q.port =
        true → Completes (.read q) s fun t =>
      answered t q .noObject = true ∧
      t.mram = s.mram ∧
      t.deferred = s.deferred ∧
      RegsWithin [Obj.uartFrames] [Obj.canRx, Obj.canTx, Obj.spiFrames] [.spiErr, .spiBusy, .dSlots, .dqAt] s t) ∧
    (∀ (q : Req), q.opcode = 2 → portUsable s q.port = true → canTaken q s = true → (portOf s q.port).txn = none → isReplay q s =
        false → formatOk q (takeIn q.port s) = true → s.mode ≠ .boot → 0xF000 ≤ q.index → q.index ≤ 0xFFFF → slotFree s q.port =
        true → Completes (.write q) s fun t =>
      answered t q .noObject = true ∧
      t.mram = s.mram ∧
      t.deferred = s.deferred ∧
      RegsWithin [Obj.uartFrames] [Obj.canRx, Obj.canTx, Obj.spiFrames] [.spiErr, .spiBusy, .dSlots, .dqAt] s t) ∧
    (∀ (q : Req) (copies : Nat), q.opcode = 3 → portUsable s q.port = true → canTaken q s = true → (portOf s q.port).txn = none →
        isReplay q s = false → formatOk q (takeIn q.port s) = true → s.mode ≠ .boot → 0xF000 ≤ q.index → q.index ≤ 0xFFFF → slotFree
        s q.port = true → Completes (.writek q copies) s fun t =>
      answered t q .noObject = true ∧
      t.mram = s.mram ∧
      t.deferred = s.deferred ∧
      RegsWithin [Obj.uartFrames] [Obj.canRx, Obj.canTx, Obj.spiFrames] [.spiErr, .spiBusy, .dSlots, .dqAt] s t) ∧
    (∀ (q : Req), q.opcode = 4 → portUsable s q.port = true → canTaken q s = true → (portOf s q.port).txn = none → isReplay q s =
        false → formatOk q (takeIn q.port s) = true → s.mode ≠ .boot → 0xF000 ≤ q.index → q.index ≤ 0xFFFF → slotFree s q.port =
        true → Completes (.blockread q) s fun t =>
      answered t q .noObject = true ∧
      t.mram = s.mram ∧
      t.deferred = s.deferred ∧
      RegsWithin [Obj.uartFrames] [Obj.canRx, Obj.canTx, Obj.spiFrames] [.spiErr, .spiBusy, .dSlots, .dqAt] s t) ∧
    (∀ (q : Req), q.opcode = 5 → portUsable s q.port = true → canTaken q s = true → (portOf s q.port).txn = none → isReplay q s =
        false → formatOk q (takeIn q.port s) = true → s.mode ≠ .boot → 0xF000 ≤ q.index → q.index ≤ 0xFFFF → slotFree s q.port =
        true → Completes (.blockwrite q) s fun t =>
      answered t q .noObject = true ∧
      t.mram = s.mram ∧
      t.deferred = s.deferred ∧
      RegsWithin [Obj.uartFrames] [Obj.canRx, Obj.canTx, Obj.spiFrames] [.spiErr, .spiBusy, .dSlots, .dqAt] s t) ∧
    (∀ (q : Req), q.opcode = 8 → portUsable s q.port = true → canTaken q s = true → (portOf s q.port).txn = none → isReplay q s =
        false → formatOk q (takeIn q.port s) = true → s.mode ≠ .boot → 0xF000 ≤ q.index → q.index ≤ 0xFFFF → Completes (.echo q) s
        fun t =>
      (portOf t q.port).txn = some q ∧
      answered (echoTick t) q .noObject = true ∧
      t.mram = s.mram ∧
      t.deferred = s.deferred ∧
      RegsWithin [Obj.uartFrames] [Obj.canRx, Obj.spiFrames] [.spiErr, .spiBusy] s t)

/-- R10, for an object that the write may reach: its access code admits it, and a keyed write passes its tag and counter checks.
Says that these complete: write, writek, blockwrite. -/
def Obligations.WrongLengthIsRejected : Prop :=
  ∀ s : State,
    (∀ (q : Req) (r : Row), q.opcode = 2 → freeFor s q = true → objRow s q.index q.sub = some r → r.access = .rw ∨ r.access = .rws →
        q.data.length ≠ r.ty.size → Completes (.write q) s fun t =>
      answered t q .mismatch = true ∧
      t.mram = s.mram ∧
      t.deferred = s.deferred ∧
      RegsWithin [Obj.uartFrames] [Obj.canRx, Obj.canTx, Obj.spiFrames] [.spiErr, .spiBusy, .dSlots, .dqAt] s t) ∧
    (∀ (q : Req) (copies : Nat) (r : Row), q.opcode = 3 → freeFor s q = true → keyedPass s q = true → objRow s q.index q.sub = some
        r → r.access ≠ .ro → q.data.length ≠ r.ty.size → q.counter < 0xF0000000 → engineFree s = true → Completes (.writek q copies)
        s fun t =>
      answered t q .mismatch = true ∧
      t.mram = s.mram ∧
      t.deferred = s.deferred ∧
      RegsWithin [Obj.uartFrames, Obj.jobState 3, Obj.jobStarted 3, Obj.jobStepsDone 3, Obj.jobStepsTotal 3, Obj.nvmBufLines,
        Obj.nvmState, Obj.keyOwned, Obj.nvmCorrected, Obj.nvmUncorr, Obj.nvmLastBad, Obj.ledgerStatus] [Obj.canRx, Obj.canTx,
        Obj.spiFrames, Obj.keyLast, Obj.keyState] [.spiErr, .spiBusy, .dSlots, .dqAt, .hwmWarn, .commitReq, .commitReqRound,
        .ledLost] s t) ∧
    (∀ (q : Req), q.opcode = 5 → portUsable s q.port = true → canTaken q s = true → (portOf s q.port).txn = none → isReplay q s =
        false → q.index = keyIndex Obj.irqClear → q.sub = keySub Obj.irqClear → q.slot = 0 → q.data.length = q.len → q.len ≠ 16 → 1
        ≤ q.len → q.len ≤ 32 → s.mode ≠ .boot → slotFree s q.port = true → Completes (.blockwrite q) s fun t =>
      answered t q .mismatch = true ∧
      t.mram = s.mram ∧
      t.deferred = s.deferred ∧
      RegsWithin [Obj.uartFrames] [Obj.canRx, Obj.canTx, Obj.spiFrames] [.spiErr, .spiBusy, .dSlots, .dqAt] s t)

/-- R34, for keyed writes that pass their tag and counter checks; the values listed are 0x01, and for sys.ship 0x00 and 0x01. Says
that these complete: sysSafeRelease, sysReboot, sysShip. -/
def Obligations.ReleaseRebootShipValues : Prop :=
  ∀ s : State,
    (∀ (v : Byte) (c : Keyed), keyedOk s c (Obj.sysSafeRelease) = true → c.data = [v] → v ≠ 1 → Completes (.sysSafeRelease c) s fun
        t =>
      answered t (keyedReq c (Obj.sysSafeRelease)) .outOfRange = true ∧
      RegsWithin [Obj.uartFrames, Obj.jobState 3, Obj.jobStarted 3, Obj.jobStepsDone 3, Obj.jobStepsTotal 3, Obj.nvmBufLines,
        Obj.nvmState, Obj.keyOwned, Obj.nvmCorrected, Obj.nvmUncorr, Obj.nvmLastBad, Obj.ledgerStatus] [Obj.canRx, Obj.canTx,
        Obj.spiFrames, Obj.keyLast, Obj.keyState] [.spiErr, .spiBusy, .dSlots, .dqAt, .hwmWarn, .commitReq, .commitReqRound,
        .ledLost] s t) ∧
    (∀ (v : Byte) (c : Keyed), keyedOk s c (Obj.sysReboot) = true → c.data = [v] → v ≠ 1 → Completes (.sysReboot c) s fun t =>
      answered t (keyedReq c (Obj.sysReboot)) .outOfRange = true ∧
      RegsWithin [Obj.uartFrames, Obj.jobState 3, Obj.jobStarted 3, Obj.jobStepsDone 3, Obj.jobStepsTotal 3, Obj.nvmBufLines,
        Obj.nvmState, Obj.keyOwned, Obj.nvmCorrected, Obj.nvmUncorr, Obj.nvmLastBad, Obj.ledgerStatus] [Obj.canRx, Obj.canTx,
        Obj.spiFrames, Obj.keyLast, Obj.keyState] [.spiErr, .spiBusy, .dSlots, .dqAt, .hwmWarn, .commitReq, .commitReqRound,
        .ledLost] s t) ∧
    (∀ (v : Byte) (c : Keyed), keyedOk s c (Obj.sysShip) = true → c.data = [v] → v ≠ 0 → v ≠ 1 → Completes (.sysShip c) s fun t =>
      answered t (keyedReq c (Obj.sysShip)) .outOfRange = true ∧
      RegsWithin [Obj.uartFrames, Obj.jobState 3, Obj.jobStarted 3, Obj.jobStepsDone 3, Obj.jobStepsTotal 3, Obj.nvmBufLines,
        Obj.nvmState, Obj.keyOwned, Obj.nvmCorrected, Obj.nvmUncorr, Obj.nvmLastBad, Obj.ledgerStatus] [Obj.canRx, Obj.canTx,
        Obj.spiFrames, Obj.keyLast, Obj.keyState] [.spiErr, .spiBusy, .dSlots, .dqAt, .hwmWarn, .commitReq, .commitReqRound,
        .ledLost] s t) ∧
    (∀ (v : Byte) (c : Keyed), keyedOk s c (Obj.sysShip) = true → c.data = [v] → v = 0 ∨ v = 1 → s.mode ≠ .setup → s.mode ≠ .bench →
        Completes (.sysShip c) s fun t =>
      answered t (keyedReq c (Obj.sysShip)) .stateForbids = true ∧
      RegsWithin [Obj.uartFrames, Obj.jobState 3, Obj.jobStarted 3, Obj.jobStepsDone 3, Obj.jobStepsTotal 3, Obj.nvmBufLines,
        Obj.nvmState, Obj.keyOwned, Obj.nvmCorrected, Obj.nvmUncorr, Obj.nvmLastBad, Obj.ledgerStatus] [Obj.canRx, Obj.canTx,
        Obj.spiFrames, Obj.keyLast, Obj.keyState] [.spiErr, .spiBusy, .dSlots, .dqAt, .hwmWarn, .commitReq, .commitReqRound,
        .ledLost] s t)

/-- R551, port by port: SPI-A and SPI-B, CAN-A and CAN-B, the bench UART; what else changes is the book-keeping of R558 and R565.
Says that these complete: framingFailure. -/
def Obligations.FramingFailureIsDiscarded : Prop :=
  ∀ s : State,
    (∀ (p cause : Nat), s.mgtOn = true → p < 2 → cause ≤ 3 → Completes (.framingFailure p cause) s fun t =>
      (portOf t p).resp = none ∧
      (portOf t p).txn = (portOf s p).txn ∧
      t.o (Obj.spiFrameErr p) = (s.bump (Obj.spiFrameErr p)).o (Obj.spiFrameErr p) ∧
      t.varB .spiErr p = true ∧
      t.deferred = s.deferred ∧
      t.mram = s.mram ∧
      RegsWithin [Obj.spiFrameErr p] [] [.spiErr, .failCnt, .failCause, .failSeen, .limitStamp] s t) ∧
    (∀ (p cause : Nat), s.mgtOn = true → 2 ≤ p → p < 4 → cause ≤ 3 → Completes (.framingFailure p cause) s fun t =>
      t.ports = s.ports ∧
      t.o (Obj.canErrors (p - 2)) = (s.bump (Obj.canErrors (p - 2))).o (Obj.canErrors (p - 2)) ∧
      Within [Obj.canErrors (p - 2)] [.failCnt, .failCause, .failSeen, .limitStamp] s t) ∧
    (∀ (p cause : Nat), s.mgtOn = true → p = 4 → s.bit Obj.portFlags 4 = true → cause ≤ 3 → Completes (.framingFailure p cause) s
        fun t =>
      t.ports = s.ports ∧
      t.o Obj.uartFrameErr = (s.bump Obj.uartFrameErr).o Obj.uartFrameErr ∧
      Within [Obj.uartFrameErr] [.failCnt, .failCause, .failSeen, .limitStamp] s t)

/-- R106, for writes that reach the checks of the object, against the newest written values. Says that these complete: write. -/
def Obligations.SlopeBoundsChecked : Prop :=
  ∀ s : State,
    (∀ (q : Req) (n : Nat), q.opcode = 2 → freeFor s q = true → n < 48 → phaseExists s n = true → s.mode = .setup → q.index = 0x1000
        + n → q.sub = keySub (Obj.phaseSlopeMin 0) → storeOk s (Obj.phaseSlopeMin n) = true → q.data.length = 2 → newestOf s
        (Obj.phaseSlopeMax n) < (ofLeBytes q.data : Nat) → Completes (.write q) s fun t =>
      answered t q .outOfRange = true ∧
      newestOf t (Obj.phaseSlopeMin n) = newestOf s (Obj.phaseSlopeMin n) ∧
      RegsWithin [Obj.uartFrames] [Obj.canRx, Obj.canTx, Obj.spiFrames] [.spiErr, .spiBusy, .dSlots, .dqAt] s t) ∧
    (∀ (q : Req) (n : Nat), q.opcode = 2 → freeFor s q = true → n < 48 → phaseExists s n = true → s.mode = .setup → q.index = 0x1000
        + n → q.sub = keySub (Obj.phaseSlopeMax 0) → storeOk s (Obj.phaseSlopeMax n) = true → q.data.length = 2 → (ofLeBytes q.data
        : Nat) < newestOf s (Obj.phaseSlopeMin n) → Completes (.write q) s fun t =>
      answered t q .outOfRange = true ∧
      newestOf t (Obj.phaseSlopeMax n) = newestOf s (Obj.phaseSlopeMax n) ∧
      RegsWithin [Obj.uartFrames] [Obj.canRx, Obj.canTx, Obj.spiFrames] [.spiErr, .spiBusy, .dSlots, .dqAt] s t) ∧
    (∀ (q : Req) (n : Nat) (v : Int), q.opcode = 2 → freeFor s q = true → n < 48 → phaseExists s n = true → s.mode = .setup →
        q.index = 0x1000 + n → q.sub = keySub (Obj.phaseIlim 0) → storeOk s (Obj.phaseIlim n) = true → q.data.length = 4 → decodeVal
        .icode q.data = v → 1000 ≤ v → v ≤ 250000 → v < - newestOf s (Obj.phaseIneg n) → Completes (.write q) s fun t =>
      answered t q .ok = true ∧
      newestOf t (Obj.phaseIlim n) = v ∧
      RegsWithin [Obj.uartFrames, Obj.teamJournal, Obj.teamDqDepth, Obj.teamDqMax] [Obj.canRx, Obj.canTx, Obj.spiFrames] [.spiErr,
        .spiBusy, .dSlots, .dqAt] s t)

/-- A step takes the command at the front of the queue and runs it with the queue's rest. With nothing waiting the block stays as it is: the
model's choice, log entry 1. -/
def Obligations.StepTakesFront : Prop :=
  (∀ (c : Instr) (l : List Instr) (s : State), step { s with pending := c :: l } = exec c { s with pending := l }) ∧
  (∀ s : State, s.pending = [] → step s = .next s)

/-- The state right after reset: each object of the dictionary at its default (R22, R33), nothing in progress. That a blank MRAM byte and a
fuse nothing has burned read 0 is the model's choice (log entries 3 and 10), and so are the values of the objects whose Default column gives none (log entry 6). -/
def Obligations.ResetState : Prop :=
  State.reset.wf = true ∧ State.reset.pending = [] ∧ (∀ k, State.reset.o k = dictDefault k) ∧
  (∀ a, FMap.get 0 State.reset.mram a = 0) ∧ (∀ w, FMap.get 0 State.reset.otp w = 0) ∧ State.reset.jobs = [] ∧
  State.reset.buf = [] ∧ State.reset.queue = [] ∧ (∀ p < 5, portOf State.reset p = PortState.idle)

/-- The invariant of the model's data: objects, hidden quantities, pins, MRAM, fuses, shadows and histories stay in their one canonical form
whatever command runs, so that equal contents are equal states. -/
def Obligations.EveryStepKeepsForm : Prop :=
  ∀ s t : State, s.wf = true → step s = .next t → t.wf = true

/-- No command stops the block: it ends no run, whatever the state and the operands; a request that the rules turn away is answered with a
status of R15. The queue loses its front and nothing else. -/
def Obligations.EveryStepCompletes : Prop :=
  ∀ s : State, ∃ t, step s = .next t ∧ t.pending = s.pending.tail

/-- A fuse bit that is programmed stays programmed: no command, no reset, no loss of power clears one (R450 burns bits and nothing unburns them). -/
def Obligations.FusesOnlyBurn : Prop :=
  ∀ s t : State, step s = .next t → OtpKept s t

/-- The frame of the two memories over every command: a command outside the lists of Safety.lean leaves every MRAM byte, or every fuse, as
it was. -/
def Obligations.MemoriesWrittenByName : Prop :=
  ∀ (c : Instr) (s t : State), exec c s = .next t →
    (writesMram c = false → ∀ a, FMap.get 0 t.mram a = FMap.get 0 s.mram a) ∧
    (burnsFuses c = false → ∀ w, FMap.get 0 t.otp w = FMap.get 0 s.otp w)

/-- The frame of the sampled inputs and of the protocol ports over every command. -/
def Obligations.PortsAndPinsByName : Prop :=
  ∀ (c : Instr) (s t : State), exec c s = .next t →
    (takesSamples c = false → ∀ g i, t.pin g i = s.pin g i) ∧
    (usesPorts c = false → ∀ p, portOf t p = portOf s p)

/-- The bytes of a value, least significant first (R5), in two's complement for the signed types (R8): encoding and decoding undo each other
on every value that the type holds and on every byte string of its size. -/
def Obligations.ValuesTravelWhole : Prop :=
  (∀ (ty : Ty) (v : Int),
      (if ty.signed then -2 ^ (8 * ty.size - 1) ≤ v ∧ v < 2 ^ (8 * ty.size - 1) ∧ 0 < ty.size else 0 ≤ v ∧ v < 2 ^ (8 * ty.size)) →
      decodeVal ty (encodeVal ty v) = v ∧ (encodeVal ty v).length = ty.size) ∧
  (∀ (ty : Ty) (d : List Byte), d.length = ty.size → encodeVal ty (decodeVal ty d) = d)

/-- A write that lies in one line and finds room in the buffer (R436): its bytes read back at once, the rest of the line and every other
line read as before, and the array itself is untouched. -/
def Obligations.WrittenLineReadsBack : Prop :=
  ∀ (s : State) (a : Nat) (d : List Byte), d ≠ [] → a % 32 + d.length ≤ 32 → s.waiters = [] → s.buf.length < 128 →
    (∀ b ∈ s.buf, b.line ≠ a / 32) → (nvmLine s (a / 32)).1.length = 32 →
    nvmBytes (nvmWrite a d s) a d.length = d ∧
    (∀ i < 32, (i < a % 32 ∨ a % 32 + d.length ≤ i) →
      (nvmLine (nvmWrite a d s) (a / 32)).1[i]? = (nvmLine s (a / 32)).1[i]?) ∧
    (∀ l, l ≠ a / 32 → nvmLine (nvmWrite a d s) l = nvmLine s l) ∧
    (nvmWrite a d s).mram = s.mram

/-- The calendar of R417 over its range (R418): every date gives back its day number, each year has its leap day by R417, and the
last day of the range is 2399-12-31. -/
def Obligations.CalendarDates : Prop :=
  (∀ y m d : Nat, 2000 ≤ y → y < 2400 → 1 ≤ m → m ≤ 12 → 1 ≤ d → d ≤ monthLen y m →
      dateOf (daysOf y m d) = (y, m, d) ∧ daysOf y m d < 146097) ∧
  (∀ n : Nat, n < 146097 → ∃ y m d, dateOf n = (y, m, d) ∧ daysOf y m d = n ∧ 2000 ≤ y ∧ y < 2400 ∧ 1 ≤ m ∧ m ≤ 12 ∧
      1 ≤ d ∧ d ≤ monthLen y m) ∧
  daysOf 2000 1 1 = 0 ∧ daysOf 2399 12 31 = 146096
end

