-- ==== Sys2Proof/Laws/Crypto.lean ====
section
/-!
SUPPORT. The lengths of what AES-128 and CMAC answer: a key of 16 bytes gives round keys, blocks and a tag of 16 bytes
(R500, R508).
-/

namespace Sys2Proof.Machine

theorem aesKeys_length (n : Nat) : ∀ (rc : Byte) (k : List Byte), k.length = 16 → ∀ i < n, ((aesKeys n rc k).getD i []).length = 16 := by
  induction n with
  | zero => intro _ _ _ i h; omega
  | succ n ih =>
    intro rc k hk i hi
    match k, hk with
    | [a0, a1, a2, a3, b0, b1, b2, b3, c0, c1, c2, c3, d0, d1, d2, d3], _ =>
      cases i with
      | zero => simp [aesKeys]
      | succ i => exact ih _ _ (by simp) i (by omega)

theorem aesShift_length (s : List Byte) : (aesShift s).length = 16 := by simp [aesShift]

theorem aesEncrypt_length (key block : List Byte) (h : key.length = 16) : (aesEncrypt key block).length = 16 := by
  have := aesKeys_length 10 1 key h 9 (by omega)
  unfold aesEncrypt
  rw [List.length_zipWith, this, aesShift_length]
  rfl

theorem cmacChain_length (key : List Byte) (h : key.length = 16) : ∀ (n : Nat) (c d : List Byte),
    (cmacChain key (n + 1) c d).length = 16 := by
  intro n
  induction n with
  | zero => intro c d; rw [cmacChain, cmacChain]; exact aesEncrypt_length _ _ h
  | succ n ih => intro c d; rw [cmacChain]; exact ih _ _

theorem cmac_length (key msg : List Byte) (h : key.length = 16) : (cmac key msg).length = 16 := by
  unfold cmac
  exact cmacChain_length key h _ _ _

/-- A tag has 8 bytes. -/
theorem cmac_take_length (key msg : List Byte) (h : key.length = 16) : ((cmac key msg).take 8).length = 8 := by
  rw [List.length_take, cmac_length key msg h]; rfl

end Sys2Proof.Machine
end

