-- ==== Sys2Proof/Laws/Store.lean ====
section
/-!
SUPPORT. The laws of the sparse map: read after write, writes elsewhere, and that every write keeps the
canonical form.
-/

namespace Sys2Proof.Machine.FMap
variable {β : Type}

@[simp] theorem find_nil (k : Nat) : find ([] : FMap β) k = none := rfl

theorem find_insert_self (m : FMap β) (k : Nat) (v : β) : find (insert m k v) k = some v := by
  induction m with
  | nil => simp [insert, find]
  | cons p t ih =>
    obtain ⟨j, w⟩ := p
    simp only [insert]
    split
    · simp [find]
    · split
      · simp [find]
      · rename_i h1 h2
        simp only [find]
        rw [if_neg (fun h => h2 h.symm)]
        exact ih

theorem find_insert_ne (m : FMap β) {k k' : Nat} (v : β) (h : k' ≠ k) :
    find (insert m k v) k' = find m k' := by
  induction m with
  | nil => simp [insert, find, h.symm]
  | cons p t ih =>
    obtain ⟨j, w⟩ := p
    simp only [insert]
    split
    · simp [find, h.symm]
    · split
      · rename_i h2
        subst h2
        simp [find, h.symm]
      · simp only [find, ih]

theorem find_erase_self (m : FMap β) (k : Nat) : find (erase m k) k = none := by
  induction m with
  | nil => rfl
  | cons p t ih =>
    obtain ⟨j, w⟩ := p
    simp only [erase]
    split
    · exact ih
    · rename_i h; simp only [find, if_neg h, ih]

theorem find_erase_ne (m : FMap β) {k k' : Nat} (h : k' ≠ k) : find (erase m k) k' = find m k' := by
  induction m with
  | nil => rfl
  | cons p t ih =>
    obtain ⟨j, w⟩ := p
    simp only [erase]
    split
    · rename_i hj
      subst hj
      simp [find, ih, h.symm]
    · simp only [find, ih]

/-- A read after a write to the same key gives the value written. -/
@[simp] theorem get_set_self [DecidableEq β] (d : β) (m : FMap β) (k : Nat) (v : β) :
    get d (set d m k v) k = v := by
  unfold get set
  split
  · rename_i h; simp [find_erase_self, h]
  · simp [find_insert_self]

/-- A write leaves every other key alone, whatever that key's default is. -/
theorem get_set_ne [DecidableEq β] (d d' : β) (m : FMap β) {k k' : Nat} (v : β) (h : k' ≠ k) :
    get d' (set d m k v) k' = get d' m k' := by
  unfold get set
  split
  · rw [find_erase_ne m h]
  · rw [find_insert_ne m v h]

/-- Every key of the list lies above `b` and holds a value other than its default: the canonical form in
the shape inductions use. -/
def Above (d : Nat → β) : Option Nat → FMap β → Prop
  | _, [] => True
  | b, (k, v) :: t => (∀ x, b = some x → x < k) ∧ v ≠ d k ∧ Above d (some k) t

theorem above_mono (d : Nat → β) {b : Option Nat} {c : Option Nat} {m : FMap β}
    (h : Above d c m) (hb : ∀ x, b = some x → ∃ y, c = some y ∧ x ≤ y) : Above d b m := by
  cases m with
  | nil => trivial
  | cons p t =>
    obtain ⟨k, v⟩ := p
    refine ⟨?_, h.2.1, h.2.2⟩
    intro x hx
    obtain ⟨y, hy, hxy⟩ := hb x hx
    exact Nat.lt_of_le_of_lt hxy (h.1 y hy)

theorem above_insert (d : Nat → β) (m : FMap β) (b : Option Nat) (k : Nat) (v : β)
    (hk : ∀ x, b = some x → x < k) (hv : v ≠ d k) (h : Above d b m) : Above d b (insert m k v) := by
  induction m generalizing b with
  | nil => exact ⟨hk, hv, trivial⟩
  | cons p t ih =>
    obtain ⟨j, w⟩ := p
    simp only [insert]
    split
    · rename_i hlt
      exact ⟨hk, hv, fun x hx => by cases hx; exact hlt, h.2.1, h.2.2⟩
    · split
      · rename_i he
        subst he
        exact ⟨h.1, hv, h.2.2⟩
      · exact ⟨h.1, h.2.1, ih (some j) (fun x hx => by cases hx; omega) h.2.2⟩

theorem above_erase (d : Nat → β) (m : FMap β) (b : Option Nat) (k : Nat) (h : Above d b m) :
    Above d b (erase m k) := by
  induction m generalizing b with
  | nil => trivial
  | cons p t ih =>
    obtain ⟨j, w⟩ := p
    simp only [erase]
    split
    · refine ih b (above_mono d h.2.2 ?_)
      intro x hx
      exact ⟨j, rfl, Nat.le_of_lt (h.1 x hx)⟩
    · exact ⟨h.1, h.2.1, ih (some j) h.2.2⟩

theorem wf_iff_above [DecidableEq β] (d : Nat → β) (m : FMap β) : wf d m = true ↔ Above d none m := by
  have key : ∀ (m : FMap β) (b : Option Nat), Above d b m ↔
      (wf d m = true ∧ ∀ x, b = some x → ∀ k v t, m = (k, v) :: t → x < k) := by
    intro m
    induction m with
    | nil => intro b; simp [Above, wf]
    | cons p t ih =>
      obtain ⟨k, v⟩ := p
      intro b
      cases t with
      | nil =>
        constructor
        · rintro ⟨h1, h2, -⟩
          refine ⟨by simp [wf, h2], ?_⟩
          intro x hx k' v' t' he
          cases he
          exact h1 x hx
        · rintro ⟨h1, h2⟩
          refine ⟨fun x hx => h2 x hx k v [] rfl, ?_, trivial⟩
          simpa [wf] using h1
      | cons q u =>
        obtain ⟨j, w⟩ := q
        constructor
        · rintro ⟨h1, h2, h3⟩
          have h4 := (ih (some k)).1 h3
          refine ⟨?_, ?_⟩
          · have := h4.2 k rfl j w u rfl
            simp [wf, h2, this, h4.1]
          · intro x hx k' v' t' he
            cases he
            exact h1 x hx
        · rintro ⟨h1, h2⟩
          simp only [wf, Bool.and_eq_true, Bool.not_eq_true', decide_eq_false_iff_not, decide_eq_true_eq] at h1
          refine ⟨fun x hx => h2 x hx k v _ rfl, h1.1.1, (ih (some k)).2 ⟨h1.2, ?_⟩⟩
          intro x hx k' v' t' he
          cases hx
          cases he
          exact h1.1.2
  have h := key m none
  rw [h]
  simp

/-- Every write keeps the canonical form. -/
theorem wf_set [DecidableEq β] (d : Nat → β) (m : FMap β) (k : Nat) (v : β) (h : wf d m = true) :
    wf d (set (d k) m k v) = true := by
  rw [wf_iff_above] at *
  unfold set
  split
  · exact above_erase d m none k h
  · rename_i hv; exact above_insert d m none k v (fun x hx => by cases hx) hv h

theorem wf_setMany [DecidableEq β] (d : β) (m : FMap β) (k : Nat) (vs : List β) (h : wf (fun _ => d) m = true) :
    wf (fun _ => d) (setMany d m k vs) = true := by
  induction vs generalizing m k with
  | nil => exact h
  | cons v vs ih => exact ih _ _ (wf_set (fun _ => d) m k v h)

theorem above_filter (d : Nat → β) (p : Nat × β → Bool) (m : FMap β) (b : Option Nat) (h : Above d b m) :
    Above d b (m.filter p) := by
  induction m generalizing b with
  | nil => trivial
  | cons q t ih =>
    obtain ⟨k, v⟩ := q
    rw [List.filter_cons]
    split
    · exact ⟨h.1, h.2.1, ih (some k) h.2.2⟩
    · exact ih b (above_mono d h.2.2 fun x hx => ⟨k, rfl, Nat.le_of_lt (h.1 x hx)⟩)

/-- Leaving entries out keeps the canonical form. -/
theorem wf_filter [DecidableEq β] (d : Nat → β) (p : Nat × β → Bool) (m : FMap β) (h : wf d m = true) :
    wf d (m.filter p) = true := by
  rw [wf_iff_above] at *
  exact above_filter d p m none h

end Sys2Proof.Machine.FMap
end

