-- ==== Sys2Proof/Laws/Keeps.lean ====
section
/-!
SUPPORT. What the shared operations keep (Safety.lean's `Keeps`), and how that passes through the forms the meanings are
written in: choices, pairs, outcomes, loops.
-/

namespace Sys2Proof.Machine

/-- The state of a pair keeps a property. -/
def PairP {α β : Type} (P : β → Prop) (p : α × β) : Prop := P p.2

/-- What an option holds keeps a property. -/
def OptP {β : Type} (P : β → Prop) (o : Option β) : Prop := ∀ x, o = some x → P x

/-- The outcome is a next state, and that state has a property. -/
def OutP (P : State → Prop) (o : Out) : Prop := ∃ t, o = .next t ∧ P t

section Forms
variable {α β : Type}

theorem ite_keeps {P : β → Prop} {c : Prop} {inst : Decidable c} {a b : β} (ha : P a) (hb : P b) : P (if c then a else b) := by
  split <;> assumption

theorem pair_mk {P : β → Prop} {a : α} {b : β} (h : P b) : PairP P (a, b) := h

theorem out_next {P : State → Prop} {t : State} (h : P t) : OutP P (.next t) := ⟨t, rfl, h⟩

theorem opt_some {P : β → Prop} {b : β} (h : P b) : OptP P (some b) := fun _ e => by cases e; exact h

theorem opt_none {P : β → Prop} : OptP P (none : Option β) := fun _ e => by cases e

theorem pair_match {γ : Type} {P : γ → Prop} {Q : β → Prop} {p : α × β} {f : α → β → γ} (hp : PairP Q p)
    (hf : ∀ a t, Q t → P (f a t)) : P (match (generalizing := false) p with | (a, t) => f a t) := hf p.1 p.2 hp

theorem pair_match3 {γ δ : Type} {P : γ → Prop} {Q : δ → Prop} {p : α × β × δ} {f : α → β → δ → γ} (hp : PairP (PairP Q) p)
    (hf : ∀ a b t, Q t → P (f a b t)) : P (match (generalizing := false) p with | (a, b, t) => f a b t) := hf p.1 p.2.1 p.2.2 hp

theorem pair_of_eq {Q : β → Prop} {p : α × β} {a : α} {b : β} (e : p = (a, b)) (hp : PairP Q p) : Q b := by
  subst e; exact hp

theorem pair_of_eq3 {γ : Type} {Q : γ → Prop} {p : α × β × γ} {a : α} {b : β} {c : γ} (e : p = (a, b, c))
    (hp : PairP (PairP Q) p) : Q c := by
  subst e; exact hp

theorem opt_pair_of_eq {Q : β → Prop} {o : Option (α × β)} {a : α} {b : β} (e : o = some (a, b)) (h : OptP (PairP Q) o) :
    Q b := h _ e

theorem foldl_keeps {P : β → Prop} {f : β → α → β} {l : List α} {b : β} (h : P b) (hf : ∀ a t, P t → P (f t a)) :
    P (l.foldl f b) := by
  induction l generalizing b with
  | nil => exact h
  | cons x l ih => exact ih (hf x b h)

theorem forRange_keeps {P : State → Prop} {n : Nat} {f : Nat → State → State} {s : State} (h : P s)
    (hf : ∀ i t, P t → P (f i t)) : P (s.forRange n f) := by
  induction n with
  | zero => exact h
  | succ n ih => exact hf n _ ih

theorem forEach_keeps {P : State → Prop} {l : List α} {f : α → State → State} {s : State} (h : P s)
    (hf : ∀ a t, P t → P (f a t)) : P (s.forEach l f) := foldl_keeps h hf

end Forms

section Primitives
variable {w : Touch} {s0 s t : State}

theorem Keeps.refl : Keeps w s s :=
  ⟨rfl, id, fun _ _ h => h, fun _ => rfl, fun _ => rfl, fun _ => rfl, fun _ => rfl⟩

theorem Keeps.trans (h : Keeps w s0 s) (k : Keeps w s t) : Keeps w s0 t :=
  ⟨k.pending.trans h.pending, fun x => k.wf (h.wf x), fun a b x => k.fuses a b (h.fuses a b x),
    fun x => (k.mram x).trans (h.mram x), fun x => (k.otp x).trans (h.otp x), fun x => (k.pins x).trans (h.pins x),
    fun x => (k.ports x).trans (h.ports x)⟩

/-- A change of the other fields keeps everything. -/
theorem Keeps.same (h : Keeps w s0 s) (h1 : t.pending = s.pending) (h2 : t.objs = s.objs) (h3 : t.vars = s.vars)
    (h4 : t.pins = s.pins) (h5 : t.mram = s.mram) (h6 : t.otp = s.otp) (h7 : t.shadow = s.shadow) (h8 : t.hists = s.hists)
    (h9 : t.dlast = s.dlast) (h10 : t.romDfl = s.romDfl) (h11 : t.ports = s.ports) : Keeps w s0 t := by
  refine h.trans ⟨h1, ?_, ?_, fun _ => h5, fun _ => h6, fun _ => h4, fun _ => h11⟩
  · simp only [State.wf, h2, h3, h4, h5, h6, h7, h8, h9, h10]; exact id
  · intro a b x; rw [h6]; exact x

/-- A change of the ports, and of fields that no store is. -/
theorem Keeps.samePorts (hw : w.ports = true) (h : Keeps w s0 s) (h1 : t.pending = s.pending) (h2 : t.objs = s.objs)
    (h3 : t.vars = s.vars) (h4 : t.pins = s.pins) (h5 : t.mram = s.mram) (h6 : t.otp = s.otp) (h7 : t.shadow = s.shadow)
    (h8 : t.hists = s.hists) (h9 : t.dlast = s.dlast) (h10 : t.romDfl = s.romDfl) : Keeps w s0 t := by
  refine h.trans ⟨h1, ?_, ?_, fun _ => h5, fun _ => h6, fun _ => h4, fun x => by rw [hw] at x; cases x⟩
  · simp only [State.wf, h2, h3, h4, h5, h6, h7, h8, h9, h10]; exact id
  · intro a b x; rw [h6]; exact x

/-- A change of stores that leaves each in canonical form, and of parts that may be touched. -/
theorem Keeps.stores (h : Keeps w s0 s) (h1 : t.pending = s.pending) (h2 : s.wf = true → t.wf = true) (h3 : OtpKept s t)
    (h4 : w.mram = false → t.mram = s.mram) (h5 : w.otp = false → t.otp = s.otp) (h6 : w.pins = false → t.pins = s.pins)
    (h7 : w.ports = false → t.ports = s.ports) : Keeps w s0 t := h.trans ⟨h1, h2, h3, h4, h5, h6, h7⟩

theorem OtpKept.same (h : t.otp = s.otp) : OtpKept s t := fun a b x => by rw [h]; exact x

/-- The canonical form, store by store. -/
theorem wf_parts : s.wf = true ↔ FMap.wf dictDefault s.objs = true ∧ FMap.wf (fun _ => 0) s.vars = true ∧
    FMap.wf (fun _ => 0) s.pins = true ∧ FMap.wf (fun _ => 0) s.mram = true ∧ FMap.wf (fun _ => 0) s.otp = true ∧
    FMap.wf (fun _ => 0) s.shadow = true ∧ FMap.wf (fun _ => []) s.hists = true ∧ FMap.wf (fun _ => -1) s.dlast = true ∧
    FMap.wf (fun _ => 0) s.romDfl = true := by
  simp only [State.wf, Bool.and_eq_true, and_assoc]

theorem keeps_setO {k : Nat} {v : Int} (h : Keeps w s0 s) : Keeps w s0 (s.setO k v) := by
  refine h.stores rfl ?_ (OtpKept.same rfl) (fun _ => rfl) (fun _ => rfl) (fun _ => rfl) fun _ => rfl
  simp only [wf_parts, State.setO]
  exact fun ⟨a, b⟩ => ⟨FMap.wf_set _ _ _ _ a, b⟩

theorem keeps_setVar {k : VarKind} {v : Int} {i j : Nat} (h : Keeps w s0 s) : Keeps w s0 (s.setVar k v i j) := by
  refine h.stores rfl ?_ (OtpKept.same rfl) (fun _ => rfl) (fun _ => rfl) (fun _ => rfl) fun _ => rfl
  simp only [wf_parts, State.setVar]
  exact fun ⟨a, b, c⟩ => ⟨a, FMap.wf_set (fun _ => 0) _ _ _ b, c⟩

theorem keeps_setPin {g : Sig} {v : Int} {i : Nat} (hp : w.pins = true) (h : Keeps w s0 s) : Keeps w s0 (s.setPin g v i) := by
  refine h.stores rfl ?_ (OtpKept.same rfl) (fun _ => rfl) (fun _ => rfl) (fun x => by rw [hp] at x; cases x) fun _ => rfl
  simp only [wf_parts, State.setPin]
  exact fun ⟨a, b, c, d⟩ => ⟨a, b, FMap.wf_set (fun _ => 0) _ _ _ c, d⟩

theorem keeps_setHist {k : VarKind} {l : List Int} {i : Nat} (h : Keeps w s0 s) : Keeps w s0 (s.setHist k l i) := by
  refine h.stores rfl ?_ (OtpKept.same rfl) (fun _ => rfl) (fun _ => rfl) (fun _ => rfl) fun _ => rfl
  simp only [wf_parts, State.setHist]
  exact fun ⟨a, b, c, d, e, f, g, i⟩ => ⟨a, b, c, d, e, f, FMap.wf_set (fun _ => []) _ _ _ g, i⟩

theorem keeps_writeMram {a : Nat} {d : List Byte} (hm : w.mram = true) (h : Keeps w s0 s) : Keeps w s0 (s.writeMram a d) := by
  refine h.stores rfl ?_ (OtpKept.same rfl) (fun x => by rw [hm] at x; cases x) (fun _ => rfl) (fun _ => rfl) fun _ => rfl
  simp only [wf_parts, State.writeMram]
  exact fun ⟨a, b, c, d, e⟩ => ⟨a, b, c, FMap.wf_setMany _ _ _ _ d, e⟩

theorem keeps_burnFuse {a v : Nat} (ho : w.otp = true) (h : Keeps w s0 s) : Keeps w s0 (s.burnFuse a v) := by
  refine h.stores rfl ?_ ?_ (fun _ => rfl) (fun x => by rw [ho] at x; cases x) (fun _ => rfl) fun _ => rfl
  · simp only [wf_parts, State.burnFuse]
    exact fun ⟨a, b, c, d, e, f, g⟩ =>
      ⟨a, b, c, d, FMap.wf_set (fun _ => 0) _ _ _ e, FMap.wf_set (fun _ => 0) _ _ _ f, g⟩
  · intro k b x
    simp only [State.burnFuse]
    by_cases hk : k = a
    · subst hk; rw [FMap.get_set_self, Nat.testBit_or, x]; rfl
    · rw [FMap.get_set_ne _ _ _ _ hk]; exact x

theorem keeps_setShadow {a v : Nat} (h : Keeps w s0 s) : Keeps w s0 (s.setShadow a v) := by
  refine h.stores rfl ?_ (OtpKept.same rfl) (fun _ => rfl) (fun _ => rfl) (fun _ => rfl) fun _ => rfl
  simp only [wf_parts, State.setShadow]
  exact fun ⟨a, b, c, d, e, f, g⟩ => ⟨a, b, c, d, e, FMap.wf_set (fun _ => 0) _ _ _ f, g⟩

theorem keeps_setRom {k : Nat} {v : Int} (h : Keeps w s0 s) : Keeps w s0 (s.setRom k v) := by
  refine h.stores rfl ?_ (OtpKept.same rfl) (fun _ => rfl) (fun _ => rfl) (fun _ => rfl) fun _ => rfl
  simp only [wf_parts, State.setRom]
  exact fun ⟨a, b, c, d, e, f, g, i, j⟩ => ⟨a, b, c, d, e, f, g, i, FMap.wf_set (fun _ => 0) _ _ _ j⟩

theorem keeps_clearRom (h : Keeps w s0 s) : Keeps w s0 s.clearRom := by
  refine h.stores rfl ?_ (OtpKept.same rfl) (fun _ => rfl) (fun _ => rfl) (fun _ => rfl) fun _ => rfl
  simp only [wf_parts, State.clearRom]
  exact fun ⟨a, b, c, d, e, f, g, i, _⟩ => ⟨a, b, c, d, e, f, g, i, rfl⟩

theorem keeps_setLast {k : Nat} {v : Int} (h : Keeps w s0 s) : Keeps w s0 (s.setLast k v) := by
  refine h.stores rfl ?_ (OtpKept.same rfl) (fun _ => rfl) (fun _ => rfl) (fun _ => rfl) fun _ => rfl
  simp only [wf_parts, State.setLast]
  exact fun ⟨a, b, c, d, e, f, g, i, j⟩ => ⟨a, b, c, d, e, f, g, FMap.wf_set (fun _ => -1) _ _ _ i, j⟩

theorem keeps_clearLast (h : Keeps w s0 s) : Keeps w s0 s.clearLast := by
  refine h.stores rfl ?_ (OtpKept.same rfl) (fun _ => rfl) (fun _ => rfl) (fun _ => rfl) fun _ => rfl
  simp only [wf_parts, State.clearLast]
  exact fun ⟨a, b, c, d, e, f, g, _, j⟩ => ⟨a, b, c, d, e, f, g, rfl, j⟩

theorem keeps_keepObjs {p : Nat → Bool} (h : Keeps w s0 s) : Keeps w s0 (s.keepObjs p) := by
  refine h.stores rfl ?_ (OtpKept.same rfl) (fun _ => rfl) (fun _ => rfl) (fun _ => rfl) fun _ => rfl
  simp only [wf_parts, State.keepObjs]
  exact fun ⟨a, b⟩ => ⟨FMap.wf_filter _ _ _ a, b⟩

theorem keeps_keepVars {p : Nat → Bool} (h : Keeps w s0 s) : Keeps w s0 (s.keepVars p) := by
  refine h.stores rfl ?_ (OtpKept.same rfl) (fun _ => rfl) (fun _ => rfl) (fun _ => rfl) fun _ => rfl
  simp only [wf_parts, State.keepVars]
  exact fun ⟨a, b, c⟩ => ⟨a, FMap.wf_filter _ _ _ b, c⟩

theorem keeps_keepHists {p : Nat → Bool} (h : Keeps w s0 s) : Keeps w s0 (s.keepHists p) := by
  refine h.stores rfl ?_ (OtpKept.same rfl) (fun _ => rfl) (fun _ => rfl) (fun _ => rfl) fun _ => rfl
  simp only [wf_parts, State.keepHists]
  exact fun ⟨a, b, c, d, e, f, g, i⟩ => ⟨a, b, c, d, e, f, FMap.wf_filter _ _ _ g, i⟩

end Primitives

end Sys2Proof.Machine
end

