-- ==== Sys2Proof/Laws/KeepsOps.lean ====
section
/-!
SUPPORT. What the definitions of Machine/Ops.lean keep: each passes on the queue, the canonical form, the programmed fuses, and
every part that its hypotheses do not let it write.
-/

namespace Sys2Proof.Machine
open State

theorem keeps_setFlag {w : Touch} {s0 s : State} {a1 a2 a3 a4} (h0 : Keeps w s0 s) : Keeps w s0 (State.setFlag s a1 a2 a3 a4)
      := by
  unfold State.setFlag
  exact (keeps_setVar h0)

theorem keeps_setOB {w : Touch} {s0 s : State} {a1 a2} (h0 : Keeps w s0 s) : Keeps w s0 (State.setOB s a1 a2) := by
  unfold State.setOB
  exact (keeps_setO h0)

theorem keeps_setBit {w : Touch} {s0 s : State} {a1 a2 a3} (h0 : Keeps w s0 s) : Keeps w s0 (State.setBit s a1 a2 a3) := by
  unfold State.setBit
  exact (keeps_setO h0)

theorem keeps_addO {w : Touch} {s0 s : State} {a1 a2} (h0 : Keeps w s0 s) : Keeps w s0 (State.addO s a1 a2) := by
  unfold State.addO
  exact (keeps_setO h0)

theorem keeps_addVar {w : Touch} {s0 s : State} {a1 a2 a3 a4} (h0 : Keeps w s0 s) : Keeps w s0 (State.addVar s a1 a2 a3 a4)
      := by
  unfold State.addVar
  exact (keeps_setVar h0)

theorem keeps_bump {w : Touch} {s0 s : State} {a1 a2} (h0 : Keeps w s0 s) : Keeps w s0 (State.bump s a1 a2) := by
  unfold State.bump
  exact (keeps_setO h0)

theorem keeps_bumpSat {w : Touch} {s0 s : State} {a1 a2} (h0 : Keeps w s0 s) : Keeps w s0 (State.bumpSat s a1 a2) := by
  unfold State.bumpSat
  exact (keeps_setO h0)

theorem keeps_addSat {w : Touch} {s0 s : State} {a1 a2 a3} (h0 : Keeps w s0 s) : Keeps w s0 (State.addSat s a1 a2 a3) := by
  unfold State.addSat
  exact (keeps_setO h0)

theorem keeps_startT {w : Touch} {s0 s : State} {a1 a2 a3 a4} (h0 : Keeps w s0 s) : Keeps w s0 (State.startT s a1 a2 a3 a4)
      := by
  unfold State.startT
  exact (keeps_setVar h0)

theorem keeps_startTR {w : Touch} {s0 s : State} {a1 a2 a3 a4} (h0 : Keeps w s0 s) : Keeps w s0 (State.startTR s a1 a2 a3 a4)
      := by
  unfold State.startTR
  exact (keeps_setVar h0)

theorem keeps_stopT {w : Touch} {s0 s : State} {a1 a2 a3} (h0 : Keeps w s0 s) : Keeps w s0 (State.stopT s a1 a2 a3) := by
  unfold State.stopT
  exact (keeps_setVar h0)

theorem keeps_countCond {w : Touch} {s0 s : State} {a1 a2 a3 a4} (h0 : Keeps w s0 s) : Keeps w s0 (State.countCond s a1 a2 a3
      a4) := by
  unfold State.countCond
  exact (ite_keeps (keeps_setVar h0) (keeps_setVar h0))

theorem keeps_raiseAction {w : Touch} {s0 s : State} {a1 a2 a3} (h0 : Keeps w s0 s) : Keeps w s0 (State.raiseAction s a1 a2
      a3) := by
  unfold State.raiseAction
  exact (Keeps.same h0 rfl rfl rfl rfl rfl rfl rfl rfl rfl rfl rfl)

theorem keeps_raise {w : Touch} {s0 s : State} {a1 a2 a3} (h0 : Keeps w s0 s) : Keeps w s0 (State.raise s a1 a2 a3) := by
  unfold State.raise
  exact (ite_keeps h0 (keeps_setBit (keeps_raiseAction h0)))

theorem keeps_raiseActionLater {w : Touch} {s0 s : State} {a1 a2 a3} (h0 : Keeps w s0 s) : Keeps w s0 (State.raiseActionLater
      s a1 a2 a3) := by
  unfold State.raiseActionLater
  exact (Keeps.same h0 rfl rfl rfl rfl rfl rfl rfl rfl rfl rfl rfl)

theorem keeps_raiseLater {w : Touch} {s0 s : State} {a1 a2 a3} (h0 : Keeps w s0 s) : Keeps w s0 (State.raiseLater s a1 a2 a3)
      := by
  unfold State.raiseLater
  exact (ite_keeps h0 (keeps_setBit (keeps_raiseActionLater h0)))

theorem keeps_takeArrived {w : Touch} {s0 s : State} (h0 : Keeps w s0 s) : Keeps w s0 (State.takeArrived s) := by
  unfold State.takeArrived
  exact (Keeps.same h0 rfl rfl rfl rfl rfl rfl rfl rfl rfl rfl rfl)

theorem keeps_condOff {w : Touch} {s0 s : State} {a1 a2} (h0 : Keeps w s0 s) : Keeps w s0 (State.condOff s a1 a2) := by
  unfold State.condOff
  exact (ite_keeps (keeps_setBit h0) h0)

theorem keeps_record {w : Touch} {s0 s : State} {a1 a2} (h0 : Keeps w s0 s) : Keeps w s0 (State.record s a1 a2) := by
  unfold State.record
  exact (Keeps.same h0 rfl rfl rfl rfl rfl rfl rfl rfl rfl rfl rfl)

theorem keeps_recordPer {w : Touch} {s0 s : State} {a1 a2 a3 a4} (h0 : Keeps w s0 s) : Keeps w s0 (State.recordPer s a1 a2 a3
      a4) := by
  unfold State.recordPer
  exact (ite_keeps (Keeps.same h0 rfl rfl rfl rfl rfl rfl rfl rfl rfl rfl rfl) (keeps_setVar (keeps_record h0)))

theorem keeps_raisePer {w : Touch} {s0 s : State} {a1 a2 a3 a4} (h0 : Keeps w s0 s) : Keeps w s0 (State.raisePer s a1 a2 a3
      a4) := by
  unfold State.raisePer
  exact (ite_keeps (Keeps.same h0 rfl rfl rfl rfl rfl rfl rfl rfl rfl rfl rfl) (keeps_setVar (keeps_raiseAction h0)))

theorem keeps_raisePerLater {w : Touch} {s0 s : State} {a1 a2 a3 a4} (h0 : Keeps w s0 s) : Keeps w s0 (State.raisePerLater s
      a1 a2 a3 a4) := by
  unfold State.raisePerLater
  exact (ite_keeps (Keeps.same h0 rfl rfl rfl rfl rfl rfl rfl rfl rfl rfl rfl) (keeps_setVar (keeps_raiseActionLater h0)))

theorem keeps_post {w : Touch} {s0 s : State} {a1} (h0 : Keeps w s0 s) : Keeps w s0 (State.post s a1) := by
  unfold State.post
  exact (Keeps.same h0 rfl rfl rfl rfl rfl rfl rfl rfl rfl rfl rfl)

theorem keeps_requestMode {w : Touch} {s0 s : State} {a1 a2} (h0 : Keeps w s0 s) : Keeps w s0 (State.requestMode s a1 a2) :=
      by
  unfold State.requestMode
  exact (keeps_setVar h0)

theorem keeps_drawFree {w : Touch} {s0 s : State} (h0 : Keeps w s0 s) : PairP (Keeps w s0) (State.drawFree s) := by
  unfold State.drawFree
  exact (pair_mk (Keeps.same h0 rfl rfl rfl rfl rfl rfl rfl rfl rfl rfl rfl))

theorem keeps_lateEvents {w : Touch} {s0 s : State} {a0} (hf0 : ∀ b0, Keeps w s0 b0 → Keeps w s0 (a0 b0)) (h0 : Keeps w s0 s)
      : Keeps w s0 (lateEvents a0 s) := by
  unfold lateEvents
  extract_lets +onlyGivenNames x1
  have h2 : Keeps w s0 x1 := (hf0 _ h0)
  clear_value x1
  exact (Keeps.same h2 rfl rfl rfl rfl rfl rfl rfl rfl rfl rfl rfl)

end Sys2Proof.Machine
end

