-- ==== Sys2Proof/Laws/KeepsDrive.lean ====
section
/-!
SUPPORT. What the definitions of Machine/Drive.lean keep: each passes on the queue, the canonical form, the programmed fuses, and
every part that its hypotheses do not let it write.
-/

namespace Sys2Proof.Machine
open State

theorem keeps_setRailState {w : Touch} {s0 s : State} {a0 a1} (h0 : Keeps w s0 s) : Keeps w s0 (setRailState a0 a1 s) := by
  unfold setRailState
  extract_lets +onlyGivenNames x1
  have h2 : Keeps w s0 x1 := (ite_keeps h0 (keeps_setVar h0))
  clear_value x1
  exact (ite_keeps (keeps_setO h2) (ite_keeps (keeps_setO h2) (keeps_setVar h2)))

theorem keeps_respread {w : Touch} {s0 s : State} {a0 a1 a2} (h0 : Keeps w s0 s) : Keeps w s0 (respread a0 a1 a2 s) := by
  unfold respread
  extract_lets +onlyGivenNames x1
  clear_value x1
  extract_lets +onlyGivenNames x2
  clear_value x2
  refine forEach_keeps h0 fun _ _ h4 => ?_
  extract_lets +onlyGivenNames x5
  clear_value x5
  extract_lets +onlyGivenNames x6
  clear_value x6
  exact (keeps_setVar (keeps_setVar (keeps_setVar h4)))

theorem keeps_showOffsets {w : Touch} {s0 s : State} {a0} (h0 : Keeps w s0 s) : Keeps w s0 (showOffsets a0 s) := by
  unfold showOffsets
  extract_lets +onlyGivenNames x1
  clear_value x1
  exact (keeps_setO h0)

theorem keeps_showPool {w : Touch} {s0 s : State} {a0} (h0 : Keeps w s0 s) : Keeps w s0 (showPool a0 s) := by
  unfold showPool
  extract_lets +onlyGivenNames x1
  clear_value x1
  extract_lets +onlyGivenNames x2
  have h3 : Keeps w s0 x2 := (keeps_setO (keeps_setO h0))
  clear_value x2
  exact (keeps_showOffsets (keeps_setO (keeps_setO h3)))

theorem keeps_applySet {w : Touch} {s0 s : State} {a0 a1} (h0 : Keeps w s0 s) : Keeps w s0 (applySet a0 a1 s) := by
  unfold applySet
  extract_lets +onlyGivenNames x1
  clear_value x1
  extract_lets +onlyGivenNames x2
  have h3 : Keeps w s0 x2 := by
    unfold x2
    refine forEach_keeps h0 fun _ _ h6 => ?_
    extract_lets +onlyGivenNames x7
    clear_value x7
    refine ite_keeps ?_ (ite_keeps h6 (keeps_setVar (keeps_setO h6)))
    refine ite_keeps h6 ?_
    extract_lets +onlyGivenNames x8
    have h9 : Keeps w s0 x8 := (keeps_setVar (keeps_setO h6))
    clear_value x8
    extract_lets +onlyGivenNames x10
    have h11 : Keeps w s0 x10 := (keeps_setVar (keeps_setVar h9))
    clear_value x10
    extract_lets +onlyGivenNames x12
    have h13 : Keeps w s0 x12 := (keeps_setFlag h11)
    clear_value x12
    exact (ite_keeps h13 (keeps_setFlag (keeps_setFlag h13)))
  clear_value x2
  extract_lets +onlyGivenNames x14
  have h15 : Keeps w s0 x14 := (keeps_setO h3)
  clear_value x14
  exact (keeps_showPool (keeps_setFlag (keeps_respread h15)))

theorem keeps_endPulse {w : Touch} {s0 s : State} {a0 a1} (h0 : Keeps w s0 s) : Keeps w s0 (endPulse a0 a1 s) := by
  unfold endPulse
  extract_lets +onlyGivenNames x1
  clear_value x1
  extract_lets +onlyGivenNames x2
  have h3 : Keeps w s0 x2 := (keeps_setVar (keeps_setVar (keeps_setFlag h0)))
  clear_value x2
  extract_lets +onlyGivenNames x4
  have h5 : Keeps w s0 x4 := (keeps_setFlag (keeps_setFlag h3))
  clear_value x4
  exact (keeps_setBit (keeps_setO h5))

theorem keeps_quietPhase {w : Touch} {s0 s : State} {a0 a1} (h0 : Keeps w s0 s) : Keeps w s0 (quietPhase a0 a1 s) := by
  unfold quietPhase
  extract_lets +onlyGivenNames x1
  have h2 : Keeps w s0 x1 := (ite_keeps (keeps_endPulse h0) h0)
  clear_value x1
  extract_lets +onlyGivenNames x3
  have h4 : Keeps w s0 x3 := (keeps_setFlag (keeps_setVar (keeps_setVar h2)))
  clear_value x3
  extract_lets +onlyGivenNames x5
  have h6 : Keeps w s0 x5 := (keeps_setFlag (keeps_setFlag h4))
  clear_value x5
  exact (keeps_setVar (keeps_setVar (keeps_setFlag h6)))

theorem keeps_ovpEnd {w : Touch} {s0 s : State} {a0} (h0 : Keeps w s0 s) : Keeps w s0 (ovpEnd a0 s) := by
  unfold ovpEnd
  refine ite_keeps ?_ h0
  extract_lets +onlyGivenNames x1
  have h2 : Keeps w s0 x1 := (keeps_setFlag h0)
  clear_value x1
  exact (keeps_raiseActionLater h2)

theorem keeps_railDown {w : Touch} {s0 s : State} {a0 a1} (h0 : Keeps w s0 s) : Keeps w s0 (railDown a0 a1 s) := by
  unfold railDown
  extract_lets +onlyGivenNames x1
  have h2 : Keeps w s0 x1 := (keeps_ovpEnd (keeps_setFlag (keeps_setRailState h0)))
  clear_value x1
  extract_lets +onlyGivenNames x3
  have h4 : Keeps w s0 x3 := (keeps_setFlag (keeps_setFlag h2))
  clear_value x3
  extract_lets +onlyGivenNames x5
  have h6 : Keeps w s0 x5 := (keeps_setVar (forRange_keeps h4 fun _ _ k7 => (keeps_setVar k7)))
  clear_value x5
  refine ite_keeps ?_ ?_
  · extract_lets +onlyGivenNames x8
    have h9 : Keeps w s0 x8 := by
      unfold x8
      refine forEach_keeps h6 fun _ _ h12 => ?_
      extract_lets +onlyGivenNames x13
      have h14 : Keeps w s0 x13 := (keeps_quietPhase h12)
      clear_value x13
      exact (keeps_setO h14)
    clear_value x8
    extract_lets +onlyGivenNames x15
    have h16 : Keeps w s0 x15 := (forRange_keeps h9 fun _ _ k17 => (keeps_setVar k17))
    clear_value x15
    extract_lets +onlyGivenNames x18
    have h19 : Keeps w s0 x18 := (forEach_keeps h16 fun _ _ k20 => (keeps_setBit k20))
    clear_value x18
    extract_lets +onlyGivenNames x21
    have h22 : Keeps w s0 x21 := (keeps_setO (keeps_setVar (keeps_setVar (keeps_setFlag h19))))
    clear_value x21
    extract_lets +onlyGivenNames x23
    have h24 : Keeps w s0 x23 := (keeps_stopT (keeps_setVar (keeps_setVar (keeps_setO h22))))
    clear_value x23
    extract_lets +onlyGivenNames x25
    have h26 : Keeps w s0 x25 := (keeps_setO h24)
    clear_value x25
    exact (keeps_showPool (keeps_setVar (keeps_setO h26)))
  · refine ite_keeps ?_ h6
    extract_lets +onlyGivenNames x27
    have h28 : Keeps w s0 x27 := (keeps_setFlag (keeps_setVar (keeps_setVar h6)))
    clear_value x27
    extract_lets +onlyGivenNames x29
    have h30 : Keeps w s0 x29 := (keeps_setVar (keeps_setVar h28))
    clear_value x29
    extract_lets +onlyGivenNames x31
    have h32 : Keeps w s0 x31 := (keeps_condOff (keeps_setFlag (keeps_setVar h30)))
    clear_value x31
    exact (keeps_setO h32)

end Sys2Proof.Machine
end

