-- ==== Sys2Proof/Laws/KeepsPhase.lean ====
section
/-!
SUPPORT. What the definitions of Machine/Phase.lean keep: each passes on the queue, the canonical form, the programmed fuses, and
every part that its hypotheses do not let it write.
-/

namespace Sys2Proof.Machine
open State

theorem keeps_phaseLimits {w : Touch} {s0 s : State} {a0 a1} (h0 : Keeps w s0 s) : Keeps w s0 (phaseLimits a0 a1 s) := by
  unfold phaseLimits
  extract_lets +onlyGivenNames x1
  clear_value x1
  extract_lets +onlyGivenNames x2
  clear_value x2
  extract_lets +onlyGivenNames x3
  clear_value x3
  extract_lets +onlyGivenNames x4
  clear_value x4
  extract_lets +onlyGivenNames x5
  have h6 : Keeps w s0 x5 := (keeps_setVar (keeps_setO h0))
  clear_value x5
  exact (keeps_setBit (keeps_setVar h6))

theorem keeps_learnCycle {w : Touch} {s0 s : State} {a0 a1} (h0 : Keeps w s0 s) : Keeps w s0 (learnCycle a0 a1 s) := by
  unfold learnCycle
  refine ite_keeps ?_ h0
  extract_lets +onlyGivenNames x1
  clear_value x1
  extract_lets +onlyGivenNames x2
  clear_value x2
  extract_lets +onlyGivenNames x3
  clear_value x3
  extract_lets +onlyGivenNames x4
  clear_value x4
  extract_lets +onlyGivenNames x5
  have h6 : Keeps w s0 x5 := (ite_keeps (keeps_addVar (keeps_addVar h0)) h0)
  clear_value x5
  refine ite_keeps ?_ h6
  extract_lets +onlyGivenNames x7
  have h8 : Keeps w s0 x7 := (keeps_setFlag h6)
  clear_value x7
  exact (ite_keeps h8 (keeps_setVar (keeps_setFlag h8)))

theorem keeps_learnRound {w : Touch} {s0 s : State} {a0} (h0 : Keeps w s0 s) : Keeps w s0 (learnRound a0 s) := by
  unfold learnRound
  extract_lets +onlyGivenNames x1
  clear_value x1
  extract_lets +onlyGivenNames x2
  clear_value x2
  extract_lets +onlyGivenNames x3
  clear_value x3
  extract_lets +onlyGivenNames x4
  have h5 : Keeps w s0 x4 := (keeps_setVar (keeps_setFlag h0))
  clear_value x4
  extract_lets +onlyGivenNames x6
  clear_value x6
  extract_lets +onlyGivenNames x7
  have h8 : Keeps w s0 x7 := (keeps_setVar (keeps_setBit (keeps_setO h5)))
  clear_value x7
  extract_lets +onlyGivenNames x9
  have h10 : Keeps w s0 x9 := (keeps_setFlag (keeps_setHist h8))
  clear_value x9
  extract_lets +onlyGivenNames x11
  have h12 : Keeps w s0 x11 := (ite_keeps (keeps_setO h10) h10)
  clear_value x11
  extract_lets +onlyGivenNames x13
  clear_value x13
  extract_lets +onlyGivenNames x14
  have h15 : Keeps w s0 x14 := (keeps_addVar (keeps_setHist (keeps_bumpSat h5)))
  clear_value x14
  extract_lets +onlyGivenNames x16
  clear_value x16
  extract_lets +onlyGivenNames x17
  have h18 : Keeps w s0 x17 := (keeps_setFlag (keeps_setHist (keeps_setO h15)))
  clear_value x17
  extract_lets +onlyGivenNames x19
  have h20 : Keeps w s0 x19 := (ite_keeps (keeps_addVar h5) (ite_keeps (keeps_addVar (keeps_bumpSat h5)) (ite_keeps
      (ite_keeps (keeps_setO h12) h12) (ite_keeps (keeps_raiseAction h18) h15))))
  clear_value x19
  exact (keeps_setBit h20)

theorem keeps_slopeRound {w : Touch} {s0 s : State} {a0 a1} (h0 : Keeps w s0 s) : Keeps w s0 (slopeRound a0 a1 s) := by
  unfold slopeRound
  extract_lets +onlyGivenNames x1
  clear_value x1
  extract_lets +onlyGivenNames x2
  clear_value x2
  extract_lets +onlyGivenNames x3
  clear_value x3
  extract_lets +onlyGivenNames x4
  clear_value x4
  extract_lets +onlyGivenNames x5
  clear_value x5
  extract_lets +onlyGivenNames x6
  clear_value x6
  extract_lets +onlyGivenNames x7
  have h8 : Keeps w s0 x7 := (keeps_setO h0)
  clear_value x7
  extract_lets +onlyGivenNames x9
  have h10 : Keeps w s0 x9 := (keeps_setBit (keeps_setBit h8))
  clear_value x9
  extract_lets +onlyGivenNames x11
  have h12 : Keeps w s0 x11 := (keeps_setBit h10)
  clear_value x11
  refine ite_keeps ?_ (keeps_condOff h12)
  extract_lets +onlyGivenNames x13
  clear_value x13
  refine ite_keeps h12 ?_
  refine ite_keeps ?_ (keeps_setVar (keeps_setBit (keeps_raiseAction h12)))
  extract_lets +onlyGivenNames x14
  have h15 : Keeps w s0 x14 := (Keeps.same h12 rfl rfl rfl rfl rfl rfl rfl rfl rfl rfl rfl)
  clear_value x14
  exact (keeps_setBit h15)

theorem keeps_learnStart {w : Touch} {s0 s : State} {a0} (h0 : Keeps w s0 s) : Keeps w s0 (learnStart a0 s) := by
  unfold learnStart
  extract_lets +onlyGivenNames x1
  clear_value x1
  exact (keeps_setFlag (keeps_setHist (keeps_setO h0)))

theorem keeps_openPeriod {w : Touch} {s0 s : State} {a0 a1} (h0 : Keeps w s0 s) : Keeps w s0 (openPeriod a0 a1 s) := by
  unfold openPeriod
  extract_lets +onlyGivenNames x1
  clear_value x1
  refine ite_keeps h0 ?_
  refine ite_keeps (keeps_addVar h0) ?_
  refine ite_keeps h0 ?_
  extract_lets +onlyGivenNames x2
  clear_value x2
  exact (keeps_countCond h0)

theorem keeps_limitCycle {w : Touch} {s0 s : State} {a0} (h0 : Keeps w s0 s) : Keeps w s0 (limitCycle a0 s) := by
  unfold limitCycle
  extract_lets +onlyGivenNames x1
  have h2 : Keeps w s0 x1 := (ite_keeps h0 (keeps_condOff (keeps_setVar h0)))
  clear_value x1
  extract_lets +onlyGivenNames x3
  have h4 : Keeps w s0 x3 := (ite_keeps h2 (keeps_condOff (keeps_setVar h2)))
  clear_value x3
  exact (keeps_setFlag (keeps_setFlag h4))

theorem keeps_countMean {w : Touch} {s0 s : State} {a0} (h0 : Keeps w s0 s) : Keeps w s0 (countMean a0 s) := by
  unfold countMean
  extract_lets +onlyGivenNames x1
  clear_value x1
  exact (keeps_addVar (keeps_addVar (keeps_addVar (keeps_addVar h0))))

theorem keeps_closePulse {w : Touch} {s0 s : State} {a0 a1 a2} (h0 : Keeps w s0 s) : Keeps w s0 (closePulse a0 a1 a2 s) := by
  unfold closePulse
  extract_lets +onlyGivenNames x1
  clear_value x1
  extract_lets +onlyGivenNames x2
  have h3 : Keeps w s0 x2 := (keeps_learnCycle h0)
  clear_value x2
  extract_lets +onlyGivenNames x4
  have h5 : Keeps w s0 x4 := (keeps_setHist h3)
  clear_value x4
  extract_lets +onlyGivenNames x6
  have h7 : Keeps w s0 x6 := (keeps_setHist h5)
  clear_value x6
  extract_lets +onlyGivenNames x8
  have h9 : Keeps w s0 x8 := (ite_keeps (keeps_countMean h7) (ite_keeps h7 (keeps_countMean (keeps_setVar h7))))
  clear_value x8
  exact (keeps_openPeriod h9)

theorem keeps_closeCycle {w : Touch} {s0 s : State} {a0 a1 a2 a3} (h0 : Keeps w s0 s) : Keeps w s0 (closeCycle a0 a1 a2 a3 s)
      := by
  unfold closeCycle
  extract_lets +onlyGivenNames x1
  clear_value x1
  extract_lets +onlyGivenNames x2
  clear_value x2
  extract_lets +onlyGivenNames x3
  have h4 : Keeps w s0 x3 := (keeps_limitCycle h0)
  clear_value x3
  extract_lets +onlyGivenNames x5
  clear_value x5
  extract_lets +onlyGivenNames x6
  have h7 : Keeps w s0 x6 := (keeps_countCond (keeps_setBit h4))
  clear_value x6
  extract_lets +onlyGivenNames x8
  have h9 : Keeps w s0 x8 := (ite_keeps (keeps_setFlag h7) h7)
  clear_value x8
  extract_lets +onlyGivenNames x10
  have h11 : Keeps w s0 x10 := (ite_keeps (keeps_closePulse h9) h9)
  clear_value x10
  extract_lets +onlyGivenNames x12
  have h13 : Keeps w s0 x12 := (keeps_setFlag h11)
  clear_value x12
  exact (keeps_setVar (keeps_setVar h13))

theorem keeps_startPulse {w : Touch} {s0 s : State} {a0 a1 a2} (h0 : Keeps w s0 s) : Keeps w s0 (startPulse a0 a1 a2 s) := by
  unfold startPulse
  extract_lets +onlyGivenNames x1
  have h2 : Keeps w s0 x1 := (keeps_setVar (keeps_setO h0))
  clear_value x1
  extract_lets +onlyGivenNames x3
  have h4 : Keeps w s0 x3 := (keeps_setVar (keeps_setFlag (keeps_setFlag h2)))
  clear_value x3
  extract_lets +onlyGivenNames x5
  have h6 : Keeps w s0 x5 := (keeps_setFlag (keeps_setFlag h4))
  clear_value x5
  extract_lets +onlyGivenNames x7
  have h8 : Keeps w s0 x7 := (keeps_setFlag (keeps_setFlag (keeps_setFlag h6)))
  clear_value x7
  extract_lets +onlyGivenNames x9
  have h10 : Keeps w s0 x9 := (keeps_setFlag (keeps_setFlag h8))
  clear_value x9
  extract_lets +onlyGivenNames x11
  clear_value x11
  extract_lets +onlyGivenNames x12
  have h13 : Keeps w s0 x12 := (keeps_setFlag (ite_keeps h10 (keeps_setVar h10)))
  clear_value x12
  exact (keeps_addVar (keeps_setFlag h13))

theorem keeps_substituteOn {w : Touch} {s0 s : State} {a0 a1 a2} (h0 : Keeps w s0 s) : Keeps w s0 (substituteOn a0 a1 a2 s)
      := by
  unfold substituteOn
  refine ite_keeps ?_ h0
  extract_lets +onlyGivenNames x1
  clear_value x1
  extract_lets +onlyGivenNames x2
  clear_value x2
  exact (keeps_raiseActionLater (keeps_setVar h0))

theorem keeps_turnOn {w : Touch} {s0 s : State} {a0 a1 a2 a3 a4} (h0 : Keeps w s0 s) : Keeps w s0 (turnOn a0 a1 a2 a3 a4 s)
      := by
  unfold turnOn
  exact (keeps_substituteOn (keeps_startPulse (keeps_closeCycle h0)))

theorem keeps_tripPulse {w : Touch} {s0 s : State} {a0 a1} (h0 : Keeps w s0 s) : Keeps w s0 (tripPulse a0 a1 s) := by
  unfold tripPulse
  exact (ite_keeps (keeps_setFlag h0) (keeps_endPulse h0))

theorem keeps_idleSample {w : Touch} {s0 s : State} {a0} (h0 : Keeps w s0 s) : Keeps w s0 (idleSample a0 s) := by
  unfold idleSample
  extract_lets +onlyGivenNames x1
  clear_value x1
  refine ite_keeps ?_ h0
  extract_lets +onlyGivenNames x2
  clear_value x2
  extract_lets +onlyGivenNames x3
  have h4 : Keeps w s0 x3 := (keeps_setBit h0)
  clear_value x3
  exact (ite_keeps (keeps_setFlag h4) h4)

theorem keeps_phaseTick {w : Touch} {s0 s : State} {a0} (h0 : Keeps w s0 s) : Keeps w s0 (phaseTick a0 s) := by
  unfold phaseTick
  extract_lets +onlyGivenNames x1
  clear_value x1
  extract_lets +onlyGivenNames x2
  have h3 : Keeps w s0 x2 := (keeps_setBit (keeps_setBit (keeps_setBit h0)))
  clear_value x2
  extract_lets +onlyGivenNames x4
  clear_value x4
  extract_lets +onlyGivenNames x5
  have h6 : Keeps w s0 x5 := (keeps_setBit (keeps_setBit h3))
  clear_value x5
  extract_lets +onlyGivenNames x7
  have h8 : Keeps w s0 x7 := (keeps_setVar (keeps_setVar (keeps_setVar h6)))
  clear_value x7
  extract_lets +onlyGivenNames x9
  have h10 : Keeps w s0 x9 := (keeps_setVar (keeps_setVar h8))
  clear_value x9
  extract_lets +onlyGivenNames x11
  have h12 : Keeps w s0 x11 := (keeps_idleSample (keeps_setVar h10))
  clear_value x11
  extract_lets +onlyGivenNames x13
  have h14 : Keeps w s0 x13 := (keeps_setVar (keeps_setVar h12))
  clear_value x13
  extract_lets +onlyGivenNames x15
  have h16 : Keeps w s0 x15 := (ite_keeps (keeps_setVar (keeps_setVar (keeps_setVar h14))) h14)
  clear_value x15
  exact (ite_keeps (keeps_setVar (keeps_setVar (keeps_setVar h16))) (keeps_setVar h16))

theorem keeps_phaseRound {w : Touch} {s0 s : State} {a0} (h0 : Keeps w s0 s) : Keeps w s0 (phaseRound a0 s) := by
  unfold phaseRound
  extract_lets +onlyGivenNames x1
  have h2 : Keeps w s0 x1 := (keeps_setO h0)
  clear_value x1
  extract_lets +onlyGivenNames x3
  have h4 : Keeps w s0 x3 := (keeps_setO h2)
  clear_value x3
  extract_lets +onlyGivenNames x5
  have h6 : Keeps w s0 x5 := (keeps_setFlag (keeps_setVar (keeps_setVar (keeps_setVar h4))))
  clear_value x5
  extract_lets +onlyGivenNames x7
  clear_value x7
  extract_lets +onlyGivenNames x8
  clear_value x8
  extract_lets +onlyGivenNames x9
  have h10 : Keeps w s0 x9 := (keeps_learnRound h6)
  clear_value x9
  exact (ite_keeps (keeps_slopeRound h10) h10)

end Sys2Proof.Machine
end

