-- ==== Sys2Proof/Laws/KeepsRail.lean ====
section
/-!
SUPPORT. What the definitions of Machine/Rail.lean keep: each passes on the queue, the canonical form, the programmed fuses, and
every part that its hypotheses do not let it write.
-/

namespace Sys2Proof.Machine
open State

theorem keeps_execWindowQualified {w : Touch} {s0 s : State} {a0 a1} (h0 : Keeps w s0 s) : OutP (Keeps w s0)
      (execWindowQualified a0 a1 s) := by
  unfold execWindowQualified
  exact (ite_keeps (out_next (keeps_raise h0)) (out_next h0))

theorem keeps_windowTick {w : Touch} {s0 s : State} {a0} (h0 : Keeps w s0 s) : Keeps w s0 (windowTick a0 s) := by
  unfold windowTick
  refine forRange_keeps h0 fun _ _ h2 => ?_
  extract_lets +onlyGivenNames x3
  have h4 : Keeps w s0 x3 := (keeps_countCond h2)
  clear_value x3
  exact (ite_keeps h4 (keeps_condOff h4))

theorem keeps_limitsTick {w : Touch} {s0 s : State} {a0} (h0 : Keeps w s0 s) : Keeps w s0 (limitsTick a0 s) := by
  unfold limitsTick
  split
  · extract_lets +onlyGivenNames x1
    have h2 : Keeps w s0 x1 := (keeps_setO h0)
    clear_value x1
    extract_lets +onlyGivenNames x3
    have h4 : Keeps w s0 x3 := (keeps_setO h2)
    clear_value x3
    extract_lets +onlyGivenNames x5
    clear_value x5
    extract_lets +onlyGivenNames x6
    have h7 : Keeps w s0 x6 := (keeps_setVar h4)
    clear_value x6
    exact (forEach_keeps h7 fun _ _ k8 => (keeps_phaseLimits k8))

theorem keeps_thermTerm {w : Touch} {s0 s : State} {a0 a1} (h0 : Keeps w s0 s) : Keeps w s0 (thermTerm a0 a1 s) := by
  unfold thermTerm
  exact (ite_keeps (keeps_setVar h0) h0)

theorem keeps_balanceRound {w : Touch} {s0 s : State} {a0} (h0 : Keeps w s0 s) : Keeps w s0 (balanceRound a0 s) := by
  unfold balanceRound
  extract_lets +onlyGivenNames x1
  clear_value x1
  extract_lets +onlyGivenNames x2
  clear_value x2
  extract_lets +onlyGivenNames x3
  clear_value x3
  extract_lets +onlyGivenNames x4
  have h5 : Keeps w s0 x4 := by
    unfold x4
    refine ite_keeps h0 ?_
    refine forEach_keeps h0 fun _ _ h10 => ?_
    extract_lets +onlyGivenNames x11
    clear_value x11
    exact (keeps_setVar h10)
  clear_value x4
  extract_lets +onlyGivenNames x12
  have h13 : Keeps w s0 x12 := (forRange_keeps h5 fun _ _ k14 => (keeps_thermTerm k14))
  clear_value x12
  exact (keeps_showOffsets (keeps_setFlag h13))

theorem keeps_toLevel {w : Touch} {s0 s : State} {a0 a1 a2} (h0 : Keeps w s0 s) : Keeps w s0 (toLevel a0 a1 a2 s) := by
  unfold toLevel
  extract_lets +onlyGivenNames x1
  have h2 : Keeps w s0 x1 := (keeps_setVar (keeps_setO h0))
  clear_value x1
  exact (keeps_applySet (keeps_setVar h2))

theorem keeps_shedSlots {w : Touch} {s0 s : State} {a0} (h0 : Keeps w s0 s) : Keeps w s0 (shedSlots a0 s) := by
  unfold shedSlots
  refine ite_keeps ?_ h0
  extract_lets +onlyGivenNames x1
  clear_value x1
  exact (ite_keeps (keeps_toLevel h0) h0)

theorem keeps_shedTick {w : Touch} {s0 s : State} {a0} (h0 : Keeps w s0 s) : Keeps w s0 (shedTick a0 s) := by
  unfold shedTick
  extract_lets +onlyGivenNames x1
  clear_value x1
  exact (keeps_setVar (keeps_countCond h0))

theorem keeps_execShedMoveDown {w : Touch} {s0 s : State} {a0} (h0 : Keeps w s0 s) : OutP (Keeps w s0) (execShedMoveDown a0
      s) := by
  unfold execShedMoveDown
  exact (ite_keeps (out_next (keeps_toLevel h0)) (out_next h0))

theorem keeps_execShedHoldoffExpiry {w : Touch} {s0 s : State} {a0} (h0 : Keeps w s0 s) : OutP (Keeps w s0)
      (execShedHoldoffExpiry a0 s) := by
  unfold execShedHoldoffExpiry
  exact (ite_keeps (out_next (keeps_setBit (keeps_stopT h0))) (out_next h0))

theorem keeps_shedAbort {w : Touch} {s0 s : State} {a0 a1 a2} (h0 : Keeps w s0 s) : Keeps w s0 (shedAbort a0 a1 a2 s) := by
  unfold shedAbort
  extract_lets +onlyGivenNames x1
  clear_value x1
  extract_lets +onlyGivenNames x2
  clear_value x2
  refine ite_keeps ?_ (ite_keeps (keeps_startT h0) h0)
  extract_lets +onlyGivenNames x3
  have h4 : Keeps w s0 x3 := (keeps_toLevel h0)
  clear_value x3
  extract_lets +onlyGivenNames x5
  have h6 : Keeps w s0 x5 := (keeps_setBit (keeps_startT h4))
  clear_value x5
  exact (keeps_raisePerLater h6)

theorem keeps_truncate {w : Touch} {s0 s : State} {a0 a1} (h0 : Keeps w s0 s) : Keeps w s0 (truncate a0 a1 s) := by
  unfold truncate
  exact (forEach_keeps h0 fun _ _ k1 => (keeps_setFlag (ite_keeps (keeps_setFlag (keeps_endPulse k1)) k1)))

theorem keeps_execOvershootClear {w : Touch} {s0 s : State} {a0 a1} (h0 : Keeps w s0 s) : OutP (Keeps w s0)
      (execOvershootClear a0 a1 s) := by
  unfold execOvershootClear
  exact (ite_keeps (out_next (keeps_setFlag h0)) (out_next h0))

theorem keeps_execUndershootClear {w : Touch} {s0 s : State} {a0 a1} (h0 : Keeps w s0 s) : OutP (Keeps w s0)
      (execUndershootClear a0 a1 s) := by
  unfold execUndershootClear
  exact (ite_keeps (out_next (forEach_keeps (keeps_setFlag h0) fun _ _ k1 => (keeps_setVar k1))) (out_next h0))

theorem keeps_execOvFastPathRelease {w : Touch} {s0 s : State} {a0 a1 a2} (h0 : Keeps w s0 s) : OutP (Keeps w s0)
      (execOvFastPathRelease a0 a1 a2 s) := by
  unfold execOvFastPathRelease
  exact (ite_keeps (out_next (keeps_setBit (keeps_ovpEnd h0))) (out_next h0))

theorem keeps_prepareRail {w : Touch} {s0 s : State} {a0} (h0 : Keeps w s0 s) : Keeps w s0 (prepareRail a0 s) := by
  unfold prepareRail
  extract_lets +onlyGivenNames x1
  clear_value x1
  extract_lets +onlyGivenNames x2
  have h3 : Keeps w s0 x2 := (forRange_keeps h0 fun _ _ k4 => (keeps_thermTerm (keeps_setVar k4)))
  clear_value x2
  extract_lets +onlyGivenNames x5
  have h6 : Keeps w s0 x5 := by
    unfold x5
    refine forEach_keeps h3 fun _ _ h9 => ?_
    extract_lets +onlyGivenNames x10
    clear_value x10
    extract_lets +onlyGivenNames x11
    clear_value x11
    extract_lets +onlyGivenNames x12
    have h13 : Keeps w s0 x12 := (keeps_setBit (keeps_setO h9))
    clear_value x12
    extract_lets +onlyGivenNames x14
    have h15 : Keeps w s0 x14 := (keeps_setVar (keeps_learnStart h13))
    clear_value x14
    extract_lets +onlyGivenNames x16
    have h17 : Keeps w s0 x16 := (keeps_setVar (keeps_setVar (keeps_setVar (keeps_setVar h15))))
    clear_value x16
    extract_lets +onlyGivenNames x18
    have h19 : Keeps w s0 x18 := (keeps_setVar (keeps_setHist (keeps_setHist h17)))
    clear_value x18
    exact (keeps_setVar (keeps_setVar (keeps_setVar h19)))
  clear_value x5
  extract_lets +onlyGivenNames x20
  have h21 : Keeps w s0 x20 := (keeps_setFlag (keeps_setFlag (keeps_setVar h6)))
  clear_value x20
  extract_lets +onlyGivenNames x22
  have h23 : Keeps w s0 x22 := (keeps_setVar (keeps_setVar (keeps_setVar h21)))
  clear_value x22
  extract_lets +onlyGivenNames x24
  have h25 : Keeps w s0 x24 := (keeps_setBit h23)
  clear_value x24
  exact (keeps_showPool (keeps_setO h25))

theorem keeps_windowNext {w : Touch} {s0 s : State} {a0 a1} (h0 : Keeps w s0 s) : Keeps w s0 (windowNext a0 a1 s) := by
  unfold windowNext
  extract_lets +onlyGivenNames x1
  have h2 : Keeps w s0 x1 := (keeps_setVar (keeps_setRailState h0))
  clear_value x1
  exact (keeps_setVar (keeps_setVar (keeps_setVar h2)))

theorem keeps_openWindow {w : Touch} {s0 s : State} {a0} (h0 : Keeps w s0 s) : Keeps w s0 (openWindow a0 s) := by
  unfold openWindow
  refine ite_keeps ?_ h0
  extract_lets +onlyGivenNames x1
  have h2 : Keeps w s0 x1 := (keeps_setRailState h0)
  clear_value x1
  exact (ite_keeps (keeps_setFlag h2) h2)

theorem keeps_beginRail {w : Touch} {s0 s : State} {a0 a1} (h0 : Keeps w s0 s) : Keeps w s0 (beginRail a0 a1 s) := by
  unfold beginRail
  extract_lets +onlyGivenNames x1
  have h2 : Keeps w s0 x1 := (ite_keeps (keeps_prepareRail h0) h0)
  clear_value x1
  extract_lets +onlyGivenNames x3
  clear_value x3
  refine ite_keeps (keeps_windowNext h2) ?_
  extract_lets +onlyGivenNames x4
  have h5 : Keeps w s0 x4 := (keeps_setVar (keeps_setVar (keeps_setRailState h2)))
  clear_value x4
  exact (keeps_setVar (keeps_startT h5))

theorem keeps_shtFailVoltage {w : Touch} {s0 s : State} {a0 a1} (h0 : Keeps w s0 s) : Keeps w s0 (shtFailVoltage a0 a1 s) :=
      by
  unfold shtFailVoltage
  extract_lets +onlyGivenNames x1
  clear_value x1
  extract_lets +onlyGivenNames x2
  clear_value x2
  extract_lets +onlyGivenNames x3
  clear_value x3
  split
  · exact (keeps_raiseAction (keeps_setVar (keeps_setVar h0)))

theorem keeps_execPrebiasWaitEnd {w : Touch} {s0 s : State} {a0} (h0 : Keeps w s0 s) : OutP (Keeps w s0) (execPrebiasWaitEnd
      a0 s) := by
  unfold execPrebiasWaitEnd
  extract_lets +onlyGivenNames x1
  clear_value x1
  refine ite_keeps ?_ (out_next h0)
  extract_lets +onlyGivenNames x2
  clear_value x2
  extract_lets +onlyGivenNames x3
  have h4 : Keeps w s0 x3 := (keeps_record h0)
  clear_value x3
  extract_lets +onlyGivenNames x5
  have h6 : Keeps w s0 x5 := (keeps_stopT (keeps_post h4))
  clear_value x5
  exact (out_next (ite_keeps (keeps_windowNext h6) (keeps_shtFailVoltage h6)))

theorem keeps_shtTick {w : Touch} {s0 s : State} {a0} (h0 : Keeps w s0 s) : Keeps w s0 (shtTick a0 s) := by
  unfold shtTick
  refine ite_keeps h0 ?_
  extract_lets +onlyGivenNames x1
  clear_value x1
  extract_lets +onlyGivenNames x2
  have h3 : Keeps w s0 x2 := (keeps_countCond h0)
  clear_value x2
  refine ite_keeps ?_ ?_
  · extract_lets +onlyGivenNames x4
    have h5 : Keeps w s0 x4 := (forEach_keeps h3 fun _ _ k6 => (keeps_countCond k6))
    clear_value x4
    extract_lets +onlyGivenNames x7
    clear_value x7
    extract_lets +onlyGivenNames x8
    clear_value x8
    split
    · extract_lets +onlyGivenNames x9
      clear_value x9
      extract_lets +onlyGivenNames x10
      have h11 : Keeps w s0 x10 := (keeps_setVar (keeps_setVar h5))
      clear_value x10
      exact (keeps_raiseAction h11)
    · exact (ite_keeps (keeps_shtFailVoltage h5) h5)
  · extract_lets +onlyGivenNames x12
    have h13 : Keeps w s0 x12 := (keeps_countCond h3)
    clear_value x12
    exact (ite_keeps (keeps_shtFailVoltage h13) h13)

theorem keeps_markFailed {w : Touch} {s0 s : State} {a0 a1} (h0 : Keeps w s0 s) : Keeps w s0 (markFailed a0 a1 s) := by
  unfold markFailed
  extract_lets +onlyGivenNames x1
  have h2 : Keeps w s0 x1 := (keeps_setO (keeps_setBit h0))
  clear_value x1
  extract_lets +onlyGivenNames x3
  have h4 : Keeps w s0 x3 := (keeps_setO (keeps_bumpSat h2))
  clear_value x3
  extract_lets +onlyGivenNames x5
  have h6 : Keeps w s0 x5 := (ite_keeps (keeps_setFlag h4) h4)
  clear_value x5
  exact (keeps_setVar h6)

theorem keeps_shtFailApply {w : Touch} {s0 s : State} {a0} (h0 : Keeps w s0 s) : Keeps w s0 (shtFailApply a0 s) := by
  unfold shtFailApply
  extract_lets +onlyGivenNames x1
  clear_value x1
  extract_lets +onlyGivenNames x2
  have h3 : Keeps w s0 x2 := (ite_keeps h0 (keeps_markFailed (keeps_setBit h0)))
  clear_value x2
  exact (keeps_stopT (keeps_stopT (keeps_setVar (keeps_setVar (keeps_railDown h3)))))

theorem keeps_slewVramp {w : Touch} {s0 s : State} {a0 a1} (h0 : Keeps w s0 s) : Keeps w s0 (slewVramp a0 a1 s) := by
  unfold slewVramp
  extract_lets +onlyGivenNames x1
  clear_value x1
  extract_lets +onlyGivenNames x2
  clear_value x2
  extract_lets +onlyGivenNames x3
  clear_value x3
  extract_lets +onlyGivenNames x4
  clear_value x4
  extract_lets +onlyGivenNames x5
  clear_value x5
  extract_lets +onlyGivenNames x6
  have h7 : Keeps w s0 x6 := (keeps_setBit (keeps_setVar h0))
  clear_value x6
  exact (ite_keeps h7 (keeps_setFlag h7))

theorem keeps_slewFlag {w : Touch} {s0 s : State} {a0} (h0 : Keeps w s0 s) : Keeps w s0 (slewFlag a0 s) := by
  unfold slewFlag
  refine ite_keeps ?_ h0
  extract_lets +onlyGivenNames x1
  clear_value x1
  extract_lets +onlyGivenNames x2
  have h3 : Keeps w s0 x2 := (keeps_setBit h0)
  clear_value x2
  exact (ite_keeps (keeps_setFlag h3) h3)

theorem keeps_enterDerated {w : Touch} {s0 s : State} {a0 a1} (h0 : Keeps w s0 s) : Keeps w s0 (enterDerated a0 a1 s) := by
  unfold enterDerated
  extract_lets +onlyGivenNames x1
  have h2 : Keeps w s0 x1 := (keeps_setRailState h0)
  clear_value x1
  extract_lets +onlyGivenNames x3
  have h4 : Keeps w s0 x3 := (keeps_setO (keeps_setO h2))
  clear_value x3
  exact (keeps_raise h4)

theorem keeps_softStartEnd {w : Touch} {s0 s : State} {a0} (h0 : Keeps w s0 s) : Keeps w s0 (softStartEnd a0 s) := by
  unfold softStartEnd
  exact (ite_keeps (ite_keeps (keeps_enterDerated h0) (keeps_setRailState h0)) h0)

theorem keeps_softStopEnd {w : Touch} {s0 s : State} {a0} (h0 : Keeps w s0 s) : Keeps w s0 (softStopEnd a0 s) := by
  unfold softStopEnd
  exact (ite_keeps (keeps_setVar (keeps_railDown h0)) h0)

theorem keeps_execShtWindowEnd {w : Touch} {s0 s : State} {a0} (h0 : Keeps w s0 s) : OutP (Keeps w s0) (execShtWindowEnd a0
      s) := by
  unfold execShtWindowEnd
  refine ite_keeps ?_ (out_next h0)
  extract_lets +onlyGivenNames x1
  have h2 : Keeps w s0 x1 := (keeps_startT (keeps_setVar (keeps_setRailState h0)))
  clear_value x1
  extract_lets +onlyGivenNames x3
  have h4 : Keeps w s0 x3 := (keeps_slewFlag (keeps_setVar h2))
  clear_value x3
  extract_lets +onlyGivenNames x5
  have h6 : Keeps w s0 x5 := (forEach_keeps h4 fun _ _ k7 => (keeps_setBit k7))
  clear_value x5
  extract_lets +onlyGivenNames x8
  have h9 : Keeps w s0 x8 := (keeps_setVar (keeps_setVar (keeps_setO h6)))
  clear_value x8
  extract_lets +onlyGivenNames x10
  have h11 : Keeps w s0 x10 := (ite_keeps (keeps_applySet h9) h4)
  clear_value x10
  exact (out_next (keeps_softStartEnd h11))

theorem keeps_offByMode {w : Touch} {s0 s : State} {a0} (h0 : Keeps w s0 s) : Keeps w s0 (offByMode a0 s) := by
  unfold offByMode
  extract_lets +onlyGivenNames x1
  clear_value x1
  extract_lets +onlyGivenNames x2
  clear_value x2
  extract_lets +onlyGivenNames x3
  have h4 : Keeps w s0 x3 := (keeps_setFlag h0)
  clear_value x3
  exact (ite_keeps h4 (ite_keeps (keeps_softStopEnd (keeps_setRailState (keeps_setBit h4))) (keeps_railDown (keeps_stopT
      (keeps_setVar (keeps_stopT h4))))))

theorem keeps_hiccupRail {w : Touch} {s0 s : State} {a0 a1} (h0 : Keeps w s0 s) : Keeps w s0 (hiccupRail a0 a1 s) := by
  unfold hiccupRail
  extract_lets +onlyGivenNames x1
  have h2 : Keeps w s0 x1 := (keeps_railDown (keeps_setVar (keeps_stopT h0)))
  clear_value x1
  extract_lets +onlyGivenNames x3
  clear_value x3
  exact (keeps_setVar (keeps_setVar (keeps_startTR h2)))

theorem keeps_compensate {w : Touch} {s0 s : State} {a0 a1 a2 a3 a4} (h0 : Keeps w s0 s) : Keeps w s0 (compensate a0 a1 a2 a3
      a4 s) := by
  unfold compensate
  extract_lets +onlyGivenNames x1
  clear_value x1
  extract_lets +onlyGivenNames x2
  clear_value x2
  extract_lets +onlyGivenNames x3
  clear_value x3
  extract_lets +onlyGivenNames x4
  clear_value x4
  extract_lets +onlyGivenNames x5
  clear_value x5
  extract_lets +onlyGivenNames x6
  clear_value x6
  extract_lets +onlyGivenNames x7
  clear_value x7
  extract_lets +onlyGivenNames x8
  clear_value x8
  extract_lets +onlyGivenNames x9
  clear_value x9
  extract_lets +onlyGivenNames x10
  clear_value x10
  extract_lets +onlyGivenNames x11
  clear_value x11
  extract_lets +onlyGivenNames x12
  have h13 : Keeps w s0 x12 := (keeps_setVar (keeps_addVar h0))
  clear_value x12
  extract_lets +onlyGivenNames x14
  have h15 : Keeps w s0 x14 := (keeps_setFlag (keeps_setVar h13))
  clear_value x14
  extract_lets +onlyGivenNames x16
  have h17 : Keeps w s0 x16 := (keeps_setFlag (keeps_setVar h15))
  clear_value x16
  extract_lets +onlyGivenNames x18
  have h19 : Keeps w s0 x18 := (keeps_setBit (keeps_setBit h17))
  clear_value x18
  exact (keeps_setVar h19)

theorem keeps_giveReferences {w : Touch} {s0 s : State} {a0} (h0 : Keeps w s0 s) : Keeps w s0 (giveReferences a0 s) := by
  unfold giveReferences
  exact (forEach_keeps h0 fun _ _ k1 => (keeps_setVar k1))

theorem keeps_execRailCurrentLimitSustained {w : Touch} {s0 s : State} {a0} (h0 : Keeps w s0 s) : OutP (Keeps w s0)
      (execRailCurrentLimitSustained a0 s) := by
  unfold execRailCurrentLimitSustained
  refine ite_keeps ?_ (out_next h0)
  extract_lets +onlyGivenNames x1
  have h2 : Keeps w s0 x1 := (keeps_setBit h0)
  clear_value x1
  exact (out_next (keeps_raise h2))

theorem keeps_execSenseFault {w : Touch} {s0 s : State} {a0} (h0 : Keeps w s0 s) : OutP (Keeps w s0) (execSenseFault a0 s) :=
      by
  unfold execSenseFault
  refine ite_keeps ?_ (out_next h0)
  extract_lets +onlyGivenNames x1
  have h2 : Keeps w s0 x1 := (keeps_setBit h0)
  clear_value x1
  exact (out_next (keeps_raise h2))

theorem keeps_execVinFfOutOfRange {w : Touch} {s0 s : State} {a0} (h0 : Keeps w s0 s) : OutP (Keeps w s0)
      (execVinFfOutOfRange a0 s) := by
  unfold execVinFfOutOfRange
  refine ite_keeps ?_ (out_next h0)
  extract_lets +onlyGivenNames x1
  have h2 : Keeps w s0 x1 := (keeps_setBit h0)
  clear_value x1
  exact (out_next (keeps_raise h2))

theorem keeps_buckCycle {w : Touch} {s0 s : State} {a0} (h0 : Keeps w s0 s) : Keeps w s0 (buckCycle a0 s) := by
  unfold buckCycle
  exact (keeps_setFlag (ite_keeps h0 (keeps_condOff (keeps_setVar h0))))

theorem keeps_buckEnds {w : Touch} {s0 s : State} {a0 a1 a2} (h0 : Keeps w s0 s) : Keeps w s0 (buckEnds a0 a1 a2 s) := by
  unfold buckEnds
  exact (keeps_setVar (keeps_setVar h0))

theorem keeps_buckTruncate {w : Touch} {s0 s : State} {a0 a1 a2} (h0 : Keeps w s0 s) : Keeps w s0 (buckTruncate a0 a1 a2 s)
      := by
  unfold buckTruncate
  exact (keeps_buckEnds (keeps_setFlag h0))

theorem keeps_execBuckInputRestored {w : Touch} {s0 s : State} {a0 a1} (h0 : Keeps w s0 s) : OutP (Keeps w s0)
      (execBuckInputRestored a0 a1 s) := by
  unfold execBuckInputRestored
  exact (ite_keeps (out_next (keeps_condOff (keeps_setBit (keeps_setVar h0)))) (out_next h0))

theorem keeps_ovpPeakTick {w : Touch} {s0 s : State} {a0} (h0 : Keeps w s0 s) : Keeps w s0 (ovpPeakTick a0 s) := by
  unfold ovpPeakTick
  exact (ite_keeps (keeps_setVar h0) h0)

theorem keeps_railMeans {w : Touch} {s0 s : State} {a0} (h0 : Keeps w s0 s) : Keeps w s0 (railMeans a0 s) := by
  unfold railMeans
  extract_lets +onlyGivenNames x1
  have h2 : Keeps w s0 x1 := (keeps_setVar h0)
  clear_value x1
  extract_lets +onlyGivenNames x3
  clear_value x3
  exact (keeps_setVar (keeps_setVar (keeps_setVar h2)))

theorem keeps_railTick {w : Touch} {s0 s : State} {a0} (h0 : Keeps w s0 s) : Keeps w s0 (railTick a0 s) := by
  unfold railTick
  extract_lets +onlyGivenNames x1
  clear_value x1
  extract_lets +onlyGivenNames x2
  clear_value x2
  extract_lets +onlyGivenNames x3
  clear_value x3
  extract_lets +onlyGivenNames x4
  have h5 : Keeps w s0 x4 := (keeps_addVar (keeps_addVar h0))
  clear_value x4
  extract_lets +onlyGivenNames x6
  have h7 : Keeps w s0 x6 := (keeps_addVar h5)
  clear_value x6
  extract_lets +onlyGivenNames x8
  have h9 : Keeps w s0 x8 := (ite_keeps (keeps_setVar h7) h7)
  clear_value x8
  extract_lets +onlyGivenNames x10
  have h11 : Keeps w s0 x10 := (ite_keeps (keeps_setVar h9) h9)
  clear_value x10
  extract_lets +onlyGivenNames x12
  have h13 : Keeps w s0 x12 := (ite_keeps (keeps_setVar h11) h11)
  clear_value x12
  extract_lets +onlyGivenNames x14
  have h15 : Keeps w s0 x14 := (keeps_limitsTick (keeps_ovpPeakTick (keeps_addVar h13)))
  clear_value x14
  extract_lets +onlyGivenNames x16
  have h17 : Keeps w s0 x16 := (keeps_windowTick h15)
  clear_value x16
  extract_lets +onlyGivenNames x18
  have h19 : Keeps w s0 x18 := (keeps_setBit h17)
  clear_value x18
  extract_lets +onlyGivenNames x20
  have h21 : Keeps w s0 x20 := (keeps_countCond h19)
  clear_value x20
  extract_lets +onlyGivenNames x22
  have h23 : Keeps w s0 x22 := (ite_keeps h21 (keeps_setBit (keeps_condOff h21)))
  clear_value x22
  extract_lets +onlyGivenNames x24
  clear_value x24
  extract_lets +onlyGivenNames x25
  have h26 : Keeps w s0 x25 := (keeps_setVar (keeps_countCond h23))
  clear_value x25
  extract_lets +onlyGivenNames x27
  have h28 : Keeps w s0 x27 := (ite_keeps h26 (keeps_setBit (keeps_condOff h26)))
  clear_value x27
  extract_lets +onlyGivenNames x29
  clear_value x29
  extract_lets +onlyGivenNames x30
  have h31 : Keeps w s0 x30 := (keeps_countCond h28)
  clear_value x30
  extract_lets +onlyGivenNames x32
  have h33 : Keeps w s0 x32 := (ite_keeps h31 (keeps_setBit (keeps_condOff h31)))
  clear_value x32
  extract_lets +onlyGivenNames x34
  clear_value x34
  extract_lets +onlyGivenNames x35
  have h36 : Keeps w s0 x35 := (ite_keeps (keeps_setO h33) h33)
  clear_value x35
  exact (keeps_shedTick (keeps_setO (keeps_setO h36)))

theorem keeps_buckTick {w : Touch} {s0 s : State} {a0} (h0 : Keeps w s0 s) : Keeps w s0 (buckTick a0 s) := by
  unfold buckTick
  extract_lets +onlyGivenNames x1
  clear_value x1
  extract_lets +onlyGivenNames x2
  have h3 : Keeps w s0 x2 := (keeps_setVar h0)
  clear_value x2
  extract_lets +onlyGivenNames x4
  clear_value x4
  extract_lets +onlyGivenNames x5
  clear_value x5
  extract_lets +onlyGivenNames x6
  have h7 : Keeps w s0 x6 := (keeps_setVar h3)
  clear_value x6
  extract_lets +onlyGivenNames x8
  have h9 : Keeps w s0 x8 := (keeps_addVar (keeps_addVar h7))
  clear_value x8
  extract_lets +onlyGivenNames x10
  have h11 : Keeps w s0 x10 := (ite_keeps (keeps_setVar h9) h9)
  clear_value x10
  extract_lets +onlyGivenNames x12
  have h13 : Keeps w s0 x12 := (ite_keeps (keeps_setVar h11) h11)
  clear_value x12
  extract_lets +onlyGivenNames x14
  have h15 : Keeps w s0 x14 := (ite_keeps (keeps_setVar h13) h13)
  clear_value x14
  extract_lets +onlyGivenNames x16
  have h17 : Keeps w s0 x16 := (keeps_windowTick (keeps_ovpPeakTick (keeps_addVar h15)))
  clear_value x16
  extract_lets +onlyGivenNames x18
  have h19 : Keeps w s0 x18 := (keeps_setBit h17)
  clear_value x18
  extract_lets +onlyGivenNames x20
  have h21 : Keeps w s0 x20 := (ite_keeps (keeps_softStopEnd (keeps_softStartEnd (keeps_slewVramp h19))) h19)
  clear_value x20
  extract_lets +onlyGivenNames x22
  have h23 : Keeps w s0 x22 := (keeps_setO h21)
  clear_value x22
  extract_lets +onlyGivenNames x24
  have h25 : Keeps w s0 x24 := (keeps_setO h23)
  clear_value x24
  extract_lets +onlyGivenNames x26
  have h27 : Keeps w s0 x26 := (keeps_setO h25)
  clear_value x26
  extract_lets +onlyGivenNames x28
  have h29 : Keeps w s0 x28 := (keeps_setBit h27)
  clear_value x28
  exact (keeps_setBit h29)

theorem keeps_clearSums {w : Touch} {s0 s : State} {a0} (h0 : Keeps w s0 s) : Keeps w s0 (clearSums a0 s) := by
  unfold clearSums
  extract_lets +onlyGivenNames x1
  have h2 : Keeps w s0 x1 := (keeps_setVar (keeps_setVar (keeps_setVar h0)))
  clear_value x1
  exact (keeps_setVar (keeps_setVar (keeps_setVar (keeps_setVar h2))))

theorem keeps_railRound {w : Touch} {s0 s : State} {a0} (h0 : Keeps w s0 s) : Keeps w s0 (railRound a0 s) := by
  unfold railRound
  extract_lets +onlyGivenNames x1
  have h2 : Keeps w s0 x1 := (keeps_setO (keeps_setO h0))
  clear_value x1
  extract_lets +onlyGivenNames x3
  have h4 : Keeps w s0 x3 := (keeps_setO (keeps_setO h2))
  clear_value x3
  extract_lets +onlyGivenNames x5
  have h6 : Keeps w s0 x5 := (keeps_setO (keeps_setO h4))
  clear_value x5
  exact (keeps_clearSums h6)

theorem keeps_buckRound {w : Touch} {s0 s : State} {a0} (h0 : Keeps w s0 s) : Keeps w s0 (buckRound a0 s) := by
  unfold buckRound
  extract_lets +onlyGivenNames x1
  clear_value x1
  extract_lets +onlyGivenNames x2
  have h3 : Keeps w s0 x2 := (keeps_setO (keeps_setO h0))
  clear_value x2
  extract_lets +onlyGivenNames x4
  have h5 : Keeps w s0 x4 := (keeps_setO (keeps_setO h3))
  clear_value x4
  extract_lets +onlyGivenNames x6
  have h7 : Keeps w s0 x6 := (keeps_setO h5)
  clear_value x6
  extract_lets +onlyGivenNames x8
  have h9 : Keeps w s0 x8 := (keeps_setO h7)
  clear_value x8
  exact (keeps_clearSums (keeps_setVar (keeps_setVar h9)))

theorem keeps_listApplied {w : Touch} {s0 s : State} {a0} (h0 : Keeps w s0 s) : Keeps w s0 (listApplied a0 s) := by
  unfold listApplied
  extract_lets +onlyGivenNames x1
  clear_value x1
  extract_lets +onlyGivenNames x2
  have h3 : Keeps w s0 x2 := (forRange_keeps h0 fun _ _ k4 => (ite_keeps (ite_keeps k4 (keeps_setO (keeps_setO k4)))
      (ite_keeps (keeps_setO (keeps_setO k4)) k4)))
  clear_value x2
  exact (keeps_showPool h3)

theorem keeps_gridApplied {w : Touch} {s0 s : State} {a0} (h0 : Keeps w s0 s) : Keeps w s0 (gridApplied a0 s) := by
  unfold gridApplied
  extract_lets +onlyGivenNames x1
  have h2 : Keeps w s0 x1 := (keeps_setVar h0)
  clear_value x1
  exact (ite_keeps (keeps_respread h2) h2)

theorem keeps_gridsStart {w : Touch} {s0 s : State} (h0 : Keeps w s0 s) : Keeps w s0 (gridsStart s) := by
  unfold gridsStart
  extract_lets +onlyGivenNames x1
  have h2 : Keeps w s0 x1 := (forRange_keeps h0 fun _ _ k3 => (keeps_setVar k3))
  clear_value x1
  exact (forRange_keeps h2 fun _ _ k4 => (keeps_setVar k4))

theorem keeps_listsAtBoot {w : Touch} {s0 s : State} (h0 : Keeps w s0 s) : Keeps w s0 (listsAtBoot s) := by
  unfold listsAtBoot
  extract_lets +onlyGivenNames x1
  have h2 : Keeps w s0 x1 := (forRange_keeps h0 fun _ _ k3 => (keeps_setFlag k3))
  clear_value x1
  exact (forRange_keeps h2 fun _ _ k4 => (keeps_listApplied k4))

theorem keeps_buckGridApplied {w : Touch} {s0 s : State} {a0} (h0 : Keeps w s0 s) : Keeps w s0 (buckGridApplied a0 s) := by
  unfold buckGridApplied
  exact (keeps_setVar h0)

end Sys2Proof.Machine
end

