-- ==== Sys2Proof/Laws/KeepsClocks.lean ====
section
/-!
SUPPORT. What the definitions of Machine/Clocks.lean keep: each passes on the queue, the canonical form, the programmed fuses, and
every part that its hypotheses do not let it write.
-/

namespace Sys2Proof.Machine
open State

theorem keeps_jobStartNext {w : Touch} {s0 s : State} {a0} (h0 : Keeps w s0 s) : Keeps w s0 (jobStartNext a0 s) := by
  unfold jobStartNext
  split
  · exact h0
  · refine ite_keeps ?_ h0
    extract_lets +onlyGivenNames x1
    clear_value x1
    split
    · have h2 := pair_of_eq (Q := Keeps w s0) (by assumption) (ite_keeps (pair_mk h0) (keeps_drawFree h0))
      extract_lets +onlyGivenNames x3
      have h4 : Keeps w s0 x3 := (Keeps.same h2 rfl rfl rfl rfl rfl rfl rfl rfl rfl rfl rfl)
      clear_value x3
      extract_lets +onlyGivenNames x5
      have h6 : Keeps w s0 x5 := (keeps_setO (keeps_setO h4))
      clear_value x5
      extract_lets +onlyGivenNames x7
      have h8 : Keeps w s0 x7 := (keeps_setO (keeps_setO h6))
      clear_value x7
      extract_lets +onlyGivenNames x9
      have h10 : Keeps w s0 x9 := (keeps_setVar (keeps_setVar h8))
      clear_value x9
      exact (keeps_setO h10)

theorem keeps_jobRequest {w : Touch} {s0 s : State} {a0 a1} (h0 : Keeps w s0 s) : Keeps w s0 (jobRequest a0 a1 s) := by
  unfold jobRequest
  extract_lets +onlyGivenNames x1
  have h2 : Keeps w s0 x1 := (Keeps.same h0 rfl rfl rfl rfl rfl rfl rfl rfl rfl rfl rfl)
  clear_value x1
  extract_lets +onlyGivenNames x3
  have h4 : Keeps w s0 x3 := (ite_keeps h2 (keeps_setO h2))
  clear_value x3
  extract_lets +onlyGivenNames x5
  have h6 : Keeps w s0 x5 := (keeps_setO h4)
  clear_value x5
  exact (keeps_setVar (keeps_jobStartNext h6))

theorem keeps_jobEnd {w : Touch} {s0 s : State} {a0 a1} (h0 : Keeps w s0 s) : Keeps w s0 (jobEnd a0 a1 s) := by
  unfold jobEnd
  split
  · exact h0
  · extract_lets +onlyGivenNames x1
    have h2 : Keeps w s0 x1 := (Keeps.same h0 rfl rfl rfl rfl rfl rfl rfl rfl rfl rfl rfl)
    clear_value x1
    extract_lets +onlyGivenNames x3
    have h4 : Keeps w s0 x3 := (keeps_setO h2)
    clear_value x3
    extract_lets +onlyGivenNames x5
    have h6 : Keeps w s0 x5 := (ite_keeps (keeps_setO h4) h4)
    clear_value x5
    exact (keeps_jobStartNext (keeps_setVar h6))

theorem keeps_jobTick {w : Touch} {s0 s : State} (h0 : Keeps w s0 s) : Keeps w s0 (jobTick s) := by
  unfold jobTick
  split
  · exact h0
  · extract_lets +onlyGivenNames x1
    clear_value x1
    extract_lets +onlyGivenNames x2
    clear_value x2
    extract_lets +onlyGivenNames x3
    clear_value x3
    exact (ite_keeps h0 (keeps_setVar (keeps_setO h0)))

theorem keeps_discardJob {w : Touch} {s0 s : State} {a0} (h0 : Keeps w s0 s) : Keeps w s0 (discardJob a0 s) := by
  unfold discardJob
  exact (Keeps.same h0 rfl rfl rfl rfl rfl rfl rfl rfl rfl rfl rfl)

theorem keeps_resetPort {w : Touch} {s0 s : State} {a0} (hq : w.ports = true) (h0 : Keeps w s0 s) : Keeps w s0 (resetPort a0
      s) := by
  unfold resetPort
  extract_lets +onlyGivenNames x1
  have h2 : Keeps w s0 x1 := (Keeps.same h0 rfl rfl rfl rfl rfl rfl rfl rfl rfl rfl rfl)
  clear_value x1
  extract_lets +onlyGivenNames x3
  have h4 : Keeps w s0 x3 := (ite_keeps (keeps_setVar (keeps_setVar h2)) h2)
  clear_value x3
  extract_lets +onlyGivenNames x5
  have h6 : Keeps w s0 x5 := (keeps_setVar (keeps_discardJob (keeps_discardJob h4)))
  clear_value x5
  split
  · exact (Keeps.samePorts hq h6 rfl rfl rfl rfl rfl rfl rfl rfl rfl rfl)
  · exact h6

theorem keeps_clkReport {w : Touch} {s0 s : State} (h0 : Keeps w s0 s) : Keeps w s0 (clkReport s) := by
  unfold clkReport
  exact (keeps_setO h0)

theorem keeps_clockTick {w : Touch} {s0 s : State} (h0 : Keeps w s0 s) : Keeps w s0 (clockTick s) := by
  unfold clockTick
  extract_lets +onlyGivenNames x1
  have h2 : Keeps w s0 x1 := (keeps_setBit (keeps_countCond h0))
  clear_value x1
  extract_lets +onlyGivenNames x3
  have h4 : Keeps w s0 x3 := (ite_keeps (keeps_condOff h2) h2)
  clear_value x3
  extract_lets +onlyGivenNames x5
  have h6 : Keeps w s0 x5 := (keeps_countCond h4)
  clear_value x5
  extract_lets +onlyGivenNames x7
  have h8 : Keeps w s0 x7 := (ite_keeps h6 (keeps_setBit h6))
  clear_value x7
  extract_lets +onlyGivenNames x9
  have h10 : Keeps w s0 x9 := (ite_keeps h8 (keeps_setFlag h8))
  clear_value x9
  extract_lets +onlyGivenNames x11
  have h12 : Keeps w s0 x11 := (keeps_setO (keeps_setO h10))
  clear_value x11
  extract_lets +onlyGivenNames x13
  clear_value x13
  extract_lets +onlyGivenNames x14
  clear_value x14
  extract_lets +onlyGivenNames x15
  clear_value x15
  extract_lets +onlyGivenNames x16
  clear_value x16
  extract_lets +onlyGivenNames x17
  clear_value x17
  extract_lets +onlyGivenNames x18
  have h19 : Keeps w s0 x18 := (ite_keeps (keeps_setVar h12) (ite_keeps (keeps_setVar h12) (ite_keeps (keeps_countCond
      (keeps_setVar h12)) (ite_keeps (keeps_setVar h12) (ite_keeps (keeps_setVar h12) h12)))))
  clear_value x18
  extract_lets +onlyGivenNames x20
  have h21 : Keeps w s0 x20 := (ite_keeps (keeps_setO h19) h19)
  clear_value x20
  exact (keeps_clkReport h21)

theorem keeps_clockRound {w : Touch} {s0 s : State} (h0 : Keeps w s0 s) : Keeps w s0 (clockRound s) := by
  unfold clockRound
  exact (keeps_setFlag (ite_keeps (keeps_setVar h0) (keeps_addVar h0)))

theorem keeps_enterHoldover {w : Touch} {s0 s : State} (h0 : Keeps w s0 s) : Keeps w s0 (enterHoldover s) := by
  unfold enterHoldover
  extract_lets +onlyGivenNames x1
  have h2 : Keeps w s0 x1 := (keeps_setBit (keeps_setFlag h0))
  clear_value x1
  exact (ite_keeps (keeps_setO h2) (keeps_startTR (keeps_setO h2)))

theorem keeps_syncGone {w : Touch} {s0 s : State} (h0 : Keeps w s0 s) : Keeps w s0 (syncGone s) := by
  unfold syncGone
  extract_lets +onlyGivenNames x1
  have h2 : Keeps w s0 x1 := (keeps_setBit (keeps_setBit h0))
  clear_value x1
  extract_lets +onlyGivenNames x3
  have h4 : Keeps w s0 x3 := (keeps_bump h2)
  clear_value x3
  exact (ite_keeps (keeps_enterHoldover h4) h4)

theorem keeps_followHarness {w : Touch} {s0 s : State} (h0 : Keeps w s0 s) : Keeps w s0 (followHarness s) := by
  unfold followHarness
  exact (keeps_stopT (keeps_setBit (keeps_setFlag (keeps_setO h0))))

theorem keeps_leaveHarness {w : Touch} {s0 s : State} (h0 : Keeps w s0 s) : Keeps w s0 (leaveHarness s) := by
  unfold leaveHarness
  exact (ite_keeps h0 (ite_keeps (keeps_setVar (keeps_setFlag (keeps_setO h0))) (keeps_enterHoldover h0)))

theorem keeps_execSyncInLost {w : Touch} {s0 s : State} {a0} (h0 : Keeps w s0 s) : OutP (Keeps w s0) (execSyncInLost a0 s) :=
      by
  unfold execSyncInLost
  exact (ite_keeps (out_next (keeps_raiseLater (keeps_syncGone h0))) (out_next h0))

theorem keeps_execSyncInOutOfRange {w : Touch} {s0 s : State} {a0} (h0 : Keeps w s0 s) : OutP (Keeps w s0)
      (execSyncInOutOfRange a0 s) := by
  unfold execSyncInOutOfRange
  exact (ite_keeps (out_next (keeps_raiseLater (keeps_syncGone h0))) (out_next h0))

theorem keeps_execHoldoverExpiry {w : Touch} {s0 s : State} (h0 : Keeps w s0 s) : OutP (Keeps w s0) (execHoldoverExpiry s) :=
      by
  unfold execHoldoverExpiry
  exact (ite_keeps (out_next (keeps_setVar (keeps_stopT (keeps_setO h0)))) (out_next h0))

theorem keeps_execSlewToCrystalComplete {w : Touch} {s0 s : State} (h0 : Keeps w s0 s) : OutP (Keeps w s0)
      (execSlewToCrystalComplete s) := by
  unfold execSlewToCrystalComplete
  exact (ite_keeps (out_next (keeps_record (keeps_setO h0))) (out_next h0))

theorem keeps_execSyncInReturned {w : Touch} {s0 s : State} {a0} (h0 : Keeps w s0 s) : OutP (Keeps w s0) (execSyncInReturned
      a0 s) := by
  unfold execSyncInReturned
  refine ite_keeps ?_ (out_next h0)
  extract_lets +onlyGivenNames x1
  have h2 : Keeps w s0 x1 := (keeps_setBit (keeps_setBit h0))
  clear_value x1
  extract_lets +onlyGivenNames x3
  have h4 : Keeps w s0 x3 := (keeps_setO (keeps_condOff (keeps_condOff h2)))
  clear_value x3
  extract_lets +onlyGivenNames x5
  have h6 : Keeps w s0 x5 := (keeps_setVar h4)
  clear_value x5
  exact (ite_keeps (out_next (keeps_stopT (keeps_setFlag (keeps_setO h6)))) (out_next h6))

theorem keeps_execSyncInSlewComplete {w : Touch} {s0 s : State} (h0 : Keeps w s0 s) : OutP (Keeps w s0)
      (execSyncInSlewComplete s) := by
  unfold execSyncInSlewComplete
  exact (ite_keeps (out_next (keeps_setVar (keeps_setFlag h0))) (out_next h0))

theorem keeps_execPhaseLockRegained {w : Touch} {s0 s : State} (h0 : Keeps w s0 s) : OutP (Keeps w s0) (execPhaseLockRegained
      s) := by
  unfold execPhaseLockRegained
  exact (ite_keeps (out_next (keeps_raiseAction (keeps_setBit (keeps_setFlag (keeps_setO h0))))) (out_next h0))

theorem keeps_execCrystalFailed {w : Touch} {s0 s : State} (h0 : Keeps w s0 s) : OutP (Keeps w s0) (execCrystalFailed s) :=
      by
  unfold execCrystalFailed
  refine ite_keeps ?_ (out_next h0)
  extract_lets +onlyGivenNames x1
  clear_value x1
  extract_lets +onlyGivenNames x2
  have h3 : Keeps w s0 x2 := (keeps_raise (keeps_setVar (keeps_setFlag (keeps_setBit h0))))
  clear_value x2
  exact (ite_keeps (out_next (keeps_stopT (keeps_setO h3))) (out_next h3))

theorem keeps_execCrystalRestored {w : Touch} {s0 s : State} (h0 : Keeps w s0 s) : OutP (Keeps w s0) (execCrystalRestored s)
      := by
  unfold execCrystalRestored
  refine ite_keeps ?_ (out_next h0)
  extract_lets +onlyGivenNames x1
  have h2 : Keeps w s0 x1 := (keeps_record (keeps_condOff (keeps_setFlag (keeps_setBit h0))))
  clear_value x1
  exact (ite_keeps (out_next (keeps_setVar (keeps_setO h2))) (out_next h2))

theorem keeps_execPllLossOfLock {w : Touch} {s0 s : State} (h0 : Keeps w s0 s) : OutP (Keeps w s0) (execPllLossOfLock s) :=
      by
  unfold execPllLossOfLock
  exact (ite_keeps (out_next (keeps_raise (keeps_bump h0))) (out_next h0))

theorem keeps_judgeSync {w : Touch} {s0 s : State} (h0 : Keeps w s0 s) : Keeps w s0 (judgeSync s) := by
  unfold judgeSync
  extract_lets +onlyGivenNames x1
  clear_value x1
  exact (ite_keeps (keeps_raise (keeps_syncGone h0)) h0)

theorem keeps_referenceChange {w : Touch} {s0 s : State} {a0 a1} (h0 : Keeps w s0 s) : Keeps w s0 (referenceChange a0 a1 s)
      := by
  unfold referenceChange
  extract_lets +onlyGivenNames x1
  have h2 : Keeps w s0 x1 := (ite_keeps h0 (keeps_record h0))
  clear_value x1
  extract_lets +onlyGivenNames x3
  have h4 : Keeps w s0 x3 := (keeps_judgeSync h2)
  clear_value x3
  exact (ite_keeps h4 (ite_keeps (ite_keeps (keeps_setBit (keeps_setFlag (keeps_setO h4))) h4) (ite_keeps (ite_keeps
      (keeps_enterHoldover h4) (keeps_setVar (keeps_setBit (keeps_setFlag (keeps_setO h4))))) h4)))

theorem keeps_syncOutRestart {w : Touch} {s0 s : State} (h0 : Keeps w s0 s) : Keeps w s0 (syncOutRestart s) := by
  unfold syncOutRestart
  exact (keeps_setVar h0)

theorem keeps_execTerrierExpiry {w : Touch} {s0 s : State} {a0 a1 a2} (h0 : Keeps w s0 s) : OutP (Keeps w s0)
      (execTerrierExpiry a0 a1 a2 s) := by
  unfold execTerrierExpiry
  refine ite_keeps ?_ (out_next h0)
  extract_lets +onlyGivenNames x1
  clear_value x1
  extract_lets +onlyGivenNames x2
  clear_value x2
  extract_lets +onlyGivenNames x3
  clear_value x3
  extract_lets +onlyGivenNames x4
  clear_value x4
  extract_lets +onlyGivenNames x5
  have h6 : Keeps w s0 x5 := (keeps_setO (keeps_setO (keeps_bump h0)))
  clear_value x5
  extract_lets +onlyGivenNames x7
  have h8 : Keeps w s0 x7 := (keeps_setO (keeps_setO h6))
  clear_value x7
  extract_lets +onlyGivenNames x9
  have h10 : Keeps w s0 x9 := (keeps_setO (keeps_setO h8))
  clear_value x9
  extract_lets +onlyGivenNames x11
  have h12 : Keeps w s0 x11 := (keeps_raiseActionLater h10)
  clear_value x11
  extract_lets +onlyGivenNames x13
  have h14 : Keeps w s0 x13 := (ite_keeps (keeps_setVar (keeps_setFlag h12)) (keeps_setVar h12))
  clear_value x13
  exact (out_next (keeps_requestMode h14))

end Sys2Proof.Machine
end

