-- ==== Sys2Proof/Laws/KeepsNvm.lean ====
section
/-!
SUPPORT. What the definitions of Machine/Nvm.lean keep: each passes on the queue, the canonical form, the programmed fuses, and
every part that its hypotheses do not let it write.
-/

namespace Sys2Proof.Machine
open State

theorem keeps_lineMended {w : Touch} {s0 s : State} {a0} (h0 : Keeps w s0 s) : Keeps w s0 (lineMended a0 s) := by
  unfold lineMended
  refine ite_keeps ?_ h0
  extract_lets +onlyGivenNames x1
  have h2 : Keeps w s0 x1 := (keeps_setVar h0)
  clear_value x1
  exact (keeps_setBit h2)

theorem keeps_lineLost {w : Touch} {s0 s : State} {a0 a1} (h0 : Keeps w s0 s) : Keeps w s0 (lineLost a0 a1 s) := by
  unfold lineLost
  extract_lets +onlyGivenNames x1
  clear_value x1
  extract_lets +onlyGivenNames x2
  have h3 : Keeps w s0 x2 := (Keeps.same h0 rfl rfl rfl rfl rfl rfl rfl rfl rfl rfl rfl)
  clear_value x2
  extract_lets +onlyGivenNames x4
  have h5 : Keeps w s0 x4 := (keeps_bump (keeps_setO h3))
  clear_value x4
  extract_lets +onlyGivenNames x6
  have h7 : Keeps w s0 x6 := (keeps_raiseActionLater h5)
  clear_value x6
  refine ite_keeps ?_ h7
  extract_lets +onlyGivenNames x8
  have h9 : Keeps w s0 x8 := (keeps_setBit (keeps_setFlag h7))
  clear_value x8
  split
  · exact (keeps_raiseActionLater h9)

theorem keeps_nvmReadEffect {w : Touch} {s0 s : State} {a0} (h0 : Keeps w s0 s) : Keeps w s0 (nvmReadEffect a0 s) := by
  unfold nvmReadEffect
  split
  · exact h0
  · exact (keeps_bump h0)
  · exact (keeps_lineLost h0)

theorem keeps_nvmRead {w : Touch} {s0 s : State} {a0 a1} (h0 : Keeps w s0 s) : PairP (Keeps w s0) (nvmRead a0 a1 s) := by
  unfold nvmRead
  exact (pair_mk (forRange_keeps h0 fun _ _ k1 => (keeps_nvmReadEffect k1)))

theorem keeps_nvmTouch {w : Touch} {s0 s : State} {a0 a1} (h0 : Keeps w s0 s) : Keeps w s0 (nvmTouch a0 a1 s) := by
  unfold nvmTouch
  exact (forRange_keeps h0 fun _ _ k1 => (keeps_nvmReadEffect k1))

theorem keeps_countersBack {w : Touch} {s0 s : State} {a0} (h0 : Keeps w s0 s) : Keeps w s0 (countersBack a0 s) := by
  unfold countersBack
  extract_lets +onlyGivenNames x1
  have h2 : Keeps w s0 x1 := (forEach_keeps h0 fun _ _ k3 => (keeps_setO k3))
  clear_value x1
  refine h2.stores rfl ?_ (OtpKept.same rfl) (fun _ => rfl) (fun _ => rfl) (fun _ => rfl) fun _ => rfl
  simp only [wf_parts]
  exact fun ⟨a, b, c⟩ => ⟨a, foldl_keeps (P := fun m => FMap.wf (fun _ => 0) m = true) b
    fun e m h => FMap.wf_set (fun _ => 0) m e.1 e.2 h, c⟩

theorem keeps_bufShow {w : Touch} {s0 s : State} (h0 : Keeps w s0 s) : Keeps w s0 (bufShow s) := by
  unfold bufShow
  extract_lets +onlyGivenNames x1
  have h2 : Keeps w s0 x1 := (keeps_setO h0)
  clear_value x1
  exact (ite_keeps (keeps_setO h2) h2)

theorem keeps_commitAsk {w : Touch} {s0 s : State} (h0 : Keeps w s0 s) : Keeps w s0 (commitAsk s) := by
  unfold commitAsk
  exact (ite_keeps h0 (keeps_setVar (keeps_setFlag h0)))

theorem keeps_bufEnter {w : Touch} {s0 s : State} {a0 a1 a2} (h0 : Keeps w s0 s) : Keeps w s0 (bufEnter a0 a1 a2 s) := by
  unfold bufEnter
  refine ite_keeps (Keeps.same h0 rfl rfl rfl rfl rfl rfl rfl rfl rfl rfl rfl) ?_
  extract_lets +onlyGivenNames x1
  have h2 : Keeps w s0 x1 := (ite_keeps h0 (keeps_nvmReadEffect h0))
  clear_value x1
  extract_lets +onlyGivenNames x3
  clear_value x3
  extract_lets +onlyGivenNames x4
  have h5 : Keeps w s0 x4 := (keeps_bufShow (Keeps.same h2 rfl rfl rfl rfl rfl rfl rfl rfl rfl rfl rfl))
  clear_value x4
  exact (ite_keeps (keeps_commitAsk h5) h5)

theorem keeps_nvmWriteLine {w : Touch} {s0 s : State} {a0 a1} (h0 : Keeps w s0 s) : Keeps w s0 (nvmWriteLine a0 a1 s) := by
  unfold nvmWriteLine
  exact (ite_keeps (keeps_bufEnter h0) (keeps_commitAsk (Keeps.same h0 rfl rfl rfl rfl rfl rfl rfl rfl rfl rfl rfl)))

theorem keeps_nvmWriteLoop {w : Touch} {s0 s : State} {a0 a1 a2} (h0 : Keeps w s0 s) : Keeps w s0 (nvmWriteLoop a0 a1 a2 s)
      := by
  induction a0 generalizing a1 a2 s with
  | zero => exact h0
  | succ n ih => exact ite_keeps h0 (ih (keeps_nvmWriteLine h0))

theorem keeps_nvmWrite {w : Touch} {s0 s : State} {a0 a1} (h0 : Keeps w s0 s) : Keeps w s0 (nvmWrite a0 a1 s) := by
  unfold nvmWrite
  exact (keeps_nvmWriteLoop h0)

theorem keeps_nvmTogether {w : Touch} {s0 s : State} {a0} (h0 : Keeps w s0 s) : Keeps w s0 (nvmTogether a0 s) := by
  unfold nvmTogether
  refine ite_keeps (forEach_keeps h0 fun _ _ k2 => (keeps_nvmWrite k2)) ?_
  extract_lets +onlyGivenNames x3
  clear_value x3
  exact (keeps_commitAsk (Keeps.same h0 rfl rfl rfl rfl rfl rfl rfl rfl rfl rfl rfl))

theorem keeps_drainWaiters {w : Touch} {s0 s : State} {a0} (h0 : Keeps w s0 s) : Keeps w s0 (drainWaiters a0 s) := by
  induction a0 generalizing s with
  | zero => exact h0
  | succ n ih =>
    unfold drainWaiters
    split
    · exact h0
    · refine ite_keeps (ih (Keeps.same h0 rfl rfl rfl rfl rfl rfl rfl rfl rfl rfl rfl)) ?_
      exact ite_keeps (ih (keeps_bufEnter (Keeps.same h0 rfl rfl rfl rfl rfl rfl rfl rfl rfl rfl rfl))) h0

theorem keeps_execCommitAgeExpiry {w : Touch} {s0 s : State} (h0 : Keeps w s0 s) : OutP (Keeps w s0) (execCommitAgeExpiry s)
      := by
  unfold execCommitAgeExpiry
  split
  · exact (out_next h0)
  · exact (ite_keeps (out_next (keeps_commitAsk h0)) (out_next h0))

theorem keeps_commitRefuse {w : Touch} {s0 s : State} (h0 : Keeps w s0 s) : Keeps w s0 (commitRefuse s) := by
  unfold commitRefuse
  refine ite_keeps ?_ h0
  extract_lets +onlyGivenNames x1
  have h2 : Keeps w s0 x1 := (keeps_setO (keeps_bump (keeps_setVar h0)))
  clear_value x1
  exact (keeps_recordPer h2)

theorem keeps_execCommitStart {w : Touch} {s0 s : State} (h0 : Keeps w s0 s) : OutP (Keeps w s0) (execCommitStart s) := by
  unfold execCommitStart
  refine ite_keeps ?_ (out_next h0)
  refine ite_keeps ?_ (out_next (keeps_commitRefuse h0))
  extract_lets +onlyGivenNames x1
  have h2 : Keeps w s0 x1 := (Keeps.same h0 rfl rfl rfl rfl rfl rfl rfl rfl rfl rfl rfl)
  clear_value x1
  extract_lets +onlyGivenNames x3
  have h4 : Keeps w s0 x3 := (keeps_jobRequest h2)
  clear_value x3
  extract_lets +onlyGivenNames x5
  have h6 : Keeps w s0 x5 := (keeps_setVar (keeps_setFlag h4))
  clear_value x5
  extract_lets +onlyGivenNames x7
  have h8 : Keeps w s0 x7 := (keeps_setVar (keeps_setVar h6))
  clear_value x7
  exact (out_next (keeps_setO h8))

theorem keeps_execCommitStep {w : Touch} {s0 s : State} (hm : w.mram = true) (h0 : Keeps w s0 s) : OutP (Keeps w s0)
      (execCommitStep s) := by
  unfold execCommitStep
  split
  · exact (out_next h0)
  · refine ite_keeps ?_ (out_next h0)
    extract_lets +onlyGivenNames x1
    have h2 : Keeps w s0 x1 := (keeps_writeMram hm h0)
    clear_value x1
    extract_lets +onlyGivenNames x3
    have h4 : Keeps w s0 x3 := (keeps_lineMended (Keeps.same h2 rfl rfl rfl rfl rfl rfl rfl rfl rfl rfl rfl))
    clear_value x3
    extract_lets +onlyGivenNames x5
    have h6 : Keeps w s0 x5 := (keeps_addO (keeps_setVar h4))
    clear_value x5
    exact (out_next (keeps_bufShow (keeps_drainWaiters (keeps_setVar h6))))

theorem keeps_commitClose {w : Touch} {s0 s : State} (h0 : Keeps w s0 s) : Keeps w s0 (commitClose s) := by
  unfold commitClose
  extract_lets +onlyGivenNames x1
  have h2 : Keeps w s0 x1 := (keeps_bump (keeps_setVar h0))
  clear_value x1
  extract_lets +onlyGivenNames x3
  have h4 : Keeps w s0 x3 := (keeps_setO h2)
  clear_value x3
  extract_lets +onlyGivenNames x5
  have h6 : Keeps w s0 x5 := (keeps_jobEnd (Keeps.same h4 rfl rfl rfl rfl rfl rfl rfl rfl rfl rfl rfl))
  clear_value x5
  exact (keeps_setO h6)

theorem keeps_execWriterWaitTimeout {w : Touch} {s0 s : State} (h0 : Keeps w s0 s) : OutP (Keeps w s0) (execWriterWaitTimeout
      s) := by
  unfold execWriterWaitTimeout
  split
  · exact (out_next h0)
  · exact (ite_keeps (out_next (keeps_raise h0)) (out_next h0))

theorem keeps_nvmTick {w : Touch} {s0 s : State} (h0 : Keeps w s0 s) : Keeps w s0 (nvmTick s) := by
  unfold nvmTick
  extract_lets +onlyGivenNames x1
  have h2 : Keeps w s0 x1 := (keeps_commitRefuse (keeps_setO h0))
  clear_value x1
  exact (ite_keeps (keeps_condOff h2) h2)

theorem keeps_nvmRound {w : Touch} {s0 s : State} (h0 : Keeps w s0 s) : Keeps w s0 (nvmRound s) := by
  unfold nvmRound
  extract_lets +onlyGivenNames x1
  have h2 : Keeps w s0 x1 := (keeps_setVar h0)
  clear_value x1
  extract_lets +onlyGivenNames x3
  have h4 : Keeps w s0 x3 := (ite_keeps h2 (keeps_condOff h2))
  clear_value x3
  extract_lets +onlyGivenNames x5
  clear_value x5
  extract_lets +onlyGivenNames x6
  have h7 : Keeps w s0 x6 := (keeps_countCond h4)
  clear_value x6
  exact (ite_keeps h7 (keeps_condOff h7))

theorem keeps_execCresFirstCharge {w : Touch} {s0 s : State} (h0 : Keeps w s0 s) : OutP (Keeps w s0) (execCresFirstCharge s)
      := by
  unfold execCresFirstCharge
  exact (ite_keeps (out_next (keeps_setBit h0)) (out_next h0))

theorem keeps_execCresLow {w : Touch} {s0 s : State} (h0 : Keeps w s0 s) : OutP (Keeps w s0) (execCresLow s) := by
  unfold execCresLow
  exact (ite_keeps (out_next (keeps_raise h0)) (out_next h0))

theorem keeps_execCresFault {w : Touch} {s0 s : State} (h0 : Keeps w s0 s) : OutP (Keeps w s0) (execCresFault s) := by
  unfold execCresFault
  refine ite_keeps ?_ (out_next h0)
  extract_lets +onlyGivenNames x1
  have h2 : Keeps w s0 x1 := (keeps_setBit (keeps_setBit h0))
  clear_value x1
  exact (out_next (keeps_raise h2))

theorem keeps_cresWarm {w : Touch} {s0 s : State} (h0 : Keeps w s0 s) : Keeps w s0 (cresWarm s) := by
  unfold cresWarm
  exact (ite_keeps (keeps_setVar (keeps_setVar (keeps_setVar (keeps_setO h0)))) h0)

theorem keeps_scrubRewrite {w : Touch} {s0 s : State} {a0 a1} (h0 : Keeps w s0 s) : Keeps w s0 (scrubRewrite a0 a1 s) := by
  unfold scrubRewrite
  exact (ite_keeps (keeps_bufEnter h0) (keeps_commitAsk (Keeps.same h0 rfl rfl rfl rfl rfl rfl rfl rfl rfl rfl rfl)))

theorem keeps_execScrubStep {w : Touch} {s0 s : State} (h0 : Keeps w s0 s) : OutP (Keeps w s0) (execScrubStep s) := by
  unfold execScrubStep
  refine ite_keeps ?_ (out_next h0)
  extract_lets +onlyGivenNames x1
  clear_value x1
  extract_lets +onlyGivenNames x2
  have h3 : Keeps w s0 x2 := by
    unfold x2
    split
    · exact (keeps_lineLost h0)
    · extract_lets +onlyGivenNames x4
      have h5 : Keeps w s0 x4 := (ite_keeps h0 (keeps_bump h0))
      clear_value x4
      exact (ite_keeps (keeps_scrubRewrite h5) h5)
  clear_value x2
  exact (ite_keeps (out_next (keeps_post (keeps_setVar (keeps_setVar h3)))) (out_next (keeps_setVar h3)))

theorem keeps_otpShow {w : Touch} {s0 s : State} (h0 : Keeps w s0 s) : Keeps w s0 (otpShow s) := by
  unfold otpShow
  extract_lets +onlyGivenNames x1
  clear_value x1
  exact (keeps_setO (keeps_setO (keeps_setO h0)))

theorem keeps_otpBurn {w : Touch} {s0 s : State} {a0 a1} (ho : w.otp = true) (h0 : Keeps w s0 s) : Keeps w s0 (otpBurn a0 a1
      s) := by
  unfold otpBurn
  exact (keeps_otpShow (keeps_burnFuse ho h0))

theorem keeps_otpReportMarginal {w : Touch} {s0 s : State} {a0 a1} (h0 : Keeps w s0 s) : Keeps w s0 (otpReportMarginal a0 a1
      s) := by
  unfold otpReportMarginal
  exact (keeps_raiseActionLater h0)

theorem keeps_otpMark {w : Touch} {s0 s : State} {a0} (ho : w.otp = true) (h0 : Keeps w s0 s) : Keeps w s0 (otpMark a0 s) :=
      by
  unfold otpMark
  exact (keeps_otpBurn ho (keeps_otpBurn ho h0))

theorem keeps_otpBlockMarginal {w : Touch} {s0 s : State} {a0} (ho : w.otp = true) (h0 : Keeps w s0 s) : Keeps w s0
      (otpBlockMarginal a0 s) := by
  unfold otpBlockMarginal
  split
  · have h1 := pair_of_eq (Q := Keeps w s0) (by assumption) (keeps_drawFree h0)
    exact (keeps_otpReportMarginal (keeps_otpMark ho h1))

theorem keeps_otpStart {w : Touch} {s0 s : State} {a0 a1} (h0 : Keeps w s0 s) : Keeps w s0 (otpStart a0 a1 s) := by
  unfold otpStart
  exact (keeps_setO (keeps_setVar (keeps_setVar (keeps_setFlag h0))))

theorem keeps_otpProgramBlock {w : Touch} {s0 s : State} {a0 a1} (h0 : Keeps w s0 s) : Keeps w s0 (otpProgramBlock a0 a1 s)
      := by
  unfold otpProgramBlock
  exact (ite_keeps (keeps_otpStart h0) (keeps_setVar h0))

theorem keeps_otpRound {w : Touch} {s0 s : State} (h0 : Keeps w s0 s) : Keeps w s0 (otpRound s) := by
  unfold otpRound
  refine ite_keeps ?_ h0
  split
  · exact (keeps_otpStart (keeps_setVar h0))
  · exact h0

theorem keeps_otpProgCmd {w : Touch} {s0 s : State} {a0} (h0 : Keeps w s0 s) : PairP (Keeps w s0) (otpProgCmd a0 s) := by
  unfold otpProgCmd
  extract_lets +onlyGivenNames x1
  clear_value x1
  extract_lets +onlyGivenNames x2
  clear_value x2
  exact (ite_keeps (pair_mk h0) (ite_keeps (pair_mk h0) (ite_keeps (pair_mk h0) (ite_keeps (pair_mk h0) (ite_keeps (pair_mk
      h0) (ite_keeps (pair_mk h0) (ite_keeps (pair_mk h0) (pair_mk (keeps_otpStart h0)))))))))

theorem keeps_execOtpProgramDone {w : Touch} {s0 s : State} {a0} (ho : w.otp = true) (h0 : Keeps w s0 s) : OutP (Keeps w s0)
      (execOtpProgramDone a0 s) := by
  unfold execOtpProgramDone
  refine ite_keeps ?_ (out_next h0)
  extract_lets +onlyGivenNames x1
  clear_value x1
  extract_lets +onlyGivenNames x2
  clear_value x2
  extract_lets +onlyGivenNames x3
  have h4 : Keeps w s0 x3 := (keeps_setFlag (keeps_otpBurn ho h0))
  clear_value x3
  exact (ite_keeps (out_next (keeps_post (keeps_record (keeps_setO h4)))) (out_next (keeps_otpReportMarginal (keeps_setO
      (keeps_otpMark ho h4)))))

theorem keeps_execOtpProgramStopped {w : Touch} {s0 s : State} (ho : w.otp = true) (h0 : Keeps w s0 s) : OutP (Keeps w s0)
      (execOtpProgramStopped s) := by
  unfold execOtpProgramStopped
  refine ite_keeps ?_ (out_next h0)
  extract_lets +onlyGivenNames x1
  clear_value x1
  split
  · have h2 := pair_of_eq (Q := Keeps w s0) (by assumption) (keeps_drawFree h0)
    extract_lets +onlyGivenNames x3
    have h4 : Keeps w s0 x3 := (keeps_otpBurn ho (keeps_setFlag h2))
    clear_value x3
    exact (out_next (keeps_setO (keeps_otpMark ho h4)))

end Sys2Proof.Machine
end

