-- ==== Sys2Proof/Laws/KeepsHealth.lean ====
section
/-!
SUPPORT. What the definitions of Machine/Health.lean keep: each passes on the queue, the canonical form, the programmed fuses, and
every part that its hypotheses do not let it write.
-/

namespace Sys2Proof.Machine
open State

theorem keeps_execOpenPhase {w : Touch} {s0 s : State} {a0} (h0 : Keeps w s0 s) : OutP (Keeps w s0) (execOpenPhase a0 s) :=
      by
  unfold execOpenPhase
  extract_lets +onlyGivenNames x1
  clear_value x1
  exact (ite_keeps (out_next (keeps_setVar (keeps_setFlag h0))) (out_next h0))

theorem keeps_plausTick {w : Touch} {s0 s : State} {a0 a1} (h0 : Keeps w s0 s) : Keeps w s0 (plausTick a0 a1 s) := by
  unfold plausTick
  extract_lets +onlyGivenNames x1
  clear_value x1
  extract_lets +onlyGivenNames x2
  clear_value x2
  refine ite_keeps ?_ h0
  extract_lets +onlyGivenNames x3
  clear_value x3
  extract_lets +onlyGivenNames x4
  clear_value x4
  extract_lets +onlyGivenNames x5
  clear_value x5
  extract_lets +onlyGivenNames x6
  clear_value x6
  exact (keeps_countCond h0)

theorem keeps_sfltTick {w : Touch} {s0 s : State} {a0} (h0 : Keeps w s0 s) : Keeps w s0 (sfltTick a0 s) := by
  unfold sfltTick
  exact (keeps_countCond h0)

theorem keeps_stageTick {w : Touch} {s0 s : State} {a0} (h0 : Keeps w s0 s) : Keeps w s0 (stageTick a0 s) := by
  unfold stageTick
  extract_lets +onlyGivenNames x1
  have h2 : Keeps w s0 x1 := (keeps_sfltTick h0)
  clear_value x1
  refine ite_keeps ?_ (keeps_condOff (keeps_setVar h2))
  extract_lets +onlyGivenNames x3
  clear_value x3
  refine ite_keeps (keeps_addVar h2) ?_
  refine forEach_keeps (keeps_setVar h2) fun _ _ h7 => ?_
  split
  · exact (keeps_setVar (keeps_setVar h7))

theorem keeps_execStageFaultUnattributed {w : Touch} {s0 s : State} {a0} (h0 : Keeps w s0 s) : OutP (Keeps w s0)
      (execStageFaultUnattributed a0 s) := by
  unfold execStageFaultUnattributed
  exact (ite_keeps (out_next (keeps_setVar (keeps_raise h0))) (out_next h0))

theorem keeps_execSpareRangeFailure {w : Touch} {s0 s : State} {a0 a1} (h0 : Keeps w s0 s) : OutP (Keeps w s0)
      (execSpareRangeFailure a0 a1 s) := by
  unfold execSpareRangeFailure
  extract_lets +onlyGivenNames x1
  clear_value x1
  refine ite_keeps ?_ (out_next h0)
  extract_lets +onlyGivenNames x2
  have h3 : Keeps w s0 x2 := (keeps_showPool (keeps_markFailed h0))
  clear_value x2
  exact (out_next (keeps_raiseActionLater h3))

theorem keeps_coverPosition {w : Touch} {s0 s : State} {a0 a1 a2 a3} (h0 : Keeps w s0 s) : Keeps w s0 (coverPosition a0 a1 a2
      a3 s) := by
  unfold coverPosition
  split
  · exact h0
  · exact (keeps_setVar h0)
  · extract_lets +onlyGivenNames x1
    have h2 : Keeps w s0 x1 := (keeps_setBit (keeps_setVar h0))
    clear_value x1
    extract_lets +onlyGivenNames x3
    have h4 : Keeps w s0 x3 := (keeps_bump (keeps_bumpSat h2))
    clear_value x3
    extract_lets +onlyGivenNames x5
    have h6 : Keeps w s0 x5 := (keeps_setVar (keeps_setVar h4))
    clear_value x5
    extract_lets +onlyGivenNames x7
    have h8 : Keeps w s0 x7 := (keeps_thermTerm (keeps_setVar h6))
    clear_value x7
    extract_lets +onlyGivenNames x9
    have h10 : Keeps w s0 x9 := (keeps_setVar h8)
    clear_value x9
    extract_lets +onlyGivenNames x11
    have h12 : Keeps w s0 x11 := (ite_keeps (keeps_setO h10) h10)
    clear_value x11
    exact (keeps_setVar (keeps_setVar h12))

theorem keeps_reraise {w : Touch} {s0 s : State} {a0 a1 a2} (h0 : Keeps w s0 s) : Keeps w s0 (reraise a0 a1 a2 s) := by
  unfold reraise
  exact (Keeps.same h0 rfl rfl rfl rfl rfl rfl rfl rfl rfl rfl rfl)

theorem keeps_sampleDetectors {w : Touch} {s0 s : State} {a0 a1} (h0 : Keeps w s0 s) : Keeps w s0 (sampleDetectors a0 a1 s)
      := by
  unfold sampleDetectors
  extract_lets +onlyGivenNames x1
  clear_value x1
  extract_lets +onlyGivenNames x2
  clear_value x2
  extract_lets +onlyGivenNames x3
  clear_value x3
  extract_lets +onlyGivenNames x4
  clear_value x4
  extract_lets +onlyGivenNames x5
  have h6 : Keeps w s0 x5 := by
    unfold x5
    refine forEach_keeps h0 fun _ _ h9 => ?_
    extract_lets +onlyGivenNames x10
    clear_value x10
    exact (ite_keeps (keeps_reraise h9) (keeps_raiseAction (keeps_setVar h9)))
  clear_value x5
  exact (forEach_keeps h6 fun _ _ k11 => (ite_keeps k11 (keeps_setVar (keeps_setVar (keeps_setFlag k11)))))

theorem keeps_detectTick {w : Touch} {s0 s : State} {a0} (h0 : Keeps w s0 s) : Keeps w s0 (detectTick a0 s) := by
  unfold detectTick
  exact (keeps_sampleDetectors h0)

theorem keeps_withdrawOpen {w : Touch} {s0 s : State} {a0} (h0 : Keeps w s0 s) : Keeps w s0 (withdrawOpen a0 s) := by
  unfold withdrawOpen
  exact (ite_keeps (keeps_setVar (Keeps.same h0 rfl rfl rfl rfl rfl rfl rfl rfl rfl rfl rfl)) h0)

theorem keeps_execSenseFailure {w : Touch} {s0 s : State} {a0 a1 a2} (h0 : Keeps w s0 s) : OutP (Keeps w s0)
      (execSenseFailure a0 a1 a2 s) := by
  unfold execSenseFailure
  extract_lets +onlyGivenNames x1
  clear_value x1
  refine ite_keeps ?_ (out_next h0)
  extract_lets +onlyGivenNames x2
  clear_value x2
  extract_lets +onlyGivenNames x3
  have h4 : Keeps w s0 x3 := (keeps_setVar (keeps_setVar (keeps_setVar h0)))
  clear_value x3
  exact (out_next (ite_keeps (keeps_sampleDetectors (keeps_withdrawOpen h4)) h4))

theorem keeps_removePhases {w : Touch} {s0 s : State} {a0 a1} (h0 : Keeps w s0 s) : Keeps w s0 (removePhases a0 a1 s) := by
  unfold removePhases
  extract_lets +onlyGivenNames x1
  clear_value x1
  extract_lets +onlyGivenNames x2
  have h3 : Keeps w s0 x2 := by
    unfold x2
    refine forEach_keeps h0 fun _ _ h6 => ?_
    extract_lets +onlyGivenNames x7
    have h8 : Keeps w s0 x7 := (ite_keeps (keeps_endPulse h6) h6)
    clear_value x7
    extract_lets +onlyGivenNames x9
    have h10 : Keeps w s0 x9 := (keeps_setVar (keeps_setFlag (keeps_markFailed h8)))
    clear_value x9
    extract_lets +onlyGivenNames x11
    have h12 : Keeps w s0 x11 := (keeps_setVar (keeps_setVar h10))
    clear_value x11
    exact (keeps_setVar (keeps_setVar (keeps_setFlag h12)))
  clear_value x2
  refine forEach_keeps h3 fun _ _ h14 => ?_
  extract_lets +onlyGivenNames x15
  have h16 : Keeps w s0 x15 := (keeps_coverPosition h14)
  clear_value x15
  split
  · exact (keeps_setVar h16)
  · exact (ite_keeps (keeps_raiseActionLater h16) h16)

theorem keeps_spareSlots {w : Touch} {s0 s : State} {a0} (h0 : Keeps w s0 s) : Keeps w s0 (spareSlots a0 s) := by
  unfold spareSlots
  extract_lets +onlyGivenNames x1
  clear_value x1
  extract_lets +onlyGivenNames x2
  clear_value x2
  extract_lets +onlyGivenNames x3
  have h4 : Keeps w s0 x3 := (ite_keeps (keeps_removePhases h0) h0)
  clear_value x3
  extract_lets +onlyGivenNames x5
  clear_value x5
  extract_lets +onlyGivenNames x6
  clear_value x6
  exact (ite_keeps (keeps_toLevel h4) (ite_keeps (ite_keeps (keeps_applySet h4) (keeps_showPool h4)) h4))

theorem keeps_deratedShadow {w : Touch} {s0 s : State} {a0} (h0 : Keeps w s0 s) : Keeps w s0 (deratedShadow a0 s) := by
  unfold deratedShadow
  refine ite_keeps ?_ (keeps_setO h0)
  extract_lets +onlyGivenNames x1
  have h2 : Keeps w s0 x1 := (ite_keeps (keeps_setO h0) h0)
  clear_value x1
  exact (keeps_setO h2)

theorem keeps_deratedTick {w : Touch} {s0 s : State} {a0} (h0 : Keeps w s0 s) : Keeps w s0 (deratedTick a0 s) := by
  unfold deratedTick
  refine ite_keeps (keeps_deratedShadow h0) ?_
  refine ite_keeps ?_ (ite_keeps h0 (keeps_condOff h0))
  extract_lets +onlyGivenNames x1
  clear_value x1
  extract_lets +onlyGivenNames x2
  have h3 : Keeps w s0 x2 := (keeps_setVar h0)
  clear_value x2
  exact (ite_keeps (keeps_enterDerated (keeps_condOff h3)) (ite_keeps (keeps_setO h3) h3))

theorem keeps_poolRestore {w : Touch} {s0 s : State} {a0 a1} (h0 : Keeps w s0 s) : PairP (Keeps w s0) (poolRestore a0 a1 s)
      := by
  unfold poolRestore
  refine ite_keeps (pair_mk h0) ?_
  refine ite_keeps (pair_mk h0) ?_
  extract_lets +onlyGivenNames x1
  clear_value x1
  extract_lets +onlyGivenNames x2
  have h3 : Keeps w s0 x2 := (keeps_setO (keeps_setBit h0))
  clear_value x2
  extract_lets +onlyGivenNames x4
  have h5 : Keeps w s0 x4 := (keeps_setVar (keeps_setFlag (keeps_setO h3)))
  clear_value x4
  exact (pair_mk (keeps_showPool (keeps_raiseActionLater h5)))

theorem keeps_excursion {w : Touch} {s0 s : State} {a0 a1} (h0 : Keeps w s0 s) : Keeps w s0 (excursion a0 a1 s) := by
  unfold excursion
  extract_lets +onlyGivenNames x1
  clear_value x1
  extract_lets +onlyGivenNames x2
  clear_value x2
  exact (ite_keeps h0 (ite_keeps (ite_keeps (keeps_setVar (keeps_setVar (keeps_bump h0))) (ite_keeps (keeps_setVar h0) h0))
      (ite_keeps (ite_keeps (keeps_setVar (keeps_setVar h0)) (ite_keeps (keeps_setVar h0) h0)) h0)))

theorem keeps_onTime {w : Touch} {s0 s : State} {a0} (h0 : Keeps w s0 s) : Keeps w s0 (onTime a0 s) := by
  unfold onTime
  extract_lets +onlyGivenNames x1
  have h2 : Keeps w s0 x1 := (keeps_addVar h0)
  clear_value x1
  refine ite_keeps h2 ?_
  extract_lets +onlyGivenNames x3
  have h4 : Keeps w s0 x3 := (keeps_bumpSat (keeps_setVar h2))
  clear_value x3
  extract_lets +onlyGivenNames x5
  clear_value x5
  exact (ite_keeps (keeps_setO (keeps_setVar h4)) h4)

theorem keeps_wearRound {w : Touch} {s0 s : State} {a0} (h0 : Keeps w s0 s) : Keeps w s0 (wearRound a0 s) := by
  unfold wearRound
  extract_lets +onlyGivenNames x1
  clear_value x1
  extract_lets +onlyGivenNames x2
  clear_value x2
  refine ite_keeps h0 ?_
  extract_lets +onlyGivenNames x3
  have h4 : Keeps w s0 x3 := (ite_keeps (keeps_addSat h0) h0)
  clear_value x3
  extract_lets +onlyGivenNames x5
  have h6 : Keeps w s0 x5 := (ite_keeps (keeps_onTime h4) h4)
  clear_value x5
  extract_lets +onlyGivenNames x7
  have h8 : Keeps w s0 x7 := (ite_keeps (keeps_excursion h6) h6)
  clear_value x7
  extract_lets +onlyGivenNames x9
  have h10 : Keeps w s0 x9 := (keeps_addVar h8)
  clear_value x9
  extract_lets +onlyGivenNames x11
  have h12 : Keeps w s0 x11 := (ite_keeps (keeps_setBit (keeps_setO (keeps_setVar h10))) h10)
  clear_value x11
  extract_lets +onlyGivenNames x13
  clear_value x13
  extract_lets +onlyGivenNames x14
  clear_value x14
  extract_lets +onlyGivenNames x15
  clear_value x15
  extract_lets +onlyGivenNames x16
  have h17 : Keeps w s0 x16 := (keeps_setBit h12)
  clear_value x16
  exact (ite_keeps (keeps_raise h17) (keeps_condOff h17))

theorem keeps_wearAlarm {w : Touch} {s0 s : State} {a0 a1} (h0 : Keeps w s0 s) : Keeps w s0 (wearAlarm a0 a1 s) := by
  unfold wearAlarm
  extract_lets +onlyGivenNames x1
  clear_value x1
  refine ite_keeps ?_ (keeps_condOff (keeps_setBit h0))
  extract_lets +onlyGivenNames x2
  clear_value x2
  extract_lets +onlyGivenNames x3
  have h4 : Keeps w s0 x3 := (keeps_setBit h0)
  clear_value x3
  exact (ite_keeps h4 (keeps_raise h4))

theorem keeps_wearStore {w : Touch} {s0 s : State} {a0} (h0 : Keeps w s0 s) : Keeps w s0 (wearStore a0 s) := by
  unfold wearStore
  exact (keeps_nvmWrite h0)

theorem keeps_loadFields {w : Touch} {s0 s : State} {a0 a1} (h0 : Keeps w s0 s) : Keeps w s0 (loadFields a0 a1 s) := by
  induction a0 generalizing a1 s with
  | nil => exact h0
  | cons p t ih => exact ih (keeps_setO h0)

theorem keeps_wearLoad {w : Touch} {s0 s : State} {a0} (h0 : Keeps w s0 s) : Keeps w s0 (wearLoad a0 s) := by
  unfold wearLoad
  extract_lets +onlyGivenNames x1
  clear_value x1
  extract_lets +onlyGivenNames x2
  clear_value x2
  split
  · have h3 := pair_of_eq (Q := Keeps w s0) (by assumption) (keeps_nvmRead h0)
    refine ite_keeps ?_ ?_
    · extract_lets +onlyGivenNames x4
      have h5 : Keeps w s0 x4 := (foldl_keeps h3 fun _ _ k6 => (keeps_setO k6))
      clear_value x4
      extract_lets +onlyGivenNames x7
      have h8 : Keeps w s0 x7 := (keeps_setO (keeps_setO (keeps_setO h5)))
      clear_value x7
      extract_lets +onlyGivenNames x9
      have h10 : Keeps w s0 x9 := (keeps_setVar (keeps_setHist h8))
      clear_value x9
      exact (keeps_raiseAction h10)
    · refine ite_keeps h3 ?_
      extract_lets +onlyGivenNames x11
      have h12 : Keeps w s0 x11 := (keeps_loadFields h3)
      clear_value x11
      extract_lets +onlyGivenNames x13
      clear_value x13
      extract_lets +onlyGivenNames x14
      have h15 : Keeps w s0 x14 := (keeps_setHist h12)
      clear_value x14
      exact (keeps_setVar h15)

theorem keeps_wearLoaded {w : Touch} {s0 s : State} {a0} (h0 : Keeps w s0 s) : Keeps w s0 (wearLoaded a0 s) := by
  unfold wearLoaded
  exact (keeps_setVar (keeps_wearLoad h0))

theorem keeps_showLife {w : Touch} {s0 s : State} {a0} (h0 : Keeps w s0 s) : Keeps w s0 (showLife a0 s) := by
  unfold showLife
  exact (keeps_setO h0)

theorem keeps_wearRescore {w : Touch} {s0 s : State} {a0 a1} (h0 : Keeps w s0 s) : Keeps w s0 (wearRescore a0 a1 s) := by
  unfold wearRescore
  exact (keeps_wearAlarm (keeps_showLife (keeps_setO h0)))

theorem keeps_wearCommit {w : Touch} {s0 s : State} {a0} (h0 : Keeps w s0 s) : Keeps w s0 (wearCommit a0 s) := by
  unfold wearCommit
  extract_lets +onlyGivenNames x1
  clear_value x1
  extract_lets +onlyGivenNames x2
  have h3 : Keeps w s0 x2 := (ite_keeps (keeps_wearRescore h0) h0)
  clear_value x2
  exact (keeps_commitAsk (keeps_wearStore (keeps_setVar (keeps_setVar h3))))

theorem keeps_execWearCommit {w : Touch} {s0 s : State} {a0} (h0 : Keeps w s0 s) : OutP (Keeps w s0) (execWearCommit a0 s) :=
      by
  unfold execWearCommit
  exact (ite_keeps (out_next (keeps_wearCommit h0)) (out_next h0))

theorem keeps_execWearRingPush {w : Touch} {s0 s : State} {a0} (h0 : Keeps w s0 s) : OutP (Keeps w s0) (execWearRingPush a0
      s) := by
  unfold execWearRingPush
  extract_lets +onlyGivenNames x1
  clear_value x1
  exact (ite_keeps (out_next (keeps_setVar (keeps_showLife (keeps_setHist h0)))) (out_next h0))

theorem keeps_wearResetWrite {w : Touch} {s0 s : State} {a0 a1} (h0 : Keeps w s0 s) : PairP (Keeps w s0) (wearResetWrite a0
      a1 s) := by
  unfold wearResetWrite
  refine ite_keeps (pair_mk h0) ?_
  refine ite_keeps (pair_mk h0) ?_
  extract_lets +onlyGivenNames x1
  clear_value x1
  extract_lets +onlyGivenNames x2
  clear_value x2
  extract_lets +onlyGivenNames x3
  clear_value x3
  extract_lets +onlyGivenNames x4
  have h5 : Keeps w s0 x4 := (foldl_keeps h0 fun _ _ k6 => (keeps_setO k6))
  clear_value x4
  extract_lets +onlyGivenNames x7
  have h8 : Keeps w s0 x7 := (keeps_setO (keeps_setO (keeps_setO h5)))
  clear_value x7
  extract_lets +onlyGivenNames x9
  have h10 : Keeps w s0 x9 := (keeps_setFlag (keeps_setVar (keeps_setVar (keeps_setHist h8))))
  clear_value x9
  exact (pair_mk (keeps_raiseActionLater (keeps_setVar h10)))

theorem keeps_healthBoot {w : Touch} {s0 s : State} (h0 : Keeps w s0 s) : Keeps w s0 (healthBoot s) := by
  unfold healthBoot
  exact (forRange_keeps h0 fun _ _ k1 => (ite_keeps (keeps_wearLoaded k1) k1))

end Sys2Proof.Machine
end

