-- ==== Sys2Proof/Laws/KeepsMarshal.lean ====
section
/-!
SUPPORT. What the definitions of Machine/Marshal.lean keep: each passes on the queue, the canonical form, the programmed fuses, and
every part that its hypotheses do not let it write.
-/

namespace Sys2Proof.Machine
open State

theorem keeps_showLevel {w : Touch} {s0 s : State} {a0} (h0 : Keeps w s0 s) : Keeps w s0 (showLevel a0 s) := by
  unfold showLevel
  extract_lets +onlyGivenNames x1
  clear_value x1
  exact (keeps_setBit (keeps_setO h0))

theorem keeps_showDevice {w : Touch} {s0 s : State} (h0 : Keeps w s0 s) : Keeps w s0 (showDevice s) := by
  unfold showDevice
  exact (keeps_setO h0)

theorem keeps_showQueue {w : Touch} {s0 s : State} (h0 : Keeps w s0 s) : Keeps w s0 (showQueue s) := by
  unfold showQueue
  extract_lets +onlyGivenNames x1
  clear_value x1
  extract_lets +onlyGivenNames x2
  have h3 : Keeps w s0 x2 := (keeps_setO h0)
  clear_value x2
  exact (ite_keeps (keeps_setO h3) h3)

theorem keeps_offerEntry {w : Touch} {s0 s : State} {a0} (h0 : Keeps w s0 s) : Keeps w s0 (offerEntry a0 s) := by
  unfold offerEntry
  refine ite_keeps (keeps_showQueue (Keeps.same h0 rfl rfl rfl rfl rfl rfl rfl rfl rfl rfl rfl)) ?_
  split
  · exact (keeps_bump (Keeps.same h0 rfl rfl rfl rfl rfl rfl rfl rfl rfl rfl rfl))
  · split
    · extract_lets +onlyGivenNames x1
      have h2 : Keeps w s0 x1 := (keeps_addVar (keeps_bump (keeps_bump (keeps_bump h0))))
      clear_value x1
      extract_lets +onlyGivenNames x3
      have h4 : Keeps w s0 x3 := (keeps_setVar (keeps_addVar h2))
      clear_value x3
      exact (keeps_post h4)
    · extract_lets +onlyGivenNames x5
      have h6 : Keeps w s0 x5 := (keeps_bump h0)
      clear_value x5
      exact (ite_keeps (keeps_bump h6) h6)

theorem keeps_offerFold {w : Touch} {s0 s : State} {a0} (h0 : Keeps w s0 s) : Keeps w s0 (offerFold a0 s) := by
  unfold offerFold
  split
  · exact (keeps_bump (Keeps.same h0 rfl rfl rfl rfl rfl rfl rfl rfl rfl rfl rfl))
  · exact (keeps_offerEntry h0)

theorem keeps_offerRecords {w : Touch} {s0 s : State} (h0 : Keeps w s0 s) : Keeps w s0 (offerRecords s) := by
  unfold offerRecords
  extract_lets +onlyGivenNames x1
  clear_value x1
  extract_lets +onlyGivenNames x2
  have h3 : Keeps w s0 x2 := by
    unfold x2
    refine forEach_keeps h0 fun _ _ h6 => ?_
    extract_lets +onlyGivenNames x7
    have h8 : Keeps w s0 x7 := (ite_keeps (keeps_bump h6) h6)
    clear_value x7
    extract_lets +onlyGivenNames x9
    clear_value x9
    exact (ite_keeps (keeps_offerFold h8) (keeps_offerEntry h8))
  clear_value x2
  exact (Keeps.same h3 rfl rfl rfl rfl rfl rfl rfl rfl rfl rfl rfl)

theorem keeps_promote {w : Touch} {s0 s : State} {a0 a1 a2} (h0 : Keeps w s0 s) : PairP (Keeps w s0) (promote a0 a1 a2 s) :=
      by
  unfold promote
  extract_lets +onlyGivenNames x1
  clear_value x1
  refine ite_keeps (pair_mk h0) ?_
  extract_lets +onlyGivenNames x2
  have h3 : Keeps w s0 x2 := (ite_keeps h0 (keeps_setFlag (keeps_setO (keeps_startTR h0))))
  clear_value x2
  extract_lets +onlyGivenNames x4
  have h5 : Keeps w s0 x4 := (keeps_bumpSat h3)
  clear_value x4
  refine ite_keeps ?_ (pair_mk h5)
  extract_lets +onlyGivenNames x6
  have h7 : Keeps w s0 x6 := (keeps_bump h5)
  clear_value x6
  refine ite_keeps (pair_mk h7) ?_
  extract_lets +onlyGivenNames x8
  have h9 : Keeps w s0 x8 := (keeps_post (keeps_setFlag h7))
  clear_value x8
  exact (pair_mk (keeps_record h9))

theorem keeps_evalEvent {w : Touch} {s0 s : State} {a0} (h0 : Keeps w s0 s) : Keeps w s0 (evalEvent a0 s) := by
  unfold evalEvent
  extract_lets +onlyGivenNames x1
  clear_value x1
  extract_lets +onlyGivenNames x2
  clear_value x2
  extract_lets +onlyGivenNames x3
  clear_value x3
  split
  · have h4 := pair_of_eq (Q := Keeps w s0) (by assumption) (keeps_promote h0)
    extract_lets +onlyGivenNames x5
    clear_value x5
    extract_lets +onlyGivenNames x6
    clear_value x6
    extract_lets +onlyGivenNames x7
    clear_value x7
    extract_lets +onlyGivenNames x8
    clear_value x8
    extract_lets +onlyGivenNames x9
    have h10 : Keeps w s0 x9 := (ite_keeps (keeps_bump (keeps_bump h4)) (keeps_bump (keeps_bump h4)))
    clear_value x9
    extract_lets +onlyGivenNames x11
    have h12 : Keeps w s0 x11 := (ite_keeps (keeps_record (keeps_post (keeps_bump h10))) h10)
    clear_value x11
    extract_lets +onlyGivenNames x13
    have h14 : Keeps w s0 x13 := (keeps_setBit (keeps_setBit h12))
    clear_value x13
    extract_lets +onlyGivenNames x15
    have h16 : Keeps w s0 x15 := (keeps_setVar h14)
    clear_value x15
    extract_lets +onlyGivenNames x17
    have h18 : Keeps w s0 x17 := (ite_keeps (keeps_setVar (keeps_showLevel h16)) h12)
    clear_value x17
    extract_lets +onlyGivenNames x19
    have h20 : Keeps w s0 x19 := (keeps_setO (keeps_setVar h18))
    clear_value x19
    extract_lets +onlyGivenNames x21
    have h22 : Keeps w s0 x21 := (keeps_setO (keeps_setO h20))
    clear_value x21
    extract_lets +onlyGivenNames x23
    have h24 : Keeps w s0 x23 := (Keeps.same h22 rfl rfl rfl rfl rfl rfl rfl rfl rfl rfl rfl)
    clear_value x23
    refine ite_keeps ?_ h24
    extract_lets +onlyGivenNames x25
    clear_value x25
    exact (ite_keeps (keeps_offerFold h24) (keeps_offerEntry h24))

theorem keeps_evaluate {w : Touch} {s0 s : State} (h0 : Keeps w s0 s) : Keeps w s0 (evaluate s) := by
  unfold evaluate
  refine ite_keeps h0 ?_
  extract_lets +onlyGivenNames x1
  clear_value x1
  extract_lets +onlyGivenNames x2
  have h3 : Keeps w s0 x2 := (ite_keeps (keeps_setO h0) h0)
  clear_value x2
  extract_lets +onlyGivenNames x4
  have h5 : Keeps w s0 x4 := (forEach_keeps (Keeps.same h3 rfl rfl rfl rfl rfl rfl rfl rfl rfl rfl rfl) fun _ _ k6 =>
      (keeps_evalEvent k6))
  clear_value x4
  exact (keeps_showDevice h5)

theorem keeps_clearClass {w : Touch} {s0 s : State} {a0 a1 a2} (h0 : Keeps w s0 s) : Keeps w s0 (clearClass a0 a1 a2 s) := by
  unfold clearClass
  extract_lets +onlyGivenNames x1
  clear_value x1
  extract_lets +onlyGivenNames x2
  have h3 : Keeps w s0 x2 := (ite_keeps (keeps_recordPer (keeps_post h0)) h0)
  clear_value x2
  extract_lets +onlyGivenNames x4
  have h5 : Keeps w s0 x4 := (keeps_setVar (keeps_setBit (keeps_setBit h3)))
  clear_value x4
  extract_lets +onlyGivenNames x6
  have h7 : Keeps w s0 x6 := (keeps_showLevel h5)
  clear_value x6
  exact (ite_keeps (keeps_setFlag (keeps_setO h7)) h7)

theorem keeps_clearTick {w : Touch} {s0 s : State} (h0 : Keeps w s0 s) : Keeps w s0 (clearTick s) := by
  unfold clearTick
  exact (keeps_showDevice (forRange_keeps h0 fun _ _ k1 => (ite_keeps k1 (forRange_keeps k1 fun _ _ k2 => (ite_keeps
      (keeps_clearClass k2) k2)))))

theorem keeps_quietTick {w : Touch} {s0 s : State} (h0 : Keeps w s0 s) : Keeps w s0 (quietTick s) := by
  unfold quietTick
  exact (forRange_keeps h0 fun _ _ k1 => (ite_keeps (keeps_setVar k1) k1))

theorem keeps_faultNTick {w : Touch} {s0 s : State} (h0 : Keeps w s0 s) : Keeps w s0 (faultNTick s) := by
  unfold faultNTick
  extract_lets +onlyGivenNames x1
  clear_value x1
  extract_lets +onlyGivenNames x2
  clear_value x2
  exact (keeps_setOB h0)

theorem keeps_acknowledge {w : Touch} {s0 s : State} {a0 a1} (h0 : Keeps w s0 s) : Keeps w s0 (acknowledge a0 a1 s) := by
  unfold acknowledge
  exact (keeps_setO h0)

theorem keeps_unackWrite {w : Touch} {s0 s : State} {a0 a1} (h0 : Keeps w s0 s) : PairP (Keeps w s0) (unackWrite a0 a1 s) :=
      by
  unfold unackWrite
  exact (pair_mk (keeps_acknowledge h0))

theorem keeps_ackAllWrite {w : Touch} {s0 s : State} {a0} (h0 : Keeps w s0 s) : PairP (Keeps w s0) (ackAllWrite a0 s) := by
  unfold ackAllWrite
  exact (ite_keeps (pair_mk (forRange_keeps h0 fun _ _ k1 => (ite_keeps k1 (keeps_acknowledge k1)))) (pair_mk h0))

theorem keeps_execCountWindowClose {w : Touch} {s0 s : State} {a0} (h0 : Keeps w s0 s) : OutP (Keeps w s0)
      (execCountWindowClose a0 s) := by
  unfold execCountWindowClose
  exact (ite_keeps (out_next (keeps_setFlag (keeps_setO (keeps_stopT h0)))) (out_next h0))

theorem keeps_execQuietPeriodExpiry {w : Touch} {s0 s : State} {a0} (h0 : Keeps w s0 s) : OutP (Keeps w s0)
      (execQuietPeriodExpiry a0 s) := by
  unfold execQuietPeriodExpiry
  refine ite_keeps ?_ (out_next h0)
  extract_lets +onlyGivenNames x1
  clear_value x1
  extract_lets +onlyGivenNames x2
  clear_value x2
  extract_lets +onlyGivenNames x3
  have h4 : Keeps w s0 x3 := (keeps_showDevice (forRange_keeps h0 fun _ _ k5 => (ite_keeps (keeps_clearClass k5) k5)))
  clear_value x3
  extract_lets +onlyGivenNames x6
  have h7 : Keeps w s0 x6 := (keeps_post (keeps_bump (keeps_bump h4)))
  clear_value x6
  exact (out_next (keeps_record h7))

theorem keeps_execLostRecordOffer {w : Touch} {s0 s : State} (h0 : Keeps w s0 s) : OutP (Keeps w s0) (execLostRecordOffer s)
      := by
  unfold execLostRecordOffer
  refine out_next ?_
  refine forRange_keeps h0 fun _ _ h3 => ?_
  refine ite_keeps ?_ h3
  extract_lets +onlyGivenNames x4
  clear_value x4
  exact (keeps_setVar (keeps_setVar (keeps_record h3)))

theorem keeps_condsBoot {w : Touch} {s0 s : State} (h0 : Keeps w s0 s) : Keeps w s0 (condsBoot s) := by
  unfold condsBoot
  exact (forRange_keeps h0 fun _ _ k1 => (keeps_setO k1))

theorem keeps_marshalBoot {w : Touch} {s0 s : State} (h0 : Keeps w s0 s) : Keeps w s0 (marshalBoot s) := by
  unfold marshalBoot
  extract_lets +onlyGivenNames x1
  have h2 : Keeps w s0 x1 := by
    unfold x1
    refine forRange_keeps h0 fun _ _ h5 => ?_
    extract_lets +onlyGivenNames x6
    have h7 : Keeps w s0 x6 := (keeps_setO (keeps_setO h5))
    clear_value x6
    extract_lets +onlyGivenNames x8
    have h9 : Keeps w s0 x8 := (keeps_setO (keeps_setO (keeps_setO h7)))
    clear_value x8
    extract_lets +onlyGivenNames x10
    have h11 : Keeps w s0 x10 := (keeps_setFlag (keeps_setFlag (keeps_stopT h9)))
    clear_value x10
    exact (forRange_keeps h11 fun _ _ k12 => (keeps_setVar k12))
  clear_value x1
  exact (keeps_setO (keeps_setO (keeps_setO (keeps_setOB h2))))

end Sys2Proof.Machine
end

