-- ==== Sys2Proof/Laws/KeepsSequencer.lean ====
section
/-!
SUPPORT. What the definitions of Machine/Sequencer.lean keep: each passes on the queue, the canonical form, the programmed fuses, and
every part that its hypotheses do not let it write.
-/

namespace Sys2Proof.Machine
open State

theorem keeps_goYard {w : Touch} {s0 s : State} {a0} (h0 : Keeps w s0 s) : Keeps w s0 (goYard a0 s) := by
  unfold goYard
  exact (keeps_setVar (keeps_setVar h0))

theorem keeps_setSeq {w : Touch} {s0 s : State} {a0 a1} (h0 : Keeps w s0 s) : Keeps w s0 (setSeq a0 a1 s) := by
  unfold setSeq
  extract_lets +onlyGivenNames x1
  have h2 : Keeps w s0 x1 := (ite_keeps h0 (keeps_setVar h0))
  clear_value x1
  extract_lets +onlyGivenNames x3
  have h4 : Keeps w s0 x3 := (keeps_setO h2)
  clear_value x3
  exact (keeps_setBit (keeps_setBit h4))

theorem keeps_showTable {w : Touch} {s0 s : State} (h0 : Keeps w s0 s) : Keeps w s0 (showTable s) := by
  unfold showTable
  extract_lets +onlyGivenNames x1
  have h2 : Keeps w s0 x1 := (keeps_setOB h0)
  clear_value x1
  extract_lets +onlyGivenNames x3
  have h4 : Keeps w s0 x3 := by
    unfold x3
    refine forRange_keeps h2 fun _ _ h7 => ?_
    extract_lets +onlyGivenNames x8
    clear_value x8
    exact (keeps_setO h7)
  clear_value x3
  exact (forEach_keeps h4 fun _ _ k9 => (ite_keeps (ite_keeps (keeps_setSeq k9) k9) (keeps_setSeq k9)))

theorem keeps_scEnable {w : Touch} {s0 s : State} {a0 a1} (h0 : Keeps w s0 s) : Keeps w s0 (scEnable a0 a1 s) := by
  unfold scEnable
  extract_lets +onlyGivenNames x1
  have h2 : Keeps w s0 x1 := (keeps_setBit (keeps_setFlag h0))
  clear_value x1
  exact (ite_keeps (keeps_setVar (keeps_setFlag h2)) h2)

theorem keeps_scTick {w : Touch} {s0 s : State} {a0} (h0 : Keeps w s0 s) : Keeps w s0 (scTick a0 s) := by
  unfold scTick
  extract_lets +onlyGivenNames x1
  clear_value x1
  extract_lets +onlyGivenNames x2
  clear_value x2
  extract_lets +onlyGivenNames x3
  have h4 : Keeps w s0 x3 := (keeps_addVar (keeps_setVar h0))
  clear_value x3
  extract_lets +onlyGivenNames x5
  have h6 : Keeps w s0 x5 := (ite_keeps (keeps_setVar h4) h4)
  clear_value x5
  extract_lets +onlyGivenNames x7
  have h8 : Keeps w s0 x7 := (ite_keeps (keeps_setVar h6) h6)
  clear_value x7
  extract_lets +onlyGivenNames x9
  have h10 : Keeps w s0 x9 := (keeps_windowTick (keeps_addVar h8))
  clear_value x9
  extract_lets +onlyGivenNames x11
  clear_value x11
  extract_lets +onlyGivenNames x12
  clear_value x12
  extract_lets +onlyGivenNames x13
  clear_value x13
  extract_lets +onlyGivenNames x14
  clear_value x14
  extract_lets +onlyGivenNames x15
  have h16 : Keeps w s0 x15 := (keeps_setBit (keeps_setBit h10))
  clear_value x15
  extract_lets +onlyGivenNames x17
  have h18 : Keeps w s0 x17 := (keeps_setBit (keeps_setBit h16))
  clear_value x17
  extract_lets +onlyGivenNames x19
  have h20 : Keeps w s0 x19 := (ite_keeps (keeps_setFlag h18) h18)
  clear_value x19
  extract_lets +onlyGivenNames x21
  clear_value x21
  exact (ite_keeps (keeps_countCond h20) (keeps_condOff (keeps_setVar h20)))

theorem keeps_scRound {w : Touch} {s0 s : State} {a0} (h0 : Keeps w s0 s) : Keeps w s0 (scRound a0 s) := by
  unfold scRound
  extract_lets +onlyGivenNames x1
  clear_value x1
  extract_lets +onlyGivenNames x2
  have h3 : Keeps w s0 x2 := (keeps_setO (keeps_setO h0))
  clear_value x2
  exact (keeps_clearSums (keeps_setO h3))

theorem keeps_execPgScLost {w : Touch} {s0 s : State} {a0} (h0 : Keeps w s0 s) : OutP (Keeps w s0) (execPgScLost a0 s) := by
  unfold execPgScLost
  exact (ite_keeps (out_next (keeps_raise h0)) (out_next h0))

theorem keeps_killRail {w : Touch} {s0 s : State} {a0 a1} (h0 : Keeps w s0 s) : Keeps w s0 (killRail a0 a1 s) := by
  unfold killRail
  extract_lets +onlyGivenNames x1
  clear_value x1
  extract_lets +onlyGivenNames x2
  have h3 : Keeps w s0 x2 := (keeps_setVar (keeps_setVar (keeps_stopT h0)))
  clear_value x2
  exact (ite_keeps (keeps_railDown (keeps_stopT (keeps_stopT h3))) (keeps_stopT (keeps_setVar (keeps_scEnable h3))))

theorem keeps_mainRailsOff {w : Touch} {s0 s : State} (h0 : Keeps w s0 s) : Keeps w s0 (mainRailsOff s) := by
  unfold mainRailsOff
  exact (forEach_keeps h0 fun _ _ k1 => (ite_keeps (keeps_killRail k1) k1))

theorem keeps_offNext {w : Touch} {s0 s : State} {a0 a1} (h0 : Keeps w s0 s) : Keeps w s0 (offNext a0 a1 s) := by
  unfold offNext
  exact (keeps_setVar (keeps_setVar h0))

theorem keeps_measure {w : Touch} {s0 s : State} {a0 a1} (h0 : Keeps w s0 s) : Keeps w s0 (measure a0 a1 s) := by
  unfold measure
  extract_lets +onlyGivenNames x1
  have h2 : Keeps w s0 x1 := (keeps_setFlag (keeps_setFlag (keeps_setFlag h0)))
  clear_value x1
  exact (keeps_startT (keeps_condOff h2))

theorem keeps_measureFailed {w : Touch} {s0 s : State} {a0 a1} (h0 : Keeps w s0 s) : Keeps w s0 (measureFailed a0 a1 s) := by
  unfold measureFailed
  exact (ite_keeps (keeps_measure h0) h0)

theorem keeps_markOff {w : Touch} {s0 s : State} {a0 a1} (h0 : Keeps w s0 s) : Keeps w s0 (markOff a0 a1 s) := by
  unfold markOff
  exact (keeps_setFlag (keeps_setFlag (keeps_setFlag (keeps_setVar h0))))

theorem keeps_cancelRail {w : Touch} {s0 s : State} {a0} (h0 : Keeps w s0 s) : Keeps w s0 (cancelRail a0 s) := by
  unfold cancelRail
  exact (ite_keeps (keeps_setSeq (keeps_stopT h0)) (keeps_setFlag (keeps_stopT h0)))

theorem keeps_blockDependants {w : Touch} {s0 s : State} {a0 a1 a2} (h0 : Keeps w s0 s) : Keeps w s0 (blockDependants a0 a1
      a2 s) := by
  unfold blockDependants
  extract_lets +onlyGivenNames x1
  clear_value x1
  extract_lets +onlyGivenNames x2
  clear_value x2
  refine forEach_keeps h0 fun _ _ h4 => ?_
  extract_lets +onlyGivenNames x5
  have h6 : Keeps w s0 x5 := (ite_keeps (keeps_markOff h4) (keeps_stopT h4))
  clear_value x5
  extract_lets +onlyGivenNames x7
  have h8 : Keeps w s0 x7 := (keeps_setVar (keeps_setVar (keeps_setSeq h6)))
  clear_value x7
  exact (keeps_raiseActionLater h8)

theorem keeps_chatterReport {w : Touch} {s0 s : State} {a0 a1} (h0 : Keeps w s0 s) : Keeps w s0 (chatterReport a0 a1 s) := by
  unfold chatterReport
  exact (ite_keeps (keeps_raiseActionLater h0) h0)

theorem keeps_failedToComeUp {w : Touch} {s0 s : State} {a0 a1 a2} (h0 : Keeps w s0 s) : Keeps w s0 (failedToComeUp a0 a1 a2
      s) := by
  unfold failedToComeUp
  extract_lets +onlyGivenNames x1
  have h2 : Keeps w s0 x1 := (keeps_measureFailed (keeps_offNext h0))
  clear_value x1
  extract_lets +onlyGivenNames x3
  have h4 : Keeps w s0 x3 := (keeps_bump (keeps_setSeq h2))
  clear_value x3
  extract_lets +onlyGivenNames x5
  have h6 : Keeps w s0 x5 := (ite_keeps h4 (keeps_chatterReport h4))
  clear_value x5
  extract_lets +onlyGivenNames x7
  have h8 : Keeps w s0 x7 := by
    unfold x7
    split
    · exact (keeps_raiseActionLater h6)
    · exact h6
  clear_value x7
  exact (keeps_blockDependants h8)

theorem keeps_reactRailOff {w : Touch} {s0 s : State} {a0 a1} (h0 : Keeps w s0 s) : Keeps w s0 (reactRailOff a0 a1 s) := by
  unfold reactRailOff
  extract_lets +onlyGivenNames x1
  have h2 : Keeps w s0 x1 := (keeps_measureFailed (keeps_killRail h0))
  clear_value x1
  exact (ite_keeps (keeps_setVar (keeps_setVar (keeps_setSeq h2))) h2)

theorem keeps_reactHiccup {w : Touch} {s0 s : State} {a0 a1} (h0 : Keeps w s0 s) : Keeps w s0 (reactHiccup a0 a1 s) := by
  unfold reactHiccup
  extract_lets +onlyGivenNames x1
  have h2 : Keeps w s0 x1 := (keeps_setVar (keeps_setVar (keeps_stopT h0)))
  clear_value x1
  extract_lets +onlyGivenNames x3
  have h4 : Keeps w s0 x3 := (keeps_setFlag (keeps_setFlag h2))
  clear_value x3
  extract_lets +onlyGivenNames x5
  have h6 : Keeps w s0 x5 := (ite_keeps (keeps_hiccupRail h4) (keeps_measureFailed (keeps_hiccupRail (keeps_scEnable h4))))
  clear_value x5
  exact (ite_keeps (keeps_setSeq h6) h6)

theorem keeps_pdisRecord {w : Touch} {s0 s : State} {a0 a1 a2 a3} (h0 : Keeps w s0 s) : Keeps w s0 (pdisRecord a0 a1 a2 a3 s)
      := by
  unfold pdisRecord
  exact (keeps_record h0)

theorem keeps_pdisAssert {w : Touch} {s0 s : State} {a0 a1 a2 a3} (h0 : Keeps w s0 s) : Keeps w s0 (pdisAssert a0 a1 a2 a3 s)
      := by
  unfold pdisAssert
  extract_lets +onlyGivenNames x1 x3
  have h2 : Keeps w s0 x1 := by
    unfold x1
    split
    · exact (keeps_setFlag h0)
    · exact h0
  have h4 : Keeps w s0 x3 := (keeps_setVar (keeps_setO (keeps_startT h2)))
  exact (ite_keeps h4 (keeps_pdisRecord (keeps_bump (keeps_setO h4))))

theorem keeps_pdisRelease {w : Touch} {s0 s : State} {a0} (h0 : Keeps w s0 s) : Keeps w s0 (pdisRelease a0 s) := by
  unfold pdisRelease
  extract_lets +onlyGivenNames x1
  clear_value x1
  extract_lets +onlyGivenNames x2
  have h3 : Keeps w s0 x2 := (keeps_setO (keeps_setO h0))
  clear_value x2
  exact (keeps_pdisRecord (forRange_keeps (keeps_stopT h3) fun _ _ k4 => (keeps_setVar k4)))

theorem keeps_paddockOff {w : Touch} {s0 s : State} {a0 a1 a2 a3 a4} (h0 : Keeps w s0 s) : Keeps w s0 (paddockOff a0 a1 a2 a3
      a4 s) := by
  unfold paddockOff
  extract_lets +onlyGivenNames x1
  have h2 : Keeps w s0 x1 := (keeps_pdisAssert h0)
  clear_value x1
  extract_lets +onlyGivenNames x3
  clear_value x3
  extract_lets +onlyGivenNames x4
  clear_value x4
  extract_lets +onlyGivenNames x5
  have h6 : Keeps w s0 x5 := (forEach_keeps h2 fun _ _ k7 => (keeps_blockDependants k7))
  clear_value x5
  refine forEach_keeps h6 fun _ _ h9 => ?_
  extract_lets +onlyGivenNames x10
  clear_value x10
  extract_lets +onlyGivenNames x11
  have h12 : Keeps w s0 x11 := (keeps_killRail (keeps_setVar h9))
  clear_value x11
  extract_lets +onlyGivenNames x13
  have h14 : Keeps w s0 x13 := (ite_keeps (keeps_setVar (keeps_measure h12)) h12)
  clear_value x13
  exact (keeps_setVar (keeps_setSeq (keeps_stopT h14)))

theorem keeps_padCmd {w : Touch} {s0 s : State} {a0 a1} (h0 : Keeps w s0 s) : PairP (Keeps w s0) (padCmd a0 a1 s) := by
  unfold padCmd
  exact (ite_keeps (pair_mk (Keeps.same h0 rfl rfl rfl rfl rfl rfl rfl rfl rfl rfl rfl)) (ite_keeps (ite_keeps (pair_mk h0)
      (ite_keeps (pair_mk (keeps_pdisRelease h0)) (pair_mk h0))) (pair_mk h0)))

theorem keeps_startRail {w : Touch} {s0 s : State} {a0} (h0 : Keeps w s0 s) : Keeps w s0 (startRail a0 s) := by
  unfold startRail
  extract_lets +onlyGivenNames x1
  have h2 : Keeps w s0 x1 := (keeps_setVar (keeps_setVar (keeps_stopT h0)))
  clear_value x1
  extract_lets +onlyGivenNames x3
  have h4 : Keeps w s0 x3 := (keeps_setO (keeps_setFlag (keeps_setVar h2)))
  clear_value x3
  extract_lets +onlyGivenNames x5
  have h6 : Keeps w s0 x5 := (keeps_setVar (keeps_setFlag (keeps_setFlag h4)))
  clear_value x5
  extract_lets +onlyGivenNames x7
  have h8 : Keeps w s0 x7 := (keeps_condOff h6)
  clear_value x7
  exact (keeps_setVar (keeps_setFlag (keeps_setFlag (keeps_setSeq h8))))

theorem keeps_startEffect {w : Touch} {s0 s : State} {a0} (h0 : Keeps w s0 s) : Keeps w s0 (startEffect a0 s) := by
  unfold startEffect
  exact (ite_keeps (ite_keeps (keeps_setFlag h0) (keeps_beginRail h0)) (keeps_startT (keeps_scEnable h0)))

theorem keeps_offEffect {w : Touch} {s0 s : State} {a0 a1} (h0 : Keeps w s0 s) : Keeps w s0 (offEffect a0 a1 s) := by
  unfold offEffect
  exact (ite_keeps (keeps_killRail h0) (ite_keeps (keeps_offByMode (keeps_stopT h0)) (keeps_killRail h0)))

theorem keeps_heldStart {w : Touch} {s0 s : State} {a0} (h0 : Keeps w s0 s) : Keeps w s0 (heldStart a0 s) := by
  unfold heldStart
  exact (ite_keeps (keeps_beginRail (keeps_setFlag h0)) h0)

theorem keeps_execOnDelayExpiry {w : Touch} {s0 s : State} {a0} (h0 : Keeps w s0 s) : OutP (Keeps w s0) (execOnDelayExpiry a0
      s) := by
  unfold execOnDelayExpiry
  exact (ite_keeps (out_next (keeps_setSeq (keeps_stopT h0))) (out_next h0))

theorem keeps_execStartCommand {w : Touch} {s0 s : State} {a0} (h0 : Keeps w s0 s) : OutP (Keeps w s0) (execStartCommand a0
      s) := by
  unfold execStartCommand
  refine ite_keeps ?_ (out_next h0)
  split
  · exact (out_next (keeps_failedToComeUp (keeps_setFlag (keeps_stopT h0))))
  · exact (out_next (keeps_startRail h0))

theorem keeps_qualifyTick {w : Touch} {s0 s : State} {a0} (h0 : Keeps w s0 s) : Keeps w s0 (qualifyTick a0 s) := by
  unfold qualifyTick
  refine ite_keeps ?_ h0
  extract_lets +onlyGivenNames x1
  clear_value x1
  extract_lets +onlyGivenNames x2
  have h3 : Keeps w s0 x2 := (ite_keeps (keeps_bump h0) h0)
  clear_value x2
  extract_lets +onlyGivenNames x4
  have h5 : Keeps w s0 x4 := (ite_keeps (keeps_setFlag h3) h3)
  clear_value x4
  exact (keeps_countCond (keeps_setFlag h5))

theorem keeps_execRailQualified {w : Touch} {s0 s : State} {a0} (h0 : Keeps w s0 s) : OutP (Keeps w s0) (execRailQualified a0
      s) := by
  unfold execRailQualified
  refine ite_keeps ?_ (out_next h0)
  extract_lets +onlyGivenNames x1
  have h2 : Keeps w s0 x1 := (keeps_setSeq (keeps_stopT h0))
  clear_value x1
  extract_lets +onlyGivenNames x3
  have h4 : Keeps w s0 x3 := (keeps_setO h2)
  clear_value x3
  extract_lets +onlyGivenNames x5
  have h6 : Keeps w s0 x5 := (forEach_keeps h4 fun _ _ k7 => (ite_keeps (keeps_setVar k7) k7))
  clear_value x5
  exact (out_next (keeps_chatterReport h6))

theorem keeps_execRiseTimerExpiry {w : Touch} {s0 s : State} {a0} (h0 : Keeps w s0 s) : OutP (Keeps w s0)
      (execRiseTimerExpiry a0 s) := by
  unfold execRiseTimerExpiry
  exact (ite_keeps (out_next (keeps_failedToComeUp h0)) (out_next h0))

theorem keeps_execDependantRestart {w : Touch} {s0 s : State} {a0} (h0 : Keeps w s0 s) : OutP (Keeps w s0)
      (execDependantRestart a0 s) := by
  unfold execDependantRestart
  extract_lets +onlyGivenNames x1
  clear_value x1
  refine ite_keeps ?_ (out_next h0)
  extract_lets +onlyGivenNames x2
  have h3 : Keeps w s0 x2 := (keeps_raiseActionLater h0)
  clear_value x2
  refine out_next ?_
  split
  · exact (keeps_failedToComeUp h3)
  · exact (keeps_startRail h3)

theorem keeps_execHiccupWaitExpiry {w : Touch} {s0 s : State} {a0} (h0 : Keeps w s0 s) : OutP (Keeps w s0)
      (execHiccupWaitExpiry a0 s) := by
  unfold execHiccupWaitExpiry
  refine ite_keeps ?_ (out_next h0)
  extract_lets +onlyGivenNames x1
  clear_value x1
  extract_lets +onlyGivenNames x2
  have h3 : Keeps w s0 x2 := (keeps_raiseActionLater h0)
  clear_value x2
  extract_lets +onlyGivenNames x4
  have h5 : Keeps w s0 x4 := (keeps_stopT h3)
  clear_value x4
  refine out_next ?_
  split
  · exact (keeps_failedToComeUp h5)
  · exact (keeps_startRail h5)

theorem keeps_execBuckInputUndervoltage {w : Touch} {s0 s : State} {a0 a1} (h0 : Keeps w s0 s) : OutP (Keeps w s0)
      (execBuckInputUndervoltage a0 a1 s) := by
  unfold execBuckInputUndervoltage
  extract_lets +onlyGivenNames x1
  clear_value x1
  extract_lets +onlyGivenNames x2
  clear_value x2
  refine ite_keeps ?_ (out_next h0)
  extract_lets +onlyGivenNames x3
  have h4 : Keeps w s0 x3 := (keeps_setBit (keeps_setVar h0))
  clear_value x3
  refine ite_keeps ?_ (out_next h4)
  extract_lets +onlyGivenNames x5
  have h6 : Keeps w s0 x5 := (keeps_raiseLater h4)
  clear_value x5
  extract_lets +onlyGivenNames x7
  have h8 : Keeps w s0 x7 := (keeps_measureFailed (keeps_killRail h6))
  clear_value x7
  exact (out_next (keeps_blockDependants (ite_keeps (keeps_setSeq h8) h8)))

theorem keeps_shtFailTick {w : Touch} {s0 s : State} {a0} (h0 : Keeps w s0 s) : Keeps w s0 (shtFailTick a0 s) := by
  unfold shtFailTick
  refine ite_keeps ?_ h0
  extract_lets +onlyGivenNames x1
  clear_value x1
  extract_lets +onlyGivenNames x2
  have h3 : Keeps w s0 x2 := (keeps_shtFailApply h0)
  clear_value x2
  extract_lets +onlyGivenNames x4
  have h5 : Keeps w s0 x4 := (ite_keeps (keeps_pdisAssert h3) h3)
  clear_value x4
  exact (keeps_setVar (keeps_setVar (keeps_failedToComeUp h5)))

theorem keeps_execOffDelayExpiry {w : Touch} {s0 s : State} {a0} (h0 : Keeps w s0 s) : OutP (Keeps w s0) (execOffDelayExpiry
      a0 s) := by
  unfold execOffDelayExpiry
  exact (ite_keeps (out_next (keeps_setSeq (keeps_stopT h0))) (out_next h0))

theorem keeps_dependantsNow {w : Touch} {s0 s : State} (h0 : Keeps w s0 s) : Keeps w s0 (dependantsNow s) := by
  unfold dependantsNow
  refine forEach_keeps h0 fun _ _ h2 => ?_
  refine ite_keeps ?_ h2
  extract_lets +onlyGivenNames x3
  have h4 : Keeps w s0 x3 := (keeps_killRail (keeps_setVar (keeps_setFlag h2)))
  clear_value x3
  exact (keeps_measure h4)

theorem keeps_commandOff {w : Touch} {s0 s : State} {a0 a1} (h0 : Keeps w s0 s) : Keeps w s0 (commandOff a0 a1 s) := by
  unfold commandOff
  extract_lets +onlyGivenNames x1
  clear_value x1
  extract_lets +onlyGivenNames x2
  have h3 : Keeps w s0 x2 := (keeps_offNext h0)
  clear_value x2
  extract_lets +onlyGivenNames x4
  have h5 : Keeps w s0 x4 := (ite_keeps h3 (keeps_measure h3))
  clear_value x4
  exact (keeps_stopT (keeps_stopT (keeps_setVar (keeps_setFlag h5))))

theorem keeps_execRailOffCommand {w : Touch} {s0 s : State} {a0} (h0 : Keeps w s0 s) : OutP (Keeps w s0) (execRailOffCommand
      a0 s) := by
  unfold execRailOffCommand
  extract_lets +onlyGivenNames x1
  clear_value x1
  refine ite_keeps ?_ (out_next h0)
  extract_lets +onlyGivenNames x2
  have h3 : Keeps w s0 x2 := (keeps_commandOff h0)
  clear_value x2
  exact (out_next (ite_keeps h3 (keeps_setSeq h3)))

theorem keeps_dischargedNow {w : Touch} {s0 s : State} {a0} (h0 : Keeps w s0 s) : Keeps w s0 (dischargedNow a0 s) := by
  unfold dischargedNow
  extract_lets +onlyGivenNames x1
  have h2 : Keeps w s0 x1 := (keeps_stopT (keeps_setFlag h0))
  clear_value x1
  extract_lets +onlyGivenNames x3
  have h4 : Keeps w s0 x3 := (ite_keeps (keeps_setFlag h2) h2)
  clear_value x3
  extract_lets +onlyGivenNames x5
  have h6 : Keeps w s0 x5 := (ite_keeps (keeps_setO h4) h4)
  clear_value x5
  extract_lets +onlyGivenNames x7
  have h8 : Keeps w s0 x7 := (keeps_setFlag (keeps_setVar h6))
  clear_value x7
  exact (ite_keeps (keeps_setSeq h8) h8)

theorem keeps_execRailDischarged {w : Touch} {s0 s : State} {a0} (h0 : Keeps w s0 s) : OutP (Keeps w s0) (execRailDischarged
      a0 s) := by
  unfold execRailDischarged
  exact (ite_keeps (out_next (keeps_dischargedNow (keeps_condOff (keeps_setFlag h0)))) (out_next h0))

theorem keeps_execDischargeWaitExpiry {w : Touch} {s0 s : State} {a0} (h0 : Keeps w s0 s) : OutP (Keeps w s0)
      (execDischargeWaitExpiry a0 s) := by
  unfold execDischargeWaitExpiry
  refine ite_keeps ?_ (out_next h0)
  extract_lets +onlyGivenNames x1
  have h2 : Keeps w s0 x1 := (keeps_raiseLater h0)
  clear_value x1
  extract_lets +onlyGivenNames x3
  have h4 : Keeps w s0 x3 := (keeps_stopT (keeps_setFlag (keeps_setFlag h2)))
  clear_value x3
  exact (out_next (ite_keeps (keeps_setFlag h4) h4))

theorem keeps_powerUpReset {w : Touch} {s0 s : State} (h0 : Keeps w s0 s) : Keeps w s0 (powerUpReset s) := by
  unfold powerUpReset
  exact (forEach_keeps h0 fun _ _ k1 => (ite_keeps (ite_keeps (keeps_setSeq k1) (keeps_setSeq (keeps_setVar k1))) k1))

theorem keeps_stallRelease {w : Touch} {s0 s : State} {a0} (h0 : Keeps w s0 s) : Keeps w s0 (stallRelease a0 s) := by
  unfold stallRelease
  extract_lets +onlyGivenNames x1
  clear_value x1
  extract_lets +onlyGivenNames x2
  have h3 : Keeps w s0 x2 := by
    unfold x2
    refine forEach_keeps h0 fun _ _ h6 => ?_
    extract_lets +onlyGivenNames x7
    clear_value x7
    exact (ite_keeps (keeps_pdisRelease h6) h6)
  clear_value x2
  refine forEach_keeps h3 fun _ _ h9 => ?_
  refine ite_keeps h9 ?_
  extract_lets +onlyGivenNames x10
  have h11 : Keeps w s0 x10 := (keeps_startT h9)
  clear_value x10
  exact (ite_keeps (keeps_setFlag h11) (ite_keeps (keeps_stopT h11) (keeps_setSeq h11)))

theorem keeps_measureReleased {w : Touch} {s0 s : State} {a0} (h0 : Keeps w s0 s) : Keeps w s0 (measureReleased a0 s) := by
  unfold measureReleased
  exact (ite_keeps h0 (keeps_measure (keeps_cancelRail h0)))

theorem keeps_downRelease {w : Touch} {s0 s : State} {a0} (h0 : Keeps w s0 s) : Keeps w s0 (downRelease a0 s) := by
  unfold downRelease
  exact (forEach_keeps h0 fun _ _ k1 => (ite_keeps k1 (ite_keeps (keeps_startT (keeps_setSeq (keeps_markOff k1)))
      (keeps_measureReleased k1))))

theorem keeps_reverseRelease {w : Touch} {s0 s : State} {a0} (h0 : Keeps w s0 s) : Keeps w s0 (reverseRelease a0 s) := by
  unfold reverseRelease
  exact (forEach_keeps h0 fun _ _ k1 => (ite_keeps k1 (ite_keeps (keeps_setSeq (keeps_markOff k1)) (keeps_measureReleased
      k1))))

theorem keeps_enterCommon {w : Touch} {s0 s : State} {a0} (h0 : Keeps w s0 s) : Keeps w s0 (enterCommon a0 s) := by
  unfold enterCommon
  extract_lets +onlyGivenNames x1
  have h2 : Keeps w s0 x1 := (keeps_setO (keeps_setO h0))
  clear_value x1
  extract_lets +onlyGivenNames x3
  have h4 : Keeps w s0 x3 := (keeps_setVar (keeps_setVar (keeps_setVar (keeps_setVar h2))))
  clear_value x3
  extract_lets +onlyGivenNames x5
  have h6 : Keeps w s0 x5 := (keeps_setVar (keeps_setVar h4))
  clear_value x5
  extract_lets +onlyGivenNames x7
  clear_value x7
  exact (ite_keeps (keeps_startT (keeps_startT h6)) (keeps_stopT (keeps_stopT h6)))

theorem keeps_enterUp {w : Touch} {s0 s : State} {a0} (h0 : Keeps w s0 s) : Keeps w s0 (enterUp a0 s) := by
  unfold enterUp
  extract_lets +onlyGivenNames x1
  have h2 : Keeps w s0 x1 := (keeps_enterCommon h0)
  clear_value x1
  extract_lets +onlyGivenNames x3
  have h4 : Keeps w s0 x3 := (keeps_setVar (keeps_setO h2))
  clear_value x3
  extract_lets +onlyGivenNames x5
  have h6 : Keeps w s0 x5 := (keeps_setBit h4)
  clear_value x5
  extract_lets +onlyGivenNames x7
  have h8 : Keeps w s0 x7 := (ite_keeps (keeps_powerUpReset (keeps_record h6)) h2)
  clear_value x7
  exact (keeps_stallRelease h8)

theorem keeps_raiseRequest {w : Touch} {s0 s : State} {a0} (h0 : Keeps w s0 s) : Keeps w s0 (raiseRequest a0 s) := by
  unfold raiseRequest
  exact (ite_keeps (keeps_goYard h0) (ite_keeps (keeps_setVar h0) (keeps_startT (keeps_setVar h0))))

theorem keeps_enterZero {w : Touch} {s0 s : State} (h0 : Keeps w s0 s) : Keeps w s0 (enterZero s) := by
  unfold enterZero
  extract_lets +onlyGivenNames x1
  clear_value x1
  extract_lets +onlyGivenNames x2
  clear_value x2
  extract_lets +onlyGivenNames x3
  clear_value x3
  extract_lets +onlyGivenNames x4
  have h5 : Keeps w s0 x4 := (keeps_setO (keeps_enterCommon h0))
  clear_value x4
  extract_lets +onlyGivenNames x6
  clear_value x6
  extract_lets +onlyGivenNames x7
  have h8 : Keeps w s0 x7 := (keeps_setO h5)
  clear_value x7
  extract_lets +onlyGivenNames x9
  have h10 : Keeps w s0 x9 := (ite_keeps h5 (keeps_post (keeps_record h8)))
  clear_value x9
  extract_lets +onlyGivenNames x11
  have h12 : Keeps w s0 x11 := (forEach_keeps h10 fun _ _ k13 => (keeps_setFlag (keeps_setFlag k13)))
  clear_value x11
  exact (ite_keeps (keeps_raiseRequest (keeps_setVar h12)) h12)

theorem keeps_enterSteady {w : Touch} {s0 s : State} (h0 : Keeps w s0 s) : Keeps w s0 (enterSteady s) := by
  unfold enterSteady
  extract_lets +onlyGivenNames x1
  have h2 : Keeps w s0 x1 := (keeps_setO (keeps_enterCommon h0))
  clear_value x1
  extract_lets +onlyGivenNames x3
  have h4 : Keeps w s0 x3 := (keeps_setO h2)
  clear_value x3
  extract_lets +onlyGivenNames x5
  clear_value x5
  extract_lets +onlyGivenNames x6
  clear_value x6
  extract_lets +onlyGivenNames x7
  have h8 : Keeps w s0 x7 := (keeps_post (keeps_record h4))
  clear_value x7
  exact (ite_keeps (keeps_startT (keeps_setVar (keeps_setVar (keeps_setBit h8)))) h8)

theorem keeps_enterDown {w : Touch} {s0 s : State} {a0} (h0 : Keeps w s0 s) : Keeps w s0 (enterDown a0 s) := by
  unfold enterDown
  extract_lets +onlyGivenNames x1
  have h2 : Keeps w s0 x1 := (keeps_enterCommon h0)
  clear_value x1
  refine ite_keeps (keeps_reverseRelease h2) ?_
  extract_lets +onlyGivenNames x3
  have h4 : Keeps w s0 x3 := (ite_keeps (keeps_record (keeps_setVar (keeps_setO h2))) h2)
  clear_value x3
  exact (keeps_downRelease h4)

theorem keeps_reverseYard {w : Touch} {s0 s : State} (h0 : Keeps w s0 s) : Keeps w s0 (reverseYard s) := by
  unfold reverseYard
  extract_lets +onlyGivenNames x1
  clear_value x1
  extract_lets +onlyGivenNames x2
  clear_value x2
  extract_lets +onlyGivenNames x3
  clear_value x3
  extract_lets +onlyGivenNames x4
  have h5 : Keeps w s0 x4 := (forEach_keeps h0 fun _ _ k6 => (keeps_cancelRail k6))
  clear_value x4
  extract_lets +onlyGivenNames x7
  have h8 : Keeps w s0 x7 := (keeps_record h5)
  clear_value x7
  extract_lets +onlyGivenNames x9
  have h10 : Keeps w s0 x9 := (keeps_setVar (keeps_setO h8))
  clear_value x9
  exact (keeps_enterDown h10)

theorem keeps_enterYard {w : Touch} {s0 s : State} {a0} (h0 : Keeps w s0 s) : Keeps w s0 (enterYard a0 s) := by
  unfold enterYard
  exact (ite_keeps (keeps_enterZero h0) (ite_keeps (keeps_enterUp h0) (ite_keeps (keeps_enterSteady h0) (ite_keeps
      (keeps_reverseYard h0) (keeps_enterDown h0)))))

theorem keeps_sequencerEffects {w : Touch} {s0 s : State} (h0 : Keeps w s0 s) : Keeps w s0 (sequencerEffects s) := by
  unfold sequencerEffects
  extract_lets +onlyGivenNames x1
  have h2 : Keeps w s0 x1 := by
    unfold x1
    refine forEach_keeps h0 fun _ _ h5 => ?_
    extract_lets +onlyGivenNames x6
    have h7 : Keeps w s0 x6 := (ite_keeps (keeps_offEffect (keeps_setVar h5)) h5)
    clear_value x6
    exact (ite_keeps (keeps_startEffect (keeps_setVar h7)) h7)
  clear_value x1
  exact (ite_keeps (keeps_enterYard h2) h2)

theorem keeps_abortRails {w : Touch} {s0 s : State} {a0} (h0 : Keeps w s0 s) : Keeps w s0 (abortRails a0 s) := by
  unfold abortRails
  extract_lets +onlyGivenNames x1
  have h2 : Keeps w s0 x1 := (ite_keeps h0 (keeps_setVar h0))
  clear_value x1
  extract_lets +onlyGivenNames x3
  have h4 : Keeps w s0 x3 := (keeps_setO (keeps_setO (keeps_setVar h2)))
  clear_value x3
  extract_lets +onlyGivenNames x5
  have h6 : Keeps w s0 x5 := (keeps_setVar (keeps_setVar h4))
  clear_value x5
  extract_lets +onlyGivenNames x7
  have h8 : Keeps w s0 x7 := (keeps_stopT (keeps_stopT h6))
  clear_value x7
  exact (forEach_keeps h8 fun _ _ k9 => (ite_keeps k9 (ite_keeps (keeps_setFlag (keeps_setSeq (keeps_markOff (keeps_stopT
      k9)))) (ite_keeps (keeps_setFlag (keeps_setVar k9)) (keeps_measureReleased k9)))))

theorem keeps_abortShutdown {w : Touch} {s0 s : State} {a0 a1 a2} (h0 : Keeps w s0 s) : Keeps w s0 (abortShutdown a0 a1 a2 s)
      := by
  unfold abortShutdown
  extract_lets +onlyGivenNames x1
  clear_value x1
  extract_lets +onlyGivenNames x2
  have h3 : Keeps w s0 x2 := (ite_keeps h0 (keeps_setVar h0))
  clear_value x2
  extract_lets +onlyGivenNames x4
  have h5 : Keeps w s0 x4 := (keeps_abortRails (keeps_bump h3))
  clear_value x4
  exact (keeps_post (keeps_record h5))

theorem keeps_execAbortComplete {w : Touch} {s0 s : State} (h0 : Keeps w s0 s) : OutP (Keeps w s0) (execAbortComplete s) :=
      by
  unfold execAbortComplete
  exact (ite_keeps (out_next (keeps_goYard h0)) (out_next h0))

theorem keeps_onRequest {w : Touch} {s0 s : State} {a0} (h0 : Keeps w s0 s) : Keeps w s0 (onRequest a0 s) := by
  unfold onRequest
  extract_lets +onlyGivenNames x1
  clear_value x1
  extract_lets +onlyGivenNames x2
  clear_value x2
  exact (ite_keeps (keeps_record (keeps_setBit h0)) (ite_keeps (ite_keeps (keeps_setBit h0) (keeps_raiseRequest (keeps_setVar
      h0))) h0))

theorem keeps_resumeLatched {w : Touch} {s0 s : State} (h0 : Keeps w s0 s) : Keeps w s0 (resumeLatched s) := by
  unfold resumeLatched
  exact (ite_keeps (keeps_raiseRequest (keeps_setVar h0)) h0)

theorem keeps_offRequest {w : Touch} {s0 s : State} {a0} (h0 : Keeps w s0 s) : Keeps w s0 (offRequest a0 s) := by
  unfold offRequest
  extract_lets +onlyGivenNames x1
  clear_value x1
  extract_lets +onlyGivenNames x2
  clear_value x2
  refine ite_keeps ?_ (ite_keeps (keeps_raiseRequest (keeps_setVar h0)) (ite_keeps (keeps_goYard h0) (ite_keeps (keeps_setVar
      h0) (keeps_setBit h0))))
  extract_lets +onlyGivenNames x3
  clear_value x3
  extract_lets +onlyGivenNames x4
  have h5 : Keeps w s0 x4 := (keeps_setBit h0)
  clear_value x4
  exact (ite_keeps (keeps_setVar (ite_keeps (keeps_setVar h5) h5)) h5)

theorem keeps_seqCmd {w : Touch} {s0 s : State} {a0} (h0 : Keeps w s0 s) : PairP (Keeps w s0) (seqCmd a0 s) := by
  unfold seqCmd
  exact (ite_keeps (pair_mk h0) (ite_keeps (pair_mk h0) (ite_keeps (pair_mk h0) (ite_keeps (pair_mk (keeps_onRequest h0))
      (pair_mk (keeps_offRequest h0))))))

theorem keeps_seqEnterRun {w : Touch} {s0 s : State} {a0} (h0 : Keeps w s0 s) : Keeps w s0 (seqEnterRun a0 s) := by
  unfold seqEnterRun
  extract_lets +onlyGivenNames x1
  have h2 : Keeps w s0 x1 := (ite_keeps h0 (keeps_abortShutdown (keeps_startT (keeps_setVar h0))))
  clear_value x1
  exact (ite_keeps h2 (keeps_onRequest h2))

theorem keeps_seqAbortEntry {w : Touch} {s0 s : State} {a0 a1} (h0 : Keeps w s0 s) : Keeps w s0 (seqAbortEntry a0 a1 s) := by
  unfold seqAbortEntry
  refine ite_keeps h0 ?_
  extract_lets +onlyGivenNames x1
  have h2 : Keeps w s0 x1 := (ite_keeps h0 (keeps_startT (keeps_setVar h0)))
  clear_value x1
  exact (keeps_abortShutdown h2)

theorem keeps_execYardAdvance {w : Touch} {s0 s : State} (h0 : Keeps w s0 s) : OutP (Keeps w s0) (execYardAdvance s) := by
  unfold execYardAdvance
  extract_lets +onlyGivenNames x1
  clear_value x1
  extract_lets +onlyGivenNames x2
  clear_value x2
  exact (ite_keeps (out_next h0) (ite_keeps (ite_keeps (out_next (keeps_goYard h0)) (out_next h0)) (ite_keeps (out_next
      (keeps_setVar h0)) (out_next h0))))

theorem keeps_execYardReadinessTimeout {w : Touch} {s0 s : State} (h0 : Keeps w s0 s) : OutP (Keeps w s0)
      (execYardReadinessTimeout s) := by
  unfold execYardReadinessTimeout
  exact (ite_keeps (out_next (keeps_abortShutdown h0)) (out_next h0))

theorem keeps_glitch {w : Touch} {s0 s : State} {a0} (h0 : Keeps w s0 s) : Keeps w s0 (glitch a0 s) := by
  unfold glitch
  extract_lets +onlyGivenNames x1
  have h2 : Keeps w s0 x1 := (keeps_post (keeps_addVar (keeps_bump h0)))
  clear_value x1
  exact (keeps_recordPer h2)

theorem keeps_observeYard {w : Touch} {s0 s : State} {a0} (h0 : Keeps w s0 s) : Keeps w s0 (observeYard a0 s) := by
  unfold observeYard
  exact (ite_keeps (keeps_setVar h0) h0)

theorem keeps_execYardAdvancePulse {w : Touch} {s0 s : State} {a0} (h0 : Keeps w s0 s) : OutP (Keeps w s0)
      (execYardAdvancePulse a0 s) := by
  unfold execYardAdvancePulse
  refine ite_keeps ?_ (out_next h0)
  refine ite_keeps (out_next (keeps_glitch h0)) ?_
  refine ite_keeps ?_ (out_next (keeps_observeYard h0))
  extract_lets +onlyGivenNames x1
  have h2 : Keeps w s0 x1 := (ite_keeps (keeps_setVar h0) (ite_keeps (keeps_setVar h0) h0))
  clear_value x1
  exact (out_next (keeps_goYard h2))

theorem keeps_execYardReversePulse {w : Touch} {s0 s : State} {a0} (h0 : Keeps w s0 s) : OutP (Keeps w s0)
      (execYardReversePulse a0 s) := by
  unfold execYardReversePulse
  refine ite_keeps ?_ (out_next h0)
  extract_lets +onlyGivenNames x1
  clear_value x1
  exact (ite_keeps (out_next (keeps_glitch h0)) (ite_keeps (out_next (keeps_goYard h0)) (out_next (keeps_observeYard h0))))

theorem keeps_execYardHold {w : Touch} {s0 s : State} {a0} (h0 : Keeps w s0 s) : OutP (Keeps w s0) (execYardHold a0 s) := by
  unfold execYardHold
  refine ite_keeps ?_ (out_next h0)
  extract_lets +onlyGivenNames x1
  clear_value x1
  extract_lets +onlyGivenNames x2
  clear_value x2
  extract_lets +onlyGivenNames x3
  have h4 : Keeps w s0 x3 := (ite_keeps (keeps_setVar h0) h0)
  clear_value x3
  exact (out_next (ite_keeps (keeps_setVar h4) h4))

theorem keeps_execYardGlitch {w : Touch} {s0 s : State} {a0} (h0 : Keeps w s0 s) : OutP (Keeps w s0) (execYardGlitch a0 s) :=
      by
  unfold execYardGlitch
  exact (ite_keeps (out_next (keeps_glitch h0)) (out_next h0))

theorem keeps_execYardAbort {w : Touch} {s0 s : State} {a0} (h0 : Keeps w s0 s) : OutP (Keeps w s0) (execYardAbort a0 s) :=
      by
  unfold execYardAbort
  refine ite_keeps ?_ (out_next h0)
  extract_lets +onlyGivenNames x1
  clear_value x1
  exact (ite_keeps (out_next (keeps_observeYard h0)) (ite_keeps (out_next h0) (out_next (keeps_abortShutdown (keeps_setVar
      h0)))))

theorem keeps_execBackupLeaderAdvance {w : Touch} {s0 s : State} {a0} (h0 : Keeps w s0 s) : OutP (Keeps w s0)
      (execBackupLeaderAdvance a0 s) := by
  unfold execBackupLeaderAdvance
  extract_lets +onlyGivenNames x1
  clear_value x1
  extract_lets +onlyGivenNames x2
  clear_value x2
  refine ite_keeps ?_ (out_next h0)
  extract_lets +onlyGivenNames x3
  have h4 : Keeps w s0 x3 := (keeps_post (keeps_record h0))
  clear_value x3
  exact (out_next (keeps_setVar (keeps_setO h4)))

theorem keeps_sequencerTick {w : Touch} {s0 s : State} (h0 : Keeps w s0 s) : Keeps w s0 (sequencerTick s) := by
  unfold sequencerTick
  extract_lets +onlyGivenNames x1
  have h2 : Keeps w s0 x1 := (forEach_keeps h0 fun _ _ k3 => (keeps_heldStart (keeps_qualifyTick (ite_keeps
      (keeps_shtFailTick k3) k3))))
  clear_value x1
  extract_lets +onlyGivenNames x4
  have h5 : Keeps w s0 x4 := (ite_keeps (keeps_stopT (keeps_setVar h2)) h2)
  clear_value x4
  extract_lets +onlyGivenNames x6
  have h7 : Keeps w s0 x6 := (keeps_countCond h5)
  clear_value x6
  exact (ite_keeps h7 (ite_keeps (ite_keeps h7 (keeps_setVar h7)) (ite_keeps (keeps_setVar h7) h7)))

theorem keeps_sequencerRound {w : Touch} {s0 s : State} (h0 : Keeps w s0 s) : Keeps w s0 (sequencerRound s) := by
  unfold sequencerRound
  exact (keeps_setVar h0)

theorem keeps_showLeader {w : Touch} {s0 s : State} (h0 : Keeps w s0 s) : Keeps w s0 (showLeader s) := by
  unfold showLeader
  exact (keeps_setO h0)

theorem keeps_sequencerBoot {w : Touch} {s0 s : State} (h0 : Keeps w s0 s) : Keeps w s0 (sequencerBoot s) := by
  unfold sequencerBoot
  exact (keeps_showLeader (keeps_setVar (keeps_showTable h0)))

end Sys2Proof.Machine
end

