-- ==== Sys2Proof/Laws/KeepsHotSwap.lean ====
section
/-!
SUPPORT. What the definitions of Machine/HotSwap.lean keep: each passes on the queue, the canonical form, the programmed fuses, and
every part that its hypotheses do not let it write.
-/

namespace Sys2Proof.Machine
open State

theorem keeps_hsTimers {w : Touch} {s0 s : State} {a0} (h0 : Keeps w s0 s) : Keeps w s0 (hsTimers a0 s) := by
  unfold hsTimers
  extract_lets +onlyGivenNames x1
  have h2 : Keeps w s0 x1 := (ite_keeps (keeps_startTR h0) (keeps_stopT h0))
  clear_value x1
  exact (ite_keeps (keeps_startTR h2) (ite_keeps (keeps_startTR h2) (keeps_stopT h2)))

theorem keeps_hsGo {w : Touch} {s0 s : State} {a0} (h0 : Keeps w s0 s) : Keeps w s0 (hsGo a0 s) := by
  unfold hsGo
  extract_lets +onlyGivenNames x1
  have h2 : Keeps w s0 x1 := (keeps_setVar (keeps_setVar (keeps_setVar (keeps_setO h0))))
  clear_value x1
  extract_lets +onlyGivenNames x3
  have h4 : Keeps w s0 x3 := (keeps_setBit (keeps_setVar (keeps_setVar h2)))
  clear_value x3
  extract_lets +onlyGivenNames x5
  have h6 : Keeps w s0 x5 := (ite_keeps (keeps_setVar (keeps_setVar h4)) h4)
  clear_value x5
  exact (keeps_hsTimers h6)

theorem keeps_hsDecide {w : Touch} {s0 s : State} {a0} (h0 : Keeps w s0 s) : Keeps w s0 (hsDecide a0 s) := by
  unfold hsDecide
  exact (ite_keeps h0 (keeps_setVar h0))

theorem keeps_hsOn {w : Touch} {s0 s : State} {a0} (h0 : Keeps w s0 s) : Keeps w s0 (hsOn a0 s) := by
  unfold hsOn
  extract_lets +onlyGivenNames x1
  clear_value x1
  extract_lets +onlyGivenNames x2
  clear_value x2
  exact (keeps_post (keeps_record h0))

theorem keeps_hsEnter {w : Touch} {s0 s : State} {a0} (h0 : Keeps w s0 s) : Keeps w s0 (hsEnter a0 s) := by
  unfold hsEnter
  refine ite_keeps ?_ h0
  extract_lets +onlyGivenNames x1
  clear_value x1
  extract_lets +onlyGivenNames x2
  clear_value x2
  extract_lets +onlyGivenNames x3
  clear_value x3
  extract_lets +onlyGivenNames x4
  have h5 : Keeps w s0 x4 := (ite_keeps (keeps_addO h0) h0)
  clear_value x4
  extract_lets +onlyGivenNames x6
  have h7 : Keeps w s0 x6 := (ite_keeps (keeps_raiseAction h5) h5)
  clear_value x6
  extract_lets +onlyGivenNames x8
  have h9 : Keeps w s0 x8 := (ite_keeps (keeps_hsOn h7) h7)
  clear_value x8
  exact (keeps_setFlag (keeps_hsGo h9))

theorem keeps_hsInrush {w : Touch} {s0 s : State} (h0 : Keeps w s0 s) : Keeps w s0 (hsInrush s) := by
  unfold hsInrush
  exact (ite_keeps (keeps_hsDecide h0) h0)

theorem keeps_hsAskOn {w : Touch} {s0 s : State} (h0 : Keeps w s0 s) : Keeps w s0 (hsAskOn s) := by
  unfold hsAskOn
  exact (ite_keeps (keeps_hsDecide h0) (keeps_setFlag h0))

theorem keeps_hsTick {w : Touch} {s0 s : State} (h0 : Keeps w s0 s) : Keeps w s0 (hsTick s) := by
  unfold hsTick
  extract_lets +onlyGivenNames x1
  clear_value x1
  extract_lets +onlyGivenNames x2
  clear_value x2
  extract_lets +onlyGivenNames x3
  clear_value x3
  extract_lets +onlyGivenNames x4
  clear_value x4
  extract_lets +onlyGivenNames x5
  clear_value x5
  extract_lets +onlyGivenNames x6
  have h7 : Keeps w s0 x6 := (keeps_setVar (keeps_setVar h0))
  clear_value x6
  extract_lets +onlyGivenNames x8
  have h9 : Keeps w s0 x8 := (keeps_setO (keeps_setO (keeps_setO h7)))
  clear_value x8
  extract_lets +onlyGivenNames x10
  have h11 : Keeps w s0 x10 := (keeps_setO (keeps_setO h9))
  clear_value x10
  extract_lets +onlyGivenNames x12
  have h13 : Keeps w s0 x12 := (keeps_addVar (keeps_addVar h11))
  clear_value x12
  extract_lets +onlyGivenNames x14
  clear_value x14
  extract_lets +onlyGivenNames x15
  clear_value x15
  extract_lets +onlyGivenNames x16
  clear_value x16
  extract_lets +onlyGivenNames x17
  clear_value x17
  extract_lets +onlyGivenNames x18
  have h19 : Keeps w s0 x18 := (keeps_setBit (keeps_setBit (keeps_setBit h13)))
  clear_value x18
  extract_lets +onlyGivenNames x20
  have h21 : Keeps w s0 x20 := (keeps_setFlag (keeps_setBit h19))
  clear_value x20
  extract_lets +onlyGivenNames x22
  have h23 : Keeps w s0 x22 := (keeps_setBit h21)
  clear_value x22
  extract_lets +onlyGivenNames x24
  clear_value x24
  extract_lets +onlyGivenNames x25
  have h26 : Keeps w s0 x25 := (ite_keeps (keeps_hsGo (keeps_setFlag h23)) (ite_keeps (keeps_setO (keeps_hsGo (keeps_setFlag
      h23))) (keeps_hsEnter h23)))
  clear_value x25
  extract_lets +onlyGivenNames x27
  have h28 : Keeps w s0 x27 := (keeps_setVar h26)
  clear_value x27
  extract_lets +onlyGivenNames x29
  clear_value x29
  extract_lets +onlyGivenNames x30
  have h31 : Keeps w s0 x30 := (keeps_countCond (keeps_countCond h28))
  clear_value x30
  extract_lets +onlyGivenNames x32
  have h33 : Keeps w s0 x32 := (keeps_countCond h31)
  clear_value x32
  extract_lets +onlyGivenNames x34
  have h35 : Keeps w s0 x34 := (keeps_countCond h33)
  clear_value x34
  extract_lets +onlyGivenNames x36
  have h37 : Keeps w s0 x36 := (ite_keeps h35 (keeps_condOff h35))
  clear_value x36
  extract_lets +onlyGivenNames x38
  have h39 : Keeps w s0 x38 := (keeps_countCond (keeps_countCond h37))
  clear_value x38
  extract_lets +onlyGivenNames x40
  have h41 : Keeps w s0 x40 := (keeps_countCond h39)
  clear_value x40
  extract_lets +onlyGivenNames x42
  have h43 : Keeps w s0 x42 := (ite_keeps h41 (keeps_condOff h41))
  clear_value x42
  extract_lets +onlyGivenNames x44
  have h45 : Keeps w s0 x44 := (ite_keeps h43 (keeps_condOff h43))
  clear_value x44
  extract_lets +onlyGivenNames x46
  have h47 : Keeps w s0 x46 := (ite_keeps h45 (keeps_condOff h45))
  clear_value x46
  extract_lets +onlyGivenNames x48
  clear_value x48
  extract_lets +onlyGivenNames x49
  have h50 : Keeps w s0 x49 := (keeps_countCond h47)
  clear_value x49
  extract_lets +onlyGivenNames x51
  have h52 : Keeps w s0 x51 := (ite_keeps h50 (keeps_setBit (keeps_condOff h50)))
  clear_value x51
  extract_lets +onlyGivenNames x53
  have h54 : Keeps w s0 x53 := (keeps_countCond h52)
  clear_value x53
  extract_lets +onlyGivenNames x55
  have h56 : Keeps w s0 x55 := (ite_keeps h54 (keeps_setBit (keeps_condOff h54)))
  clear_value x55
  exact (ite_keeps (keeps_hsAskOn h56) h56)

theorem keeps_hsRound {w : Touch} {s0 s : State} (h0 : Keeps w s0 s) : Keeps w s0 (hsRound s) := by
  unfold hsRound
  extract_lets +onlyGivenNames x1
  have h2 : Keeps w s0 x1 := (keeps_setO h0)
  clear_value x1
  exact (keeps_setVar (keeps_setVar h2))

theorem keeps_execCardRemoval {w : Touch} {s0 s : State} (h0 : Keeps w s0 s) : OutP (Keeps w s0) (execCardRemoval s) := by
  unfold execCardRemoval
  extract_lets +onlyGivenNames x1
  clear_value x1
  refine ite_keeps ?_ (out_next h0)
  extract_lets +onlyGivenNames x2
  clear_value x2
  extract_lets +onlyGivenNames x3
  have h4 : Keeps w s0 x3 := (ite_keeps (keeps_raise h0) h0)
  clear_value x3
  extract_lets +onlyGivenNames x5
  have h6 : Keeps w s0 x5 := (ite_keeps (keeps_bump h4) h4)
  clear_value x5
  extract_lets +onlyGivenNames x7
  have h8 : Keeps w s0 x7 := (keeps_setO (keeps_hsDecide h6))
  clear_value x7
  exact (out_next (ite_keeps (keeps_setO h8) h8))

theorem keeps_execCardMated {w : Touch} {s0 s : State} (h0 : Keeps w s0 s) : OutP (Keeps w s0) (execCardMated s) := by
  unfold execCardMated
  exact (ite_keeps (out_next (keeps_hsDecide h0)) (out_next h0))

theorem keeps_execHsDebounceMet {w : Touch} {s0 s : State} (h0 : Keeps w s0 s) : OutP (Keeps w s0) (execHsDebounceMet s) :=
      by
  unfold execHsDebounceMet
  exact (ite_keeps (out_next (keeps_bump (keeps_hsDecide h0))) (out_next h0))

theorem keeps_execInrushStart {w : Touch} {s0 s : State} (h0 : Keeps w s0 s) : OutP (Keeps w s0) (execInrushStart s) := by
  unfold execInrushStart
  exact (ite_keeps (out_next (keeps_hsInrush h0)) (out_next h0))

theorem keeps_execHsPowerGood {w : Touch} {s0 s : State} (h0 : Keeps w s0 s) : OutP (Keeps w s0) (execHsPowerGood s) := by
  unfold execHsPowerGood
  exact (ite_keeps (out_next (keeps_hsDecide h0)) (out_next h0))

theorem keeps_execHsRetriesReset {w : Touch} {s0 s : State} (h0 : Keeps w s0 s) : OutP (Keeps w s0) (execHsRetriesReset s) :=
      by
  unfold execHsRetriesReset
  exact (ite_keeps (out_next (keeps_setO (keeps_stopT h0))) (out_next h0))

theorem keeps_execCurrentLimiting {w : Touch} {s0 s : State} {a0} (h0 : Keeps w s0 s) : OutP (Keeps w s0)
      (execCurrentLimiting a0 s) := by
  unfold execCurrentLimiting
  exact (ite_keeps (out_next (keeps_setBit (keeps_setFlag h0))) (out_next h0))

theorem keeps_dropTrip {w : Touch} {s0 s : State} (h0 : Keeps w s0 s) : Keeps w s0 (dropTrip s) := by
  unfold dropTrip
  exact (Keeps.same h0 rfl rfl rfl rfl rfl rfl rfl rfl rfl rfl rfl)

theorem keeps_hsTrip {w : Touch} {s0 s : State} {a0 a1} (h0 : Keeps w s0 s) : Keeps w s0 (hsTrip a0 a1 s) := by
  unfold hsTrip
  extract_lets +onlyGivenNames x1
  have h2 : Keeps w s0 x1 := (ite_keeps (keeps_dropTrip h0) (keeps_bump h0))
  clear_value x1
  extract_lets +onlyGivenNames x3
  have h4 : Keeps w s0 x3 := (keeps_setFlag (keeps_setVar h2))
  clear_value x3
  extract_lets +onlyGivenNames x5
  have h6 : Keeps w s0 x5 := (ite_keeps (keeps_raiseActionLater h4) (keeps_raiseAction h4))
  clear_value x5
  exact (keeps_hsDecide (ite_keeps (keeps_setO h6) h6))

theorem keeps_execFastTrip {w : Touch} {s0 s : State} {a0} (h0 : Keeps w s0 s) : OutP (Keeps w s0) (execFastTrip a0 s) := by
  unfold execFastTrip
  exact (ite_keeps (ite_keeps (out_next (ite_keeps h0 (keeps_setFlag (keeps_hsTrip h0)))) (ite_keeps (out_next (keeps_setFlag
      h0)) (ite_keeps (out_next (keeps_setBit (keeps_raiseLater h0))) (out_next h0)))) (out_next h0))

theorem keeps_stuckTrip {w : Touch} {s0 s : State} (h0 : Keeps w s0 s) : Keeps w s0 (stuckTrip s) := by
  unfold stuckTrip
  exact (keeps_setBit (keeps_raise h0))

theorem keeps_execSoaTrip {w : Touch} {s0 s : State} (h0 : Keeps w s0 s) : OutP (Keeps w s0) (execSoaTrip s) := by
  unfold execSoaTrip
  exact (ite_keeps (out_next (keeps_hsTrip h0)) (ite_keeps (out_next (keeps_stuckTrip h0)) (out_next h0)))

theorem keeps_execBreakerTrip {w : Touch} {s0 s : State} (h0 : Keeps w s0 s) : OutP (Keeps w s0) (execBreakerTrip s) := by
  unfold execBreakerTrip
  exact (ite_keeps (out_next (keeps_hsTrip h0)) (ite_keeps (out_next (keeps_stuckTrip h0)) (out_next h0)))

theorem keeps_execInrushTimeout {w : Touch} {s0 s : State} (h0 : Keeps w s0 s) : OutP (Keeps w s0) (execInrushTimeout s) :=
      by
  unfold execInrushTimeout
  exact (ite_keeps (out_next (keeps_hsTrip h0)) (out_next h0))

theorem keeps_execHsCooldownExpiry {w : Touch} {s0 s : State} (h0 : Keeps w s0 s) : OutP (Keeps w s0) (execHsCooldownExpiry
      s) := by
  unfold execHsCooldownExpiry
  exact (ite_keeps (out_next (keeps_hsInrush h0)) (out_next h0))

theorem keeps_hsHoldInrush {w : Touch} {s0 s : State} (h0 : Keeps w s0 s) : Keeps w s0 (hsHoldInrush s) := by
  unfold hsHoldInrush
  refine ite_keeps ?_ h0
  extract_lets +onlyGivenNames x1
  clear_value x1
  exact (keeps_setFlag (keeps_setVar h0))

theorem keeps_execBackplaneOv {w : Touch} {s0 s : State} (h0 : Keeps w s0 s) : OutP (Keeps w s0) (execBackplaneOv s) := by
  unfold execBackplaneOv
  refine ite_keeps ?_ (out_next h0)
  extract_lets +onlyGivenNames x1
  have h2 : Keeps w s0 x1 := (keeps_raise h0)
  clear_value x1
  exact (out_next (ite_keeps h2 (keeps_setO (keeps_setVar (keeps_hsDecide h2)))))

theorem keeps_execBackplaneUv {w : Touch} {s0 s : State} (h0 : Keeps w s0 s) : OutP (Keeps w s0) (execBackplaneUv s) := by
  unfold execBackplaneUv
  refine ite_keeps ?_ (out_next h0)
  extract_lets +onlyGivenNames x1
  have h2 : Keeps w s0 x1 := (keeps_raise h0)
  clear_value x1
  exact (out_next (ite_keeps h2 (keeps_setO (keeps_setVar (keeps_hsDecide h2)))))

theorem keeps_execBackplaneWarn {w : Touch} {s0 s : State} (h0 : Keeps w s0 s) : OutP (Keeps w s0) (execBackplaneWarn s) :=
      by
  unfold execBackplaneWarn
  exact (ite_keeps (out_next (keeps_raise h0)) (out_next h0))

theorem keeps_execInputFaultEnd {w : Touch} {s0 s : State} (h0 : Keeps w s0 s) : OutP (Keeps w s0) (execInputFaultEnd s) :=
      by
  unfold execInputFaultEnd
  extract_lets +onlyGivenNames x1
  clear_value x1
  extract_lets +onlyGivenNames x2
  clear_value x2
  exact (ite_keeps (out_next (keeps_hsDecide h0)) (out_next h0))

theorem keeps_execShortedMosfet {w : Touch} {s0 s : State} (h0 : Keeps w s0 s) : OutP (Keeps w s0) (execShortedMosfet s) :=
      by
  unfold execShortedMosfet
  exact (ite_keeps (out_next (keeps_setBit (keeps_raise h0))) (out_next h0))

theorem keeps_execShuntSenseFault {w : Touch} {s0 s : State} (h0 : Keeps w s0 s) : OutP (Keeps w s0) (execShuntSenseFault s)
      := by
  unfold execShuntSenseFault
  refine ite_keeps ?_ (out_next h0)
  extract_lets +onlyGivenNames x1
  have h2 : Keeps w s0 x1 := (keeps_hsHoldInrush (keeps_setBit (keeps_raise h0)))
  clear_value x1
  exact (out_next (ite_keeps (keeps_hsTrip h2) h2))

theorem keeps_hsCmd {w : Touch} {s0 s : State} {a0} (h0 : Keeps w s0 s) : PairP (Keeps w s0) (hsCmd a0 s) := by
  unfold hsCmd
  extract_lets +onlyGivenNames x1
  clear_value x1
  exact (ite_keeps (ite_keeps (pair_mk h0) (ite_keeps (pair_mk (keeps_hsAskOn (keeps_setO (keeps_setVar (keeps_setO h0)))))
      (ite_keeps (pair_mk (keeps_hsAskOn h0)) (pair_mk h0)))) (ite_keeps (ite_keeps (pair_mk (keeps_setO (keeps_hsDecide
      h0))) (pair_mk h0)) (pair_mk h0)))

theorem keeps_prepStart {w : Touch} {s0 s : State} (h0 : Keeps w s0 s) : Keeps w s0 (prepStart s) := by
  unfold prepStart
  refine ite_keeps h0 ?_
  extract_lets +onlyGivenNames x1
  have h2 : Keeps w s0 x1 := (keeps_setBit h0)
  clear_value x1
  exact (ite_keeps (keeps_setBit (keeps_commitAsk h2)) (keeps_setBit h2))

theorem keeps_prepEnd {w : Touch} {s0 s : State} (h0 : Keeps w s0 s) : Keeps w s0 (prepEnd s) := by
  unfold prepEnd
  exact (keeps_setO h0)

theorem keeps_mgtTick {w : Touch} {s0 s : State} (h0 : Keeps w s0 s) : Keeps w s0 (mgtTick s) := by
  unfold mgtTick
  extract_lets +onlyGivenNames x1
  clear_value x1
  extract_lets +onlyGivenNames x2
  have h3 : Keeps w s0 x2 := (keeps_setO h0)
  clear_value x2
  extract_lets +onlyGivenNames x4
  have h5 : Keeps w s0 x4 := (keeps_countCond (keeps_countCond h3))
  clear_value x4
  extract_lets +onlyGivenNames x6
  have h7 : Keeps w s0 x6 := (ite_keeps (ite_keeps h5 (keeps_setVar h5)) (keeps_setVar h5))
  clear_value x6
  extract_lets +onlyGivenNames x8
  have h9 : Keeps w s0 x8 := (ite_keeps (keeps_setO h7) h7)
  clear_value x8
  extract_lets +onlyGivenNames x10
  have h11 : Keeps w s0 x10 := (ite_keeps (keeps_setBit (keeps_setBit (keeps_commitAsk h9))) h9)
  clear_value x10
  exact (ite_keeps (keeps_condOff (keeps_condOff h11)) h11)

theorem keeps_execVinMgtWarning {w : Touch} {s0 s : State} (h0 : Keeps w s0 s) : OutP (Keeps w s0) (execVinMgtWarning s) :=
      by
  unfold execVinMgtWarning
  refine ite_keeps ?_ (out_next h0)
  extract_lets +onlyGivenNames x1
  have h2 : Keeps w s0 x1 := (keeps_bump (keeps_setO h0))
  clear_value x1
  extract_lets +onlyGivenNames x3
  have h4 : Keeps w s0 x3 := (keeps_prepStart (keeps_setVar (keeps_setO h2)))
  clear_value x3
  exact (out_next (keeps_raise h4))

theorem keeps_execVinMgtWarningEnd {w : Touch} {s0 s : State} (h0 : Keeps w s0 s) : OutP (Keeps w s0) (execVinMgtWarningEnd
      s) := by
  unfold execVinMgtWarningEnd
  refine ite_keeps ?_ (out_next h0)
  extract_lets +onlyGivenNames x1
  have h2 : Keeps w s0 x1 := (keeps_record h0)
  clear_value x1
  exact (out_next (keeps_condOff (keeps_setO (keeps_prepEnd h2))))

theorem keeps_execMainInputLost {w : Touch} {s0 s : State} {a0} (h0 : Keeps w s0 s) : OutP (Keeps w s0) (execMainInputLost a0
      s) := by
  unfold execMainInputLost
  refine ite_keeps ?_ (out_next h0)
  extract_lets +onlyGivenNames x1
  clear_value x1
  extract_lets +onlyGivenNames x2
  clear_value x2
  extract_lets +onlyGivenNames x3
  have h4 : Keeps w s0 x3 := (keeps_setVar (keeps_bump (keeps_setO h0)))
  clear_value x3
  extract_lets +onlyGivenNames x5
  have h6 : Keeps w s0 x5 := (keeps_prepStart (keeps_setVar (keeps_setVar h4)))
  clear_value x5
  exact (out_next (keeps_raiseLater h6))

theorem keeps_execMainInputValid {w : Touch} {s0 s : State} (h0 : Keeps w s0 s) : OutP (Keeps w s0) (execMainInputValid s) :=
      by
  unfold execMainInputValid
  refine ite_keeps ?_ (out_next h0)
  extract_lets +onlyGivenNames x1
  have h2 : Keeps w s0 x1 := (keeps_record h0)
  clear_value x1
  extract_lets +onlyGivenNames x3
  have h4 : Keeps w s0 x3 := (keeps_setFlag (keeps_setO (keeps_prepEnd h2)))
  clear_value x3
  exact (out_next (keeps_post (keeps_condOff (keeps_condOff h4))))

theorem keeps_hsAdopt {w : Touch} {s0 s : State} {a0 a1} (h0 : Keeps w s0 s) : Keeps w s0 (hsAdopt a0 a1 s) := by
  unfold hsAdopt
  extract_lets +onlyGivenNames x1
  clear_value x1
  extract_lets +onlyGivenNames x2
  have h3 : Keeps w s0 x2 := (ite_keeps (keeps_hsTimers h0) (keeps_hsGo (ite_keeps (keeps_hsOn h0) h0)))
  clear_value x2
  extract_lets +onlyGivenNames x4
  have h5 : Keeps w s0 x4 := (keeps_setO h3)
  clear_value x4
  extract_lets +onlyGivenNames x6
  have h7 : Keeps w s0 x6 := (ite_keeps (keeps_setVar h5) h5)
  clear_value x6
  extract_lets +onlyGivenNames x8
  clear_value x8
  extract_lets +onlyGivenNames x9
  have h10 : Keeps w s0 x9 := (ite_keeps (keeps_addVar h7) h7)
  clear_value x9
  extract_lets +onlyGivenNames x11
  have h12 : Keeps w s0 x11 := (ite_keeps (keeps_addVar h10) h10)
  clear_value x11
  exact (keeps_setVar h12)

end Sys2Proof.Machine
end

