-- ==== Sys2Proof/Laws/KeepsTeam.lean ====
section
/-!
SUPPORT. What the definitions of Machine/Team.lean keep: each passes on the queue, the canonical form, the programmed fuses, and
every part that its hypotheses do not let it write.
-/

namespace Sys2Proof.Machine
open State

theorem keeps_setRole {w : Touch} {s0 s : State} {a0 a1} (h0 : Keeps w s0 s) : Keeps w s0 (setRole a0 a1 s) := by
  unfold setRole
  extract_lets +onlyGivenNames x1
  clear_value x1
  refine ite_keeps h0 ?_
  extract_lets +onlyGivenNames x2
  have h3 : Keeps w s0 x2 := (keeps_setO (keeps_setO (keeps_setO h0)))
  clear_value x2
  extract_lets +onlyGivenNames x4
  have h5 : Keeps w s0 x4 := (ite_keeps (keeps_followHarness h3) (ite_keeps (keeps_leaveHarness h3) h3))
  clear_value x4
  extract_lets +onlyGivenNames x6
  have h7 : Keeps w s0 x6 := (keeps_setVar h5)
  clear_value x6
  exact (keeps_post (keeps_record h7))

theorem keeps_reinOut {w : Touch} {s0 s : State} {a0} (h0 : Keeps w s0 s) : Keeps w s0 (reinOut a0 s) := by
  unfold reinOut
  exact (keeps_setBit h0)

theorem keeps_clearQueue {w : Touch} {s0 s : State} (h0 : Keeps w s0 s) : Keeps w s0 (clearQueue s) := by
  unfold clearQueue
  exact (keeps_setO (Keeps.same h0 rfl rfl rfl rfl rfl rfl rfl rfl rfl rfl rfl))

theorem keeps_idleRails {w : Touch} {s0 s : State} (h0 : Keeps w s0 s) : Keeps w s0 (idleRails s) := by
  unfold idleRails
  exact (forEach_keeps h0 fun _ _ k1 => (ite_keeps (keeps_killRail k1) k1))

theorem keeps_dropChanges {w : Touch} {s0 s : State} (h0 : Keeps w s0 s) : Keeps w s0 (dropChanges s) := by
  unfold dropChanges
  exact (keeps_keepVars h0)

theorem keeps_enterOut {w : Touch} {s0 s : State} {a0} (h0 : Keeps w s0 s) : Keeps w s0 (enterOut a0 s) := by
  unfold enterOut
  extract_lets +onlyGivenNames x1
  have h2 : Keeps w s0 x1 := (keeps_dropChanges (keeps_setRole h0))
  clear_value x1
  extract_lets +onlyGivenNames x3
  have h4 : Keeps w s0 x3 := (keeps_setVar (keeps_setVar (keeps_setVar (keeps_setVar h2))))
  clear_value x3
  extract_lets +onlyGivenNames x5
  have h6 : Keeps w s0 x5 := (keeps_setVar (keeps_setVar (keeps_setVar (keeps_setVar h4))))
  clear_value x5
  extract_lets +onlyGivenNames x7
  have h8 : Keeps w s0 x7 := (keeps_idleRails h6)
  clear_value x7
  extract_lets +onlyGivenNames x9
  have h10 : Keeps w s0 x9 := (keeps_clearQueue h8)
  clear_value x9
  exact (Keeps.same h10 rfl rfl rfl rfl rfl rfl rfl rfl rfl rfl rfl)

theorem keeps_buckGrids {w : Touch} {s0 s : State} (h0 : Keeps w s0 s) : Keeps w s0 (buckGrids s) := by
  unfold buckGrids
  exact (forRange_keeps h0 fun _ _ k1 => (keeps_setVar k1))

theorem keeps_takeToken {w : Touch} {s0 s : State} {a0} (h0 : Keeps w s0 s) : Keeps w s0 (takeToken a0 s) := by
  unfold takeToken
  extract_lets +onlyGivenNames x1
  clear_value x1
  exact (keeps_buckGrids (keeps_setRole (keeps_setVar (keeps_setO h0))))

theorem keeps_enqueue {w : Touch} {s0 s : State} {a0} (h0 : Keeps w s0 s) : Keeps w s0 (enqueue a0 s) := by
  unfold enqueue
  extract_lets +onlyGivenNames x1
  clear_value x1
  extract_lets +onlyGivenNames x2
  clear_value x2
  extract_lets +onlyGivenNames x3
  have h4 : Keeps w s0 x3 := (Keeps.same h0 rfl rfl rfl rfl rfl rfl rfl rfl rfl rfl rfl)
  clear_value x3
  extract_lets +onlyGivenNames x5
  have h6 : Keeps w s0 x5 := (keeps_setO h4)
  clear_value x5
  exact (ite_keeps (keeps_setO h6) h6)

theorem keeps_enqueueOne {w : Touch} {s0 s : State} {a0 a1 a2 a3} (h0 : Keeps w s0 s) : Keeps w s0 (enqueueOne a0 a1 a2 a3 s)
      := by
  unfold enqueueOne
  exact (keeps_enqueue h0)

theorem keeps_queueStamped {w : Touch} {s0 s : State} {a0 a1 a2 a3 a4} (h0 : Keeps w s0 s) : Keeps w s0 (queueStamped a0 a1
      a2 a3 a4 s) := by
  unfold queueStamped
  extract_lets +onlyGivenNames x1
  clear_value x1
  exact (ite_keeps h0 (keeps_enqueueOne (keeps_setLast h0)))

theorem keeps_queueValue {w : Touch} {s0 s : State} {a0 a1 a2 a3} (h0 : Keeps w s0 s) : Keeps w s0 (queueValue a0 a1 a2 a3 s)
      := by
  unfold queueValue
  extract_lets +onlyGivenNames x1
  clear_value x1
  exact (ite_keeps h0 (keeps_enqueueOne (keeps_setLast h0)))

theorem keeps_queueYard {w : Touch} {s0 s : State} (h0 : Keeps w s0 s) : Keeps w s0 (queueYard s) := by
  unfold queueYard
  extract_lets +onlyGivenNames x1
  clear_value x1
  extract_lets +onlyGivenNames x2
  clear_value x2
  extract_lets +onlyGivenNames x3
  clear_value x3
  exact (ite_keeps h0 (keeps_enqueueOne (keeps_setLast h0)))

theorem keeps_setTokens {w : Touch} {s0 s : State} {a0 a1} (h0 : Keeps w s0 s) : Keeps w s0 (setTokens a0 a1 s) := by
  unfold setTokens
  exact (ite_keeps (keeps_setO h0) (ite_keeps (keeps_setO h0) (keeps_setO h0)))

theorem keeps_queueChanges {w : Touch} {s0 s : State} (h0 : Keeps w s0 s) : Keeps w s0 (queueChanges s) := by
  unfold queueChanges
  refine ite_keeps h0 ?_
  extract_lets +onlyGivenNames x1
  have h2 : Keeps w s0 x1 := (forRange_keeps h0 fun _ _ k3 => (keeps_queueStamped k3))
  clear_value x1
  extract_lets +onlyGivenNames x4
  have h5 : Keeps w s0 x4 := (keeps_queueYard h2)
  clear_value x4
  extract_lets +onlyGivenNames x6
  have h7 : Keeps w s0 x6 := (forRange_keeps h5 fun _ _ k8 => (keeps_queueStamped k8))
  clear_value x6
  extract_lets +onlyGivenNames x9
  have h10 : Keeps w s0 x9 := (forRange_keeps h7 fun _ _ k11 => (keeps_queueStamped k11))
  clear_value x9
  extract_lets +onlyGivenNames x12
  have h13 : Keeps w s0 x12 := (keeps_queueValue h10)
  clear_value x12
  extract_lets +onlyGivenNames x14
  have h15 : Keeps w s0 x14 := by
    unfold x14
    refine forRange_keeps h13 fun _ _ h18 => ?_
    extract_lets +onlyGivenNames x19
    clear_value x19
    exact (ite_keeps (keeps_setVar (keeps_enqueueOne (keeps_setLast h18))) h18)
  clear_value x14
  refine forRange_keeps h15 fun _ _ h21 => ?_
  extract_lets +onlyGivenNames x22
  have h23 : Keeps w s0 x22 := (keeps_queueValue h21)
  clear_value x22
  extract_lets +onlyGivenNames x24
  have h25 : Keeps w s0 x24 := (keeps_queueValue h23)
  clear_value x24
  exact (keeps_queueValue (keeps_queueValue h25))

theorem keeps_forwardAck {w : Touch} {s0 s : State} {a0 a1} (h0 : Keeps w s0 s) : Keeps w s0 (forwardAck a0 a1 s) := by
  unfold forwardAck
  exact (ite_keeps (keeps_enqueueOne h0) h0)

theorem keeps_forwardAckAll {w : Touch} {s0 s : State} (h0 : Keeps w s0 s) : Keeps w s0 (forwardAckAll s) := by
  unfold forwardAckAll
  exact (ite_keeps (keeps_enqueueOne h0) h0)

theorem keeps_sendDelta {w : Touch} {s0 s : State} {a0} (h0 : Keeps w s0 s) : Keeps w s0 (sendDelta a0 s) := by
  unfold sendDelta
  extract_lets +onlyGivenNames x1
  clear_value x1
  exact (keeps_setVar (Keeps.same h0 rfl rfl rfl rfl rfl rfl rfl rfl rfl rfl rfl))

theorem keeps_fillFrame {w : Touch} {s0 s : State} {a0 a1 a2 a3} (h0 : Keeps w s0 s) : PairP (Keeps w s0) (fillFrame a0 a1 a2
      a3 s) := by
  induction a0 generalizing a1 a2 a3 s with
  | zero => exact h0
  | succ n ih =>
    unfold fillFrame
    refine ite_keeps (pair_mk h0) ?_
    split
    · refine ite_keeps ?_ (ite_keeps (pair_mk h0) (ih (keeps_setO (foldl_keeps
        (Keeps.same h0 rfl rfl rfl rfl rfl rfl rfl rfl rfl rfl rfl) fun _ _ k => keeps_sendDelta k))))
      split
      · exact ih (keeps_sendDelta (Keeps.same h0 rfl rfl rfl rfl rfl rfl rfl rfl rfl rfl rfl))
      · exact pair_mk h0
    · refine ite_keeps ?_ (pair_mk h0)
      extract_lets k
      clear_value k
      split
      · exact pair_mk (keeps_setVar h0)
      · exact ih (keeps_addVar (foldl_keeps (ite_keeps (keeps_setVar (keeps_setVar h0)) (keeps_addVar h0)) fun _ _ k =>
          keeps_sendDelta k))

theorem keeps_frameDeltas {w : Touch} {s0 s : State} (h0 : Keeps w s0 s) : PairP (PairP (Keeps w s0)) (frameDeltas s) := by
  unfold frameDeltas
  extract_lets +onlyGivenNames x1
  clear_value x1
  extract_lets +onlyGivenNames x2
  clear_value x2
  extract_lets +onlyGivenNames x3
  clear_value x3
  extract_lets +onlyGivenNames x4
  clear_value x4
  extract_lets +onlyGivenNames x5
  have h6 : Keeps w s0 x5 := (Keeps.same h0 rfl rfl rfl rfl rfl rfl rfl rfl rfl rfl rfl)
  clear_value x5
  extract_lets +onlyGivenNames x7
  have h8 : Keeps w s0 x7 := (keeps_setVar h6)
  clear_value x7
  extract_lets +onlyGivenNames x9
  clear_value x9
  split
  · have h10 := pair_of_eq (Q := Keeps w s0) (by assumption) (ite_keeps (pair_mk h8) (keeps_fillFrame h8))
    exact (pair_mk (pair_mk h10))

theorem keeps_mirrorAssembly {w : Touch} {s0 s : State} (h0 : Keeps w s0 s) : Keeps w s0 (mirrorAssembly s) := by
  unfold mirrorAssembly
  split
  · exact (Keeps.same h0 rfl rfl rfl rfl rfl rfl rfl rfl rfl rfl rfl)
  · refine ite_keeps (Keeps.same h0 rfl rfl rfl rfl rfl rfl rfl rfl rfl rfl rfl) ?_
    refine ite_keeps (Keeps.same h0 rfl rfl rfl rfl rfl rfl rfl rfl rfl rfl rfl) ?_
    extract_lets +onlyGivenNames x1
    have h2 : Keeps w s0 x1 := (keeps_queueChanges h0)
    clear_value x1
    split
    · have h3 := pair_of_eq3 (Q := Keeps w s0) (by assumption) (keeps_frameDeltas h2)
      exact (Keeps.same h3 rfl rfl rfl rfl rfl rfl rfl rfl rfl rfl rfl)

theorem keeps_measureFrom {w : Touch} {s0 s : State} {a0 a1} (h0 : Keeps w s0 s) : Keeps w s0 (measureFrom a0 a1 s) := by
  unfold measureFrom
  extract_lets +onlyGivenNames x1
  have h2 : Keeps w s0 x1 := (keeps_setFlag (keeps_setFlag (keeps_setFlag h0)))
  clear_value x1
  exact (keeps_setVar (keeps_condOff h2))

theorem keeps_adoptSeq {w : Touch} {s0 s : State} {a0 a1 a2} (h0 : Keeps w s0 s) : Keeps w s0 (adoptSeq a0 a1 a2 s) := by
  unfold adoptSeq
  extract_lets +onlyGivenNames x1
  clear_value x1
  extract_lets +onlyGivenNames x2
  have h3 : Keeps w s0 x2 := (keeps_setVar (keeps_setSeq h0))
  clear_value x2
  refine ite_keeps (keeps_setVar h3) ?_
  refine ite_keeps ?_ ?_
  · extract_lets +onlyGivenNames x4
    have h5 : Keeps w s0 x4 := (keeps_setFlag (keeps_setVar (keeps_setVar h3)))
    clear_value x4
    extract_lets +onlyGivenNames x6
    have h7 : Keeps w s0 x6 := (keeps_condOff (keeps_setFlag h5))
    clear_value x6
    exact (ite_keeps h7 (keeps_setVar h7))
  · refine ite_keeps (keeps_setVar (keeps_markOff h3)) ?_
    refine ite_keeps (keeps_markOff h3) ?_
    refine ite_keeps ?_ ?_
    · extract_lets +onlyGivenNames x8
      have h9 : Keeps w s0 x8 := (keeps_setFlag (keeps_setVar h3))
      clear_value x8
      exact (keeps_setVar (keeps_measureFrom h9))
    · refine ite_keeps (keeps_dischargedNow h3) ?_
      refine ite_keeps ?_ h3
      extract_lets +onlyGivenNames x10
      have h11 : Keeps w s0 x10 := (keeps_setVar h3)
      clear_value x10
      extract_lets +onlyGivenNames x12
      clear_value x12
      exact (ite_keeps (keeps_measureFrom h11) h11)

theorem keeps_adoptYard {w : Touch} {s0 s : State} {a0 a1 a2 a3} (h0 : Keeps w s0 s) : Keeps w s0 (adoptYard a0 a1 a2 a3 s)
      := by
  unfold adoptYard
  extract_lets +onlyGivenNames x1
  have h2 : Keeps w s0 x1 := (keeps_setVar (keeps_setFlag h0))
  clear_value x1
  extract_lets +onlyGivenNames x3
  clear_value x3
  extract_lets +onlyGivenNames x4
  have h5 : Keeps w s0 x4 := (keeps_setVar (keeps_setVar (keeps_setO h2)))
  clear_value x4
  extract_lets +onlyGivenNames x6
  have h7 : Keeps w s0 x6 := (keeps_setO (keeps_setO h5))
  clear_value x6
  extract_lets +onlyGivenNames x8
  clear_value x8
  extract_lets +onlyGivenNames x9
  have h10 : Keeps w s0 x9 := (keeps_setVar (keeps_setVar h7))
  clear_value x9
  refine ite_keeps ?_ h10
  refine forEach_keeps h10 fun _ _ h14 => ?_
  extract_lets +onlyGivenNames x15
  clear_value x15
  exact (ite_keeps (keeps_measureFrom h14) h14)

theorem keeps_adoptRail {w : Touch} {s0 s : State} {a0 a1 a2} (h0 : Keeps w s0 s) : Keeps w s0 (adoptRail a0 a1 a2 s) := by
  unfold adoptRail
  extract_lets +onlyGivenNames x1
  have h2 : Keeps w s0 x1 := (keeps_setVar h0)
  clear_value x1
  refine ite_keeps (keeps_setVar (keeps_stopT h2)) ?_
  refine ite_keeps ?_ ?_
  · extract_lets +onlyGivenNames x3
    have h4 : Keeps w s0 x3 := (keeps_setVar (keeps_setVar (keeps_setVar h2)))
    clear_value x3
    exact (keeps_setVar h4)
  · refine ite_keeps (keeps_setVar (keeps_stopT h2)) ?_
    refine ite_keeps (keeps_setVar h2) ?_
    refine ite_keeps (keeps_setVar (keeps_setVar h2)) ?_
    refine ite_keeps (keeps_setVar h2) ?_
    refine ite_keeps ?_ (ite_keeps (keeps_measureFrom h2) h2)
    extract_lets +onlyGivenNames x5
    clear_value x5
    extract_lets +onlyGivenNames x6
    clear_value x6
    extract_lets +onlyGivenNames x7
    have h8 : Keeps w s0 x7 := (keeps_setVar (keeps_setVar h2))
    clear_value x7
    exact (keeps_setVar h8)

theorem keeps_applyDelta {w : Touch} {s0 s : State} {a0 a1} (h0 : Keeps w s0 s) : Keeps w s0 (applyDelta a0 a1 s) := by
  unfold applyDelta
  extract_lets +onlyGivenNames x1
  clear_value x1
  extract_lets +onlyGivenNames x2
  clear_value x2
  extract_lets +onlyGivenNames x3
  clear_value x3
  refine ite_keeps (ite_keeps (keeps_adoptSeq h0) h0) ?_
  refine ite_keeps (keeps_adoptYard h0) ?_
  refine ite_keeps (ite_keeps (keeps_setVar (keeps_setVar (keeps_setO (keeps_setO h0)))) h0) ?_
  refine ite_keeps ?_ ?_
  · refine ite_keeps (ite_keeps (keeps_adoptRail h0) h0) ?_
    refine ite_keeps ?_ h0
    extract_lets +onlyGivenNames x4
    have h5 : Keeps w s0 x4 := (keeps_setRailState h0)
    clear_value x4
    extract_lets +onlyGivenNames x6
    clear_value x6
    extract_lets +onlyGivenNames x7
    have h8 : Keeps w s0 x7 := (ite_keeps (keeps_setFlag h5) h5)
    clear_value x7
    exact (keeps_adoptRail (ite_keeps (keeps_setFlag h8) h8))
  · refine ite_keeps (keeps_hsAdopt h0) ?_
    refine ite_keeps (ite_keeps (keeps_setVar h0) h0) ?_
    refine ite_keeps (Keeps.same h0 rfl rfl rfl rfl rfl rfl rfl rfl rfl rfl rfl) ?_
    refine ite_keeps ?_ ?_
    · extract_lets +onlyGivenNames x9
      have h10 : Keeps w s0 x9 := (foldl_keeps h0 fun _ _ k11 => (keeps_setTokens k11))
      clear_value x9
      exact (keeps_setFlag (keeps_setO (Keeps.same h10 rfl rfl rfl rfl rfl rfl rfl rfl rfl rfl rfl)))
    · refine ite_keeps (keeps_setO h0) ?_
      refine ite_keeps (keeps_showLevel (keeps_setO h0)) ?_
      refine ite_keeps (ite_keeps (keeps_setO (keeps_stopT h0)) (keeps_setVar (keeps_setO h0))) ?_
      refine ite_keeps ?_ ?_
      · extract_lets +onlyGivenNames x12
        have h13 : Keeps w s0 x12 := (keeps_setFlag (keeps_setO h0))
        clear_value x12
        extract_lets +onlyGivenNames x14
        have h15 : Keeps w s0 x14 := (keeps_setVar h13)
        clear_value x14
        exact (keeps_setVar h15)
      · refine ite_keeps (keeps_acknowledge h0) ?_
        refine ite_keeps (keeps_ackAllWrite h0) ?_
        refine ite_keeps ?_ ?_
        · extract_lets +onlyGivenNames x16
          clear_value x16
          exact (keeps_setVar (keeps_setVar (keeps_setVar h0)))
        · refine ite_keeps ?_ (ite_keeps (ite_keeps (keeps_setVar h0) h0) (ite_keeps (keeps_setVar (keeps_setFlag h0)) h0))
          refine ite_keeps h0 ?_
          extract_lets +onlyGivenNames x17
          clear_value x17
          extract_lets +onlyGivenNames x18
          clear_value x18
          extract_lets +onlyGivenNames x19
          clear_value x19
          exact (ite_keeps (keeps_setVar h0) (keeps_setVar (Keeps.same h0 rfl rfl rfl rfl rfl rfl rfl rfl rfl rfl rfl)))

theorem keeps_acceptDeltas {w : Touch} {s0 s : State} {a0 a1 a2} (h0 : Keeps w s0 s) : Keeps w s0 (acceptDeltas a0 a1 a2 s)
      := by
  unfold acceptDeltas
  refine foldl_keeps h0 fun _ _ h2 => ?_
  split
  · extract_lets +onlyGivenNames x3
    clear_value x3
    refine ite_keeps h2 ?_
    refine ite_keeps h2 ?_
    extract_lets +onlyGivenNames x4
    have h5 : Keeps w s0 x4 := (keeps_setVar (keeps_setFlag h2))
    clear_value x4
    extract_lets +onlyGivenNames x6
    have h7 : Keeps w s0 x6 := (ite_keeps (keeps_addO h5) h5)
    clear_value x6
    exact (keeps_applyDelta h7)

theorem keeps_coverAck {w : Touch} {s0 s : State} {a0} (h0 : Keeps w s0 s) : Keeps w s0 (coverAck a0 s) := by
  unfold coverAck
  refine ite_keeps (ite_keeps h0 (keeps_setVar h0)) ?_
  refine ite_keeps h0 ?_
  split
  · extract_lets +onlyGivenNames x1
    have h2 : Keeps w s0 x1 := (Keeps.same h0 rfl rfl rfl rfl rfl rfl rfl rfl rfl rfl rfl)
    clear_value x1
    exact (ite_keeps (keeps_setVar h2) h2)
  · exact h0

theorem keeps_execDeltaResend {w : Touch} {s0 s : State} (h0 : Keeps w s0 s) : OutP (Keeps w s0) (execDeltaResend s) := by
  unfold execDeltaResend
  split
  · exact (ite_keeps (out_next (keeps_bumpSat (keeps_setVar h0))) (out_next h0))
  · exact (out_next h0)

theorem keeps_harnessDown {w : Touch} {s0 s : State} {a0} (h0 : Keeps w s0 s) : Keeps w s0 (harnessDown a0 s) := by
  unfold harnessDown
  extract_lets +onlyGivenNames x1
  have h2 : Keeps w s0 x1 := (keeps_bumpSat (keeps_setBit h0))
  clear_value x1
  extract_lets +onlyGivenNames x3
  have h4 : Keeps w s0 x3 := (keeps_setVar (keeps_setVar h2))
  clear_value x3
  extract_lets +onlyGivenNames x5
  have h6 : Keeps w s0 x5 := (keeps_raise h4)
  clear_value x5
  extract_lets +onlyGivenNames x7
  have h8 : Keeps w s0 x7 := (ite_keeps (keeps_startT h6) h6)
  clear_value x7
  exact (keeps_setVar h8)

theorem keeps_frameMissed {w : Touch} {s0 s : State} {a0 a1} (h0 : Keeps w s0 s) : Keeps w s0 (frameMissed a0 a1 s) := by
  unfold frameMissed
  extract_lets +onlyGivenNames x1
  have h2 : Keeps w s0 x1 := (keeps_bumpSat (keeps_setVar (keeps_addVar h0)))
  clear_value x1
  extract_lets +onlyGivenNames x3
  have h4 : Keeps w s0 x3 := (keeps_setVar (keeps_setBit h2))
  clear_value x3
  extract_lets +onlyGivenNames x5
  have h6 : Keeps w s0 x5 := (keeps_raisePer h4)
  clear_value x5
  extract_lets +onlyGivenNames x7
  have h8 : Keeps w s0 x7 := (ite_keeps (keeps_addVar h6) h6)
  clear_value x7
  refine ite_keeps ?_ h8
  extract_lets +onlyGivenNames x9
  have h10 : Keeps w s0 x9 := (ite_keeps (keeps_harnessDown h8) h8)
  clear_value x9
  exact (ite_keeps (keeps_enterOut h10) h10)

theorem keeps_shadowRail {w : Touch} {s0 s : State} {a0 a1 a2} (h0 : Keeps w s0 s) : Keeps w s0 (shadowRail a0 a1 a2 s) := by
  unfold shadowRail
  extract_lets +onlyGivenNames x1
  clear_value x1
  extract_lets +onlyGivenNames x2
  clear_value x2
  extract_lets +onlyGivenNames x3
  have h4 : Keeps w s0 x3 := (forRange_keeps h0 fun _ _ k5 => (keeps_setVar k5))
  clear_value x3
  extract_lets +onlyGivenNames x6
  have h7 : Keeps w s0 x6 := (ite_keeps (forEach_keeps h4 fun _ _ k8 => (keeps_setVar (keeps_setVar (keeps_setVar k8)))) h4)
  clear_value x6
  extract_lets +onlyGivenNames x9
  have h10 : Keeps w s0 x9 := (keeps_setFlag h7)
  clear_value x9
  extract_lets +onlyGivenNames x11
  have h12 : Keeps w s0 x11 := (keeps_setVar (keeps_setFlag (keeps_setFlag h10)))
  clear_value x11
  extract_lets +onlyGivenNames x13
  have h14 : Keeps w s0 x13 := (ite_keeps (keeps_setVar (keeps_setVar (keeps_setVar h12))) (ite_keeps h10 (forEach_keeps h10
      fun _ _ k15 => (keeps_quietPhase k15))))
  clear_value x13
  extract_lets +onlyGivenNames x16
  clear_value x16
  extract_lets +onlyGivenNames x17
  have h18 : Keeps w s0 x17 := (keeps_setO h14)
  clear_value x17
  exact (keeps_showPool (ite_keeps h18 (keeps_respread h18)))

theorem keeps_mirrorAdopt {w : Touch} {s0 s : State} {a0} (h0 : Keeps w s0 s) : Keeps w s0 (mirrorAdopt a0 s) := by
  unfold mirrorAdopt
  extract_lets +onlyGivenNames x1
  have h2 : Keeps w s0 x1 := h0
  clear_value x1
  extract_lets +onlyGivenNames x3
  have h4 : Keeps w s0 x3 := by
    unfold x3
    refine forRange_keeps h0 fun _ _ h7 => ?_
    refine ite_keeps h7 ?_
    extract_lets +onlyGivenNames x8
    clear_value x8
    extract_lets +onlyGivenNames x9
    clear_value x9
    extract_lets +onlyGivenNames x10
    clear_value x10
    extract_lets +onlyGivenNames x11
    clear_value x11
    extract_lets +onlyGivenNames x12
    have h13 : Keeps w s0 x12 := (ite_keeps (keeps_setVar h7) h7)
    clear_value x12
    extract_lets +onlyGivenNames x14
    have h15 : Keeps w s0 x14 := (keeps_setVar (keeps_setVar h13))
    clear_value x14
    extract_lets +onlyGivenNames x16
    clear_value x16
    extract_lets +onlyGivenNames x17
    have h18 : Keeps w s0 x17 := (ite_keeps h15 (keeps_adoptRail (keeps_setRailState h15)))
    clear_value x17
    exact (keeps_setO h18)
  clear_value x3
  extract_lets +onlyGivenNames x19
  have h20 : Keeps w s0 x19 := by
    unfold x19
    refine forRange_keeps h4 fun _ _ h23 => ?_
    refine ite_keeps h23 ?_
    extract_lets +onlyGivenNames x24
    clear_value x24
    extract_lets +onlyGivenNames x25
    clear_value x25
    extract_lets +onlyGivenNames x26
    have h27 : Keeps w s0 x26 := (keeps_setVar (keeps_setVar h23))
    clear_value x26
    extract_lets +onlyGivenNames x28
    have h29 : Keeps w s0 x28 := (keeps_setO h27)
    clear_value x28
    refine ite_keeps ?_ h29
    extract_lets +onlyGivenNames x30
    have h31 : Keeps w s0 x30 := (keeps_setFlag h29)
    clear_value x30
    exact (keeps_setVar (keeps_setO (keeps_setBit h31)))
  clear_value x19
  extract_lets +onlyGivenNames x32
  have h33 : Keeps w s0 x32 := (forRange_keeps h20 fun _ _ k34 => (ite_keeps (keeps_shadowRail k34) k34))
  clear_value x32
  extract_lets +onlyGivenNames x35
  clear_value x35
  refine forRange_keeps h33 fun _ _ h37 => ?_
  extract_lets +onlyGivenNames x38
  clear_value x38
  refine ite_keeps ?_ h37
  extract_lets +onlyGivenNames x39
  clear_value x39
  extract_lets +onlyGivenNames x40
  have h41 : Keeps w s0 x40 := (ite_keeps h37 (keeps_setFlag (keeps_setO h37)))
  clear_value x40
  exact (keeps_setO h41)

theorem keeps_admGo {w : Touch} {s0 s : State} {a0 a1} (h0 : Keeps w s0 s) : Keeps w s0 (admGo a0 a1 s) := by
  unfold admGo
  exact (keeps_setVar (keeps_startT (keeps_setO h0)))

theorem keeps_admFail {w : Touch} {s0 s : State} {a0} (h0 : Keeps w s0 s) : Keeps w s0 (admFail a0 s) := by
  unfold admFail
  extract_lets +onlyGivenNames x1
  have h2 : Keeps w s0 x1 := (keeps_raiseAction h0)
  clear_value x1
  extract_lets +onlyGivenNames x3
  have h4 : Keeps w s0 x3 := (keeps_setVar (keeps_stopT (keeps_setO h2)))
  clear_value x3
  extract_lets +onlyGivenNames x5
  have h6 : Keeps w s0 x5 := (ite_keeps (keeps_idleRails h4) h4)
  clear_value x5
  exact (keeps_startTR (keeps_setVar h6))

theorem keeps_admGrant {w : Touch} {s0 s : State} (h0 : Keeps w s0 s) : Keeps w s0 (admGrant s) := by
  unfold admGrant
  extract_lets +onlyGivenNames x1
  clear_value x1
  extract_lets +onlyGivenNames x2
  clear_value x2
  extract_lets +onlyGivenNames x3
  have h4 : Keeps w s0 x3 := (ite_keeps h0 (keeps_setVar h0))
  clear_value x3
  refine ite_keeps ?_ h4
  extract_lets +onlyGivenNames x5
  have h6 : Keeps w s0 x5 := (keeps_admGo (keeps_setVar (keeps_setVar (keeps_setVar h4))))
  clear_value x5
  exact (forRange_keeps h6 fun _ _ k7 => (keeps_enqueueOne k7))

theorem keeps_admIdentity {w : Touch} {s0 s : State} (h0 : Keeps w s0 s) : Keeps w s0 (admIdentity s) := by
  unfold admIdentity
  refine ite_keeps ?_ h0
  split
  · exact (keeps_admGo (keeps_setO (keeps_setVar (keeps_setFlag h0))))
  · exact (keeps_admFail (keeps_raise h0))

theorem keeps_admStep {w : Touch} {s0 s : State} (h0 : Keeps w s0 s) : Keeps w s0 (admStep s) := by
  unfold admStep
  extract_lets +onlyGivenNames x1
  have h2 : Keeps w s0 x1 := (keeps_admGrant h0)
  clear_value x1
  extract_lets +onlyGivenNames x3
  clear_value x3
  extract_lets +onlyGivenNames x4
  have h5 : Keeps w s0 x4 := (keeps_setVar (forRange_keeps h2 fun _ _ k6 => (keeps_setVar k6)))
  clear_value x4
  extract_lets +onlyGivenNames x7
  have h8 : Keeps w s0 x7 := (ite_keeps (keeps_record (keeps_admGo h5)) h2)
  clear_value x7
  extract_lets +onlyGivenNames x9
  have h10 : Keeps w s0 x9 := (ite_keeps (keeps_admGo (keeps_setVar (keeps_setVar h8))) h8)
  clear_value x9
  exact (keeps_admIdentity h10)

theorem keeps_election {w : Touch} {s0 s : State} (h0 : Keeps w s0 s) : Keeps w s0 (election s) := by
  unfold election
  refine ite_keeps ?_ h0
  extract_lets +onlyGivenNames x1
  have h2 : Keeps w s0 x1 := (keeps_reinOut (keeps_takeToken h0))
  clear_value x1
  exact (keeps_record h2)

theorem keeps_tokenConflict {w : Touch} {s0 s : State} (h0 : Keeps w s0 s) : Keeps w s0 (tokenConflict s) := by
  unfold tokenConflict
  refine ite_keeps ?_ (keeps_condOff h0)
  extract_lets +onlyGivenNames x1
  clear_value x1
  extract_lets +onlyGivenNames x2
  have h3 : Keeps w s0 x2 := (keeps_raise h0)
  clear_value x2
  exact (ite_keeps h3 (keeps_reinOut (keeps_enterOut h3)))

theorem keeps_positionConflict {w : Touch} {s0 s : State} (h0 : Keeps w s0 s) : Keeps w s0 (positionConflict s) := by
  unfold positionConflict
  refine ite_keeps ?_ (keeps_condOff (keeps_setFlag h0))
  extract_lets +onlyGivenNames x1
  have h2 : Keeps w s0 x1 := (keeps_raise h0)
  clear_value x1
  exact (keeps_setVar (keeps_setFlag h2))

theorem keeps_swapStart {w : Touch} {s0 s : State} {a0 a1} (h0 : Keeps w s0 s) : Keeps w s0 (swapStart a0 a1 s) := by
  unfold swapStart
  exact (keeps_setVar (keeps_setVar (keeps_setVar h0)))

theorem keeps_swapHeader {w : Touch} {s0 s : State} {a0} (h0 : Keeps w s0 s) : Keeps w s0 (swapHeader a0 s) := by
  unfold swapHeader
  extract_lets +onlyGivenNames x1
  clear_value x1
  extract_lets +onlyGivenNames x2
  clear_value x2
  extract_lets +onlyGivenNames x3
  clear_value x3
  extract_lets +onlyGivenNames x4
  clear_value x4
  extract_lets +onlyGivenNames x5
  have h6 : Keeps w s0 x5 := (keeps_setFlag h0)
  clear_value x5
  extract_lets +onlyGivenNames x7
  have h8 : Keeps w s0 x7 := (keeps_raiseAction h6)
  clear_value x7
  extract_lets +onlyGivenNames x9
  have h10 : Keeps w s0 x9 := (ite_keeps (keeps_setVar (keeps_setVar h8)) h6)
  clear_value x9
  exact (ite_keeps (ite_keeps (keeps_raiseAction h10) (keeps_swapStart h10)) h10)

theorem keeps_soloRein {w : Touch} {s0 s : State} (h0 : Keeps w s0 s) : Keeps w s0 (soloRein s) := by
  unfold soloRein
  exact (ite_keeps (keeps_record (keeps_reinOut h0)) h0)

theorem keeps_keepRein {w : Touch} {s0 s : State} (h0 : Keeps w s0 s) : Keeps w s0 (keepRein s) := by
  unfold keepRein
  extract_lets +onlyGivenNames x1
  clear_value x1
  exact (ite_keeps (keeps_soloRein h0) h0)

theorem keeps_frameGood {w : Touch} {s0 s : State} {a0} (h0 : Keeps w s0 s) : Keeps w s0 (frameGood a0 s) := by
  unfold frameGood
  extract_lets +onlyGivenNames x1
  have h2 : Keeps w s0 x1 := (keeps_addVar (keeps_addVar (keeps_setVar h0)))
  clear_value x1
  extract_lets +onlyGivenNames x3
  have h4 : Keeps w s0 x3 := (keeps_setBit (keeps_bumpSat h2))
  clear_value x3
  extract_lets +onlyGivenNames x5
  clear_value x5
  extract_lets +onlyGivenNames x6
  clear_value x6
  extract_lets +onlyGivenNames x7
  have h8 : Keeps w s0 x7 := (keeps_setVar (keeps_setVar h4))
  clear_value x7
  extract_lets +onlyGivenNames x9
  have h10 : Keeps w s0 x9 := (keeps_setFlag (keeps_setO h8))
  clear_value x9
  extract_lets +onlyGivenNames x11
  have h12 : Keeps w s0 x11 := (keeps_setVar (keeps_setVar h10))
  clear_value x11
  extract_lets +onlyGivenNames x13
  have h14 : Keeps w s0 x13 := (keeps_setVar h12)
  clear_value x13
  extract_lets +onlyGivenNames x15
  have h16 : Keeps w s0 x15 := (keeps_setVar h14)
  clear_value x15
  extract_lets +onlyGivenNames x17
  have h18 : Keeps w s0 x17 := (keeps_setVar h16)
  clear_value x17
  extract_lets +onlyGivenNames x19
  clear_value x19
  extract_lets +onlyGivenNames x20
  have h21 : Keeps w s0 x20 := (keeps_setVar (keeps_setBit h18))
  clear_value x20
  extract_lets +onlyGivenNames x22
  have h23 : Keeps w s0 x22 := (ite_keeps (keeps_condOff h21) h21)
  clear_value x22
  extract_lets +onlyGivenNames x24
  have h25 : Keeps w s0 x24 := (keeps_setVar h23)
  clear_value x24
  extract_lets +onlyGivenNames x26
  have h27 : Keeps w s0 x26 := (keeps_tokenConflict (keeps_positionConflict h25))
  clear_value x26
  extract_lets +onlyGivenNames x28
  have h29 : Keeps w s0 x28 := (keeps_coverAck h27)
  clear_value x28
  extract_lets +onlyGivenNames x30
  have h31 : Keeps w s0 x30 := (ite_keeps (keeps_mirrorAdopt h29) h29)
  clear_value x30
  extract_lets +onlyGivenNames x32
  clear_value x32
  extract_lets +onlyGivenNames x33
  have h34 : Keeps w s0 x33 := (keeps_acceptDeltas h31)
  clear_value x33
  extract_lets +onlyGivenNames x35
  have h36 : Keeps w s0 x35 := (keeps_swapHeader h34)
  clear_value x35
  extract_lets +onlyGivenNames x37
  have h38 : Keeps w s0 x37 := (ite_keeps (keeps_setRole h36) (ite_keeps (keeps_setRole h36) h36))
  clear_value x37
  exact (keeps_admStep (keeps_election h38))

theorem keeps_frameCheck {w : Touch} {s0 s : State} {a0} (h0 : Keeps w s0 s) : Keeps w s0 (frameCheck a0 s) := by
  unfold frameCheck
  split
  · extract_lets +onlyGivenNames x1
    have h2 : Keeps w s0 x1 := (keeps_setVar h0)
    clear_value x1
    extract_lets +onlyGivenNames x3
    have h4 : Keeps w s0 x3 := (keeps_setBit (keeps_setBit h2))
    clear_value x3
    extract_lets +onlyGivenNames x5
    have h6 : Keeps w s0 x5 := (keeps_countCond h4)
    clear_value x5
    extract_lets +onlyGivenNames x7
    have h8 : Keeps w s0 x7 := (ite_keeps (keeps_raise h6) h6)
    clear_value x7
    extract_lets +onlyGivenNames x9
    have h10 : Keeps w s0 x9 := (ite_keeps h8 (keeps_condOff h8))
    clear_value x9
    extract_lets +onlyGivenNames x11
    have h12 : Keeps w s0 x11 := (ite_keeps (keeps_addSat h10) h10)
    clear_value x11
    extract_lets +onlyGivenNames x13
    have h14 : Keeps w s0 x13 := (ite_keeps (keeps_addSat h12) h12)
    clear_value x13
    refine keeps_keepRein ?_
    split
    · exact (keeps_frameMissed h14)
    · exact (keeps_frameGood h14)

theorem keeps_execHarnessUp {w : Touch} {s0 s : State} (h0 : Keeps w s0 s) : OutP (Keeps w s0) (execHarnessUp s) := by
  unfold execHarnessUp
  refine ite_keeps ?_ (out_next h0)
  extract_lets +onlyGivenNames x1
  have h2 : Keeps w s0 x1 := (keeps_setVar (keeps_setBit h0))
  clear_value x1
  exact (out_next (keeps_record (keeps_condOff h2)))

theorem keeps_execSymbolLockGained {w : Touch} {s0 s : State} {a0 a1} (h0 : Keeps w s0 s) : OutP (Keeps w s0)
      (execSymbolLockGained a0 a1 s) := by
  unfold execSymbolLockGained
  exact (ite_keeps (out_next (keeps_setO (keeps_setBit h0))) (out_next h0))

theorem keeps_execSymbolLockLost {w : Touch} {s0 s : State} {a0} (h0 : Keeps w s0 s) : OutP (Keeps w s0) (execSymbolLockLost
      a0 s) := by
  unfold execSymbolLockLost
  exact (ite_keeps (out_next (keeps_setBit h0)) (out_next h0))

theorem keeps_execCfgMismatch {w : Touch} {s0 s : State} (h0 : Keeps w s0 s) : OutP (Keeps w s0) (execCfgMismatch s) := by
  unfold execCfgMismatch
  refine ite_keeps ?_ (out_next h0)
  extract_lets +onlyGivenNames x1
  have h2 : Keeps w s0 x1 := (keeps_raiseLater h0)
  clear_value x1
  exact (out_next (keeps_enterOut (keeps_setVar h2)))

theorem keeps_execDriveViolation {w : Touch} {s0 s : State} {a0 a1 a2} (h0 : Keeps w s0 s) : OutP (Keeps w s0)
      (execDriveViolation a0 a1 a2 s) := by
  unfold execDriveViolation
  extract_lets +onlyGivenNames x1
  clear_value x1
  exact (ite_keeps (out_next (keeps_setVar (keeps_setVar (keeps_setVar (keeps_setVar h0))))) (out_next h0))

theorem keeps_takeLevels {w : Touch} {s0 s : State} (h0 : Keeps w s0 s) : Keeps w s0 (takeLevels s) := by
  unfold takeLevels
  exact (forRange_keeps h0 fun _ _ k1 => (ite_keeps (keeps_showLevel (forRange_keeps k1 fun _ _ k2 => (ite_keeps
      (keeps_setVar k2) k2))) k1))

theorem keeps_execTakeover {w : Touch} {s0 s : State} {a0 a1} (h0 : Keeps w s0 s) : OutP (Keeps w s0) (execTakeover a0 a1 s)
      := by
  unfold execTakeover
  exact (ite_keeps (out_next (keeps_reinOut (keeps_setVar (keeps_setVar (keeps_setVar h0))))) (out_next h0))

theorem keeps_takeSequencer {w : Touch} {s0 s : State} (h0 : Keeps w s0 s) : Keeps w s0 (takeSequencer s) := by
  unfold takeSequencer
  refine keeps_resumeLatched ?_
  refine forEach_keeps h0 fun _ _ h4 => ?_
  extract_lets +onlyGivenNames x5
  have h6 : Keeps w s0 x5 := (ite_keeps (keeps_setFlag h4) h4)
  clear_value x5
  extract_lets +onlyGivenNames x7
  clear_value x7
  exact (ite_keeps (keeps_markOff h6) (ite_keeps (keeps_setVar h6) h6))

theorem keeps_takeoverDone {w : Touch} {s0 s : State} {a0} (h0 : Keeps w s0 s) : Keeps w s0 (takeoverDone a0 s) := by
  unfold takeoverDone
  extract_lets +onlyGivenNames x1
  clear_value x1
  extract_lets +onlyGivenNames x2
  clear_value x2
  extract_lets +onlyGivenNames x3
  have h4 : Keeps w s0 x3 := (keeps_setVar (keeps_takeToken h0))
  clear_value x3
  extract_lets +onlyGivenNames x5
  have h6 : Keeps w s0 x5 := (keeps_setO (keeps_bump h4))
  clear_value x5
  extract_lets +onlyGivenNames x7
  have h8 : Keeps w s0 x7 := (keeps_raiseAction h6)
  clear_value x7
  extract_lets +onlyGivenNames x9
  have h10 : Keeps w s0 x9 := (keeps_record h8)
  clear_value x9
  extract_lets +onlyGivenNames x11
  have h12 : Keeps w s0 x11 := (ite_keeps (keeps_record h10) h10)
  clear_value x11
  extract_lets +onlyGivenNames x13
  have h14 : Keeps w s0 x13 := (keeps_takeSequencer (keeps_takeLevels (keeps_setVar (keeps_setVar h12))))
  clear_value x13
  exact (keeps_clearQueue (forRange_keeps h14 fun _ _ k15 => (keeps_setFlag k15)))

theorem keeps_execReinLoadCheck {w : Touch} {s0 s : State} {a0} (h0 : Keeps w s0 s) : OutP (Keeps w s0) (execReinLoadCheck a0
      s) := by
  unfold execReinLoadCheck
  refine ite_keeps ?_ (out_next h0)
  extract_lets +onlyGivenNames x1
  have h2 : Keeps w s0 x1 := (keeps_setVar h0)
  clear_value x1
  refine ite_keeps ?_ (out_next (keeps_lateEvents (fun _ k3 => (keeps_takeoverDone k3)) (keeps_condOff (keeps_setBit h2))))
  extract_lets +onlyGivenNames x4
  have h5 : Keeps w s0 x4 := (keeps_reinOut (keeps_setBit h2))
  clear_value x4
  exact (out_next (keeps_raiseLater h5))

theorem keeps_execReinInAsserted {w : Touch} {s0 s : State} (h0 : Keeps w s0 s) : OutP (Keeps w s0) (execReinInAsserted s) :=
      by
  unfold execReinInAsserted
  refine ite_keeps ?_ (out_next h0)
  extract_lets +onlyGivenNames x1
  have h2 : Keeps w s0 x1 := (keeps_raiseLater h0)
  clear_value x1
  exact (out_next (keeps_setVar (keeps_reinOut (keeps_enterOut h2))))

theorem keeps_execTwinLostSolo {w : Touch} {s0 s : State} (h0 : Keeps w s0 s) : OutP (Keeps w s0) (execTwinLostSolo s) := by
  unfold execTwinLostSolo
  refine ite_keeps ?_ (out_next h0)
  extract_lets +onlyGivenNames x1
  have h2 : Keeps w s0 x1 := (keeps_stopT h0)
  clear_value x1
  extract_lets +onlyGivenNames x3
  clear_value x3
  extract_lets +onlyGivenNames x4
  have h5 : Keeps w s0 x4 := (keeps_setO (keeps_setO (keeps_setO h2)))
  clear_value x4
  extract_lets +onlyGivenNames x6
  have h7 : Keeps w s0 x6 := (keeps_raiseAction h5)
  clear_value x6
  extract_lets +onlyGivenNames x8
  have h9 : Keeps w s0 x8 := (keeps_soloRein h7)
  clear_value x8
  extract_lets +onlyGivenNames x10
  have h11 : Keeps w s0 x10 := (ite_keeps h9 (keeps_post h9))
  clear_value x10
  exact (out_next (keeps_clearQueue (keeps_setO h11)))

theorem keeps_yieldNow {w : Touch} {s0 s : State} {a0} (h0 : Keeps w s0 s) : Keeps w s0 (yieldNow a0 s) := by
  unfold yieldNow
  exact (ite_keeps (keeps_setVar (keeps_setVar (keeps_setVar h0))) h0)

theorem keeps_execYieldNotTaken {w : Touch} {s0 s : State} (h0 : Keeps w s0 s) : OutP (Keeps w s0) (execYieldNotTaken s) :=
      by
  unfold execYieldNotTaken
  refine ite_keeps ?_ (out_next h0)
  extract_lets +onlyGivenNames x1
  clear_value x1
  extract_lets +onlyGivenNames x2
  have h3 : Keeps w s0 x2 := (keeps_raiseAction h0)
  clear_value x2
  extract_lets +onlyGivenNames x4
  have h5 : Keeps w s0 x4 := (ite_keeps h3 (keeps_mainRailsOff h3))
  clear_value x4
  exact (out_next (keeps_resumeLatched (keeps_setVar (keeps_setVar (keeps_setVar h5)))))

theorem keeps_teamSwap {w : Touch} {s0 s : State} {a0} (h0 : Keeps w s0 s) : PairP (Keeps w s0) (teamSwap a0 s) := by
  unfold teamSwap
  exact (ite_keeps (pair_mk h0) (ite_keeps (pair_mk h0) (ite_keeps (ite_keeps (pair_mk (keeps_raiseActionLater h0)) (pair_mk
      (keeps_swapStart (keeps_setVar h0)))) (pair_mk (keeps_setVar (keeps_setVar h0))))))

theorem keeps_teamRelease {w : Touch} {s0 s : State} {a0} (h0 : Keeps w s0 s) : PairP (Keeps w s0) (teamRelease a0 s) := by
  unfold teamRelease
  refine ite_keeps (pair_mk h0) ?_
  refine ite_keeps (pair_mk (keeps_setFlag h0)) ?_
  refine ite_keeps ?_ (pair_mk h0)
  extract_lets +onlyGivenNames x1
  clear_value x1
  exact (pair_mk (keeps_swapStart (keeps_setVar h0)))

theorem keeps_teamAdmit {w : Touch} {s0 s : State} {a0} (h0 : Keeps w s0 s) : PairP (Keeps w s0) (teamAdmit a0 s) := by
  unfold teamAdmit
  exact (ite_keeps (pair_mk h0) (pair_mk (keeps_stopT (keeps_setFlag h0))))

theorem keeps_execSwapDrained {w : Touch} {s0 s : State} (h0 : Keeps w s0 s) : OutP (Keeps w s0) (execSwapDrained s) := by
  unfold execSwapDrained
  exact (ite_keeps (out_next (keeps_yieldNow h0)) (out_next h0))

theorem keeps_execSwapTimeout {w : Touch} {s0 s : State} (h0 : Keeps w s0 s) : OutP (Keeps w s0) (execSwapTimeout s) := by
  unfold execSwapTimeout
  refine ite_keeps ?_ (out_next h0)
  extract_lets +onlyGivenNames x1
  have h2 : Keeps w s0 x1 := (keeps_raiseAction h0)
  clear_value x1
  exact (out_next (keeps_resumeLatched (keeps_setVar (keeps_setVar h2))))

theorem keeps_execJoinWaitExpiry {w : Touch} {s0 s : State} (h0 : Keeps w s0 s) : OutP (Keeps w s0) (execJoinWaitExpiry s) :=
      by
  unfold execJoinWaitExpiry
  extract_lets +onlyGivenNames x1
  clear_value x1
  refine ite_keeps ?_ (out_next h0)
  extract_lets +onlyGivenNames x2
  have h3 : Keeps w s0 x2 := (keeps_reinOut (keeps_takeToken h0))
  clear_value x2
  exact (out_next (keeps_record (keeps_stopT h3)))

theorem keeps_execAdmissionRequest {w : Touch} {s0 s : State} (h0 : Keeps w s0 s) : OutP (Keeps w s0) (execAdmissionRequest
      s) := by
  unfold execAdmissionRequest
  exact (ite_keeps (out_next (keeps_setFlag (keeps_setFlag h0))) (out_next h0))

theorem keeps_execAdmissionTimeout {w : Touch} {s0 s : State} (h0 : Keeps w s0 s) : OutP (Keeps w s0) (execAdmissionTimeout
      s) := by
  unfold execAdmissionTimeout
  extract_lets +onlyGivenNames x1
  clear_value x1
  refine ite_keeps ?_ (out_next h0)
  extract_lets +onlyGivenNames x2
  clear_value x2
  extract_lets +onlyGivenNames x3
  clear_value x3
  exact (ite_keeps (out_next (keeps_admFail h0)) (ite_keeps (out_next (keeps_admFail h0)) (ite_keeps (out_next (keeps_admFail
      (ite_keeps (keeps_raise h0) h0))) (ite_keeps (out_next (keeps_admFail h0)) (out_next h0)))))

theorem keeps_execAdmissionComplete {w : Touch} {s0 s : State} (h0 : Keeps w s0 s) : OutP (Keeps w s0) (execAdmissionComplete
      s) := by
  unfold execAdmissionComplete
  refine ite_keeps ?_ (out_next h0)
  refine ite_keeps (out_next (ite_keeps (keeps_post (keeps_setVar (keeps_stopT (keeps_setO (keeps_reinOut h0))))) h0)) ?_
  refine ite_keeps ?_ (out_next h0)
  extract_lets +onlyGivenNames x1
  have h2 : Keeps w s0 x1 := (keeps_stopT (keeps_setO (keeps_setRole h0)))
  clear_value x1
  extract_lets +onlyGivenNames x3
  have h4 : Keeps w s0 x3 := (keeps_record h2)
  clear_value x3
  exact (out_next (keeps_post (keeps_setVar h4)))

theorem keeps_execReadmitWaitExpiry {w : Touch} {s0 s : State} (h0 : Keeps w s0 s) : OutP (Keeps w s0) (execReadmitWaitExpiry
      s) := by
  unfold execReadmitWaitExpiry
  exact (ite_keeps (out_next (keeps_setFlag (keeps_stopT h0))) (out_next h0))

theorem keeps_restartPhases {w : Touch} {s0 s : State} (h0 : Keeps w s0 s) : Keeps w s0 (restartPhases s) := by
  unfold restartPhases
  refine forRange_keeps h0 fun _ _ h3 => ?_
  refine forEach_keeps h3 fun _ _ h5 => ?_
  extract_lets +onlyGivenNames x6
  have h7 : Keeps w s0 x6 := (ite_keeps (keeps_endPulse h5) h5)
  clear_value x6
  extract_lets +onlyGivenNames x8
  have h9 : Keeps w s0 x8 := (keeps_setFlag (keeps_setFlag (keeps_setFlag h7)))
  clear_value x8
  extract_lets +onlyGivenNames x10
  have h11 : Keeps w s0 x10 := (keeps_setFlag (keeps_setFlag h9))
  clear_value x10
  exact (ite_keeps (keeps_setVar h11) h11)

theorem keeps_teamTick {w : Touch} {s0 s : State} (h0 : Keeps w s0 s) : Keeps w s0 (teamTick s) := by
  unfold teamTick
  extract_lets +onlyGivenNames x1
  have h2 : Keeps w s0 x1 := (ite_keeps h0 (keeps_setVar h0))
  clear_value x1
  extract_lets +onlyGivenNames x3
  have h4 : Keeps w s0 x3 := (keeps_setBit h2)
  clear_value x3
  extract_lets +onlyGivenNames x5
  have h6 : Keeps w s0 x5 := (ite_keeps (keeps_restartPhases h4) h4)
  clear_value x5
  extract_lets +onlyGivenNames x7
  have h8 : Keeps w s0 x7 := (forRange_keeps h6 fun _ _ k9 => (keeps_setVar (keeps_setVar k9)))
  clear_value x7
  extract_lets +onlyGivenNames x10
  have h11 : Keeps w s0 x10 := (ite_keeps (keeps_condOff h8) h8)
  clear_value x10
  extract_lets +onlyGivenNames x12
  have h13 : Keeps w s0 x12 := (ite_keeps (keeps_enterOut h11) (keeps_setVar h11))
  clear_value x12
  extract_lets +onlyGivenNames x14
  have h15 : Keeps w s0 x14 := (ite_keeps (keeps_yieldNow (keeps_setVar h13)) h13)
  clear_value x14
  extract_lets +onlyGivenNames x16
  have h17 : Keeps w s0 x16 := (ite_keeps (keeps_setVar h15) h15)
  clear_value x16
  exact (ite_keeps (keeps_enterOut h17) h17)

theorem keeps_teamEnApplied {w : Touch} {s0 s : State} (h0 : Keeps w s0 s) : Keeps w s0 (teamEnApplied s) := by
  unfold teamEnApplied
  refine ite_keeps h0 ?_
  extract_lets +onlyGivenNames x1
  have h2 : Keeps w s0 x1 := (keeps_clearQueue (keeps_reinOut h0))
  clear_value x1
  exact (Keeps.same h2 rfl rfl rfl rfl rfl rfl rfl rfl rfl rfl rfl)

theorem keeps_teamRound {w : Touch} {s0 s : State} (h0 : Keeps w s0 s) : Keeps w s0 (teamRound s) := by
  unfold teamRound
  exact (keeps_setVar (keeps_setO h0))

theorem keeps_teamBootEnd {w : Touch} {s0 s : State} (h0 : Keeps w s0 s) : Keeps w s0 (teamBootEnd s) := by
  unfold teamBootEnd
  exact (ite_keeps (keeps_setFlag (keeps_startT h0)) (keeps_setVar (keeps_setRole h0)))

theorem keeps_teamEnterMode {w : Touch} {s0 s : State} {a0} (h0 : Keeps w s0 s) : Keeps w s0 (teamEnterMode a0 s) := by
  unfold teamEnterMode
  exact (ite_keeps (keeps_enterOut h0) h0)

theorem keeps_forwardWrite {w : Touch} {s0 s : State} {a0 a1 a2} (h0 : Keeps w s0 s) : Keeps w s0 (forwardWrite a0 a1 a2 s)
      := by
  unfold forwardWrite
  refine ite_keeps ?_ h0
  extract_lets +onlyGivenNames x1
  clear_value x1
  extract_lets +onlyGivenNames x2
  have h3 : Keeps w s0 x2 := (Keeps.same h0 rfl rfl rfl rfl rfl rfl rfl rfl rfl rfl rfl)
  clear_value x2
  extract_lets +onlyGivenNames x4
  have h5 : Keeps w s0 x4 := (keeps_setO h3)
  clear_value x4
  exact (ite_keeps (keeps_enqueue h5) h5)

theorem keeps_journalFull {w : Touch} {s0 s : State} {a0} (h0 : Keeps w s0 s) : Keeps w s0 (journalFull a0 s) := by
  unfold journalFull
  exact (keeps_raiseAction h0)

end Sys2Proof.Machine
end

