-- ==== Sys2Proof/Laws/KeepsSlots.lean ====
section
/-!
SUPPORT. What the definitions of Machine/Slots.lean keep: each passes on the queue, the canonical form, the programmed fuses, and
every part that its hypotheses do not let it write.
-/

namespace Sys2Proof.Machine
open State

theorem keeps_midSlots {w : Touch} {s0 s : State} (h0 : Keeps w s0 s) : Keeps w s0 (midSlots s) := by
  unfold midSlots
  exact (keeps_setVar (forRange_keeps (keeps_evaluate h0) fun _ _ k1 => (keeps_spareSlots k1)))

theorem keeps_slotsBy {w : Touch} {s0 s : State} {a0} (h0 : Keeps w s0 s) : Keeps w s0 (slotsBy a0 s) := by
  unfold slotsBy
  exact (ite_keeps (keeps_midSlots h0) h0)

end Sys2Proof.Machine
end

