-- ==== Sys2Proof/Laws/KeepsStudbook.lean ====
section
/-!
SUPPORT. What the definitions of Machine/Studbook.lean keep: each passes on the queue, the canonical form, the programmed fuses, and
every part that its hypotheses do not let it write.
-/

namespace Sys2Proof.Machine
open State

theorem keeps_ringTouch {w : Touch} {s0 s : State} {a0} (h0 : Keeps w s0 s) : Keeps w s0 (ringTouch a0 s) := by
  unfold ringTouch
  exact (forEach_keeps h0 fun _ _ k1 => (keeps_nvmReadEffect k1))

theorem keeps_addRepeats {w : Touch} {s0 s : State} {a0 a1 a2} (h0 : Keeps w s0 s) : Keeps w s0 (addRepeats a0 a1 a2 s) := by
  unfold addRepeats
  extract_lets +onlyGivenNames x1
  clear_value x1
  extract_lets +onlyGivenNames x2
  have h3 : Keeps w s0 x2 := (ite_keeps (keeps_addVar h0) h0)
  clear_value x2
  exact (keeps_bump (keeps_bufEnter h3))

theorem keeps_retire {w : Touch} {s0 s : State} {a0} (h0 : Keeps w s0 s) : Keeps w s0 (retire a0 s) := by
  unfold retire
  split
  · exact h0
  · extract_lets +onlyGivenNames x1
    clear_value x1
    extract_lets +onlyGivenNames x2
    clear_value x2
    exact (ite_keeps (keeps_addVar (keeps_addVar (keeps_addVar h0))) (ite_keeps (keeps_addO h0) h0))

theorem keeps_writeRecord {w : Touch} {s0 s : State} {a0} (h0 : Keeps w s0 s) : Keeps w s0 (writeRecord a0 s) := by
  unfold writeRecord
  extract_lets +onlyGivenNames x1
  clear_value x1
  extract_lets +onlyGivenNames x2
  have h3 : Keeps w s0 x2 := (keeps_retire (keeps_ringTouch h0))
  clear_value x2
  extract_lets +onlyGivenNames x4
  have h5 : Keeps w s0 x4 := (keeps_bufEnter h3)
  clear_value x4
  extract_lets +onlyGivenNames x6
  have h7 : Keeps w s0 x6 := (ite_keeps (keeps_addVar h5) h5)
  clear_value x6
  extract_lets +onlyGivenNames x8
  have h9 : Keeps w s0 x8 := (keeps_bump h7)
  clear_value x8
  exact (ite_keeps (keeps_post (keeps_setO (keeps_setO h9))) (keeps_setO h9))

theorem keeps_assemblySlot {w : Touch} {s0 s : State} (h0 : Keeps w s0 s) : Keeps w s0 (assemblySlot s) := by
  unfold assemblySlot
  extract_lets +onlyGivenNames x1
  have h2 : Keeps w s0 x1 := (ite_keeps (keeps_setVar h0) h0)
  clear_value x1
  split
  · exact h2
  · refine ite_keeps h2 ?_
    refine ite_keeps ?_ (ite_keeps (keeps_setVar h2) h2)
    extract_lets +onlyGivenNames x3
    have h4 : Keeps w s0 x3 := (keeps_ringTouch h2)
    clear_value x3
    extract_lets +onlyGivenNames x5
    have h6 : ∀ b0, Keeps w s0 b0 → Keeps w s0 (x5 b0) := by
      intro _ k7
      unfold x5
      beta_reduce
      exact (ite_keeps (keeps_setFlag k7) k7)
    clear_value x5
    split
    · refine keeps_showQueue ?_
      extract_lets +onlyGivenNames x8
      have h9 : Keeps w s0 x8 := (keeps_addRepeats (h6 _ (keeps_setVar h4)))
      clear_value x8
      exact (Keeps.same h9 rfl rfl rfl rfl rfl rfl rfl rfl rfl rfl rfl)
    · refine keeps_showQueue ?_
      extract_lets +onlyGivenNames x10
      have h11 : Keeps w s0 x10 := (keeps_writeRecord (h6 _ (keeps_setVar h4)))
      clear_value x10
      exact (Keeps.same h11 rfl rfl rfl rfl rfl rfl rfl rfl rfl rfl rfl)

theorem keeps_execRecordAssembly {w : Touch} {s0 s : State} (h0 : Keeps w s0 s) : OutP (Keeps w s0) (execRecordAssembly s) :=
      by
  unfold execRecordAssembly
  exact (ite_keeps (out_next h0) (out_next (keeps_assemblySlot (keeps_offerRecords (keeps_slotsBy h0)))))

theorem keeps_sbHeadSearch {w : Touch} {s0 s : State} (h0 : Keeps w s0 s) : Keeps w s0 (sbHeadSearch s) := by
  unfold sbHeadSearch
  split
  · exact (keeps_setO (keeps_setO (keeps_ringTouch h0)))
  · extract_lets +onlyGivenNames x1
    clear_value x1
    extract_lets +onlyGivenNames x2
    clear_value x2
    extract_lets +onlyGivenNames x3
    clear_value x3
    extract_lets +onlyGivenNames x4
    clear_value x4
    extract_lets +onlyGivenNames x5
    have h6 : Keeps w s0 x5 := (keeps_ringTouch h0)
    clear_value x5
    extract_lets +onlyGivenNames x7
    have h8 : Keeps w s0 x7 := (ite_keeps (keeps_setO (keeps_setO h6)) (keeps_setO (keeps_setO h6)))
    clear_value x7
    exact (ite_keeps h8 (keeps_record (keeps_post (keeps_addO h8))))

theorem keeps_sbRecount {w : Touch} {s0 s : State} (h0 : Keeps w s0 s) : Keeps w s0 (sbRecount s) := by
  unfold sbRecount
  extract_lets +onlyGivenNames x1
  have h2 : Keeps w s0 x1 := (forRange_keeps h0 fun _ _ k3 => (forRange_keeps k3 fun _ _ k4 => (keeps_setO k4)))
  clear_value x1
  refine forRange_keeps (keeps_setVar h2) fun _ _ h6 => ?_
  extract_lets +onlyGivenNames x7
  have h8 : Keeps w s0 x7 := (keeps_ringTouch h6)
  clear_value x7
  split
  · exact (ite_keeps (keeps_addVar (keeps_addO h8)) h8)
  · exact h8

theorem keeps_exportEnded {w : Touch} {s0 s : State} {a0} (h0 : Keeps w s0 s) : Keeps w s0 (exportEnded a0 s) := by
  unfold exportEnded
  exact (keeps_record h0)

theorem keeps_expCmd {w : Touch} {s0 s : State} {a0} (h0 : Keeps w s0 s) : PairP (Keeps w s0) (expCmd a0 s) := by
  unfold expCmd
  extract_lets +onlyGivenNames x1
  clear_value x1
  refine ite_keeps ?_ ?_
  · refine ite_keeps (pair_mk h0) ?_
    extract_lets +onlyGivenNames x2
    have h3 : Keeps w s0 x2 := (keeps_setVar (keeps_setVar (keeps_setVar h0)))
    clear_value x2
    extract_lets +onlyGivenNames x4
    have h5 : Keeps w s0 x4 := (keeps_setO (keeps_setVar h3))
    clear_value x4
    extract_lets +onlyGivenNames x6
    clear_value x6
    extract_lets +onlyGivenNames x7
    clear_value x7
    extract_lets +onlyGivenNames x8
    clear_value x8
    exact (pair_mk (keeps_setO (Keeps.same h5 rfl rfl rfl rfl rfl rfl rfl rfl rfl rfl rfl)))
  · refine ite_keeps ?_ (pair_mk h0)
    refine ite_keeps (pair_mk (keeps_setO h0)) ?_
    extract_lets +onlyGivenNames x9
    have h10 : Keeps w s0 x9 := (keeps_exportEnded (ite_keeps h0 (keeps_discardJob h0)))
    clear_value x9
    exact (pair_mk (keeps_setO (Keeps.same h10 rfl rfl rfl rfl rfl rfl rfl rfl rfl rfl rfl)))

theorem keeps_expSlot {w : Touch} {s0 s : State} (h0 : Keeps w s0 s) : Keeps w s0 (expSlot s) := by
  unfold expSlot
  refine ite_keeps ?_ h0
  extract_lets +onlyGivenNames x1
  clear_value x1
  extract_lets +onlyGivenNames x2
  clear_value x2
  extract_lets +onlyGivenNames x3
  clear_value x3
  extract_lets +onlyGivenNames x4
  clear_value x4
  extract_lets +onlyGivenNames x5
  clear_value x5
  extract_lets +onlyGivenNames x6
  have h7 : Keeps w s0 x6 := (keeps_ringTouch (keeps_addVar h0))
  clear_value x6
  exact (ite_keeps (keeps_jobRequest (keeps_setO h7)) h7)

theorem keeps_signWith {w : Touch} {s0 s : State} {a0 a1} (h0 : Keeps w s0 s) : PairP (Keeps w s0) (signWith a0 a1 s) := by
  unfold signWith
  split
  · have h1 := pair_of_eq (Q := Keeps w s0) (by assumption) (keeps_drawFree h0)
    exact (pair_mk h1)

theorem keeps_execExportReady {w : Touch} {s0 s : State} (h0 : Keeps w s0 s) : OutP (Keeps w s0) (execExportReady s) := by
  unfold execExportReady
  refine ite_keeps ?_ (out_next h0)
  split
  · have h1 := pair_of_eq (Q := Keeps w s0) (by assumption) (keeps_signWith h0)
    extract_lets +onlyGivenNames x2
    have h3 : Keeps w s0 x2 := (Keeps.same h1 rfl rfl rfl rfl rfl rfl rfl rfl rfl rfl rfl)
    clear_value x2
    exact (out_next (keeps_post (keeps_setVar (keeps_setO (keeps_setVar h3)))))

theorem keeps_execExportTimeout {w : Touch} {s0 s : State} (h0 : Keeps w s0 s) : OutP (Keeps w s0) (execExportTimeout s) :=
      by
  unfold execExportTimeout
  extract_lets +onlyGivenNames x1
  clear_value x1
  extract_lets +onlyGivenNames x2
  clear_value x2
  refine ite_keeps ?_ (out_next h0)
  extract_lets +onlyGivenNames x3
  have h4 : Keeps w s0 x3 := (keeps_setVar (keeps_setO h0))
  clear_value x3
  extract_lets +onlyGivenNames x5
  have h6 : Keeps w s0 x5 := (keeps_exportEnded (keeps_post h4))
  clear_value x5
  exact (out_next (Keeps.same h6 rfl rfl rfl rfl rfl rfl rfl rfl rfl rfl rfl))

theorem keeps_traceFrame {w : Touch} {s0 s : State} (h0 : Keeps w s0 s) : Keeps w s0 (traceFrame s) := by
  unfold traceFrame
  exact (Keeps.same h0 rfl rfl rfl rfl rfl rfl rfl rfl rfl rfl rfl)

theorem keeps_bbTrigger {w : Touch} {s0 s : State} {a0} (h0 : Keeps w s0 s) : Keeps w s0 (bbTrigger a0 s) := by
  unfold bbTrigger
  extract_lets +onlyGivenNames x1
  clear_value x1
  extract_lets +onlyGivenNames x2
  have h3 : Keeps w s0 x2 := (ite_keeps h0 (keeps_nvmTouch h0))
  clear_value x2
  refine ite_keeps (keeps_record (keeps_post (keeps_bump h3))) ?_
  extract_lets +onlyGivenNames x4
  clear_value x4
  extract_lets +onlyGivenNames x5
  clear_value x5
  extract_lets +onlyGivenNames x6
  clear_value x6
  extract_lets +onlyGivenNames x7
  clear_value x7
  extract_lets +onlyGivenNames x8
  have h9 : Keeps w s0 x8 := (Keeps.same h3 rfl rfl rfl rfl rfl rfl rfl rfl rfl rfl rfl)
  clear_value x8
  extract_lets +onlyGivenNames x10
  have h11 : Keeps w s0 x10 := (keeps_setVar (keeps_setVar (keeps_setVar (keeps_setVar h9))))
  clear_value x10
  extract_lets +onlyGivenNames x12
  have h13 : Keeps w s0 x12 := (keeps_setVar (keeps_setFlag (keeps_setFlag h11)))
  clear_value x12
  extract_lets +onlyGivenNames x14
  have h15 : Keeps w s0 x14 := (keeps_setVar (keeps_setVar h13))
  clear_value x14
  extract_lets +onlyGivenNames x16
  have h17 : Keeps w s0 x16 := (keeps_setO (keeps_setVar h15))
  clear_value x16
  exact (keeps_nvmWrite h17)

theorem keeps_bbSlotWork {w : Touch} {s0 s : State} (h0 : Keeps w s0 s) : Keeps w s0 (bbSlotWork s) := by
  unfold bbSlotWork
  extract_lets +onlyGivenNames x1
  clear_value x1
  exact (ite_keeps (keeps_setVar (keeps_nvmWrite h0)) h0)

theorem keeps_execBlackBoxComplete {w : Touch} {s0 s : State} (h0 : Keeps w s0 s) : OutP (Keeps w s0) (execBlackBoxComplete
      s) := by
  unfold execBlackBoxComplete
  refine ite_keeps ?_ (out_next h0)
  extract_lets +onlyGivenNames x1
  clear_value x1
  extract_lets +onlyGivenNames x2
  clear_value x2
  extract_lets +onlyGivenNames x3
  have h4 : Keeps w s0 x3 := (keeps_nvmWrite h0)
  clear_value x3
  extract_lets +onlyGivenNames x5
  have h6 : Keeps w s0 x5 := (keeps_post (keeps_setVar (keeps_setO h4)))
  clear_value x5
  extract_lets +onlyGivenNames x7
  have h8 : Keeps w s0 x7 := (keeps_record h6)
  clear_value x7
  exact (out_next (Keeps.same h8 rfl rfl rfl rfl rfl rfl rfl rfl rfl rfl rfl))

theorem keeps_bbRelease {w : Touch} {s0 s : State} {a0} (h0 : Keeps w s0 s) : Keeps w s0 (bbRelease a0 s) := by
  unfold bbRelease
  extract_lets +onlyGivenNames x1
  have h2 : Keeps w s0 x1 := (keeps_nvmTouch h0)
  clear_value x1
  refine ite_keeps (keeps_setFlag h2) ?_
  refine ite_keeps ?_ h2
  extract_lets +onlyGivenNames x3
  clear_value x3
  extract_lets +onlyGivenNames x4
  clear_value x4
  exact (keeps_nvmWrite h2)

theorem keeps_bbCmd {w : Touch} {s0 s : State} {a0} (h0 : Keeps w s0 s) : PairP (Keeps w s0) (bbCmd a0 s) := by
  unfold bbCmd
  exact (ite_keeps (pair_mk (keeps_bbTrigger h0)) (ite_keeps (pair_mk (keeps_bbRelease (keeps_bbRelease h0))) (pair_mk h0)))

theorem keeps_sbBoot {w : Touch} {s0 s : State} (h0 : Keeps w s0 s) : Keeps w s0 (sbBoot s) := by
  unfold sbBoot
  extract_lets +onlyGivenNames x1
  have h2 : Keeps w s0 x1 := (Keeps.same h0 rfl rfl rfl rfl rfl rfl rfl rfl rfl rfl rfl)
  clear_value x1
  exact (keeps_sbHeadSearch (keeps_setVar (keeps_setO h2)))

end Sys2Proof.Machine
end

