-- ==== Sys2Proof/Laws/KeepsLedger.lean ====
section
/-!
SUPPORT. What the definitions of Machine/Ledger.lean keep: each passes on the queue, the canonical form, the programmed fuses, and
every part that its hypotheses do not let it write.
-/

namespace Sys2Proof.Machine
open State

theorem keeps_violation {w : Touch} {s0 s : State} {a0 a1 a2} (h0 : Keeps w s0 s) : Keeps w s0 (violation a0 a1 a2 s) := by
  unfold violation
  exact (keeps_raiseAction (keeps_bump h0))

theorem keeps_chargeAdd {w : Touch} {s0 s : State} {a0 a1} (h0 : Keeps w s0 s) : Keeps w s0 (chargeAdd a0 a1 s) := by
  unfold chargeAdd
  exact (keeps_addO (keeps_addO h0))

theorem keeps_chargeCheck {w : Touch} {s0 s : State} {a0} (h0 : Keeps w s0 s) : Keeps w s0 (chargeCheck a0 s) := by
  unfold chargeCheck
  extract_lets +onlyGivenNames x1
  clear_value x1
  extract_lets +onlyGivenNames x2
  have h3 : Keeps w s0 x2 := (keeps_setO h0)
  clear_value x2
  refine ite_keeps h3 ?_
  extract_lets +onlyGivenNames x4
  have h5 : Keeps w s0 x4 := (keeps_setBit h3)
  clear_value x4
  exact (ite_keeps h5 (keeps_violation h5))

theorem keeps_budgetCheck {w : Touch} {s0 s : State} {a0} (h0 : Keeps w s0 s) : Keeps w s0 (budgetCheck a0 s) := by
  unfold budgetCheck
  extract_lets +onlyGivenNames x1
  have h2 : Keeps w s0 x1 := (keeps_setO h0)
  clear_value x1
  extract_lets +onlyGivenNames x3
  clear_value x3
  refine ite_keeps h2 ?_
  extract_lets +onlyGivenNames x4
  have h5 : Keeps w s0 x4 := (keeps_setBit h2)
  clear_value x4
  exact (ite_keeps (keeps_condOff h5) (ite_keeps h5 (keeps_setBit (keeps_violation h5))))

theorem keeps_budgetRestart {w : Touch} {s0 s : State} (h0 : Keeps w s0 s) : Keeps w s0 (budgetRestart s) := by
  unfold budgetRestart
  extract_lets +onlyGivenNames x1
  have h2 : Keeps w s0 x1 := (keeps_setO h0)
  clear_value x1
  extract_lets +onlyGivenNames x3
  have h4 : Keeps w s0 x3 := (forRange_keeps h2 fun _ _ k5 => (keeps_setO k5))
  clear_value x3
  exact (keeps_setO h4)

theorem keeps_budgetLimits {w : Touch} {s0 s : State} (h0 : Keeps w s0 s) : Keeps w s0 (budgetLimits s) := by
  unfold budgetLimits
  refine forRange_keeps h0 fun _ _ h2 => ?_
  extract_lets +onlyGivenNames x3
  clear_value x3
  extract_lets +onlyGivenNames x4
  clear_value x4
  extract_lets +onlyGivenNames x5
  have h6 : Keeps w s0 x5 := (keeps_setVar h2)
  clear_value x5
  exact (ite_keeps (keeps_setO h6) h6)

theorem keeps_wbAsk {w : Touch} {s0 s : State} {a0} (h0 : Keeps w s0 s) : Keeps w s0 (wbAsk a0 s) := by
  unfold wbAsk
  exact (keeps_setFlag h0)

theorem keeps_grantRecord {w : Touch} {s0 s : State} (h0 : Keeps w s0 s) : Keeps w s0 (grantRecord s) := by
  unfold grantRecord
  exact (keeps_record h0)

theorem keeps_txApply {w : Touch} {s0 s : State} (h0 : Keeps w s0 s) : Keeps w s0 (txApply s) := by
  unfold txApply
  extract_lets +onlyGivenNames x1
  have h2 : Keeps w s0 x1 := (foldl_keeps h0 fun _ _ k3 => (keeps_setTokens k3))
  clear_value x1
  extract_lets +onlyGivenNames x4
  have h5 : Keeps w s0 x4 := (Keeps.same h2 rfl rfl rfl rfl rfl rfl rfl rfl rfl rfl rfl)
  clear_value x4
  extract_lets +onlyGivenNames x6
  have h7 : Keeps w s0 x6 := (keeps_wbAsk (keeps_setO (keeps_bump h5)))
  clear_value x6
  exact (ite_keeps (keeps_grantRecord (keeps_setVar h7)) h7)

theorem keeps_txSend {w : Touch} {s0 s : State} {a0 a1} (h0 : Keeps w s0 s) : Keeps w s0 (txSend a0 a1 s) := by
  unfold txSend
  extract_lets +onlyGivenNames x1
  have h2 : Keeps w s0 x1 := (foldl_keeps h0 fun _ _ k3 => (keeps_enqueueOne k3))
  clear_value x1
  exact (keeps_enqueueOne h2)

theorem keeps_txStart {w : Touch} {s0 s : State} {a0} (h0 : Keeps w s0 s) : Keeps w s0 (txStart a0 s) := by
  unfold txStart
  extract_lets +onlyGivenNames x1
  have h2 : Keeps w s0 x1 := (Keeps.same h0 rfl rfl rfl rfl rfl rfl rfl rfl rfl rfl rfl)
  clear_value x1
  refine ite_keeps (keeps_txSend h2) ?_
  extract_lets +onlyGivenNames x3
  have h4 : Keeps w s0 x3 := (keeps_txApply h2)
  clear_value x3
  exact (ite_keeps (keeps_txSend h4) h4)

theorem keeps_execLedgerTransactionApply {w : Touch} {s0 s : State} (h0 : Keeps w s0 s) : OutP (Keeps w s0)
      (execLedgerTransactionApply s) := by
  unfold execLedgerTransactionApply
  exact (ite_keeps (out_next (keeps_txApply h0)) (out_next h0))

theorem keeps_allocWrite {w : Touch} {s0 s : State} {a0 a1} (h0 : Keeps w s0 s) : PairP (Keeps w s0) (allocWrite a0 a1 s) :=
      by
  unfold allocWrite
  extract_lets +onlyGivenNames x1
  clear_value x1
  exact (ite_keeps (pair_mk h0) (ite_keeps (pair_mk h0) (ite_keeps (pair_mk (keeps_txStart h0)) (ite_keeps (pair_mk
      (keeps_setVar h0)) (pair_mk h0)))))

theorem keeps_takeTokens {w : Touch} {s0 s : State} {a0 a1} (h0 : Keeps w s0 s) : Keeps w s0 (takeTokens a0 a1 s) := by
  induction a0 generalizing a1 s with
  | nil => exact h0
  | cons r t ih => exact ih (ite_keeps h0 (keeps_addVar (keeps_setVar h0)))

theorem keeps_grantWrite {w : Touch} {s0 s : State} {a0 a1} (h0 : Keeps w s0 s) : PairP (Keeps w s0) (grantWrite a0 a1 s) :=
      by
  unfold grantWrite
  extract_lets +onlyGivenNames x1
  clear_value x1
  refine ite_keeps (pair_mk h0) ?_
  refine ite_keeps (pair_mk h0) ?_
  extract_lets +onlyGivenNames x2
  have h3 : Keeps w s0 x2 := (keeps_setVar (keeps_setVar (keeps_setVar h0)))
  clear_value x2
  refine ite_keeps (pair_mk (keeps_txStart (keeps_setVar h3))) ?_
  refine ite_keeps (pair_mk h0) ?_
  extract_lets +onlyGivenNames x4
  have h5 : Keeps w s0 x4 := (keeps_setVar (keeps_setO h3))
  clear_value x4
  exact (pair_mk (keeps_takeTokens h5))

theorem keeps_budgetTick {w : Touch} {s0 s : State} (h0 : Keeps w s0 s) : Keeps w s0 (budgetTick s) := by
  unfold budgetTick
  extract_lets +onlyGivenNames x1
  clear_value x1
  refine ite_keeps h0 ?_
  extract_lets +onlyGivenNames x2
  clear_value x2
  extract_lets +onlyGivenNames x3
  clear_value x3
  extract_lets +onlyGivenNames x4
  clear_value x4
  extract_lets +onlyGivenNames x5
  clear_value x5
  extract_lets +onlyGivenNames x6
  clear_value x6
  extract_lets +onlyGivenNames x7
  have h8 : Keeps w s0 x7 := (foldl_keeps h0 fun _ _ k9 => (keeps_setVar k9))
  clear_value x7
  exact (keeps_txStart (keeps_setVar (keeps_setFlag h8)))

theorem keeps_setWbGen {w : Touch} {s0 s : State} {a0 a1} (h0 : Keeps w s0 s) : Keeps w s0 (setWbGen a0 a1 s) := by
  unfold setWbGen
  exact (ite_keeps (keeps_setO h0) (ite_keeps (keeps_setVar h0) (keeps_setO h0)))

theorem keeps_readSlot {w : Touch} {s0 s : State} {a0 a1} (h0 : Keeps w s0 s) : PairP (Keeps w s0) (readSlot a0 a1 s) := by
  unfold readSlot
  split
  · have h1 := pair_of_eq (Q := Keeps w s0) (by assumption) (keeps_nvmRead h0)
    extract_lets +onlyGivenNames x2
    clear_value x2
    exact (pair_mk h1)

theorem keeps_setChargeImage {w : Touch} {s0 s : State} {a0} (h0 : Keeps w s0 s) : Keeps w s0 (setChargeImage a0 s) := by
  unfold setChargeImage
  exact (foldl_keeps h0 fun _ _ k1 => (keeps_setO k1))

theorem keeps_wbFirst {w : Touch} {s0 s : State} {a0} (h0 : Keeps w s0 s) : Keeps w s0 (wbFirst a0 s) := by
  unfold wbFirst
  refine ite_keeps ?_ h0
  extract_lets +onlyGivenNames x1
  have h2 : Keeps w s0 x1 := (keeps_setVar (keeps_setFlag h0))
  clear_value x1
  exact (keeps_commitAsk (keeps_nvmWrite h2))

theorem keeps_wbSecond {w : Touch} {s0 s : State} {a0} (h0 : Keeps w s0 s) : Keeps w s0 (wbSecond a0 s) := by
  unfold wbSecond
  refine ite_keeps ?_ h0
  extract_lets +onlyGivenNames x1
  clear_value x1
  exact (keeps_commitAsk (keeps_nvmWrite (keeps_setVar h0)))

theorem keeps_wbDone {w : Touch} {s0 s : State} {a0} (h0 : Keeps w s0 s) : Keeps w s0 (wbDone a0 s) := by
  unfold wbDone
  refine ite_keeps ?_ h0
  extract_lets +onlyGivenNames x1
  clear_value x1
  extract_lets +onlyGivenNames x2
  clear_value x2
  extract_lets +onlyGivenNames x3
  have h4 : Keeps w s0 x3 := (keeps_setVar (keeps_setVar (keeps_setWbGen h0)))
  clear_value x3
  exact (ite_keeps (keeps_record h4) h4)

theorem keeps_execLedgerWriteback {w : Touch} {s0 s : State} (h0 : Keeps w s0 s) : OutP (Keeps w s0) (execLedgerWriteback s)
      := by
  unfold execLedgerWriteback
  extract_lets +onlyGivenNames x1
  clear_value x1
  extract_lets +onlyGivenNames x2
  have h3 : Keeps w s0 x2 := (ite_keeps (keeps_wbAsk (keeps_wbAsk (keeps_setVar h0))) h0)
  clear_value x2
  exact (out_next (keeps_wbFirst (keeps_wbFirst h3)))

theorem keeps_ledgerSlots {w : Touch} {s0 s : State} (h0 : Keeps w s0 s) : Keeps w s0 (ledgerSlots s) := by
  unfold ledgerSlots
  extract_lets +onlyGivenNames x1
  have h2 : Keeps w s0 x1 := (keeps_budgetCheck h0)
  clear_value x1
  exact (Keeps.same h2 rfl rfl rfl rfl rfl rfl rfl rfl rfl rfl rfl)

theorem keeps_writeLines {w : Touch} {s0 s : State} {a0} (hm : w.mram = true) (h0 : Keeps w s0 s) : Keeps w s0 (writeLines a0
      s) := by
  induction a0 generalizing s with
  | nil => exact h0
  | cons p t ih => exact ih (keeps_lineMended (keeps_writeMram hm h0))

theorem keeps_writeClose {w : Touch} {s0 s : State} {a0} (hm : w.mram = true) (h0 : Keeps w s0 s) : Keeps w s0 (writeClose a0
      s) := by
  unfold writeClose
  extract_lets +onlyGivenNames x1
  clear_value x1
  extract_lets +onlyGivenNames x2
  clear_value x2
  extract_lets +onlyGivenNames x3
  have h4 : Keeps w s0 x3 := (keeps_writeLines hm h0)
  clear_value x3
  extract_lets +onlyGivenNames x5
  have h6 : Keeps w s0 x5 := (keeps_setFlag (keeps_setVar (keeps_setVar h4)))
  clear_value x5
  exact (keeps_bump h6)

theorem keeps_closeNow {w : Touch} {s0 s : State} {a0} (hm : w.mram = true) (h0 : Keeps w s0 s) : Keeps w s0 (closeNow a0 s)
      := by
  unfold closeNow
  refine ite_keeps (keeps_setVar h0) ?_
  extract_lets +onlyGivenNames x1
  have h2 : Keeps w s0 x1 := (keeps_writeLines hm h0)
  clear_value x1
  extract_lets +onlyGivenNames x3
  clear_value x3
  extract_lets +onlyGivenNames x4
  have h5 : Keeps w s0 x4 := (Keeps.same h2 rfl rfl rfl rfl rfl rfl rfl rfl rfl rfl rfl)
  clear_value x4
  extract_lets +onlyGivenNames x6
  have h7 : Keeps w s0 x6 := (ite_keeps (keeps_jobEnd (keeps_setVar (keeps_bump h5))) h5)
  clear_value x6
  extract_lets +onlyGivenNames x8
  have h9 : Keeps w s0 x8 := (keeps_setO (keeps_setFlag (keeps_setVar h7)))
  clear_value x8
  extract_lets +onlyGivenNames x10
  have h11 : Keeps w s0 x10 := (keeps_setVar (keeps_writeClose hm (keeps_setVar (keeps_bufShow h9))))
  clear_value x10
  exact (keeps_bufShow (keeps_drainWaiters h11))

theorem keeps_execCloseWrite {w : Touch} {s0 s : State} {a0} (hm : w.mram = true) (h0 : Keeps w s0 s) : OutP (Keeps w s0)
      (execCloseWrite a0 s) := by
  unfold execCloseWrite
  extract_lets +onlyGivenNames x1
  clear_value x1
  refine ite_keeps ?_ (out_next h0)
  extract_lets +onlyGivenNames x2
  have h3 : Keeps w s0 x2 := (ite_keeps (keeps_setFlag h0) h0)
  clear_value x2
  exact (ite_keeps (out_next (keeps_closeNow hm h3)) (out_next (ite_keeps h3 (keeps_closeNow hm h3))))

theorem keeps_eventCheck {w : Touch} {s0 s : State} (h0 : Keeps w s0 s) : Keeps w s0 (eventCheck s) := by
  unfold eventCheck
  refine ite_keeps h0 ?_
  extract_lets +onlyGivenNames x1
  clear_value x1
  extract_lets +onlyGivenNames x2
  clear_value x2
  extract_lets +onlyGivenNames x3
  have h4 : Keeps w s0 x3 := (keeps_setBit h0)
  clear_value x3
  exact (ite_keeps h4 (keeps_violation h4))

theorem keeps_execCommitComplete {w : Touch} {s0 s : State} (hm : w.mram = true) (h0 : Keeps w s0 s) : OutP (Keeps w s0)
      (execCommitComplete s) := by
  unfold execCommitComplete
  refine ite_keeps ?_ (out_next h0)
  extract_lets +onlyGivenNames x1
  have h2 : Keeps w s0 x1 := (keeps_setVar (keeps_commitClose h0))
  clear_value x1
  extract_lets +onlyGivenNames x3
  have h4 : Keeps w s0 x3 := (keeps_wbDone (keeps_wbDone (keeps_wbDone h2)))
  clear_value x3
  extract_lets +onlyGivenNames x5
  have h6 : Keeps w s0 x5 := (keeps_wbFirst (keeps_wbFirst (keeps_wbSecond (keeps_wbSecond h4))))
  clear_value x5
  extract_lets +onlyGivenNames x7
  have h8 : Keeps w s0 x7 := (keeps_eventCheck h6)
  clear_value x7
  exact (out_next (ite_keeps (keeps_writeClose hm h8) h8))

theorem keeps_readPair {w : Touch} {s0 s : State} {a0} (h0 : Keeps w s0 s) : PairP (PairP (Keeps w s0)) (readPair a0 s) := by
  unfold readPair
  split
  · have h1 := pair_of_eq (Q := Keeps w s0) (by assumption) (keeps_readSlot h0)
    split
    · have h2 := pair_of_eq (Q := Keeps w s0) (by assumption) (keeps_readSlot h1)
      exact (pair_mk (pair_mk h2))

theorem keeps_chargeLoad {w : Touch} {s0 s : State} (h0 : Keeps w s0 s) : Keeps w s0 (chargeLoad s) := by
  unfold chargeLoad
  extract_lets +onlyGivenNames x1
  clear_value x1
  split
  · have h2 := pair_of_eq3 (Q := Keeps w s0) (by assumption) (keeps_readPair h0)
    split
    · exact (keeps_setChargeImage (keeps_setVar (keeps_setO h2)))
    · extract_lets +onlyGivenNames x3
      clear_value x3
      extract_lets +onlyGivenNames x4
      have h5 : Keeps w s0 x4 := (keeps_setChargeImage (keeps_setVar (keeps_setO h2)))
      clear_value x4
      exact (ite_keeps h5 (keeps_setO (keeps_setO (keeps_setO h5))))

theorem keeps_budgetLoad {w : Touch} {s0 s : State} (h0 : Keeps w s0 s) : Keeps w s0 (budgetLoad s) := by
  unfold budgetLoad
  split
  · have h1 := pair_of_eq3 (Q := Keeps w s0) (by assumption) (keeps_readPair h0)
    split
    · extract_lets +onlyGivenNames x2
      have h3 : Keeps w s0 x2 := (keeps_setVar (keeps_setVar h1))
      clear_value x2
      extract_lets +onlyGivenNames x4
      have h5 : Keeps w s0 x4 := (keeps_setO (keeps_setO h3))
      clear_value x4
      extract_lets +onlyGivenNames x6
      have h7 : Keeps w s0 x6 := (keeps_setO h5)
      clear_value x6
      exact (forRange_keeps h7 fun _ _ k8 => (keeps_setO k8))
    · exact (keeps_budgetRestart (keeps_setVar (keeps_setVar h1)))

theorem keeps_closeApply {w : Touch} {s0 s : State} (h0 : Keeps w s0 s) : Keeps w s0 (closeApply s) := by
  unfold closeApply
  split
  · have h1 := pair_of_eq (Q := Keeps w s0) (by assumption) (keeps_readSlot h0)
    extract_lets +onlyGivenNames x2
    have h3 : Keeps w s0 x2 := (keeps_setO (keeps_setBit h1))
    clear_value x2
    split
    · exact (keeps_setBit h3)
    · extract_lets +onlyGivenNames x4
      clear_value x4
      extract_lets +onlyGivenNames x5
      have h6 : Keeps w s0 x5 := (keeps_setVar h3)
      clear_value x5
      refine ite_keeps (keeps_setBit h6) ?_
      extract_lets +onlyGivenNames x7
      have h8 : Keeps w s0 x7 := (keeps_setO (keeps_setChargeImage h6))
      clear_value x7
      extract_lets +onlyGivenNames x9
      clear_value x9
      extract_lets +onlyGivenNames x10
      have h11 : Keeps w s0 x10 := by
        unfold x10
        refine forRange_keeps h8 fun _ _ h14 => ?_
        extract_lets +onlyGivenNames x15
        clear_value x15
        extract_lets +onlyGivenNames x16
        clear_value x16
        extract_lets +onlyGivenNames x17
        clear_value x17
        refine ite_keeps h14 ?_
        extract_lets +onlyGivenNames x18
        have h19 : Keeps w s0 x18 := (keeps_addO (keeps_addO (keeps_addO h14)))
        clear_value x18
        extract_lets +onlyGivenNames x20
        clear_value x20
        exact (keeps_setVar (keeps_addVar (keeps_addVar h19)))
      clear_value x10
      extract_lets +onlyGivenNames x21
      have h22 : Keeps w s0 x21 := (keeps_setO h11)
      clear_value x21
      extract_lets +onlyGivenNames x23
      clear_value x23
      extract_lets +onlyGivenNames x24
      clear_value x24
      extract_lets +onlyGivenNames x25
      have h26 : Keeps w s0 x25 := (keeps_setBit h22)
      clear_value x25
      extract_lets +onlyGivenNames x27
      have h28 : Keeps w s0 x27 := by
        unfold x27
        split
        · exact (keeps_violation h26)
        · exact h26
      clear_value x27
      extract_lets +onlyGivenNames x29
      have h30 : Keeps w s0 x29 := (keeps_nvmWrite h28)
      clear_value x29
      extract_lets +onlyGivenNames x31
      have h32 : Keeps w s0 x31 := (keeps_setO (keeps_setBit (keeps_setBit h30)))
      clear_value x31
      exact (keeps_record h32)

theorem keeps_bootEventCheck {w : Touch} {s0 s : State} (h0 : Keeps w s0 s) : Keeps w s0 (bootEventCheck s) := by
  unfold bootEventCheck
  refine ite_keeps h0 ?_
  extract_lets +onlyGivenNames x1
  clear_value x1
  extract_lets +onlyGivenNames x2
  have h3 : Keeps w s0 x2 := (keeps_setBit h0)
  clear_value x2
  exact (ite_keeps h3 (keeps_violation h3))

end Sys2Proof.Machine
end

