-- ==== Sys2Proof/Laws/KeepsEstimator.lean ====
section
/-!
SUPPORT. What the definitions of Machine/Estimator.lean keep: each passes on the queue, the canonical form, the programmed fuses, and
every part that its hypotheses do not let it write.
-/

namespace Sys2Proof.Machine
open State

theorem keeps_changeSource {w : Touch} {s0 s : State} {a0 a1 a2 a3} (h0 : Keeps w s0 s) : Keeps w s0 (changeSource a0 a1 a2
      a3 s) := by
  unfold changeSource
  extract_lets +onlyGivenNames x1
  clear_value x1
  extract_lets +onlyGivenNames x2
  clear_value x2
  extract_lets +onlyGivenNames x3
  have h4 : Keeps w s0 x3 := (keeps_setVar (keeps_setO (keeps_setO h0)))
  clear_value x3
  extract_lets +onlyGivenNames x5
  have h6 : Keeps w s0 x5 := (ite_keeps h4 (keeps_bump h4))
  clear_value x5
  extract_lets +onlyGivenNames x7
  have h8 : Keeps w s0 x7 := (keeps_post h6)
  clear_value x7
  exact (ite_keeps (keeps_raiseActionLater h8) (keeps_record h8))

theorem keeps_exEnd {w : Touch} {s0 s : State} (h0 : Keeps w s0 s) : Keeps w s0 (exEnd s) := by
  unfold exEnd
  exact (keeps_setFlag (keeps_setBit (keeps_setBit (keeps_stopT (keeps_setO h0)))))

theorem keeps_exStep {w : Touch} {s0 s : State} {a0 a1 a2 a3} (h0 : Keeps w s0 s) : Keeps w s0 (exStep a0 a1 a2 a3 s) := by
  unfold exStep
  extract_lets +onlyGivenNames x1
  have h2 : Keeps w s0 x1 := (keeps_setVar (keeps_setVar (keeps_setVar h0)))
  clear_value x1
  exact (keeps_setVar h2)

theorem keeps_exReturn {w : Touch} {s0 s : State} {a0 a1} (h0 : Keeps w s0 s) : Keeps w s0 (exReturn a0 a1 s) := by
  unfold exReturn
  exact (ite_keeps (keeps_changeSource h0) h0)

theorem keeps_exAbortNow {w : Touch} {s0 s : State} {a0 a1 a2} (h0 : Keeps w s0 s) : Keeps w s0 (exAbortNow a0 a1 a2 s) := by
  unfold exAbortNow
  exact (keeps_raiseAction (keeps_exReturn (keeps_exEnd h0)))

theorem keeps_exBootAbort {w : Touch} {s0 s : State} (h0 : Keeps w s0 s) : Keeps w s0 (exBootAbort s) := by
  unfold exBootAbort
  refine ite_keeps ?_ h0
  split
  · have h1 := pair_of_eq (Q := Keeps w s0) (by assumption) (keeps_drawFree h0)
    split
    · have h2 := pair_of_eq (Q := Keeps w s0) (by assumption) (keeps_drawFree h1)
      exact (keeps_exAbortNow h2)

theorem keeps_exBegin {w : Touch} {s0 s : State} {a0 a1} (h0 : Keeps w s0 s) : Keeps w s0 (exBegin a0 a1 s) := by
  unfold exBegin
  extract_lets +onlyGivenNames x1
  have h2 : Keeps w s0 x1 := (keeps_setBit (keeps_setO h0))
  clear_value x1
  extract_lets +onlyGivenNames x3
  have h4 : Keeps w s0 x3 := (keeps_setFlag (keeps_setVar (keeps_startTR h2)))
  clear_value x3
  exact (keeps_changeSource (keeps_post (keeps_record h4)))

theorem keeps_exTick {w : Touch} {s0 s : State} (h0 : Keeps w s0 s) : Keeps w s0 (exTick s) := by
  unfold exTick
  extract_lets +onlyGivenNames x1
  clear_value x1
  extract_lets +onlyGivenNames x2
  clear_value x2
  extract_lets +onlyGivenNames x3
  clear_value x3
  extract_lets +onlyGivenNames x4
  have h5 : Keeps w s0 x4 := (keeps_setVar h0)
  clear_value x4
  extract_lets +onlyGivenNames x6
  have h7 : Keeps w s0 x6 := (ite_keeps (keeps_stopT (keeps_setO h5)) (ite_keeps (keeps_exBegin h5) (ite_keeps
      (keeps_exReturn (keeps_startTR (keeps_setO h5))) (ite_keeps (keeps_post (keeps_record (keeps_exEnd h5))) (ite_keeps
      (keeps_raiseAction (keeps_startTR (keeps_setO h5))) (ite_keeps (keeps_exAbortNow h5) (ite_keeps (keeps_raiseAction
      (keeps_exEnd h5)) h5)))))))
  clear_value x6
  exact (keeps_setBit h7)

theorem keeps_cycleCount {w : Touch} {s0 s : State} {a0} (h0 : Keeps w s0 s) : Keeps w s0 (cycleCount a0 s) := by
  unfold cycleCount
  extract_lets +onlyGivenNames x1
  clear_value x1
  refine ite_keeps ?_ h0
  extract_lets +onlyGivenNames x2
  clear_value x2
  exact (keeps_setVar (keeps_setO h0))

theorem keeps_coulomb {w : Touch} {s0 s : State} (h0 : Keeps w s0 s) : Keeps w s0 (coulomb s) := by
  unfold coulomb
  extract_lets +onlyGivenNames x1
  clear_value x1
  extract_lets +onlyGivenNames x2
  have h3 : Keeps w s0 x2 := (keeps_setO h0)
  clear_value x2
  extract_lets +onlyGivenNames x4
  clear_value x4
  extract_lets +onlyGivenNames x5
  clear_value x5
  extract_lets +onlyGivenNames x6
  clear_value x6
  extract_lets +onlyGivenNames x7
  have h8 : Keeps w s0 x7 := (keeps_setVar h3)
  clear_value x7
  extract_lets +onlyGivenNames x9
  clear_value x9
  extract_lets +onlyGivenNames x10
  have h11 : Keeps w s0 x10 := (ite_keeps h8 (keeps_chargeAdd h8))
  clear_value x10
  extract_lets +onlyGivenNames x12
  have h13 : Keeps w s0 x12 := (keeps_setO h11)
  clear_value x12
  exact (keeps_cycleCount h13)

theorem keeps_estTick {w : Touch} {s0 s : State} (h0 : Keeps w s0 s) : Keeps w s0 (estTick s) := by
  unfold estTick
  extract_lets +onlyGivenNames x1
  have h2 : Keeps w s0 x1 := (keeps_coulomb (keeps_exTick h0))
  clear_value x1
  extract_lets +onlyGivenNames x3
  clear_value x3
  extract_lets +onlyGivenNames x4
  clear_value x4
  extract_lets +onlyGivenNames x5
  have h6 : Keeps w s0 x5 := (keeps_countCond h2)
  clear_value x5
  extract_lets +onlyGivenNames x7
  have h8 : Keeps w s0 x7 := (ite_keeps h6 (keeps_setBit (keeps_condOff h6)))
  clear_value x7
  extract_lets +onlyGivenNames x9
  have h10 : Keeps w s0 x9 := (keeps_addVar (keeps_addVar (keeps_addVar h8)))
  clear_value x9
  extract_lets +onlyGivenNames x11
  have h12 : Keeps w s0 x11 := (keeps_addVar h10)
  clear_value x11
  extract_lets +onlyGivenNames x13
  have h14 : Keeps w s0 x13 := (ite_keeps (keeps_setVar h12) h12)
  clear_value x13
  exact (keeps_addVar (keeps_addVar h14))

theorem keeps_restEnd {w : Touch} {s0 s : State} (h0 : Keeps w s0 s) : Keeps w s0 (restEnd s) := by
  unfold restEnd
  extract_lets +onlyGivenNames x1
  have h2 : Keeps w s0 x1 := (keeps_setBit (keeps_setVar (keeps_setO h0)))
  clear_value x1
  exact (keeps_setVar (keeps_setVar (keeps_setVar h2)))

theorem keeps_execCounterFault {w : Touch} {s0 s : State} (h0 : Keeps w s0 s) : OutP (Keeps w s0) (execCounterFault s) := by
  unfold execCounterFault
  exact (ite_keeps (out_next (keeps_restEnd (keeps_setBit (keeps_raise h0)))) (out_next h0))

theorem keeps_socUpdate {w : Touch} {s0 s : State} {a0} (h0 : Keeps w s0 s) : Keeps w s0 (socUpdate a0 s) := by
  unfold socUpdate
  extract_lets +onlyGivenNames x1
  clear_value x1
  extract_lets +onlyGivenNames x2
  clear_value x2
  extract_lets +onlyGivenNames x3
  clear_value x3
  extract_lets +onlyGivenNames x4
  have h5 : Keeps w s0 x4 := (keeps_setO (keeps_setO h0))
  clear_value x4
  split
  · extract_lets +onlyGivenNames x6
    have h7 : Keeps w s0 x6 := (keeps_setO h5)
    clear_value x6
    extract_lets +onlyGivenNames x8
    have h9 : Keeps w s0 x8 := (keeps_setO h7)
    clear_value x8
    extract_lets +onlyGivenNames x10
    have h11 : Keeps w s0 x10 := (keeps_setO h9)
    clear_value x10
    extract_lets +onlyGivenNames x12
    clear_value x12
    extract_lets +onlyGivenNames x13
    have h14 : Keeps w s0 x13 := (keeps_countCond h11)
    clear_value x13
    exact (ite_keeps h14 (keeps_condOff h14))

theorem keeps_execReadinessLow {w : Touch} {s0 s : State} (h0 : Keeps w s0 s) : OutP (Keeps w s0) (execReadinessLow s) := by
  unfold execReadinessLow
  exact (ite_keeps (out_next (keeps_raise h0)) (out_next h0))

theorem keeps_socSync {w : Touch} {s0 s : State} {a0} (h0 : Keeps w s0 s) : Keeps w s0 (socSync a0 s) := by
  unfold socSync
  extract_lets +onlyGivenNames x1
  have h2 : Keeps w s0 x1 := (keeps_setO (keeps_setO h0))
  clear_value x1
  exact (keeps_setBit h2)

theorem keeps_impedance {w : Touch} {s0 s : State} {a0 a1} (h0 : Keeps w s0 s) : Keeps w s0 (impedance a0 a1 s) := by
  unfold impedance
  extract_lets +onlyGivenNames x1
  clear_value x1
  extract_lets +onlyGivenNames x2
  clear_value x2
  extract_lets +onlyGivenNames x3
  clear_value x3
  extract_lets +onlyGivenNames x4
  clear_value x4
  extract_lets +onlyGivenNames x5
  have h6 : Keeps w s0 x5 := (keeps_setFlag (keeps_setVar (keeps_setVar h0)))
  clear_value x5
  refine ite_keeps h6 ?_
  extract_lets +onlyGivenNames x7
  clear_value x7
  extract_lets +onlyGivenNames x8
  clear_value x8
  extract_lets +onlyGivenNames x9
  clear_value x9
  extract_lets +onlyGivenNames x10
  clear_value x10
  refine ite_keeps h6 ?_
  extract_lets +onlyGivenNames x11
  clear_value x11
  extract_lets +onlyGivenNames x12
  have h13 : Keeps w s0 x12 := (keeps_setO h6)
  clear_value x12
  exact (ite_keeps (keeps_raise h13) (keeps_condOff h13))

theorem keeps_restRound {w : Touch} {s0 s : State} (h0 : Keeps w s0 s) : Keeps w s0 (restRound s) := by
  unfold restRound
  extract_lets +onlyGivenNames x1
  clear_value x1
  extract_lets +onlyGivenNames x2
  clear_value x2
  extract_lets +onlyGivenNames x3
  have h4 : Keeps w s0 x3 := (keeps_setBit h0)
  clear_value x3
  refine ite_keeps ?_ (keeps_restEnd h4)
  extract_lets +onlyGivenNames x5
  clear_value x5
  extract_lets +onlyGivenNames x6
  have h7 : Keeps w s0 x6 := (keeps_setO h4)
  clear_value x6
  refine ite_keeps (keeps_setVar (keeps_setVar (keeps_setVar h7))) ?_
  refine ite_keeps ?_ h7
  extract_lets +onlyGivenNames x8
  clear_value x8
  extract_lets +onlyGivenNames x9
  clear_value x9
  extract_lets +onlyGivenNames x10
  clear_value x10
  extract_lets +onlyGivenNames x11
  have h12 : Keeps w s0 x11 := (keeps_setFlag h7)
  clear_value x11
  extract_lets +onlyGivenNames x13
  have h14 : Keeps w s0 x13 := (keeps_setVar (keeps_setVar h12))
  clear_value x13
  extract_lets +onlyGivenNames x15
  have h16 : Keeps w s0 x15 := (keeps_setVar (keeps_setVar h14))
  clear_value x15
  exact (keeps_setVar (keeps_setVar h16))

theorem keeps_estRound {w : Touch} {s0 s : State} (h0 : Keeps w s0 s) : Keeps w s0 (estRound s) := by
  unfold estRound
  extract_lets +onlyGivenNames x1
  clear_value x1
  extract_lets +onlyGivenNames x2
  clear_value x2
  extract_lets +onlyGivenNames x3
  clear_value x3
  extract_lets +onlyGivenNames x4
  have h5 : Keeps w s0 x4 := (ite_keeps h0 (keeps_cycleCount (keeps_chargeAdd h0)))
  clear_value x4
  extract_lets +onlyGivenNames x6
  have h7 : Keeps w s0 x6 := (keeps_setO h5)
  clear_value x6
  extract_lets +onlyGivenNames x8
  clear_value x8
  extract_lets +onlyGivenNames x9
  have h10 : Keeps w s0 x9 := (ite_keeps (keeps_bumpSat (keeps_setVar h7)) (keeps_setVar h7))
  clear_value x9
  extract_lets +onlyGivenNames x11
  have h12 : Keeps w s0 x11 := (keeps_restRound (keeps_impedance (keeps_socUpdate h10)))
  clear_value x11
  extract_lets +onlyGivenNames x13
  have h14 : Keeps w s0 x13 := (keeps_setVar (keeps_setVar (keeps_setVar h12)))
  clear_value x13
  extract_lets +onlyGivenNames x15
  have h16 : Keeps w s0 x15 := (keeps_setVar (keeps_setVar h14))
  clear_value x15
  refine ite_keeps ?_ h16
  extract_lets +onlyGivenNames x17
  have h18 : Keeps w s0 x17 := (keeps_setVar h16)
  clear_value x17
  exact (ite_keeps h18 (keeps_wbAsk h18))

theorem keeps_capacityLearn {w : Touch} {s0 s : State} {a0 a1} (h0 : Keeps w s0 s) : Keeps w s0 (capacityLearn a0 a1 s) := by
  unfold capacityLearn
  extract_lets +onlyGivenNames x1
  clear_value x1
  extract_lets +onlyGivenNames x2
  clear_value x2
  refine ite_keeps h0 ?_
  extract_lets +onlyGivenNames x3
  clear_value x3
  extract_lets +onlyGivenNames x4
  clear_value x4
  refine ite_keeps ?_ (keeps_raiseAction h0)
  extract_lets +onlyGivenNames x5
  clear_value x5
  extract_lets +onlyGivenNames x6
  clear_value x6
  extract_lets +onlyGivenNames x7
  have h8 : Keeps w s0 x7 := (keeps_setBit (keeps_setBit (keeps_setO h0)))
  clear_value x7
  extract_lets +onlyGivenNames x9
  have h10 : Keeps w s0 x9 := (keeps_setO (keeps_setVar (keeps_setO h8)))
  clear_value x9
  extract_lets +onlyGivenNames x11
  have h12 : Keeps w s0 x11 := (keeps_wbAsk (keeps_setVar h10))
  clear_value x11
  extract_lets +onlyGivenNames x13
  have h14 : Keeps w s0 x13 := (keeps_raiseAction h12)
  clear_value x13
  exact (ite_keeps (keeps_raise h14) (keeps_condOff h14))

theorem keeps_execRestPoint {w : Touch} {s0 s : State} (h0 : Keeps w s0 s) : OutP (Keeps w s0) (execRestPoint s) := by
  unfold execRestPoint
  refine ite_keeps ?_ (out_next h0)
  extract_lets +onlyGivenNames x1
  have h2 : Keeps w s0 x1 := (keeps_setBit (keeps_setVar h0))
  clear_value x1
  extract_lets +onlyGivenNames x3
  clear_value x3
  extract_lets +onlyGivenNames x4
  have h5 : Keeps w s0 x4 := (keeps_setFlag h2)
  clear_value x4
  split
  · exact (out_next h5)
  · extract_lets +onlyGivenNames x6
    clear_value x6
    extract_lets +onlyGivenNames x7
    clear_value x7
    extract_lets +onlyGivenNames x8
    have h9 : Keeps w s0 x8 := (ite_keeps h5 (keeps_record (keeps_setFlag h5)))
    clear_value x8
    extract_lets +onlyGivenNames x10
    have h11 : Keeps w s0 x10 := (keeps_post (keeps_setO h9))
    clear_value x10
    extract_lets +onlyGivenNames x12
    have h13 : Keeps w s0 x12 := (keeps_socSync h11)
    clear_value x12
    extract_lets +onlyGivenNames x14
    have h15 : Keeps w s0 x14 := (ite_keeps (keeps_capacityLearn h13) h13)
    clear_value x14
    extract_lets +onlyGivenNames x16
    have h17 : Keeps w s0 x16 := (keeps_setVar (keeps_setVar (keeps_setVar h15)))
    clear_value x16
    extract_lets +onlyGivenNames x18
    have h19 : Keeps w s0 x18 := (keeps_setVar (keeps_setVar h17))
    clear_value x18
    extract_lets +onlyGivenNames x20
    have h21 : Keeps w s0 x20 := (keeps_setVar h19)
    clear_value x20
    exact (ite_keeps (out_next (keeps_exStep h21)) (out_next h21))

theorem keeps_packGone {w : Touch} {s0 s : State} (h0 : Keeps w s0 s) : Keeps w s0 (packGone s) := by
  unfold packGone
  extract_lets +onlyGivenNames x1
  have h2 : Keeps w s0 x1 := (keeps_setVar (keeps_setBit (keeps_setBit h0)))
  clear_value x1
  exact (keeps_restEnd (keeps_setBit h2))

theorem keeps_packRefit {w : Touch} {s0 s : State} (h0 : Keeps w s0 s) : Keeps w s0 (packRefit s) := by
  unfold packRefit
  exact (keeps_raiseAction (keeps_setVar (keeps_setO h0)))

theorem keeps_execExerciseDue {w : Touch} {s0 s : State} (h0 : Keeps w s0 s) : OutP (Keeps w s0) (execExerciseDue s) := by
  unfold execExerciseDue
  exact (ite_keeps (out_next (keeps_exStep h0)) (out_next h0))

theorem keeps_execExerciseRefusedExpiry {w : Touch} {s0 s : State} (h0 : Keeps w s0 s) : OutP (Keeps w s0)
      (execExerciseRefusedExpiry s) := by
  unfold execExerciseRefusedExpiry
  exact (ite_keeps (out_next (keeps_exStep h0)) (out_next h0))

theorem keeps_execExerciseStart {w : Touch} {s0 s : State} {a0 a1} (h0 : Keeps w s0 s) : OutP (Keeps w s0) (execExerciseStart
      a0 a1 s) := by
  unfold execExerciseStart
  exact (ite_keeps (out_next (keeps_exStep h0)) (out_next h0))

theorem keeps_execExerciseTargetReached {w : Touch} {s0 s : State} {a0 a1} (h0 : Keeps w s0 s) : OutP (Keeps w s0)
      (execExerciseTargetReached a0 a1 s) := by
  unfold execExerciseTargetReached
  exact (ite_keeps (out_next (keeps_exStep h0)) (out_next h0))

theorem keeps_execExerciseTimeout {w : Touch} {s0 s : State} {a0 a1} (h0 : Keeps w s0 s) : OutP (Keeps w s0)
      (execExerciseTimeout a0 a1 s) := by
  unfold execExerciseTimeout
  exact (ite_keeps (out_next (keeps_exStep h0)) (out_next h0))

theorem keeps_execExerciseRestTimeout {w : Touch} {s0 s : State} (h0 : Keeps w s0 s) : OutP (Keeps w s0)
      (execExerciseRestTimeout s) := by
  unfold execExerciseRestTimeout
  exact (ite_keeps (out_next (keeps_exStep h0)) (out_next h0))

theorem keeps_execExerciseAbort {w : Touch} {s0 s : State} {a0 a1} (h0 : Keeps w s0 s) : OutP (Keeps w s0) (execExerciseAbort
      a0 a1 s) := by
  unfold execExerciseAbort
  split
  · exact (out_next (keeps_exStep h0))
  · exact (out_next h0)

theorem keeps_estCmd {w : Touch} {s0 s : State} {a0} (h0 : Keeps w s0 s) : PairP (Keeps w s0) (estCmd a0 s) := by
  unfold estCmd
  exact (ite_keeps (ite_keeps (pair_mk h0) (ite_keeps (pair_mk (keeps_exStep h0)) (pair_mk h0))) (ite_keeps (pair_mk
      (ite_keeps (keeps_setFlag h0) h0)) (pair_mk h0)))

theorem keeps_execEstWriteback {w : Touch} {s0 s : State} (h0 : Keeps w s0 s) : OutP (Keeps w s0) (execEstWriteback s) := by
  unfold execEstWriteback
  exact (out_next (keeps_wbFirst h0))

theorem keeps_execEstWritebackSecond {w : Touch} {s0 s : State} (h0 : Keeps w s0 s) : OutP (Keeps w s0)
      (execEstWritebackSecond s) := by
  unfold execEstWritebackSecond
  exact (out_next (keeps_wbSecond h0))

theorem keeps_capUnlearned {w : Touch} {s0 s : State} (h0 : Keeps w s0 s) : Keeps w s0 (capUnlearned s) := by
  unfold capUnlearned
  exact (ite_keeps h0 (keeps_setO h0))

theorem keeps_estLoad {w : Touch} {s0 s : State} (h0 : Keeps w s0 s) : Keeps w s0 (estLoad s) := by
  unfold estLoad
  split
  · have h1 := pair_of_eq3 (Q := Keeps w s0) (by assumption) (keeps_readPair h0)
    extract_lets +onlyGivenNames x2
    have h3 : Keeps w s0 x2 := (keeps_setBit (keeps_setBit h1))
    clear_value x2
    split
    · extract_lets +onlyGivenNames x4
      have h5 : Keeps w s0 x4 := (keeps_setO (keeps_setVar (keeps_setO h3)))
      clear_value x4
      extract_lets +onlyGivenNames x6
      have h7 : Keeps w s0 x6 := (keeps_setO (keeps_setO h5))
      clear_value x6
      extract_lets +onlyGivenNames x8
      have h9 : Keeps w s0 x8 := (keeps_setBit (keeps_setBit h7))
      clear_value x8
      extract_lets +onlyGivenNames x10
      have h11 : Keeps w s0 x10 := (keeps_setVar h9)
      clear_value x10
      extract_lets +onlyGivenNames x12
      have h13 : Keeps w s0 x12 := (forRange_keeps h11 fun _ _ k14 => (keeps_setO k14))
      clear_value x12
      extract_lets +onlyGivenNames x15
      have h16 : Keeps w s0 x15 := (keeps_capUnlearned h13)
      clear_value x15
      exact (ite_keeps h16 (keeps_raiseAction h16))
    · extract_lets +onlyGivenNames x17
      have h18 : Keeps w s0 x17 := (keeps_setVar (keeps_setO h3))
      clear_value x17
      extract_lets +onlyGivenNames x19
      have h20 : Keeps w s0 x19 := (keeps_setO (keeps_setO h18))
      clear_value x19
      extract_lets +onlyGivenNames x21
      have h22 : Keeps w s0 x21 := (keeps_setBit (keeps_setBit h20))
      clear_value x21
      exact (keeps_raiseAction h22)

theorem keeps_unpoweredEstimate {w : Touch} {s0 s : State} {a0} (h0 : Keeps w s0 s) : Keeps w s0 (unpoweredEstimate a0 s) :=
      by
  unfold unpoweredEstimate
  refine ite_keeps ?_ (keeps_setVar (keeps_setBit (keeps_setBit h0)))
  extract_lets +onlyGivenNames x1
  clear_value x1
  extract_lets +onlyGivenNames x2
  clear_value x2
  exact (keeps_setBit (keeps_cycleCount (keeps_chargeAdd h0)))

end Sys2Proof.Machine
end

