-- ==== Sys2Proof/Laws/KeepsRtc.lean ====
section
/-!
SUPPORT. What the definitions of Machine/Rtc.lean keep: each passes on the queue, the canonical form, the programmed fuses, and
every part that its hypotheses do not let it write.
-/

namespace Sys2Proof.Machine
open State

theorem keeps_rtcValidity {w : Touch} {s0 s : State} (h0 : Keeps w s0 s) : Keeps w s0 (rtcValidity s) := by
  unfold rtcValidity
  exact (keeps_setBit h0)

theorem keeps_rtcAdvance {w : Touch} {s0 s : State} {a0} (h0 : Keeps w s0 s) : Keeps w s0 (rtcAdvance a0 s) := by
  unfold rtcAdvance
  extract_lets +onlyGivenNames x1
  clear_value x1
  extract_lets +onlyGivenNames x2
  clear_value x2
  exact (ite_keeps (keeps_setVar (keeps_setVar h0)) (keeps_setVar (keeps_setVar h0)))

theorem keeps_rtcEdge {w : Touch} {s0 s : State} (h0 : Keeps w s0 s) : Keeps w s0 (rtcEdge s) := by
  unfold rtcEdge
  extract_lets +onlyGivenNames x1
  clear_value x1
  refine ite_keeps (keeps_setVar (keeps_setVar (keeps_setVar h0))) ?_
  refine ite_keeps (keeps_setVar h0) ?_
  extract_lets +onlyGivenNames x2
  have h3 : Keeps w s0 x2 := (ite_keeps h0 (keeps_setVar h0))
  clear_value x2
  refine ite_keeps h3 ?_
  extract_lets +onlyGivenNames x4
  clear_value x4
  extract_lets +onlyGivenNames x5
  clear_value x5
  extract_lets +onlyGivenNames x6
  clear_value x6
  extract_lets +onlyGivenNames x7
  clear_value x7
  extract_lets +onlyGivenNames x8
  clear_value x8
  extract_lets +onlyGivenNames x9
  clear_value x9
  extract_lets +onlyGivenNames x10
  clear_value x10
  extract_lets +onlyGivenNames x11
  have h12 : Keeps w s0 x11 := (keeps_setVar h3)
  clear_value x11
  extract_lets +onlyGivenNames x13
  have h14 : Keeps w s0 x13 := (ite_keeps h12 (ite_keeps (keeps_addVar (keeps_setVar (keeps_setO h12))) (ite_keeps h12
      (keeps_setVar h12))))
  clear_value x13
  exact (keeps_rtcAdvance h14)

theorem keeps_rtcSnapshot {w : Touch} {s0 s : State} (h0 : Keeps w s0 s) : Keeps w s0 (rtcSnapshot s) := by
  unfold rtcSnapshot
  exact (keeps_setO (keeps_setO h0))

theorem keeps_rtcTick {w : Touch} {s0 s : State} (h0 : Keeps w s0 s) : Keeps w s0 (rtcTick s) := by
  unfold rtcTick
  extract_lets +onlyGivenNames x1
  clear_value x1
  extract_lets +onlyGivenNames x2
  have h3 : Keeps w s0 x2 := (forRange_keeps h0 fun _ _ k4 => (keeps_rtcEdge k4))
  clear_value x2
  exact (keeps_rtcSnapshot (ite_keeps (keeps_addVar h3) (keeps_setFlag (keeps_setVar h3))))

theorem keeps_rtcAccepted {w : Touch} {s0 s : State} {a0} (h0 : Keeps w s0 s) : Keeps w s0 (rtcAccepted a0 s) := by
  unfold rtcAccepted
  extract_lets +onlyGivenNames x1
  clear_value x1
  extract_lets +onlyGivenNames x2
  clear_value x2
  extract_lets +onlyGivenNames x3
  have h4 : Keeps w s0 x3 := (keeps_setBit (keeps_setBit h0))
  clear_value x3
  extract_lets +onlyGivenNames x5
  have h6 : Keeps w s0 x5 := (keeps_bump (keeps_rtcValidity h4))
  clear_value x5
  exact (keeps_record (keeps_post h6))

theorem keeps_rtcShiftRecord {w : Touch} {s0 s : State} {a0} (h0 : Keeps w s0 s) : Keeps w s0 (rtcShiftRecord a0 s) := by
  unfold rtcShiftRecord
  exact (keeps_record h0)

theorem keeps_rtcCancelShift {w : Touch} {s0 s : State} (h0 : Keeps w s0 s) : Keeps w s0 (rtcCancelShift s) := by
  unfold rtcCancelShift
  exact (ite_keeps (keeps_setBit (keeps_setO (keeps_rtcShiftRecord h0))) h0)

theorem keeps_rtcStartShift {w : Touch} {s0 s : State} {a0} (h0 : Keeps w s0 s) : Keeps w s0 (rtcStartShift a0 s) := by
  unfold rtcStartShift
  exact (keeps_setBit (keeps_setVar (keeps_setVar (keeps_setVar (keeps_setO h0)))))

theorem keeps_rtcHaltWrite {w : Touch} {s0 s : State} {a0 a1} (h0 : Keeps w s0 s) : Keeps w s0 (rtcHaltWrite a0 a1 s) := by
  unfold rtcHaltWrite
  exact (keeps_setVar (keeps_setVar (keeps_rtcAccepted (keeps_rtcCancelShift h0))))

theorem keeps_rtcTimeWrite {w : Touch} {s0 s : State} {a0 a1} (h0 : Keeps w s0 s) : PairP (Keeps w s0) (rtcTimeWrite a0 a1 s)
      := by
  unfold rtcTimeWrite
  refine ite_keeps (pair_mk h0) ?_
  refine ite_keeps (ite_keeps (pair_mk h0) (pair_mk (keeps_rtcHaltWrite h0))) ?_
  extract_lets +onlyGivenNames x1
  clear_value x1
  exact (ite_keeps (pair_mk h0) (ite_keeps (pair_mk h0) (pair_mk (keeps_rtcStartShift (keeps_rtcAccepted h0)))))

theorem keeps_rtcSetTime {w : Touch} {s0 s : State} {a0} (h0 : Keeps w s0 s) : PairP (Keeps w s0) (rtcSetTime a0 s) := by
  unfold rtcSetTime
  split
  · have h1 := pair_of_eq (Q := Keeps w s0) (by assumption) (keeps_rtcTimeWrite h0)
    exact (pair_mk (keeps_setO h1))
  · exact (keeps_rtcTimeWrite h0)

theorem keeps_rtcSetCal {w : Touch} {s0 s : State} {a0} (h0 : Keeps w s0 s) : PairP (Keeps w s0) (rtcSetCal a0 s) := by
  unfold rtcSetCal
  split
  · exact (pair_mk h0)
  · split
    · have h1 := pair_of_eq (Q := Keeps w s0) (by assumption) (keeps_rtcTimeWrite h0)
      exact (pair_mk (keeps_setO h1))
    · exact (keeps_rtcTimeWrite h0)

theorem keeps_rtcShiftWrite {w : Touch} {s0 s : State} {a0} (h0 : Keeps w s0 s) : PairP (Keeps w s0) (rtcShiftWrite a0 s) :=
      by
  unfold rtcShiftWrite
  exact (ite_keeps (pair_mk h0) (ite_keeps (pair_mk h0) (ite_keeps (pair_mk h0) (pair_mk (keeps_setO (keeps_rtcStartShift
      h0))))))

theorem keeps_rtcCalWrite {w : Touch} {s0 s : State} {a0} (h0 : Keeps w s0 s) : PairP (Keeps w s0) (rtcCalWrite a0 s) := by
  unfold rtcCalWrite
  exact (ite_keeps (pair_mk h0) (pair_mk (keeps_setO (keeps_record h0))))

theorem keeps_rtcFsoClear {w : Touch} {s0 s : State} {a0 a1} (h0 : Keeps w s0 s) : PairP (Keeps w s0) (rtcFsoClear a0 a1 s)
      := by
  unfold rtcFsoClear
  refine ite_keeps (pair_mk h0) ?_
  refine ite_keeps (pair_mk h0) ?_
  extract_lets +onlyGivenNames x1
  have h2 : Keeps w s0 x1 := (keeps_record h0)
  clear_value x1
  exact (pair_mk (keeps_setBit (keeps_setBit (keeps_setO (keeps_setO h2)))))

theorem keeps_rtcStamp {w : Touch} {s0 s : State} (h0 : Keeps w s0 s) : Keeps w s0 (rtcStamp s) := by
  unfold rtcStamp
  refine ite_keeps h0 ?_
  extract_lets +onlyGivenNames x1
  have h2 : Keeps w s0 x1 := (keeps_setBit (keeps_setO h0))
  clear_value x1
  exact (keeps_setFlag (keeps_setBit h2))

theorem keeps_rtcStampMgt {w : Touch} {s0 s : State} (h0 : Keeps w s0 s) : Keeps w s0 (rtcStampMgt s) := by
  unfold rtcStampMgt
  refine ite_keeps ?_ h0
  extract_lets +onlyGivenNames x1
  have h2 : Keeps w s0 x1 := (keeps_post (keeps_setO (keeps_setFlag h0)))
  clear_value x1
  exact (keeps_record h2)

theorem keeps_rtcLost {w : Touch} {s0 s : State} (h0 : Keeps w s0 s) : Keeps w s0 (rtcLost s) := by
  unfold rtcLost
  extract_lets +onlyGivenNames x1
  have h2 : Keeps w s0 x1 := (keeps_setVar (keeps_setVar (keeps_setVar h0)))
  clear_value x1
  extract_lets +onlyGivenNames x3
  have h4 : Keeps w s0 x3 := (keeps_setO (keeps_setO h2))
  clear_value x3
  extract_lets +onlyGivenNames x5
  have h6 : Keeps w s0 x5 := (keeps_setO (keeps_setO h4))
  clear_value x5
  exact (keeps_setVar (keeps_setO (keeps_setFlag h6)))

theorem keeps_execRtcShiftComplete {w : Touch} {s0 s : State} (h0 : Keeps w s0 s) : OutP (Keeps w s0) (execRtcShiftComplete
      s) := by
  unfold execRtcShiftComplete
  exact (ite_keeps (out_next (keeps_post (keeps_setBit (keeps_rtcShiftRecord h0)))) (out_next h0))

theorem keeps_execRtcRangeEnd {w : Touch} {s0 s : State} (h0 : Keeps w s0 s) : OutP (Keeps w s0) (execRtcRangeEnd s) := by
  unfold execRtcRangeEnd
  exact (ite_keeps (out_next (keeps_post (keeps_rtcValidity (keeps_setVar (keeps_setBit h0))))) (out_next h0))

theorem keeps_execOscillatorFailure {w : Touch} {s0 s : State} (h0 : Keeps w s0 s) : OutP (Keeps w s0) (execOscillatorFailure
      s) := by
  unfold execOscillatorFailure
  refine ite_keeps ?_ (out_next h0)
  extract_lets +onlyGivenNames x1
  have h2 : Keeps w s0 x1 := (keeps_rtcValidity (keeps_setBit (keeps_setFlag h0)))
  clear_value x1
  exact (ite_keeps (out_next (keeps_record (keeps_post (keeps_bump h2)))) (out_next (keeps_addVar h2)))

theorem keeps_rtcFailReports {w : Touch} {s0 s : State} {a0 a1} (h0 : Keeps w s0 s) : Keeps w s0 (rtcFailReports a0 a1 s) :=
      by
  induction a0 generalizing a1 s with
  | zero => exact keeps_setVar h0
  | succ n ih =>
    unfold rtcFailReports
    exact ih (keeps_record (keeps_drawFree (keeps_bump h0)))

end Sys2Proof.Machine
end

