-- ==== Sys2Proof/Laws/KeepsPower.lean ====
section
/-!
SUPPORT. What the definitions of Machine/Power.lean keep: each passes on the queue, the canonical form, the programmed fuses, and
every part that its hypotheses do not let it write.
-/

namespace Sys2Proof.Machine
open State

theorem keeps_packRaise {w : Touch} {s0 s : State} {a0 a1 a2} (h0 : Keeps w s0 s) : Keeps w s0 (packRaise a0 a1 a2 s) := by
  unfold packRaise
  exact (ite_keeps (keeps_raiseAction h0) h0)

theorem keeps_handOver {w : Touch} {s0 s : State} {a0 a1 a2 a3} (h0 : Keeps w s0 s) : Keeps w s0 (handOver a0 a1 a2 a3 s) :=
      by
  unfold handOver
  extract_lets +onlyGivenNames x1
  have h2 : Keeps w s0 x1 := (forRange_keeps h0 fun _ _ k3 => (keeps_setVar k3))
  clear_value x1
  exact (keeps_changeSource (keeps_setVar h2))

theorem keeps_noSource {w : Touch} {s0 s : State} {a0} (h0 : Keeps w s0 s) : Keeps w s0 (noSource a0 s) := by
  unfold noSource
  extract_lets +onlyGivenNames x1
  clear_value x1
  exact (keeps_record (keeps_post (keeps_setO (keeps_setVar h0))))

theorem keeps_takePonr {w : Touch} {s0 s : State} {a0} (h0 : Keeps w s0 s) : Keeps w s0 (takePonr a0 s) := by
  unfold takePonr
  refine ite_keeps h0 ?_
  extract_lets +onlyGivenNames x1
  have h2 : Keeps w s0 x1 := (keeps_stopT (keeps_setO (keeps_setBit h0)))
  clear_value x1
  extract_lets +onlyGivenNames x3
  have h4 : Keeps w s0 x3 := (keeps_post (keeps_setVar h2))
  clear_value x3
  extract_lets +onlyGivenNames x5
  clear_value x5
  extract_lets +onlyGivenNames x6
  have h7 : Keeps w s0 x6 := (ite_keeps (keeps_raiseAction h4) (keeps_record h4))
  clear_value x6
  exact (forEach_keeps h7 fun _ _ k8 => (ite_keeps (keeps_setSeq (keeps_commandOff (keeps_markOff k8))) k8))

theorem keeps_vbusGone {w : Touch} {s0 s : State} (h0 : Keeps w s0 s) : Keeps w s0 (vbusGone s) := by
  unfold vbusGone
  exact (ite_keeps h0 (ite_keeps (keeps_record h0) (ite_keeps (keeps_setVar h0) (keeps_lateEvents (fun _ k1 =>
      (keeps_takePonr k1)) h0))))

theorem keeps_execSourceHandover {w : Touch} {s0 s : State} {a0 a1} (h0 : Keeps w s0 s) : OutP (Keeps w s0)
      (execSourceHandover a0 a1 s) := by
  unfold execSourceHandover
  extract_lets +onlyGivenNames x1
  clear_value x1
  refine ite_keeps ?_ (out_next h0)
  extract_lets +onlyGivenNames x2
  have h3 : Keeps w s0 x2 := by
    unfold x2
    split
    · extract_lets +onlyGivenNames x4
      have h5 : Keeps w s0 x4 := (keeps_handOver h0)
      clear_value x4
      exact (ite_keeps (keeps_rtcStampMgt (keeps_rtcStamp h5)) h5)
    · exact (keeps_noSource h0)
  clear_value x2
  exact (out_next (ite_keeps (keeps_vbusGone h3) h3))

theorem keeps_execSourceHandback {w : Touch} {s0 s : State} {a0 a1} (h0 : Keeps w s0 s) : OutP (Keeps w s0)
      (execSourceHandback a0 a1 s) := by
  unfold execSourceHandback
  split
  · exact (out_next (ite_keeps h0 (keeps_handOver h0)))
  · exact (out_next h0)

theorem keeps_showUsable {w : Touch} {s0 s : State} (h0 : Keeps w s0 s) : Keeps w s0 (showUsable s) := by
  unfold showUsable
  exact (keeps_setBit h0)

theorem keeps_execPackPresent {w : Touch} {s0 s : State} (h0 : Keeps w s0 s) : OutP (Keeps w s0) (execPackPresent s) := by
  unfold execPackPresent
  refine ite_keeps ?_ (out_next h0)
  extract_lets +onlyGivenNames x1
  have h2 : Keeps w s0 x1 := (keeps_packRaise (keeps_showUsable (keeps_setBit h0)))
  clear_value x1
  exact (out_next (ite_keeps (keeps_packRefit (keeps_setVar h2)) h2))

theorem keeps_searchEnd {w : Touch} {s0 s : State} {a0} (h0 : Keeps w s0 s) : Keeps w s0 (searchEnd a0 s) := by
  unfold searchEnd
  extract_lets +onlyGivenNames x1
  have h2 : Keeps w s0 x1 := (keeps_post (keeps_stopT (keeps_setBit h0)))
  clear_value x1
  extract_lets +onlyGivenNames x3
  clear_value x3
  exact (ite_keeps (keeps_raiseAction h2) (keeps_record h2))

theorem keeps_searchStart {w : Touch} {s0 s : State} {a0} (h0 : Keeps w s0 s) : Keeps w s0 (searchStart a0 s) := by
  unfold searchStart
  extract_lets +onlyGivenNames x1
  have h2 : Keeps w s0 x1 := (keeps_setBit (keeps_setO h0))
  clear_value x1
  extract_lets +onlyGivenNames x3
  have h4 : Keeps w s0 x3 := (keeps_startTR (keeps_setVar (keeps_setVar h2)))
  clear_value x3
  exact (ite_keeps (keeps_searchEnd h4) h4)

theorem keeps_searchLost {w : Touch} {s0 s : State} (h0 : Keeps w s0 s) : Keeps w s0 (searchLost s) := by
  unfold searchLost
  exact (ite_keeps (keeps_searchEnd h0) h0)

theorem keeps_setChg {w : Touch} {s0 s : State} {a0} (h0 : Keeps w s0 s) : Keeps w s0 (setChg a0 s) := by
  unfold setChg
  extract_lets +onlyGivenNames x1
  clear_value x1
  extract_lets +onlyGivenNames x2
  have h3 : Keeps w s0 x2 := (keeps_setVar h0)
  clear_value x2
  refine ite_keeps h3 ?_
  extract_lets +onlyGivenNames x4
  have h5 : Keeps w s0 x4 := (keeps_setVar (keeps_setVar (keeps_setO h3)))
  clear_value x4
  extract_lets +onlyGivenNames x6
  have h7 : Keeps w s0 x6 := (keeps_setVar h5)
  clear_value x6
  extract_lets +onlyGivenNames x8
  have h9 : Keeps w s0 x8 := (ite_keeps (keeps_startTR h7) (ite_keeps (keeps_startTR h7) (keeps_stopT h7)))
  clear_value x8
  extract_lets +onlyGivenNames x10
  have h11 : Keeps w s0 x10 := (ite_keeps (keeps_post h9) h9)
  clear_value x10
  extract_lets +onlyGivenNames x12
  have h13 : Keeps w s0 x12 := (ite_keeps (keeps_socSync h11) h11)
  clear_value x12
  extract_lets +onlyGivenNames x14
  have h15 : Keeps w s0 x14 := (keeps_recordPer h13)
  clear_value x14
  refine ite_keeps ?_ h15
  extract_lets +onlyGivenNames x16
  have h17 : Keeps w s0 x16 := (keeps_setVar (keeps_setVar (keeps_setVar (keeps_setO (keeps_setO h15)))))
  clear_value x16
  split
  · exact (keeps_searchStart h17)
  · exact h17

theorem keeps_chgNext {w : Touch} {s0 s : State} {a0} (h0 : Keeps w s0 s) : Keeps w s0 (chgNext a0 s) := by
  unfold chgNext
  exact (keeps_setVar h0)

theorem keeps_execPackRemoved {w : Touch} {s0 s : State} (h0 : Keeps w s0 s) : OutP (Keeps w s0) (execPackRemoved s) := by
  unfold execPackRemoved
  refine ite_keeps ?_ (out_next h0)
  extract_lets +onlyGivenNames x1
  have h2 : Keeps w s0 x1 := (keeps_packRaise (keeps_showUsable (keeps_setBit h0)))
  clear_value x1
  extract_lets +onlyGivenNames x3
  have h4 : Keeps w s0 x3 := (keeps_setFlag (keeps_setVar h2))
  clear_value x3
  extract_lets +onlyGivenNames x5
  have h6 : Keeps w s0 x5 := (keeps_setBit (keeps_setBit h4))
  clear_value x5
  exact (out_next (keeps_packGone (keeps_setChg (keeps_setFlag (keeps_setBit h6)))))

theorem keeps_execPackUnusable {w : Touch} {s0 s : State} (h0 : Keeps w s0 s) : OutP (Keeps w s0) (execPackUnusable s) := by
  unfold execPackUnusable
  refine ite_keeps ?_ (out_next h0)
  extract_lets +onlyGivenNames x1
  have h2 : Keeps w s0 x1 := (keeps_showUsable (keeps_setFlag h0))
  clear_value x1
  extract_lets +onlyGivenNames x3
  have h4 : Keeps w s0 x3 := (ite_keeps (keeps_raise h2) h2)
  clear_value x3
  exact (out_next (ite_keeps (keeps_takePonr h4) h4))

theorem keeps_execDischargeOvercurrent {w : Touch} {s0 s : State} (h0 : Keeps w s0 s) : OutP (Keeps w s0)
      (execDischargeOvercurrent s) := by
  unfold execDischargeOvercurrent
  refine ite_keeps ?_ (out_next h0)
  extract_lets +onlyGivenNames x1
  have h2 : Keeps w s0 x1 := (keeps_packRaise (keeps_setBit h0))
  clear_value x1
  extract_lets +onlyGivenNames x3
  have h4 : Keeps w s0 x3 := (keeps_showUsable h2)
  clear_value x3
  exact (out_next (ite_keeps (keeps_takePonr h4) (keeps_setFlag h4)))

theorem keeps_execPackGateOffOvercurrent {w : Touch} {s0 s : State} (h0 : Keeps w s0 s) : OutP (Keeps w s0)
      (execPackGateOffOvercurrent s) := by
  unfold execPackGateOffOvercurrent
  exact (ite_keeps (out_next (keeps_setFlag (keeps_setBit h0))) (out_next h0))

theorem keeps_execPackCutoff {w : Touch} {s0 s : State} {a0 a1} (h0 : Keeps w s0 s) : OutP (Keeps w s0) (execPackCutoff a0 a1
      s) := by
  unfold execPackCutoff
  exact (ite_keeps (ite_keeps (ite_keeps (out_next (keeps_handOver (keeps_record h0))) (ite_keeps (out_next (keeps_setVar
      h0)) (out_next (keeps_takePonr h0)))) (ite_keeps (out_next (keeps_handOver (keeps_record h0))) (ite_keeps (out_next
      (keeps_setFlag h0)) (out_next h0)))) (out_next h0))

theorem keeps_execInputLimitSearchStep {w : Touch} {s0 s : State} (h0 : Keeps w s0 s) : OutP (Keeps w s0)
      (execInputLimitSearchStep s) := by
  unfold execInputLimitSearchStep
  split
  · refine ite_keeps ?_ (out_next h0)
    extract_lets +onlyGivenNames x1
    have h2 : Keeps w s0 x1 := (keeps_addVar (keeps_setO h0))
    clear_value x1
    exact (out_next (ite_keeps (keeps_searchEnd h2) (keeps_startTR h2)))
  · exact (out_next h0)

theorem keeps_execInputLimitSag {w : Touch} {s0 s : State} (h0 : Keeps w s0 s) : OutP (Keeps w s0) (execInputLimitSag s) :=
      by
  unfold execInputLimitSag
  split
  · refine ite_keeps ?_ (out_next h0)
    extract_lets +onlyGivenNames x1
    have h2 : Keeps w s0 x1 := (keeps_setFlag h0)
    clear_value x1
    exact (ite_keeps (out_next (keeps_searchEnd (keeps_setO h2))) (out_next (keeps_setO h2)))
  · exact (out_next h0)

theorem keeps_execChargeStart {w : Touch} {s0 s : State} (h0 : Keeps w s0 s) : OutP (Keeps w s0) (execChargeStart s) := by
  unfold execChargeStart
  exact (ite_keeps (out_next (keeps_chgNext (keeps_setO h0))) (out_next h0))

theorem keeps_execPrechargeDone {w : Touch} {s0 s : State} (h0 : Keeps w s0 s) : OutP (Keeps w s0) (execPrechargeDone s) :=
      by
  unfold execPrechargeDone
  exact (ite_keeps (out_next (keeps_chgNext h0)) (out_next h0))

theorem keeps_chgLatch {w : Touch} {s0 s : State} (h0 : Keeps w s0 s) : Keeps w s0 (chgLatch s) := by
  unfold chgLatch
  exact (keeps_chgNext (keeps_setBit h0))

theorem keeps_execPrechargeTimeout {w : Touch} {s0 s : State} (h0 : Keeps w s0 s) : OutP (Keeps w s0) (execPrechargeTimeout
      s) := by
  unfold execPrechargeTimeout
  exact (ite_keeps (out_next (keeps_packRaise (keeps_chgLatch h0))) (out_next h0))

theorem keeps_execCvEntry {w : Touch} {s0 s : State} (h0 : Keeps w s0 s) : OutP (Keeps w s0) (execCvEntry s) := by
  unfold execCvEntry
  exact (ite_keeps (out_next (keeps_chgNext h0)) (out_next h0))

theorem keeps_execTopoffEntry {w : Touch} {s0 s : State} (h0 : Keeps w s0 s) : OutP (Keeps w s0) (execTopoffEntry s) := by
  unfold execTopoffEntry
  exact (ite_keeps (out_next (keeps_chgNext h0)) (out_next h0))

theorem keeps_execTopoffExpiry {w : Touch} {s0 s : State} (h0 : Keeps w s0 s) : OutP (Keeps w s0) (execTopoffExpiry s) := by
  unfold execTopoffExpiry
  exact (ite_keeps (out_next (keeps_chgNext h0)) (out_next h0))

theorem keeps_execChargeSuspend {w : Touch} {s0 s : State} (h0 : Keeps w s0 s) : OutP (Keeps w s0) (execChargeSuspend s) :=
      by
  unfold execChargeSuspend
  split
  · extract_lets +onlyGivenNames x1
    have h2 : Keeps w s0 x1 := (keeps_setO h0)
    clear_value x1
    extract_lets +onlyGivenNames x3
    have h4 : Keeps w s0 x3 := (ite_keeps (keeps_raise h2) h2)
    clear_value x3
    exact (out_next (ite_keeps (keeps_setVar h4) (keeps_chgNext h4)))
  · exact (out_next h0)

theorem keeps_execPackOvervoltage {w : Touch} {s0 s : State} (h0 : Keeps w s0 s) : OutP (Keeps w s0) (execPackOvervoltage s)
      := by
  unfold execPackOvervoltage
  exact (ite_keeps (out_next (keeps_chgLatch (keeps_raise h0))) (out_next h0))

theorem keeps_execSafetyTimerExpiry {w : Touch} {s0 s : State} (h0 : Keeps w s0 s) : OutP (Keeps w s0) (execSafetyTimerExpiry
      s) := by
  unfold execSafetyTimerExpiry
  extract_lets +onlyGivenNames x1
  clear_value x1
  split
  · refine ite_keeps ?_ (out_next h0)
    extract_lets +onlyGivenNames x2
    clear_value x2
    exact (out_next (keeps_packRaise (keeps_chgLatch h0)))

theorem keeps_pwrCmd {w : Touch} {s0 s : State} {a0} (h0 : Keeps w s0 s) : PairP (Keeps w s0) (pwrCmd a0 s) := by
  unfold pwrCmd
  exact (ite_keeps (pair_mk (keeps_showUsable (keeps_setFlag (keeps_setBit (keeps_setBit h0))))) (ite_keeps (pair_mk
      (keeps_setFlag h0)) (pair_mk h0)))

theorem keeps_lgDoneWrite {w : Touch} {s0 s : State} {a0} (h0 : Keeps w s0 s) : PairP (Keeps w s0) (lgDoneWrite a0 s) := by
  unfold lgDoneWrite
  exact (ite_keeps (pair_mk h0) (ite_keeps (pair_mk h0) (pair_mk (keeps_takePonr h0))))

theorem keeps_execLastGaspTimerExpiry {w : Touch} {s0 s : State} (h0 : Keeps w s0 s) : OutP (Keeps w s0)
      (execLastGaspTimerExpiry s) := by
  unfold execLastGaspTimerExpiry
  exact (ite_keeps (out_next (keeps_takePonr h0)) (out_next h0))

theorem keeps_execMainReturnQualified {w : Touch} {s0 s : State} {a0 a1} (h0 : Keeps w s0 s) : OutP (Keeps w s0)
      (execMainReturnQualified a0 a1 s) := by
  unfold execMainReturnQualified
  refine ite_keeps ?_ (out_next h0)
  extract_lets +onlyGivenNames x1
  clear_value x1
  extract_lets +onlyGivenNames x2
  have h3 : Keeps w s0 x2 := (keeps_setVar (keeps_stopT (keeps_setBit h0)))
  clear_value x2
  extract_lets +onlyGivenNames x4
  have h5 : Keeps w s0 x4 := (keeps_record h3)
  clear_value x4
  extract_lets +onlyGivenNames x6
  have h7 : Keeps w s0 x6 := (ite_keeps h5 (keeps_onRequest h5))
  clear_value x6
  exact (out_next (ite_keeps (keeps_handOver h7) h7))

theorem keeps_execHoldupShutdownComplete {w : Touch} {s0 s : State} (h0 : Keeps w s0 s) : OutP (Keeps w s0)
      (execHoldupShutdownComplete s) := by
  unfold execHoldupShutdownComplete
  refine ite_keeps ?_ (out_next h0)
  extract_lets +onlyGivenNames x1
  clear_value x1
  extract_lets +onlyGivenNames x2
  have h3 : Keeps w s0 x2 := (ite_keeps (keeps_record h0) h0)
  clear_value x2
  extract_lets +onlyGivenNames x4
  have h5 : Keeps w s0 x4 := (keeps_record h3)
  clear_value x4
  exact (out_next (ite_keeps (keeps_requestMode h5) (keeps_requestMode h5)))

theorem keeps_execBkpPowerLoss {w : Touch} {s0 s : State} {a0} (h0 : Keeps w s0 s) : OutP (Keeps w s0) (execBkpPowerLoss a0
      s) := by
  unfold execBkpPowerLoss
  refine ite_keeps ?_ (out_next h0)
  extract_lets +onlyGivenNames x1
  have h2 : Keeps w s0 x1 := (keeps_rtcLost (keeps_setFlag h0))
  clear_value x1
  exact (out_next (keeps_setVar (keeps_setVar h2)))

theorem keeps_handbackTick {w : Touch} {s0 s : State} (h0 : Keeps w s0 s) : Keeps w s0 (handbackTick s) := by
  unfold handbackTick
  extract_lets +onlyGivenNames x1
  clear_value x1
  extract_lets +onlyGivenNames x2
  have h3 : Keeps w s0 x2 := (forEach_keeps h0 fun _ _ k4 => (keeps_countCond k4))
  clear_value x2
  exact (keeps_setBit h3)

theorem keeps_teqTick {w : Touch} {s0 s : State} (h0 : Keeps w s0 s) : Keeps w s0 (teqTick s) := by
  unfold teqTick
  extract_lets +onlyGivenNames x1
  clear_value x1
  extract_lets +onlyGivenNames x2
  clear_value x2
  split
  · extract_lets +onlyGivenNames x3
    clear_value x3
    extract_lets +onlyGivenNames x4
    clear_value x4
    extract_lets +onlyGivenNames x5
    have h6 : Keeps w s0 x5 := (keeps_setVar (keeps_setVar h0))
    clear_value x5
    exact (keeps_addO h6)

theorem keeps_chargerTick {w : Touch} {s0 s : State} (h0 : Keeps w s0 s) : Keeps w s0 (chargerTick s) := by
  unfold chargerTick
  extract_lets +onlyGivenNames x1
  have h2 : Keeps w s0 x1 := (ite_keeps (keeps_setChg h0) h0)
  clear_value x1
  extract_lets +onlyGivenNames x3
  clear_value x3
  extract_lets +onlyGivenNames x4
  clear_value x4
  extract_lets +onlyGivenNames x5
  clear_value x5
  extract_lets +onlyGivenNames x6
  have h7 : Keeps w s0 x6 := (keeps_setFlag h2)
  clear_value x6
  extract_lets +onlyGivenNames x8
  have h9 : Keeps w s0 x8 := (ite_keeps h7 (keeps_condOff h7))
  clear_value x8
  extract_lets +onlyGivenNames x10
  clear_value x10
  extract_lets +onlyGivenNames x11
  have h12 : Keeps w s0 x11 := (keeps_countCond h9)
  clear_value x11
  extract_lets +onlyGivenNames x13
  have h14 : Keeps w s0 x13 := (ite_keeps h12 (keeps_condOff h12))
  clear_value x13
  extract_lets +onlyGivenNames x15
  clear_value x15
  extract_lets +onlyGivenNames x16
  clear_value x16
  extract_lets +onlyGivenNames x17
  clear_value x17
  extract_lets +onlyGivenNames x18
  have h19 : Keeps w s0 x18 := (keeps_setVar h14)
  clear_value x18
  extract_lets +onlyGivenNames x20
  have h21 : Keeps w s0 x20 := (keeps_countCond h19)
  clear_value x20
  extract_lets +onlyGivenNames x22
  clear_value x22
  extract_lets +onlyGivenNames x23
  have h24 : Keeps w s0 x23 := (ite_keeps h21 (keeps_countCond h21))
  clear_value x23
  refine ite_keeps ?_ h24
  extract_lets +onlyGivenNames x25
  have h26 : Keeps w s0 x25 := (keeps_teqTick h24)
  clear_value x25
  extract_lets +onlyGivenNames x27
  clear_value x27
  exact (keeps_addO (keeps_setVar h26))

theorem keeps_limitTick {w : Touch} {s0 s : State} (h0 : Keeps w s0 s) : Keeps w s0 (limitTick s) := by
  unfold limitTick
  split
  · exact (keeps_searchLost (keeps_setVar h0))
  · extract_lets +onlyGivenNames x1
    clear_value x1
    extract_lets +onlyGivenNames x2
    clear_value x2
    extract_lets +onlyGivenNames x3
    have h4 : Keeps w s0 x3 := (keeps_setO (keeps_setVar (ite_keeps (keeps_searchLost h0) h0)))
    clear_value x3
    split
    · exact (keeps_setO h4)
    · extract_lets +onlyGivenNames x5
      have h6 : Keeps w s0 x5 := (ite_keeps h4 (keeps_setVar h4))
      clear_value x5
      exact (ite_keeps (keeps_searchStart h6) h6)

theorem keeps_powerTick {w : Touch} {s0 s : State} (h0 : Keeps w s0 s) : Keeps w s0 (powerTick s) := by
  unfold powerTick
  extract_lets +onlyGivenNames x1
  have h2 : Keeps w s0 x1 := (keeps_setO (keeps_setO h0))
  clear_value x1
  extract_lets +onlyGivenNames x3
  have h4 : Keeps w s0 x3 := (keeps_setO (keeps_setO h2))
  clear_value x3
  extract_lets +onlyGivenNames x5
  clear_value x5
  extract_lets +onlyGivenNames x6
  have h7 : Keeps w s0 x6 := (keeps_countCond h4)
  clear_value x6
  extract_lets +onlyGivenNames x8
  have h9 : Keeps w s0 x8 := (ite_keeps h7 (keeps_setFlag h7))
  clear_value x8
  extract_lets +onlyGivenNames x10
  clear_value x10
  extract_lets +onlyGivenNames x11
  clear_value x11
  extract_lets +onlyGivenNames x12
  have h13 : Keeps w s0 x12 := (keeps_countCond (keeps_countCond h9))
  clear_value x12
  extract_lets +onlyGivenNames x14
  have h15 : Keeps w s0 x14 := (ite_keeps (keeps_condOff (keeps_setFlag h13)) h13)
  clear_value x14
  extract_lets +onlyGivenNames x16
  clear_value x16
  extract_lets +onlyGivenNames x17
  have h18 : Keeps w s0 x17 := (keeps_countCond h15)
  clear_value x17
  extract_lets +onlyGivenNames x19
  have h20 : Keeps w s0 x19 := (keeps_countCond h18)
  clear_value x19
  extract_lets +onlyGivenNames x21
  have h22 : Keeps w s0 x21 := (ite_keeps (keeps_setFlag (keeps_setVar h20)) h20)
  clear_value x21
  extract_lets +onlyGivenNames x23
  have h24 : Keeps w s0 x23 := (ite_keeps h22 (keeps_setVar h22))
  clear_value x23
  extract_lets +onlyGivenNames x25
  have h26 : Keeps w s0 x25 := (ite_keeps (keeps_setVar h24) h24)
  clear_value x25
  extract_lets +onlyGivenNames x27
  have h28 : Keeps w s0 x27 := (ite_keeps (keeps_setVar (keeps_setFlag h26)) h26)
  clear_value x27
  extract_lets +onlyGivenNames x29
  have h30 : Keeps w s0 x29 := (keeps_showUsable h28)
  clear_value x29
  extract_lets +onlyGivenNames x31
  have h32 : Keeps w s0 x31 := by
    unfold x31
    refine ite_keeps ?_ h30
    split
    · exact (keeps_handOver h30)
    · exact h30
  clear_value x31
  extract_lets +onlyGivenNames x33
  clear_value x33
  extract_lets +onlyGivenNames x34
  have h35 : Keeps w s0 x34 := (keeps_setBit (keeps_setBit h32))
  clear_value x34
  extract_lets +onlyGivenNames x36
  have h37 : Keeps w s0 x36 := (keeps_handbackTick h35)
  clear_value x36
  extract_lets +onlyGivenNames x38
  have h39 : Keeps w s0 x38 := (keeps_limitTick (keeps_chargerTick h37))
  clear_value x38
  extract_lets +onlyGivenNames x40
  have h41 : Keeps w s0 x40 := (keeps_setBit (keeps_setBit h39))
  clear_value x40
  extract_lets +onlyGivenNames x42
  have h43 : Keeps w s0 x42 := (keeps_setO h41)
  clear_value x42
  refine ite_keeps ?_ (keeps_setVar h43)
  extract_lets +onlyGivenNames x44
  have h45 : Keeps w s0 x44 := (keeps_countCond h43)
  clear_value x44
  extract_lets +onlyGivenNames x46
  have h47 : Keeps w s0 x46 := (keeps_setO h45)
  clear_value x46
  exact (ite_keeps (keeps_takePonr h47) h47)

theorem keeps_powerRound {w : Touch} {s0 s : State} (h0 : Keeps w s0 s) : Keeps w s0 (powerRound s) := by
  unfold powerRound
  extract_lets +onlyGivenNames x1
  have h2 : Keeps w s0 x1 := (keeps_setFlag (keeps_countCond h0))
  clear_value x1
  exact (keeps_countCond h2)

end Sys2Proof.Machine
end

