-- ==== Sys2Proof/Laws/KeepsPort.lean ====
section
/-!
SUPPORT. What the definitions of Machine/Port.lean keep: each passes on the queue, the canonical form, the programmed fuses, and
every part that its hypotheses do not let it write.
-/

namespace Sys2Proof.Machine
open State

theorem keeps_pdSend {w : Touch} {s0 s : State} {a0} (h0 : Keeps w s0 s) : Keeps w s0 (pdSend a0 s) := by
  unfold pdSend
  exact (Keeps.same h0 rfl rfl rfl rfl rfl rfl rfl rfl rfl rfl rfl)

theorem keeps_setContract {w : Touch} {s0 s : State} {a0 a1 a2} (h0 : Keeps w s0 s) : Keeps w s0 (setContract a0 a1 a2 s) :=
      by
  unfold setContract
  refine ite_keeps h0 ?_
  extract_lets +onlyGivenNames x1
  have h2 : Keeps w s0 x1 := (keeps_setO (keeps_setO (keeps_setO h0)))
  clear_value x1
  exact (keeps_record (keeps_post h2))

theorem keeps_typeCContract {w : Touch} {s0 s : State} {a0} (h0 : Keeps w s0 s) : Keeps w s0 (typeCContract a0 s) := by
  unfold typeCContract
  exact (ite_keeps (keeps_setContract h0) (ite_keeps (keeps_setContract h0) (keeps_setContract h0)))

theorem keeps_clearTransition {w : Touch} {s0 s : State} (h0 : Keeps w s0 s) : Keeps w s0 (clearTransition s) := by
  unfold clearTransition
  exact (keeps_setVar (keeps_setVar (keeps_setVar (keeps_stopT (keeps_setBit h0)))))

theorem keeps_benchExit {w : Touch} {s0 s : State} {a0} (hq : w.ports = true) (h0 : Keeps w s0 s) : Keeps w s0 (benchExit a0
      s) := by
  unfold benchExit
  refine ite_keeps ?_ h0
  extract_lets +onlyGivenNames x1
  have h2 : Keeps w s0 x1 := (keeps_post (keeps_setBit (keeps_resetPort hq h0)))
  clear_value x1
  exact (keeps_record h2)

theorem keeps_pathsOff {w : Touch} {s0 s : State} (h0 : Keeps w s0 s) : Keeps w s0 (pathsOff s) := by
  unfold pathsOff
  exact (keeps_setBit (keeps_setBit (keeps_setBit h0)))

theorem keeps_portForget {w : Touch} {s0 s : State} {a0} (h0 : Keeps w s0 s) : Keeps w s0 (portForget a0 s) := by
  unfold portForget
  extract_lets +onlyGivenNames x1
  have h2 : Keeps w s0 x1 := (keeps_setContract (keeps_clearTransition (keeps_pathsOff h0)))
  clear_value x1
  extract_lets +onlyGivenNames x3
  have h4 : Keeps w s0 x3 := (keeps_setO (keeps_setO (keeps_setO (keeps_setO h2))))
  clear_value x3
  extract_lets +onlyGivenNames x5
  have h6 : Keeps w s0 x5 := (keeps_stopT (keeps_stopT (keeps_stopT (keeps_stopT h4))))
  clear_value x5
  extract_lets +onlyGivenNames x7
  have h8 : Keeps w s0 x7 := (keeps_setVar (keeps_setVar (keeps_setVar (keeps_setVar h6))))
  clear_value x7
  exact (keeps_setBit (keeps_stopT h8))

theorem keeps_portDetach {w : Touch} {s0 s : State} {a0} (hq : w.ports = true) (h0 : Keeps w s0 s) : Keeps w s0 (portDetach
      a0 s) := by
  unfold portDetach
  extract_lets +onlyGivenNames x1
  clear_value x1
  extract_lets +onlyGivenNames x2
  have h3 : Keeps w s0 x2 := (keeps_record (keeps_post h0))
  clear_value x2
  exact (keeps_portForget (keeps_setBit (keeps_benchExit hq h3)))

theorem keeps_startTry {w : Touch} {s0 s : State} {a0} (h0 : Keeps w s0 s) : Keeps w s0 (startTry a0 s) := by
  unfold startTry
  split
  · have h1 := pair_of_eq (Q := Keeps w s0) (by assumption) (keeps_drawFree h0)
    exact (keeps_startT (keeps_setVar h1))

theorem keeps_execCcStateChange {w : Touch} {s0 s : State} {a0 a1} (h0 : Keeps w s0 s) : OutP (Keeps w s0) (execCcStateChange
      a0 a1 s) := by
  unfold execCcStateChange
  extract_lets +onlyGivenNames x1
  have h2 : Keeps w s0 x1 := (keeps_setVar (keeps_setVar h0))
  clear_value x1
  extract_lets +onlyGivenNames x3
  clear_value x3
  refine ite_keeps (ite_keeps (out_next (keeps_startT h2)) (ite_keeps (out_next (keeps_startT (keeps_setO (keeps_stopT
      (keeps_setVar h2))))) (ite_keeps (out_next h2) (ite_keeps (out_next (keeps_startTry (keeps_stopT (keeps_setO h2))))
      (ite_keeps (out_next (keeps_stopT (keeps_setVar (keeps_stopT (keeps_setO h2))))) (out_next (keeps_startT (keeps_stopT
      (keeps_setO h2))))))))) ?_
  refine ite_keeps (out_next (keeps_startT h2)) ?_
  extract_lets +onlyGivenNames x4
  have h5 : Keeps w s0 x4 := (keeps_stopT h2)
  clear_value x4
  exact (ite_keeps (out_next (keeps_typeCContract h5)) (out_next h5))

theorem keeps_execCcAttach {w : Touch} {s0 s : State} (h0 : Keeps w s0 s) : OutP (Keeps w s0) (execCcAttach s) := by
  unfold execCcAttach
  extract_lets +onlyGivenNames x1
  clear_value x1
  refine ite_keeps ?_ (out_next h0)
  extract_lets +onlyGivenNames x2
  clear_value x2
  refine ite_keeps ?_ ?_
  · refine ite_keeps (out_next h0) ?_
    refine ite_keeps ?_ (ite_keeps (out_next (keeps_portForget h0)) (out_next h0))
    extract_lets +onlyGivenNames x3
    have h4 : Keeps w s0 x3 := (keeps_setO (keeps_setO (keeps_setO h0)))
    clear_value x3
    extract_lets +onlyGivenNames x5
    have h6 : Keeps w s0 x5 := (keeps_setBit (keeps_setBit (keeps_setO h4)))
    clear_value x5
    extract_lets +onlyGivenNames x7
    have h8 : Keeps w s0 x7 := (keeps_post (keeps_bump (keeps_stopT h6)))
    clear_value x7
    exact (out_next (keeps_typeCContract (keeps_record h8)))
  · refine ite_keeps ?_ (out_next h0)
    extract_lets +onlyGivenNames x9
    have h10 : Keeps w s0 x9 := (keeps_setO (keeps_setO (keeps_setO h0)))
    clear_value x9
    extract_lets +onlyGivenNames x11
    have h12 : Keeps w s0 x11 := (keeps_setVar (keeps_setVar h10))
    clear_value x11
    extract_lets +onlyGivenNames x13
    have h14 : Keeps w s0 x13 := (keeps_bump (keeps_stopT (keeps_setO h12)))
    clear_value x13
    exact (out_next (keeps_record (keeps_post h14)))

theorem keeps_execDetach {w : Touch} {s0 s : State} (hq : w.ports = true) (h0 : Keeps w s0 s) : OutP (Keeps w s0) (execDetach
      s) := by
  unfold execDetach
  exact (ite_keeps (out_next (keeps_portDetach hq h0)) (ite_keeps (out_next (keeps_portDetach hq h0)) (out_next h0)))

theorem keeps_execDeadBatteryAttach {w : Touch} {s0 s : State} {a0 a1 a2} (hp : w.pins = true) (h0 : Keeps w s0 s) : OutP
      (Keeps w s0) (execDeadBatteryAttach a0 a1 a2 s) := by
  unfold execDeadBatteryAttach
  refine ite_keeps ?_ (out_next h0)
  extract_lets +onlyGivenNames x1
  have h2 : Keeps w s0 x1 := (keeps_setPin hp (keeps_setVar (keeps_setVar h0)))
  clear_value x1
  exact (out_next (keeps_setBit (keeps_setBit h2)))

theorem keeps_withdrawOwn {w : Touch} {s0 s : State} {a0} (h0 : Keeps w s0 s) : Keeps w s0 (withdrawOwn a0 s) := by
  unfold withdrawOwn
  refine ite_keeps ?_ h0
  extract_lets +onlyGivenNames x1
  clear_value x1
  extract_lets +onlyGivenNames x2
  clear_value x2
  extract_lets +onlyGivenNames x3
  have h4 : Keeps w s0 x3 := (ite_keeps h0 (keeps_record h0))
  clear_value x3
  refine ite_keeps (keeps_setVar (keeps_setVar (keeps_setVar h4))) ?_
  extract_lets +onlyGivenNames x5
  have h6 : Keeps w s0 x5 := (keeps_setVar h4)
  clear_value x5
  exact (ite_keeps (keeps_startT h6) (keeps_stopT h6))

theorem keeps_execSourceCapabilities {w : Touch} {s0 s : State} {a0} (h0 : Keeps w s0 s) : OutP (Keeps w s0)
      (execSourceCapabilities a0 s) := by
  unfold execSourceCapabilities
  refine ite_keeps ?_ (out_next h0)
  extract_lets +onlyGivenNames x1
  have h2 : Keeps w s0 x1 := (keeps_withdrawOwn h0)
  clear_value x1
  extract_lets +onlyGivenNames x3
  clear_value x3
  split
  · extract_lets +onlyGivenNames x4
    clear_value x4
    extract_lets +onlyGivenNames x5
    have h6 : Keeps w s0 x5 := (keeps_setBit (keeps_setVar (keeps_setVar h2)))
    clear_value x5
    exact (out_next (keeps_pdSend (keeps_stopT h6)))
  · exact (out_next (keeps_withdrawOwn h2))

theorem keeps_execPsRdy {w : Touch} {s0 s : State} (h0 : Keeps w s0 s) : OutP (Keeps w s0) (execPsRdy s) := by
  unfold execPsRdy
  refine ite_keeps ?_ (ite_keeps (out_next (keeps_startT (keeps_setContract h0))) (out_next h0))
  extract_lets +onlyGivenNames x1
  clear_value x1
  extract_lets +onlyGivenNames x2
  have h3 : Keeps w s0 x2 := (keeps_setVar (keeps_withdrawOwn (keeps_setContract h0)))
  clear_value x2
  exact (out_next (keeps_startT (keeps_startT (keeps_setVar (keeps_setVar h3)))))

theorem keeps_execTransitionEnd {w : Touch} {s0 s : State} (h0 : Keeps w s0 s) : OutP (Keeps w s0) (execTransitionEnd s) :=
      by
  unfold execTransitionEnd
  exact (ite_keeps (out_next (keeps_clearTransition h0)) (out_next h0))

theorem keeps_execEprModeRequest {w : Touch} {s0 s : State} (h0 : Keeps w s0 s) : OutP (Keeps w s0) (execEprModeRequest s) :=
      by
  unfold execEprModeRequest
  exact (ite_keeps (out_next (keeps_pdSend (keeps_withdrawOwn h0))) (out_next h0))

theorem keeps_execVbusSourceOn {w : Touch} {s0 s : State} (h0 : Keeps w s0 s) : OutP (Keeps w s0) (execVbusSourceOn s) := by
  unfold execVbusSourceOn
  exact (ite_keeps (out_next (keeps_pdSend (keeps_setBit h0))) (out_next h0))

theorem keeps_execHardReset {w : Touch} {s0 s : State} {a0} (hq : w.ports = true) (h0 : Keeps w s0 s) : OutP (Keeps w s0)
      (execHardReset a0 s) := by
  unfold execHardReset
  refine ite_keeps (out_next h0) ?_
  refine ite_keeps (out_next (keeps_pdSend h0)) ?_
  extract_lets +onlyGivenNames x1
  have h2 : Keeps w s0 x1 := (ite_keeps (keeps_pdSend h0) (keeps_withdrawOwn h0))
  clear_value x1
  extract_lets +onlyGivenNames x3
  have h4 : Keeps w s0 x3 := (keeps_raiseActionLater h2)
  clear_value x3
  extract_lets +onlyGivenNames x5
  have h6 : Keeps w s0 x5 := (keeps_clearTransition (keeps_benchExit hq h4))
  clear_value x5
  extract_lets +onlyGivenNames x7
  have h8 : Keeps w s0 x7 := (keeps_setO h6)
  clear_value x7
  exact (out_next (ite_keeps (keeps_typeCContract h8) (keeps_setContract h8)))

theorem keeps_execVbusProtectionTrip {w : Touch} {s0 s : State} {a0 a1} (hq : w.ports = true) (h0 : Keeps w s0 s) : OutP
      (Keeps w s0) (execVbusProtectionTrip a0 a1 s) := by
  unfold execVbusProtectionTrip
  refine ite_keeps ?_ (out_next h0)
  extract_lets +onlyGivenNames x1
  clear_value x1
  extract_lets +onlyGivenNames x2
  clear_value x2
  extract_lets +onlyGivenNames x3
  clear_value x3
  extract_lets +onlyGivenNames x4
  have h5 : Keeps w s0 x4 := (keeps_bump (keeps_setHist h0))
  clear_value x4
  extract_lets +onlyGivenNames x6
  have h7 : Keeps w s0 x6 := (ite_keeps h5 (keeps_setO h5))
  clear_value x6
  extract_lets +onlyGivenNames x8
  clear_value x8
  extract_lets +onlyGivenNames x9
  clear_value x9
  extract_lets +onlyGivenNames x10
  clear_value x10
  extract_lets +onlyGivenNames x11
  have h12 : Keeps w s0 x11 := (keeps_raiseActionLater h7)
  clear_value x11
  extract_lets +onlyGivenNames x13
  have h14 : Keeps w s0 x13 := (ite_keeps (keeps_setVar h12) h12)
  clear_value x13
  refine ite_keeps (out_next h14) ?_
  extract_lets +onlyGivenNames x15
  have h16 : Keeps w s0 x15 := (keeps_portForget (keeps_benchExit hq h14))
  clear_value x15
  extract_lets +onlyGivenNames x17
  have h18 : Keeps w s0 x17 := (ite_keeps (keeps_setBit h16) h16)
  clear_value x17
  refine ite_keeps ?_ (out_next (keeps_startT h18))
  extract_lets +onlyGivenNames x19
  have h20 : Keeps w s0 x19 := (keeps_stopT (keeps_setBit (keeps_setO h18)))
  clear_value x19
  exact (out_next (keeps_raiseActionLater h20))

theorem keeps_execErrorRecoveryExpiry {w : Touch} {s0 s : State} {a0} (h0 : Keeps w s0 s) : OutP (Keeps w s0)
      (execErrorRecoveryExpiry a0 s) := by
  unfold execErrorRecoveryExpiry
  extract_lets +onlyGivenNames x1
  have h2 : Keeps w s0 x1 := (ite_keeps (keeps_setVar h0) h0)
  clear_value x1
  exact (ite_keeps (out_next (keeps_stopT (keeps_setO h2))) (out_next h2))

theorem keeps_execCablePulled {w : Touch} {s0 s : State} {a0 a1} (hp : w.pins = true) (h0 : Keeps w s0 s) : OutP (Keeps w s0)
      (execCablePulled a0 a1 s) := by
  unfold execCablePulled
  refine ite_keeps ?_ (out_next h0)
  extract_lets +onlyGivenNames x1
  clear_value x1
  extract_lets +onlyGivenNames x2
  clear_value x2
  extract_lets +onlyGivenNames x3
  clear_value x3
  extract_lets +onlyGivenNames x4
  have h5 : Keeps w s0 x4 := (keeps_setContract (keeps_clearTransition (keeps_pathsOff h0)))
  clear_value x4
  extract_lets +onlyGivenNames x6
  have h7 : Keeps w s0 x6 := (keeps_setPin hp (keeps_bump (keeps_setBit h5)))
  clear_value x6
  extract_lets +onlyGivenNames x8
  clear_value x8
  exact (out_next (keeps_raiseActionLater h7))

theorem keeps_execVbusDischargeDone {w : Touch} {s0 s : State} (hq : w.ports = true) (h0 : Keeps w s0 s) : OutP (Keeps w s0)
      (execVbusDischargeDone s) := by
  unfold execVbusDischargeDone
  refine ite_keeps ?_ (out_next h0)
  extract_lets +onlyGivenNames x1
  have h2 : Keeps w s0 x1 := (keeps_setBit h0)
  clear_value x1
  exact (out_next (ite_keeps (keeps_portDetach hq h2) h2))

theorem keeps_swapDone {w : Touch} {s0 s : State} {a0 a1} (h0 : Keeps w s0 s) : Keeps w s0 (swapDone a0 a1 s) := by
  unfold swapDone
  extract_lets +onlyGivenNames x1
  clear_value x1
  exact (keeps_record (keeps_post h0))

theorem keeps_prSwap {w : Touch} {s0 s : State} {a0} (h0 : Keeps w s0 s) : Keeps w s0 (prSwap a0 s) := by
  unfold prSwap
  extract_lets +onlyGivenNames x1
  clear_value x1
  extract_lets +onlyGivenNames x2
  have h3 : Keeps w s0 x2 := (keeps_clearTransition (keeps_pathsOff h0))
  clear_value x2
  extract_lets +onlyGivenNames x4
  have h5 : Keeps w s0 x4 := (ite_keeps (keeps_setVar (keeps_setO (keeps_setO h3))) (keeps_setBit (keeps_setO (keeps_setO
      h3))))
  clear_value x4
  extract_lets +onlyGivenNames x6
  have h7 : Keeps w s0 x6 := (ite_keeps (keeps_setContract h5) (keeps_typeCContract h5))
  clear_value x6
  exact (keeps_swapDone h7)

theorem keeps_drSwap {w : Touch} {s0 s : State} {a0} (hq : w.ports = true) (h0 : Keeps w s0 s) : Keeps w s0 (drSwap a0 s) :=
      by
  unfold drSwap
  extract_lets +onlyGivenNames x1
  clear_value x1
  extract_lets +onlyGivenNames x2
  have h3 : Keeps w s0 x2 := (ite_keeps (keeps_benchExit hq h0) h0)
  clear_value x2
  exact (keeps_swapDone (keeps_setO h3))

theorem keeps_execPrSwapReceived {w : Touch} {s0 s : State} (h0 : Keeps w s0 s) : OutP (Keeps w s0) (execPrSwapReceived s) :=
      by
  unfold execPrSwapReceived
  refine ite_keeps ?_ (out_next h0)
  extract_lets +onlyGivenNames x1
  have h2 : Keeps w s0 x1 := (keeps_withdrawOwn h0)
  clear_value x1
  exact (out_next (ite_keeps (keeps_prSwap (keeps_pdSend h2)) (keeps_pdSend h2)))

theorem keeps_execDrSwapReceived {w : Touch} {s0 s : State} (hq : w.ports = true) (h0 : Keeps w s0 s) : OutP (Keeps w s0)
      (execDrSwapReceived s) := by
  unfold execDrSwapReceived
  refine ite_keeps ?_ (out_next h0)
  extract_lets +onlyGivenNames x1
  have h2 : Keeps w s0 x1 := (keeps_withdrawOwn h0)
  clear_value x1
  exact (out_next (ite_keeps (keeps_drSwap hq (keeps_pdSend h2)) (keeps_pdSend h2)))

theorem keeps_ownWaits {w : Touch} {s0 s : State} {a0 a1 a2} (h0 : Keeps w s0 s) : Keeps w s0 (ownWaits a0 a1 a2 s) := by
  unfold ownWaits
  exact (keeps_setFlag (keeps_setVar (keeps_setVar h0)))

theorem keeps_ownSwap {w : Touch} {s0 s : State} {a0 a1 a2} (hq : w.ports = true) (h0 : Keeps w s0 s) : Keeps w s0 (ownSwap
      a0 a1 a2 s) := by
  unfold ownSwap
  extract_lets +onlyGivenNames x1
  have h2 : Keeps w s0 x1 := (keeps_pdSend (ite_keeps (keeps_setVar h0) h0))
  clear_value x1
  refine ite_keeps (keeps_ownWaits h0) ?_
  split
  · exact (ite_keeps h2 (keeps_ownWaits h0))
  · exact h2
  · exact (ite_keeps (keeps_prSwap h2) (keeps_drSwap hq h2))

theorem keeps_execDrSwapPreference {w : Touch} {s0 s : State} {a0} (hq : w.ports = true) (h0 : Keeps w s0 s) : OutP (Keeps w
      s0) (execDrSwapPreference a0 s) := by
  unfold execDrSwapPreference
  refine ite_keeps ?_ (out_next h0)
  extract_lets +onlyGivenNames x1
  have h2 : Keeps w s0 x1 := (keeps_stopT h0)
  clear_value x1
  extract_lets +onlyGivenNames x3
  clear_value x3
  exact (out_next (ite_keeps (keeps_ownSwap hq (keeps_setVar h2)) h2))

theorem keeps_execWithdrawnResend {w : Touch} {s0 s : State} {a0} (hq : w.ports = true) (h0 : Keeps w s0 s) : OutP (Keeps w
      s0) (execWithdrawnResend a0 s) := by
  unfold execWithdrawnResend
  extract_lets +onlyGivenNames x1
  clear_value x1
  refine ite_keeps ?_ (out_next h0)
  extract_lets +onlyGivenNames x2
  clear_value x2
  extract_lets +onlyGivenNames x3
  clear_value x3
  extract_lets +onlyGivenNames x4
  clear_value x4
  extract_lets +onlyGivenNames x5
  have h6 : Keeps w s0 x5 := (keeps_stopT (keeps_setVar (keeps_setVar (keeps_setVar h0))))
  clear_value x5
  exact (out_next (ite_keeps (keeps_ownSwap hq h6) h6))

theorem keeps_portCmd {w : Touch} {s0 s : State} {a0 a1} (hq : w.ports = true) (h0 : Keeps w s0 s) : PairP (Keeps w s0)
      (portCmd a0 a1 s) := by
  unfold portCmd
  exact (ite_keeps (ite_keeps (pair_mk (keeps_ownSwap hq (keeps_setVar h0))) (pair_mk h0)) (ite_keeps (ite_keeps (pair_mk
      (keeps_ownSwap hq (keeps_setVar h0))) (pair_mk h0)) (ite_keeps (pair_mk (ite_keeps (keeps_stopT (keeps_setBit
      (keeps_setO h0))) h0)) (ite_keeps (pair_mk (keeps_benchExit hq h0)) (pair_mk h0)))))

theorem keeps_benchEnWrite {w : Touch} {s0 s : State} {a0} (hq : w.ports = true) (h0 : Keeps w s0 s) : PairP (Keeps w s0)
      (benchEnWrite a0 s) := by
  unfold benchEnWrite
  refine ite_keeps (pair_mk h0) ?_
  extract_lets +onlyGivenNames x1
  have h2 : Keeps w s0 x1 := (keeps_setO h0)
  clear_value x1
  exact (pair_mk (ite_keeps (keeps_benchExit hq h2) h2))

theorem keeps_execDiscoverIdentity {w : Touch} {s0 s : State} (h0 : Keeps w s0 s) : OutP (Keeps w s0) (execDiscoverIdentity
      s) := by
  unfold execDiscoverIdentity
  refine ite_keeps ?_ (out_next h0)
  extract_lets +onlyGivenNames x1
  have h2 : Keeps w s0 x1 := (keeps_withdrawOwn h0)
  clear_value x1
  extract_lets +onlyGivenNames x3
  clear_value x3
  exact (out_next (keeps_pdSend h2))

theorem keeps_execDiscoverSvids {w : Touch} {s0 s : State} (h0 : Keeps w s0 s) : OutP (Keeps w s0) (execDiscoverSvids s) :=
      by
  unfold execDiscoverSvids
  exact (ite_keeps (out_next (keeps_pdSend (keeps_withdrawOwn h0))) (out_next h0))

theorem keeps_execDiscoverModes {w : Touch} {s0 s : State} {a0} (h0 : Keeps w s0 s) : OutP (Keeps w s0) (execDiscoverModes a0
      s) := by
  unfold execDiscoverModes
  exact (ite_keeps (out_next (keeps_pdSend (keeps_withdrawOwn h0))) (out_next h0))

theorem keeps_execEnterMode {w : Touch} {s0 s : State} {a0 a1} (h0 : Keeps w s0 s) : OutP (Keeps w s0) (execEnterMode a0 a1
      s) := by
  unfold execEnterMode
  refine ite_keeps ?_ (out_next h0)
  extract_lets +onlyGivenNames x1
  have h2 : Keeps w s0 x1 := (keeps_withdrawOwn h0)
  clear_value x1
  refine ite_keeps ?_ (out_next (keeps_pdSend h2))
  extract_lets +onlyGivenNames x3
  have h4 : Keeps w s0 x3 := (keeps_pdSend h2)
  clear_value x3
  extract_lets +onlyGivenNames x5
  have h6 : Keeps w s0 x5 := (ite_keeps h4 (keeps_bump (keeps_setVar (keeps_setBit h4))))
  clear_value x5
  extract_lets +onlyGivenNames x7
  have h8 : Keeps w s0 x7 := (keeps_post h6)
  clear_value x7
  exact (out_next (keeps_raiseActionLater h8))

theorem keeps_execExitMode {w : Touch} {s0 s : State} {a0 a1} (hq : w.ports = true) (h0 : Keeps w s0 s) : OutP (Keeps w s0)
      (execExitMode a0 a1 s) := by
  unfold execExitMode
  refine ite_keeps ?_ (out_next h0)
  extract_lets +onlyGivenNames x1
  have h2 : Keeps w s0 x1 := (keeps_withdrawOwn h0)
  clear_value x1
  exact (ite_keeps (out_next (keeps_benchExit hq (keeps_pdSend h2))) (out_next (keeps_pdSend h2)))

theorem keeps_tryTick {w : Touch} {s0 s : State} (h0 : Keeps w s0 s) : Keeps w s0 (tryTick s) := by
  unfold tryTick
  exact (ite_keeps h0 (ite_keeps (keeps_startTry h0) (keeps_setO (keeps_stopT (keeps_setVar h0)))))

theorem keeps_portTick {w : Touch} {s0 s : State} (hq : w.ports = true) (h0 : Keeps w s0 s) : Keeps w s0 (portTick s) := by
  unfold portTick
  extract_lets +onlyGivenNames x1
  clear_value x1
  extract_lets +onlyGivenNames x2
  have h3 : Keeps w s0 x2 := (keeps_tryTick h0)
  clear_value x2
  extract_lets +onlyGivenNames x4
  have h5 : Keeps w s0 x4 := by
    unfold x4
    refine ite_keeps ?_ h3
    split
    · have h6 := pair_of_eq (Q := Keeps w s0) (by assumption) (keeps_drawFree h3)
      exact (keeps_benchExit hq h6)
  clear_value x4
  extract_lets +onlyGivenNames x7
  have h8 : Keeps w s0 x7 := (Keeps.same h5 rfl rfl rfl rfl rfl rfl rfl rfl rfl rfl rfl)
  clear_value x7
  extract_lets +onlyGivenNames x9
  have h10 : Keeps w s0 x9 := (keeps_setO (keeps_setO h8))
  clear_value x9
  extract_lets +onlyGivenNames x11
  clear_value x11
  extract_lets +onlyGivenNames x12
  clear_value x12
  extract_lets +onlyGivenNames x13
  have h14 : Keeps w s0 x13 := (keeps_setBit h10)
  clear_value x13
  exact (ite_keeps (keeps_setBit h14) h14)

theorem keeps_portBoot {w : Touch} {s0 s : State} (h0 : Keeps w s0 s) : Keeps w s0 (portBoot s) := by
  unfold portBoot
  extract_lets +onlyGivenNames x1
  clear_value x1
  extract_lets +onlyGivenNames x2
  have h3 : Keeps w s0 x2 := (keeps_setVar (keeps_setVar (keeps_setO (keeps_setO h0))))
  clear_value x2
  extract_lets +onlyGivenNames x4
  have h5 : Keeps w s0 x4 := (keeps_stopT (keeps_stopT (keeps_stopT h3)))
  clear_value x4
  extract_lets +onlyGivenNames x6
  have h7 : Keeps w s0 x6 := (keeps_setHist (keeps_stopT (keeps_stopT (keeps_stopT h5))))
  clear_value x6
  extract_lets +onlyGivenNames x8
  have h9 : Keeps w s0 x8 := (keeps_setVar (keeps_stopT (keeps_setVar h7)))
  clear_value x8
  exact (ite_keeps (keeps_startT (keeps_setO (keeps_setBit (keeps_setBit h9)))) (keeps_setVar (keeps_setVar h9)))

end Sys2Proof.Machine
end

