-- ==== Sys2Proof/Laws/KeepsSecurity.lean ====
section
/-!
SUPPORT. What the definitions of Machine/Security.lean keep: each passes on the queue, the canonical form, the programmed fuses, and
every part that its hypotheses do not let it write.
-/

namespace Sys2Proof.Machine
open State

theorem keeps_setPort {w : Touch} {s0 s : State} {a0 a1} (hq : w.ports = true) (h0 : Keeps w s0 s) : Keeps w s0 (setPort a0
      a1 s) := by
  unfold setPort
  split
  · exact (Keeps.samePorts hq h0 rfl rfl rfl rfl rfl rfl rfl rfl rfl rfl)
  · exact h0

theorem keeps_canFlush {w : Touch} {s0 s : State} {a0} (hq : w.ports = true) (h0 : Keeps w s0 s) : Keeps w s0 (canFlush a0 s)
      := by
  unfold canFlush
  extract_lets +onlyGivenNames x1
  clear_value x1
  refine ite_keeps ?_ h0
  extract_lets +onlyGivenNames x2
  clear_value x2
  exact (forEach_keeps (keeps_setPort hq h0) fun _ _ k3 => (keeps_bump k3))

theorem keeps_canAnswer {w : Touch} {s0 s : State} {a0 a1} (hq : w.ports = true) (h0 : Keeps w s0 s) : Keeps w s0 (canAnswer
      a0 a1 s) := by
  unfold canAnswer
  refine ite_keeps ?_ h0
  extract_lets +onlyGivenNames x1
  clear_value x1
  exact (keeps_canFlush hq (keeps_setPort hq h0))

theorem keeps_respond {w : Touch} {s0 s : State} {a0 a1 a2} (hq : w.ports = true) (h0 : Keeps w s0 s) : Keeps w s0 (respond
      a0 a1 a2 s) := by
  unfold respond
  refine ite_keeps (keeps_setPort hq h0) ?_
  extract_lets +onlyGivenNames x1
  clear_value x1
  extract_lets +onlyGivenNames x2
  clear_value x2
  exact (keeps_canAnswer hq (keeps_setPort hq h0))

theorem keeps_trngFailed {w : Touch} {s0 s : State} {a0} (h0 : Keeps w s0 s) : Keeps w s0 (trngFailed a0 s) := by
  unfold trngFailed
  exact (keeps_raiseActionLater h0)

theorem keeps_identityDraw {w : Touch} {s0 s : State} {a0} (h0 : Keeps w s0 s) : Keeps w s0 (identityDraw a0 s) := by
  unfold identityDraw
  refine ite_keeps (keeps_trngFailed h0) ?_
  split
  · have h1 := pair_of_eq (Q := Keeps w s0) (by assumption) (keeps_drawFree h0)
    exact (keeps_setVar h1)

theorem keeps_identityBoot {w : Touch} {s0 s : State} {a0} (h0 : Keeps w s0 s) : Keeps w s0 (identityBoot a0 s) := by
  unfold identityBoot
  extract_lets +onlyGivenNames x1
  have h2 : Keeps w s0 x1 := (Keeps.same h0 rfl rfl rfl rfl rfl rfl rfl rfl rfl rfl rfl)
  clear_value x1
  extract_lets +onlyGivenNames x3
  have h4 : Keeps w s0 x3 := (keeps_setVar h2)
  clear_value x3
  exact (ite_keeps (keeps_identityDraw (keeps_setO h4)) (keeps_setO h4))

theorem keeps_burnCopy {w : Touch} {s0 s : State} {a0 a1 a2} (ho : w.otp = true) (h0 : Keeps w s0 s) : Keeps w s0 (burnCopy
      a0 a1 a2 s) := by
  unfold burnCopy
  refine forRange_keeps h0 fun _ _ h2 => ?_
  extract_lets +onlyGivenNames x3
  have h4 : Keeps w s0 x3 := (keeps_otpBurn ho h2)
  clear_value x3
  exact (ite_keeps (keeps_otpBlockMarginal ho h4) h4)

theorem keeps_publicKeyAsk {w : Touch} {s0 s : State} (h0 : Keeps w s0 s) : Keeps w s0 (publicKeyAsk s) := by
  unfold publicKeyAsk
  exact (keeps_jobRequest h0)

theorem keeps_identityDone {w : Touch} {s0 s : State} {a0 a1} (h0 : Keeps w s0 s) : Keeps w s0 (identityDone a0 a1 s) := by
  unfold identityDone
  exact (keeps_publicKeyAsk (keeps_setVar (keeps_record (keeps_post (keeps_setO h0)))))

theorem keeps_execIdentityProgram {w : Touch} {s0 s : State} {a0 a1} (ho : w.otp = true) (h0 : Keeps w s0 s) : OutP (Keeps w
      s0) (execIdentityProgram a0 a1 s) := by
  unfold execIdentityProgram
  refine ite_keeps ?_ (out_next h0)
  extract_lets +onlyGivenNames x1
  have h2 : Keeps w s0 x1 := (ite_keeps h0 (keeps_identityDraw h0))
  clear_value x1
  refine ite_keeps ?_ (out_next h2)
  extract_lets +onlyGivenNames x3
  clear_value x3
  extract_lets +onlyGivenNames x4
  clear_value x4
  extract_lets +onlyGivenNames x5
  have h6 : Keeps w s0 x5 := (keeps_burnCopy ho h2)
  clear_value x5
  refine ite_keeps (out_next (keeps_identityDone h6)) ?_
  extract_lets +onlyGivenNames x7
  have h8 : Keeps w s0 x7 := (keeps_burnCopy ho h6)
  clear_value x7
  exact (ite_keeps (out_next (keeps_identityDone h8)) (out_next (keeps_raiseActionLater (keeps_setVar (keeps_setO h8)))))

theorem keeps_execPublicKeyReady {w : Touch} {s0 s : State} (h0 : Keeps w s0 s) : OutP (Keeps w s0) (execPublicKeyReady s) :=
      by
  unfold execPublicKeyReady
  refine ite_keeps ?_ (out_next h0)
  extract_lets +onlyGivenNames x1
  have h2 : Keeps w s0 x1 := (keeps_setVar h0)
  clear_value x1
  extract_lets +onlyGivenNames x3
  have h4 : Keeps w s0 x3 := (Keeps.same h2 rfl rfl rfl rfl rfl rfl rfl rfl rfl rfl rfl)
  clear_value x3
  extract_lets +onlyGivenNames x5
  clear_value x5
  exact (out_next (keeps_post (keeps_setBit (keeps_setBit h4))))

theorem keeps_showPresence {w : Touch} {s0 s : State} (h0 : Keeps w s0 s) : Keeps w s0 (showPresence s) := by
  unfold showPresence
  extract_lets +onlyGivenNames x1
  have h2 : Keeps w s0 x1 := (keeps_setO h0)
  clear_value x1
  exact (keeps_setO h2)

theorem keeps_presenceBoot {w : Touch} {s0 s : State} (h0 : Keeps w s0 s) : Keeps w s0 (presenceBoot s) := by
  unfold presenceBoot
  exact (ite_keeps (keeps_stopT h0) (keeps_startTR h0))

theorem keeps_execPresenceWindowExpiry {w : Touch} {s0 s : State} (h0 : Keeps w s0 s) : OutP (Keeps w s0)
      (execPresenceWindowExpiry s) := by
  unfold execPresenceWindowExpiry
  exact (ite_keeps (out_next (keeps_showPresence (keeps_stopT h0))) (out_next h0))

theorem keeps_clearSlot {w : Touch} {s0 s : State} {a0 a1} (h0 : Keeps w s0 s) : Keeps w s0 (clearSlot a0 a1 s) := by
  unfold clearSlot
  extract_lets +onlyGivenNames x1
  have h2 : Keeps w s0 x1 := (Keeps.same h0 rfl rfl rfl rfl rfl rfl rfl rfl rfl rfl rfl)
  clear_value x1
  extract_lets +onlyGivenNames x3
  have h4 : Keeps w s0 x3 := (keeps_setO h2)
  clear_value x3
  exact (ite_keeps (keeps_setOB h4) h4)

theorem keeps_ownerLine {w : Touch} {s0 s : State} {a0} (h0 : Keeps w s0 s) : PairP (Keeps w s0) (ownerLine a0 s) := by
  unfold ownerLine
  split
  · extract_lets +onlyGivenNames x1
    have h2 : Keeps w s0 x1 := (keeps_nvmReadEffect h0)
    clear_value x1
    exact (pair_mk h2)

theorem keeps_countersLoad {w : Touch} {s0 s : State} (h0 : Keeps w s0 s) : Keeps w s0 (countersLoad s) := by
  unfold countersLoad
  refine forRange_keeps h0 fun _ _ h2 => ?_
  split
  · have h3 := pair_of_eq (Q := Keeps w s0) (by assumption) (keeps_ownerLine h2)
    extract_lets +onlyGivenNames x4
    clear_value x4
    exact (keeps_setO (keeps_setO h3))

theorem keeps_unwrapSlot {w : Touch} {s0 s : State} {a0} (h0 : Keeps w s0 s) : Keeps w s0 (unwrapSlot a0 s) := by
  unfold unwrapSlot
  extract_lets +onlyGivenNames x1
  clear_value x1
  split
  · have h2 := pair_of_eq (Q := Keeps w s0) (by assumption) (keeps_ownerLine h0)
    split
    · have h3 := pair_of_eq (Q := Keeps w s0) (by assumption) (keeps_ownerLine h2)
      extract_lets +onlyGivenNames x4
      have h5 : Keeps w s0 x4 := (ite_keeps (keeps_raiseActionLater h3) h3)
      clear_value x4
      extract_lets +onlyGivenNames x6
      have h7 : Keeps w s0 x6 := (ite_keeps (keeps_raiseActionLater h5) h5)
      clear_value x6
      extract_lets +onlyGivenNames x8
      clear_value x8
      extract_lets +onlyGivenNames x9
      clear_value x9
      split
      · extract_lets +onlyGivenNames x10
        have h11 : Keeps w s0 x10 := (keeps_clearSlot h7)
        clear_value x10
        exact (ite_keeps (keeps_record h11) h11)
      · refine ite_keeps (keeps_clearSlot h7) ?_
        extract_lets +onlyGivenNames x12
        clear_value x12
        extract_lets +onlyGivenNames x13
        have h14 : Keeps w s0 x13 := (Keeps.same h7 rfl rfl rfl rfl rfl rfl rfl rfl rfl rfl rfl)
        clear_value x13
        extract_lets +onlyGivenNames x15
        have h16 : Keeps w s0 x15 := (keeps_setO (keeps_setO (keeps_setO h14)))
        clear_value x15
        extract_lets +onlyGivenNames x17
        have h18 : Keeps w s0 x17 := (keeps_setO h16)
        clear_value x17
        exact (ite_keeps (keeps_setOB h18) h18)

theorem keeps_execSlotUnwrap {w : Touch} {s0 s : State} (h0 : Keeps w s0 s) : OutP (Keeps w s0) (execSlotUnwrap s) := by
  unfold execSlotUnwrap
  refine ite_keeps ?_ (out_next h0)
  extract_lets +onlyGivenNames x1
  have h2 : Keeps w s0 x1 := (forRange_keeps (keeps_setVar h0) fun _ _ k3 => (keeps_unwrapSlot k3))
  clear_value x1
  exact (out_next (keeps_setBit h2))

theorem keeps_genAdvance {w : Touch} {s0 s : State} {a0 a1} (ho : w.otp = true) (h0 : Keeps w s0 s) : PairP (Keeps w s0)
      (genAdvance a0 a1 s) := by
  unfold genAdvance
  extract_lets +onlyGivenNames x1
  clear_value x1
  extract_lets +onlyGivenNames x2
  clear_value x2
  refine ite_keeps (pair_mk (keeps_raiseActionLater (keeps_setBit h0))) ?_
  refine ite_keeps (pair_mk h0) ?_
  extract_lets +onlyGivenNames x3
  clear_value x3
  extract_lets +onlyGivenNames x4
  clear_value x4
  extract_lets +onlyGivenNames x5
  have h6 : Keeps w s0 x5 := (forEach_keeps h0 fun _ _ k7 => (keeps_otpBurn ho k7))
  clear_value x5
  refine ite_keeps ?_ (pair_mk (keeps_raiseActionLater h6))
  extract_lets +onlyGivenNames x8
  have h9 : Keeps w s0 x8 := (forEach_keeps h6 fun _ _ k10 => (keeps_otpBlockMarginal ho k10))
  clear_value x8
  extract_lets +onlyGivenNames x11
  have h12 : Keeps w s0 x11 := (keeps_setO (forRange_keeps h9 fun _ _ k13 => (keeps_clearSlot k13)))
  clear_value x11
  extract_lets +onlyGivenNames x14
  have h15 : Keeps w s0 x14 := (keeps_setBit h12)
  clear_value x14
  exact (pair_mk (keeps_record (keeps_post (keeps_post h15))))

theorem keeps_keyReject {w : Touch} {s0 s : State} {a0 a1} (h0 : Keeps w s0 s) : PairP (Keeps w s0) (keyReject a0 a1 s) := by
  unfold keyReject
  extract_lets +onlyGivenNames x1
  have h2 : Keeps w s0 x1 := (keeps_bump h0)
  clear_value x1
  exact (pair_mk (keeps_raisePerLater h2))

theorem keeps_keyedCheck {w : Touch} {s0 s : State} {a0} (h0 : Keeps w s0 s) : PairP (Keeps w s0) (keyedCheck a0 s) := by
  unfold keyedCheck
  exact (ite_keeps (pair_mk h0) (ite_keeps (pair_mk h0) (ite_keeps (keeps_keyReject h0) (ite_keeps (keeps_keyReject h0)
      (pair_mk h0)))))

theorem keeps_counterCheck {w : Touch} {s0 s : State} {a0} (h0 : Keeps w s0 s) : PairP (Keeps w s0) (counterCheck a0 s) := by
  unfold counterCheck
  exact (ite_keeps (pair_mk h0) (keeps_keyReject h0))

theorem keeps_writeCounter {w : Touch} {s0 s : State} {a0 a1 a2} (h0 : Keeps w s0 s) : Keeps w s0 (writeCounter a0 a1 a2 s)
      := by
  unfold writeCounter
  exact (keeps_nvmWrite h0)

theorem keeps_hwmRaise {w : Touch} {s0 s : State} {a0} (h0 : Keeps w s0 s) : Keeps w s0 (hwmRaise a0 s) := by
  unfold hwmRaise
  extract_lets +onlyGivenNames x1
  clear_value x1
  extract_lets +onlyGivenNames x2
  have h3 : Keeps w s0 x2 := (keeps_nvmReadEffect h0)
  clear_value x2
  extract_lets +onlyGivenNames x4
  clear_value x4
  extract_lets +onlyGivenNames x5
  have h6 : Keeps w s0 x5 := (keeps_setVar (keeps_setVar (keeps_setFlag h3)))
  clear_value x5
  exact (keeps_commitAsk (keeps_writeCounter (keeps_setFlag h6)))

theorem keeps_hwmUnwarn {w : Touch} {s0 s : State} {a0} (h0 : Keeps w s0 s) : Keeps w s0 (hwmUnwarn a0 s) := by
  unfold hwmUnwarn
  exact (ite_keeps (keeps_writeCounter (keeps_setVar h0)) h0)

theorem keeps_consumeCounter {w : Touch} {s0 s : State} {a0} (h0 : Keeps w s0 s) : Keeps w s0 (consumeCounter a0 s) := by
  unfold consumeCounter
  extract_lets +onlyGivenNames x1
  clear_value x1
  extract_lets +onlyGivenNames x2
  have h3 : Keeps w s0 x2 := (keeps_setO h0)
  clear_value x2
  exact (ite_keeps (keeps_raiseActionLater (keeps_setVar h3)) (ite_keeps (keeps_raiseActionLater (keeps_writeCounter h3))
      h3))

theorem keeps_retireIfSpent {w : Touch} {s0 s : State} {a0} (h0 : Keeps w s0 s) : Keeps w s0 (retireIfSpent a0 s) := by
  unfold retireIfSpent
  refine ite_keeps ?_ h0
  extract_lets +onlyGivenNames x1
  clear_value x1
  split
  · have h2 := pair_of_eq (Q := Keeps w s0) (by assumption) (keeps_nvmRead h0)
    extract_lets +onlyGivenNames x3
    have h4 : Keeps w s0 x3 := (keeps_nvmWrite h2)
    clear_value x3
    exact (keeps_raiseActionLater (keeps_clearSlot h4))

theorem keeps_claimRefuse {w : Touch} {s0 s : State} {a0 a1} (hq : w.ports = true) (h0 : Keeps w s0 s) : Keeps w s0
      (claimRefuse a0 a1 s) := by
  unfold claimRefuse
  exact (keeps_respond hq (keeps_raiseActionLater h0))

theorem keeps_claimStart {w : Touch} {s0 s : State} {a0 a1} (ho : w.otp = true) (hq : w.ports = true) (h0 : Keeps w s0 s) :
      Keeps w s0 (claimStart a0 a1 s) := by
  unfold claimStart
  split
  · extract_lets +onlyGivenNames x1
    clear_value x1
    split
    · have h2 := pair_of_eq (Q := Keeps w s0) (by assumption) (ite_keeps (keeps_genAdvance ho h0) (pair_mk h0))
      refine ite_keeps ?_ (keeps_claimRefuse hq h2)
      extract_lets +onlyGivenNames x3
      clear_value x3
      extract_lets +onlyGivenNames x4
      have h5 : Keeps w s0 x4 := (keeps_setPort hq h2)
      clear_value x4
      exact (keeps_jobRequest (keeps_setVar (keeps_setVar h5)))
  · exact (keeps_claimRefuse hq h0)

theorem keeps_claimRetire {w : Touch} {s0 s : State} {a0} (h0 : Keeps w s0 s) : Keeps w s0 (claimRetire a0 s) := by
  unfold claimRetire
  exact (ite_keeps (keeps_retireIfSpent h0) h0)

theorem keeps_claimSlots {w : Touch} {s0 s : State} (hq : w.ports = true) (h0 : Keeps w s0 s) : Keeps w s0 (claimSlots s) :=
      by
  unfold claimSlots
  refine ite_keeps ?_ h0
  extract_lets +onlyGivenNames x1
  clear_value x1
  split
  · extract_lets +onlyGivenNames x2
    clear_value x2
    extract_lets +onlyGivenNames x3
    clear_value x3
    extract_lets +onlyGivenNames x4
    clear_value x4
    extract_lets +onlyGivenNames x5
    clear_value x5
    extract_lets +onlyGivenNames x6
    have h7 : Keeps w s0 x6 := (keeps_nvmWrite h0)
    clear_value x6
    extract_lets +onlyGivenNames x8
    have h9 : Keeps w s0 x8 := (keeps_nvmWrite h7)
    clear_value x8
    extract_lets +onlyGivenNames x10
    have h11 : Keeps w s0 x10 := (ite_keeps h9 (keeps_nvmWrite h9))
    clear_value x10
    extract_lets +onlyGivenNames x12
    have h13 : Keeps w s0 x12 := (keeps_setVar (keeps_setVar h11))
    clear_value x12
    extract_lets +onlyGivenNames x14
    have h15 : Keeps w s0 x14 := (keeps_commitAsk h13)
    clear_value x14
    exact (Keeps.same h15 rfl rfl rfl rfl rfl rfl rfl rfl rfl rfl rfl)
  · exact (keeps_claimRetire (keeps_claimRefuse hq (keeps_setVar (keeps_setVar h0))))
  · exact h0

theorem keeps_execClaimComplete {w : Touch} {s0 s : State} (hq : w.ports = true) (h0 : Keeps w s0 s) : OutP (Keeps w s0)
      (execClaimComplete s) := by
  unfold execClaimComplete
  extract_lets +onlyGivenNames x1
  clear_value x1
  split
  · refine ite_keeps ?_ (out_next h0)
    extract_lets +onlyGivenNames x2
    clear_value x2
    extract_lets +onlyGivenNames x3
    clear_value x3
    extract_lets +onlyGivenNames x4
    clear_value x4
    extract_lets +onlyGivenNames x5
    have h6 : Keeps w s0 x5 := (Keeps.same h0 rfl rfl rfl rfl rfl rfl rfl rfl rfl rfl rfl)
    clear_value x5
    extract_lets +onlyGivenNames x7
    have h8 : Keeps w s0 x7 := (keeps_setO (keeps_setO (keeps_setO h6)))
    clear_value x7
    extract_lets +onlyGivenNames x9
    have h10 : Keeps w s0 x9 := (keeps_setO h8)
    clear_value x9
    extract_lets +onlyGivenNames x11
    have h12 : Keeps w s0 x11 := (ite_keeps (keeps_setOB h10) h10)
    clear_value x11
    extract_lets +onlyGivenNames x13
    have h14 : Keeps w s0 x13 := (ite_keeps (keeps_stopT h12) h12)
    clear_value x13
    extract_lets +onlyGivenNames x15
    have h16 : Keeps w s0 x15 := (keeps_post (keeps_setVar (keeps_setVar h14)))
    clear_value x15
    extract_lets +onlyGivenNames x17
    have h18 : Keeps w s0 x17 := (keeps_record h16)
    clear_value x17
    extract_lets +onlyGivenNames x19
    clear_value x19
    exact (out_next (keeps_claimRetire (keeps_respond hq h18)))
  · exact (out_next h0)

theorem keeps_keyRevoke {w : Touch} {s0 s : State} {a0 a1} (h0 : Keeps w s0 s) : PairP (Keeps w s0) (keyRevoke a0 a1 s) := by
  unfold keyRevoke
  refine ite_keeps (pair_mk h0) ?_
  refine ite_keeps (pair_mk h0) ?_
  extract_lets +onlyGivenNames x1
  have h2 : Keeps w s0 x1 := (keeps_nvmWrite h0)
  clear_value x1
  extract_lets +onlyGivenNames x3
  have h4 : Keeps w s0 x3 := (keeps_post (keeps_clearSlot h2))
  clear_value x3
  exact (pair_mk (keeps_record h4))

theorem keeps_keyRelease {w : Touch} {s0 s : State} {a0 a1 a2} (ho : w.otp = true) (h0 : Keeps w s0 s) : PairP (Keeps w s0)
      (keyRelease a0 a1 a2 s) := by
  unfold keyRelease
  refine ite_keeps (pair_mk h0) ?_
  split
  · have h1 := pair_of_eq (Q := Keeps w s0) (by assumption) (keeps_genAdvance ho h0)
    refine ite_keeps ?_ (pair_mk h1)
    extract_lets +onlyGivenNames x2
    have h3 : Keeps w s0 x2 := (keeps_nvmWrite h1)
    clear_value x2
    exact (pair_mk (keeps_record h3))

theorem keeps_snapCmd {w : Touch} {s0 s : State} {a0} (h0 : Keeps w s0 s) : PairP (Keeps w s0) (snapCmd a0 s) := by
  unfold snapCmd
  extract_lets +onlyGivenNames x1
  clear_value x1
  refine ite_keeps (ite_keeps (pair_mk h0) (pair_mk (keeps_setFlag (keeps_setO (Keeps.same h0 rfl rfl rfl rfl rfl rfl rfl rfl
      rfl rfl rfl))))) ?_
  refine ite_keeps ?_ (pair_mk h0)
  refine pair_mk ?_
  refine keeps_setFlag ?_
  refine keeps_setO ?_
  extract_lets +onlyGivenNames x2
  have h3 : Keeps w s0 x2 := (keeps_discardJob h0)
  clear_value x2
  exact (Keeps.same h3 rfl rfl rfl rfl rfl rfl rfl rfl rfl rfl rfl)

theorem keeps_snapTick {w : Touch} {s0 s : State} (h0 : Keeps w s0 s) : Keeps w s0 (snapTick s) := by
  unfold snapTick
  refine ite_keeps ?_ (ite_keeps (keeps_jobRequest (keeps_setO h0)) h0)
  extract_lets +onlyGivenNames x1
  clear_value x1
  exact (keeps_setVar (Keeps.same h0 rfl rfl rfl rfl rfl rfl rfl rfl rfl rfl rfl))

theorem keeps_execSnapReady {w : Touch} {s0 s : State} (h0 : Keeps w s0 s) : OutP (Keeps w s0) (execSnapReady s) := by
  unfold execSnapReady
  extract_lets +onlyGivenNames x1
  clear_value x1
  refine ite_keeps ?_ (out_next h0)
  extract_lets +onlyGivenNames x2
  have h3 : Keeps w s0 x2 := (keeps_setVar h0)
  clear_value x2
  extract_lets +onlyGivenNames x4
  clear_value x4
  refine ite_keeps ?_ (out_next (keeps_record (keeps_setO h3)))
  split
  · have h5 := pair_of_eq (Q := Keeps w s0) (by assumption) (keeps_signWith h3)
    extract_lets +onlyGivenNames x6
    have h7 : Keeps w s0 x6 := (Keeps.same h5 rfl rfl rfl rfl rfl rfl rfl rfl rfl rfl rfl)
    clear_value x6
    exact (out_next (keeps_record (keeps_post (keeps_setO h7))))

theorem keeps_securityBoot {w : Touch} {s0 s : State} {a0} (h0 : Keeps w s0 s) : Keeps w s0 (securityBoot a0 s) := by
  unfold securityBoot
  extract_lets +onlyGivenNames x1
  have h2 : Keeps w s0 x1 := (keeps_identityBoot h0)
  clear_value x1
  extract_lets +onlyGivenNames x3
  clear_value x3
  extract_lets +onlyGivenNames x4
  have h5 : Keeps w s0 x4 := (keeps_setO (keeps_setO h2))
  clear_value x4
  extract_lets +onlyGivenNames x6
  have h7 : Keeps w s0 x6 := (keeps_setBit (keeps_setBit h5))
  clear_value x6
  extract_lets +onlyGivenNames x8
  have h9 : Keeps w s0 x8 := (forRange_keeps h7 fun _ _ k10 => (keeps_setVar (keeps_setVar (keeps_clearSlot k10))))
  clear_value x8
  extract_lets +onlyGivenNames x11
  have h12 : Keeps w s0 x11 := (Keeps.same h9 rfl rfl rfl rfl rfl rfl rfl rfl rfl rfl rfl)
  clear_value x11
  extract_lets +onlyGivenNames x13
  have h14 : Keeps w s0 x13 := (keeps_setVar (keeps_setVar (keeps_setO h12)))
  clear_value x13
  extract_lets +onlyGivenNames x15
  have h16 : Keeps w s0 x15 := (keeps_setFlag (keeps_countersLoad (keeps_stopT (keeps_setVar h14))))
  clear_value x15
  exact (ite_keeps h16 (keeps_raiseAction h16))

end Sys2Proof.Machine
end

