-- ==== Sys2Proof/Laws/KeepsThermal.lean ====
section
/-!
SUPPORT. What the definitions of Machine/Thermal.lean keep: each passes on the queue, the canonical form, the programmed fuses, and
every part that its hypotheses do not let it write.
-/

namespace Sys2Proof.Machine
open State

theorem keeps_setScale {w : Touch} {s0 s : State} {a0} (h0 : Keeps w s0 s) : Keeps w s0 (setScale a0 s) := by
  unfold setScale
  extract_lets +onlyGivenNames x1
  clear_value x1
  refine ite_keeps h0 ?_
  extract_lets +onlyGivenNames x2
  have h3 : Keeps w s0 x2 := (keeps_setBit (keeps_setBit (keeps_setO h0)))
  clear_value x2
  extract_lets +onlyGivenNames x4
  clear_value x4
  extract_lets +onlyGivenNames x5
  have h6 : Keeps w s0 x5 := (ite_keeps (keeps_setVar (keeps_setVar (keeps_raise (keeps_post h3)))) (keeps_setVar h3))
  clear_value x5
  extract_lets +onlyGivenNames x7
  have h8 : Keeps w s0 x7 := (ite_keeps (keeps_raise (keeps_post h6)) (keeps_condOff h6))
  clear_value x7
  exact (ite_keeps (keeps_record (keeps_condOff (keeps_post h8))) h8)

theorem keeps_sensorBreak {w : Touch} {s0 s : State} {a0 a1} (h0 : Keeps w s0 s) : Keeps w s0 (sensorBreak a0 a1 s) := by
  unfold sensorBreak
  extract_lets +onlyGivenNames x1
  have h2 : Keeps w s0 x1 := (keeps_setVar (keeps_setO h0))
  clear_value x1
  refine ite_keeps h2 ?_
  extract_lets +onlyGivenNames x3
  have h4 : Keeps w s0 x3 := (keeps_setVar (keeps_setBit h2))
  clear_value x3
  exact (keeps_raise h4)

theorem keeps_sensorValid {w : Touch} {s0 s : State} {a0 a1} (h0 : Keeps w s0 s) : Keeps w s0 (sensorValid a0 a1 s) := by
  unfold sensorValid
  extract_lets +onlyGivenNames x1
  have h2 : Keeps w s0 x1 := (keeps_setVar (keeps_addVar h0))
  clear_value x1
  refine ite_keeps h2 ?_
  extract_lets +onlyGivenNames x3
  have h4 : Keeps w s0 x3 := (keeps_setO h2)
  clear_value x3
  exact (ite_keeps (ite_keeps (keeps_raise h4) (keeps_condOff h4)) h4)

theorem keeps_takeSensor {w : Touch} {s0 s : State} {a0} (h0 : Keeps w s0 s) : Keeps w s0 (takeSensor a0 s) := by
  unfold takeSensor
  extract_lets +onlyGivenNames x1
  clear_value x1
  refine ite_keeps ?_ ?_
  · extract_lets +onlyGivenNames x2
    have h3 : Keeps w s0 x2 := (keeps_setVar h0)
    clear_value x2
    split
    · exact (keeps_sensorBreak h3)
    · exact (keeps_sensorValid h3)
  · refine ite_keeps ?_ ?_
    · extract_lets +onlyGivenNames x4
      clear_value x4
      exact (ite_keeps (keeps_sensorBreak h0) (ite_keeps (keeps_sensorBreak h0) (ite_keeps (keeps_sensorBreak h0)
          (keeps_sensorValid h0))))
    · refine ite_keeps ?_ (keeps_setVar h0)
      extract_lets +onlyGivenNames x5
      clear_value x5
      exact (ite_keeps (keeps_sensorBreak h0) (ite_keeps (keeps_sensorBreak h0) (keeps_sensorValid h0)))

theorem keeps_dieShutdown {w : Touch} {s0 s : State} (h0 : Keeps w s0 s) : Keeps w s0 (dieShutdown s) := by
  unfold dieShutdown
  exact (ite_keeps (keeps_raise (keeps_setBit h0)) h0)

theorem keeps_thermalShow {w : Touch} {s0 s : State} (h0 : Keeps w s0 s) : Keeps w s0 (thermalShow s) := by
  unfold thermalShow
  extract_lets +onlyGivenNames x1
  clear_value x1
  extract_lets +onlyGivenNames x2
  have h3 : Keeps w s0 x2 := (ite_keeps (keeps_setO h0) h0)
  clear_value x2
  extract_lets +onlyGivenNames x4
  have h5 : Keeps w s0 x4 := (ite_keeps (keeps_setO h3) h3)
  clear_value x4
  extract_lets +onlyGivenNames x6
  clear_value x6
  extract_lets +onlyGivenNames x7
  have h8 : Keeps w s0 x7 := (keeps_setBit (keeps_setO h5))
  clear_value x7
  extract_lets +onlyGivenNames x9
  clear_value x9
  extract_lets +onlyGivenNames x10
  have h11 : Keeps w s0 x10 := (keeps_setO h8)
  clear_value x10
  split
  · exact (keeps_setO (keeps_setO h11))

theorem keeps_hkTake {w : Touch} {s0 s : State} {a0} (h0 : Keeps w s0 s) : Keeps w s0 (hkTake a0 s) := by
  unfold hkTake
  extract_lets +onlyGivenNames x1
  have h2 : Keeps w s0 x1 := (ite_keeps (keeps_takeSensor h0) h0)
  clear_value x1
  extract_lets +onlyGivenNames x3
  clear_value x3
  extract_lets +onlyGivenNames x4
  have h5 : Keeps w s0 x4 := (keeps_setO h2)
  clear_value x4
  exact (ite_keeps (keeps_dieShutdown (keeps_thermalShow h5)) h5)

theorem keeps_hkCalibrate {w : Touch} {s0 s : State} (h0 : Keeps w s0 s) : Keeps w s0 (hkCalibrate s) := by
  unfold hkCalibrate
  extract_lets +onlyGivenNames x1
  have h2 : Keeps w s0 x1 := (keeps_bump h0)
  clear_value x1
  exact (ite_keeps (keeps_condOff (keeps_setBit (keeps_setO h2))) (keeps_setBit (keeps_bump (keeps_bumpSat h2))))

theorem keeps_hkSlots {w : Touch} {s0 s : State} (h0 : Keeps w s0 s) : Keeps w s0 (hkSlots s) := by
  unfold hkSlots
  extract_lets +onlyGivenNames x1
  clear_value x1
  exact (ite_keeps (keeps_hkCalibrate h0) (ite_keeps (keeps_hkTake h0) h0))

theorem keeps_thermalTick {w : Touch} {s0 s : State} (h0 : Keeps w s0 s) : Keeps w s0 (thermalTick s) := by
  unfold thermalTick
  extract_lets +onlyGivenNames x1
  clear_value x1
  exact (ite_keeps (keeps_setScale h0) h0)

theorem keeps_thermalRound {w : Touch} {s0 s : State} (h0 : Keeps w s0 s) : Keeps w s0 (thermalRound s) := by
  unfold thermalRound
  extract_lets +onlyGivenNames x1
  have h2 : Keeps w s0 x1 := (ite_keeps (keeps_bump h0) h0)
  clear_value x1
  exact (ite_keeps (keeps_setScale h2) h2)

theorem keeps_execCalibrationFailure {w : Touch} {s0 s : State} (h0 : Keeps w s0 s) : OutP (Keeps w s0)
      (execCalibrationFailure s) := by
  unfold execCalibrationFailure
  refine ite_keeps ?_ (out_next h0)
  extract_lets +onlyGivenNames x1
  have h2 : Keeps w s0 x1 := (keeps_raise h0)
  clear_value x1
  exact (out_next (keeps_thermalShow (forRange_keeps h2 fun _ _ k3 => (ite_keeps (keeps_sensorBreak k3) k3))))

theorem keeps_execSensorRestored {w : Touch} {s0 s : State} (h0 : Keeps w s0 s) : OutP (Keeps w s0) (execSensorRestored s) :=
      by
  unfold execSensorRestored
  split
  · extract_lets +onlyGivenNames x1
    have h2 : Keeps w s0 x1 := (keeps_setO (keeps_condOff (keeps_setBit h0)))
    clear_value x1
    exact (out_next (keeps_thermalShow (keeps_record (keeps_post h2))))
  · exact (out_next h0)

end Sys2Proof.Machine
end

