-- ==== Sys2Proof/Laws/KeepsCollie.lean ====
section
/-!
SUPPORT. What the definitions of Machine/Collie.lean keep: each passes on the queue, the canonical form, the programmed fuses, and
every part that its hypotheses do not let it write.
-/

namespace Sys2Proof.Machine
open State

theorem keeps_senseOne {w : Touch} {s0 s : State} {a0} (h0 : Keeps w s0 s) : Keeps w s0 (senseOne a0 s) := by
  unfold senseOne
  extract_lets +onlyGivenNames x1
  clear_value x1
  extract_lets +onlyGivenNames x2
  clear_value x2
  extract_lets +onlyGivenNames x3
  clear_value x3
  extract_lets +onlyGivenNames x4
  clear_value x4
  extract_lets +onlyGivenNames x5
  have h6 : Keeps w s0 x5 := (keeps_setFlag h0)
  clear_value x5
  extract_lets +onlyGivenNames x7
  have h8 : Keeps w s0 x7 := (ite_keeps h6 (keeps_setFlag h6))
  clear_value x7
  exact (ite_keeps (ite_keeps (keeps_bump h8) (keeps_setFlag (keeps_setFlag h8))) h8)

theorem keeps_claimBy {w : Touch} {s0 s : State} {a0} (h0 : Keeps w s0 s) : PairP (Keeps w s0) (claimBy a0 s) := by
  unfold claimBy
  split
  · extract_lets +onlyGivenNames x1
    have h2 : Keeps w s0 x1 := (keeps_bump (keeps_setFlag (keeps_setFlag h0)))
    clear_value x1
    extract_lets +onlyGivenNames x3
    clear_value x3
    extract_lets +onlyGivenNames x4
    have h5 : Keeps w s0 x4 := (ite_keeps h2 (keeps_startT h2))
    clear_value x4
    exact (pair_mk (keeps_setO h5))
  · exact (pair_mk (keeps_setO (keeps_bump h0)))

theorem keeps_canClaim {w : Touch} {s0 s : State} {a0 a1} (h0 : Keeps w s0 s) : Keeps w s0 (canClaim a0 a1 s) := by
  induction a1 generalizing s with
  | zero => exact h0
  | succ n ih =>
    unfold canClaim
    refine ite_keeps ?_ h0
    split
    have h1 := pair_of_eq (Q := Keeps w s0) (by assumption) (keeps_claimBy h0)
    exact ih (keeps_setO (Keeps.same h1 rfl rfl rfl rfl rfl rfl rfl rfl rfl rfl rfl))

theorem keeps_irqSlot {w : Touch} {s0 s : State} (h0 : Keeps w s0 s) : Keeps w s0 (irqSlot s) := by
  unfold irqSlot
  extract_lets +onlyGivenNames x1
  have h2 : Keeps w s0 x1 := (forRange_keeps h0 fun _ _ k3 => (keeps_senseOne k3))
  clear_value x1
  extract_lets +onlyGivenNames x4
  have h5 : Keeps w s0 x4 := (keeps_canClaim (keeps_canClaim h2))
  clear_value x4
  exact (keeps_setFlag (keeps_setFlag h5))

theorem keeps_execHoldoffExpiry {w : Touch} {s0 s : State} {a0} (h0 : Keeps w s0 s) : OutP (Keeps w s0) (execHoldoffExpiry a0
      s) := by
  unfold execHoldoffExpiry
  exact (ite_keeps (out_next (keeps_stopT h0)) (out_next h0))

theorem keeps_irqClear {w : Touch} {s0 s : State} {a0} (h0 : Keeps w s0 s) : PairP (Keeps w s0) (irqClear a0 s) := by
  unfold irqClear
  exact (pair_mk (forRange_keeps h0 fun _ _ k1 => (ite_keeps (keeps_setFlag k1) k1)))

theorem keeps_irqSave {w : Touch} {s0 s : State} (h0 : Keeps w s0 s) : Keeps w s0 (irqSave s) := by
  unfold irqSave
  extract_lets +onlyGivenNames x1
  have h2 : Keeps w s0 x1 := (forRange_keeps h0 fun _ _ k3 => (keeps_setVar (keeps_setVar k3)))
  clear_value x1
  exact (forRange_keeps h2 fun _ _ k4 => (keeps_setVar k4))

theorem keeps_irqRestore {w : Touch} {s0 s : State} {a0} (h0 : Keeps w s0 s) : Keeps w s0 (irqRestore a0 s) := by
  unfold irqRestore
  extract_lets +onlyGivenNames x1
  have h2 : Keeps w s0 x1 := by
    unfold x1
    refine forRange_keeps h0 fun _ _ h5 => ?_
    extract_lets +onlyGivenNames x6
    have h7 : Keeps w s0 x6 := (keeps_setVar h5)
    clear_value x6
    exact (keeps_setFlag (keeps_setVar h7))
  clear_value x1
  extract_lets +onlyGivenNames x8
  have h9 : Keeps w s0 x8 := (forRange_keeps h2 fun _ _ k10 => (keeps_setO k10))
  clear_value x8
  extract_lets +onlyGivenNames x11
  have h12 : Keeps w s0 x11 := (forRange_keeps h9 fun _ _ k13 => (keeps_setVar (keeps_setVar k13)))
  clear_value x11
  extract_lets +onlyGivenNames x14
  have h15 : Keeps w s0 x14 := (forRange_keeps h12 fun _ _ k16 => (keeps_setVar k16))
  clear_value x14
  extract_lets +onlyGivenNames x17
  have h18 : Keeps w s0 x17 := (forRange_keeps h15 fun _ _ k19 => (keeps_stopT k19))
  clear_value x17
  extract_lets +onlyGivenNames x20
  clear_value x20
  extract_lets +onlyGivenNames x21
  have h22 : Keeps w s0 x21 := (Keeps.same h18 rfl rfl rfl rfl rfl rfl rfl rfl rfl rfl rfl)
  clear_value x21
  extract_lets +onlyGivenNames x23
  have h24 : Keeps w s0 x23 := (keeps_setOB (keeps_setO (keeps_setO h22)))
  clear_value x23
  exact (keeps_record (keeps_setFlag (keeps_setFlag h24)))

theorem keeps_suspensionEnd {w : Touch} {s0 s : State} {a0} (h0 : Keeps w s0 s) : Keeps w s0 (suspensionEnd a0 s) := by
  unfold suspensionEnd
  exact (keeps_record (keeps_post (keeps_stopT h0)))

theorem keeps_collieGo {w : Touch} {s0 s : State} {a0} (h0 : Keeps w s0 s) : Keeps w s0 (collieGo a0 s) := by
  unfold collieGo
  exact (keeps_setVar (keeps_setOB (keeps_setO h0)))

theorem keeps_collieMode {w : Touch} {s0 s : State} (h0 : Keeps w s0 s) : Keeps w s0 (collieMode s) := by
  unfold collieMode
  extract_lets +onlyGivenNames x1
  clear_value x1
  exact (ite_keeps h0 (ite_keeps (ite_keeps (keeps_collieGo h0) h0) (ite_keeps h0 (keeps_collieGo (ite_keeps
      (keeps_suspensionEnd h0) h0)))))

theorem keeps_execCollieTick {w : Touch} {s0 s : State} (h0 : Keeps w s0 s) : OutP (Keeps w s0) (execCollieTick s) := by
  unfold execCollieTick
  refine ite_keeps ?_ (out_next h0)
  extract_lets +onlyGivenNames x1
  have h2 : Keeps w s0 x1 := (keeps_setVar h0)
  clear_value x1
  refine ite_keeps (out_next (keeps_setO (keeps_collieGo h2))) ?_
  refine ite_keeps ?_ (out_next h2)
  extract_lets +onlyGivenNames x3
  have h4 : Keeps w s0 x3 := (keeps_bumpSat h2)
  clear_value x3
  exact (out_next (keeps_setFlag h4))

theorem keeps_collieExpire {w : Touch} {s0 s : State} {a0} (h0 : Keeps w s0 s) : Keeps w s0 (collieExpire a0 s) := by
  unfold collieExpire
  extract_lets +onlyGivenNames x1
  have h2 : Keeps w s0 x1 := (keeps_setO (keeps_setO h0))
  clear_value x1
  extract_lets +onlyGivenNames x3
  have h4 : Keeps w s0 x3 := (keeps_setO (keeps_setO h2))
  clear_value x3
  extract_lets +onlyGivenNames x5
  have h6 : Keeps w s0 x5 := (keeps_setO (keeps_setO h4))
  clear_value x5
  extract_lets +onlyGivenNames x7
  have h8 : Keeps w s0 x7 := (keeps_raiseActionLater (keeps_bump (keeps_setO h6)))
  clear_value x7
  exact (keeps_collieGo h8)

theorem keeps_execCollieExpiry {w : Touch} {s0 s : State} (h0 : Keeps w s0 s) : OutP (Keeps w s0) (execCollieExpiry s) := by
  unfold execCollieExpiry
  exact (ite_keeps (out_next (keeps_collieExpire h0)) (out_next h0))

theorem keeps_execSuspensionExpiry {w : Touch} {s0 s : State} (h0 : Keeps w s0 s) : OutP (Keeps w s0) (execSuspensionExpiry
      s) := by
  unfold execSuspensionExpiry
  exact (ite_keeps (out_next (keeps_collieExpire (keeps_suspensionEnd h0))) (out_next h0))

theorem keeps_collieServe {w : Touch} {s0 s : State} {a0 a1} (h0 : Keeps w s0 s) : PairP (Keeps w s0) (collieServe a0 a1 s)
      := by
  unfold collieServe
  extract_lets +onlyGivenNames x1
  clear_value x1
  extract_lets +onlyGivenNames x2
  clear_value x2
  extract_lets +onlyGivenNames x3
  clear_value x3
  refine ite_keeps (pair_mk h0) ?_
  refine ite_keeps (pair_mk (keeps_raiseActionLater h0)) ?_
  refine ite_keeps (pair_mk h0) ?_
  refine ite_keeps (pair_mk (keeps_raiseActionLater h0)) ?_
  refine ite_keeps (pair_mk (keeps_raiseActionLater h0)) ?_
  extract_lets +onlyGivenNames x4
  have h5 : Keeps w s0 x4 := (keeps_setO (keeps_setO (keeps_setO h0)))
  clear_value x4
  extract_lets +onlyGivenNames x6
  have h7 : Keeps w s0 x6 := (keeps_setO h5)
  clear_value x6
  exact (pair_mk (keeps_collieGo (keeps_bump (keeps_setO h7))))

theorem keeps_collieCheckin {w : Touch} {s0 s : State} {a0} (h0 : Keeps w s0 s) : PairP (Keeps w s0) (collieCheckin a0 s) :=
      by
  unfold collieCheckin
  exact (ite_keeps (pair_mk h0) (ite_keeps (pair_mk h0) (ite_keeps (pair_mk (keeps_raiseActionLater (keeps_bump h0)))
      (pair_mk (keeps_setBit h0)))))

theorem keeps_hostbusyWrite {w : Touch} {s0 s : State} {a0} (h0 : Keeps w s0 s) : PairP (Keeps w s0) (hostbusyWrite a0 s) :=
      by
  unfold hostbusyWrite
  extract_lets +onlyGivenNames x1
  clear_value x1
  refine ite_keeps ?_ (ite_keeps (pair_mk (ite_keeps (keeps_collieGo (keeps_suspensionEnd h0)) h0)) (pair_mk h0))
  refine ite_keeps ?_ (ite_keeps (pair_mk h0) (pair_mk h0))
  extract_lets +onlyGivenNames x2
  have h3 : Keeps w s0 x2 := (keeps_setVar (keeps_startTR (keeps_collieGo h0)))
  clear_value x2
  exact (pair_mk (keeps_record (keeps_post h3)))

theorem keeps_collieEn {w : Touch} {s0 s : State} {a0 a1} (h0 : Keeps w s0 s) : PairP (Keeps w s0) (collieEn a0 a1 s) := by
  unfold collieEn
  refine ite_keeps (pair_mk h0) ?_
  extract_lets +onlyGivenNames x1
  have h2 : Keeps w s0 x1 := (ite_keeps (keeps_suspensionEnd h0) h0)
  clear_value x1
  extract_lets +onlyGivenNames x3
  have h4 : Keeps w s0 x3 := (keeps_record (keeps_setO h2))
  clear_value x3
  exact (ite_keeps (pair_mk (keeps_setO (keeps_collieGo h4))) (pair_mk (keeps_collieGo h4)))

theorem keeps_collieBoot {w : Touch} {s0 s : State} (h0 : Keeps w s0 s) : Keeps w s0 (collieBoot s) := by
  unfold collieBoot
  extract_lets +onlyGivenNames x1
  have h2 : Keeps w s0 x1 := (keeps_stopT (keeps_collieGo h0))
  clear_value x1
  extract_lets +onlyGivenNames x3
  have h4 : Keeps w s0 x3 := (keeps_setO (keeps_setO h2))
  clear_value x3
  exact (ite_keeps (keeps_collieGo h4) h4)

end Sys2Proof.Machine
end

