-- ==== Sys2Proof/Laws/KeepsImage.lean ====
section
/-!
SUPPORT. What the definitions of Machine/Image.lean keep: each passes on the queue, the canonical form, the programmed fuses, and
every part that its hypotheses do not let it write.
-/

namespace Sys2Proof.Machine
open State

theorem keeps_estRecordLoad {w : Touch} {s0 s : State} (h0 : Keeps w s0 s) : Keeps w s0 (estRecordLoad s) := by
  unfold estRecordLoad
  extract_lets +onlyGivenNames x1
  have h2 : Keeps w s0 x1 := (keeps_estLoad h0)
  clear_value x1
  refine ite_keeps h2 ?_
  refine forRange_keeps h2 fun _ _ h6 => ?_
  split
  · exact (keeps_setO h6)
  · exact h6

theorem keeps_configEffects {w : Touch} {s0 s : State} {a0 a1} (h0 : Keeps w s0 s) : Keeps w s0 (configEffects a0 a1 s) := by
  unfold configEffects
  extract_lets +onlyGivenNames x1
  clear_value x1
  extract_lets +onlyGivenNames x2
  have h3 : Keeps w s0 x2 := by
    unfold x2
    refine forRange_keeps h0 fun _ _ h6 => ?_
    extract_lets +onlyGivenNames x7
    have h8 : Keeps w s0 x7 := (ite_keeps (keeps_listApplied h6) h6)
    clear_value x7
    extract_lets +onlyGivenNames x9
    have h10 : Keeps w s0 x9 := (ite_keeps (keeps_gridApplied h8) h8)
    clear_value x9
    extract_lets +onlyGivenNames x11
    have h12 : Keeps w s0 x11 := (ite_keeps (keeps_slewFlag h10) h10)
    clear_value x11
    exact (ite_keeps (forEach_keeps h12 fun _ _ k13 => (keeps_wearRescore k13)) h12)
  clear_value x2
  extract_lets +onlyGivenNames x14
  have h15 : Keeps w s0 x14 := by
    unfold x14
    refine forRange_keeps h3 fun _ _ h18 => ?_
    extract_lets +onlyGivenNames x19
    have h20 : Keeps w s0 x19 := (ite_keeps (keeps_slewFlag h18) h18)
    clear_value x19
    exact (ite_keeps (keeps_buckGridApplied h20) h20)
  clear_value x14
  extract_lets +onlyGivenNames x21
  have h22 : Keeps w s0 x21 := (ite_keeps (keeps_referenceChange h15) h15)
  clear_value x21
  extract_lets +onlyGivenNames x23
  have h24 : Keeps w s0 x23 := (ite_keeps (keeps_capUnlearned h22) h22)
  clear_value x23
  extract_lets +onlyGivenNames x25
  have h26 : Keeps w s0 x25 := (ite_keeps (keeps_collieMode h24) h24)
  clear_value x25
  extract_lets +onlyGivenNames x27
  have h28 : Keeps w s0 x27 := (ite_keeps (keeps_showLeader h26) h26)
  clear_value x27
  extract_lets +onlyGivenNames x29
  have h30 : Keeps w s0 x29 := (ite_keeps (keeps_teamEnApplied h28) h28)
  clear_value x29
  extract_lets +onlyGivenNames x31
  have h32 : Keeps w s0 x31 := (ite_keeps (keeps_syncOutRestart h30) h30)
  clear_value x31
  exact (ite_keeps (keeps_showTable h32) h32)

theorem keeps_applyValue {w : Touch} {s0 s : State} {a0 a1} (h0 : Keeps w s0 s) : Keeps w s0 (applyValue a0 a1 s) := by
  unfold applyValue
  exact (ite_keeps h0 (keeps_configEffects (keeps_setO h0)))

theorem keeps_applyDeferred {w : Touch} {s0 s : State} {a0} (h0 : Keeps w s0 s) : Keeps w s0 (applyDeferred a0 s) := by
  unfold applyDeferred
  extract_lets +onlyGivenNames x1
  clear_value x1
  extract_lets +onlyGivenNames x2
  have h3 : Keeps w s0 x2 := (Keeps.same h0 rfl rfl rfl rfl rfl rfl rfl rfl rfl rfl rfl)
  clear_value x2
  exact (forEach_keeps h3 fun _ _ k4 => (keeps_applyValue k4))

theorem keeps_newestState {w : Touch} {s0 s : State} (h0 : Keeps w s0 s) : Keeps w s0 (newestState s) := by
  unfold newestState
  exact (forEach_keeps h0 fun _ _ k1 => (keeps_setO k1))

theorem keeps_setRow {w : Touch} {s0 s : State} {a0 a1} (h0 : Keeps w s0 s) : Keeps w s0 (setRow a0 a1 s) := by
  unfold setRow
  exact (forRange_keeps h0 fun _ _ k1 => (forRange_keeps k1 fun _ _ k2 => (keeps_setO k2)))

theorem keeps_patchedDefaults {w : Touch} {s0 s : State} {a0} (h0 : Keeps w s0 s) : Keeps w s0 (patchedDefaults a0 s) := by
  unfold patchedDefaults
  refine forEach_keeps h0 fun _ _ h2 => ?_
  split
  · exact (ite_keeps (keeps_setRow h2) h2)
  · exact h2

theorem keeps_configDefaults {w : Touch} {s0 s : State} (h0 : Keeps w s0 s) : Keeps w s0 (configDefaults s) := by
  unfold configDefaults
  exact (keeps_patchedDefaults (keeps_keepObjs h0))

theorem keeps_configFrom {w : Touch} {s0 s : State} {a0} (h0 : Keeps w s0 s) : Keeps w s0 (configFrom a0 s) := by
  unfold configFrom
  exact (forEach_keeps (keeps_configDefaults h0) fun _ _ k1 => (keeps_setO k1))

theorem keeps_writeTrailer {w : Touch} {s0 s : State} {a0 a1 a2 a3 a4 a5 a6} (h0 : Keeps w s0 s) : Keeps w s0 (writeTrailer
      a0 a1 a2 a3 a4 a5 a6 s) := by
  unfold writeTrailer
  exact (keeps_nvmWrite h0)

theorem keeps_setStage {w : Touch} {s0 s : State} {a0 a1} (h0 : Keeps w s0 s) : Keeps w s0 (setStage a0 a1 s) := by
  unfold setStage
  exact (keeps_setO (keeps_setO (keeps_setO h0)))

theorem keeps_showStage {w : Touch} {s0 s : State} (h0 : Keeps w s0 s) : Keeps w s0 (showStage s) := by
  unfold showStage
  extract_lets +onlyGivenNames x1
  clear_value x1
  extract_lets +onlyGivenNames x2
  clear_value x2
  exact (keeps_setStage (keeps_setVar h0))

theorem keeps_showActive {w : Touch} {s0 s : State} (h0 : Keeps w s0 s) : Keeps w s0 (showActive s) := by
  unfold showActive
  extract_lets +onlyGivenNames x1
  clear_value x1
  extract_lets +onlyGivenNames x2
  clear_value x2
  extract_lets +onlyGivenNames x3
  have h4 : Keeps w s0 x3 := (keeps_setO (keeps_setO (keeps_setO h0)))
  clear_value x3
  exact (keeps_showStage h4)

theorem keeps_patchWord {w : Touch} {s0 s : State} {a0 a1} (h0 : Keeps w s0 s) : PairP (Keeps w s0) (patchWord a0 a1 s) := by
  unfold patchWord
  split
  · extract_lets +onlyGivenNames x1
    clear_value x1
    split
    · extract_lets +onlyGivenNames x2
      clear_value x2
      extract_lets +onlyGivenNames x3
      clear_value x3
      extract_lets +onlyGivenNames x4
      clear_value x4
      exact (ite_keeps (ite_keeps (pair_mk (keeps_setRom h0)) (pair_mk h0)) (ite_keeps (ite_keeps (pair_mk (keeps_setVar h0))
          (pair_mk h0)) (ite_keeps (ite_keeps (pair_mk (keeps_setVar h0)) (pair_mk h0)) (ite_keeps (pair_mk h0) (pair_mk
          h0)))))
    · exact (pair_mk h0)

theorem keeps_patchBoot {w : Touch} {s0 s : State} {a0} (h0 : Keeps w s0 s) : Keeps w s0 (patchBoot a0 s) := by
  unfold patchBoot
  extract_lets +onlyGivenNames x1
  have h2 : Keeps w s0 x1 := (keeps_setBit (keeps_setO (keeps_setO (keeps_setO h0))))
  clear_value x1
  extract_lets +onlyGivenNames x3
  have h4 : Keeps w s0 x3 := (keeps_setVar (keeps_clearRom h2))
  clear_value x3
  refine forRange_keeps h4 fun _ _ h6 => ?_
  split
  · exact h6
  · exact (keeps_addVar (keeps_setBit h6))
  · split
    · have h7 := pair_of_eq (Q := Keeps w s0) (by assumption) (keeps_patchWord h6)
      refine ite_keeps ?_ (keeps_addVar (keeps_setBit h7))
      extract_lets +onlyGivenNames x8
      have h9 : Keeps w s0 x8 := (keeps_addO h7)
      clear_value x8
      exact (ite_keeps (keeps_setBit h9) (keeps_setBit h9))

theorem keeps_showConstants {w : Touch} {s0 s : State} (h0 : Keeps w s0 s) : Keeps w s0 (showConstants s) := by
  unfold showConstants
  exact (forEach_keeps h0 fun _ _ k1 => (keeps_setO k1))

theorem keeps_useBank {w : Touch} {s0 s : State} {a0} (h0 : Keeps w s0 s) : Keeps w s0 (useBank a0 s) := by
  unfold useBank
  extract_lets +onlyGivenNames x1
  clear_value x1
  exact (keeps_configFrom (keeps_setBit (keeps_setVar h0)))

theorem keeps_bankTouch {w : Touch} {s0 s : State} {a0} (h0 : Keeps w s0 s) : Keeps w s0 (bankTouch a0 s) := by
  unfold bankTouch
  exact (keeps_nvmTouch (keeps_nvmTouch h0))

theorem keeps_bankSelect {w : Touch} {s0 s : State} (h0 : Keeps w s0 s) : Keeps w s0 (bankSelect s) := by
  unfold bankSelect
  extract_lets +onlyGivenNames x1
  have h2 : Keeps w s0 x1 := (keeps_bankTouch (keeps_bankTouch (keeps_showConstants h0)))
  clear_value x1
  extract_lets +onlyGivenNames x3
  clear_value x3
  extract_lets +onlyGivenNames x4
  clear_value x4
  extract_lets +onlyGivenNames x5
  clear_value x5
  extract_lets +onlyGivenNames x6
  clear_value x6
  extract_lets +onlyGivenNames x7
  clear_value x7
  extract_lets +onlyGivenNames x8
  clear_value x8
  extract_lets +onlyGivenNames x9
  have h10 : Keeps w s0 x9 := (keeps_setBit (keeps_setBit h2))
  clear_value x9
  extract_lets +onlyGivenNames x11
  clear_value x11
  extract_lets +onlyGivenNames x12
  have h13 : Keeps w s0 x12 := by
    unfold x12
    split
    · exact (keeps_useBank h10)
    · split
      · exact (keeps_raiseAction (keeps_useBank h10))
      · exact (keeps_setBit (keeps_configDefaults (keeps_setVar h10)))
  clear_value x12
  extract_lets +onlyGivenNames x14
  have h15 : Keeps w s0 x14 := (keeps_patchedDefaults h13)
  clear_value x14
  exact (keeps_showActive (keeps_setO (keeps_setVar (keeps_setVar h15))))

theorem keeps_imgCmd {w : Touch} {s0 s : State} {a0} (h0 : Keeps w s0 s) : PairP (Keeps w s0) (imgCmd a0 s) := by
  unfold imgCmd
  exact (ite_keeps (ite_keeps (pair_mk h0) (pair_mk (keeps_setStage (keeps_writeTrailer (keeps_setVar h0))))) (ite_keeps
      (ite_keeps (pair_mk h0) (pair_mk (keeps_jobRequest (keeps_setO (keeps_setO h0))))) (ite_keeps (pair_mk (keeps_setO h0))
      (pair_mk h0))))

theorem keeps_stageWrite {w : Touch} {s0 s : State} {a0 a1} (h0 : Keeps w s0 s) : Keeps w s0 (stageWrite a0 a1 s) := by
  unfold stageWrite
  extract_lets +onlyGivenNames x1
  clear_value x1
  extract_lets +onlyGivenNames x2
  have h3 : Keeps w s0 x2 := (keeps_nvmWrite h0)
  clear_value x2
  extract_lets +onlyGivenNames x4
  have h5 : Keeps w s0 x4 := (keeps_setVar h3)
  clear_value x4
  exact (keeps_setStage (keeps_writeTrailer h5))

theorem keeps_imgVerdict {w : Touch} {s0 s : State} {a0 a1} (h0 : Keeps w s0 s) : Keeps w s0 (imgVerdict a0 a1 s) := by
  unfold imgVerdict
  exact (keeps_setVar (keeps_setVar h0))

theorem keeps_imgSlots {w : Touch} {s0 s : State} (h0 : Keeps w s0 s) : Keeps w s0 (imgSlots s) := by
  unfold imgSlots
  extract_lets +onlyGivenNames x1
  clear_value x1
  refine ite_keeps ?_ ?_
  · extract_lets +onlyGivenNames x2
    extract_lets +onlyGivenNames x3
    have h4 : Keeps w s0 x3 := (keeps_bankTouch (keeps_setVar h0))
    clear_value x3
    split
    · exact (keeps_imgVerdict h4)
    · exact (ite_keeps (keeps_imgVerdict h4) (ite_keeps (keeps_imgVerdict h4) (keeps_jobRequest h4)))
  · refine ite_keeps ?_ h0
    extract_lets +onlyGivenNames x5
    extract_lets +onlyGivenNames x6
    have h7 : Keeps w s0 x6 := (keeps_nvmTouch (keeps_bankTouch (keeps_setVar h0)))
    clear_value x6
    extract_lets +onlyGivenNames x8
    clear_value x8
    extract_lets +onlyGivenNames x9
    clear_value x9
    extract_lets +onlyGivenNames x10
    clear_value x10
    exact (keeps_imgVerdict h7)

theorem keeps_execImgValidationDone {w : Touch} {s0 s : State} (h0 : Keeps w s0 s) : OutP (Keeps w s0) (execImgValidationDone
      s) := by
  unfold execImgValidationDone
  refine ite_keeps ?_ (out_next h0)
  extract_lets +onlyGivenNames x1
  clear_value x1
  extract_lets +onlyGivenNames x2
  clear_value x2
  extract_lets +onlyGivenNames x3
  clear_value x3
  extract_lets +onlyGivenNames x4
  have h5 : Keeps w s0 x4 := (keeps_setO (keeps_setO (keeps_setVar h0)))
  clear_value x4
  extract_lets +onlyGivenNames x6
  clear_value x6
  refine ite_keeps ?_ ?_
  · extract_lets +onlyGivenNames x7
    clear_value x7
    extract_lets +onlyGivenNames x8
    clear_value x8
    extract_lets +onlyGivenNames x9
    have h10 : Keeps w s0 x9 := (keeps_writeTrailer h5)
    clear_value x9
    exact (out_next (keeps_setStage (keeps_record (keeps_post h10))))
  · extract_lets +onlyGivenNames x11
    have h12 : Keeps w s0 x11 := (keeps_raiseActionLater h5)
    clear_value x11
    exact (out_next (ite_keeps (keeps_setStage (keeps_writeTrailer h12)) h12))

theorem keeps_imgActivate {w : Touch} {s0 s : State} {a0} (h0 : Keeps w s0 s) : PairP (Keeps w s0) (imgActivate a0 s) := by
  unfold imgActivate
  refine ite_keeps (pair_mk h0) ?_
  extract_lets +onlyGivenNames x1
  have h2 : Keeps w s0 x1 := (ite_keeps (keeps_bankTouch h0) h0)
  clear_value x1
  exact (ite_keeps (pair_mk h2) (pair_mk (keeps_setVar (keeps_setVar (keeps_setO h2)))))

theorem keeps_imgTick {w : Touch} {s0 s : State} (h0 : Keeps w s0 s) : Keeps w s0 (imgTick s) := by
  unfold imgTick
  extract_lets +onlyGivenNames x1
  clear_value x1
  extract_lets +onlyGivenNames x2
  clear_value x2
  extract_lets +onlyGivenNames x3
  clear_value x3
  exact (keeps_setVar (keeps_setFlag h0))

theorem keeps_execActivation {w : Touch} {s0 s : State} (h0 : Keeps w s0 s) : OutP (Keeps w s0) (execActivation s) := by
  unfold execActivation
  refine ite_keeps ?_ (out_next h0)
  extract_lets +onlyGivenNames x1
  clear_value x1
  extract_lets +onlyGivenNames x2
  clear_value x2
  extract_lets +onlyGivenNames x3
  clear_value x3
  extract_lets +onlyGivenNames x4
  have h5 : Keeps w s0 x4 := (keeps_bankTouch (keeps_setO h0))
  clear_value x4
  refine ite_keeps ?_ (out_next (keeps_record h5))
  extract_lets +onlyGivenNames x6
  have h7 : Keeps w s0 x6 := (ite_keeps (keeps_applyDeferred h5) h5)
  clear_value x6
  extract_lets +onlyGivenNames x8
  have h9 : Keeps w s0 x8 := h7
  clear_value x8
  extract_lets +onlyGivenNames x10
  clear_value x10
  extract_lets +onlyGivenNames x11
  have h12 : Keeps w s0 x11 := (keeps_configFrom h7)
  clear_value x11
  extract_lets +onlyGivenNames x13
  have h14 : Keeps w s0 x13 := (Keeps.same h12 rfl rfl rfl rfl rfl rfl rfl rfl rfl rfl rfl)
  clear_value x13
  extract_lets +onlyGivenNames x15
  have h16 : Keeps w s0 x15 := (keeps_configEffects (keeps_setO h14))
  clear_value x15
  extract_lets +onlyGivenNames x17
  clear_value x17
  extract_lets +onlyGivenNames x18
  clear_value x18
  extract_lets +onlyGivenNames x19
  clear_value x19
  extract_lets +onlyGivenNames x20
  clear_value x20
  extract_lets +onlyGivenNames x21
  clear_value x21
  extract_lets +onlyGivenNames x22
  clear_value x22
  extract_lets +onlyGivenNames x23
  clear_value x23
  extract_lets +onlyGivenNames x24
  have h25 : Keeps w s0 x24 := (keeps_nvmTogether (ite_keeps h16 (keeps_nvmTouch h16)))
  clear_value x24
  extract_lets +onlyGivenNames x26
  have h27 : Keeps w s0 x26 := (keeps_commitAsk (keeps_setVar h25))
  clear_value x26
  extract_lets +onlyGivenNames x28
  have h29 : Keeps w s0 x28 := (keeps_setO (keeps_setO (keeps_setO h27)))
  clear_value x28
  extract_lets +onlyGivenNames x30
  have h31 : Keeps w s0 x30 := (ite_keeps (keeps_showStage h29) (keeps_setVar (keeps_setStage h29)))
  clear_value x30
  extract_lets +onlyGivenNames x32
  have h33 : Keeps w s0 x32 := (keeps_record h31)
  clear_value x32
  exact (out_next (keeps_post h33))

end Sys2Proof.Machine
end

