-- ==== Sys2Proof/Laws/KeepsTest.lean ====
section
/-!
SUPPORT. What the definitions of Machine/Test.lean keep: each passes on the queue, the canonical form, the programmed fuses, and
every part that its hypotheses do not let it write.
-/

namespace Sys2Proof.Machine
open State

theorem keeps_lbCmd {w : Touch} {s0 s : State} {a0 a1 a2} (h0 : Keeps w s0 s) : PairP (Keeps w s0) (lbCmd a0 a1 a2 s) := by
  unfold lbCmd
  refine ite_keeps ?_ (ite_keeps (pair_mk (keeps_setFlag h0)) (pair_mk h0))
  refine ite_keeps (pair_mk h0) ?_
  refine ite_keeps (pair_mk h0) ?_
  extract_lets +onlyGivenNames x1
  have h2 : Keeps w s0 x1 := (keeps_setVar (keeps_setVar (keeps_setFlag h0)))
  clear_value x1
  exact (pair_mk (keeps_setVar h2))

theorem keeps_lbOver {w : Touch} {s0 s : State} {a0 a1} (h0 : Keeps w s0 s) : Keeps w s0 (lbOver a0 a1 s) := by
  unfold lbOver
  extract_lets +onlyGivenNames x1
  have h2 : Keeps w s0 x1 := (keeps_setVar (keeps_setO (keeps_setO h0)))
  clear_value x1
  exact (keeps_setVar (keeps_setVar (keeps_setVar h2)))

theorem keeps_lbAbort {w : Touch} {s0 s : State} {a0 a1} (h0 : Keeps w s0 s) : Keeps w s0 (lbAbort a0 a1 s) := by
  unfold lbAbort
  extract_lets +onlyGivenNames x1
  have h2 : Keeps w s0 x1 := (keeps_post (keeps_lbOver h0))
  clear_value x1
  exact (keeps_record h2)

theorem keeps_lbEnded {w : Touch} {s0 s : State} {a0} (h0 : Keeps w s0 s) : Keeps w s0 (lbEnded a0 s) := by
  unfold lbEnded
  extract_lets +onlyGivenNames x1
  clear_value x1
  extract_lets +onlyGivenNames x2
  have h3 : Keeps w s0 x2 := (keeps_post (keeps_bump (keeps_lbOver h0)))
  clear_value x2
  exact (keeps_record h3)

theorem keeps_lbShow {w : Touch} {s0 s : State} {a0} (h0 : Keeps w s0 s) : Keeps w s0 (lbShow a0 s) := by
  unfold lbShow
  refine ite_keeps ?_ h0
  extract_lets +onlyGivenNames x1
  have h2 : Keeps w s0 x1 := (keeps_addO (keeps_addO h0))
  clear_value x1
  exact (keeps_setVar (keeps_setVar (keeps_setO h2)))

theorem keeps_lbRunTick {w : Touch} {s0 s : State} (h0 : Keeps w s0 s) : Keeps w s0 (lbRunTick s) := by
  unfold lbRunTick
  extract_lets +onlyGivenNames x1
  clear_value x1
  refine ite_keeps ?_ h0
  split
  · exact (keeps_lbAbort h0)
  · extract_lets +onlyGivenNames x2
    have h3 : Keeps w s0 x2 := (keeps_lbShow h0)
    clear_value x2
    exact (ite_keeps (keeps_lbEnded h3) h3)

theorem keeps_lbTick {w : Touch} {s0 s : State} (h0 : Keeps w s0 s) : Keeps w s0 (lbTick s) := by
  unfold lbTick
  extract_lets +onlyGivenNames x1
  have h2 : Keeps w s0 x1 := (keeps_lbRunTick h0)
  clear_value x1
  extract_lets +onlyGivenNames x3
  have h4 : Keeps w s0 x3 := by
    unfold x3
    refine forEach_keeps h2 fun _ _ h7 => ?_
    refine ite_keeps ?_ h7
    extract_lets +onlyGivenNames x8
    have h9 : Keeps w s0 x8 := (keeps_setVar h7)
    clear_value x8
    refine ite_keeps h9 ?_
    extract_lets +onlyGivenNames x10
    have h11 : Keeps w s0 x10 := (keeps_setVar (keeps_setO (keeps_setO h9)))
    clear_value x10
    exact (keeps_setVar (keeps_setVar (keeps_setO (keeps_setO (keeps_setO h11)))))
  clear_value x3
  extract_lets +onlyGivenNames x12
  clear_value x12
  extract_lets +onlyGivenNames x13
  clear_value x13
  extract_lets +onlyGivenNames x14
  clear_value x14
  extract_lets +onlyGivenNames x15
  have h16 : Keeps w s0 x15 := (ite_keeps (keeps_setFlag h4) h4)
  clear_value x15
  exact (keeps_setVar h16)

theorem keeps_lbBoot {w : Touch} {s0 s : State} (h0 : Keeps w s0 s) : Keeps w s0 (lbBoot s) := by
  unfold lbBoot
  exact (ite_keeps (keeps_lbAbort h0) h0)

theorem keeps_execLbIteration {w : Touch} {s0 s : State} {a0} (h0 : Keeps w s0 s) : OutP (Keeps w s0) (execLbIteration a0 s)
      := by
  unfold execLbIteration
  extract_lets +onlyGivenNames x1
  clear_value x1
  refine ite_keeps ?_ (out_next h0)
  split
  · extract_lets +onlyGivenNames x2
    clear_value x2
    extract_lets +onlyGivenNames x3
    have h4 : Keeps w s0 x3 := (keeps_setVar h0)
    clear_value x3
    extract_lets +onlyGivenNames x5
    clear_value x5
    split
    · have h6 := pair_of_eq (Q := Keeps w s0) (by assumption) (keeps_drawFree h4)
      extract_lets +onlyGivenNames x7
      have h8 : Keeps w s0 x7 := (ite_keeps (keeps_setVar h6) (keeps_setVar h4))
      clear_value x7
      extract_lets +onlyGivenNames x9
      have h10 : Keeps w s0 x9 := (ite_keeps (keeps_glitch h8) h8)
      clear_value x9
      extract_lets +onlyGivenNames x11
      have h12 : Keeps w s0 x11 := (ite_keeps (keeps_bump h10) h10)
      clear_value x11
      exact (out_next (ite_keeps (keeps_bump h12) h12))

theorem keeps_execLbRunEnd {w : Touch} {s0 s : State} (h0 : Keeps w s0 s) : OutP (Keeps w s0) (execLbRunEnd s) := by
  unfold execLbRunEnd
  extract_lets +onlyGivenNames x1
  clear_value x1
  exact (ite_keeps (out_next (keeps_setFlag h0)) (out_next h0))

theorem keeps_execLbAbort {w : Touch} {s0 s : State} (h0 : Keeps w s0 s) : OutP (Keeps w s0) (execLbAbort s) := by
  unfold execLbAbort
  extract_lets +onlyGivenNames x1
  clear_value x1
  split
  · exact (out_next (keeps_setVar h0))
  · exact (out_next h0)

theorem keeps_execHarnessReflection {w : Touch} {s0 s : State} {a0} (h0 : Keeps w s0 s) : OutP (Keeps w s0)
      (execHarnessReflection a0 s) := by
  unfold execHarnessReflection
  exact (ite_keeps (out_next (Keeps.same h0 rfl rfl rfl rfl rfl rfl rfl rfl rfl rfl rfl)) (out_next h0))

theorem keeps_showBscan {w : Touch} {s0 s : State} (h0 : Keeps w s0 s) : Keeps w s0 (showBscan s) := by
  unfold showBscan
  exact (keeps_setOB h0)

theorem keeps_bscanWrite {w : Touch} {s0 s : State} {a0} (h0 : Keeps w s0 s) : PairP (Keeps w s0) (bscanWrite a0 s) := by
  unfold bscanWrite
  exact (ite_keeps (pair_mk h0) (ite_keeps (pair_mk (keeps_showBscan (keeps_setO h0))) (pair_mk h0)))

theorem keeps_bscanClear {w : Touch} {s0 s : State} (h0 : Keeps w s0 s) : Keeps w s0 (bscanClear s) := by
  unfold bscanClear
  exact (keeps_showBscan (keeps_setO h0))

theorem keeps_execExtestLoad {w : Touch} {s0 s : State} {a0} (h0 : Keeps w s0 s) : OutP (Keeps w s0) (execExtestLoad a0 s) :=
      by
  unfold execExtestLoad
  refine ite_keeps ?_ (out_next h0)
  extract_lets +onlyGivenNames x1
  have h2 : Keeps w s0 x1 := (keeps_post (keeps_showBscan (keeps_setFlag h0)))
  clear_value x1
  exact (out_next (keeps_record h2))

end Sys2Proof.Machine
end

