-- ==== Sys2Proof/Laws/KeepsWrites.lean ====
section
/-!
SUPPORT. What the definitions of Machine/Writes.lean keep: each passes on the queue, the canonical form, the programmed fuses, and
every part that its hypotheses do not let it write.
-/

namespace Sys2Proof.Machine
open State

theorem keeps_modeReqWrite {w : Touch} {s0 s : State} {a0 a1} (h0 : Keeps w s0 s) : PairP (Keeps w s0) (modeReqWrite a0 a1 s)
      := by
  unfold modeReqWrite
  refine ite_keeps (pair_mk h0) ?_
  refine ite_keeps (pair_mk h0) ?_
  refine ite_keeps (ite_keeps (pair_mk (keeps_setVar (keeps_setVar h0))) (pair_mk h0)) ?_
  refine ite_keeps (pair_mk h0) ?_
  extract_lets +onlyGivenNames x1
  have h2 : Keeps w s0 x1 := (keeps_requestMode h0)
  clear_value x1
  split
  · exact (pair_mk (keeps_setFlag h2))
  · exact (pair_mk h2)

theorem keeps_safeRelease {w : Touch} {s0 s : State} {a0} (h0 : Keeps w s0 s) : PairP (Keeps w s0) (safeRelease a0 s) := by
  unfold safeRelease
  exact (ite_keeps (pair_mk h0) (ite_keeps (pair_mk (keeps_requestMode h0)) (pair_mk h0)))

theorem keeps_sysReboot {w : Touch} {s0 s : State} {a0} (h0 : Keeps w s0 s) : PairP (Keeps w s0) (sysReboot a0 s) := by
  unfold sysReboot
  exact (ite_keeps (pair_mk h0) (ite_keeps (pair_mk (keeps_requestMode h0)) (pair_mk h0)))

theorem keeps_sysShip {w : Touch} {s0 s : State} {a0} (h0 : Keeps w s0 s) : PairP (Keeps w s0) (sysShip a0 s) := by
  unfold sysShip
  exact (ite_keeps (pair_mk h0) (ite_keeps (pair_mk (keeps_setFlag h0)) (pair_mk h0)))

theorem keeps_answerOf {w : Touch} {s0 s : State} {a0} (h0 : Keeps w s0 s) : PairP (Keeps w s0) (answerOf a0 s) := by
  unfold answerOf
  split
  · exact (pair_mk h0)
  · split
    · have h1 := pair_of_eq (Q := Keeps w s0) (by assumption) (keeps_drawFree h0)
      exact (pair_mk h1)

theorem keeps_nvmCmd {w : Touch} {s0 s : State} {a0} (h0 : Keeps w s0 s) : PairP (Keeps w s0) (nvmCmd a0 s) := by
  unfold nvmCmd
  exact (ite_keeps (pair_mk (keeps_commitAsk h0)) (pair_mk h0))

theorem keeps_commandA {w : Touch} {s0 s : State} {a0 a1 a2} (hq : w.ports = true) (h0 : Keeps w s0 s) : OptP (PairP (Keeps w
      s0)) (commandA a0 a1 a2 s) := by
  unfold commandA
  extract_lets +onlyGivenNames x1
  clear_value x1
  extract_lets +onlyGivenNames x2
  clear_value x2
  refine ite_keeps (opt_some (keeps_safeRelease h0)) ?_
  refine ite_keeps (opt_some (keeps_sysReboot h0)) ?_
  refine ite_keeps (opt_some (keeps_sysShip h0)) ?_
  refine ite_keeps (opt_some (keeps_poolRestore h0)) ?_
  refine ite_keeps (opt_some (keeps_wearResetWrite h0)) ?_
  refine ite_keeps (opt_some (keeps_padCmd h0)) ?_
  refine ite_keeps (opt_some (keeps_seqCmd h0)) ?_
  refine ite_keeps ?_ ?_
  · split
    · have h3 := pair_of_eq (Q := Keeps w s0) (by assumption) (keeps_unackWrite h0)
      exact (opt_some (pair_mk (keeps_forwardAck h3)))
  · refine ite_keeps ?_ (ite_keeps (opt_some (keeps_teamSwap h0)) (ite_keeps (opt_some (keeps_teamRelease h0)) (ite_keeps
      (opt_some (keeps_teamAdmit h0)) (ite_keeps (opt_some (keeps_hsCmd h0)) (ite_keeps (opt_some (keeps_pwrCmd h0))
      (ite_keeps (opt_some (keeps_lgDoneWrite h0)) (ite_keeps (opt_some (keeps_estCmd h0)) (ite_keeps (opt_some
      (keeps_benchEnWrite hq h0)) (ite_keeps (opt_some (keeps_lbCmd h0)) (ite_keeps (opt_some (keeps_bscanWrite h0))
      opt_none))))))))))
    split
    · have h4 := pair_of_eq (Q := Keeps w s0) (by assumption) (keeps_ackAllWrite h0)
      exact (opt_some (pair_mk (ite_keeps (keeps_forwardAckAll h4) h4)))

theorem keeps_commandB {w : Touch} {s0 s : State} {a0 a1 a2 a3 a4} (ho : w.otp = true) (h0 : Keeps w s0 s) : OptP (PairP
      (Keeps w s0)) (commandB a0 a1 a2 a3 a4 s) := by
  unfold commandB
  extract_lets +onlyGivenNames x1
  clear_value x1
  exact (ite_keeps (opt_some (keeps_rtcSetTime h0)) (ite_keeps (opt_some (keeps_rtcSetCal h0)) (ite_keeps (opt_some
      (keeps_rtcShiftWrite h0)) (ite_keeps (opt_some (keeps_rtcCalWrite h0)) (ite_keeps (opt_some (keeps_rtcFsoClear h0))
      (ite_keeps (opt_some (keeps_nvmCmd h0)) (ite_keeps (opt_some (keeps_otpProgCmd h0)) (ite_keeps (opt_some (keeps_expCmd
      h0)) (ite_keeps (opt_some (keeps_bbCmd h0)) (ite_keeps (opt_some (keeps_collieEn h0)) (ite_keeps (opt_some
      (keeps_collieServe h0)) (ite_keeps (opt_some (keeps_collieCheckin h0)) (ite_keeps (opt_some (keeps_hostbusyWrite h0))
      (ite_keeps (opt_some (keeps_irqClear h0)) (ite_keeps (opt_some (keeps_snapCmd h0)) (ite_keeps (opt_some
      (keeps_keyRevoke h0)) (ite_keeps (opt_some (keeps_keyRelease ho h0)) (ite_keeps (opt_some (keeps_imgCmd h0)) (ite_keeps
      (opt_some (keeps_imgActivate h0)) (ite_keeps (opt_some (keeps_allocWrite h0)) opt_none))))))))))))))))))))

theorem keeps_grantWriteHeld {w : Touch} {s0 s : State} {a0 a1} (h0 : Keeps w s0 s) : PairP (Keeps w s0) (grantWriteHeld a0
      a1 s) := by
  unfold grantWriteHeld
  split
  · have h1 := pair_of_eq (Q := Keeps w s0) (by assumption) (keeps_grantWrite h0)
    exact (pair_mk h1)

theorem keeps_storeValue {w : Touch} {s0 s : State} {a0 a1 a2} (h0 : Keeps w s0 s) : Keeps w s0 (storeValue a0 a1 a2 s) := by
  unfold storeValue
  exact (ite_keeps (keeps_applyValue h0) (Keeps.same h0 rfl rfl rfl rfl rfl rfl rfl rfl rfl rfl rfl))

theorem keeps_reactionRecord {w : Touch} {s0 s : State} {a0 a1 a2 a3} (h0 : Keeps w s0 s) : Keeps w s0 (reactionRecord a0 a1
      a2 a3 s) := by
  unfold reactionRecord
  exact (keeps_record h0)

theorem keeps_checkedStore {w : Touch} {s0 s : State} {a0 a1 a2 a3} (h0 : Keeps w s0 s) : PairP (Keeps w s0) (checkedStore a0
      a1 a2 a3 s) := by
  unfold checkedStore
  refine ite_keeps (pair_mk h0) ?_
  extract_lets +onlyGivenNames x1
  clear_value x1
  refine ite_keeps (pair_mk h0) ?_
  refine ite_keeps (pair_mk h0) ?_
  extract_lets +onlyGivenNames x2
  clear_value x2
  extract_lets +onlyGivenNames x3
  have h4 : Keeps w s0 x3 := (keeps_storeValue h0)
  clear_value x3
  exact (pair_mk (ite_keeps (keeps_reactionRecord h4) h4))

theorem keeps_writeValue {w : Touch} {s0 s : State} {a0 a1 a2 a3 a4} (ho : w.otp = true) (hq : w.ports = true) (h0 : Keeps w
      s0 s) : PairP (Keeps w s0) (writeValue a0 a1 a2 a3 a4 s) := by
  unfold writeValue
  refine ite_keeps ?_ ?_
  · split
    · have h1 := pair_of_eq (Q := Keeps w s0) (by assumption) (keeps_modeReqWrite h0)
      exact (pair_mk (ite_keeps (keeps_storeValue h1) h1))
  · refine ite_keeps (keeps_grantWriteHeld h0) ?_
    refine ite_keeps ?_ ?_
    · split
      · have h2 := pair_of_eq (Q := Keeps w s0) (by assumption) (keeps_answerOf h0)
        split
        · have h3 := pair_of_eq (Q := Keeps w s0) (by assumption) (keeps_portCmd hq h2)
          exact (pair_mk h3)
    · split
      · have h4 := opt_pair_of_eq (Q := Keeps w s0) (by assumption) (keeps_commandA hq h0)
        exact (pair_mk h4)
      · split
        · have h5 := opt_pair_of_eq (Q := Keeps w s0) (by assumption) (keeps_commandB ho h0)
          exact (pair_mk h5)
        · split
          · have h6 := pair_of_eq (Q := Keeps w s0) (by assumption) (keeps_checkedStore h0)
            exact (pair_mk h6)

theorem keeps_writeObject {w : Touch} {s0 s : State} {a0 a1 a2} (ho : w.otp = true) (hq : w.ports = true) (h0 : Keeps w s0 s)
      : PairP (Keeps w s0) (writeObject a0 a1 a2 s) := by
  unfold writeObject
  extract_lets +onlyGivenNames x1
  clear_value x1
  extract_lets +onlyGivenNames x2
  clear_value x2
  extract_lets +onlyGivenNames x3
  clear_value x3
  refine ite_keeps (pair_mk h0) ?_
  refine ite_keeps (pair_mk h0) ?_
  refine ite_keeps (pair_mk h0) ?_
  refine ite_keeps (pair_mk h0) ?_
  refine ite_keeps (pair_mk (keeps_journalFull h0)) ?_
  split
  · have h4 := pair_of_eq (Q := Keeps w s0) (by assumption) (keeps_writeValue ho hq h0)
    exact (pair_mk (ite_keeps (keeps_forwardWrite h4) h4))

theorem keeps_applyGroup {w : Touch} {s0 s : State} {a0 a1} (h0 : Keeps w s0 s) : Keeps w s0 (applyGroup a0 a1 s) := by
  unfold applyGroup
  split
  · extract_lets +onlyGivenNames x1
    clear_value x1
    extract_lets +onlyGivenNames x2
    have h3 : Keeps w s0 x2 := (ite_keeps (Keeps.same h0 rfl rfl rfl rfl rfl rfl rfl rfl rfl rfl rfl) (ite_keeps (Keeps.same
        h0 rfl rfl rfl rfl rfl rfl rfl rfl rfl rfl rfl) h0))
    clear_value x2
    extract_lets +onlyGivenNames x4
    have h5 : Keeps w s0 x4 := (keeps_setO h3)
    clear_value x4
    exact (ite_keeps (keeps_storeValue (keeps_modeReqWrite h5)) (ite_keeps h5 (ite_keeps (keeps_poolRestore h5) (ite_keeps
        (keeps_wearResetWrite h5) (ite_keeps h5 (keeps_storeValue h5))))))
  · exact h0

theorem keeps_applyGroups {w : Touch} {s0 s : State} (h0 : Keeps w s0 s) : Keeps w s0 (applyGroups s) := by
  unfold applyGroups
  extract_lets +onlyGivenNames x1
  clear_value x1
  extract_lets +onlyGivenNames x2
  have h3 : Keeps w s0 x2 := (Keeps.same h0 rfl rfl rfl rfl rfl rfl rfl rfl rfl rfl rfl)
  clear_value x2
  exact (forEach_keeps h3 fun _ _ k4 => (keeps_applyGroup k4))

theorem keeps_execMirrorFrameCheck {w : Touch} {s0 s : State} {a0} (h0 : Keeps w s0 s) : OutP (Keeps w s0)
      (execMirrorFrameCheck a0 s) := by
  unfold execMirrorFrameCheck
  exact (ite_keeps (out_next (keeps_applyGroups (keeps_lateEvents (fun _ k1 => (keeps_frameCheck k1)) h0))) (out_next h0))

end Sys2Proof.Machine
end

