-- ==== Sys2Proof/Laws/KeepsProtocol.lean ====
section
/-!
SUPPORT. What the definitions of Machine/Protocol.lean keep: each passes on the queue, the canonical form, the programmed fuses, and
every part that its hypotheses do not let it write.
-/

namespace Sys2Proof.Machine
open State

theorem keeps_readBytes {w : Touch} {s0 s : State} {a0 a1 a2 a3} (h0 : Keeps w s0 s) : PairP (PairP (Keeps w s0)) (readBytes
      a0 a1 a2 a3 s) := by
  unfold readBytes
  refine ite_keeps ?_ ?_
  · split
    · have h1 := pair_of_eq (Q := Keeps w s0) (by assumption) (keeps_claimBy h0)
      exact (pair_mk (pair_mk h1))
  · refine ite_keeps ?_ ?_
    · split
      · have h2 := pair_of_eq (Q := Keeps w s0) (by assumption) (keeps_claimBy h0)
        exact (pair_mk (pair_mk h2))
    · split
      · split
        · have h3 := pair_of_eq (Q := Keeps w s0) (by assumption) (keeps_nvmRead h0)
          exact (pair_mk (pair_mk h3))
      · split
        · exact (pair_mk (pair_mk (ite_keeps (keeps_nvmTouch h0) h0)))

theorem keeps_takeIn {w : Touch} {s0 s : State} {a0} (hq : w.ports = true) (h0 : Keeps w s0 s) : Keeps w s0 (takeIn a0 s) :=
      by
  unfold takeIn
  refine ite_keeps (keeps_bump h0) ?_
  refine ite_keeps (keeps_bump h0) ?_
  extract_lets +onlyGivenNames x1
  clear_value x1
  extract_lets +onlyGivenNames x2
  have h3 : Keeps w s0 x2 := (keeps_bump (keeps_setPort hq h0))
  clear_value x2
  exact (keeps_setVar (keeps_setVar h3))

theorem keeps_canIgnore {w : Touch} {s0 s : State} {a0} (h0 : Keeps w s0 s) : Keeps w s0 (canIgnore a0 s) := by
  unfold canIgnore
  exact (ite_keeps (keeps_bump h0) h0)

theorem keeps_replay {w : Touch} {s0 s : State} {a0} (hq : w.ports = true) (h0 : Keeps w s0 s) : Keeps w s0 (replay a0 s) :=
      by
  unfold replay
  split
  · extract_lets +onlyGivenNames x1
    clear_value x1
    extract_lets +onlyGivenNames x2
    have h3 : Keeps w s0 x2 := (keeps_canAnswer hq (keeps_setPort hq h0))
    clear_value x2
    exact (ite_keeps (keeps_bump h3) (keeps_bump h3))
  · exact h0

theorem keeps_portBusy {w : Touch} {s0 s : State} {a0} (hq : w.ports = true) (h0 : Keeps w s0 s) : Keeps w s0 (portBusy a0 s)
      := by
  unfold portBusy
  refine ite_keeps (keeps_setFlag (keeps_bump h0)) ?_
  extract_lets +onlyGivenNames x1
  clear_value x1
  extract_lets +onlyGivenNames x2
  clear_value x2
  extract_lets +onlyGivenNames x3
  have h4 : Keeps w s0 x3 := (keeps_canAnswer hq (keeps_setPort hq h0))
  clear_value x3
  exact (ite_keeps (keeps_bump h4) h4)

theorem keeps_hold {w : Touch} {s0 s : State} {a0 a1} (hq : w.ports = true) (h0 : Keeps w s0 s) : Keeps w s0 (hold a0 a1 s)
      := by
  unfold hold
  exact (keeps_setPort hq h0)

theorem keeps_finish {w : Touch} {s0 s : State} {a0 a1 a2} (hq : w.ports = true) (h0 : Keeps w s0 s) : Keeps w s0 (finish a0
      a1 a2 s) := by
  unfold finish
  split
  · exact (keeps_respond hq h0)
  · exact (keeps_hold hq h0)

theorem keeps_tagJob {w : Touch} {s0 s : State} (h0 : Keeps w s0 s) : Keeps w s0 (tagJob s) := by
  unfold tagJob
  split
  · have h1 := pair_of_eq (Q := Keeps w s0) (by assumption) (keeps_drawFree h0)
    extract_lets +onlyGivenNames x2
    clear_value x2
    extract_lets +onlyGivenNames x3
    have h4 : Keeps w s0 x3 := (keeps_setO (keeps_setO h1))
    clear_value x3
    exact (keeps_setO (keeps_setO h4))

theorem keeps_keyedEffect {w : Touch} {s0 s : State} {a0 a1} (ho : w.otp = true) (hq : w.ports = true) (h0 : Keeps w s0 s) :
      Keeps w s0 (keyedEffect a0 a1 s) := by
  unfold keyedEffect
  extract_lets +onlyGivenNames x1
  clear_value x1
  extract_lets +onlyGivenNames x2
  have h3 : Keeps w s0 x2 := (keeps_consumeCounter (ite_keeps (keeps_violation h0) h0))
  clear_value x2
  extract_lets +onlyGivenNames x4
  have h5 : Keeps w s0 x4 := by
    unfold x4
    refine ite_keeps (ite_keeps (keeps_claimRefuse hq h3) (keeps_claimStart ho hq h3)) ?_
    refine ite_keeps (keeps_respond hq h3) ?_
    split
    · split
      · have h6 := pair_of_eq (Q := Keeps w s0) (by assumption) (keeps_writeObject ho hq h3)
        exact (keeps_finish hq h6)
    · exact (keeps_respond hq h3)
  clear_value x4
  exact (ite_keeps h5 (keeps_retireIfSpent h5))

theorem keeps_keyedRefuse {w : Touch} {s0 s : State} {a0 a1} (hq : w.ports = true) (h0 : Keeps w s0 s) : Keeps w s0
      (keyedRefuse a0 a1 s) := by
  unfold keyedRefuse
  exact (ite_keeps (keeps_claimRefuse hq h0) (keeps_respond hq h0))

theorem keeps_keyedGo {w : Touch} {s0 s : State} {a0 a1} (ho : w.otp = true) (hq : w.ports = true) (h0 : Keeps w s0 s) :
      Keeps w s0 (keyedGo a0 a1 s) := by
  unfold keyedGo
  split
  · have h1 := pair_of_eq (Q := Keeps w s0) (by assumption) (keeps_counterCheck h0)
    refine ite_keeps (keeps_keyedEffect ho hq h1) ?_
    extract_lets +onlyGivenNames x2
    have h3 : Keeps w s0 x2 := (keeps_hwmRaise (keeps_hold hq h1))
    clear_value x2
    exact (Keeps.same h3 rfl rfl rfl rfl rfl rfl rfl rfl rfl rfl rfl)
  · have h4 := pair_of_eq (Q := Keeps w s0) (by assumption) (keeps_counterCheck h0)
    exact (keeps_keyedRefuse hq h4)

theorem keeps_keyedChecked {w : Touch} {s0 s : State} {a0 a1} (ho : w.otp = true) (hq : w.ports = true) (h0 : Keeps w s0 s) :
      Keeps w s0 (keyedChecked a0 a1 s) := by
  unfold keyedChecked
  split
  · have h1 := pair_of_eq (Q := Keeps w s0) (by assumption) (keeps_keyedCheck h0)
    refine ite_keeps ?_ (keeps_keyedGo ho hq h1)
    extract_lets +onlyGivenNames x2
    have h3 : Keeps w s0 x2 := (keeps_hold hq h1)
    clear_value x2
    exact (Keeps.same h3 rfl rfl rfl rfl rfl rfl rfl rfl rfl rfl rfl)
  · have h4 := pair_of_eq (Q := Keeps w s0) (by assumption) (keeps_keyedCheck h0)
    exact (keeps_keyedRefuse hq h4)

theorem keeps_keyedServe {w : Touch} {s0 s : State} {a0 a1} (ho : w.otp = true) (hq : w.ports = true) (h0 : Keeps w s0 s) :
      Keeps w s0 (keyedServe a0 a1 s) := by
  unfold keyedServe
  exact (ite_keeps (keeps_jobRequest (keeps_hold hq h0)) (keeps_keyedChecked ho hq (keeps_tagJob h0)))

theorem keeps_tagEnd {w : Touch} {s0 s : State} {a0} (ho : w.otp = true) (hq : w.ports = true) (h0 : Keeps w s0 s) : Keeps w
      s0 (tagEnd a0 s) := by
  unfold tagEnd
  split
  · exact (keeps_keyedChecked ho hq (keeps_setVar h0))
  · exact (keeps_keyedRefuse hq (keeps_setVar h0))
  · exact h0

theorem keeps_keyedDrain {w : Touch} {s0 s : State} {a0 a1 a2} (ho : w.otp = true) (hq : w.ports = true) (h0 : Keeps w s0 s)
      : Keeps w s0 (keyedDrain a0 a1 a2 s) := by
  induction a0 generalizing a2 s with
  | zero => exact h0
  | succ n ih =>
    unfold keyedDrain
    refine ite_keeps h0 ?_
    split
    · extract_lets t
      have h1 : Keeps w s0 t := Keeps.same h0 rfl rfl rfl rfl rfl rfl rfl rfl rfl rfl rfl
      clear_value t
      split
      · exact ih (keeps_keyedGo ho hq h1)
      · exact ih h1
    · exact h0

theorem keeps_hwmWaiter {w : Touch} {s0 s : State} {a0} (h0 : Keeps w s0 s) : PairP (Keeps w s0) (hwmWaiter a0 s) := by
  unfold hwmWaiter
  split
  · exact (pair_mk (keeps_setVar (Keeps.same h0 rfl rfl rfl rfl rfl rfl rfl rfl rfl rfl rfl)))
  · exact (pair_mk (keeps_setVar h0))

theorem keeps_execHwmCommitDone {w : Touch} {s0 s : State} {a0 a1} (ho : w.otp = true) (hq : w.ports = true) (h0 : Keeps w s0
      s) : OutP (Keeps w s0) (execHwmCommitDone a0 a1 s) := by
  unfold execHwmCommitDone
  refine ite_keeps ?_ (out_next h0)
  extract_lets +onlyGivenNames x1
  have h2 : Keeps w s0 x1 := (keeps_setO h0)
  clear_value x1
  extract_lets +onlyGivenNames x3
  clear_value x3
  split
  · have h4 := pair_of_eq (Q := Keeps w s0) (by assumption) (keeps_hwmWaiter h2)
    refine out_next ?_
    refine keeps_lateEvents (fun _ k8 => ?_) h4
    · refine keeps_keyedDrain ho hq ?_
      split
      · exact (keeps_keyedEffect ho hq k8)
      · exact k8

theorem keeps_execHwmCommitTimeout {w : Touch} {s0 s : State} {a0} (ho : w.otp = true) (hq : w.ports = true) (h0 : Keeps w s0
      s) : OutP (Keeps w s0) (execHwmCommitTimeout a0 s) := by
  unfold execHwmCommitTimeout
  refine ite_keeps ?_ (out_next h0)
  split
  · have h1 := pair_of_eq (Q := Keeps w s0) (by assumption) (keeps_hwmWaiter h0)
    extract_lets +onlyGivenNames x2
    have h3 : Keeps w s0 x2 := (keeps_hwmUnwarn h1)
    clear_value x2
    extract_lets +onlyGivenNames x4
    have h5 : Keeps w s0 x4 := by
      unfold x4
      split
      · exact (keeps_keyedRefuse hq h3)
      · exact h3
    clear_value x4
    exact (out_next (keeps_lateEvents (fun _ k6 => (keeps_keyedDrain ho hq k6)) h5))

theorem keeps_serveSmall {w : Touch} {s0 s : State} {a0 a1 a2} (ho : w.otp = true) (hq : w.ports = true) (h0 : Keeps w s0 s)
      : Keeps w s0 (serveSmall a0 a1 a2 s) := by
  unfold serveSmall
  refine ite_keeps ?_ ?_
  · refine ite_keeps (keeps_respond hq h0) ?_
    split
    · have h1 := pair_of_eq3 (Q := Keeps w s0) (by assumption) (keeps_readBytes h0)
      exact (keeps_respond hq h1)
  · refine ite_keeps (keeps_respond hq h0) ?_
    split
    · have h2 := pair_of_eq (Q := Keeps w s0) (by assumption) (keeps_writeObject ho hq h0)
      exact (keeps_finish hq h2)

theorem keeps_backToQueue {w : Touch} {s0 s : State} {a0} (h0 : Keeps w s0 s) : Keeps w s0 (backToQueue a0 s) := by
  unfold backToQueue
  exact (keeps_setVar h0)

theorem keeps_serveSegment {w : Touch} {s0 s : State} {a0} (ho : w.otp = true) (hq : w.ports = true) (h0 : Keeps w s0 s) :
      Keeps w s0 (serveSegment a0 s) := by
  unfold serveSegment
  extract_lets +onlyGivenNames x1
  clear_value x1
  split
  · split
    · exact (keeps_respond hq h0)
    · extract_lets +onlyGivenNames x2
      clear_value x2
      extract_lets +onlyGivenNames x3
      clear_value x3
      extract_lets +onlyGivenNames x4
      clear_value x4
      extract_lets +onlyGivenNames x5
      clear_value x5
      refine ite_keeps ?_ ?_
      · split
        · have h6 := pair_of_eq3 (Q := Keeps w s0) (by assumption) (keeps_readBytes h0)
          exact (ite_keeps (keeps_respond hq h6) (ite_keeps (keeps_respond hq h6) (keeps_backToQueue (keeps_setPort hq h6))))
      · refine ite_keeps (keeps_backToQueue (keeps_setPort hq h0)) ?_
        refine ite_keeps ?_ ?_
        · extract_lets +onlyGivenNames x7
          clear_value x7
          exact (ite_keeps (keeps_respond hq (keeps_nvmWrite h0)) (keeps_respond hq h0))
        · refine ite_keeps (ite_keeps (keeps_respond hq (keeps_stageWrite h0)) (keeps_respond hq h0)) ?_
          split
          · have h8 := pair_of_eq (Q := Keeps w s0) (by assumption) (keeps_writeObject ho hq h0)
            exact (keeps_finish hq h8)
  · exact h0

theorem keeps_serveBlock {w : Touch} {s0 s : State} {a0 a1} (ho : w.otp = true) (hq : w.ports = true) (h0 : Keeps w s0 s) :
      Keeps w s0 (serveBlock a0 a1 s) := by
  unfold serveBlock
  exact (ite_keeps (ite_keeps (keeps_respond hq h0) (keeps_serveSegment ho hq (keeps_hold hq h0))) (ite_keeps (keeps_respond
      hq h0) (keeps_serveSegment ho hq (keeps_hold hq h0))))

theorem keeps_serve {w : Touch} {s0 s : State} {a0 a1} (ho : w.otp = true) (hq : w.ports = true) (h0 : Keeps w s0 s) : Keeps
      w s0 (serve a0 a1 s) := by
  unfold serve
  split
  · refine ite_keeps (keeps_respond hq h0) ?_
    refine ite_keeps (ite_keeps (keeps_keyedServe ho hq h0) (keeps_claimStart ho hq h0)) ?_
    split
    · exact (ite_keeps (ite_keeps (keeps_keyedServe ho hq h0) (keeps_respond hq h0)) (ite_keeps (keeps_serveBlock ho hq h0)
        (keeps_serveSmall ho hq h0)))
    · exact (keeps_respond hq h0)
  · exact (keeps_respond hq h0)

theorem keeps_slotStage {w : Touch} {s0 s : State} {a0} (hq : w.ports = true) (h0 : Keeps w s0 s) : Keeps w s0 (slotStage a0
      s) := by
  unfold slotStage
  refine ite_keeps h0 ?_
  refine ite_keeps (keeps_midSlots h0) ?_
  extract_lets +onlyGivenNames x1
  have h2 : Keeps w s0 x1 := (ite_keeps (keeps_hkSlots (keeps_ledgerSlots h0)) (keeps_imgSlots (keeps_claimSlots hq
      (keeps_jobTick (keeps_bbSlotWork (keeps_traceFrame (keeps_expSlot (keeps_assemblySlot (keeps_offerRecords h0)))))))))
  clear_value x1
  exact (keeps_setVar h2)

theorem keeps_slotsTo {w : Touch} {s0 s : State} {a0} (hq : w.ports = true) (h0 : Keeps w s0 s) : Keeps w s0 (slotsTo a0 s)
      := by
  unfold slotsTo
  exact (forRange_keeps h0 fun _ _ k1 => (keeps_slotStage hq k1))

theorem keeps_beforeDictionary {w : Touch} {s0 s : State} (hq : w.ports = true) (h0 : Keeps w s0 s) : Keeps w s0
      (beforeDictionary s) := by
  unfold beforeDictionary
  exact (ite_keeps h0 (ite_keeps (keeps_evaluate h0) (keeps_slotsTo hq h0)))

theorem keeps_dictionarySlot {w : Touch} {s0 s : State} (ho : w.otp = true) (hq : w.ports = true) (h0 : Keeps w s0 s) : Keeps
      w s0 (dictionarySlot s) := by
  unfold dictionarySlot
  split
  · refine ite_keeps ?_ h0
    extract_lets t
    have h1 : Keeps w s0 t := keeps_addVar (keeps_setVar (keeps_beforeDictionary hq h0))
    clear_value t
    split
    · refine keeps_lateEvents (fun _ k => ?_) h1
      refine ite_keeps (keeps_tagEnd ho hq k) (ite_keeps (keeps_serve ho hq k) (keeps_serveSegment ho hq k))
    · exact h1
  · exact h0

theorem keeps_dictionarySlots {w : Touch} {s0 s : State} (ho : w.otp = true) (hq : w.ports = true) (h0 : Keeps w s0 s) :
      Keeps w s0 (dictionarySlots s) := by
  unfold dictionarySlots
  exact (keeps_setVar (forRange_keeps h0 fun _ _ k1 => (keeps_dictionarySlot ho hq k1)))

theorem keeps_echoTick {w : Touch} {s0 s : State} (ho : w.otp = true) (hq : w.ports = true) (h0 : Keeps w s0 s) : Keeps w s0
      (echoTick s) := by
  unfold echoTick
  refine forRange_keeps h0 fun _ _ h2 => ?_
  split
  · exact (ite_keeps (keeps_serve ho hq h2) h2)
  · exact h2

theorem keeps_tagReturn {w : Touch} {s0 s : State} {a0} (ho : w.otp = true) (hq : w.ports = true) (h0 : Keeps w s0 s) : Keeps
      w s0 (tagReturn a0 s) := by
  unfold tagReturn
  refine ite_keeps ?_ h0
  extract_lets +onlyGivenNames x1
  have h2 : Keeps w s0 x1 := (keeps_backToQueue h0)
  clear_value x1
  exact (ite_keeps (keeps_dictionarySlot ho hq h2) h2)

theorem keeps_execJobComplete {w : Touch} {s0 s : State} {a0 a1} (ho : w.otp = true) (hq : w.ports = true) (h0 : Keeps w s0
      s) : OutP (Keeps w s0) (execJobComplete a0 a1 s) := by
  unfold execJobComplete
  exact (ite_keeps (out_next (forRange_keeps (keeps_jobEnd h0) fun _ _ k1 => (keeps_tagReturn ho hq k1))) (out_next h0))

theorem keeps_request {w : Touch} {s0 s : State} {a0 a1} (ho : w.otp = true) (hq : w.ports = true) (h0 : Keeps w s0 s) :
      Keeps w s0 (request a0 a1 s) := by
  unfold request
  refine ite_keeps h0 ?_
  refine ite_keeps (keeps_canIgnore h0) ?_
  extract_lets +onlyGivenNames x1
  have h2 : Keeps w s0 x1 := (keeps_takeIn hq h0)
  clear_value x1
  refine ite_keeps (keeps_replay hq h2) ?_
  refine ite_keeps (keeps_portBusy hq h2) ?_
  extract_lets +onlyGivenNames x3
  have h4 : Keeps w s0 x3 := (keeps_hold hq h2)
  clear_value x3
  refine ite_keeps h4 ?_
  extract_lets +onlyGivenNames x5
  have h6 : Keeps w s0 x5 := (keeps_backToQueue h4)
  clear_value x5
  exact (ite_keeps (keeps_dictionarySlot ho hq h6) h6)

theorem keeps_plainWrite {w : Touch} {s0 s : State} {a0 a1} (ho : w.otp = true) (hq : w.ports = true) (h0 : Keeps w s0 s) :
      OutP (Keeps w s0) (plainWrite a0 a1 s) := by
  unfold plainWrite
  exact (out_next (keeps_request ho hq h0))

theorem keeps_keyedWrite {w : Touch} {s0 s : State} {a0 a1} (ho : w.otp = true) (hq : w.ports = true) (h0 : Keeps w s0 s) :
      OutP (Keeps w s0) (keyedWrite a0 a1 s) := by
  unfold keyedWrite
  exact (out_next (keeps_request ho hq h0))

theorem keeps_execRead {w : Touch} {s0 s : State} {a0} (ho : w.otp = true) (hq : w.ports = true) (h0 : Keeps w s0 s) : OutP
      (Keeps w s0) (execRead a0 s) := by
  unfold execRead
  exact (out_next (keeps_request ho hq h0))

theorem keeps_execWrite {w : Touch} {s0 s : State} {a0} (ho : w.otp = true) (hq : w.ports = true) (h0 : Keeps w s0 s) : OutP
      (Keeps w s0) (execWrite a0 s) := by
  unfold execWrite
  exact (out_next (keeps_request ho hq h0))

theorem keeps_execWritek {w : Touch} {s0 s : State} {a0 a1} (ho : w.otp = true) (hq : w.ports = true) (h0 : Keeps w s0 s) :
      OutP (Keeps w s0) (execWritek a0 a1 s) := by
  unfold execWritek
  exact (out_next (keeps_request ho hq h0))

theorem keeps_execBlockread {w : Touch} {s0 s : State} {a0} (ho : w.otp = true) (hq : w.ports = true) (h0 : Keeps w s0 s) :
      OutP (Keeps w s0) (execBlockread a0 s) := by
  unfold execBlockread
  exact (out_next (keeps_request ho hq h0))

theorem keeps_execBlockwrite {w : Touch} {s0 s : State} {a0} (ho : w.otp = true) (hq : w.ports = true) (h0 : Keeps w s0 s) :
      OutP (Keeps w s0) (execBlockwrite a0 s) := by
  unfold execBlockwrite
  exact (out_next (keeps_request ho hq h0))

theorem keeps_execEcho {w : Touch} {s0 s : State} {a0} (ho : w.otp = true) (hq : w.ports = true) (h0 : Keeps w s0 s) : OutP
      (Keeps w s0) (execEcho a0 s) := by
  unfold execEcho
  exact (out_next (keeps_request ho hq h0))

theorem keeps_execClaim {w : Touch} {s0 s : State} {a0} (ho : w.otp = true) (hq : w.ports = true) (h0 : Keeps w s0 s) : OutP
      (Keeps w s0) (execClaim a0 s) := by
  unfold execClaim
  exact (ite_keeps (out_next h0) (out_next (keeps_request ho hq h0)))

theorem keeps_execReclaim {w : Touch} {s0 s : State} {a0 a1} (ho : w.otp = true) (hq : w.ports = true) (h0 : Keeps w s0 s) :
      OutP (Keeps w s0) (execReclaim a0 a1 s) := by
  unfold execReclaim
  exact (ite_keeps (out_next (keeps_request ho hq h0)) (out_next h0))

theorem keeps_execEnrolSlot {w : Touch} {s0 s : State} {a0} (ho : w.otp = true) (hq : w.ports = true) (h0 : Keeps w s0 s) :
      OutP (Keeps w s0) (execEnrolSlot a0 s) := by
  unfold execEnrolSlot
  exact (ite_keeps (out_next (keeps_request ho hq h0)) (out_next h0))

theorem keeps_execTransfer {w : Touch} {s0 s : State} {a0 a1} (ho : w.otp = true) (hq : w.ports = true) (h0 : Keeps w s0 s) :
      OutP (Keeps w s0) (execTransfer a0 a1 s) := by
  unfold execTransfer
  exact (ite_keeps (out_next (keeps_request ho hq h0)) (out_next h0))

theorem keeps_execSegmentServe {w : Touch} {s0 s : State} {a0} (ho : w.otp = true) (hq : w.ports = true) (h0 : Keeps w s0 s)
      : OutP (Keeps w s0) (execSegmentServe a0 s) := by
  unfold execSegmentServe
  exact (ite_keeps (out_next (keeps_dictionarySlot ho hq h0)) (out_next h0))

theorem keeps_execPortBusy {w : Touch} {s0 s : State} {a0} (hq : w.ports = true) (h0 : Keeps w s0 s) : OutP (Keeps w s0)
      (execPortBusy a0 s) := by
  unfold execPortBusy
  exact (ite_keeps (out_next (keeps_portBusy hq (keeps_takeIn hq h0))) (out_next h0))

theorem keeps_execRetryReplay {w : Touch} {s0 s : State} {a0} (hq : w.ports = true) (h0 : Keeps w s0 s) : OutP (Keeps w s0)
      (execRetryReplay a0 s) := by
  unfold execRetryReplay
  exact (ite_keeps (out_next (keeps_replay hq (keeps_takeIn hq h0))) (out_next h0))

theorem keeps_execFramingFailure {w : Touch} {s0 s : State} {a0 a1} (hq : w.ports = true) (h0 : Keeps w s0 s) : OutP (Keeps w
      s0) (execFramingFailure a0 a1 s) := by
  unfold execFramingFailure
  refine ite_keeps ?_ (out_next h0)
  extract_lets +onlyGivenNames x1
  clear_value x1
  extract_lets +onlyGivenNames x2
  have h3 : Keeps w s0 x2 := (ite_keeps (keeps_bump h0) (ite_keeps (keeps_bump h0) (keeps_setFlag (keeps_setPort hq
      (keeps_bump h0)))))
  clear_value x2
  extract_lets +onlyGivenNames x4
  have h5 : Keeps w s0 x4 := (keeps_addVar h3)
  clear_value x4
  extract_lets +onlyGivenNames x6
  have h7 : Keeps w s0 x6 := (ite_keeps h5 (keeps_setVar h5))
  clear_value x6
  extract_lets +onlyGivenNames x8
  have h9 : Keeps w s0 x8 := (ite_keeps h7 (keeps_post (keeps_setFlag h7)))
  clear_value x8
  exact (out_next (keeps_recordPer h9))

theorem keeps_execSpiFetch {w : Touch} {s0 s : State} {a0} (h0 : Keeps w s0 s) : OutP (Keeps w s0) (execSpiFetch a0 s) := by
  unfold execSpiFetch
  exact (out_next h0)

theorem keeps_execCanFrameIgnored {w : Touch} {s0 s : State} {a0} (h0 : Keeps w s0 s) : OutP (Keeps w s0)
      (execCanFrameIgnored a0 s) := by
  unfold execCanFrameIgnored
  exact (ite_keeps (out_next (keeps_bump h0)) (out_next h0))

theorem keeps_execNotifySend {w : Touch} {s0 s : State} {a0} (hq : w.ports = true) (h0 : Keeps w s0 s) : OutP (Keeps w s0)
      (execNotifySend a0 s) := by
  unfold execNotifySend
  split
  · refine ite_keeps ?_ (out_next h0)
    extract_lets +onlyGivenNames x1
    clear_value x1
    extract_lets +onlyGivenNames x2
    clear_value x2
    extract_lets +onlyGivenNames x3
    have h4 : Keeps w s0 x3 := (keeps_setPort hq (Keeps.same h0 rfl rfl rfl rfl rfl rfl rfl rfl rfl rfl rfl))
    clear_value x3
    exact (out_next (keeps_canFlush hq (keeps_setO (keeps_bump h4))))
  · exact (out_next h0)

theorem keeps_execBusOff {w : Touch} {s0 s : State} {a0 a1} (h0 : Keeps w s0 s) : OutP (Keeps w s0) (execBusOff a0 a1 s) :=
      by
  unfold execBusOff
  refine ite_keeps ?_ (out_next h0)
  extract_lets +onlyGivenNames x1
  clear_value x1
  extract_lets +onlyGivenNames x2
  have h3 : Keeps w s0 x2 := (keeps_bump (keeps_setO (keeps_setO h0)))
  clear_value x2
  extract_lets +onlyGivenNames x4
  have h5 : Keeps w s0 x4 := (keeps_post (keeps_setVar (keeps_setVar h3)))
  clear_value x4
  exact (out_next (keeps_record h5))

theorem keeps_execBusRecovery {w : Touch} {s0 s : State} {a0} (hq : w.ports = true) (h0 : Keeps w s0 s) : OutP (Keeps w s0)
      (execBusRecovery a0 s) := by
  unfold execBusRecovery
  refine ite_keeps ?_ (out_next h0)
  extract_lets +onlyGivenNames x1
  have h2 : Keeps w s0 x1 := (keeps_post (keeps_setO (keeps_setO (keeps_setO h0))))
  clear_value x1
  extract_lets +onlyGivenNames x3
  have h4 : Keeps w s0 x3 := (keeps_record h2)
  clear_value x3
  exact (out_next (keeps_canFlush hq (keeps_setPort hq h4)))

theorem keeps_execErrorPassiveChange {w : Touch} {s0 s : State} {a0 a1 a2} (h0 : Keeps w s0 s) : OutP (Keeps w s0)
      (execErrorPassiveChange a0 a1 a2 s) := by
  unfold execErrorPassiveChange
  extract_lets +onlyGivenNames x1
  clear_value x1
  refine ite_keeps ?_ (out_next h0)
  extract_lets +onlyGivenNames x2
  have h3 : Keeps w s0 x2 := (keeps_setO (keeps_setO h0))
  clear_value x2
  exact (out_next (keeps_post (keeps_setO h3)))

theorem keeps_grantAnswer {w : Touch} {s0 s : State} {a0 a1} (hq : w.ports = true) (h0 : Keeps w s0 s) : Keeps w s0
      (grantAnswer a0 a1 s) := by
  unfold grantAnswer
  split
  · exact (ite_keeps (keeps_respond hq h0) h0)
  · exact h0

theorem keeps_dropBudget {w : Touch} {s0 s : State} (hq : w.ports = true) (h0 : Keeps w s0 s) : Keeps w s0 (dropBudget s) :=
      by
  unfold dropBudget
  extract_lets +onlyGivenNames x1
  clear_value x1
  extract_lets +onlyGivenNames x2
  have h3 : Keeps w s0 x2 := (keeps_setO (keeps_dropChanges h0))
  clear_value x2
  exact (ite_keeps (keeps_setPort hq h3) h3)

theorem keeps_grantTick {w : Touch} {s0 s : State} (hq : w.ports = true) (h0 : Keeps w s0 s) : Keeps w s0 (grantTick s) := by
  unfold grantTick
  exact (ite_keeps (keeps_dropBudget hq h0) h0)

theorem keeps_execGrantReductionDone {w : Touch} {s0 s : State} (hq : w.ports = true) (h0 : Keeps w s0 s) : OutP (Keeps w s0)
      (execGrantReductionDone s) := by
  unfold execGrantReductionDone
  exact (ite_keeps (ite_keeps (out_next (keeps_dropBudget hq h0)) (ite_keeps (out_next (keeps_grantAnswer hq
      (keeps_grantRecord (keeps_setO h0)))) (out_next h0))) (out_next h0))

theorem keeps_execSysModeReq {w : Touch} {s0 s : State} {a0} (ho : w.otp = true) (hq : w.ports = true) (h0 : Keeps w s0 s) :
      OutP (Keeps w s0) (execSysModeReq a0 s) := by
  unfold execSysModeReq
  exact (keeps_plainWrite ho hq h0)

theorem keeps_execSysSafeRelease {w : Touch} {s0 s : State} {a0} (ho : w.otp = true) (hq : w.ports = true) (h0 : Keeps w s0
      s) : OutP (Keeps w s0) (execSysSafeRelease a0 s) := by
  unfold execSysSafeRelease
  exact (keeps_keyedWrite ho hq h0)

theorem keeps_execSysReboot {w : Touch} {s0 s : State} {a0} (ho : w.otp = true) (hq : w.ports = true) (h0 : Keeps w s0 s) :
      OutP (Keeps w s0) (execSysReboot a0 s) := by
  unfold execSysReboot
  exact (keeps_keyedWrite ho hq h0)

theorem keeps_execSysShip {w : Touch} {s0 s : State} {a0} (ho : w.otp = true) (hq : w.ports = true) (h0 : Keeps w s0 s) :
      OutP (Keeps w s0) (execSysShip a0 s) := by
  unfold execSysShip
  exact (keeps_keyedWrite ho hq h0)

theorem keeps_execPoolRestore {w : Touch} {s0 s : State} {a0 a1} (ho : w.otp = true) (hq : w.ports = true) (h0 : Keeps w s0
      s) : OutP (Keeps w s0) (execPoolRestore a0 a1 s) := by
  unfold execPoolRestore
  exact (keeps_keyedWrite ho hq h0)

theorem keeps_execWearReset {w : Touch} {s0 s : State} {a0 a1} (ho : w.otp = true) (hq : w.ports = true) (h0 : Keeps w s0 s)
      : OutP (Keeps w s0) (execWearReset a0 a1 s) := by
  unfold execWearReset
  exact (keeps_keyedWrite ho hq h0)

theorem keeps_execSeqCmdOn {w : Touch} {s0 s : State} {a0} (ho : w.otp = true) (hq : w.ports = true) (h0 : Keeps w s0 s) :
      OutP (Keeps w s0) (execSeqCmdOn a0 s) := by
  unfold execSeqCmdOn
  exact (keeps_plainWrite ho hq h0)

theorem keeps_execSeqCmdOff {w : Touch} {s0 s : State} {a0} (ho : w.otp = true) (hq : w.ports = true) (h0 : Keeps w s0 s) :
      OutP (Keeps w s0) (execSeqCmdOff a0 s) := by
  unfold execSeqCmdOff
  exact (keeps_plainWrite ho hq h0)

theorem keeps_execPaddockOffCmd {w : Touch} {s0 s : State} {a0 a1} (ho : w.otp = true) (hq : w.ports = true) (h0 : Keeps w s0
      s) : OutP (Keeps w s0) (execPaddockOffCmd a0 a1 s) := by
  unfold execPaddockOffCmd
  exact (keeps_keyedWrite ho hq h0)

theorem keeps_execPaddockReleaseCmd {w : Touch} {s0 s : State} {a0 a1} (ho : w.otp = true) (hq : w.ports = true) (h0 : Keeps
      w s0 s) : OutP (Keeps w s0) (execPaddockReleaseCmd a0 a1 s) := by
  unfold execPaddockReleaseCmd
  exact (keeps_keyedWrite ho hq h0)

theorem keeps_execAcknowledge {w : Touch} {s0 s : State} {a0 a1} (ho : w.otp = true) (hq : w.ports = true) (h0 : Keeps w s0
      s) : OutP (Keeps w s0) (execAcknowledge a0 a1 s) := by
  unfold execAcknowledge
  exact (keeps_plainWrite ho hq h0)

theorem keeps_execAckAll {w : Touch} {s0 s : State} {a0} (ho : w.otp = true) (hq : w.ports = true) (h0 : Keeps w s0 s) : OutP
      (Keeps w s0) (execAckAll a0 s) := by
  unfold execAckAll
  exact (keeps_plainWrite ho hq h0)

theorem keeps_execReactionWrite {w : Touch} {s0 s : State} {a0 a1 a2} (ho : w.otp = true) (hq : w.ports = true) (h0 : Keeps w
      s0 s) : OutP (Keeps w s0) (execReactionWrite a0 a1 a2 s) := by
  unfold execReactionWrite
  exact (keeps_keyedWrite ho hq h0)

theorem keeps_execTeamSwap {w : Touch} {s0 s : State} {a0} (ho : w.otp = true) (hq : w.ports = true) (h0 : Keeps w s0 s) :
      OutP (Keeps w s0) (execTeamSwap a0 s) := by
  unfold execTeamSwap
  exact (keeps_keyedWrite ho hq h0)

theorem keeps_execTeamRelease {w : Touch} {s0 s : State} {a0} (ho : w.otp = true) (hq : w.ports = true) (h0 : Keeps w s0 s) :
      OutP (Keeps w s0) (execTeamRelease a0 s) := by
  unfold execTeamRelease
  exact (keeps_keyedWrite ho hq h0)

theorem keeps_execTeamAdmit {w : Touch} {s0 s : State} {a0} (ho : w.otp = true) (hq : w.ports = true) (h0 : Keeps w s0 s) :
      OutP (Keeps w s0) (execTeamAdmit a0 s) := by
  unfold execTeamAdmit
  exact (keeps_keyedWrite ho hq h0)

theorem keeps_execHsCmdOn {w : Touch} {s0 s : State} {a0} (ho : w.otp = true) (hq : w.ports = true) (h0 : Keeps w s0 s) :
      OutP (Keeps w s0) (execHsCmdOn a0 s) := by
  unfold execHsCmdOn
  exact (keeps_keyedWrite ho hq h0)

theorem keeps_execHsCmdOff {w : Touch} {s0 s : State} {a0} (ho : w.otp = true) (hq : w.ports = true) (h0 : Keeps w s0 s) :
      OutP (Keeps w s0) (execHsCmdOff a0 s) := by
  unfold execHsCmdOff
  exact (keeps_keyedWrite ho hq h0)

theorem keeps_execPwrCmdResume {w : Touch} {s0 s : State} {a0} (ho : w.otp = true) (hq : w.ports = true) (h0 : Keeps w s0 s)
      : OutP (Keeps w s0) (execPwrCmdResume a0 s) := by
  unfold execPwrCmdResume
  exact (keeps_plainWrite ho hq h0)

theorem keeps_execPwrCmdSuspend {w : Touch} {s0 s : State} {a0} (ho : w.otp = true) (hq : w.ports = true) (h0 : Keeps w s0 s)
      : OutP (Keeps w s0) (execPwrCmdSuspend a0 s) := by
  unfold execPwrCmdSuspend
  exact (keeps_plainWrite ho hq h0)

theorem keeps_execLgDone {w : Touch} {s0 s : State} {a0} (ho : w.otp = true) (hq : w.ports = true) (h0 : Keeps w s0 s) : OutP
      (Keeps w s0) (execLgDone a0 s) := by
  unfold execLgDone
  exact (keeps_plainWrite ho hq h0)

theorem keeps_execEstCmdRequest {w : Touch} {s0 s : State} {a0} (ho : w.otp = true) (hq : w.ports = true) (h0 : Keeps w s0 s)
      : OutP (Keeps w s0) (execEstCmdRequest a0 s) := by
  unfold execEstCmdRequest
  exact (keeps_plainWrite ho hq h0)

theorem keeps_execEstCmdAbort {w : Touch} {s0 s : State} {a0} (ho : w.otp = true) (hq : w.ports = true) (h0 : Keeps w s0 s) :
      OutP (Keeps w s0) (execEstCmdAbort a0 s) := by
  unfold execEstCmdAbort
  exact (keeps_plainWrite ho hq h0)

theorem keeps_execScaleMaskWrite {w : Touch} {s0 s : State} {a0} (ho : w.otp = true) (hq : w.ports = true) (h0 : Keeps w s0
      s) : OutP (Keeps w s0) (execScaleMaskWrite a0 s) := by
  unfold execScaleMaskWrite
  exact (keeps_keyedWrite ho hq h0)

theorem keeps_execPortCmdPrSwap {w : Touch} {s0 s : State} {a0 a1} (ho : w.otp = true) (hq : w.ports = true) (h0 : Keeps w s0
      s) : OutP (Keeps w s0) (execPortCmdPrSwap a0 a1 s) := by
  unfold execPortCmdPrSwap
  exact (out_next (keeps_request ho hq h0))

theorem keeps_execPortCmdDrSwap {w : Touch} {s0 s : State} {a0 a1} (ho : w.otp = true) (hq : w.ports = true) (h0 : Keeps w s0
      s) : OutP (Keeps w s0) (execPortCmdDrSwap a0 a1 s) := by
  unfold execPortCmdDrSwap
  exact (out_next (keeps_request ho hq h0))

theorem keeps_execPortCmdClearLatch {w : Touch} {s0 s : State} {a0} (ho : w.otp = true) (hq : w.ports = true) (h0 : Keeps w
      s0 s) : OutP (Keeps w s0) (execPortCmdClearLatch a0 s) := by
  unfold execPortCmdClearLatch
  exact (keeps_plainWrite ho hq h0)

theorem keeps_execPortCmdExitBench {w : Touch} {s0 s : State} {a0} (ho : w.otp = true) (hq : w.ports = true) (h0 : Keeps w s0
      s) : OutP (Keeps w s0) (execPortCmdExitBench a0 s) := by
  unfold execPortCmdExitBench
  exact (keeps_plainWrite ho hq h0)

theorem keeps_execBenchEnWrite {w : Touch} {s0 s : State} {a0} (ho : w.otp = true) (hq : w.ports = true) (h0 : Keeps w s0 s)
      : OutP (Keeps w s0) (execBenchEnWrite a0 s) := by
  unfold execBenchEnWrite
  exact (keeps_keyedWrite ho hq h0)

theorem keeps_execRtcSetHalt {w : Touch} {s0 s : State} {a0 a1} (ho : w.otp = true) (hq : w.ports = true) (h0 : Keeps w s0 s)
      : OutP (Keeps w s0) (execRtcSetHalt a0 a1 s) := by
  unfold execRtcSetHalt
  exact (keeps_plainWrite ho hq h0)

theorem keeps_execRtcSetShift {w : Touch} {s0 s : State} {a0 a1} (ho : w.otp = true) (hq : w.ports = true) (h0 : Keeps w s0
      s) : OutP (Keeps w s0) (execRtcSetShift a0 a1 s) := by
  unfold execRtcSetShift
  exact (keeps_plainWrite ho hq h0)

theorem keeps_execRtcShiftWrite {w : Touch} {s0 s : State} {a0} (ho : w.otp = true) (hq : w.ports = true) (h0 : Keeps w s0 s)
      : OutP (Keeps w s0) (execRtcShiftWrite a0 s) := by
  unfold execRtcShiftWrite
  exact (keeps_plainWrite ho hq h0)

theorem keeps_execRtcCalWrite {w : Touch} {s0 s : State} {a0} (ho : w.otp = true) (hq : w.ports = true) (h0 : Keeps w s0 s) :
      OutP (Keeps w s0) (execRtcCalWrite a0 s) := by
  unfold execRtcCalWrite
  exact (keeps_plainWrite ho hq h0)

theorem keeps_execFsoClear {w : Touch} {s0 s : State} {a0} (ho : w.otp = true) (hq : w.ports = true) (h0 : Keeps w s0 s) :
      OutP (Keeps w s0) (execFsoClear a0 s) := by
  unfold execFsoClear
  exact (keeps_keyedWrite ho hq h0)

theorem keeps_execNvmCmdCommit {w : Touch} {s0 s : State} {a0} (ho : w.otp = true) (hq : w.ports = true) (h0 : Keeps w s0 s)
      : OutP (Keeps w s0) (execNvmCmdCommit a0 s) := by
  unfold execNvmCmdCommit
  exact (keeps_plainWrite ho hq h0)

theorem keeps_execOtpProgCmd {w : Touch} {s0 s : State} {a0} (ho : w.otp = true) (hq : w.ports = true) (h0 : Keeps w s0 s) :
      OutP (Keeps w s0) (execOtpProgCmd a0 s) := by
  unfold execOtpProgCmd
  exact (keeps_keyedWrite ho hq h0)

theorem keeps_execExportStart {w : Touch} {s0 s : State} {a0} (ho : w.otp = true) (hq : w.ports = true) (h0 : Keeps w s0 s) :
      OutP (Keeps w s0) (execExportStart a0 s) := by
  unfold execExportStart
  exact (keeps_plainWrite ho hq h0)

theorem keeps_execExportEnd {w : Touch} {s0 s : State} {a0} (ho : w.otp = true) (hq : w.ports = true) (h0 : Keeps w s0 s) :
      OutP (Keeps w s0) (execExportEnd a0 s) := by
  unfold execExportEnd
  exact (keeps_plainWrite ho hq h0)

theorem keeps_execBbCmdCapture {w : Touch} {s0 s : State} {a0} (ho : w.otp = true) (hq : w.ports = true) (h0 : Keeps w s0 s)
      : OutP (Keeps w s0) (execBbCmdCapture a0 s) := by
  unfold execBbCmdCapture
  exact (keeps_plainWrite ho hq h0)

theorem keeps_execBbCmdRelease {w : Touch} {s0 s : State} {a0} (ho : w.otp = true) (hq : w.ports = true) (h0 : Keeps w s0 s)
      : OutP (Keeps w s0) (execBbCmdRelease a0 s) := by
  unfold execBbCmdRelease
  exact (keeps_plainWrite ho hq h0)

theorem keeps_execCollieServe {w : Touch} {s0 s : State} {a0} (ho : w.otp = true) (hq : w.ports = true) (h0 : Keeps w s0 s) :
      OutP (Keeps w s0) (execCollieServe a0 s) := by
  unfold execCollieServe
  exact (keeps_plainWrite ho hq h0)

theorem keeps_execCollieCheckin {w : Touch} {s0 s : State} {a0} (ho : w.otp = true) (hq : w.ports = true) (h0 : Keeps w s0 s)
      : OutP (Keeps w s0) (execCollieCheckin a0 s) := by
  unfold execCollieCheckin
  exact (keeps_plainWrite ho hq h0)

theorem keeps_execHostbusySet {w : Touch} {s0 s : State} {a0} (ho : w.otp = true) (hq : w.ports = true) (h0 : Keeps w s0 s) :
      OutP (Keeps w s0) (execHostbusySet a0 s) := by
  unfold execHostbusySet
  exact (keeps_plainWrite ho hq h0)

theorem keeps_execHostbusyClear {w : Touch} {s0 s : State} {a0} (ho : w.otp = true) (hq : w.ports = true) (h0 : Keeps w s0 s)
      : OutP (Keeps w s0) (execHostbusyClear a0 s) := by
  unfold execHostbusyClear
  exact (keeps_plainWrite ho hq h0)

theorem keeps_execCollieEn {w : Touch} {s0 s : State} {a0} (ho : w.otp = true) (hq : w.ports = true) (h0 : Keeps w s0 s) :
      OutP (Keeps w s0) (execCollieEn a0 s) := by
  unfold execCollieEn
  exact (keeps_keyedWrite ho hq h0)

theorem keeps_execClaimRead {w : Touch} {s0 s : State} {a0 a1 a2} (ho : w.otp = true) (hq : w.ports = true) (h0 : Keeps w s0
      s) : OutP (Keeps w s0) (execClaimRead a0 a1 a2 s) := by
  unfold execClaimRead
  exact (out_next (keeps_request ho hq h0))

theorem keeps_execIrqClear {w : Touch} {s0 s : State} {a0} (ho : w.otp = true) (hq : w.ports = true) (h0 : Keeps w s0 s) :
      OutP (Keeps w s0) (execIrqClear a0 s) := by
  unfold execIrqClear
  exact (out_next (keeps_request ho hq h0))

theorem keeps_execKeyRevoke {w : Touch} {s0 s : State} {a0} (ho : w.otp = true) (hq : w.ports = true) (h0 : Keeps w s0 s) :
      OutP (Keeps w s0) (execKeyRevoke a0 s) := by
  unfold execKeyRevoke
  exact (keeps_keyedWrite ho hq h0)

theorem keeps_execKeyRelease {w : Touch} {s0 s : State} {a0 a1} (ho : w.otp = true) (hq : w.ports = true) (h0 : Keeps w s0 s)
      : OutP (Keeps w s0) (execKeyRelease a0 a1 s) := by
  unfold execKeyRelease
  exact (out_next (keeps_request ho hq h0))

theorem keeps_execSnapStart {w : Touch} {s0 s : State} {a0} (ho : w.otp = true) (hq : w.ports = true) (h0 : Keeps w s0 s) :
      OutP (Keeps w s0) (execSnapStart a0 s) := by
  unfold execSnapStart
  exact (keeps_plainWrite ho hq h0)

theorem keeps_execSnapEnd {w : Touch} {s0 s : State} {a0} (ho : w.otp = true) (hq : w.ports = true) (h0 : Keeps w s0 s) :
      OutP (Keeps w s0) (execSnapEnd a0 s) := by
  unfold execSnapEnd
  exact (keeps_plainWrite ho hq h0)

theorem keeps_execImgOpen {w : Touch} {s0 s : State} {a0} (ho : w.otp = true) (hq : w.ports = true) (h0 : Keeps w s0 s) :
      OutP (Keeps w s0) (execImgOpen a0 s) := by
  unfold execImgOpen
  exact (keeps_keyedWrite ho hq h0)

theorem keeps_execImgValidate {w : Touch} {s0 s : State} {a0} (ho : w.otp = true) (hq : w.ports = true) (h0 : Keeps w s0 s) :
      OutP (Keeps w s0) (execImgValidate a0 s) := by
  unfold execImgValidate
  exact (keeps_keyedWrite ho hq h0)

theorem keeps_execImgCancel {w : Touch} {s0 s : State} {a0} (ho : w.otp = true) (hq : w.ports = true) (h0 : Keeps w s0 s) :
      OutP (Keeps w s0) (execImgCancel a0 s) := by
  unfold execImgCancel
  exact (keeps_keyedWrite ho hq h0)

theorem keeps_execImgStageWrite {w : Touch} {s0 s : State} {a0} (ho : w.otp = true) (hq : w.ports = true) (h0 : Keeps w s0 s)
      : OutP (Keeps w s0) (execImgStageWrite a0 s) := by
  unfold execImgStageWrite
  exact (out_next (keeps_request ho hq h0))

theorem keeps_execImgActivate {w : Touch} {s0 s : State} {a0} (ho : w.otp = true) (hq : w.ports = true) (h0 : Keeps w s0 s) :
      OutP (Keeps w s0) (execImgActivate a0 s) := by
  unfold execImgActivate
  exact (keeps_keyedWrite ho hq h0)

theorem keeps_execBudgetAllocWrite {w : Touch} {s0 s : State} {a0 a1} (ho : w.otp = true) (hq : w.ports = true) (h0 : Keeps w
      s0 s) : OutP (Keeps w s0) (execBudgetAllocWrite a0 a1 s) := by
  unfold execBudgetAllocWrite
  exact (keeps_plainWrite ho hq h0)

theorem keeps_execBudgetGrantWrite {w : Touch} {s0 s : State} {a0} (ho : w.otp = true) (hq : w.ports = true) (h0 : Keeps w s0
      s) : OutP (Keeps w s0) (execBudgetGrantWrite a0 s) := by
  unfold execBudgetGrantWrite
  exact (keeps_keyedWrite ho hq h0)

theorem keeps_execLbStart {w : Touch} {s0 s : State} {a0 a1} (ho : w.otp = true) (hq : w.ports = true) (h0 : Keeps w s0 s) :
      OutP (Keeps w s0) (execLbStart a0 a1 s) := by
  unfold execLbStart
  exact (keeps_plainWrite ho hq h0)

theorem keeps_execLbStop {w : Touch} {s0 s : State} {a0 a1} (ho : w.otp = true) (hq : w.ports = true) (h0 : Keeps w s0 s) :
      OutP (Keeps w s0) (execLbStop a0 a1 s) := by
  unfold execLbStop
  exact (keeps_plainWrite ho hq h0)

theorem keeps_execBscanEn {w : Touch} {s0 s : State} {a0} (ho : w.otp = true) (hq : w.ports = true) (h0 : Keeps w s0 s) :
      OutP (Keeps w s0) (execBscanEn a0 s) := by
  unfold execBscanEn
  exact (keeps_keyedWrite ho hq h0)

end Sys2Proof.Machine
end

