-- ==== Sys2Proof/Laws/KeepsBoot.lean ====
section
/-!
SUPPORT. What the definitions of Machine/Boot.lean keep: each passes on the queue, the canonical form, the programmed fuses, and
every part that its hypotheses do not let it write.
-/

namespace Sys2Proof.Machine
open State

theorem keeps_unpowered {w : Touch} {s0 s : State} (hq : w.ports = true) (h0 : Keeps w s0 s) : Keeps w s0 (unpowered s) := by
  unfold unpowered
  extract_lets bkp flags r t u v
  have ht : Keeps w s0 t := by
    refine h0.stores rfl ?_ (OtpKept.same rfl) (fun _ => rfl) (fun _ => rfl) (fun _ => rfl)
      fun x => by rw [hq] at x; cases x
    simp only [wf_parts, t]
    exact fun ⟨a, b, c, d, e, _⟩ => ⟨FMap.wf_filter _ _ _ a, FMap.wf_filter _ _ _ b, c, d, e, rfl, rfl, rfl, rfl⟩
  have hu : Keeps w s0 u := keeps_countersBack ht
  have hv : Keeps w s0 v := keeps_setFlag (keeps_setBit (keeps_setBit hu))
  exact ite_keeps (keeps_setO hv) hv

theorem keeps_bkpLost {w : Touch} {s0 s : State} (h0 : Keeps w s0 s) : Keeps w s0 (bkpLost s) := by
  unfold bkpLost
  extract_lets +onlyGivenNames x1
  have h2 : Keeps w s0 x1 := (keeps_rtcLost (keeps_setVar h0))
  clear_value x1
  extract_lets +onlyGivenNames x3
  have h4 : Keeps w s0 x3 := (keeps_keepObjs (keeps_keepVars h2))
  clear_value x3
  exact (keeps_rtcLost (keeps_setVar h4))

theorem keeps_mgtStops {w : Touch} {s0 s : State} {a0} (hq : w.ports = true) (h0 : Keeps w s0 s) : Keeps w s0 (mgtStops a0 s)
      := by
  unfold mgtStops
  extract_lets +onlyGivenNames x1
  have h2 : Keeps w s0 x1 := (keeps_unpowered hq (keeps_setVar h0))
  clear_value x1
  exact (ite_keeps h2 (keeps_bkpLost h2))

theorem keeps_retainMode {w : Touch} {s0 s : State} {a0 a1} (h0 : Keeps w s0 s) : Keeps w s0 (retainMode a0 a1 s) := by
  unfold retainMode
  exact (keeps_setVar (keeps_setVar (keeps_setVar h0)))

theorem keeps_modeRecord {w : Touch} {s0 s : State} {a0 a1 a2 a3} (h0 : Keeps w s0 s) : Keeps w s0 (modeRecord a0 a1 a2 a3 s)
      := by
  unfold modeRecord
  exact (keeps_record h0)

theorem keeps_otpDrawBad {w : Touch} {s0 s : State} {a0} (h0 : Keeps w s0 s) : Keeps w s0 (otpDrawBad a0 s) := by
  induction a0 generalizing s with
  | nil => exact h0
  | cons x t ih => exact ih (keeps_setShadow (keeps_drawFree h0))

theorem keeps_senseAll {w : Touch} {s0 s : State} (h0 : Keeps w s0 s) : Keeps w s0 (senseAll s) := by
  refine h0.stores rfl ?_ (OtpKept.same rfl) (fun _ => rfl) (fun _ => rfl) (fun _ => rfl) fun _ => rfl
  simp only [wf_parts, senseAll]
  exact fun ⟨a, b, c, d, e, _, g⟩ => ⟨a, b, c, d, e, e, g⟩

theorem keeps_otpSense {w : Touch} {s0 s : State} {a0 a1} (h0 : Keeps w s0 s) : Keeps w s0 (otpSense a0 a1 s) := by
  unfold otpSense
  extract_lets +onlyGivenNames x1
  clear_value x1
  extract_lets +onlyGivenNames x2
  clear_value x2
  extract_lets +onlyGivenNames x3
  have h4 : Keeps w s0 x3 := (keeps_otpDrawBad (keeps_senseAll h0))
  clear_value x3
  extract_lets +onlyGivenNames x5
  have h6 : Keeps w s0 x5 := (keeps_setO (keeps_setO h4))
  clear_value x5
  exact (ite_keeps (keeps_setFlag (keeps_setBit h6)) (keeps_setBit h6))

theorem keeps_otpReport {w : Touch} {s0 s : State} {a0 a1} (h0 : Keeps w s0 s) : Keeps w s0 (otpReport a0 a1 s) := by
  unfold otpReport
  extract_lets +onlyGivenNames x1
  clear_value x1
  extract_lets +onlyGivenNames x2
  clear_value x2
  extract_lets +onlyGivenNames x3
  have h4 : Keeps w s0 x3 := (forEach_keeps h0 fun _ _ k5 => (keeps_raiseAction k5))
  clear_value x3
  extract_lets +onlyGivenNames x6
  have h7 : Keeps w s0 x6 := by
    unfold x6
    refine forRange_keeps h4 fun _ _ h10 => ?_
    split
    · exact (keeps_raiseAction h10)
    · exact h10
  clear_value x6
  split
  · exact (keeps_raiseAction h7)
  · exact h7

theorem keeps_otpDefaults {w : Touch} {s0 s : State} (h0 : Keeps w s0 s) : Keeps w s0 (otpDefaults s) := by
  unfold otpDefaults
  extract_lets +onlyGivenNames x1
  have h2 : Keeps w s0 x1 := (keeps_otpShow (keeps_setO h0))
  clear_value x1
  extract_lets +onlyGivenNames x3
  clear_value x3
  extract_lets +onlyGivenNames x4
  have h5 : Keeps w s0 x4 := (ite_keeps h2 (keeps_setRom h2))
  clear_value x4
  extract_lets +onlyGivenNames x6
  have h7 : Keeps w s0 x6 := (ite_keeps h5 (keeps_setRom h5))
  clear_value x6
  exact (keeps_setO h7)

theorem keeps_nodeId {w : Touch} {s0 s : State} {a0} (h0 : Keeps w s0 s) : Keeps w s0 (nodeId a0 s) := by
  unfold nodeId
  extract_lets +onlyGivenNames x1
  clear_value x1
  extract_lets +onlyGivenNames x2
  clear_value x2
  extract_lets +onlyGivenNames x3
  have h4 : Keeps w s0 x3 := (keeps_setO h0)
  clear_value x3
  exact (ite_keeps (keeps_setO h4) (keeps_record (keeps_post (keeps_setO h4))))

theorem keeps_canRestart {w : Touch} {s0 s : State} {a0} (h0 : Keeps w s0 s) : Keeps w s0 (canRestart a0 s) := by
  unfold canRestart
  exact (keeps_setO h0)

theorem keeps_bootLoad {w : Touch} {s0 s : State} {a0 a1 a2} (hq : w.ports = true) (h0 : Keeps w s0 s) : Keeps w s0 (bootLoad
      a0 a1 a2 s) := by
  unfold bootLoad
  extract_lets +onlyGivenNames x1
  have h2 : Keeps w s0 x1 := (keeps_condsBoot h0)
  clear_value x1
  extract_lets +onlyGivenNames x3
  have h4 : Keeps w s0 x3 := (keeps_otpReport (keeps_otpDefaults (keeps_patchBoot h2)))
  clear_value x3
  extract_lets +onlyGivenNames x5
  have h6 : Keeps w s0 x5 := (keeps_bankSelect (keeps_securityBoot h4))
  clear_value x5
  extract_lets +onlyGivenNames x7
  have h8 : Keeps w s0 x7 := (keeps_irqRestore (keeps_collieBoot (keeps_sequencerBoot h6)))
  clear_value x7
  extract_lets +onlyGivenNames x9
  have h10 : Keeps w s0 x9 := (forRange_keeps h8 fun _ _ k11 => (keeps_resetPort hq k11))
  clear_value x9
  extract_lets +onlyGivenNames x12
  have h13 : Keeps w s0 x12 := (Keeps.same h10 rfl rfl rfl rfl rfl rfl rfl rfl rfl rfl rfl)
  clear_value x12
  split
  · have h14 := pair_of_eq (Q := Keeps w s0) (by assumption) (keeps_drawFree h13)
    exact (keeps_setVar (keeps_setVar (keeps_setVar (keeps_setVar (keeps_canRestart (keeps_canRestart h14))))))

theorem keeps_bootMode {w : Touch} {s0 s : State} {a0 a1 a2} (h0 : Keeps w s0 s) : Keeps w s0 (bootMode a0 a1 a2 s) := by
  unfold bootMode
  extract_lets +onlyGivenNames x1
  have h2 : Keeps w s0 x1 := (keeps_setO (keeps_setO (keeps_setO h0)))
  clear_value x1
  extract_lets +onlyGivenNames x3
  have h4 : Keeps w s0 x3 := (keeps_setFlag h2)
  clear_value x3
  exact (keeps_retainMode (keeps_setBit (keeps_setO h4)))

theorem keeps_warmBoot {w : Touch} {s0 s : State} {a0 a1} (hq : w.ports = true) (h0 : Keeps w s0 s) : Keeps w s0 (warmBoot a0
      a1 s) := by
  unfold warmBoot
  extract_lets +onlyGivenNames x1
  have h2 : Keeps w s0 x1 := (keeps_lbBoot (keeps_exBootAbort h0))
  clear_value x1
  extract_lets +onlyGivenNames x3
  have h4 : Keeps w s0 x3 := (ite_keeps (keeps_suspensionEnd h2) h2)
  clear_value x3
  extract_lets +onlyGivenNames x5
  clear_value x5
  extract_lets +onlyGivenNames x6
  clear_value x6
  extract_lets +onlyGivenNames x7
  clear_value x7
  extract_lets +onlyGivenNames x8
  clear_value x8
  extract_lets +onlyGivenNames x9
  have h10 : Keeps w s0 x9 := (keeps_setRole h4)
  clear_value x9
  extract_lets +onlyGivenNames x11
  have h12 : Keeps w s0 x11 := (forEach_keeps h10 fun _ _ k13 => (ite_keeps (keeps_killRail k13) k13))
  clear_value x11
  extract_lets +onlyGivenNames x14
  have h15 : Keeps w s0 x14 := (keeps_keepHists (keeps_keepVars (keeps_keepObjs h12)))
  clear_value x14
  extract_lets +onlyGivenNames x16
  have h17 : Keeps w s0 x16 := (keeps_showBscan h15)
  clear_value x16
  extract_lets +onlyGivenNames x18
  have h19 : Keeps w s0 x18 := (keeps_clearLast h17)
  clear_value x18
  extract_lets +onlyGivenNames x20
  have h21 : Keeps w s0 x20 := (Keeps.same h19 rfl rfl rfl rfl rfl rfl rfl rfl rfl rfl rfl)
  clear_value x20
  extract_lets +onlyGivenNames x22
  have h23 : Keeps w s0 x22 := (keeps_setO (keeps_setFlag (keeps_setFlag h21)))
  clear_value x22
  extract_lets +onlyGivenNames x24
  have h25 : Keeps w s0 x24 := (keeps_modeRecord (keeps_bootMode h23))
  clear_value x24
  extract_lets +onlyGivenNames x26
  have h27 : Keeps w s0 x26 := (keeps_setBit (keeps_setVar (keeps_setVar h25)))
  clear_value x26
  extract_lets +onlyGivenNames x28
  have h29 : Keeps w s0 x28 := (keeps_setO (keeps_setBit (keeps_setO h27)))
  clear_value x28
  extract_lets +onlyGivenNames x30
  have h31 : Keeps w s0 x30 := (keeps_otpSense h29)
  clear_value x30
  extract_lets +onlyGivenNames x32
  have h33 : Keeps w s0 x32 := (keeps_listsAtBoot (keeps_bootLoad hq h31))
  clear_value x32
  extract_lets +onlyGivenNames x34
  have h35 : Keeps w s0 x34 := (keeps_cresWarm h33)
  clear_value x34
  extract_lets +onlyGivenNames x36
  have h37 : Keeps w s0 x36 := (ite_keeps (keeps_wbAsk (keeps_setVar h35)) h35)
  clear_value x36
  extract_lets +onlyGivenNames x38
  have h39 : Keeps w s0 x38 := (keeps_sbBoot (keeps_estRecordLoad (keeps_setFlag h37)))
  clear_value x38
  exact (ite_keeps h39 (keeps_referenceChange h39))

theorem keeps_bootRecords {w : Touch} {s0 s : State} {a0 a1 a2 a3 a4} (h0 : Keeps w s0 s) : Keeps w s0 (bootRecords a0 a1 a2
      a3 a4 s) := by
  unfold bootRecords
  extract_lets +onlyGivenNames x1
  clear_value x1
  extract_lets +onlyGivenNames x2
  have h3 : Keeps w s0 x2 := (Keeps.same h0 rfl rfl rfl rfl rfl rfl rfl rfl rfl rfl rfl)
  clear_value x2
  extract_lets +onlyGivenNames x4
  have h5 : Keeps w s0 x4 := (ite_keeps (forEach_keeps h3 fun _ _ k6 => (keeps_offerEntry k6)) (forEach_keeps h3 fun _ _ k7
      => (keeps_bump k7)))
  clear_value x4
  extract_lets +onlyGivenNames x8
  have h9 : Keeps w s0 x8 := (ite_keeps (keeps_record h5) h5)
  clear_value x8
  exact (keeps_modeRecord h9)

theorem keeps_terrierReport {w : Touch} {s0 s : State} (h0 : Keeps w s0 s) : Keeps w s0 (terrierReport s) := by
  unfold terrierReport
  exact (keeps_record h0)

theorem keeps_bootReports {w : Touch} {s0 s : State} {a0} (h0 : Keeps w s0 s) : Keeps w s0 (bootReports a0 s) := by
  unfold bootReports
  extract_lets +onlyGivenNames x1
  have h2 : Keeps w s0 x1 := (ite_keeps (keeps_terrierReport h0) h0)
  clear_value x1
  extract_lets +onlyGivenNames x3
  have h4 : Keeps w s0 x3 := (keeps_rtcFailReports h2)
  clear_value x3
  exact (ite_keeps (keeps_setVar (keeps_raiseAction h4)) h4)

theorem keeps_bootStores {w : Touch} {s0 s : State} {a0} (h0 : Keeps w s0 s) : Keeps w s0 (bootStores a0 s) := by
  unfold bootStores
  extract_lets +onlyGivenNames x1
  have h2 : Keeps w s0 x1 := (keeps_estRecordLoad (keeps_healthBoot h0))
  clear_value x1
  extract_lets +onlyGivenNames x3
  clear_value x3
  extract_lets +onlyGivenNames x4
  have h5 : Keeps w s0 x4 := (keeps_sbBoot (keeps_budgetLoad (keeps_chargeLoad h2)))
  clear_value x4
  extract_lets +onlyGivenNames x6
  have h7 : Keeps w s0 x6 := (keeps_sbRecount (keeps_closeApply h5))
  clear_value x6
  extract_lets +onlyGivenNames x8
  have h9 : Keeps w s0 x8 := (ite_keeps (keeps_setO h7) h7)
  clear_value x8
  extract_lets +onlyGivenNames x10
  have h11 : Keeps w s0 x10 := (keeps_unpoweredEstimate (keeps_bootEventCheck h9))
  clear_value x10
  exact (keeps_budgetCheck (keeps_chargeCheck h11))

theorem keeps_powerOnBoot {w : Touch} {s0 s : State} {a0} (hp : w.pins = true) (hq : w.ports = true) (h0 : Keeps w s0 s) :
      Keeps w s0 (powerOnBoot a0 s) := by
  unfold powerOnBoot
  extract_lets +onlyGivenNames x1
  clear_value x1
  extract_lets +onlyGivenNames x2
  clear_value x2
  extract_lets +onlyGivenNames x3
  clear_value x3
  extract_lets +onlyGivenNames x4
  clear_value x4
  extract_lets +onlyGivenNames x5
  clear_value x5
  extract_lets +onlyGivenNames x6
  have h7 : Keeps w s0 x6 := (keeps_setFlag (keeps_unpowered hq h0))
  clear_value x6
  extract_lets +onlyGivenNames x8
  have h9 : Keeps w s0 x8 := (ite_keeps h7 (keeps_rtcLost h7))
  clear_value x8
  extract_lets +onlyGivenNames x10
  clear_value x10
  extract_lets +onlyGivenNames x11
  have h12 : Keeps w s0 x11 := (keeps_rtcSnapshot (forRange_keeps h9 fun _ _ k13 => (keeps_rtcEdge k13)))
  clear_value x11
  extract_lets +onlyGivenNames x14
  have h15 : Keeps w s0 x14 := (keeps_setO (keeps_setVar h12))
  clear_value x14
  extract_lets +onlyGivenNames x16
  have h17 : Keeps w s0 x16 := (keeps_bumpSat h15)
  clear_value x16
  extract_lets +onlyGivenNames x18
  have h19 : Keeps w s0 x18 := (keeps_setO (keeps_setO h17))
  clear_value x18
  extract_lets +onlyGivenNames x20
  have h21 : Keeps w s0 x20 := (keeps_setPin hp (keeps_setPin hp (keeps_setPin hp h19)))
  clear_value x20
  extract_lets +onlyGivenNames x22
  have h23 : Keeps w s0 x22 := (keeps_setFlag (keeps_setVar (keeps_setO h21)))
  clear_value x22
  extract_lets +onlyGivenNames x24
  have h25 : Keeps w s0 x24 := (keeps_setBit h23)
  clear_value x24
  extract_lets +onlyGivenNames x26
  have h27 : Keeps w s0 x26 := (keeps_portBoot (keeps_bootMode h25))
  clear_value x26
  extract_lets +onlyGivenNames x28
  have h29 : Keeps w s0 x28 := (keeps_setVar h27)
  clear_value x28
  extract_lets +onlyGivenNames x30
  have h31 : Keeps w s0 x30 := (Keeps.same h29 rfl rfl rfl rfl rfl rfl rfl rfl rfl rfl rfl)
  clear_value x30
  extract_lets +onlyGivenNames x32
  have h33 : Keeps w s0 x32 := (keeps_otpSense h31)
  clear_value x32
  extract_lets +onlyGivenNames x34
  have h35 : Keeps w s0 x34 := (keeps_bootRecords h33)
  clear_value x34
  extract_lets +onlyGivenNames x36
  have h37 : Keeps w s0 x36 := (keeps_setVar (keeps_setVar (keeps_setVar h35)))
  clear_value x36
  extract_lets +onlyGivenNames x38
  have h39 : Keeps w s0 x38 := (keeps_nodeId (keeps_bootLoad hq h37))
  clear_value x38
  extract_lets +onlyGivenNames x40
  have h41 : Keeps w s0 x40 := (keeps_bootReports (keeps_canRestart (keeps_canRestart h39)))
  clear_value x40
  exact (keeps_rtcStampMgt (keeps_listsAtBoot (keeps_bootStores h41)))

end Sys2Proof.Machine
end

