-- ==== Sys2Proof/Laws/KeepsModes.lean ====
section
/-!
SUPPORT. What the definitions of Machine/Modes.lean keep: each passes on the queue, the canonical form, the programmed fuses, and
every part that its hypotheses do not let it write.
-/

namespace Sys2Proof.Machine
open State

theorem keeps_decisionRecord {w : Touch} {s0 s : State} {a0 a1} (h0 : Keeps w s0 s) : Keeps w s0 (decisionRecord a0 a1 s) :=
      by
  unfold decisionRecord
  extract_lets +onlyGivenNames x1
  clear_value x1
  extract_lets +onlyGivenNames x2
  clear_value x2
  extract_lets +onlyGivenNames x3
  clear_value x3
  exact (keeps_record (ite_keeps (keeps_post h0) h0))

theorem keeps_hiccupDecide {w : Touch} {s0 s : State} {a0 a1} (h0 : Keeps w s0 s) : Keeps w s0 (hiccupDecide a0 a1 s) := by
  unfold hiccupDecide
  extract_lets +onlyGivenNames x1
  clear_value x1
  refine ite_keeps h0 ?_
  extract_lets +onlyGivenNames x2
  clear_value x2
  split
  · extract_lets +onlyGivenNames x3
    have h4 : Keeps w s0 x3 := (forEach_keeps h0 fun _ _ k5 => (keeps_setFlag (keeps_addO k5)))
    clear_value x3
    extract_lets +onlyGivenNames x6
    clear_value x6
    exact (ite_keeps (keeps_setVar (keeps_reactHiccup h4)) h4)
  · extract_lets +onlyGivenNames x7
    have h8 : Keeps w s0 x7 := (forEach_keeps h0 fun _ _ k9 => (keeps_record (keeps_post k9)))
    clear_value x7
    exact (keeps_blockDependants (keeps_reactRailOff h8))

theorem keeps_railActions {w : Touch} {s0 s : State} {a0} (h0 : Keeps w s0 s) : Keeps w s0 (railActions a0 s) := by
  unfold railActions
  extract_lets +onlyGivenNames x1
  clear_value x1
  extract_lets +onlyGivenNames x2
  have h3 : Keeps w s0 x2 := by
    unfold x2
    refine forEach_keeps h0 fun _ _ h6 => ?_
    split
    · exact (keeps_paddockOff h6)
    · exact (keeps_paddockOff h6)
    · exact h6
  clear_value x2
  extract_lets +onlyGivenNames x7
  have h8 : Keeps w s0 x7 := by
    unfold x7
    refine forEach_keeps h3 fun _ _ h11 => ?_
    refine ite_keeps h11 ?_
    split
    · exact (keeps_reactRailOff h11)
    · exact (keeps_hiccupDecide h11)
  clear_value x7
  extract_lets +onlyGivenNames x12
  have h13 : Keeps w s0 x12 := by
    unfold x12
    refine forEach_keeps h8 fun _ _ h16 => ?_
    split
    · exact (keeps_blockDependants h16)
    · exact h16
  clear_value x12
  exact (keeps_dependantsNow h13)

theorem keeps_dueTick {w : Touch} {s0 s : State} (h0 : Keeps w s0 s) : Keeps w s0 (dueTick s) := by
  unfold dueTick
  extract_lets +onlyGivenNames x1
  clear_value x1
  extract_lets +onlyGivenNames x2
  have h3 : Keeps w s0 x2 := (Keeps.same h0 rfl rfl rfl rfl rfl rfl rfl rfl rfl rfl rfl)
  clear_value x2
  extract_lets +onlyGivenNames x4
  have h5 : Keeps w s0 x4 := by
    unfold x4
    refine forEach_keeps h3 fun _ _ h8 => ?_
    split
    · exact (keeps_post h8)
    · exact h8
  clear_value x4
  extract_lets +onlyGivenNames x9
  have h10 : Keeps w s0 x9 := (forEach_keeps h5 fun _ _ k11 => (keeps_decisionRecord k11))
  clear_value x9
  extract_lets +onlyGivenNames x12
  have h13 : Keeps w s0 x12 := by
    unfold x12
    split
    · exact (ite_keeps (keeps_yieldNow h10) h10)
    · exact h10
  clear_value x12
  extract_lets +onlyGivenNames x14
  clear_value x14
  split
  · exact (keeps_setFlag (keeps_requestMode h13))
  · exact (ite_keeps (keeps_railActions h13) h13)

theorem keeps_leaveBoot {w : Touch} {s0 s : State} (h0 : Keeps w s0 s) : Keeps w s0 (leaveBoot s) := by
  unfold leaveBoot
  extract_lets +onlyGivenNames x1
  have h2 : Keeps w s0 x1 := (keeps_setO h0)
  clear_value x1
  extract_lets +onlyGivenNames x3
  have h4 : Keeps w s0 x3 := (keeps_presenceBoot (keeps_teamBootEnd (keeps_marshalBoot h2)))
  clear_value x3
  extract_lets +onlyGivenNames x5
  have h6 : Keeps w s0 x5 := (ite_keeps (keeps_publicKeyAsk h4) h4)
  clear_value x5
  exact (keeps_setVar (keeps_setVar (keeps_setFlag h6)))

theorem keeps_bootMain {w : Touch} {s0 s : State} (h0 : Keeps w s0 s) : Keeps w s0 (bootMain s) := by
  unfold bootMain
  extract_lets +onlyGivenNames x1
  clear_value x1
  exact (keeps_setBit (keeps_setFlag h0))

theorem keeps_bootEnd {w : Touch} {s0 s : State} {a0} (h0 : Keeps w s0 s) : Keeps w s0 (bootEnd a0 s) := by
  unfold bootEnd
  exact (ite_keeps h0 (ite_keeps (keeps_setFlag (keeps_leaveBoot (keeps_bootMain h0))) (ite_keeps (keeps_leaveBoot h0)
      (keeps_bootMain h0))))

theorem keeps_safeOff {w : Touch} {s0 s : State} {a0} (h0 : Keeps w s0 s) : Keeps w s0 (safeOff a0 s) := by
  unfold safeOff
  extract_lets +onlyGivenNames x1
  clear_value x1
  extract_lets +onlyGivenNames x2
  clear_value x2
  refine ite_keeps h0 ?_
  extract_lets +onlyGivenNames x3
  have h4 : Keeps w s0 x3 := (keeps_killRail h0)
  clear_value x3
  exact (ite_keeps (keeps_setVar (keeps_setFlag (keeps_setSeq (keeps_measure h4)))) h4)

theorem keeps_safeEntry {w : Touch} {s0 s : State} {a0} (h0 : Keeps w s0 s) : Keeps w s0 (safeEntry a0 s) := by
  unfold safeEntry
  refine ite_keeps h0 ?_
  extract_lets +onlyGivenNames x1
  have h2 : Keeps w s0 x1 := (ite_keeps (keeps_seqAbortEntry h0) (keeps_abortRails (keeps_setVar h0)))
  clear_value x1
  extract_lets +onlyGivenNames x3
  have h4 : Keeps w s0 x3 := (forEach_keeps h2 fun _ _ k5 => (keeps_safeOff k5))
  clear_value x3
  exact (forRange_keeps h4 fun _ _ k6 => (keeps_pdisAssert k6))

theorem keeps_leaveHoldup {w : Touch} {s0 s : State} (h0 : Keeps w s0 s) : Keeps w s0 (leaveHoldup s) := by
  unfold leaveHoldup
  extract_lets +onlyGivenNames x1
  have h2 : Keeps w s0 x1 := (keeps_setO (keeps_setVar (keeps_stopT h0)))
  clear_value x1
  exact (keeps_setBit (keeps_setBit h2))

theorem keeps_runFromHoldup {w : Touch} {s0 s : State} (h0 : Keeps w s0 s) : Keeps w s0 (runFromHoldup s) := by
  unfold runFromHoldup
  extract_lets +onlyGivenNames x1
  have h2 : Keeps w s0 x1 := (keeps_record h0)
  clear_value x1
  extract_lets +onlyGivenNames x3
  have h4 : Keeps w s0 x3 := (keeps_setFlag h2)
  clear_value x3
  extract_lets +onlyGivenNames x5
  have h6 : Keeps w s0 x5 := (ite_keeps (keeps_condOff h4) h4)
  clear_value x5
  extract_lets +onlyGivenNames x7
  have h8 : Keeps w s0 x7 := (keeps_seqEnterRun h6)
  clear_value x7
  exact (ite_keeps (keeps_onRequest h8) h8)

theorem keeps_enterMode {w : Touch} {s0 s : State} {a0 a1 a2} (hq : w.ports = true) (h0 : Keeps w s0 s) : Keeps w s0
      (enterMode a0 a1 a2 s) := by
  unfold enterMode
  extract_lets +onlyGivenNames x1
  clear_value x1
  extract_lets +onlyGivenNames x2
  have h3 : Keeps w s0 x2 := (keeps_setFlag h0)
  clear_value x2
  refine ite_keeps (keeps_warmBoot hq (keeps_bscanClear (keeps_teamEnterMode h3))) ?_
  extract_lets +onlyGivenNames x4
  have h5 : Keeps w s0 x4 := (keeps_modeRecord (keeps_bscanClear h3))
  clear_value x4
  extract_lets +onlyGivenNames x6
  have h7 : Keeps w s0 x6 := (keeps_setO (keeps_setO (keeps_setO h5)))
  clear_value x6
  extract_lets +onlyGivenNames x8
  have h9 : Keeps w s0 x8 := (keeps_retainMode h7)
  clear_value x8
  extract_lets +onlyGivenNames x10
  have h11 : Keeps w s0 x10 := (forRange_keeps h9 fun _ _ k12 => (keeps_setVar k12))
  clear_value x10
  extract_lets +onlyGivenNames x13
  have h14 : Keeps w s0 x13 := (keeps_setVar (keeps_setVar (keeps_setVar (keeps_setVar h11))))
  clear_value x13
  extract_lets +onlyGivenNames x15
  have h16 : Keeps w s0 x15 := (ite_keeps h14 (keeps_setVar h14))
  clear_value x15
  extract_lets +onlyGivenNames x17
  have h18 : Keeps w s0 x17 := (ite_keeps (keeps_leaveHoldup h16) h16)
  clear_value x17
  extract_lets +onlyGivenNames x19
  have h20 : Keeps w s0 x19 := (keeps_teamEnterMode (keeps_collieMode h18))
  clear_value x19
  split
  · extract_lets +onlyGivenNames x21
    have h22 : Keeps w s0 x21 := (keeps_safeEntry (ite_keeps (keeps_leaveBoot h20) h20))
    clear_value x21
    exact (ite_keeps (keeps_bbTrigger h22) h22)
  · exact (ite_keeps (keeps_leaveHoldup (keeps_runFromHoldup h20)) (keeps_seqEnterRun h20))
  · exact (keeps_setFlag h20)
  · exact (keeps_setVar (keeps_setFlag h20))
  · exact (keeps_setVar (keeps_setFlag h20))
  · exact h20

theorem keeps_answerModeReq {w : Touch} {s0 s : State} {a0} (hq : w.ports = true) (h0 : Keeps w s0 s) : Keeps w s0
      (answerModeReq a0 s) := by
  unfold answerModeReq
  extract_lets +onlyGivenNames x1
  have h2 : Keeps w s0 x1 := (ite_keeps h0 (Keeps.same h0 rfl rfl rfl rfl rfl rfl rfl rfl rfl rfl rfl))
  clear_value x1
  refine forRange_keeps h2 fun _ _ h4 => ?_
  refine ite_keeps ?_ h4
  extract_lets +onlyGivenNames x5
  have h6 : Keeps w s0 x5 := (keeps_setVar h4)
  clear_value x5
  split
  · exact (ite_keeps (keeps_respond hq h6) h6)
  · exact h6

theorem keeps_beginSetup {w : Touch} {s0 s : State} (h0 : Keeps w s0 s) : Keeps w s0 (beginSetup s) := by
  unfold beginSetup
  refine ite_keeps ?_ h0
  extract_lets +onlyGivenNames x1
  have h2 : Keeps w s0 x1 := (keeps_setVar (keeps_setVar h0))
  clear_value x1
  exact (ite_keeps (keeps_offRequest h2) h2)

theorem keeps_drawnCause {w : Touch} {s0 s : State} {a0} (h0 : Keeps w s0 s) : PairP (Keeps w s0) (drawnCause a0 s) := by
  unfold drawnCause
  split
  · exact (pair_mk h0)
  · split
    · have h1 := pair_of_eq (Q := Keeps w s0) (by assumption) (keeps_drawFree h0)
      exact (pair_mk h1)

theorem keeps_modeTick {w : Touch} {s0 s : State} (hq : w.ports = true) (h0 : Keeps w s0 s) : Keeps w s0 (modeTick s) := by
  unfold modeTick
  extract_lets +onlyGivenNames x1
  have h2 : Keeps w s0 x1 := (ite_keeps (keeps_countCond h0) h0)
  clear_value x1
  extract_lets +onlyGivenNames x3
  have h4 : Keeps w s0 x3 := (ite_keeps (keeps_setFlag (keeps_yieldNow h2)) h2)
  clear_value x3
  extract_lets +onlyGivenNames x5
  clear_value x5
  split
  · extract_lets +onlyGivenNames x6
    clear_value x6
    extract_lets +onlyGivenNames x7
    have h8 : Keeps w s0 x7 := (keeps_answerModeReq hq (ite_keeps h4 (keeps_beginSetup h4)))
    clear_value x7
    extract_lets +onlyGivenNames x9
    have h10 : Keeps w s0 x9 := (ite_keeps (keeps_setVar h8) h8)
    clear_value x9
    exact (ite_keeps (keeps_setVar h10) h10)
  · extract_lets +onlyGivenNames x11
    clear_value x11
    extract_lets +onlyGivenNames x12
    clear_value x12
    extract_lets +onlyGivenNames x13
    have h14 : Keeps w s0 x13 := (keeps_answerModeReq hq h4)
    clear_value x13
    refine ite_keeps (ite_keeps h14 (keeps_setVar (keeps_setVar h14))) ?_
    extract_lets +onlyGivenNames x15
    have h16 : Keeps w s0 x15 := (keeps_setFlag h14)
    clear_value x15
    split
    · have h17 := pair_of_eq (Q := Keeps w s0) (by assumption) (keeps_drawnCause h16)
      exact (keeps_enterMode hq (keeps_bootEnd h17))

theorem keeps_execMgtPowerOnReset {w : Touch} {s0 s : State} {a0} (hp : w.pins = true) (hq : w.ports = true) (h0 : Keeps w s0
      s) : OutP (Keeps w s0) (execMgtPowerOnReset a0 s) := by
  unfold execMgtPowerOnReset
  exact (ite_keeps (out_next (keeps_powerOnBoot hp hq h0)) (out_next h0))

theorem keeps_bootWaits {w : Touch} {s0 s : State} (h0 : Keeps w s0 s) : Keeps w s0 (bootWaits s) := by
  unfold bootWaits
  exact (ite_keeps h0 (keeps_setVar h0))

theorem keeps_bootWaitTick {w : Touch} {s0 s : State} (h0 : Keeps w s0 s) : Keeps w s0 (bootWaitTick s) := by
  unfold bootWaitTick
  exact (ite_keeps (keeps_setVar (keeps_addVar h0)) h0)

theorem keeps_execBootComplete {w : Touch} {s0 s : State} (h0 : Keeps w s0 s) : OutP (Keeps w s0) (execBootComplete s) := by
  unfold execBootComplete
  exact (ite_keeps (ite_keeps (out_next (ite_keeps h0 (keeps_terrierReport h0))) (ite_keeps (out_next h0) (ite_keeps
      (out_next (keeps_bootWaits h0)) (ite_keeps (out_next (keeps_setVar h0)) (ite_keeps (out_next (keeps_setVar h0))
      (ite_keeps (out_next (keeps_setVar h0)) (out_next (keeps_bootWaits h0)))))))) (out_next h0))

theorem keeps_execMainSupplyLoss {w : Touch} {s0 s : State} {a0} (h0 : Keeps w s0 s) : OutP (Keeps w s0) (execMainSupplyLoss
      a0 s) := by
  unfold execMainSupplyLoss
  refine ite_keeps ?_ (out_next h0)
  extract_lets +onlyGivenNames x1
  have h2 : Keeps w s0 x1 := (keeps_setFlag h0)
  clear_value x1
  refine ite_keeps (out_next (keeps_mainRailsOff h2)) ?_
  extract_lets +onlyGivenNames x3
  have h4 : Keeps w s0 x3 := (keeps_raiseLater h2)
  clear_value x3
  exact (out_next (ite_keeps (keeps_setVar h4) (keeps_mainRailsOff h4)))

theorem keeps_execMainValid {w : Touch} {s0 s : State} (h0 : Keeps w s0 s) : OutP (Keeps w s0) (execMainValid s) := by
  unfold execMainValid
  exact (ite_keeps (out_next (keeps_requestMode h0)) (out_next h0))

theorem keeps_keepEntries {w : Touch} {s0 s : State} (h0 : Keeps w s0 s) : Keeps w s0 (keepEntries s) := by
  unfold keepEntries
  exact (Keeps.same h0 rfl rfl rfl rfl rfl rfl rfl rfl rfl rfl rfl)

theorem keeps_execMgtLoss {w : Touch} {s0 s : State} {a0 a1} (hm : w.mram = true) (hp : w.pins = true) (hq : w.ports = true)
      (h0 : Keeps w s0 s) : OutP (Keeps w s0) (execMgtLoss a0 a1 s) := by
  unfold execMgtLoss
  refine ite_keeps ?_ (out_next h0)
  extract_lets +onlyGivenNames x1
  have h2 : Keeps w s0 x1 := (ite_keeps (keeps_closeNow hm h0) (ite_keeps h0 (keeps_closeNow hm h0)))
  clear_value x1
  exact (out_next (keeps_mgtStops hq (keeps_keepEntries (keeps_setPin hp h2))))

theorem keeps_execHoldupEntry {w : Touch} {s0 s : State} (h0 : Keeps w s0 s) : OutP (Keeps w s0) (execHoldupEntry s) := by
  unfold execHoldupEntry
  refine ite_keeps ?_ (out_next h0)
  extract_lets +onlyGivenNames x1
  have h2 : Keeps w s0 x1 := (keeps_setVar h0)
  clear_value x1
  extract_lets +onlyGivenNames x3
  have h4 : Keeps w s0 x3 := (keeps_setO (keeps_setBit (keeps_setBit h2)))
  clear_value x3
  extract_lets +onlyGivenNames x5
  have h6 : Keeps w s0 x5 := (keeps_bump (keeps_setVar h4))
  clear_value x5
  extract_lets +onlyGivenNames x7
  have h8 : Keeps w s0 x7 := (keeps_seqAbortEntry (keeps_setChg h6))
  clear_value x7
  extract_lets +onlyGivenNames x9
  have h10 : Keeps w s0 x9 := (keeps_irqSave h8)
  clear_value x9
  extract_lets +onlyGivenNames x11
  have h12 : Keeps w s0 x11 := (keeps_startT h10)
  clear_value x11
  extract_lets +onlyGivenNames x13
  have h14 : Keeps w s0 x13 := (forRange_keeps h12 fun _ _ k15 => (keeps_setVar k15))
  clear_value x13
  extract_lets +onlyGivenNames x16
  have h17 : Keeps w s0 x16 := (keeps_commitAsk (keeps_wbAsk (keeps_wbAsk (keeps_wbAsk h14))))
  clear_value x16
  extract_lets +onlyGivenNames x18
  have h19 : Keeps w s0 x18 := (keeps_raiseAction h17)
  clear_value x18
  extract_lets +onlyGivenNames x20
  have h21 : Keeps w s0 x20 := (ite_keeps (keeps_bbTrigger h19) h19)
  clear_value x20
  exact (out_next (ite_keeps (keeps_takePonr h21) h21))

theorem keeps_execBackupEntry {w : Touch} {s0 s : State} (hm : w.mram = true) (hq : w.ports = true) (h0 : Keeps w s0 s) :
      OutP (Keeps w s0) (execBackupEntry s) := by
  unfold execBackupEntry
  refine ite_keeps ?_ (out_next h0)
  extract_lets +onlyGivenNames x1
  have h2 : Keeps w s0 x1 := (keeps_irqSave (keeps_rtcStamp (keeps_setBit h0)))
  clear_value x1
  extract_lets +onlyGivenNames x3
  have h4 : Keeps w s0 x3 := (ite_keeps (keeps_closeNow hm h2) h2)
  clear_value x3
  extract_lets +onlyGivenNames x5
  have h6 : Keeps w s0 x5 := (Keeps.same h4 rfl rfl rfl rfl rfl rfl rfl rfl rfl rfl rfl)
  clear_value x5
  exact (out_next (keeps_setO (keeps_mgtStops hq h6)))

theorem keeps_execShelfEntry {w : Touch} {s0 s : State} (h0 : Keeps w s0 s) : OutP (Keeps w s0) (execShelfEntry s) := by
  unfold execShelfEntry
  refine ite_keeps ?_ (out_next h0)
  extract_lets +onlyGivenNames x1
  have h2 : Keeps w s0 x1 := (keeps_setVar h0)
  clear_value x1
  extract_lets +onlyGivenNames x3
  have h4 : Keeps w s0 x3 := (keeps_record h2)
  clear_value x3
  exact (out_next (keeps_commitAsk (keeps_wbAsk (keeps_setFlag (keeps_setVar h4)))))

theorem keeps_execShelfLatchSet {w : Touch} {s0 s : State} (hm : w.mram = true) (hq : w.ports = true) (h0 : Keeps w s0 s) :
      OutP (Keeps w s0) (execShelfLatchSet s) := by
  unfold execShelfLatchSet
  refine ite_keeps ?_ (out_next h0)
  extract_lets +onlyGivenNames x1
  have h2 : Keeps w s0 x1 := (ite_keeps (keeps_closeNow hm h0) h0)
  clear_value x1
  extract_lets +onlyGivenNames x3
  have h4 : Keeps w s0 x3 := (keeps_setVar (keeps_setBit h2))
  clear_value x3
  extract_lets +onlyGivenNames x5
  have h6 : Keeps w s0 x5 := (Keeps.same h4 rfl rfl rfl rfl rfl rfl rfl rfl rfl rfl rfl)
  clear_value x5
  exact (out_next (keeps_setO (keeps_mgtStops hq h6)))

theorem keeps_execShelfAbandon {w : Touch} {s0 s : State} (hm : w.mram = true) (h0 : Keeps w s0 s) : OutP (Keeps w s0)
      (execShelfAbandon s) := by
  unfold execShelfAbandon
  refine ite_keeps ?_ (out_next h0)
  extract_lets +onlyGivenNames x1
  have h2 : Keeps w s0 x1 := (ite_keeps (keeps_closeNow hm h0) h0)
  clear_value x1
  exact (out_next (keeps_requestMode (keeps_setVar h2)))

theorem keeps_execShelfWake {w : Touch} {s0 s : State} {a0 a1 a2} (h0 : Keeps w s0 s) : OutP (Keeps w s0) (execShelfWake a0
      a1 a2 s) := by
  unfold execShelfWake
  extract_lets +onlyGivenNames x1
  clear_value x1
  exact (ite_keeps (out_next (keeps_setVar h0)) (out_next h0))

end Sys2Proof.Machine
end

