-- ==== Sys2Proof/Laws/KeepsFrame.lean ====
section
/-!
SUPPORT. What the definitions of Machine/Frame.lean keep: each passes on the queue, the canonical form, the programmed fuses, and
every part that its hypotheses do not let it write.
-/

namespace Sys2Proof.Machine
open State

theorem keeps_carryIf {w : Touch} {s0 s : State} {a0 a1} (h0 : Keeps w s0 s) : Keeps w s0 (carryIf a0 a1 s) := by
  unfold carryIf
  exact (ite_keeps (keeps_bump h0) h0)

theorem keeps_slotCarry {w : Touch} {s0 s : State} (h0 : Keeps w s0 s) : Keeps w s0 (slotCarry s) := by
  unfold slotCarry
  extract_lets +onlyGivenNames x1
  have h2 : Keeps w s0 x1 := (keeps_carryIf (keeps_carryIf h0))
  clear_value x1
  exact (keeps_carryIf (keeps_carryIf h2))

theorem keeps_closeFrame {w : Touch} {s0 s : State} (ho : w.otp = true) (hq : w.ports = true) (h0 : Keeps w s0 s) : Keeps w
      s0 (closeFrame s) := by
  unfold closeFrame
  extract_lets +onlyGivenNames x1
  have h2 : Keeps w s0 x1 := (keeps_dictionarySlots ho hq h0)
  clear_value x1
  extract_lets +onlyGivenNames x3
  have h4 : Keeps w s0 x3 := (keeps_slotsTo hq (ite_keeps (keeps_evaluate h2) h2))
  clear_value x3
  extract_lets +onlyGivenNames x5
  have h6 : Keeps w s0 x5 := (keeps_slotCarry (keeps_mirrorAssembly h4))
  clear_value x5
  exact (keeps_setVar (ite_keeps h6 (keeps_irqSlot h6)))

theorem keeps_countFrame {w : Touch} {s0 s : State} (h0 : Keeps w s0 s) : Keeps w s0 (countFrame s) := by
  unfold countFrame
  extract_lets +onlyGivenNames x1
  have h2 : Keeps w s0 x1 := (keeps_addVar h0)
  clear_value x1
  extract_lets +onlyGivenNames x3
  have h4 : Keeps w s0 x3 := (keeps_setVar (keeps_setVar h2))
  clear_value x3
  extract_lets +onlyGivenNames x5
  have h6 : Keeps w s0 x5 := (ite_keeps (keeps_bump h4) h4)
  clear_value x5
  refine ite_keeps ?_ ?_
  · extract_lets +onlyGivenNames x7
    have h8 : Keeps w s0 x7 := (keeps_addVar (keeps_setO (keeps_setO h6)))
    clear_value x7
    exact (keeps_setVar (keeps_syncOutRestart (keeps_gridsStart h8)))
  · extract_lets +onlyGivenNames x9
    clear_value x9
    extract_lets +onlyGivenNames x10
    have h11 : Keeps w s0 x10 := (keeps_setO h6)
    clear_value x10
    exact (ite_keeps (keeps_addVar (keeps_setO h11)) h11)

theorem keeps_takeSamples {w : Touch} {s0 s : State} {a0} (hp : w.pins = true) (h0 : Keeps w s0 s) : Keeps w s0 (takeSamples
      a0 s) := by
  unfold takeSamples
  exact (forEach_keeps h0 fun _ _ k1 => (keeps_setPin hp k1))

theorem keeps_holdPins {w : Touch} {s0 s : State} {a0 a1 a2} (hp : w.pins = true) (h0 : Keeps w s0 s) : Keeps w s0 (holdPins
      a0 a1 a2 s) := by
  unfold holdPins
  exact (forRange_keeps h0 fun _ _ k1 => (keeps_setPin hp k1))

theorem keeps_isolateMain {w : Touch} {s0 s : State} (hp : w.pins = true) (h0 : Keeps w s0 s) : Keeps w s0 (isolateMain s) :=
      by
  unfold isolateMain
  refine ite_keeps h0 ?_
  extract_lets +onlyGivenNames x1
  have h2 : Keeps w s0 x1 := (keeps_holdPins hp (keeps_holdPins hp (keeps_holdPins hp (keeps_holdPins hp h0))))
  clear_value x1
  extract_lets +onlyGivenNames x3
  have h4 : Keeps w s0 x3 := (keeps_holdPins hp (keeps_holdPins hp (keeps_holdPins hp (keeps_holdPins hp h2))))
  clear_value x3
  extract_lets +onlyGivenNames x5
  have h6 : Keeps w s0 x5 := (keeps_holdPins hp (keeps_holdPins hp (keeps_holdPins hp (keeps_holdPins hp h4))))
  clear_value x5
  extract_lets +onlyGivenNames x7
  have h8 : Keeps w s0 x7 := (keeps_holdPins hp (keeps_holdPins hp (keeps_holdPins hp h6)))
  clear_value x7
  exact (keeps_holdPins hp (keeps_holdPins hp h8))

theorem keeps_driveLines {w : Touch} {s0 s : State} (h0 : Keeps w s0 s) : Keeps w s0 (driveLines s) := by
  unfold driveLines
  exact (ite_keeps h0 (Keeps.same h0 rfl rfl rfl rfl rfl rfl rfl rfl rfl rfl rfl))

theorem keeps_railsTick {w : Touch} {s0 s : State} (h0 : Keeps w s0 s) : Keeps w s0 (railsTick s) := by
  unfold railsTick
  extract_lets +onlyGivenNames x1
  have h2 : Keeps w s0 x1 := (forRange_keeps h0 fun _ _ k3 => (keeps_phaseTick k3))
  clear_value x1
  extract_lets +onlyGivenNames x4
  have h5 : Keeps w s0 x4 := (forRange_keeps h2 fun _ _ k6 => (keeps_railTick (keeps_deratedTick (keeps_railMeans k6))))
  clear_value x4
  extract_lets +onlyGivenNames x7
  have h8 : Keeps w s0 x7 := (forRange_keeps h5 fun _ _ k9 => (keeps_buckTick k9))
  clear_value x7
  extract_lets +onlyGivenNames x10
  have h11 : Keeps w s0 x10 := (forRange_keeps h8 fun _ _ k12 => (keeps_scTick k12))
  clear_value x10
  extract_lets +onlyGivenNames x13
  have h14 : Keeps w s0 x13 := (forRange_keeps h11 fun _ _ k15 => (keeps_shtTick (keeps_openWindow k15)))
  clear_value x13
  refine forRange_keeps h14 fun _ _ h17 => ?_
  extract_lets +onlyGivenNames x18
  have h19 : Keeps w s0 x18 := (forEach_keeps h17 fun _ _ k20 => (keeps_plausTick k20))
  clear_value x18
  exact (keeps_detectTick (keeps_stageTick h19))

theorem keeps_blocksTick {w : Touch} {s0 s : State} (hq : w.ports = true) (h0 : Keeps w s0 s) : Keeps w s0 (blocksTick s) :=
      by
  unfold blocksTick
  extract_lets +onlyGivenNames x1
  have h2 : Keeps w s0 x1 := (keeps_clockTick (keeps_nvmTick (keeps_mgtTick (keeps_hsTick h0))))
  clear_value x1
  extract_lets +onlyGivenNames x3
  have h4 : Keeps w s0 x3 := (keeps_sequencerTick (keeps_teamTick h2))
  clear_value x3
  extract_lets +onlyGivenNames x5
  have h6 : Keeps w s0 x5 := (keeps_bootWaitTick (keeps_powerTick (keeps_estTick (keeps_portTick hq h4))))
  clear_value x5
  extract_lets +onlyGivenNames x7
  have h8 : Keeps w s0 x7 := (keeps_showPresence (keeps_snapTick (keeps_budgetTick h6)))
  clear_value x7
  extract_lets +onlyGivenNames x9
  have h10 : Keeps w s0 x9 := (ite_keeps (keeps_setFlag h8) h8)
  clear_value x9
  extract_lets +onlyGivenNames x11
  have h12 : Keeps w s0 x11 := (ite_keeps (keeps_setVar h10) h10)
  clear_value x11
  exact (keeps_lbTick h12)

theorem keeps_execFrameTick {w : Touch} {s0 s : State} {a0} (ho : w.otp = true) (hp : w.pins = true) (hq : w.ports = true)
      (h0 : Keeps w s0 s) : OutP (Keeps w s0) (execFrameTick a0 s) := by
  unfold execFrameTick
  refine ite_keeps ?_ (out_next h0)
  extract_lets +onlyGivenNames x1
  have h2 : Keeps w s0 x1 := (keeps_countFrame (keeps_closeFrame ho hq h0))
  clear_value x1
  extract_lets +onlyGivenNames x3
  have h4 : Keeps w s0 x3 := (keeps_rtcTick (keeps_isolateMain hp (keeps_takeSamples hp h2)))
  clear_value x3
  extract_lets +onlyGivenNames x5
  have h6 : Keeps w s0 x5 := (keeps_echoTick ho hq (keeps_takeArrived h4))
  clear_value x5
  extract_lets +onlyGivenNames x7
  have h8 : Keeps w s0 x7 := (keeps_budgetLimits h6)
  clear_value x7
  extract_lets +onlyGivenNames x9
  have h10 : Keeps w s0 x9 := (keeps_applyDeferred (keeps_modeTick hq (keeps_dueTick (keeps_sequencerEffects h8))))
  clear_value x9
  extract_lets +onlyGivenNames x11
  have h12 : Keeps w s0 x11 := (keeps_blocksTick hq (keeps_railsTick (keeps_thermalTick h10)))
  clear_value x11
  exact (out_next (keeps_dictionarySlot ho hq (keeps_imgTick (keeps_driveLines (keeps_quietTick (keeps_clearTick
      (keeps_faultNTick (keeps_grantTick hq h12))))))))

theorem keeps_canRound {w : Touch} {s0 s : State} {a0} (hq : w.ports = true) (h0 : Keeps w s0 s) : Keeps w s0 (canRound a0 s)
      := by
  unfold canRound
  exact (ite_keeps h0 (keeps_canRestart (keeps_resetPort hq h0)))

theorem keeps_portsRound {w : Touch} {s0 s : State} (h0 : Keeps w s0 s) : Keeps w s0 (portsRound s) := by
  unfold portsRound
  exact (keeps_setVar (forRange_keeps h0 fun _ _ k1 => (keeps_setVar (keeps_setVar k1))))

theorem keeps_railsRound {w : Touch} {s0 s : State} (h0 : Keeps w s0 s) : Keeps w s0 (railsRound s) := by
  unfold railsRound
  extract_lets +onlyGivenNames x1
  have h2 : Keeps w s0 x1 := (forRange_keeps h0 fun _ _ k3 => (keeps_railRound k3))
  clear_value x1
  extract_lets +onlyGivenNames x4
  have h5 : Keeps w s0 x4 := (forRange_keeps h2 fun _ _ k6 => (keeps_buckRound k6))
  clear_value x4
  extract_lets +onlyGivenNames x7
  have h8 : Keeps w s0 x7 := (forRange_keeps h5 fun _ _ k9 => (keeps_scRound k9))
  clear_value x7
  extract_lets +onlyGivenNames x10
  have h11 : Keeps w s0 x10 := (forRange_keeps h8 fun _ _ k12 => (keeps_wearRound (keeps_phaseRound k12)))
  clear_value x10
  exact (forRange_keeps h11 fun _ _ k13 => (keeps_balanceRound k13))

theorem keeps_blocksRound {w : Touch} {s0 s : State} (h0 : Keeps w s0 s) : Keeps w s0 (blocksRound s) := by
  unfold blocksRound
  extract_lets +onlyGivenNames x1
  have h2 : Keeps w s0 x1 := (keeps_otpRound (keeps_nvmRound (keeps_clockRound (keeps_hsRound h0))))
  clear_value x1
  extract_lets +onlyGivenNames x3
  have h4 : Keeps w s0 x3 := (keeps_powerRound (keeps_chargeCheck (keeps_estRound (keeps_thermalRound h2))))
  clear_value x3
  exact (keeps_portsRound (keeps_teamRound (keeps_sequencerRound h4)))

theorem keeps_execRoundBoundary {w : Touch} {s0 s : State} (hq : w.ports = true) (h0 : Keeps w s0 s) : OutP (Keeps w s0)
      (execRoundBoundary s) := by
  unfold execRoundBoundary
  refine ite_keeps ?_ (out_next h0)
  extract_lets +onlyGivenNames x1
  have h2 : Keeps w s0 x1 := (keeps_applyDeferred (keeps_setFlag h0))
  clear_value x1
  extract_lets +onlyGivenNames x3
  have h4 : Keeps w s0 x3 := (keeps_canRound hq (keeps_canRound hq h2))
  clear_value x3
  exact (out_next (keeps_blocksRound (keeps_railsRound h4)))

end Sys2Proof.Machine
end

