-- ==== Sys2Proof/Laws/KeepsSwitch.lean ====
section
/-!
SUPPORT. What the definitions of Machine/Switch.lean keep: each passes on the queue, the canonical form, the programmed fuses, and
every part that its hypotheses do not let it write.
-/

namespace Sys2Proof.Machine
open State

theorem keeps_execPhaseTurnOn {w : Touch} {s0 s : State} {a0 a1 a2 a3} (h0 : Keeps w s0 s) : OutP (Keeps w s0)
      (execPhaseTurnOn a0 a1 a2 a3 s) := by
  unfold execPhaseTurnOn
  extract_lets +onlyGivenNames x1
  have h2 : Keeps w s0 x1 := (keeps_slotsBy h0)
  clear_value x1
  extract_lets +onlyGivenNames x3
  clear_value x3
  extract_lets +onlyGivenNames x4
  clear_value x4
  extract_lets +onlyGivenNames x5
  clear_value x5
  refine ite_keeps ?_ (out_next h2)
  extract_lets +onlyGivenNames x6
  have h7 : Keeps w s0 x6 := (ite_keeps (keeps_setVar h2) h2)
  clear_value x6
  exact (ite_keeps (out_next (keeps_closeCycle h7)) (out_next (keeps_turnOn h7)))

theorem keeps_execBlankingEnd {w : Touch} {s0 s : State} {a0 a1} (h0 : Keeps w s0 s) : OutP (Keeps w s0) (execBlankingEnd a0
      a1 s) := by
  unfold execBlankingEnd
  extract_lets +onlyGivenNames x1
  have h2 : Keeps w s0 x1 := (keeps_slotsBy h0)
  clear_value x1
  exact (ite_keeps (out_next (keeps_setFlag h2)) (out_next h2))

theorem keeps_execPeakComparatorTrip {w : Touch} {s0 s : State} {a0 a1 a2} (h0 : Keeps w s0 s) : OutP (Keeps w s0)
      (execPeakComparatorTrip a0 a1 a2 s) := by
  unfold execPeakComparatorTrip
  extract_lets +onlyGivenNames x1
  have h2 : Keeps w s0 x1 := (keeps_slotsBy h0)
  clear_value x1
  extract_lets +onlyGivenNames x3
  clear_value x3
  exact (ite_keeps (out_next (keeps_tripPulse h2)) (out_next h2))

theorem keeps_execMinOnTimeEnd {w : Touch} {s0 s : State} {a0 a1} (h0 : Keeps w s0 s) : OutP (Keeps w s0) (execMinOnTimeEnd
      a0 a1 s) := by
  unfold execMinOnTimeEnd
  extract_lets +onlyGivenNames x1
  have h2 : Keeps w s0 x1 := (keeps_slotsBy h0)
  clear_value x1
  extract_lets +onlyGivenNames x3
  clear_value x3
  exact (ite_keeps (out_next (keeps_endPulse h2)) (out_next h2))

theorem keeps_execForcedTurnOff {w : Touch} {s0 s : State} {a0 a1} (h0 : Keeps w s0 s) : OutP (Keeps w s0) (execForcedTurnOff
      a0 a1 s) := by
  unfold execForcedTurnOff
  extract_lets +onlyGivenNames x1
  have h2 : Keeps w s0 x1 := (keeps_slotsBy h0)
  clear_value x1
  extract_lets +onlyGivenNames x3
  clear_value x3
  extract_lets +onlyGivenNames x4
  clear_value x4
  exact (ite_keeps (out_next (keeps_setBit (keeps_endPulse h2))) (out_next h2))

theorem keeps_execPositiveCurrentLimit {w : Touch} {s0 s : State} {a0 a1 a2} (h0 : Keeps w s0 s) : OutP (Keeps w s0)
      (execPositiveCurrentLimit a0 a1 a2 s) := by
  unfold execPositiveCurrentLimit
  extract_lets +onlyGivenNames x1
  have h2 : Keeps w s0 x1 := (keeps_slotsBy h0)
  clear_value x1
  extract_lets +onlyGivenNames x3
  clear_value x3
  refine ite_keeps ?_ (out_next h2)
  extract_lets +onlyGivenNames x4
  have h5 : Keeps w s0 x4 := (keeps_tripPulse h2)
  clear_value x4
  extract_lets +onlyGivenNames x6
  have h7 : Keeps w s0 x6 := (keeps_setFlag (keeps_setFlag (keeps_setFlag h5)))
  clear_value x6
  extract_lets +onlyGivenNames x8
  have h9 : Keeps w s0 x8 := (keeps_bumpSat (keeps_addVar h7))
  clear_value x8
  exact (ite_keeps (out_next (keeps_raiseLater h9)) (out_next h9))

theorem keeps_execNegativeCurrentLimit {w : Touch} {s0 s : State} {a0 a1 a2} (h0 : Keeps w s0 s) : OutP (Keeps w s0)
      (execNegativeCurrentLimit a0 a1 a2 s) := by
  unfold execNegativeCurrentLimit
  extract_lets +onlyGivenNames x1
  have h2 : Keeps w s0 x1 := (keeps_slotsBy h0)
  clear_value x1
  refine ite_keeps ?_ (out_next h2)
  extract_lets +onlyGivenNames x3
  have h4 : Keeps w s0 x3 := (keeps_setFlag (keeps_setFlag (keeps_setFlag h2)))
  clear_value x3
  extract_lets +onlyGivenNames x5
  have h6 : Keeps w s0 x5 := (keeps_bumpSat (keeps_addVar h4))
  clear_value x5
  exact (ite_keeps (out_next (keeps_raiseLater h6)) (out_next h6))

theorem keeps_execZeroCrossing {w : Touch} {s0 s : State} {a0 a1 a2} (h0 : Keeps w s0 s) : OutP (Keeps w s0)
      (execZeroCrossing a0 a1 a2 s) := by
  unfold execZeroCrossing
  extract_lets +onlyGivenNames x1
  have h2 : Keeps w s0 x1 := (keeps_slotsBy h0)
  clear_value x1
  extract_lets +onlyGivenNames x3
  clear_value x3
  extract_lets +onlyGivenNames x4
  clear_value x4
  refine ite_keeps ?_ (out_next h2)
  extract_lets +onlyGivenNames x5
  clear_value x5
  extract_lets +onlyGivenNames x6
  clear_value x6
  extract_lets +onlyGivenNames x7
  clear_value x7
  extract_lets +onlyGivenNames x8
  have h9 : Keeps w s0 x8 := (keeps_setFlag (keeps_setFlag (keeps_setFlag h2)))
  clear_value x8
  exact (out_next (ite_keeps (keeps_setVar (keeps_setFlag h9)) h9))

theorem keeps_execOvershootTrip {w : Touch} {s0 s : State} {a0 a1 a2} (h0 : Keeps w s0 s) : OutP (Keeps w s0)
      (execOvershootTrip a0 a1 a2 s) := by
  unfold execOvershootTrip
  extract_lets +onlyGivenNames x1
  have h2 : Keeps w s0 x1 := (keeps_slotsBy h0)
  clear_value x1
  exact (ite_keeps (out_next (keeps_setFlag (keeps_truncate h2))) (out_next h2))

theorem keeps_execUndershootFiring {w : Touch} {s0 s : State} {a0 a1 a2} (h0 : Keeps w s0 s) : OutP (Keeps w s0)
      (execUndershootFiring a0 a1 a2 s) := by
  unfold execUndershootFiring
  extract_lets +onlyGivenNames x1
  have h2 : Keeps w s0 x1 := (keeps_slotsBy h0)
  clear_value x1
  extract_lets +onlyGivenNames x3
  clear_value x3
  refine ite_keeps ?_ (out_next h2)
  extract_lets +onlyGivenNames x4
  have h5 : Keeps w s0 x4 := (keeps_setFlag h2)
  clear_value x4
  extract_lets +onlyGivenNames x6
  clear_value x6
  extract_lets +onlyGivenNames x7
  have h8 : Keeps w s0 x7 := by
    unfold x7
    refine forEach_keeps h5 fun _ _ h11 => ?_
    extract_lets +onlyGivenNames x12
    clear_value x12
    extract_lets +onlyGivenNames x13
    clear_value x13
    extract_lets +onlyGivenNames x14
    have h15 : Keeps w s0 x14 := (keeps_setFlag h11)
    clear_value x14
    exact (ite_keeps h15 (ite_keeps (keeps_setVar h15) (ite_keeps h15 (ite_keeps (keeps_turnOn h15) (keeps_setFlag h15)))))
  clear_value x7
  exact (out_next (keeps_shedAbort h8))

theorem keeps_execOvFastPathTrip {w : Touch} {s0 s : State} {a0 a1 a2} (h0 : Keeps w s0 s) : OutP (Keeps w s0)
      (execOvFastPathTrip a0 a1 a2 s) := by
  unfold execOvFastPathTrip
  extract_lets +onlyGivenNames x1
  have h2 : Keeps w s0 x1 := (keeps_slotsBy h0)
  clear_value x1
  refine ite_keeps ?_ (out_next h2)
  extract_lets +onlyGivenNames x3
  clear_value x3
  extract_lets +onlyGivenNames x4
  have h5 : Keeps w s0 x4 := (ite_keeps (keeps_truncate h2) (keeps_buckTruncate h2))
  clear_value x4
  extract_lets +onlyGivenNames x6
  have h7 : Keeps w s0 x6 := (keeps_setFlag h5)
  clear_value x6
  extract_lets +onlyGivenNames x8
  have h9 : Keeps w s0 x8 := (keeps_setBit h7)
  clear_value x8
  extract_lets +onlyGivenNames x10
  have h11 : Keeps w s0 x10 := (keeps_setVar (keeps_setVar (keeps_setVar h9)))
  clear_value x10
  exact (out_next (keeps_bumpSat (keeps_setVar h11)))

theorem keeps_execLoopUpdate {w : Touch} {s0 s : State} {a0 a1 a2 a3 a4} (h0 : Keeps w s0 s) : OutP (Keeps w s0)
      (execLoopUpdate a0 a1 a2 a3 a4 s) := by
  unfold execLoopUpdate
  extract_lets +onlyGivenNames x1
  have h2 : Keeps w s0 x1 := (keeps_slotsBy h0)
  clear_value x1
  refine ite_keeps ?_ (out_next h2)
  extract_lets +onlyGivenNames x3
  clear_value x3
  extract_lets +onlyGivenNames x4
  clear_value x4
  extract_lets +onlyGivenNames x5
  clear_value x5
  extract_lets +onlyGivenNames x6
  have h7 : Keeps w s0 x6 := (keeps_slewVramp h2)
  clear_value x6
  extract_lets +onlyGivenNames x8
  clear_value x8
  extract_lets +onlyGivenNames x9
  have h10 : Keeps w s0 x9 := (keeps_setVar h7)
  clear_value x9
  extract_lets +onlyGivenNames x11
  clear_value x11
  extract_lets +onlyGivenNames x12
  clear_value x12
  extract_lets +onlyGivenNames x13
  clear_value x13
  extract_lets +onlyGivenNames x14
  have h15 : Keeps w s0 x14 := (keeps_setVar (keeps_setVar h10))
  clear_value x14
  extract_lets +onlyGivenNames x16
  have h17 : Keeps w s0 x16 := (keeps_addVar (keeps_setVar h15))
  clear_value x16
  extract_lets +onlyGivenNames x18
  have h19 : Keeps w s0 x18 := (keeps_addVar (keeps_addVar h17))
  clear_value x18
  extract_lets +onlyGivenNames x20
  have h21 : Keeps w s0 x20 := (ite_keeps h19 (keeps_giveReferences (keeps_compensate (keeps_setVar h19))))
  clear_value x20
  exact (out_next (keeps_softStopEnd (keeps_softStartEnd h21)))

theorem keeps_execBuckTurnOn {w : Touch} {s0 s : State} {a0 a1 a2} (h0 : Keeps w s0 s) : OutP (Keeps w s0) (execBuckTurnOn a0
      a1 a2 s) := by
  unfold execBuckTurnOn
  extract_lets +onlyGivenNames x1
  have h2 : Keeps w s0 x1 := (keeps_slotsBy h0)
  clear_value x1
  extract_lets +onlyGivenNames x3
  clear_value x3
  extract_lets +onlyGivenNames x4
  clear_value x4
  refine ite_keeps ?_ (out_next h2)
  extract_lets +onlyGivenNames x5
  have h6 : Keeps w s0 x5 := (keeps_buckCycle (ite_keeps (keeps_setVar h2) h2))
  clear_value x5
  refine ite_keeps (out_next (keeps_setFlag h6)) ?_
  extract_lets +onlyGivenNames x7
  clear_value x7
  extract_lets +onlyGivenNames x8
  have h9 : Keeps w s0 x8 := (keeps_setFlag (keeps_setVar (keeps_addVar h6)))
  clear_value x8
  extract_lets +onlyGivenNames x10
  clear_value x10
  extract_lets +onlyGivenNames x11
  clear_value x11
  extract_lets +onlyGivenNames x12
  have h13 : Keeps w s0 x12 := (keeps_setBit h9)
  clear_value x12
  refine ite_keeps (out_next (keeps_setFlag (keeps_addVar h13))) ?_
  extract_lets +onlyGivenNames x14
  clear_value x14
  extract_lets +onlyGivenNames x15
  clear_value x15
  exact (out_next (keeps_buckEnds (keeps_setVar (keeps_setFlag h13))))

theorem keeps_execBuckCurrentLimit {w : Touch} {s0 s : State} {a0 a1 a2} (h0 : Keeps w s0 s) : OutP (Keeps w s0)
      (execBuckCurrentLimit a0 a1 a2 s) := by
  unfold execBuckCurrentLimit
  extract_lets +onlyGivenNames x1
  have h2 : Keeps w s0 x1 := (keeps_slotsBy h0)
  clear_value x1
  extract_lets +onlyGivenNames x3
  clear_value x3
  refine ite_keeps ?_ (out_next h2)
  extract_lets +onlyGivenNames x4
  have h5 : Keeps w s0 x4 := (keeps_buckEnds (keeps_setFlag (keeps_setFlag h2)))
  clear_value x4
  extract_lets +onlyGivenNames x6
  have h7 : Keeps w s0 x6 := (keeps_addVar h5)
  clear_value x6
  exact (ite_keeps (out_next (keeps_raiseLater h7)) (out_next h7))

end Sys2Proof.Machine
end

