-- ==== Sys2Proof/Laws/KeepsExec.lean ====
section
/-!
SUPPORT. Every command answers a next state that keeps what the command may not write: the one lemma about all commands.
-/

namespace Sys2Proof.Machine

theorem exec_keeps (c : Instr) (s : State) : OutP (Keeps (touched c) s) (exec c s) := by
  cases c with
  | frameTick => exact keeps_execFrameTick rfl rfl rfl Keeps.refl
  | roundBoundary => exact keeps_execRoundBoundary rfl Keeps.refl
  | jobComplete => exact keeps_execJobComplete rfl rfl Keeps.refl
  | mgtPowerOnReset => exact keeps_execMgtPowerOnReset rfl rfl Keeps.refl
  | bootComplete => exact keeps_execBootComplete Keeps.refl
  | sysModeReq => exact keeps_execSysModeReq rfl rfl Keeps.refl
  | sysSafeRelease => exact keeps_execSysSafeRelease rfl rfl Keeps.refl
  | sysReboot => exact keeps_execSysReboot rfl rfl Keeps.refl
  | sysShip => exact keeps_execSysShip rfl rfl Keeps.refl
  | mainSupplyLoss => exact keeps_execMainSupplyLoss Keeps.refl
  | mainValid => exact keeps_execMainValid Keeps.refl
  | mgtLoss => exact keeps_execMgtLoss rfl rfl rfl Keeps.refl
  | terrierExpiry => exact keeps_execTerrierExpiry Keeps.refl
  | syncInLost => exact keeps_execSyncInLost Keeps.refl
  | syncInOutOfRange => exact keeps_execSyncInOutOfRange Keeps.refl
  | holdoverExpiry => exact keeps_execHoldoverExpiry Keeps.refl
  | slewToCrystalComplete => exact keeps_execSlewToCrystalComplete Keeps.refl
  | syncInReturned => exact keeps_execSyncInReturned Keeps.refl
  | syncInSlewComplete => exact keeps_execSyncInSlewComplete Keeps.refl
  | phaseLockRegained => exact keeps_execPhaseLockRegained Keeps.refl
  | crystalFailed => exact keeps_execCrystalFailed Keeps.refl
  | crystalRestored => exact keeps_execCrystalRestored Keeps.refl
  | pllLossOfLock => exact keeps_execPllLossOfLock Keeps.refl
  | mirrorFrameCheck => exact keeps_execMirrorFrameCheck Keeps.refl
  | phaseTurnOn => exact keeps_execPhaseTurnOn Keeps.refl
  | blankingEnd => exact keeps_execBlankingEnd Keeps.refl
  | peakComparatorTrip => exact keeps_execPeakComparatorTrip Keeps.refl
  | minOnTimeEnd => exact keeps_execMinOnTimeEnd Keeps.refl
  | forcedTurnOff => exact keeps_execForcedTurnOff Keeps.refl
  | positiveCurrentLimit => exact keeps_execPositiveCurrentLimit Keeps.refl
  | negativeCurrentLimit => exact keeps_execNegativeCurrentLimit Keeps.refl
  | zeroCrossing => exact keeps_execZeroCrossing Keeps.refl
  | overshootTrip => exact keeps_execOvershootTrip Keeps.refl
  | overshootClear => exact keeps_execOvershootClear Keeps.refl
  | undershootFiring => exact keeps_execUndershootFiring Keeps.refl
  | ovFastPathTrip => exact keeps_execOvFastPathTrip Keeps.refl
  | ovFastPathRelease => exact keeps_execOvFastPathRelease Keeps.refl
  | onDelayExpiry => exact keeps_execOnDelayExpiry Keeps.refl
  | startCommand => exact keeps_execStartCommand Keeps.refl
  | prebiasWaitEnd => exact keeps_execPrebiasWaitEnd Keeps.refl
  | shtWindowEnd => exact keeps_execShtWindowEnd Keeps.refl
  | loopUpdate => exact keeps_execLoopUpdate Keeps.refl
  | railOffCommand => exact keeps_execRailOffCommand Keeps.refl
  | shedMoveDown => exact keeps_execShedMoveDown Keeps.refl
  | shedHoldoffExpiry => exact keeps_execShedHoldoffExpiry Keeps.refl
  | windowQualified => exact keeps_execWindowQualified Keeps.refl
  | railCurrentLimitSustained => exact keeps_execRailCurrentLimitSustained Keeps.refl
  | senseFault => exact keeps_execSenseFault Keeps.refl
  | vinFfOutOfRange => exact keeps_execVinFfOutOfRange Keeps.refl
  | hiccupWaitExpiry => exact keeps_execHiccupWaitExpiry Keeps.refl
  | buckInputUndervoltage => exact keeps_execBuckInputUndervoltage Keeps.refl
  | buckInputRestored => exact keeps_execBuckInputRestored Keeps.refl
  | buckCurrentLimit => exact keeps_execBuckCurrentLimit Keeps.refl
  | openPhase => exact keeps_execOpenPhase Keeps.refl
  | senseFailure => exact keeps_execSenseFailure Keeps.refl
  | stageFaultUnattributed => exact keeps_execStageFaultUnattributed Keeps.refl
  | spareRangeFailure => exact keeps_execSpareRangeFailure Keeps.refl
  | poolRestore => exact keeps_execPoolRestore rfl rfl Keeps.refl
  | wearCommit => exact keeps_execWearCommit Keeps.refl
  | wearRingPush => exact keeps_execWearRingPush Keeps.refl
  | wearReset => exact keeps_execWearReset rfl rfl Keeps.refl
  | yardAdvance => exact keeps_execYardAdvance Keeps.refl
  | yardReadinessTimeout => exact keeps_execYardReadinessTimeout Keeps.refl
  | railQualified => exact keeps_execRailQualified Keeps.refl
  | riseTimerExpiry => exact keeps_execRiseTimerExpiry Keeps.refl
  | offDelayExpiry => exact keeps_execOffDelayExpiry Keeps.refl
  | railDischarged => exact keeps_execRailDischarged Keeps.refl
  | dischargeWaitExpiry => exact keeps_execDischargeWaitExpiry Keeps.refl
  | dependantRestart => exact keeps_execDependantRestart Keeps.refl
  | seqCmdOn => exact keeps_execSeqCmdOn rfl rfl Keeps.refl
  | seqCmdOff => exact keeps_execSeqCmdOff rfl rfl Keeps.refl
  | yardAdvancePulse => exact keeps_execYardAdvancePulse Keeps.refl
  | yardReversePulse => exact keeps_execYardReversePulse Keeps.refl
  | yardHold => exact keeps_execYardHold Keeps.refl
  | yardGlitch => exact keeps_execYardGlitch Keeps.refl
  | yardAbort => exact keeps_execYardAbort Keeps.refl
  | abortComplete => exact keeps_execAbortComplete Keeps.refl
  | backupLeaderAdvance => exact keeps_execBackupLeaderAdvance Keeps.refl
  | pgScLost => exact keeps_execPgScLost Keeps.refl
  | paddockOffCmd => exact keeps_execPaddockOffCmd rfl rfl Keeps.refl
  | paddockReleaseCmd => exact keeps_execPaddockReleaseCmd rfl rfl Keeps.refl
  | lostRecordOffer => exact keeps_execLostRecordOffer Keeps.refl
  | countWindowClose => exact keeps_execCountWindowClose Keeps.refl
  | quietPeriodExpiry => exact keeps_execQuietPeriodExpiry Keeps.refl
  | acknowledge => exact keeps_execAcknowledge rfl rfl Keeps.refl
  | ackAll => exact keeps_execAckAll rfl rfl Keeps.refl
  | reactionWrite => exact keeps_execReactionWrite rfl rfl Keeps.refl
  | harnessUp => exact keeps_execHarnessUp Keeps.refl
  | deltaResend => exact keeps_execDeltaResend Keeps.refl
  | ledgerTransactionApply => exact keeps_execLedgerTransactionApply Keeps.refl
  | driveViolation => exact keeps_execDriveViolation Keeps.refl
  | takeover => exact keeps_execTakeover Keeps.refl
  | reinLoadCheck => exact keeps_execReinLoadCheck Keeps.refl
  | reinInAsserted => exact keeps_execReinInAsserted Keeps.refl
  | yieldNotTaken => exact keeps_execYieldNotTaken Keeps.refl
  | teamSwap => exact keeps_execTeamSwap rfl rfl Keeps.refl
  | swapDrained => exact keeps_execSwapDrained Keeps.refl
  | swapTimeout => exact keeps_execSwapTimeout Keeps.refl
  | teamRelease => exact keeps_execTeamRelease rfl rfl Keeps.refl
  | teamAdmit => exact keeps_execTeamAdmit rfl rfl Keeps.refl
  | admissionRequest => exact keeps_execAdmissionRequest Keeps.refl
  | admissionTimeout => exact keeps_execAdmissionTimeout Keeps.refl
  | admissionComplete => exact keeps_execAdmissionComplete Keeps.refl
  | readmitWaitExpiry => exact keeps_execReadmitWaitExpiry Keeps.refl
  | joinWaitExpiry => exact keeps_execJoinWaitExpiry Keeps.refl
  | twinLostSolo => exact keeps_execTwinLostSolo Keeps.refl
  | cfgMismatch => exact keeps_execCfgMismatch Keeps.refl
  | cardRemoval => exact keeps_execCardRemoval Keeps.refl
  | cardMated => exact keeps_execCardMated Keeps.refl
  | hsDebounceMet => exact keeps_execHsDebounceMet Keeps.refl
  | inrushStart => exact keeps_execInrushStart Keeps.refl
  | hsPowerGood => exact keeps_execHsPowerGood Keeps.refl
  | currentLimiting => exact keeps_execCurrentLimiting Keeps.refl
  | fastTrip => exact keeps_execFastTrip Keeps.refl
  | soaTrip => exact keeps_execSoaTrip Keeps.refl
  | breakerTrip => exact keeps_execBreakerTrip Keeps.refl
  | inrushTimeout => exact keeps_execInrushTimeout Keeps.refl
  | hsCooldownExpiry => exact keeps_execHsCooldownExpiry Keeps.refl
  | hsRetriesReset => exact keeps_execHsRetriesReset Keeps.refl
  | hsCmdOn => exact keeps_execHsCmdOn rfl rfl Keeps.refl
  | hsCmdOff => exact keeps_execHsCmdOff rfl rfl Keeps.refl
  | backplaneOv => exact keeps_execBackplaneOv Keeps.refl
  | backplaneUv => exact keeps_execBackplaneUv Keeps.refl
  | backplaneWarn => exact keeps_execBackplaneWarn Keeps.refl
  | inputFaultEnd => exact keeps_execInputFaultEnd Keeps.refl
  | shortedMosfet => exact keeps_execShortedMosfet Keeps.refl
  | shuntSenseFault => exact keeps_execShuntSenseFault Keeps.refl
  | vinMgtWarning => exact keeps_execVinMgtWarning Keeps.refl
  | vinMgtWarningEnd => exact keeps_execVinMgtWarningEnd Keeps.refl
  | mainInputLost => exact keeps_execMainInputLost Keeps.refl
  | mainInputValid => exact keeps_execMainInputValid Keeps.refl
  | packPresent => exact keeps_execPackPresent Keeps.refl
  | packRemoved => exact keeps_execPackRemoved Keeps.refl
  | packUnusable => exact keeps_execPackUnusable Keeps.refl
  | sourceHandover => exact keeps_execSourceHandover Keeps.refl
  | sourceHandback => exact keeps_execSourceHandback Keeps.refl
  | chargeStart => exact keeps_execChargeStart Keeps.refl
  | prechargeDone => exact keeps_execPrechargeDone Keeps.refl
  | prechargeTimeout => exact keeps_execPrechargeTimeout Keeps.refl
  | cvEntry => exact keeps_execCvEntry Keeps.refl
  | topoffEntry => exact keeps_execTopoffEntry Keeps.refl
  | topoffExpiry => exact keeps_execTopoffExpiry Keeps.refl
  | chargeSuspend => exact keeps_execChargeSuspend Keeps.refl
  | packOvervoltage => exact keeps_execPackOvervoltage Keeps.refl
  | safetyTimerExpiry => exact keeps_execSafetyTimerExpiry Keeps.refl
  | inputLimitSearchStep => exact keeps_execInputLimitSearchStep Keeps.refl
  | inputLimitSag => exact keeps_execInputLimitSag Keeps.refl
  | pwrCmdResume => exact keeps_execPwrCmdResume rfl rfl Keeps.refl
  | pwrCmdSuspend => exact keeps_execPwrCmdSuspend rfl rfl Keeps.refl
  | holdupEntry => exact keeps_execHoldupEntry Keeps.refl
  | lastGaspTimerExpiry => exact keeps_execLastGaspTimerExpiry Keeps.refl
  | lgDone => exact keeps_execLgDone rfl rfl Keeps.refl
  | packCutoff => exact keeps_execPackCutoff Keeps.refl
  | dischargeOvercurrent => exact keeps_execDischargeOvercurrent Keeps.refl
  | packGateOffOvercurrent => exact keeps_execPackGateOffOvercurrent Keeps.refl
  | holdupShutdownComplete => exact keeps_execHoldupShutdownComplete Keeps.refl
  | mainReturnQualified => exact keeps_execMainReturnQualified Keeps.refl
  | backupEntry => exact keeps_execBackupEntry rfl rfl Keeps.refl
  | bkpPowerLoss => exact keeps_execBkpPowerLoss Keeps.refl
  | shelfEntry => exact keeps_execShelfEntry Keeps.refl
  | shelfLatchSet => exact keeps_execShelfLatchSet rfl rfl Keeps.refl
  | shelfAbandon => exact keeps_execShelfAbandon rfl Keeps.refl
  | shelfWake => exact keeps_execShelfWake Keeps.refl
  | counterFault => exact keeps_execCounterFault Keeps.refl
  | readinessLow => exact keeps_execReadinessLow Keeps.refl
  | restPoint => exact keeps_execRestPoint Keeps.refl
  | exerciseDue => exact keeps_execExerciseDue Keeps.refl
  | estCmdRequest => exact keeps_execEstCmdRequest rfl rfl Keeps.refl
  | exerciseStart => exact keeps_execExerciseStart Keeps.refl
  | exerciseTargetReached => exact keeps_execExerciseTargetReached Keeps.refl
  | exerciseTimeout => exact keeps_execExerciseTimeout Keeps.refl
  | exerciseRestTimeout => exact keeps_execExerciseRestTimeout Keeps.refl
  | exerciseRefusedExpiry => exact keeps_execExerciseRefusedExpiry Keeps.refl
  | exerciseAbort => exact keeps_execExerciseAbort Keeps.refl
  | estCmdAbort => exact keeps_execEstCmdAbort rfl rfl Keeps.refl
  | estWriteback => exact keeps_execEstWriteback Keeps.refl
  | estWritebackSecond => exact keeps_execEstWritebackSecond Keeps.refl
  | calibrationFailure => exact keeps_execCalibrationFailure Keeps.refl
  | sensorRestored => exact keeps_execSensorRestored Keeps.refl
  | scaleMaskWrite => exact keeps_execScaleMaskWrite rfl rfl Keeps.refl
  | ccAttach => exact keeps_execCcAttach Keeps.refl
  | detach => exact keeps_execDetach rfl Keeps.refl
  | deadBatteryAttach => exact keeps_execDeadBatteryAttach rfl Keeps.refl
  | sourceCapabilities => exact keeps_execSourceCapabilities Keeps.refl
  | psRdy => exact keeps_execPsRdy Keeps.refl
  | transitionEnd => exact keeps_execTransitionEnd Keeps.refl
  | eprModeRequest => exact keeps_execEprModeRequest Keeps.refl
  | vbusSourceOn => exact keeps_execVbusSourceOn Keeps.refl
  | hardReset => exact keeps_execHardReset rfl Keeps.refl
  | vbusProtectionTrip => exact keeps_execVbusProtectionTrip rfl Keeps.refl
  | errorRecoveryExpiry => exact keeps_execErrorRecoveryExpiry Keeps.refl
  | cablePulled => exact keeps_execCablePulled rfl Keeps.refl
  | prSwapReceived => exact keeps_execPrSwapReceived Keeps.refl
  | drSwapReceived => exact keeps_execDrSwapReceived rfl Keeps.refl
  | drSwapPreference => exact keeps_execDrSwapPreference rfl Keeps.refl
  | withdrawnResend => exact keeps_execWithdrawnResend rfl Keeps.refl
  | portCmdPrSwap => exact keeps_execPortCmdPrSwap rfl rfl Keeps.refl
  | portCmdDrSwap => exact keeps_execPortCmdDrSwap rfl rfl Keeps.refl
  | portCmdClearLatch => exact keeps_execPortCmdClearLatch rfl rfl Keeps.refl
  | portCmdExitBench => exact keeps_execPortCmdExitBench rfl rfl Keeps.refl
  | benchEnWrite => exact keeps_execBenchEnWrite rfl rfl Keeps.refl
  | discoverIdentity => exact keeps_execDiscoverIdentity Keeps.refl
  | discoverSvids => exact keeps_execDiscoverSvids Keeps.refl
  | discoverModes => exact keeps_execDiscoverModes Keeps.refl
  | enterMode => exact keeps_execEnterMode Keeps.refl
  | exitMode => exact keeps_execExitMode rfl Keeps.refl
  | rtcSetHalt => exact keeps_execRtcSetHalt rfl rfl Keeps.refl
  | rtcSetShift => exact keeps_execRtcSetShift rfl rfl Keeps.refl
  | rtcShiftWrite => exact keeps_execRtcShiftWrite rfl rfl Keeps.refl
  | rtcShiftComplete => exact keeps_execRtcShiftComplete Keeps.refl
  | rtcCalWrite => exact keeps_execRtcCalWrite rfl rfl Keeps.refl
  | rtcRangeEnd => exact keeps_execRtcRangeEnd Keeps.refl
  | oscillatorFailure => exact keeps_execOscillatorFailure Keeps.refl
  | fsoClear => exact keeps_execFsoClear rfl rfl Keeps.refl
  | commitAgeExpiry => exact keeps_execCommitAgeExpiry Keeps.refl
  | nvmCmdCommit => exact keeps_execNvmCmdCommit rfl rfl Keeps.refl
  | commitStart => exact keeps_execCommitStart Keeps.refl
  | commitStep => exact keeps_execCommitStep rfl Keeps.refl
  | commitComplete => exact keeps_execCommitComplete rfl Keeps.refl
  | writerWaitTimeout => exact keeps_execWriterWaitTimeout Keeps.refl
  | cresFirstCharge => exact keeps_execCresFirstCharge Keeps.refl
  | cresLow => exact keeps_execCresLow Keeps.refl
  | cresFault => exact keeps_execCresFault Keeps.refl
  | scrubStep => exact keeps_execScrubStep Keeps.refl
  | otpProgCmd => exact keeps_execOtpProgCmd rfl rfl Keeps.refl
  | otpProgramDone => exact keeps_execOtpProgramDone rfl Keeps.refl
  | otpProgramStopped => exact keeps_execOtpProgramStopped rfl Keeps.refl
  | recordAssembly => exact keeps_execRecordAssembly Keeps.refl
  | exportStart => exact keeps_execExportStart rfl rfl Keeps.refl
  | exportReady => exact keeps_execExportReady Keeps.refl
  | exportEnd => exact keeps_execExportEnd rfl rfl Keeps.refl
  | exportTimeout => exact keeps_execExportTimeout Keeps.refl
  | bbCmdCapture => exact keeps_execBbCmdCapture rfl rfl Keeps.refl
  | bbCmdRelease => exact keeps_execBbCmdRelease rfl rfl Keeps.refl
  | blackBoxComplete => exact keeps_execBlackBoxComplete Keeps.refl
  | collieTick => exact keeps_execCollieTick Keeps.refl
  | collieExpiry => exact keeps_execCollieExpiry Keeps.refl
  | collieServe => exact keeps_execCollieServe rfl rfl Keeps.refl
  | collieCheckin => exact keeps_execCollieCheckin rfl rfl Keeps.refl
  | hostbusySet => exact keeps_execHostbusySet rfl rfl Keeps.refl
  | hostbusyClear => exact keeps_execHostbusyClear rfl rfl Keeps.refl
  | suspensionExpiry => exact keeps_execSuspensionExpiry Keeps.refl
  | collieEn => exact keeps_execCollieEn rfl rfl Keeps.refl
  | claimRead => exact keeps_execClaimRead rfl rfl Keeps.refl
  | holdoffExpiry => exact keeps_execHoldoffExpiry Keeps.refl
  | irqClear => exact keeps_execIrqClear rfl rfl Keeps.refl
  | identityProgram => exact keeps_execIdentityProgram rfl Keeps.refl
  | publicKeyReady => exact keeps_execPublicKeyReady Keeps.refl
  | slotUnwrap => exact keeps_execSlotUnwrap Keeps.refl
  | presenceWindowExpiry => exact keeps_execPresenceWindowExpiry Keeps.refl
  | claim => exact keeps_execClaim rfl rfl Keeps.refl
  | reclaim => exact keeps_execReclaim rfl rfl Keeps.refl
  | enrolSlot => exact keeps_execEnrolSlot rfl rfl Keeps.refl
  | transfer => exact keeps_execTransfer rfl rfl Keeps.refl
  | claimComplete => exact keeps_execClaimComplete rfl Keeps.refl
  | hwmCommitDone => exact keeps_execHwmCommitDone rfl rfl Keeps.refl
  | hwmCommitTimeout => exact keeps_execHwmCommitTimeout rfl rfl Keeps.refl
  | keyRevoke => exact keeps_execKeyRevoke rfl rfl Keeps.refl
  | keyRelease => exact keeps_execKeyRelease rfl rfl Keeps.refl
  | snapStart => exact keeps_execSnapStart rfl rfl Keeps.refl
  | snapReady => exact keeps_execSnapReady Keeps.refl
  | snapEnd => exact keeps_execSnapEnd rfl rfl Keeps.refl
  | imgOpen => exact keeps_execImgOpen rfl rfl Keeps.refl
  | imgStageWrite => exact keeps_execImgStageWrite rfl rfl Keeps.refl
  | imgValidate => exact keeps_execImgValidate rfl rfl Keeps.refl
  | imgValidationDone => exact keeps_execImgValidationDone Keeps.refl
  | imgCancel => exact keeps_execImgCancel rfl rfl Keeps.refl
  | imgActivate => exact keeps_execImgActivate rfl rfl Keeps.refl
  | activation => exact keeps_execActivation Keeps.refl
  | closeWrite => exact keeps_execCloseWrite rfl Keeps.refl
  | ledgerWriteback => exact keeps_execLedgerWriteback Keeps.refl
  | budgetAllocWrite => exact keeps_execBudgetAllocWrite rfl rfl Keeps.refl
  | budgetGrantWrite => exact keeps_execBudgetGrantWrite rfl rfl Keeps.refl
  | grantReductionDone => exact keeps_execGrantReductionDone rfl Keeps.refl
  | read => exact keeps_execRead rfl rfl Keeps.refl
  | write => exact keeps_execWrite rfl rfl Keeps.refl
  | writek => exact keeps_execWritek rfl rfl Keeps.refl
  | blockread => exact keeps_execBlockread rfl rfl Keeps.refl
  | blockwrite => exact keeps_execBlockwrite rfl rfl Keeps.refl
  | segmentServe => exact keeps_execSegmentServe rfl rfl Keeps.refl
  | echo => exact keeps_execEcho rfl rfl Keeps.refl
  | framingFailure => exact keeps_execFramingFailure rfl Keeps.refl
  | portBusy => exact keeps_execPortBusy rfl Keeps.refl
  | retryReplay => exact keeps_execRetryReplay rfl Keeps.refl
  | spiFetch p => exact keeps_execSpiFetch (a0 := p) Keeps.refl
  | canFrameIgnored => exact keeps_execCanFrameIgnored Keeps.refl
  | notifySend => exact keeps_execNotifySend rfl Keeps.refl
  | busOff => exact keeps_execBusOff Keeps.refl
  | busRecovery => exact keeps_execBusRecovery rfl Keeps.refl
  | errorPassiveChange => exact keeps_execErrorPassiveChange Keeps.refl
  | lbStart => exact keeps_execLbStart rfl rfl Keeps.refl
  | lbIteration => exact keeps_execLbIteration Keeps.refl
  | lbRunEnd => exact keeps_execLbRunEnd Keeps.refl
  | lbStop => exact keeps_execLbStop rfl rfl Keeps.refl
  | lbAbort => exact keeps_execLbAbort Keeps.refl
  | harnessReflection => exact keeps_execHarnessReflection Keeps.refl
  | bscanEn => exact keeps_execBscanEn rfl rfl Keeps.refl
  | extestLoad => exact keeps_execExtestLoad Keeps.refl
  | undershootClear => exact keeps_execUndershootClear Keeps.refl
  | symbolLockGained => exact keeps_execSymbolLockGained Keeps.refl
  | symbolLockLost => exact keeps_execSymbolLockLost Keeps.refl
  | ccStateChange => exact keeps_execCcStateChange Keeps.refl
  | vbusDischargeDone => exact keeps_execVbusDischargeDone rfl Keeps.refl
  | buckTurnOn => exact keeps_execBuckTurnOn Keeps.refl

end Sys2Proof.Machine
end

