-- ==== Sys2Proof/Laws/State.lean ====
section
/-!
SUPPORT. The laws of the state: what each update leaves in each field, reads after writes of objects, hidden quantities,
inputs and histories, and what each shared operation can do.
-/

namespace Sys2Proof.Machine
namespace State
variable (s : State)

/-! ## Fields after an update -/

@[simp] theorem setO_pending (k : Nat) (v : Int) : (s.setO k v).pending = s.pending := rfl
@[simp] theorem setO_vars (k : Nat) (v : Int) : (s.setO k v).vars = s.vars := rfl
@[simp] theorem setO_pins (k : Nat) (v : Int) : (s.setO k v).pins = s.pins := rfl
@[simp] theorem setO_deferred (k : Nat) (v : Int) : (s.setO k v).deferred = s.deferred := rfl
@[simp] theorem setO_intake (k : Nat) (v : Int) : (s.setO k v).intake = s.intake := rfl
@[simp] theorem setO_arrived (k : Nat) (v : Int) : (s.setO k v).arrived = s.arrived := rfl
@[simp] theorem setO_due (k : Nat) (v : Int) : (s.setO k v).due = s.due := rfl
@[simp] theorem setO_offers (k : Nat) (v : Int) : (s.setO k v).offers = s.offers := rfl
@[simp] theorem setO_posts (k : Nat) (v : Int) : (s.setO k v).posts = s.posts := rfl
@[simp] theorem setO_queue (k : Nat) (v : Int) : (s.setO k v).queue = s.queue := rfl
@[simp] theorem setO_ports (k : Nat) (v : Int) : (s.setO k v).ports = s.ports := rfl
@[simp] theorem setO_jobs (k : Nat) (v : Int) : (s.setO k v).jobs = s.jobs := rfl
@[simp] theorem setO_mram (k : Nat) (v : Int) : (s.setO k v).mram = s.mram := rfl
@[simp] theorem setO_buf (k : Nat) (v : Int) : (s.setO k v).buf = s.buf := rfl
@[simp] theorem setO_waiters (k : Nat) (v : Int) : (s.setO k v).waiters = s.waiters := rfl
@[simp] theorem setO_bad (k : Nat) (v : Int) : (s.setO k v).bad = s.bad := rfl
@[simp] theorem setO_saved (k : Nat) (v : Int) : (s.setO k v).saved = s.saved := rfl
@[simp] theorem setO_saving (k : Nat) (v : Int) : (s.setO k v).saving = s.saving := rfl
@[simp] theorem setO_otp (k : Nat) (v : Int) : (s.setO k v).otp = s.otp := rfl
@[simp] theorem setO_shadow (k : Nat) (v : Int) : (s.setO k v).shadow = s.shadow := rfl
@[simp] theorem setO_otpSingle (k : Nat) (v : Int) : (s.setO k v).otpSingle = s.otpSingle := rfl
@[simp] theorem setO_otpDouble (k : Nat) (v : Int) : (s.setO k v).otpDouble = s.otpDouble := rfl
@[simp] theorem setO_hists (k : Nat) (v : Int) : (s.setO k v).hists = s.hists := rfl
@[simp] theorem setO_dq (k : Nat) (v : Int) : (s.setO k v).dq = s.dq := rfl
@[simp] theorem setO_dsent (k : Nat) (v : Int) : (s.setO k v).dsent = s.dsent := rfl
@[simp] theorem setO_dlast (k : Nat) (v : Int) : (s.setO k v).dlast = s.dlast := rfl
@[simp] theorem setO_mirrorTx (k : Nat) (v : Int) : (s.setO k v).mirrorTx = s.mirrorTx := rfl
@[simp] theorem setO_journal (k : Nat) (v : Int) : (s.setO k v).journal = s.journal := rfl
@[simp] theorem setO_ledTx (k : Nat) (v : Int) : (s.setO k v).ledTx = s.ledTx := rfl
@[simp] theorem setO_ledRx (k : Nat) (v : Int) : (s.setO k v).ledRx = s.ledRx := rfl
@[simp] theorem setO_fwdIn (k : Nat) (v : Int) : (s.setO k v).fwdIn = s.fwdIn := rfl
@[simp] theorem setO_trace (k : Nat) (v : Int) : (s.setO k v).trace = s.trace := rfl
@[simp] theorem setO_bbImage (k : Nat) (v : Int) : (s.setO k v).bbImage = s.bbImage := rfl
@[simp] theorem setO_expData (k : Nat) (v : Int) : (s.setO k v).expData = s.expData := rfl
@[simp] theorem setO_expSig (k : Nat) (v : Int) : (s.setO k v).expSig = s.expSig := rfl
@[simp] theorem setO_lines (k : Nat) (v : Int) : (s.setO k v).lines = s.lines := rfl
@[simp] theorem setO_notify (k : Nat) (v : Int) : (s.setO k v).notify = s.notify := rfl
@[simp] theorem setO_closeBlk (k : Nat) (v : Int) : (s.setO k v).closeBlk = s.closeBlk := rfl
@[simp] theorem setO_pdTx (k : Nat) (v : Int) : (s.setO k v).pdTx = s.pdTx := rfl
@[simp] theorem setO_slotKeys (k : Nat) (v : Int) : (s.setO k v).slotKeys = s.slotKeys := rfl
@[simp] theorem setO_pubKey (k : Nat) (v : Int) : (s.setO k v).pubKey = s.pubKey := rfl
@[simp] theorem setO_snapData (k : Nat) (v : Int) : (s.setO k v).snapData = s.snapData := rfl
@[simp] theorem setO_snapSig (k : Nat) (v : Int) : (s.setO k v).snapSig = s.snapSig := rfl
@[simp] theorem setO_romDfl (k : Nat) (v : Int) : (s.setO k v).romDfl = s.romDfl := rfl
@[simp] theorem setO_keyQ (k : Nat) (v : Int) : (s.setO k v).keyQ = s.keyQ := rfl
@[simp] theorem setO_reflect (k : Nat) (v : Int) : (s.setO k v).reflect = s.reflect := rfl
@[simp] theorem setO_keptRecs (k : Nat) (v : Int) : (s.setO k v).keptRecs = s.keptRecs := rfl
@[simp] theorem setO_free (k : Nat) (v : Int) : (s.setO k v).free = s.free := rfl
@[simp] theorem setVar_pending (k : VarKind) (v : Int) (i j : Nat) : (s.setVar k v i j).pending = s.pending := rfl
@[simp] theorem setVar_objs (k : VarKind) (v : Int) (i j : Nat) : (s.setVar k v i j).objs = s.objs := rfl
@[simp] theorem setVar_pins (k : VarKind) (v : Int) (i j : Nat) : (s.setVar k v i j).pins = s.pins := rfl
@[simp] theorem setVar_deferred (k : VarKind) (v : Int) (i j : Nat) : (s.setVar k v i j).deferred = s.deferred := rfl
@[simp] theorem setVar_intake (k : VarKind) (v : Int) (i j : Nat) : (s.setVar k v i j).intake = s.intake := rfl
@[simp] theorem setVar_arrived (k : VarKind) (v : Int) (i j : Nat) : (s.setVar k v i j).arrived = s.arrived := rfl
@[simp] theorem setVar_due (k : VarKind) (v : Int) (i j : Nat) : (s.setVar k v i j).due = s.due := rfl
@[simp] theorem setVar_offers (k : VarKind) (v : Int) (i j : Nat) : (s.setVar k v i j).offers = s.offers := rfl
@[simp] theorem setVar_posts (k : VarKind) (v : Int) (i j : Nat) : (s.setVar k v i j).posts = s.posts := rfl
@[simp] theorem setVar_queue (k : VarKind) (v : Int) (i j : Nat) : (s.setVar k v i j).queue = s.queue := rfl
@[simp] theorem setVar_ports (k : VarKind) (v : Int) (i j : Nat) : (s.setVar k v i j).ports = s.ports := rfl
@[simp] theorem setVar_jobs (k : VarKind) (v : Int) (i j : Nat) : (s.setVar k v i j).jobs = s.jobs := rfl
@[simp] theorem setVar_mram (k : VarKind) (v : Int) (i j : Nat) : (s.setVar k v i j).mram = s.mram := rfl
@[simp] theorem setVar_buf (k : VarKind) (v : Int) (i j : Nat) : (s.setVar k v i j).buf = s.buf := rfl
@[simp] theorem setVar_waiters (k : VarKind) (v : Int) (i j : Nat) : (s.setVar k v i j).waiters = s.waiters := rfl
@[simp] theorem setVar_bad (k : VarKind) (v : Int) (i j : Nat) : (s.setVar k v i j).bad = s.bad := rfl
@[simp] theorem setVar_saved (k : VarKind) (v : Int) (i j : Nat) : (s.setVar k v i j).saved = s.saved := rfl
@[simp] theorem setVar_saving (k : VarKind) (v : Int) (i j : Nat) : (s.setVar k v i j).saving = s.saving := rfl
@[simp] theorem setVar_otp (k : VarKind) (v : Int) (i j : Nat) : (s.setVar k v i j).otp = s.otp := rfl
@[simp] theorem setVar_shadow (k : VarKind) (v : Int) (i j : Nat) : (s.setVar k v i j).shadow = s.shadow := rfl
@[simp] theorem setVar_otpSingle (k : VarKind) (v : Int) (i j : Nat) : (s.setVar k v i j).otpSingle = s.otpSingle := rfl
@[simp] theorem setVar_otpDouble (k : VarKind) (v : Int) (i j : Nat) : (s.setVar k v i j).otpDouble = s.otpDouble := rfl
@[simp] theorem setVar_hists (k : VarKind) (v : Int) (i j : Nat) : (s.setVar k v i j).hists = s.hists := rfl
@[simp] theorem setVar_dq (k : VarKind) (v : Int) (i j : Nat) : (s.setVar k v i j).dq = s.dq := rfl
@[simp] theorem setVar_dsent (k : VarKind) (v : Int) (i j : Nat) : (s.setVar k v i j).dsent = s.dsent := rfl
@[simp] theorem setVar_dlast (k : VarKind) (v : Int) (i j : Nat) : (s.setVar k v i j).dlast = s.dlast := rfl
@[simp] theorem setVar_mirrorTx (k : VarKind) (v : Int) (i j : Nat) : (s.setVar k v i j).mirrorTx = s.mirrorTx := rfl
@[simp] theorem setVar_journal (k : VarKind) (v : Int) (i j : Nat) : (s.setVar k v i j).journal = s.journal := rfl
@[simp] theorem setVar_ledTx (k : VarKind) (v : Int) (i j : Nat) : (s.setVar k v i j).ledTx = s.ledTx := rfl
@[simp] theorem setVar_ledRx (k : VarKind) (v : Int) (i j : Nat) : (s.setVar k v i j).ledRx = s.ledRx := rfl
@[simp] theorem setVar_fwdIn (k : VarKind) (v : Int) (i j : Nat) : (s.setVar k v i j).fwdIn = s.fwdIn := rfl
@[simp] theorem setVar_trace (k : VarKind) (v : Int) (i j : Nat) : (s.setVar k v i j).trace = s.trace := rfl
@[simp] theorem setVar_bbImage (k : VarKind) (v : Int) (i j : Nat) : (s.setVar k v i j).bbImage = s.bbImage := rfl
@[simp] theorem setVar_expData (k : VarKind) (v : Int) (i j : Nat) : (s.setVar k v i j).expData = s.expData := rfl
@[simp] theorem setVar_expSig (k : VarKind) (v : Int) (i j : Nat) : (s.setVar k v i j).expSig = s.expSig := rfl
@[simp] theorem setVar_lines (k : VarKind) (v : Int) (i j : Nat) : (s.setVar k v i j).lines = s.lines := rfl
@[simp] theorem setVar_notify (k : VarKind) (v : Int) (i j : Nat) : (s.setVar k v i j).notify = s.notify := rfl
@[simp] theorem setVar_closeBlk (k : VarKind) (v : Int) (i j : Nat) : (s.setVar k v i j).closeBlk = s.closeBlk := rfl
@[simp] theorem setVar_pdTx (k : VarKind) (v : Int) (i j : Nat) : (s.setVar k v i j).pdTx = s.pdTx := rfl
@[simp] theorem setVar_slotKeys (k : VarKind) (v : Int) (i j : Nat) : (s.setVar k v i j).slotKeys = s.slotKeys := rfl
@[simp] theorem setVar_pubKey (k : VarKind) (v : Int) (i j : Nat) : (s.setVar k v i j).pubKey = s.pubKey := rfl
@[simp] theorem setVar_snapData (k : VarKind) (v : Int) (i j : Nat) : (s.setVar k v i j).snapData = s.snapData := rfl
@[simp] theorem setVar_snapSig (k : VarKind) (v : Int) (i j : Nat) : (s.setVar k v i j).snapSig = s.snapSig := rfl
@[simp] theorem setVar_romDfl (k : VarKind) (v : Int) (i j : Nat) : (s.setVar k v i j).romDfl = s.romDfl := rfl
@[simp] theorem setVar_keyQ (k : VarKind) (v : Int) (i j : Nat) : (s.setVar k v i j).keyQ = s.keyQ := rfl
@[simp] theorem setVar_reflect (k : VarKind) (v : Int) (i j : Nat) : (s.setVar k v i j).reflect = s.reflect := rfl
@[simp] theorem setVar_keptRecs (k : VarKind) (v : Int) (i j : Nat) : (s.setVar k v i j).keptRecs = s.keptRecs := rfl
@[simp] theorem setVar_free (k : VarKind) (v : Int) (i j : Nat) : (s.setVar k v i j).free = s.free := rfl
@[simp] theorem setPin_pending (g : Sig) (v : Int) (i : Nat) : (s.setPin g v i).pending = s.pending := rfl
@[simp] theorem setPin_objs (g : Sig) (v : Int) (i : Nat) : (s.setPin g v i).objs = s.objs := rfl
@[simp] theorem setPin_vars (g : Sig) (v : Int) (i : Nat) : (s.setPin g v i).vars = s.vars := rfl
@[simp] theorem setPin_deferred (g : Sig) (v : Int) (i : Nat) : (s.setPin g v i).deferred = s.deferred := rfl
@[simp] theorem setPin_intake (g : Sig) (v : Int) (i : Nat) : (s.setPin g v i).intake = s.intake := rfl
@[simp] theorem setPin_arrived (g : Sig) (v : Int) (i : Nat) : (s.setPin g v i).arrived = s.arrived := rfl
@[simp] theorem setPin_due (g : Sig) (v : Int) (i : Nat) : (s.setPin g v i).due = s.due := rfl
@[simp] theorem setPin_offers (g : Sig) (v : Int) (i : Nat) : (s.setPin g v i).offers = s.offers := rfl
@[simp] theorem setPin_posts (g : Sig) (v : Int) (i : Nat) : (s.setPin g v i).posts = s.posts := rfl
@[simp] theorem setPin_queue (g : Sig) (v : Int) (i : Nat) : (s.setPin g v i).queue = s.queue := rfl
@[simp] theorem setPin_ports (g : Sig) (v : Int) (i : Nat) : (s.setPin g v i).ports = s.ports := rfl
@[simp] theorem setPin_jobs (g : Sig) (v : Int) (i : Nat) : (s.setPin g v i).jobs = s.jobs := rfl
@[simp] theorem setPin_mram (g : Sig) (v : Int) (i : Nat) : (s.setPin g v i).mram = s.mram := rfl
@[simp] theorem setPin_buf (g : Sig) (v : Int) (i : Nat) : (s.setPin g v i).buf = s.buf := rfl
@[simp] theorem setPin_waiters (g : Sig) (v : Int) (i : Nat) : (s.setPin g v i).waiters = s.waiters := rfl
@[simp] theorem setPin_bad (g : Sig) (v : Int) (i : Nat) : (s.setPin g v i).bad = s.bad := rfl
@[simp] theorem setPin_saved (g : Sig) (v : Int) (i : Nat) : (s.setPin g v i).saved = s.saved := rfl
@[simp] theorem setPin_saving (g : Sig) (v : Int) (i : Nat) : (s.setPin g v i).saving = s.saving := rfl
@[simp] theorem setPin_otp (g : Sig) (v : Int) (i : Nat) : (s.setPin g v i).otp = s.otp := rfl
@[simp] theorem setPin_shadow (g : Sig) (v : Int) (i : Nat) : (s.setPin g v i).shadow = s.shadow := rfl
@[simp] theorem setPin_otpSingle (g : Sig) (v : Int) (i : Nat) : (s.setPin g v i).otpSingle = s.otpSingle := rfl
@[simp] theorem setPin_otpDouble (g : Sig) (v : Int) (i : Nat) : (s.setPin g v i).otpDouble = s.otpDouble := rfl
@[simp] theorem setPin_hists (g : Sig) (v : Int) (i : Nat) : (s.setPin g v i).hists = s.hists := rfl
@[simp] theorem setPin_dq (g : Sig) (v : Int) (i : Nat) : (s.setPin g v i).dq = s.dq := rfl
@[simp] theorem setPin_dsent (g : Sig) (v : Int) (i : Nat) : (s.setPin g v i).dsent = s.dsent := rfl
@[simp] theorem setPin_dlast (g : Sig) (v : Int) (i : Nat) : (s.setPin g v i).dlast = s.dlast := rfl
@[simp] theorem setPin_mirrorTx (g : Sig) (v : Int) (i : Nat) : (s.setPin g v i).mirrorTx = s.mirrorTx := rfl
@[simp] theorem setPin_journal (g : Sig) (v : Int) (i : Nat) : (s.setPin g v i).journal = s.journal := rfl
@[simp] theorem setPin_ledTx (g : Sig) (v : Int) (i : Nat) : (s.setPin g v i).ledTx = s.ledTx := rfl
@[simp] theorem setPin_ledRx (g : Sig) (v : Int) (i : Nat) : (s.setPin g v i).ledRx = s.ledRx := rfl
@[simp] theorem setPin_fwdIn (g : Sig) (v : Int) (i : Nat) : (s.setPin g v i).fwdIn = s.fwdIn := rfl
@[simp] theorem setPin_trace (g : Sig) (v : Int) (i : Nat) : (s.setPin g v i).trace = s.trace := rfl
@[simp] theorem setPin_bbImage (g : Sig) (v : Int) (i : Nat) : (s.setPin g v i).bbImage = s.bbImage := rfl
@[simp] theorem setPin_expData (g : Sig) (v : Int) (i : Nat) : (s.setPin g v i).expData = s.expData := rfl
@[simp] theorem setPin_expSig (g : Sig) (v : Int) (i : Nat) : (s.setPin g v i).expSig = s.expSig := rfl
@[simp] theorem setPin_lines (g : Sig) (v : Int) (i : Nat) : (s.setPin g v i).lines = s.lines := rfl
@[simp] theorem setPin_notify (g : Sig) (v : Int) (i : Nat) : (s.setPin g v i).notify = s.notify := rfl
@[simp] theorem setPin_closeBlk (g : Sig) (v : Int) (i : Nat) : (s.setPin g v i).closeBlk = s.closeBlk := rfl
@[simp] theorem setPin_pdTx (g : Sig) (v : Int) (i : Nat) : (s.setPin g v i).pdTx = s.pdTx := rfl
@[simp] theorem setPin_slotKeys (g : Sig) (v : Int) (i : Nat) : (s.setPin g v i).slotKeys = s.slotKeys := rfl
@[simp] theorem setPin_pubKey (g : Sig) (v : Int) (i : Nat) : (s.setPin g v i).pubKey = s.pubKey := rfl
@[simp] theorem setPin_snapData (g : Sig) (v : Int) (i : Nat) : (s.setPin g v i).snapData = s.snapData := rfl
@[simp] theorem setPin_snapSig (g : Sig) (v : Int) (i : Nat) : (s.setPin g v i).snapSig = s.snapSig := rfl
@[simp] theorem setPin_romDfl (g : Sig) (v : Int) (i : Nat) : (s.setPin g v i).romDfl = s.romDfl := rfl
@[simp] theorem setPin_keyQ (g : Sig) (v : Int) (i : Nat) : (s.setPin g v i).keyQ = s.keyQ := rfl
@[simp] theorem setPin_reflect (g : Sig) (v : Int) (i : Nat) : (s.setPin g v i).reflect = s.reflect := rfl
@[simp] theorem setPin_keptRecs (g : Sig) (v : Int) (i : Nat) : (s.setPin g v i).keptRecs = s.keptRecs := rfl
@[simp] theorem setPin_free (g : Sig) (v : Int) (i : Nat) : (s.setPin g v i).free = s.free := rfl
@[simp] theorem setHist_pending (k : VarKind) (l : List Int) (i : Nat) : (s.setHist k l i).pending = s.pending := rfl
@[simp] theorem setHist_objs (k : VarKind) (l : List Int) (i : Nat) : (s.setHist k l i).objs = s.objs := rfl
@[simp] theorem setHist_vars (k : VarKind) (l : List Int) (i : Nat) : (s.setHist k l i).vars = s.vars := rfl
@[simp] theorem setHist_pins (k : VarKind) (l : List Int) (i : Nat) : (s.setHist k l i).pins = s.pins := rfl
@[simp] theorem setHist_deferred (k : VarKind) (l : List Int) (i : Nat) : (s.setHist k l i).deferred = s.deferred := rfl
@[simp] theorem setHist_intake (k : VarKind) (l : List Int) (i : Nat) : (s.setHist k l i).intake = s.intake := rfl
@[simp] theorem setHist_arrived (k : VarKind) (l : List Int) (i : Nat) : (s.setHist k l i).arrived = s.arrived := rfl
@[simp] theorem setHist_due (k : VarKind) (l : List Int) (i : Nat) : (s.setHist k l i).due = s.due := rfl
@[simp] theorem setHist_offers (k : VarKind) (l : List Int) (i : Nat) : (s.setHist k l i).offers = s.offers := rfl
@[simp] theorem setHist_posts (k : VarKind) (l : List Int) (i : Nat) : (s.setHist k l i).posts = s.posts := rfl
@[simp] theorem setHist_queue (k : VarKind) (l : List Int) (i : Nat) : (s.setHist k l i).queue = s.queue := rfl
@[simp] theorem setHist_ports (k : VarKind) (l : List Int) (i : Nat) : (s.setHist k l i).ports = s.ports := rfl
@[simp] theorem setHist_jobs (k : VarKind) (l : List Int) (i : Nat) : (s.setHist k l i).jobs = s.jobs := rfl
@[simp] theorem setHist_mram (k : VarKind) (l : List Int) (i : Nat) : (s.setHist k l i).mram = s.mram := rfl
@[simp] theorem setHist_buf (k : VarKind) (l : List Int) (i : Nat) : (s.setHist k l i).buf = s.buf := rfl
@[simp] theorem setHist_waiters (k : VarKind) (l : List Int) (i : Nat) : (s.setHist k l i).waiters = s.waiters := rfl
@[simp] theorem setHist_bad (k : VarKind) (l : List Int) (i : Nat) : (s.setHist k l i).bad = s.bad := rfl
@[simp] theorem setHist_saved (k : VarKind) (l : List Int) (i : Nat) : (s.setHist k l i).saved = s.saved := rfl
@[simp] theorem setHist_saving (k : VarKind) (l : List Int) (i : Nat) : (s.setHist k l i).saving = s.saving := rfl
@[simp] theorem setHist_otp (k : VarKind) (l : List Int) (i : Nat) : (s.setHist k l i).otp = s.otp := rfl
@[simp] theorem setHist_shadow (k : VarKind) (l : List Int) (i : Nat) : (s.setHist k l i).shadow = s.shadow := rfl
@[simp] theorem setHist_otpSingle (k : VarKind) (l : List Int) (i : Nat) : (s.setHist k l i).otpSingle = s.otpSingle := rfl
@[simp] theorem setHist_otpDouble (k : VarKind) (l : List Int) (i : Nat) : (s.setHist k l i).otpDouble = s.otpDouble := rfl
@[simp] theorem setHist_dq (k : VarKind) (l : List Int) (i : Nat) : (s.setHist k l i).dq = s.dq := rfl
@[simp] theorem setHist_dsent (k : VarKind) (l : List Int) (i : Nat) : (s.setHist k l i).dsent = s.dsent := rfl
@[simp] theorem setHist_dlast (k : VarKind) (l : List Int) (i : Nat) : (s.setHist k l i).dlast = s.dlast := rfl
@[simp] theorem setHist_mirrorTx (k : VarKind) (l : List Int) (i : Nat) : (s.setHist k l i).mirrorTx = s.mirrorTx := rfl
@[simp] theorem setHist_journal (k : VarKind) (l : List Int) (i : Nat) : (s.setHist k l i).journal = s.journal := rfl
@[simp] theorem setHist_ledTx (k : VarKind) (l : List Int) (i : Nat) : (s.setHist k l i).ledTx = s.ledTx := rfl
@[simp] theorem setHist_ledRx (k : VarKind) (l : List Int) (i : Nat) : (s.setHist k l i).ledRx = s.ledRx := rfl
@[simp] theorem setHist_fwdIn (k : VarKind) (l : List Int) (i : Nat) : (s.setHist k l i).fwdIn = s.fwdIn := rfl
@[simp] theorem setHist_trace (k : VarKind) (l : List Int) (i : Nat) : (s.setHist k l i).trace = s.trace := rfl
@[simp] theorem setHist_bbImage (k : VarKind) (l : List Int) (i : Nat) : (s.setHist k l i).bbImage = s.bbImage := rfl
@[simp] theorem setHist_expData (k : VarKind) (l : List Int) (i : Nat) : (s.setHist k l i).expData = s.expData := rfl
@[simp] theorem setHist_expSig (k : VarKind) (l : List Int) (i : Nat) : (s.setHist k l i).expSig = s.expSig := rfl
@[simp] theorem setHist_lines (k : VarKind) (l : List Int) (i : Nat) : (s.setHist k l i).lines = s.lines := rfl
@[simp] theorem setHist_notify (k : VarKind) (l : List Int) (i : Nat) : (s.setHist k l i).notify = s.notify := rfl
@[simp] theorem setHist_closeBlk (k : VarKind) (l : List Int) (i : Nat) : (s.setHist k l i).closeBlk = s.closeBlk := rfl
@[simp] theorem setHist_pdTx (k : VarKind) (l : List Int) (i : Nat) : (s.setHist k l i).pdTx = s.pdTx := rfl
@[simp] theorem setHist_slotKeys (k : VarKind) (l : List Int) (i : Nat) : (s.setHist k l i).slotKeys = s.slotKeys := rfl
@[simp] theorem setHist_pubKey (k : VarKind) (l : List Int) (i : Nat) : (s.setHist k l i).pubKey = s.pubKey := rfl
@[simp] theorem setHist_snapData (k : VarKind) (l : List Int) (i : Nat) : (s.setHist k l i).snapData = s.snapData := rfl
@[simp] theorem setHist_snapSig (k : VarKind) (l : List Int) (i : Nat) : (s.setHist k l i).snapSig = s.snapSig := rfl
@[simp] theorem setHist_romDfl (k : VarKind) (l : List Int) (i : Nat) : (s.setHist k l i).romDfl = s.romDfl := rfl
@[simp] theorem setHist_keyQ (k : VarKind) (l : List Int) (i : Nat) : (s.setHist k l i).keyQ = s.keyQ := rfl
@[simp] theorem setHist_reflect (k : VarKind) (l : List Int) (i : Nat) : (s.setHist k l i).reflect = s.reflect := rfl
@[simp] theorem setHist_keptRecs (k : VarKind) (l : List Int) (i : Nat) : (s.setHist k l i).keptRecs = s.keptRecs := rfl
@[simp] theorem setHist_free (k : VarKind) (l : List Int) (i : Nat) : (s.setHist k l i).free = s.free := rfl
@[simp] theorem raiseAction_pending (a c : Nat) (d : List Byte) : (s.raiseAction a c d).pending = s.pending := rfl
@[simp] theorem raiseAction_objs (a c : Nat) (d : List Byte) : (s.raiseAction a c d).objs = s.objs := rfl
@[simp] theorem raiseAction_vars (a c : Nat) (d : List Byte) : (s.raiseAction a c d).vars = s.vars := rfl
@[simp] theorem raiseAction_pins (a c : Nat) (d : List Byte) : (s.raiseAction a c d).pins = s.pins := rfl
@[simp] theorem raiseAction_deferred (a c : Nat) (d : List Byte) : (s.raiseAction a c d).deferred = s.deferred := rfl
@[simp] theorem raiseAction_intake (a c : Nat) (d : List Byte) : (s.raiseAction a c d).intake = s.intake ++ [{ src := a, cls := c, data := d }] := rfl
@[simp] theorem raiseAction_arrived (a c : Nat) (d : List Byte) : (s.raiseAction a c d).arrived = s.arrived := rfl
@[simp] theorem raiseAction_due (a c : Nat) (d : List Byte) : (s.raiseAction a c d).due = s.due := rfl
@[simp] theorem raiseAction_offers (a c : Nat) (d : List Byte) : (s.raiseAction a c d).offers = s.offers := rfl
@[simp] theorem raiseAction_posts (a c : Nat) (d : List Byte) : (s.raiseAction a c d).posts = s.posts := rfl
@[simp] theorem raiseAction_queue (a c : Nat) (d : List Byte) : (s.raiseAction a c d).queue = s.queue := rfl
@[simp] theorem raiseAction_ports (a c : Nat) (d : List Byte) : (s.raiseAction a c d).ports = s.ports := rfl
@[simp] theorem raiseAction_jobs (a c : Nat) (d : List Byte) : (s.raiseAction a c d).jobs = s.jobs := rfl
@[simp] theorem raiseAction_mram (a c : Nat) (d : List Byte) : (s.raiseAction a c d).mram = s.mram := rfl
@[simp] theorem raiseAction_buf (a c : Nat) (d : List Byte) : (s.raiseAction a c d).buf = s.buf := rfl
@[simp] theorem raiseAction_waiters (a c : Nat) (d : List Byte) : (s.raiseAction a c d).waiters = s.waiters := rfl
@[simp] theorem raiseAction_bad (a c : Nat) (d : List Byte) : (s.raiseAction a c d).bad = s.bad := rfl
@[simp] theorem raiseAction_saved (a c : Nat) (d : List Byte) : (s.raiseAction a c d).saved = s.saved := rfl
@[simp] theorem raiseAction_saving (a c : Nat) (d : List Byte) : (s.raiseAction a c d).saving = s.saving := rfl
@[simp] theorem raiseAction_otp (a c : Nat) (d : List Byte) : (s.raiseAction a c d).otp = s.otp := rfl
@[simp] theorem raiseAction_shadow (a c : Nat) (d : List Byte) : (s.raiseAction a c d).shadow = s.shadow := rfl
@[simp] theorem raiseAction_otpSingle (a c : Nat) (d : List Byte) : (s.raiseAction a c d).otpSingle = s.otpSingle := rfl
@[simp] theorem raiseAction_otpDouble (a c : Nat) (d : List Byte) : (s.raiseAction a c d).otpDouble = s.otpDouble := rfl
@[simp] theorem raiseAction_hists (a c : Nat) (d : List Byte) : (s.raiseAction a c d).hists = s.hists := rfl
@[simp] theorem raiseAction_dq (a c : Nat) (d : List Byte) : (s.raiseAction a c d).dq = s.dq := rfl
@[simp] theorem raiseAction_dsent (a c : Nat) (d : List Byte) : (s.raiseAction a c d).dsent = s.dsent := rfl
@[simp] theorem raiseAction_dlast (a c : Nat) (d : List Byte) : (s.raiseAction a c d).dlast = s.dlast := rfl
@[simp] theorem raiseAction_mirrorTx (a c : Nat) (d : List Byte) : (s.raiseAction a c d).mirrorTx = s.mirrorTx := rfl
@[simp] theorem raiseAction_journal (a c : Nat) (d : List Byte) : (s.raiseAction a c d).journal = s.journal := rfl
@[simp] theorem raiseAction_ledTx (a c : Nat) (d : List Byte) : (s.raiseAction a c d).ledTx = s.ledTx := rfl
@[simp] theorem raiseAction_ledRx (a c : Nat) (d : List Byte) : (s.raiseAction a c d).ledRx = s.ledRx := rfl
@[simp] theorem raiseAction_fwdIn (a c : Nat) (d : List Byte) : (s.raiseAction a c d).fwdIn = s.fwdIn := rfl
@[simp] theorem raiseAction_trace (a c : Nat) (d : List Byte) : (s.raiseAction a c d).trace = s.trace := rfl
@[simp] theorem raiseAction_bbImage (a c : Nat) (d : List Byte) : (s.raiseAction a c d).bbImage = s.bbImage := rfl
@[simp] theorem raiseAction_expData (a c : Nat) (d : List Byte) : (s.raiseAction a c d).expData = s.expData := rfl
@[simp] theorem raiseAction_expSig (a c : Nat) (d : List Byte) : (s.raiseAction a c d).expSig = s.expSig := rfl
@[simp] theorem raiseAction_lines (a c : Nat) (d : List Byte) : (s.raiseAction a c d).lines = s.lines := rfl
@[simp] theorem raiseAction_notify (a c : Nat) (d : List Byte) : (s.raiseAction a c d).notify = s.notify := rfl
@[simp] theorem raiseAction_closeBlk (a c : Nat) (d : List Byte) : (s.raiseAction a c d).closeBlk = s.closeBlk := rfl
@[simp] theorem raiseAction_pdTx (a c : Nat) (d : List Byte) : (s.raiseAction a c d).pdTx = s.pdTx := rfl
@[simp] theorem raiseAction_slotKeys (a c : Nat) (d : List Byte) : (s.raiseAction a c d).slotKeys = s.slotKeys := rfl
@[simp] theorem raiseAction_pubKey (a c : Nat) (d : List Byte) : (s.raiseAction a c d).pubKey = s.pubKey := rfl
@[simp] theorem raiseAction_snapData (a c : Nat) (d : List Byte) : (s.raiseAction a c d).snapData = s.snapData := rfl
@[simp] theorem raiseAction_snapSig (a c : Nat) (d : List Byte) : (s.raiseAction a c d).snapSig = s.snapSig := rfl
@[simp] theorem raiseAction_romDfl (a c : Nat) (d : List Byte) : (s.raiseAction a c d).romDfl = s.romDfl := rfl
@[simp] theorem raiseAction_keyQ (a c : Nat) (d : List Byte) : (s.raiseAction a c d).keyQ = s.keyQ := rfl
@[simp] theorem raiseAction_reflect (a c : Nat) (d : List Byte) : (s.raiseAction a c d).reflect = s.reflect := rfl
@[simp] theorem raiseAction_keptRecs (a c : Nat) (d : List Byte) : (s.raiseAction a c d).keptRecs = s.keptRecs := rfl
@[simp] theorem raiseAction_free (a c : Nat) (d : List Byte) : (s.raiseAction a c d).free = s.free := rfl
@[simp] theorem raiseActionLater_pending (a c : Nat) (d : List Byte) : (s.raiseActionLater a c d).pending = s.pending := rfl
@[simp] theorem raiseActionLater_objs (a c : Nat) (d : List Byte) : (s.raiseActionLater a c d).objs = s.objs := rfl
@[simp] theorem raiseActionLater_vars (a c : Nat) (d : List Byte) : (s.raiseActionLater a c d).vars = s.vars := rfl
@[simp] theorem raiseActionLater_pins (a c : Nat) (d : List Byte) : (s.raiseActionLater a c d).pins = s.pins := rfl
@[simp] theorem raiseActionLater_deferred (a c : Nat) (d : List Byte) : (s.raiseActionLater a c d).deferred = s.deferred := rfl
@[simp] theorem raiseActionLater_intake (a c : Nat) (d : List Byte) : (s.raiseActionLater a c d).intake = s.intake := rfl
@[simp] theorem raiseActionLater_arrived (a c : Nat) (d : List Byte) : (s.raiseActionLater a c d).arrived = s.arrived ++ [{ src := a, cls := c, data := d }] := rfl
@[simp] theorem raiseActionLater_due (a c : Nat) (d : List Byte) : (s.raiseActionLater a c d).due = s.due := rfl
@[simp] theorem raiseActionLater_offers (a c : Nat) (d : List Byte) : (s.raiseActionLater a c d).offers = s.offers := rfl
@[simp] theorem raiseActionLater_posts (a c : Nat) (d : List Byte) : (s.raiseActionLater a c d).posts = s.posts := rfl
@[simp] theorem raiseActionLater_queue (a c : Nat) (d : List Byte) : (s.raiseActionLater a c d).queue = s.queue := rfl
@[simp] theorem raiseActionLater_ports (a c : Nat) (d : List Byte) : (s.raiseActionLater a c d).ports = s.ports := rfl
@[simp] theorem raiseActionLater_jobs (a c : Nat) (d : List Byte) : (s.raiseActionLater a c d).jobs = s.jobs := rfl
@[simp] theorem raiseActionLater_mram (a c : Nat) (d : List Byte) : (s.raiseActionLater a c d).mram = s.mram := rfl
@[simp] theorem raiseActionLater_buf (a c : Nat) (d : List Byte) : (s.raiseActionLater a c d).buf = s.buf := rfl
@[simp] theorem raiseActionLater_waiters (a c : Nat) (d : List Byte) : (s.raiseActionLater a c d).waiters = s.waiters := rfl
@[simp] theorem raiseActionLater_bad (a c : Nat) (d : List Byte) : (s.raiseActionLater a c d).bad = s.bad := rfl
@[simp] theorem raiseActionLater_saved (a c : Nat) (d : List Byte) : (s.raiseActionLater a c d).saved = s.saved := rfl
@[simp] theorem raiseActionLater_saving (a c : Nat) (d : List Byte) : (s.raiseActionLater a c d).saving = s.saving := rfl
@[simp] theorem raiseActionLater_otp (a c : Nat) (d : List Byte) : (s.raiseActionLater a c d).otp = s.otp := rfl
@[simp] theorem raiseActionLater_shadow (a c : Nat) (d : List Byte) : (s.raiseActionLater a c d).shadow = s.shadow := rfl
@[simp] theorem raiseActionLater_otpSingle (a c : Nat) (d : List Byte) : (s.raiseActionLater a c d).otpSingle = s.otpSingle := rfl
@[simp] theorem raiseActionLater_otpDouble (a c : Nat) (d : List Byte) : (s.raiseActionLater a c d).otpDouble = s.otpDouble := rfl
@[simp] theorem raiseActionLater_hists (a c : Nat) (d : List Byte) : (s.raiseActionLater a c d).hists = s.hists := rfl
@[simp] theorem raiseActionLater_dq (a c : Nat) (d : List Byte) : (s.raiseActionLater a c d).dq = s.dq := rfl
@[simp] theorem raiseActionLater_dsent (a c : Nat) (d : List Byte) : (s.raiseActionLater a c d).dsent = s.dsent := rfl
@[simp] theorem raiseActionLater_dlast (a c : Nat) (d : List Byte) : (s.raiseActionLater a c d).dlast = s.dlast := rfl
@[simp] theorem raiseActionLater_mirrorTx (a c : Nat) (d : List Byte) : (s.raiseActionLater a c d).mirrorTx = s.mirrorTx := rfl
@[simp] theorem raiseActionLater_journal (a c : Nat) (d : List Byte) : (s.raiseActionLater a c d).journal = s.journal := rfl
@[simp] theorem raiseActionLater_ledTx (a c : Nat) (d : List Byte) : (s.raiseActionLater a c d).ledTx = s.ledTx := rfl
@[simp] theorem raiseActionLater_ledRx (a c : Nat) (d : List Byte) : (s.raiseActionLater a c d).ledRx = s.ledRx := rfl
@[simp] theorem raiseActionLater_fwdIn (a c : Nat) (d : List Byte) : (s.raiseActionLater a c d).fwdIn = s.fwdIn := rfl
@[simp] theorem raiseActionLater_trace (a c : Nat) (d : List Byte) : (s.raiseActionLater a c d).trace = s.trace := rfl
@[simp] theorem raiseActionLater_bbImage (a c : Nat) (d : List Byte) : (s.raiseActionLater a c d).bbImage = s.bbImage := rfl
@[simp] theorem raiseActionLater_expData (a c : Nat) (d : List Byte) : (s.raiseActionLater a c d).expData = s.expData := rfl
@[simp] theorem raiseActionLater_expSig (a c : Nat) (d : List Byte) : (s.raiseActionLater a c d).expSig = s.expSig := rfl
@[simp] theorem raiseActionLater_lines (a c : Nat) (d : List Byte) : (s.raiseActionLater a c d).lines = s.lines := rfl
@[simp] theorem raiseActionLater_notify (a c : Nat) (d : List Byte) : (s.raiseActionLater a c d).notify = s.notify := rfl
@[simp] theorem raiseActionLater_closeBlk (a c : Nat) (d : List Byte) : (s.raiseActionLater a c d).closeBlk = s.closeBlk := rfl
@[simp] theorem raiseActionLater_pdTx (a c : Nat) (d : List Byte) : (s.raiseActionLater a c d).pdTx = s.pdTx := rfl
@[simp] theorem raiseActionLater_slotKeys (a c : Nat) (d : List Byte) : (s.raiseActionLater a c d).slotKeys = s.slotKeys := rfl
@[simp] theorem raiseActionLater_pubKey (a c : Nat) (d : List Byte) : (s.raiseActionLater a c d).pubKey = s.pubKey := rfl
@[simp] theorem raiseActionLater_snapData (a c : Nat) (d : List Byte) : (s.raiseActionLater a c d).snapData = s.snapData := rfl
@[simp] theorem raiseActionLater_snapSig (a c : Nat) (d : List Byte) : (s.raiseActionLater a c d).snapSig = s.snapSig := rfl
@[simp] theorem raiseActionLater_romDfl (a c : Nat) (d : List Byte) : (s.raiseActionLater a c d).romDfl = s.romDfl := rfl
@[simp] theorem raiseActionLater_keyQ (a c : Nat) (d : List Byte) : (s.raiseActionLater a c d).keyQ = s.keyQ := rfl
@[simp] theorem raiseActionLater_reflect (a c : Nat) (d : List Byte) : (s.raiseActionLater a c d).reflect = s.reflect := rfl
@[simp] theorem raiseActionLater_keptRecs (a c : Nat) (d : List Byte) : (s.raiseActionLater a c d).keptRecs = s.keptRecs := rfl
@[simp] theorem raiseActionLater_free (a c : Nat) (d : List Byte) : (s.raiseActionLater a c d).free = s.free := rfl
@[simp] theorem record_pending (c : Nat) (d : List Byte) : (s.record c d).pending = s.pending := rfl
@[simp] theorem record_objs (c : Nat) (d : List Byte) : (s.record c d).objs = s.objs := rfl
@[simp] theorem record_vars (c : Nat) (d : List Byte) : (s.record c d).vars = s.vars := rfl
@[simp] theorem record_pins (c : Nat) (d : List Byte) : (s.record c d).pins = s.pins := rfl
@[simp] theorem record_deferred (c : Nat) (d : List Byte) : (s.record c d).deferred = s.deferred := rfl
@[simp] theorem record_intake (c : Nat) (d : List Byte) : (s.record c d).intake = s.intake := rfl
@[simp] theorem record_arrived (c : Nat) (d : List Byte) : (s.record c d).arrived = s.arrived := rfl
@[simp] theorem record_due (c : Nat) (d : List Byte) : (s.record c d).due = s.due := rfl
@[simp] theorem record_offers (c : Nat) (d : List Byte) : (s.record c d).offers = s.offers ++ [{ code := c, data := d }] := rfl
@[simp] theorem record_posts (c : Nat) (d : List Byte) : (s.record c d).posts = s.posts := rfl
@[simp] theorem record_queue (c : Nat) (d : List Byte) : (s.record c d).queue = s.queue := rfl
@[simp] theorem record_ports (c : Nat) (d : List Byte) : (s.record c d).ports = s.ports := rfl
@[simp] theorem record_jobs (c : Nat) (d : List Byte) : (s.record c d).jobs = s.jobs := rfl
@[simp] theorem record_mram (c : Nat) (d : List Byte) : (s.record c d).mram = s.mram := rfl
@[simp] theorem record_buf (c : Nat) (d : List Byte) : (s.record c d).buf = s.buf := rfl
@[simp] theorem record_waiters (c : Nat) (d : List Byte) : (s.record c d).waiters = s.waiters := rfl
@[simp] theorem record_bad (c : Nat) (d : List Byte) : (s.record c d).bad = s.bad := rfl
@[simp] theorem record_saved (c : Nat) (d : List Byte) : (s.record c d).saved = s.saved := rfl
@[simp] theorem record_saving (c : Nat) (d : List Byte) : (s.record c d).saving = s.saving := rfl
@[simp] theorem record_otp (c : Nat) (d : List Byte) : (s.record c d).otp = s.otp := rfl
@[simp] theorem record_shadow (c : Nat) (d : List Byte) : (s.record c d).shadow = s.shadow := rfl
@[simp] theorem record_otpSingle (c : Nat) (d : List Byte) : (s.record c d).otpSingle = s.otpSingle := rfl
@[simp] theorem record_otpDouble (c : Nat) (d : List Byte) : (s.record c d).otpDouble = s.otpDouble := rfl
@[simp] theorem record_hists (c : Nat) (d : List Byte) : (s.record c d).hists = s.hists := rfl
@[simp] theorem record_dq (c : Nat) (d : List Byte) : (s.record c d).dq = s.dq := rfl
@[simp] theorem record_dsent (c : Nat) (d : List Byte) : (s.record c d).dsent = s.dsent := rfl
@[simp] theorem record_dlast (c : Nat) (d : List Byte) : (s.record c d).dlast = s.dlast := rfl
@[simp] theorem record_mirrorTx (c : Nat) (d : List Byte) : (s.record c d).mirrorTx = s.mirrorTx := rfl
@[simp] theorem record_journal (c : Nat) (d : List Byte) : (s.record c d).journal = s.journal := rfl
@[simp] theorem record_ledTx (c : Nat) (d : List Byte) : (s.record c d).ledTx = s.ledTx := rfl
@[simp] theorem record_ledRx (c : Nat) (d : List Byte) : (s.record c d).ledRx = s.ledRx := rfl
@[simp] theorem record_fwdIn (c : Nat) (d : List Byte) : (s.record c d).fwdIn = s.fwdIn := rfl
@[simp] theorem record_trace (c : Nat) (d : List Byte) : (s.record c d).trace = s.trace := rfl
@[simp] theorem record_bbImage (c : Nat) (d : List Byte) : (s.record c d).bbImage = s.bbImage := rfl
@[simp] theorem record_expData (c : Nat) (d : List Byte) : (s.record c d).expData = s.expData := rfl
@[simp] theorem record_expSig (c : Nat) (d : List Byte) : (s.record c d).expSig = s.expSig := rfl
@[simp] theorem record_lines (c : Nat) (d : List Byte) : (s.record c d).lines = s.lines := rfl
@[simp] theorem record_notify (c : Nat) (d : List Byte) : (s.record c d).notify = s.notify := rfl
@[simp] theorem record_closeBlk (c : Nat) (d : List Byte) : (s.record c d).closeBlk = s.closeBlk := rfl
@[simp] theorem record_pdTx (c : Nat) (d : List Byte) : (s.record c d).pdTx = s.pdTx := rfl
@[simp] theorem record_slotKeys (c : Nat) (d : List Byte) : (s.record c d).slotKeys = s.slotKeys := rfl
@[simp] theorem record_pubKey (c : Nat) (d : List Byte) : (s.record c d).pubKey = s.pubKey := rfl
@[simp] theorem record_snapData (c : Nat) (d : List Byte) : (s.record c d).snapData = s.snapData := rfl
@[simp] theorem record_snapSig (c : Nat) (d : List Byte) : (s.record c d).snapSig = s.snapSig := rfl
@[simp] theorem record_romDfl (c : Nat) (d : List Byte) : (s.record c d).romDfl = s.romDfl := rfl
@[simp] theorem record_keyQ (c : Nat) (d : List Byte) : (s.record c d).keyQ = s.keyQ := rfl
@[simp] theorem record_reflect (c : Nat) (d : List Byte) : (s.record c d).reflect = s.reflect := rfl
@[simp] theorem record_keptRecs (c : Nat) (d : List Byte) : (s.record c d).keptRecs = s.keptRecs := rfl
@[simp] theorem record_free (c : Nat) (d : List Byte) : (s.record c d).free = s.free := rfl
@[simp] theorem post_pending (i : Nat) : (s.post i).pending = s.pending := rfl
@[simp] theorem post_objs (i : Nat) : (s.post i).objs = s.objs := rfl
@[simp] theorem post_vars (i : Nat) : (s.post i).vars = s.vars := rfl
@[simp] theorem post_pins (i : Nat) : (s.post i).pins = s.pins := rfl
@[simp] theorem post_deferred (i : Nat) : (s.post i).deferred = s.deferred := rfl
@[simp] theorem post_intake (i : Nat) : (s.post i).intake = s.intake := rfl
@[simp] theorem post_arrived (i : Nat) : (s.post i).arrived = s.arrived := rfl
@[simp] theorem post_due (i : Nat) : (s.post i).due = s.due := rfl
@[simp] theorem post_offers (i : Nat) : (s.post i).offers = s.offers := rfl
@[simp] theorem post_posts (i : Nat) : (s.post i).posts = s.posts ++ [i] := rfl
@[simp] theorem post_queue (i : Nat) : (s.post i).queue = s.queue := rfl
@[simp] theorem post_ports (i : Nat) : (s.post i).ports = s.ports := rfl
@[simp] theorem post_jobs (i : Nat) : (s.post i).jobs = s.jobs := rfl
@[simp] theorem post_mram (i : Nat) : (s.post i).mram = s.mram := rfl
@[simp] theorem post_buf (i : Nat) : (s.post i).buf = s.buf := rfl
@[simp] theorem post_waiters (i : Nat) : (s.post i).waiters = s.waiters := rfl
@[simp] theorem post_bad (i : Nat) : (s.post i).bad = s.bad := rfl
@[simp] theorem post_saved (i : Nat) : (s.post i).saved = s.saved := rfl
@[simp] theorem post_saving (i : Nat) : (s.post i).saving = s.saving := rfl
@[simp] theorem post_otp (i : Nat) : (s.post i).otp = s.otp := rfl
@[simp] theorem post_shadow (i : Nat) : (s.post i).shadow = s.shadow := rfl
@[simp] theorem post_otpSingle (i : Nat) : (s.post i).otpSingle = s.otpSingle := rfl
@[simp] theorem post_otpDouble (i : Nat) : (s.post i).otpDouble = s.otpDouble := rfl
@[simp] theorem post_hists (i : Nat) : (s.post i).hists = s.hists := rfl
@[simp] theorem post_dq (i : Nat) : (s.post i).dq = s.dq := rfl
@[simp] theorem post_dsent (i : Nat) : (s.post i).dsent = s.dsent := rfl
@[simp] theorem post_dlast (i : Nat) : (s.post i).dlast = s.dlast := rfl
@[simp] theorem post_mirrorTx (i : Nat) : (s.post i).mirrorTx = s.mirrorTx := rfl
@[simp] theorem post_journal (i : Nat) : (s.post i).journal = s.journal := rfl
@[simp] theorem post_ledTx (i : Nat) : (s.post i).ledTx = s.ledTx := rfl
@[simp] theorem post_ledRx (i : Nat) : (s.post i).ledRx = s.ledRx := rfl
@[simp] theorem post_fwdIn (i : Nat) : (s.post i).fwdIn = s.fwdIn := rfl
@[simp] theorem post_trace (i : Nat) : (s.post i).trace = s.trace := rfl
@[simp] theorem post_bbImage (i : Nat) : (s.post i).bbImage = s.bbImage := rfl
@[simp] theorem post_expData (i : Nat) : (s.post i).expData = s.expData := rfl
@[simp] theorem post_expSig (i : Nat) : (s.post i).expSig = s.expSig := rfl
@[simp] theorem post_lines (i : Nat) : (s.post i).lines = s.lines := rfl
@[simp] theorem post_notify (i : Nat) : (s.post i).notify = s.notify := rfl
@[simp] theorem post_closeBlk (i : Nat) : (s.post i).closeBlk = s.closeBlk := rfl
@[simp] theorem post_pdTx (i : Nat) : (s.post i).pdTx = s.pdTx := rfl
@[simp] theorem post_slotKeys (i : Nat) : (s.post i).slotKeys = s.slotKeys := rfl
@[simp] theorem post_pubKey (i : Nat) : (s.post i).pubKey = s.pubKey := rfl
@[simp] theorem post_snapData (i : Nat) : (s.post i).snapData = s.snapData := rfl
@[simp] theorem post_snapSig (i : Nat) : (s.post i).snapSig = s.snapSig := rfl
@[simp] theorem post_romDfl (i : Nat) : (s.post i).romDfl = s.romDfl := rfl
@[simp] theorem post_keyQ (i : Nat) : (s.post i).keyQ = s.keyQ := rfl
@[simp] theorem post_reflect (i : Nat) : (s.post i).reflect = s.reflect := rfl
@[simp] theorem post_keptRecs (i : Nat) : (s.post i).keptRecs = s.keptRecs := rfl
@[simp] theorem post_free (i : Nat) : (s.post i).free = s.free := rfl

/-! ## Reads after an update -/

@[simp] theorem o_setVar (k : VarKind) (v : Int) (i j : Nat) (q : Nat) : (s.setVar k v i j).o q = s.o q := rfl
@[simp] theorem o_setPin (g : Sig) (v : Int) (i : Nat) (q : Nat) : (s.setPin g v i).o q = s.o q := rfl
@[simp] theorem o_setHist (k : VarKind) (l : List Int) (i : Nat) (q : Nat) : (s.setHist k l i).o q = s.o q := rfl
@[simp] theorem o_raiseAction (a c : Nat) (d : List Byte) (q : Nat) : (s.raiseAction a c d).o q = s.o q := rfl
@[simp] theorem o_raiseActionLater (a c : Nat) (d : List Byte) (q : Nat) : (s.raiseActionLater a c d).o q = s.o q := rfl
@[simp] theorem o_record (c : Nat) (d : List Byte) (q : Nat) : (s.record c d).o q = s.o q := rfl
@[simp] theorem o_post (i : Nat) (q : Nat) : (s.post i).o q = s.o q := rfl
@[simp] theorem var_setO (k : Nat) (v : Int) (q : VarKind) (m n : Nat) : (s.setO k v).var q m n = s.var q m n := rfl
@[simp] theorem var_setPin (g : Sig) (v : Int) (i : Nat) (q : VarKind) (m n : Nat) : (s.setPin g v i).var q m n = s.var q m n := rfl
@[simp] theorem var_setHist (k : VarKind) (l : List Int) (i : Nat) (q : VarKind) (m n : Nat) : (s.setHist k l i).var q m n = s.var q m n := rfl
@[simp] theorem var_raiseAction (a c : Nat) (d : List Byte) (q : VarKind) (m n : Nat) : (s.raiseAction a c d).var q m n = s.var q m n := rfl
@[simp] theorem var_raiseActionLater (a c : Nat) (d : List Byte) (q : VarKind) (m n : Nat) : (s.raiseActionLater a c d).var q m n = s.var q m n := rfl
@[simp] theorem var_record (c : Nat) (d : List Byte) (q : VarKind) (m n : Nat) : (s.record c d).var q m n = s.var q m n := rfl
@[simp] theorem var_post (i : Nat) (q : VarKind) (m n : Nat) : (s.post i).var q m n = s.var q m n := rfl
@[simp] theorem pin_setO (k : Nat) (v : Int) (q : Sig) (m : Nat) : (s.setO k v).pin q m = s.pin q m := rfl
@[simp] theorem pin_setVar (k : VarKind) (v : Int) (i j : Nat) (q : Sig) (m : Nat) : (s.setVar k v i j).pin q m = s.pin q m := rfl
@[simp] theorem pin_setHist (k : VarKind) (l : List Int) (i : Nat) (q : Sig) (m : Nat) : (s.setHist k l i).pin q m = s.pin q m := rfl
@[simp] theorem pin_raiseAction (a c : Nat) (d : List Byte) (q : Sig) (m : Nat) : (s.raiseAction a c d).pin q m = s.pin q m := rfl
@[simp] theorem pin_raiseActionLater (a c : Nat) (d : List Byte) (q : Sig) (m : Nat) : (s.raiseActionLater a c d).pin q m = s.pin q m := rfl
@[simp] theorem pin_record (c : Nat) (d : List Byte) (q : Sig) (m : Nat) : (s.record c d).pin q m = s.pin q m := rfl
@[simp] theorem pin_post (i : Nat) (q : Sig) (m : Nat) : (s.post i).pin q m = s.pin q m := rfl
@[simp] theorem hist_setO (k : Nat) (v : Int) (q : VarKind) (m : Nat) : (s.setO k v).hist q m = s.hist q m := rfl
@[simp] theorem hist_setVar (k : VarKind) (v : Int) (i j : Nat) (q : VarKind) (m : Nat) : (s.setVar k v i j).hist q m = s.hist q m := rfl
@[simp] theorem hist_setPin (g : Sig) (v : Int) (i : Nat) (q : VarKind) (m : Nat) : (s.setPin g v i).hist q m = s.hist q m := rfl
@[simp] theorem hist_raiseAction (a c : Nat) (d : List Byte) (q : VarKind) (m : Nat) : (s.raiseAction a c d).hist q m = s.hist q m := rfl
@[simp] theorem hist_raiseActionLater (a c : Nat) (d : List Byte) (q : VarKind) (m : Nat) : (s.raiseActionLater a c d).hist q m = s.hist q m := rfl
@[simp] theorem hist_record (c : Nat) (d : List Byte) (q : VarKind) (m : Nat) : (s.record c d).hist q m = s.hist q m := rfl
@[simp] theorem hist_post (i : Nat) (q : VarKind) (m : Nat) : (s.post i).hist q m = s.hist q m := rfl

@[simp] theorem o_setO_self (k : Nat) (v : Int) : (s.setO k v).o k = v := FMap.get_set_self _ _ _ _

theorem o_setO_ne {k q : Nat} (v : Int) (h : q ≠ k) : (s.setO k v).o q = s.o q := FMap.get_set_ne _ _ _ _ h

theorem o_setO (k q : Nat) (v : Int) : (s.setO k v).o q = if q = k then v else s.o q := by
  split
  · subst q; exact o_setO_self s k v
  · exact o_setO_ne s v ‹_›

theorem varKind_inj {a b : VarKind} (h : a.ctorIdx = b.ctorIdx) : a = b := by
  have := congrArg VarKind.ofNat h
  simpa only [VarKind.ofNat_ctorIdx] using this

theorem sig_inj {a b : Sig} (h : a.ctorIdx = b.ctorIdx) : a = b := by
  have := congrArg Sig.ofNat h
  simpa only [Sig.ofNat_ctorIdx] using this

theorem varKey_inj {a b : VarKind} {i j m n : Nat} (h : varKey a i j = varKey b m n) : a = b ∧ i = m ∧ j = n := by
  simp only [varKey, Nat.pair_eq_pair] at h
  exact ⟨varKind_inj h.1, h.2⟩

theorem sigKey_inj {a b : Sig} {i m : Nat} (h : sigKey a i = sigKey b m) : a = b ∧ i = m := by
  simp only [sigKey, Nat.pair_eq_pair] at h
  exact ⟨sig_inj h.1, h.2⟩

@[simp] theorem var_setVar_self (k : VarKind) (v : Int) (i j : Nat) : (s.setVar k v i j).var k i j = v :=
  FMap.get_set_self _ _ _ _

theorem var_setVar_ne {k q : VarKind} (v : Int) {i j m n : Nat} (h : ¬(q = k ∧ m = i ∧ n = j)) :
    (s.setVar k v i j).var q m n = s.var q m n :=
  FMap.get_set_ne _ _ _ _ fun e => h (varKey_inj e)

theorem var_setVar (k q : VarKind) (v : Int) (i j m n : Nat) :
    (s.setVar k v i j).var q m n = if q = k ∧ m = i ∧ n = j then v else s.var q m n := by
  split
  · rename_i h; obtain ⟨rfl, rfl, rfl⟩ := h; exact var_setVar_self s _ _ _ _
  · exact var_setVar_ne s v ‹_›

theorem pin_setPin (g q : Sig) (v : Int) (i m : Nat) : (s.setPin g v i).pin q m = if q = g ∧ m = i then v else s.pin q m := by
  simp only [State.pin, State.setPin]
  split
  · rename_i h; obtain ⟨rfl, rfl⟩ := h; rw [FMap.get_set_self]; omega
  · rename_i h; rw [FMap.get_set_ne _ _ _ _ fun e => h (sigKey_inj e)]

theorem hist_setHist (k q : VarKind) (l : List Int) (i m : Nat) :
    (s.setHist k l i).hist q m = if q = k ∧ m = i then l else s.hist q m := by
  split
  · rename_i h; obtain ⟨rfl, rfl⟩ := h; exact FMap.get_set_self _ _ _ _
  · rename_i h; exact FMap.get_set_ne _ _ _ _ fun e => h ⟨(varKey_inj e).1, (varKey_inj e).2.1⟩

/-! ## Bits -/

theorem testBit_add_pow {n b : Nat} (c : Nat) (h : n.testBit b = false) :
    (n + 2 ^ b).testBit c = if c = b then true else n.testBit c := by
  induction b generalizing n c with
  | zero =>
    simp only [Nat.testBit_zero, decide_eq_false_iff_not] at h
    cases c with
    | zero => simp only [Nat.testBit_zero, if_true, decide_eq_true_eq]; omega
    | succ c =>
      have : (n + 1) / 2 = n / 2 := by omega
      simp [Nat.testBit_succ, this]
  | succ b ih =>
    cases c with
    | zero =>
      have : (n + 2 ^ (b + 1)) % 2 = n % 2 := by rw [Nat.pow_succ]; omega
      simp [Nat.testBit_zero, this]
    | succ c =>
      have : (n + 2 ^ (b + 1)) / 2 = n / 2 + 2 ^ b := by rw [Nat.pow_succ]; omega
      simp only [Nat.testBit_succ, this, Nat.add_right_cancel_iff] at h ⊢
      exact ih c h

theorem testBit_sub_pow {n b : Nat} (c : Nat) (h : n.testBit b = true) :
    (n - 2 ^ b).testBit c = if c = b then false else n.testBit c := by
  induction b generalizing n c with
  | zero =>
    simp only [Nat.testBit_zero, decide_eq_true_eq] at h
    cases c with
    | zero => simp only [Nat.testBit_zero, if_true, decide_eq_false_iff_not]; omega
    | succ c =>
      have : (n - 1) / 2 = n / 2 := by omega
      simp [Nat.testBit_succ, this]
  | succ b ih =>
    have hb : 2 ^ (b + 1) ≤ n := Nat.ge_two_pow_of_testBit h
    cases c with
    | zero =>
      have : (n - 2 ^ (b + 1)) % 2 = n % 2 := by rw [Nat.pow_succ] at *; omega
      simp [Nat.testBit_zero, this]
    | succ c =>
      have : (n - 2 ^ (b + 1)) / 2 = n / 2 - 2 ^ b := by rw [Nat.pow_succ] at *; omega
      simp only [Nat.testBit_succ, this, Nat.add_right_cancel_iff] at h ⊢
      exact ih c h

/-- Replacing one bit sets that bit and leaves every other alone. -/
theorem testBit_putBit (n b c : Nat) (v : Bool) : (putBit n b v).testBit c = if c = b then v else n.testBit c := by
  unfold putBit
  split
  · rename_i h; split
    · subst c; exact h
    · rfl
  · rename_i h
    cases v with
    | true => simpa using testBit_add_pow c (by simpa using h)
    | false => simpa using testBit_sub_pow c (by simpa using h)

theorem bit_setBit (k b c : Nat) (v : Bool) : (s.setBit k b v).bit k c = if c = b then v else s.bit k c := by
  simp only [bit, setBit, oN, o_setO_self, Int.toNat_natCast, testBit_putBit]

theorem o_setBit_ne {k q : Nat} (b : Nat) (v : Bool) (h : q ≠ k) : (s.setBit k b v).o q = s.o q := o_setO_ne s _ h

end State
end Sys2Proof.Machine
end

