-- ==== Sys2Proof/Laws/Shared.lean ====
section
/-!
SUPPORT. The shared operations, each with what it can do: what it may change (`Within`), and what it leaves in the parts it
writes.
-/

namespace Sys2Proof.Machine
namespace WithinAll
variable {ks : List Nat} {fs : List (Nat → Nat)} {vs : List VarKind} {s t u : State}

theorem refl : WithinAll ks fs vs s s := ⟨fun _ _ _ => rfl, fun _ _ _ _ => rfl, rfl⟩

theorem trans (h : WithinAll ks fs vs s t) (g : WithinAll ks fs vs t u) : WithinAll ks fs vs s u :=
  ⟨fun k hk hf => (g.objs k hk hf).trans (h.objs k hk hf), fun v i j hv => (g.vars v i j hv).trans (h.vars v i j hv), by
    have hr := h.rest; have gr := g.rest
    rw [gr, hr]⟩

theorem mono {ks' : List Nat} {fs' : List (Nat → Nat)} {vs' : List VarKind} (h : WithinAll ks fs vs s t) (hk : ks ⊆ ks')
    (hf : fs ⊆ fs') (hv : vs ⊆ vs') :
    WithinAll ks' fs' vs' s t :=
  ⟨fun k m n => h.objs k (fun x => m (hk x)) (fun f x => n f (hf x)), fun v i j m => h.vars v i j fun x => m (hv x), h.rest⟩

theorem setO {k : Nat} {v : Int} (h : WithinAll ks fs vs s t) (hk : k ∈ ks) : WithinAll ks fs vs s (t.setO k v) :=
  h.trans ⟨fun _ hq _ => t.o_setO_ne v (fun e => hq (e ▸ hk)), fun _ _ _ _ => rfl, rfl⟩

/-- A write of an object of a family. -/
theorem setF {f : Nat → Nat} {n : Nat} {v : Int} (h : WithinAll ks fs vs s t) (hf : f ∈ fs) : WithinAll ks fs vs s (t.setO (f n) v) :=
  h.trans ⟨fun _ _ hq => t.o_setO_ne v (hq f hf n), fun _ _ _ _ => rfl, rfl⟩

theorem setBitF {f : Nat → Nat} {n b : Nat} {v : Bool} (h : WithinAll ks fs vs s t) (hf : f ∈ fs) :
    WithinAll ks fs vs s (t.setBit (f n) b v) := h.setF hf

theorem bumpSatF {f : Nat → Nat} {n : Nat} {l : Int} (h : WithinAll ks fs vs s t) (hf : f ∈ fs) :
    WithinAll ks fs vs s (t.bumpSat (f n) l) := h.setF hf

theorem setVar {k : VarKind} {v : Int} {i j : Nat} (h : WithinAll ks fs vs s t) (hk : k ∈ vs) :
    WithinAll ks fs vs s (t.setVar k v i j) :=
  h.trans ⟨fun _ _ _ => rfl, fun _ _ _ hq => t.var_setVar_ne v (fun e => hq (e.1 ▸ hk)), rfl⟩

theorem record {c : Nat} {d : List Byte} (h : WithinAll ks fs vs s t) : WithinAll ks fs vs s (t.record c d) :=
  h.trans ⟨fun _ _ _ => rfl, fun _ _ _ _ => rfl, rfl⟩

theorem post {i : Nat} (h : WithinAll ks fs vs s t) : WithinAll ks fs vs s (t.post i) :=
  h.trans ⟨fun _ _ _ => rfl, fun _ _ _ _ => rfl, rfl⟩

theorem raiseAction {a c : Nat} {d : List Byte} (h : WithinAll ks fs vs s t) : WithinAll ks fs vs s (t.raiseAction a c d) :=
  h.trans ⟨fun _ _ _ => rfl, fun _ _ _ _ => rfl, rfl⟩

theorem raiseActionLater {a c : Nat} {d : List Byte} (h : WithinAll ks fs vs s t) : WithinAll ks fs vs s (t.raiseActionLater a c d) :=
  h.trans ⟨fun _ _ _ => rfl, fun _ _ _ _ => rfl, rfl⟩

theorem setHist {k : VarKind} {l : List Int} {i : Nat} (h : WithinAll ks fs vs s t) : WithinAll ks fs vs s (t.setHist k l i) :=
  h.trans ⟨fun _ _ _ => rfl, fun _ _ _ _ => rfl, rfl⟩

theorem drawFree (h : WithinAll ks fs vs s t) : WithinAll ks fs vs s t.drawFree.2 :=
  h.trans ⟨fun _ _ _ => rfl, fun _ _ _ _ => rfl, rfl⟩

theorem setOB {k : Nat} {b : Bool} (h : WithinAll ks fs vs s t) (hk : k ∈ ks) : WithinAll ks fs vs s (t.setOB k b) := h.setO hk
theorem setBit {k b : Nat} {v : Bool} (h : WithinAll ks fs vs s t) (hk : k ∈ ks) : WithinAll ks fs vs s (t.setBit k b v) := h.setO hk
theorem addO {k : Nat} {d : Int} (h : WithinAll ks fs vs s t) (hk : k ∈ ks) : WithinAll ks fs vs s (t.addO k d) := h.setO hk
theorem bump {k w : Nat} (h : WithinAll ks fs vs s t) (hk : k ∈ ks) : WithinAll ks fs vs s (t.bump k w) := h.setO hk
theorem bumpSat {k : Nat} {l : Int} (h : WithinAll ks fs vs s t) (hk : k ∈ ks) : WithinAll ks fs vs s (t.bumpSat k l) := h.setO hk
theorem addSat {k : Nat} {d l : Int} (h : WithinAll ks fs vs s t) (hk : k ∈ ks) : WithinAll ks fs vs s (t.addSat k d l) := h.setO hk
theorem setFlag {k : VarKind} {b : Bool} {i j : Nat} (h : WithinAll ks fs vs s t) (hk : k ∈ vs) :
    WithinAll ks fs vs s (t.setFlag k b i j) := h.setVar hk
theorem addVar {k : VarKind} {d : Int} {i j : Nat} (h : WithinAll ks fs vs s t) (hk : k ∈ vs) :
    WithinAll ks fs vs s (t.addVar k d i j) := h.setVar hk
theorem startT {k : VarKind} {n i j : Nat} (h : WithinAll ks fs vs s t) (hk : k ∈ vs) :
    WithinAll ks fs vs s (t.startT k n i j) := h.setVar hk
theorem startTR {k : VarKind} {n i j : Nat} (h : WithinAll ks fs vs s t) (hk : k ∈ vs) :
    WithinAll ks fs vs s (t.startTR k n i j) := h.setVar hk
theorem stopT {k : VarKind} {i j : Nat} (h : WithinAll ks fs vs s t) (hk : k ∈ vs) :
    WithinAll ks fs vs s (t.stopT k i j) := h.setVar hk
theorem requestMode {m : Mode} {c : Nat} (h : WithinAll ks fs vs s t) (hk : VarKind.modeReq ∈ vs) :
    WithinAll ks fs vs s (t.requestMode m c) := h.setVar hk

theorem ite {c : Prop} {inst : Decidable c} {a b : State} (ha : WithinAll ks fs vs s a) (hb : WithinAll ks fs vs s b) :
    WithinAll ks fs vs s (if c then a else b) := by split <;> assumption

theorem countCond {k : VarKind} {c : Bool} {i j : Nat} (h : WithinAll ks fs vs s t) (hk : k ∈ vs) :
    WithinAll ks fs vs s (t.countCond k c i j) := ite (h.setVar hk) (h.setVar hk)

theorem raise {a c : Nat} {d : List Byte} (h : WithinAll ks fs vs s t) (hk : Obj.srcCond a ∈ ks) :
    WithinAll ks fs vs s (t.raise a c d) := ite h (h.raiseAction.setBit hk)

theorem raiseLater {a c : Nat} {d : List Byte} (h : WithinAll ks fs vs s t) (hk : Obj.srcCond a ∈ ks) :
    WithinAll ks fs vs s (t.raiseLater a c d) := ite h (h.raiseActionLater.setBit hk)

theorem condOff {a c : Nat} (h : WithinAll ks fs vs s t) (hk : Obj.srcCond a ∈ ks) : WithinAll ks fs vs s (t.condOff a c) :=
  ite (h.setBit hk) h

theorem condOffF {a c : Nat} (h : WithinAll ks fs vs s t) (hf : Obj.srcCond ∈ fs) : WithinAll ks fs vs s (t.condOff a c) :=
  ite (h.setBitF hf) h

theorem raiseF {a c : Nat} {d : List Byte} (h : WithinAll ks fs vs s t) (hf : Obj.srcCond ∈ fs) :
    WithinAll ks fs vs s (t.raise a c d) := ite h (h.raiseAction.setBitF hf)

theorem raiseLaterF {a c : Nat} {d : List Byte} (h : WithinAll ks fs vs s t) (hf : Obj.srcCond ∈ fs) :
    WithinAll ks fs vs s (t.raiseLater a c d) := ite h (h.raiseActionLater.setBitF hf)

theorem recordPer {c k p : Nat} {d : List Byte} (h : WithinAll ks fs vs s t) (hk : VarKind.limitStamp ∈ vs) :
    WithinAll ks fs vs s (t.recordPer c k p d) :=
  ite (h.trans ⟨fun _ _ _ => rfl, fun _ _ _ _ => rfl, rfl⟩) (h.record.setVar hk)

theorem raisePer {a c p : Nat} {d : List Byte} (h : WithinAll ks fs vs s t) (hk : VarKind.limitStampSrc ∈ vs) :
    WithinAll ks fs vs s (t.raisePer a c p d) :=
  ite (h.trans ⟨fun _ _ _ => rfl, fun _ _ _ _ => rfl, rfl⟩) (h.raiseAction.setVar hk)

theorem raisePerLater {a c p : Nat} {d : List Byte} (h : WithinAll ks fs vs s t) (hk : VarKind.limitStampSrc ∈ vs) :
    WithinAll ks fs vs s (t.raisePerLater a c p d) :=
  ite (h.trans ⟨fun _ _ _ => rfl, fun _ _ _ _ => rfl, rfl⟩) (h.raiseActionLater.setVar hk)

theorem forRange {n : Nat} {f : Nat → State → State} (h : WithinAll ks fs vs s t)
    (hf : ∀ i u, WithinAll ks fs vs s u → WithinAll ks fs vs s (f i u)) : WithinAll ks fs vs s (t.forRange n f) := by
  induction n with
  | zero => exact h
  | succ n ih => exact hf n _ ih

theorem forEach {α : Type} {l : List α} {f : α → State → State} (h : WithinAll ks fs vs s t)
    (hf : ∀ a u, WithinAll ks fs vs s u → WithinAll ks fs vs s (f a u)) : WithinAll ks fs vs s (t.forEach l f) := by
  unfold State.forEach
  induction l generalizing t with
  | nil => exact h
  | cons a l ih => exact ih (hf a t h)

end WithinAll

namespace RegsWithin
variable {ks : List Nat} {fs : List (Nat → Nat)} {vs : List VarKind} {s t u : State}

theorem refl : RegsWithin ks fs vs s s := ⟨fun _ _ _ => rfl, fun _ _ _ _ => rfl⟩

theorem trans (h : RegsWithin ks fs vs s t) (g : RegsWithin ks fs vs t u) : RegsWithin ks fs vs s u :=
  ⟨fun k hk hf => (g.objs k hk hf).trans (h.objs k hk hf), fun v i j hv => (g.vars v i j hv).trans (h.vars v i j hv)⟩

theorem mono {ks' : List Nat} {fs' : List (Nat → Nat)} {vs' : List VarKind} (h : RegsWithin ks fs vs s t) (hk : ks ⊆ ks')
    (hf : fs ⊆ fs') (hv : vs ⊆ vs') :
    RegsWithin ks' fs' vs' s t :=
  ⟨fun k m n => h.objs k (fun x => m (hk x)) (fun f x => n f (hf x)), fun v i j m => h.vars v i j fun x => m (hv x)⟩

theorem setO {k : Nat} {v : Int} (h : RegsWithin ks fs vs s t) (hk : k ∈ ks) : RegsWithin ks fs vs s (t.setO k v) :=
  h.trans ⟨fun _ hq _ => t.o_setO_ne v (fun e => hq (e ▸ hk)), fun _ _ _ _ => rfl⟩

/-- A write of an object of a family. -/
theorem setF {f : Nat → Nat} {n : Nat} {v : Int} (h : RegsWithin ks fs vs s t) (hf : f ∈ fs) : RegsWithin ks fs vs s (t.setO (f n) v) :=
  h.trans ⟨fun _ _ hq => t.o_setO_ne v (hq f hf n), fun _ _ _ _ => rfl⟩

theorem setBitF {f : Nat → Nat} {n b : Nat} {v : Bool} (h : RegsWithin ks fs vs s t) (hf : f ∈ fs) :
    RegsWithin ks fs vs s (t.setBit (f n) b v) := h.setF hf

theorem bumpSatF {f : Nat → Nat} {n : Nat} {l : Int} (h : RegsWithin ks fs vs s t) (hf : f ∈ fs) :
    RegsWithin ks fs vs s (t.bumpSat (f n) l) := h.setF hf

theorem setVar {k : VarKind} {v : Int} {i j : Nat} (h : RegsWithin ks fs vs s t) (hk : k ∈ vs) :
    RegsWithin ks fs vs s (t.setVar k v i j) :=
  h.trans ⟨fun _ _ _ => rfl, fun _ _ _ hq => t.var_setVar_ne v (fun e => hq (e.1 ▸ hk))⟩

theorem record {c : Nat} {d : List Byte} (h : RegsWithin ks fs vs s t) : RegsWithin ks fs vs s (t.record c d) :=
  h.trans ⟨fun _ _ _ => rfl, fun _ _ _ _ => rfl⟩

theorem post {i : Nat} (h : RegsWithin ks fs vs s t) : RegsWithin ks fs vs s (t.post i) :=
  h.trans ⟨fun _ _ _ => rfl, fun _ _ _ _ => rfl⟩

theorem raiseAction {a c : Nat} {d : List Byte} (h : RegsWithin ks fs vs s t) : RegsWithin ks fs vs s (t.raiseAction a c d) :=
  h.trans ⟨fun _ _ _ => rfl, fun _ _ _ _ => rfl⟩

theorem raiseActionLater {a c : Nat} {d : List Byte} (h : RegsWithin ks fs vs s t) : RegsWithin ks fs vs s (t.raiseActionLater a c d) :=
  h.trans ⟨fun _ _ _ => rfl, fun _ _ _ _ => rfl⟩

theorem setHist {k : VarKind} {l : List Int} {i : Nat} (h : RegsWithin ks fs vs s t) : RegsWithin ks fs vs s (t.setHist k l i) :=
  h.trans ⟨fun _ _ _ => rfl, fun _ _ _ _ => rfl⟩

theorem drawFree (h : RegsWithin ks fs vs s t) : RegsWithin ks fs vs s t.drawFree.2 :=
  h.trans ⟨fun _ _ _ => rfl, fun _ _ _ _ => rfl⟩

theorem setOB {k : Nat} {b : Bool} (h : RegsWithin ks fs vs s t) (hk : k ∈ ks) : RegsWithin ks fs vs s (t.setOB k b) := h.setO hk
theorem setBit {k b : Nat} {v : Bool} (h : RegsWithin ks fs vs s t) (hk : k ∈ ks) : RegsWithin ks fs vs s (t.setBit k b v) := h.setO hk
theorem addO {k : Nat} {d : Int} (h : RegsWithin ks fs vs s t) (hk : k ∈ ks) : RegsWithin ks fs vs s (t.addO k d) := h.setO hk
theorem bump {k w : Nat} (h : RegsWithin ks fs vs s t) (hk : k ∈ ks) : RegsWithin ks fs vs s (t.bump k w) := h.setO hk
theorem bumpSat {k : Nat} {l : Int} (h : RegsWithin ks fs vs s t) (hk : k ∈ ks) : RegsWithin ks fs vs s (t.bumpSat k l) := h.setO hk
theorem addSat {k : Nat} {d l : Int} (h : RegsWithin ks fs vs s t) (hk : k ∈ ks) : RegsWithin ks fs vs s (t.addSat k d l) := h.setO hk
theorem setFlag {k : VarKind} {b : Bool} {i j : Nat} (h : RegsWithin ks fs vs s t) (hk : k ∈ vs) :
    RegsWithin ks fs vs s (t.setFlag k b i j) := h.setVar hk
theorem addVar {k : VarKind} {d : Int} {i j : Nat} (h : RegsWithin ks fs vs s t) (hk : k ∈ vs) :
    RegsWithin ks fs vs s (t.addVar k d i j) := h.setVar hk
theorem startT {k : VarKind} {n i j : Nat} (h : RegsWithin ks fs vs s t) (hk : k ∈ vs) :
    RegsWithin ks fs vs s (t.startT k n i j) := h.setVar hk
theorem startTR {k : VarKind} {n i j : Nat} (h : RegsWithin ks fs vs s t) (hk : k ∈ vs) :
    RegsWithin ks fs vs s (t.startTR k n i j) := h.setVar hk
theorem stopT {k : VarKind} {i j : Nat} (h : RegsWithin ks fs vs s t) (hk : k ∈ vs) :
    RegsWithin ks fs vs s (t.stopT k i j) := h.setVar hk
theorem requestMode {m : Mode} {c : Nat} (h : RegsWithin ks fs vs s t) (hk : VarKind.modeReq ∈ vs) :
    RegsWithin ks fs vs s (t.requestMode m c) := h.setVar hk

theorem ite {c : Prop} {inst : Decidable c} {a b : State} (ha : RegsWithin ks fs vs s a) (hb : RegsWithin ks fs vs s b) :
    RegsWithin ks fs vs s (if c then a else b) := by split <;> assumption

theorem countCond {k : VarKind} {c : Bool} {i j : Nat} (h : RegsWithin ks fs vs s t) (hk : k ∈ vs) :
    RegsWithin ks fs vs s (t.countCond k c i j) := ite (h.setVar hk) (h.setVar hk)

theorem raise {a c : Nat} {d : List Byte} (h : RegsWithin ks fs vs s t) (hk : Obj.srcCond a ∈ ks) :
    RegsWithin ks fs vs s (t.raise a c d) := ite h (h.raiseAction.setBit hk)

theorem raiseLater {a c : Nat} {d : List Byte} (h : RegsWithin ks fs vs s t) (hk : Obj.srcCond a ∈ ks) :
    RegsWithin ks fs vs s (t.raiseLater a c d) := ite h (h.raiseActionLater.setBit hk)

theorem condOff {a c : Nat} (h : RegsWithin ks fs vs s t) (hk : Obj.srcCond a ∈ ks) : RegsWithin ks fs vs s (t.condOff a c) :=
  ite (h.setBit hk) h

theorem condOffF {a c : Nat} (h : RegsWithin ks fs vs s t) (hf : Obj.srcCond ∈ fs) : RegsWithin ks fs vs s (t.condOff a c) :=
  ite (h.setBitF hf) h

theorem raiseF {a c : Nat} {d : List Byte} (h : RegsWithin ks fs vs s t) (hf : Obj.srcCond ∈ fs) :
    RegsWithin ks fs vs s (t.raise a c d) := ite h (h.raiseAction.setBitF hf)

theorem raiseLaterF {a c : Nat} {d : List Byte} (h : RegsWithin ks fs vs s t) (hf : Obj.srcCond ∈ fs) :
    RegsWithin ks fs vs s (t.raiseLater a c d) := ite h (h.raiseActionLater.setBitF hf)

theorem recordPer {c k p : Nat} {d : List Byte} (h : RegsWithin ks fs vs s t) (hk : VarKind.limitStamp ∈ vs) :
    RegsWithin ks fs vs s (t.recordPer c k p d) :=
  ite (h.trans ⟨fun _ _ _ => rfl, fun _ _ _ _ => rfl⟩) (h.record.setVar hk)

theorem raisePer {a c p : Nat} {d : List Byte} (h : RegsWithin ks fs vs s t) (hk : VarKind.limitStampSrc ∈ vs) :
    RegsWithin ks fs vs s (t.raisePer a c p d) :=
  ite (h.trans ⟨fun _ _ _ => rfl, fun _ _ _ _ => rfl⟩) (h.raiseAction.setVar hk)

theorem raisePerLater {a c p : Nat} {d : List Byte} (h : RegsWithin ks fs vs s t) (hk : VarKind.limitStampSrc ∈ vs) :
    RegsWithin ks fs vs s (t.raisePerLater a c p d) :=
  ite (h.trans ⟨fun _ _ _ => rfl, fun _ _ _ _ => rfl⟩) (h.raiseActionLater.setVar hk)

theorem forRange {n : Nat} {f : Nat → State → State} (h : RegsWithin ks fs vs s t)
    (hf : ∀ i u, RegsWithin ks fs vs s u → RegsWithin ks fs vs s (f i u)) : RegsWithin ks fs vs s (t.forRange n f) := by
  induction n with
  | zero => exact h
  | succ n ih => exact hf n _ ih

theorem forEach {α : Type} {l : List α} {f : α → State → State} (h : RegsWithin ks fs vs s t)
    (hf : ∀ a u, RegsWithin ks fs vs s u → RegsWithin ks fs vs s (f a u)) : RegsWithin ks fs vs s (t.forEach l f) := by
  unfold State.forEach
  induction l generalizing t with
  | nil => exact h
  | cons a l ih => exact ih (hf a t h)

/-- Work within a frame is work within its registers. -/
theorem ofAll (h : WithinAll ks fs vs s t) : RegsWithin ks fs vs s t := ⟨h.objs, h.vars⟩

end RegsWithin

namespace State
variable (s : State)

/-- The event that a class whose condition has just qualified enters (R223). -/
theorem raise_intake {a c : Nat} {d : List Byte} (h : s.condOn a c = false) :
    (s.raise a c d).intake = s.intake ++ [{ src := a, cls := c, data := d }] := by simp [raise, h, setBit]

/-- A class whose condition stays raises no further event (R223). -/
theorem raise_same {a c : Nat} {d : List Byte} (h : s.condOn a c = true) : s.raise a c d = s := by simp [raise, h]

/-- After raising a class, its condition reads as present. -/
theorem raise_condOn (a c : Nat) (d : List Byte) : (s.raise a c d).condOn a c = true := by
  unfold raise
  split
  · assumption
  · simp [condOn, bit_setBit]

/-- A class that qualifies between ticks: its event waits for the next tick (R39, R223). -/
theorem raiseLater_arrived {a c : Nat} {d : List Byte} (h : s.condOn a c = false) :
    (s.raiseLater a c d).arrived = s.arrived ++ [{ src := a, cls := c, data := d }] := by simp [raiseLater, h, setBit]

theorem raiseLater_same {a c : Nat} {d : List Byte} (h : s.condOn a c = true) : s.raiseLater a c d = s := by simp [raiseLater, h]

theorem raiseLater_condOn (a c : Nat) (d : List Byte) : (s.raiseLater a c d).condOn a c = true := by
  unfold raiseLater
  split
  · assumption
  · simp [condOn, bit_setBit]

/-- A condition sampled false reads as absent. -/
theorem condOff_condOn (a c : Nat) : (s.condOff a c).condOn a c = false := by
  by_cases h : s.condOn a c = true
  · rw [condOff, if_pos h]; simp [condOn, bit_setBit]
  · rw [condOff, if_neg h]; simpa using h

end State

/-- Before the end of slot 30 the frame's decisions are still to come. -/
theorem slotsBy_before {at_ : Nat} (s : State) (h : at_ < slot30End) : slotsBy at_ s = s := by
  unfold slotsBy
  rw [if_neg]
  simp [Nat.not_le.mpr h]

/-- Decisions once taken stand: no instant of the frame takes them again. -/
theorem slotsBy_done {at_ : Nat} (s : State) (h : s.varB .slotsDone = true) : slotsBy at_ s = s := by simp [slotsBy, h]

/-- A transaction that is received and served takes one dictionary slot of the frame. -/
theorem inSlot_slots (q : Req) (s : State) : (inSlot q s).var .dSlots =
    (backToQueue q.port (hold q {} (takeIn q.port s))).var .dSlots + 1 := by
  simp [inSlot, State.addVar, State.var_setVar_ne]

/-! ## What arises between ticks (R39, R244) -/

/-- Nothing that arises between ticks is evaluated before the next tick samples it. -/
@[simp] theorem lateEvents_intake (f : State → State) (s : State) : (lateEvents f s).intake = s.intake := rfl
@[simp] theorem lateEvents_arrived (f : State → State) (s : State) :
    (lateEvents f s).arrived = (f s).arrived ++ (f s).intake.drop s.intake.length := rfl
@[simp] theorem lateEvents_objs (f : State → State) (s : State) : (lateEvents f s).objs = (f s).objs := rfl
@[simp] theorem lateEvents_vars (f : State → State) (s : State) : (lateEvents f s).vars = (f s).vars := rfl
@[simp] theorem lateEvents_offers (f : State → State) (s : State) : (lateEvents f s).offers = (f s).offers := rfl

end Sys2Proof.Machine
end

