-- ==== Sys2Proof/WellFormed.lean ====
section
/-!
DEFINITION. Which terms of `Instr` name a command or event that can come: every number in the range its operand has.
The meanings never rely on it: each answers on every term.
-/

namespace Sys2Proof

/-- The fields of a 29-bit identifier (R560). -/
def CanId.wf (i : CanId) : Bool :=
  decide (i.marker < 512 ∧ i.kind < 16 ∧ i.src < 256) && i.dst.all fun d => decide (d < 256)

/-- A request carries one of the five ports, fields of the widths of R547, and as many bytes as its length says where it carries
data; a tag is empty or of 8 bytes. -/
def Req.wf (q : Req) : Bool :=
  q.id.wf && decide (q.port < 5 ∧ q.opcode < 256 ∧ q.tid < 256 ∧ q.index < 65536 ∧ q.sub < 256 ∧ q.slot < 256 ∧ q.len < 65536) &&
  decide (q.counter < 2 ^ 32 ∧ q.offset < 2 ^ 32 ∧ q.data.length ≤ 512) && decide (q.tag.length = 0 ∨ q.tag.length = 8)

/-- A plain WRITE carries at most 8 bytes (R549). -/
def Plain.wf (c : Plain) : Bool := decide (c.port < 5 ∧ c.tid < 256 ∧ c.src < 256 ∧ c.data.length ≤ 8)

/-- A WRITEK carries at most 8 bytes and a tag of 8. -/
def Keyed.wf (c : Keyed) : Bool :=
  decide (c.port < 5 ∧ c.tid < 256 ∧ c.src < 256 ∧ c.slot < 256 ∧ c.counter < 2 ^ 32 ∧ c.tag.length = 8 ∧ c.data.length ≤ 8)

/-- A watchdog cause names slot classes 0 to 11, a job kind, or a BOOT step 1 to 6 (R38, R46, R59). -/
def TerrierCause.wf : TerrierCause → Bool
  | .classMissed missing => decide (0 < missing ∧ missing < 4096)
  | .jobStalled j => decide (j < 6)
  | .jobOverrun j => decide (j < 6)
  | .tickLost => true
  | .bootOverrun step => decide (1 ≤ step ∧ step ≤ 6)

/-- A mirror frame has 8 blocks of 38 bytes (R263). -/
def MirrorRx.wf (rx : MirrorRx) : Bool := decide (rx.blocks.length = 8) && rx.blocks.all fun b => decide (b.length = 38)

/-- What a power-on finds: 16-bit voltages, 5 NODE_ID pins, a verdict of the TRNG tests, OTP words 0 to 255. -/
def BootIn.wf (b : BootIn) : Bool :=
  decide (b.vpp < 65536 ∧ b.packP < 65536 ∧ b.nodePins < 32 ∧ b.trng < 3) &&
  (b.otpSingle ++ b.otpDouble).all fun w => decide (w < 256)

/-- A sample names a line below 256. -/
def Sample.wf (x : Sample) : Bool := decide (x.line < 256)

namespace Instr

/-- The operands of a command are in range. -/
def wf : Instr → Bool
  | .frameTick samples => samples.all Sample.wf
  | .roundBoundary => true
  | .jobComplete kind _ => decide (kind < 6)
  | .mgtPowerOnReset b => b.wf
  | .bootComplete => true
  | .sysModeReq c => c.wf
  | .sysSafeRelease c => c.wf
  | .sysReboot c => c.wf
  | .sysShip c => c.wf
  | .mainSupplyLoss _ => true
  | .mainValid => true
  | .mgtLoss _ _ => true
  | .terrierExpiry cause slot row => cause.wf && decide (slot < 256) && decide (row < 65536)
  | .syncInLost _ => true
  | .syncInOutOfRange _ => true
  | .holdoverExpiry => true
  | .slewToCrystalComplete => true
  | .syncInReturned _ => true
  | .syncInSlewComplete => true
  | .phaseLockRegained => true
  | .crystalFailed => true
  | .crystalRestored => true
  | .pllLossOfLock => true
  | .mirrorFrameCheck rx => rx.wf
  | .phaseTurnOn n at_ _ _ => decide (n < 48) && decide (at_ < 12800)
  | .blankingEnd n at_ => decide (n < 48) && decide (at_ < 12800)
  | .peakComparatorTrip n at_ _ => decide (n < 48) && decide (at_ < 12800)
  | .minOnTimeEnd n at_ => decide (n < 48) && decide (at_ < 12800)
  | .forcedTurnOff n at_ => decide (n < 48) && decide (at_ < 12800)
  | .positiveCurrentLimit n at_ _ => decide (n < 48) && decide (at_ < 12800)
  | .negativeCurrentLimit n at_ _ => decide (n < 48) && decide (at_ < 12800)
  | .zeroCrossing n at_ _ => decide (n < 48) && decide (at_ < 12800)
  | .overshootTrip m at_ _ => decide (m < 12) && decide (at_ < 12800)
  | .overshootClear m _ => decide (m < 12)
  | .undershootFiring m at_ _ => decide (m < 12) && decide (at_ < 12800)
  | .ovFastPathTrip r at_ _ => decide (r < 20) && decide (at_ < 12800)
  | .ovFastPathRelease r _ _ => decide (r < 20)
  | .onDelayExpiry r => decide (r < 52)
  | .startCommand r => decide (r < 52)
  | .prebiasWaitEnd r => decide (r < 20)
  | .shtWindowEnd r => decide (r < 20)
  | .loopUpdate m at_ _ _ _ => decide (m < 12) && decide (at_ < 12800)
  | .railOffCommand r => decide (r < 52)
  | .shedMoveDown m => decide (m < 12)
  | .shedHoldoffExpiry m => decide (m < 12)
  | .windowQualified r w => decide (r < 52) && decide (w < 4)
  | .railCurrentLimitSustained m => decide (m < 12)
  | .senseFault m => decide (m < 12)
  | .vinFfOutOfRange m => decide (m < 12)
  | .hiccupWaitExpiry r => decide (r < 52)
  | .buckInputUndervoltage b _ => decide (b < 8)
  | .buckInputRestored b _ => decide (b < 8)
  | .buckCurrentLimit b at_ _ => decide (b < 8) && decide (at_ < 12800)
  | .openPhase n => decide (n < 48)
  | .senseFailure n crit _ => decide (n < 48) && decide (crit < 3)
  | .stageFaultUnattributed m => decide (m < 12)
  | .spareRangeFailure n _ => decide (n < 48)
  | .poolRestore m c => decide (m < 12) && c.wf
  | .wearCommit n => decide (n < 48)
  | .wearRingPush n => decide (n < 48)
  | .wearReset n c => decide (n < 48) && c.wf
  | .yardAdvance => true
  | .yardReadinessTimeout => true
  | .railQualified r => decide (r < 52)
  | .riseTimerExpiry r => decide (r < 52)
  | .offDelayExpiry r => decide (r < 52)
  | .railDischarged r => decide (r < 52)
  | .dischargeWaitExpiry r => decide (r < 52)
  | .dependantRestart r => decide (r < 52)
  | .seqCmdOn c => c.wf
  | .seqCmdOff c => c.wf
  | .yardAdvancePulse _ => true
  | .yardReversePulse _ => true
  | .yardHold _ => true
  | .yardGlitch _ => true
  | .yardAbort _ => true
  | .abortComplete => true
  | .backupLeaderAdvance _ => true
  | .pgScLost ch => decide (ch < 32)
  | .paddockOffCmd p c => decide (p < 16) && c.wf
  | .paddockReleaseCmd p c => decide (p < 16) && c.wf
  | .lostRecordOffer => true
  | .countWindowClose src => decide (src < 256)
  | .quietPeriodExpiry src => decide (src < 256)
  | .acknowledge src c => decide (src < 256) && c.wf
  | .ackAll c => c.wf
  | .reactionWrite src _ c => decide (src < 256) && c.wf
  | .harnessUp => true
  | .deltaResend => true
  | .ledgerTransactionApply => true
  | .driveViolation _ _ _ => true
  | .takeover _ _ => true
  | .reinLoadCheck _ => true
  | .reinInAsserted => true
  | .yieldNotTaken => true
  | .teamSwap c => c.wf
  | .swapDrained => true
  | .swapTimeout => true
  | .teamRelease c => c.wf
  | .teamAdmit c => c.wf
  | .admissionRequest => true
  | .admissionTimeout => true
  | .admissionComplete => true
  | .readmitWaitExpiry => true
  | .joinWaitExpiry => true
  | .twinLostSolo => true
  | .cfgMismatch => true
  | .cardRemoval => true
  | .cardMated => true
  | .hsDebounceMet => true
  | .inrushStart => true
  | .hsPowerGood => true
  | .currentLimiting _ => true
  | .fastTrip _ => true
  | .soaTrip => true
  | .breakerTrip => true
  | .inrushTimeout => true
  | .hsCooldownExpiry => true
  | .hsRetriesReset => true
  | .hsCmdOn c => c.wf
  | .hsCmdOff c => c.wf
  | .backplaneOv => true
  | .backplaneUv => true
  | .backplaneWarn => true
  | .inputFaultEnd => true
  | .shortedMosfet => true
  | .shuntSenseFault => true
  | .vinMgtWarning => true
  | .vinMgtWarningEnd => true
  | .mainInputLost _ => true
  | .mainInputValid => true
  | .packPresent => true
  | .packRemoved => true
  | .packUnusable => true
  | .sourceHandover _ _ => true
  | .sourceHandback _ _ => true
  | .chargeStart => true
  | .prechargeDone => true
  | .prechargeTimeout => true
  | .cvEntry => true
  | .topoffEntry => true
  | .topoffExpiry => true
  | .chargeSuspend => true
  | .packOvervoltage => true
  | .safetyTimerExpiry => true
  | .inputLimitSearchStep => true
  | .inputLimitSag => true
  | .pwrCmdResume c => c.wf
  | .pwrCmdSuspend c => c.wf
  | .holdupEntry => true
  | .lastGaspTimerExpiry => true
  | .lgDone c => c.wf
  | .packCutoff _ _ => true
  | .dischargeOvercurrent => true
  | .packGateOffOvercurrent => true
  | .holdupShutdownComplete => true
  | .mainReturnQualified _ _ => true
  | .backupEntry => true
  | .bkpPowerLoss _ => true
  | .shelfEntry => true
  | .shelfLatchSet => true
  | .shelfAbandon => true
  | .shelfWake _ _ _ => true
  | .counterFault => true
  | .readinessLow => true
  | .restPoint => true
  | .exerciseDue => true
  | .estCmdRequest c => c.wf
  | .exerciseStart _ _ => true
  | .exerciseTargetReached _ _ => true
  | .exerciseTimeout _ _ => true
  | .exerciseRestTimeout => true
  | .exerciseRefusedExpiry => true
  | .exerciseAbort _ _ => true
  | .estCmdAbort c => c.wf
  | .estWriteback => true
  | .estWritebackSecond => true
  | .calibrationFailure => true
  | .sensorRestored => true
  | .scaleMaskWrite c => c.wf
  | .ccAttach => true
  | .detach => true
  | .deadBatteryAttach _ pin term => decide (pin < 3) && decide (term < 4)
  | .sourceCapabilities pdos => decide (pdos.length ≤ 7)
  | .psRdy => true
  | .transitionEnd => true
  | .eprModeRequest => true
  | .vbusSourceOn => true
  | .hardReset _ => true
  | .vbusProtectionTrip _ _ => true
  | .errorRecoveryExpiry _ => true
  | .cablePulled _ _ => true
  | .prSwapReceived => true
  | .drSwapReceived => true
  | .drSwapPreference _ => true
  | .withdrawnResend _ => true
  | .portCmdPrSwap c _ => c.wf
  | .portCmdDrSwap c _ => c.wf
  | .portCmdClearLatch c => c.wf
  | .portCmdExitBench c => c.wf
  | .benchEnWrite c => c.wf
  | .discoverIdentity => true
  | .discoverSvids => true
  | .discoverModes svid => decide (svid < 65536)
  | .enterMode svid _ => decide (svid < 65536)
  | .exitMode svid _ => decide (svid < 65536)
  | .rtcSetHalt _ c => c.wf
  | .rtcSetShift _ c => c.wf
  | .rtcShiftWrite c => c.wf
  | .rtcShiftComplete => true
  | .rtcCalWrite c => c.wf
  | .rtcRangeEnd => true
  | .oscillatorFailure => true
  | .fsoClear c => c.wf
  | .commitAgeExpiry => true
  | .nvmCmdCommit c => c.wf
  | .commitStart => true
  | .commitStep => true
  | .commitComplete => true
  | .writerWaitTimeout => true
  | .cresFirstCharge => true
  | .cresLow => true
  | .cresFault => true
  | .scrubStep => true
  | .otpProgCmd c => c.wf
  | .otpProgramDone _ => true
  | .otpProgramStopped => true
  | .recordAssembly => true
  | .exportStart c => c.wf
  | .exportReady => true
  | .exportEnd c => c.wf
  | .exportTimeout => true
  | .bbCmdCapture c => c.wf
  | .bbCmdRelease c => c.wf
  | .blackBoxComplete => true
  | .collieTick => true
  | .collieExpiry => true
  | .collieServe c => c.wf
  | .collieCheckin c => c.wf
  | .hostbusySet c => c.wf
  | .hostbusyClear c => c.wf
  | .suspensionExpiry => true
  | .collieEn c => c.wf
  | .claimRead _ port tid => decide (port < 5) && decide (tid < 256)
  | .holdoffExpiry g => decide (g < 16)
  | .irqClear c => c.wf
  | .identityProgram _ trng => decide (trng < 3)
  | .publicKeyReady => true
  | .slotUnwrap => true
  | .presenceWindowExpiry => true
  | .claim q => q.wf
  | .reclaim q _ => q.wf
  | .enrolSlot q => q.wf
  | .transfer q _ => q.wf
  | .claimComplete => true
  | .hwmCommitDone slot _ => decide (slot < 4)
  | .hwmCommitTimeout slot => decide (slot < 4)
  | .keyRevoke c => c.wf
  | .keyRelease c _ => c.wf
  | .snapStart c => c.wf
  | .snapReady => true
  | .snapEnd c => c.wf
  | .imgOpen c => c.wf
  | .imgStageWrite q => q.wf
  | .imgValidate c => c.wf
  | .imgValidationDone => true
  | .imgCancel c => c.wf
  | .imgActivate c => c.wf
  | .activation => true
  | .closeWrite _ => true
  | .ledgerWriteback => true
  | .budgetAllocWrite r c => decide (r < 52) && c.wf
  | .budgetGrantWrite c => c.wf
  | .grantReductionDone => true
  | .read q => q.wf
  | .write q => q.wf
  | .writek q _ => q.wf
  | .blockread q => q.wf
  | .blockwrite q => q.wf
  | .segmentServe p => decide (p < 5)
  | .echo q => q.wf
  | .framingFailure p _ => decide (p < 5)
  | .portBusy q => q.wf
  | .retryReplay q => q.wf
  | .spiFetch p => decide (p < 2)
  | .canFrameIgnored p => decide (p < 2)
  | .notifySend p => decide (p < 2)
  | .busOff p tec => decide (p < 2) && decide (tec < 512)
  | .busRecovery p => decide (p < 2)
  | .errorPassiveChange p tec rec => decide (p < 2) && decide (tec < 256) && decide (rec < 256)
  | .lbStart _ c => c.wf
  | .lbIteration _ => true
  | .lbRunEnd => true
  | .lbStop _ c => c.wf
  | .lbAbort => true
  | .harnessReflection _ => true
  | .bscanEn c => c.wf
  | .extestLoad _ => true
  | .undershootClear m _ => decide (m < 12)
  | .symbolLockGained lane _ => decide (lane < 2)
  | .symbolLockLost lane => decide (lane < 2)
  | .ccStateChange pin term => decide (pin < 3) && decide (term < 5)
  | .vbusDischargeDone => true
  | .buckTurnOn b at_ _ => decide (b < 8) && decide (at_ < 12800)

end Instr

end Sys2Proof
end

