-- ==== Sys2Proof/Tests/Slice0.lean ====
section
/-!
SUPPORT. The model's own tests: ill-formed terms that the check refuses, worked examples of the spec, and for every statement a
state and operands that meet its hypotheses, clause by clause.
-/

-- one test after the other: many at once ask for a thread each
set_option Elab.async false
set_option linter.unusedVariables false

namespace Sys2Proof.Machine

/-! ## Ill-formed terms are refused -/

/-- One operand at the first value outside its range. -/
theorem test_ill_formed_operands_a : ([.frameTick [⟨.vinMgt, 256, 0⟩], .jobComplete 6 false,
    .mgtPowerOnReset ⟨65536, 0, 0, 0, false, 0, [], [], false⟩, .sysModeReq ⟨5, 0, [], 0⟩, .sysSafeRelease ⟨0, 0, 0, 1, [], [], 0⟩,
    .sysReboot ⟨0, 0, 0, 1, [], [], 0⟩, .sysShip ⟨0, 0, 0, 1, [], [], 0⟩, .terrierExpiry (.jobStalled 6) 0 0,
    .terrierExpiry .tickLost 256 0, .terrierExpiry .tickLost 0 65536, .mirrorFrameCheck ⟨true, true, true, [[]], false⟩,
    .phaseTurnOn 48 0 0 0, .phaseTurnOn 0 12800 0 0, .blankingEnd 48 0, .blankingEnd 0 12800, .peakComparatorTrip 48 0 0,
    .peakComparatorTrip 0 12800 0, .minOnTimeEnd 48 0, .minOnTimeEnd 0 12800, .forcedTurnOff 48 0, .forcedTurnOff 0 12800,
    .positiveCurrentLimit 48 0 0, .positiveCurrentLimit 0 12800 0, .negativeCurrentLimit 48 0 0, .negativeCurrentLimit 0 12800 0,
    .zeroCrossing 48 0 0, .zeroCrossing 0 12800 0, .overshootTrip 12 0 0, .overshootTrip 0 12800 0,
    .overshootClear 12 0] : List Instr).all (fun c => !c.wf) = true := by decide +kernel

/-- One operand at the first value outside its range. -/
theorem test_ill_formed_operands_b : ([.undershootFiring 12 0 ⟨0, []⟩, .undershootFiring 0 12800 ⟨0, []⟩, .ovFastPathTrip 20 0 ⟨0, 0, 0⟩,
    .ovFastPathTrip 0 12800 ⟨0, 0, 0⟩, .ovFastPathRelease 20 0 0, .onDelayExpiry 52, .startCommand 52, .prebiasWaitEnd 20,
    .shtWindowEnd 20, .loopUpdate 12 0 0 0 [], .loopUpdate 0 12800 0 0 [], .railOffCommand 52, .shedMoveDown 12,
    .shedHoldoffExpiry 12, .windowQualified 52 0, .windowQualified 0 4, .railCurrentLimitSustained 12, .senseFault 12,
    .vinFfOutOfRange 12, .hiccupWaitExpiry 52, .buckInputUndervoltage 8 0, .buckInputRestored 8 0, .buckCurrentLimit 8 0 ⟨0, 0⟩,
    .buckCurrentLimit 0 12800 ⟨0, 0⟩, .openPhase 48, .senseFailure 48 0 [], .senseFailure 0 3 [], .stageFaultUnattributed 12,
    .spareRangeFailure 48 [],
    .poolRestore 12 ⟨0, 0, 0, 1, List.replicate 8 0, [], 0⟩] : List Instr).all (fun c => !c.wf) = true := by decide +kernel

/-- One operand at the first value outside its range. -/
theorem test_ill_formed_operands_c : ([.poolRestore 0 ⟨0, 0, 0, 1, [], [], 0⟩, .wearCommit 48, .wearRingPush 48,
    .wearReset 48 ⟨0, 0, 0, 1, List.replicate 8 0, [], 0⟩, .wearReset 0 ⟨0, 0, 0, 1, [], [], 0⟩, .railQualified 52,
    .riseTimerExpiry 52, .offDelayExpiry 52, .railDischarged 52, .dischargeWaitExpiry 52, .dependantRestart 52,
    .seqCmdOn ⟨5, 0, [], 0⟩, .seqCmdOff ⟨5, 0, [], 0⟩, .pgScLost 32, .paddockOffCmd 16 ⟨0, 0, 0, 1, List.replicate 8 0, [], 0⟩,
    .paddockOffCmd 0 ⟨0, 0, 0, 1, [], [], 0⟩, .paddockReleaseCmd 16 ⟨0, 0, 0, 1, List.replicate 8 0, [], 0⟩,
    .paddockReleaseCmd 0 ⟨0, 0, 0, 1, [], [], 0⟩, .countWindowClose 256, .quietPeriodExpiry 256, .acknowledge 256 ⟨0, 0, [], 0⟩,
    .acknowledge 0 ⟨5, 0, [], 0⟩, .ackAll ⟨5, 0, [], 0⟩, .reactionWrite 256 0 ⟨0, 0, 0, 1, List.replicate 8 0, [], 0⟩,
    .reactionWrite 0 0 ⟨0, 0, 0, 1, [], [], 0⟩, .teamSwap ⟨0, 0, 0, 1, [], [], 0⟩, .teamRelease ⟨0, 0, 0, 1, [], [], 0⟩,
    .teamAdmit ⟨0, 0, 0, 1, [], [], 0⟩, .hsCmdOn ⟨0, 0, 0, 1, [], [], 0⟩,
    .hsCmdOff ⟨0, 0, 0, 1, [], [], 0⟩] : List Instr).all (fun c => !c.wf) = true := by decide +kernel

/-- One operand at the first value outside its range. -/
theorem test_ill_formed_operands_d : ([.pwrCmdResume ⟨5, 0, [], 0⟩, .pwrCmdSuspend ⟨5, 0, [], 0⟩, .lgDone ⟨5, 0, [], 0⟩,
    .estCmdRequest ⟨5, 0, [], 0⟩, .estCmdAbort ⟨5, 0, [], 0⟩, .scaleMaskWrite ⟨0, 0, 0, 1, [], [], 0⟩, .deadBatteryAttach 0 3 0,
    .deadBatteryAttach 0 0 4, .portCmdPrSwap ⟨5, 0, [], 0⟩ .accept, .portCmdDrSwap ⟨5, 0, [], 0⟩ .accept,
    .portCmdClearLatch ⟨5, 0, [], 0⟩, .portCmdExitBench ⟨5, 0, [], 0⟩, .benchEnWrite ⟨0, 0, 0, 1, [], [], 0⟩, .discoverModes 65536,
    .enterMode 65536 0, .exitMode 65536 0, .rtcSetHalt false ⟨5, 0, [], 0⟩, .rtcSetShift false ⟨5, 0, [], 0⟩,
    .rtcShiftWrite ⟨5, 0, [], 0⟩, .rtcCalWrite ⟨5, 0, [], 0⟩, .fsoClear ⟨0, 0, 0, 1, [], [], 0⟩, .nvmCmdCommit ⟨5, 0, [], 0⟩,
    .otpProgCmd ⟨0, 0, 0, 1, [], [], 0⟩, .exportStart ⟨5, 0, [], 0⟩, .exportEnd ⟨5, 0, [], 0⟩, .bbCmdCapture ⟨5, 0, [], 0⟩,
    .bbCmdRelease ⟨5, 0, [], 0⟩, .collieServe ⟨5, 0, [], 0⟩, .collieCheckin ⟨5, 0, [], 0⟩,
    .hostbusySet ⟨5, 0, [], 0⟩] : List Instr).all (fun c => !c.wf) = true := by decide +kernel

/-- One operand at the first value outside its range. -/
theorem test_ill_formed_operands_e : ([.hostbusyClear ⟨5, 0, [], 0⟩, .collieEn ⟨0, 0, 0, 1, [], [], 0⟩, .claimRead false 5 0,
    .claimRead false 0 256, .holdoffExpiry 16, .irqClear ⟨5, 0, [], 0⟩, .identityProgram 0 3,
    .claim ⟨5, 1, 0, 0, 0, 0, 0, 0, [], 0, [], {}⟩, .reclaim ⟨5, 1, 0, 0, 0, 0, 0, 0, [], 0, [], {}⟩ 0,
    .enrolSlot ⟨5, 1, 0, 0, 0, 0, 0, 0, [], 0, [], {}⟩, .transfer ⟨5, 1, 0, 0, 0, 0, 0, 0, [], 0, [], {}⟩ 0, .hwmCommitDone 4 0,
    .hwmCommitTimeout 4, .keyRevoke ⟨0, 0, 0, 1, [], [], 0⟩, .keyRelease ⟨0, 0, 0, 1, [], [], 0⟩ 0, .snapStart ⟨5, 0, [], 0⟩,
    .snapEnd ⟨5, 0, [], 0⟩, .imgOpen ⟨0, 0, 0, 1, [], [], 0⟩, .imgStageWrite ⟨5, 1, 0, 0, 0, 0, 0, 0, [], 0, [], {}⟩,
    .imgValidate ⟨0, 0, 0, 1, [], [], 0⟩, .imgCancel ⟨0, 0, 0, 1, [], [], 0⟩, .imgActivate ⟨0, 0, 0, 1, [], [], 0⟩,
    .budgetAllocWrite 52 ⟨0, 0, [], 0⟩, .budgetAllocWrite 0 ⟨5, 0, [], 0⟩, .budgetGrantWrite ⟨0, 0, 0, 1, [], [], 0⟩,
    .read ⟨5, 1, 0, 0, 0, 0, 0, 0, [], 0, [], {}⟩, .write ⟨5, 1, 0, 0, 0, 0, 0, 0, [], 0, [], {}⟩,
    .writek ⟨5, 1, 0, 0, 0, 0, 0, 0, [], 0, [], {}⟩ 0, .blockread ⟨5, 1, 0, 0, 0, 0, 0, 0, [], 0, [], {}⟩,
    .blockwrite ⟨5, 1, 0, 0, 0, 0, 0, 0, [], 0, [], {}⟩] : List Instr).all (fun c => !c.wf) = true := by decide +kernel

/-- One operand at the first value outside its range. -/
theorem test_ill_formed_operands_f : ([.segmentServe 5, .echo ⟨5, 1, 0, 0, 0, 0, 0, 0, [], 0, [], {}⟩, .framingFailure 5 0,
    .portBusy ⟨5, 1, 0, 0, 0, 0, 0, 0, [], 0, [], {}⟩, .retryReplay ⟨5, 1, 0, 0, 0, 0, 0, 0, [], 0, [], {}⟩, .spiFetch 2,
    .canFrameIgnored 2, .notifySend 2, .busOff 2 0, .busOff 0 512, .busRecovery 2, .errorPassiveChange 2 0 0,
    .errorPassiveChange 0 256 0, .errorPassiveChange 0 0 256, .lbStart 0 ⟨5, 0, [], 0⟩, .lbStop 0 ⟨5, 0, [], 0⟩,
    .bscanEn ⟨0, 0, 0, 1, [], [], 0⟩, .undershootClear 12 0, .symbolLockGained 2 0, .symbolLockLost 2, .ccStateChange 3 0,
    .ccStateChange 0 5, .buckTurnOn 8 0 ⟨0, 0, 0, 0, 0⟩,
    .buckTurnOn 0 12800 ⟨0, 0, 0, 0, 0⟩] : List Instr).all (fun c => !c.wf) = true := by decide +kernel

/-- Each field of a request outside its width (R547). -/
theorem test_ill_formed_requests :
    (fun q : Req =>
      q.wf && !Req.wf { q with port := 5 } && !Req.wf { q with opcode := 256 } && !Req.wf { q with tid := 256 } && !Req.wf { q with index := 65536 } &&
      !Req.wf { q with sub := 256 } && !Req.wf { q with slot := 256 } && !Req.wf { q with len := 65536 } && !Req.wf { q with counter := 2 ^ 32 } &&
      !Req.wf { q with offset := 2 ^ 32 } && !Req.wf { q with tag := [0] } && !Req.wf { q with data := List.replicate 513 0 }) ⟨0, 1, 0, 0, 0, 0, 0, 0, [], 0, [], {}⟩ = true := by
  decide +kernel

/-- Plain and keyed writes with a port, identifier, slot, counter, tag or value of the wrong size. -/
theorem test_ill_formed_writes :
    ((⟨4, 255, List.replicate 8 0, 0⟩ : Plain).wf && !(⟨5, 0, [], 0⟩ : Plain).wf && !(⟨0, 256, [], 0⟩ : Plain).wf &&
      !(⟨0, 0, List.replicate 9 0, 0⟩ : Plain).wf && (⟨4, 255, 255, 1, List.replicate 8 0, [], 0⟩ : Keyed).wf &&
      !(⟨5, 0, 0, 1, List.replicate 8 0, [], 0⟩ : Keyed).wf && !(⟨0, 256, 0, 1, List.replicate 8 0, [], 0⟩ : Keyed).wf &&
      !(⟨0, 0, 256, 1, List.replicate 8 0, [], 0⟩ : Keyed).wf && !(⟨0, 0, 0, 2 ^ 32, List.replicate 8 0, [], 0⟩ : Keyed).wf &&
      !(⟨0, 0, 0, 1, List.replicate 7 0, [], 0⟩ : Keyed).wf && !(⟨0, 0, 0, 1, List.replicate 8 0, List.replicate 9 0, 0⟩ : Keyed).wf) = true := by
  decide +kernel

/-- Watchdog causes, mirror frames, power-on findings and samples out of range. -/
theorem test_ill_formed_inputs :
    (!(TerrierCause.classMissed 0).wf && !(TerrierCause.classMissed 4096).wf && !(TerrierCause.jobStalled 6).wf &&
      !(TerrierCause.jobOverrun 6).wf && !(TerrierCause.bootOverrun 0).wf && !(TerrierCause.bootOverrun 7).wf &&
      !(⟨true, true, true, List.replicate 7 (List.replicate 38 0), false⟩ : MirrorRx).wf &&
      !(⟨true, true, true, List.replicate 8 (List.replicate 37 0), false⟩ : MirrorRx).wf &&
      (⟨true, true, true, List.replicate 8 (List.replicate 38 0), false⟩ : MirrorRx).wf &&
      !(⟨65536, 0, 0, 0, false, 0, [], [], false⟩ : BootIn).wf && !(⟨0, 65536, 0, 0, false, 0, [], [], false⟩ : BootIn).wf &&
      !(⟨0, 0, 0, 32, false, 0, [], [], false⟩ : BootIn).wf && !(⟨0, 0, 0, 0, false, 3, [], [], false⟩ : BootIn).wf &&
      !(⟨0, 0, 0, 0, false, 0, [256], [], false⟩ : BootIn).wf && !(⟨0, 0, 0, 0, false, 0, [], [256], false⟩ : BootIn).wf &&
      !(⟨.reinIn, 256, 0⟩ : Sample).wf) = true := by
  decide +kernel

/-! ## Worked examples of the spec -/

/-- The READ of sys.mode in the example of 20_object_protocol.md: its first byte leaves 0x60F8, its ten bytes 0x38F0 (R456). -/
theorem test_crc_of_example :
    crc16 [0x08] = 0x60F8 ∧ crc16 [0x08, 0x00, 0x01, 0x01, 0x10, 0x00, 0x01, 0x00, 0x00, 0x00] = 0x38F0 := by decide +kernel

/-- The example of R8: 0.85 V is sent as 0x48 0x0D, 97.5 degrees as 0x18 0x06. -/
theorem test_encoding_of_example :
    encodeVal .vcode 3400 = [0x48, 0x0D] ∧ encodeVal .tcode 1560 = [0x18, 0x06] := by decide +kernel

/-- The example of R77: at P = 200 the setting fits, and toff_min = 100 does not. -/
theorem test_times_of_example :
    let s := ((State.reset.setO (Obj.phaseBlank 5) 12).setO (Obj.phaseTonMin 5) 16).setO (Obj.phaseToffMin 5) 24
    timesFit s 5 200 = true ∧ timesFit (s.setO (Obj.phaseToffMin 5) 100) 5 200 = false := by decide +kernel

/-- Steps 4 and 5 of the example after R84: PH5 of MR1 at 0.80 V gets slope code 43. -/
theorem test_slope_of_example :
    slopeRaw ((((((State.reset.setO (Obj.railVout 1) 3200).setO (Obj.phaseImonGain 5) 500).setO (Obj.phaseSlopeFrac 5) 75).setO
      (Obj.phaseLNom 5) 1500).setO (Obj.phaseLLearned 5) 1407).setO (Obj.phaseSlopeMode 5) 0) 5 1 = 43 := by decide +kernel

/-- The example after R126: a demand of 61,820 mA at G = 500 and a balance offset of -2 gives code 435. -/
theorem test_code_of_example :
    codeFor ((State.reset.setO (Obj.phaseImonGain 3) 500).setVar .cb (-2) 3) 0 3 61820 = 435 := by decide +kernel

/-! ## The hypotheses of the statements are met -/

def seqRail20 : State := (State.reset.setO Obj.teamRole 1).setO (Obj.seqStall 20) 0
def seqRail0 : State := (State.reset.setO Obj.teamRole 1).setO (Obj.seqStall 0) 0
def seqRail12 : State := (State.reset.setO Obj.teamRole 1).setO (Obj.seqStall 12) 0
/-- A state in SETUP. -/
def setupState : State := State.reset.setO Obj.sysMode 3
/-- The same with slot 0 enrolled and counters up to 256 covered. -/
def enrolled : State :=
  { ((setupState.setO (Obj.keyState 0) 1).setBit Obj.keyStatus 0 true).setO (Obj.keyHwm 0) 256 with
    slotKeys := [List.replicate 16 0x2B, [], [], []] }
/-- A keyed write that carries the tag of slot 0 in that state. -/
def signed (key : Nat) (data : List Byte) (port : Nat := 0) : Keyed :=
  let c : Keyed := ⟨port, 7, 0, 1, [], data, 0⟩
  { c with tag := (cmac (slotKey enrolled 0) (tagMessage (keyedReq c key) enrolled)).take 8 }
/-- A request that carries the tag of slot 0 in that state. -/
def signedReq (q : Req) : Req := { q with tag := (cmac (slotKey enrolled 0) (tagMessage q enrolled)).take 8 }
/-- A CLAIM body with a point for both keys, or without an image key. -/
def claimBody (op target : Nat) (image : Bool) : List Byte :=
  [BitVec.ofNat 8 op, BitVec.ofNat 8 target, 0, 0] ++ pointBytes (some p256G) ++
    (if image then pointBytes (some p256G) else List.replicate 64 0)

theorem freeFor_tag (s : State) (q : Req) (h : q.tag.length = 8) (hk : (portOf s q.port).kept = none) :
    freeFor s { q with tag := List.replicate 8 0 } = true → freeFor s q = true := by
  intro f
  have e : formatOk { q with tag := List.replicate 8 0 } s = formatOk q s := by
    have hl : (List.replicate 8 (0 : Byte)).length = q.tag.length := by rw [h]; rfl
    unfold formatOk claimKeyed bodyOp
    dsimp only
    rw [hl]
  have e2 : preCheck { q with tag := List.replicate 8 0 } s = preCheck q s := by simp only [preCheck, e]
  have e3 : canTaken { q with tag := List.replicate 8 0 } s = canTaken q s := rfl
  simp only [freeFor, isReplay, e2, e3] at f ⊢
  simpa [hk] using f

theorem keyedPass_tag (s : State) (q : Req) (h : (cmac (slotKey s q.slot) (tagMessage q s)).take 8 = q.tag)
    (f : (decide (s.oN (Obj.keyState 0) = 1) && s.bit Obj.keyStatus 0 && decide (q.slot < 4 ∧ s.oN (Obj.keyState q.slot) = 1) &&
    !s.varB .hwmOn q.slot &&
    decide (s.oN (Obj.keyLast q.slot) < q.counter ∧ q.counter ≤ 0xFFFFFEFF ∧ q.counter ≤ s.oN (Obj.keyHwm q.slot)) &&
    (!ownerOnly q || decide (q.slot = 0))) = true) : keyedPass s q = true := by
  simp only [keyedPass, h, decide_true, Bool.and_true]
  exact f

/-- The keyed write of a test passes where everything but its tag does. -/
theorem keyedOk_signed (s : State) (key : Nat) (data : List Byte) {port : Nat} (hs : slotKey s 0 = List.replicate 16 0x2B)
    (hu : s.oN Obj.idUid = 0) (hk : (portOf s port).kept = none)
    (f : (freeFor s { keyedReq ⟨port, 7, 0, 1, [], data, 0⟩ key with tag := List.replicate 8 0 } && engineFree s &&
      (decide (s.oN (Obj.keyState 0) = 1) && s.bit Obj.keyStatus 0 && !s.varB .hwmOn 0 &&
        decide (s.oN (Obj.keyLast 0) < 1 ∧ 1 ≤ s.oN (Obj.keyHwm 0))) && storeOk s key) = true) :
    keyedOk s (signed key data port) key = true := by
  simp only [Bool.and_eq_true] at f
  obtain ⟨⟨⟨f1, fe⟩, ⟨⟨⟨a, b⟩, c⟩, d⟩⟩, f3⟩ := f
  have ek : slotKey enrolled 0 = List.replicate 16 0x2B := rfl
  simp only [keyedOk, Bool.and_eq_true]
  refine ⟨⟨⟨freeFor_tag s _ (cmac_take_length _ _ (by rw [ek]; rfl)) hk f1, fe⟩, keyedPass_tag s _ ?_ ?_⟩, f3⟩
  · change (cmac (slotKey s 0) _).take 8 = (cmac (slotKey enrolled 0) _).take 8
    rw [hs, ek]
    have : tagMessage (keyedReq (signed key data port) key) s = tagMessage (keyedReq ⟨port, 7, 0, 1, [], data, 0⟩ key) enrolled := by
      simp only [tagMessage, hu]
      rfl
    rw [this]
  · have d' := of_decide_eq_true d
    simp only [Bool.and_eq_true]
    refine ⟨⟨⟨⟨⟨a, b⟩, decide_eq_true ⟨Nat.zero_lt_succ 3, of_decide_eq_true a⟩⟩, c⟩, decide_eq_true ⟨d'.1, ?_, d'.2⟩⟩, ?_⟩
    · change 1 ≤ 0xFFFFFEFF; decide
    · simp [keyedReq, signed]
/-- A signed request of a test passes the keyed check where everything but its tag does. -/
theorem keyedPass_signed (s : State) (q : Req) (hs : slotKey s q.slot = List.replicate 16 0x2B) (hu : s.oN Obj.idUid = 0)
    (f : (decide (s.oN (Obj.keyState 0) = 1) && s.bit Obj.keyStatus 0 && decide (q.slot < 4 ∧ s.oN (Obj.keyState q.slot) = 1) &&
      !s.varB .hwmOn q.slot &&
      decide (s.oN (Obj.keyLast q.slot) < q.counter ∧ q.counter ≤ 0xFFFFFEFF ∧ q.counter ≤ s.oN (Obj.keyHwm q.slot)) &&
      (!ownerOnly q || decide (q.slot = 0))) = true) : keyedPass s (signedReq q) = true := by
  have ek : slotKey enrolled 0 = List.replicate 16 0x2B := rfl
  refine keyedPass_tag s _ ?_ f
  change (cmac (slotKey s q.slot) _).take 8 = (cmac (slotKey enrolled 0) _).take 8
  rw [hs, ek]
  have : tagMessage (signedReq q) s = tagMessage q enrolled := by
    simp only [tagMessage, hu]
    rfl
  rw [this]

theorem signedReq_tag (q : Req) : (signedReq q).tag.length = 8 := cmac_take_length _ _ rfl

/-- States and operands that meet the hypotheses of each clause of ClockReferenceEvents. -/
theorem test_hypotheses_ClockReferenceEvents :
    ((fun (s : State) (gap : Nat) => s.bit Obj.clkStatus 2 = true ∧ 4 * s.oN Obj.clkSyncDiv ≤ gap) (State.reset.setBit Obj.clkStatus
      2 true) (1600)) ∧
    ((fun (s : State) (hz : Nat) => s.bit Obj.clkStatus 2 = true ∧ syncInRange (s.oN Obj.clkSyncDiv) hz = false) (State.reset.setBit
      Obj.clkStatus 2 true) (900000)) ∧
    ((fun (s : State) => s.oN Obj.clkRefState = 3 ∧ s.dueTR .holdoverT = true) ((State.reset.setO Obj.clkRefState 3).setVar
      .holdoverT 1)) ∧
    ((fun (s : State) => s.oN Obj.clkRefState = 4 ∧ s.var .clkPpb = 0) (State.reset.setO Obj.clkRefState 4)) ∧
    ((fun (s : State) (hz : List Nat) => s.bit Obj.clkStatus 2 = false ∧ 64 ≤ hz.length ∧ hz.all (syncInRange (s.oN Obj.clkSyncDiv))
      = true) (State.reset) (List.replicate 64 1000000)) ∧
    ((fun (s : State) => s.oN Obj.clkRefState = 2 ∧ s.varB .clkPull = false ∧ s.var .clkPpb = ppbOf (s.oN Obj.clkSyncDiv) (s.pin
      .syncHz).toNat) ((State.reset.setO Obj.clkRefState 2).setPin .syncHz 1000000)) ∧
    ((fun (s : State) => s.oN Obj.clkRefState = 2 ∧ s.varB .clkPull = true ∧ s.metCond .clkLockCnt 1000 = true) (((State.reset.setO
      Obj.clkRefState 2).setVar .clkPull 1).setVar .clkLockCnt 1000)) ∧
    ((fun (s : State) => s.varB .xtalFailed = false ∧ s.metCond .xtalCnt 1 = true) ((State.reset.setO Obj.clkStatus 2).setVar
      .xtalCnt 1)) ∧
    ((fun (s : State) => s.varB .xtalFailed = true ∧ 10 ≤ s.varN .xtalGood) ((State.reset.setVar .xtalGood 10).setVar .xtalFailed
      1)) ∧
    ((fun (s : State) => s.metCond .pllCnt 3 = true ∧ s.condOn 201 0 = false) (State.reset.setVar .pllCnt 3)) := by
  and_intros <;> decide +kernel

/-- States and operands that meet the hypotheses of each clause of ScheduleAndCalendarEvents. -/
theorem test_hypotheses_ScheduleAndCalendarEvents :
    ((fun (s : State) (kind : Nat) (ok : Bool) (j : Job) => kind < 5 ∧ jobRunning s kind = some j ∧ j.who.slot < 16 ∧ (∀ p, p < 5 →
      s.var .jobDone (JobFor.tagCheck p).slot = 0)) ({ State.reset with jobs := [⟨1, .exportSign, true⟩] }) (1) (true)
      (⟨1, .exportSign, true⟩)) ∧
    ((fun (s : State) (kind p : Nat) (q : Req) => kind < 5 ∧ p < 5 ∧ q.port = p ∧ q.opcode ≠ 6 ∧ (portOf s p).txn = some q ∧
      jobRunning s kind = some ⟨kind, .tagCheck p, true⟩ ∧ (p = 4 → s.bit Obj.portFlags 4 = true) ∧ s.varN .dSlots < 4 ∧ (∀ r, r < 5
      → r ≠ p → s.var .jobDone (JobFor.tagCheck r).slot = 0 ∧ s.var .dqAt r = 0)) (setPort 1
      { portOf State.reset 1 with txn := some ⟨1, 3, 7, 0x2080, 1, 0, 1, 5, [], 0, [1], {}⟩ }
      { State.reset with jobs := [⟨3, .tagCheck 1, true⟩] }) (3) (1) (⟨1, 3, 7, 0x2080, 1, 0, 1, 5, [], 0, [1], {}⟩)) ∧
    ((fun (s : State) (cause : TerrierCause) (slot row : Nat) => s.mgtOn = true ∧ terrierHolds cause s = true) (State.reset)
      (.tickLost) (7) (3)) ∧
    ((fun (s : State) => s.bit Obj.rtcStatus 2 = true ∧ s.o Obj.rtcShiftLeft = 0) (State.reset.setO Obj.rtcStatus 4)) ∧
    ((fun (s : State) => s.varN .rtcSec = 12622780799 ∧ s.bit Obj.rtcStatus 3 = false) (State.reset.setVar .rtcSec 12622780799)) ∧
    ((fun (s : State) => (if s.mgtOn then decide (1000 ≤ s.varN .rtcQuiet) else s.varB .bkpValid) = true ∧ s.varB .rtcFailed =
      false) (State.reset.setVar .rtcQuiet 1000)) ∧
    ((fun (s : State) (kind p : Nat) (q : Req) => kind < 5 ∧ p < 5 ∧ q.port = p ∧ q.opcode ≠ 6 ∧ (portOf s p).txn = some q ∧
      jobRunning s kind = some ⟨kind, .tagCheck p, true⟩ ∧ s.bit Obj.portFlags 4 = false ∧ p = 4 ∧ s.varN .dSlots < 4 ∧ (∀ r, r < 5
      → r ≠ p → s.var .jobDone (JobFor.tagCheck r).slot = 0 ∧ s.var .dqAt r = 0)) (setPort 4
      { portOf State.reset 4 with txn := some ⟨4, 3, 7, 0x2080, 1, 0, 1, 5, [], 0, [1], {}⟩ }
      { State.reset with jobs := [⟨3, .tagCheck 4, true⟩] }) (3) (4) (⟨4, 3, 7, 0x2080, 1, 0, 1, 5, [], 0, [1], {}⟩)) ∧
    ((fun (s : State) (kind p : Nat) (q : Req) => kind < 5 ∧ p < 5 ∧ q.port = p ∧ q.opcode ≠ 6 ∧ (portOf s p).txn = some q ∧
      jobRunning s kind = some ⟨kind, .tagCheck p, true⟩ ∧ 4 ≤ s.varN .dSlots ∧ (∀ r, r < 5 → r ≠ p → s.var .jobDone
      (JobFor.tagCheck r).slot = 0 ∧ s.var .dqAt r = 0)) (((setPort 1
      { portOf State.reset 1 with txn := some ⟨1, 3, 7, 0x2080, 1, 0, 1, 5, [], 0, [1], {}⟩ }
      { State.reset with jobs := [⟨3, .tagCheck 1, true⟩] })).setVar .dSlots 4) (3) (1)
      (⟨1, 3, 7, 0x2080, 1, 0, 1, 5, [], 0, [1], {}⟩)) := by
  and_intros <;> decide +kernel

/-- States and operands that meet the hypotheses of each clause of PulseEvents. -/
theorem test_hypotheses_PulseEvents :
    ((fun (s : State) (n at_ : Nat) (valley centre : Int) => let u := slotsBy at_ s; phaseExists u n = true ∧ at_ < 12800 ∧ u.oN
      (Obj.phaseRail n) < 12 ∧ railOn u (u.oN (Obj.phaseRail n)) = true ∧ (u.oN (Obj.phaseState n) = 3 ∨ u.oN (Obj.phaseState n) =
      4) ∧ u.varB .pulse n = false ∧ offDone u n (instant u at_) = true ∧ (alignsGrid u n (u.oN (Obj.phaseRail n)) || isInterleave u
      n (u.oN (Obj.phaseRail n)) (instant u at_) || isDelayed u n (u.oN (Obj.phaseRail n)) (instant u at_) || isFired u n (u.oN
      (Obj.phaseRail n))) = true ∧ u.varB .ovsHold (u.oN (Obj.phaseRail n)) = false ∧ u.varB .ovpHold (u.oN (Obj.phaseRail n)) =
      false) (((((State.reset.setO (Obj.phaseRail 3) 0).setO (Obj.railState 0) 4).setO (Obj.phaseState 3) 3).setVar .offOld 1
      3).setVar .offFrom 1 3) (3) (0) (0) (0)) ∧
    ((fun (s : State) (n at_ : Nat) (valley centre : Int) => let u := slotsBy at_ s; phaseExists u n = true ∧ at_ < 12800 ∧ u.oN
      (Obj.phaseRail n) < 12 ∧ railOn u (u.oN (Obj.phaseRail n)) = true ∧ (u.oN (Obj.phaseState n) = 3 ∨ u.oN (Obj.phaseState n) =
      4) ∧ u.varB .pulse n = false ∧ offDone u n (instant u at_) = true ∧ (alignsGrid u n (u.oN (Obj.phaseRail n)) || isInterleave u
      n (u.oN (Obj.phaseRail n)) (instant u at_) || isDelayed u n (u.oN (Obj.phaseRail n)) (instant u at_) || isFired u n (u.oN
      (Obj.phaseRail n))) = true ∧ (u.varB .ovsHold (u.oN (Obj.phaseRail n)) || u.varB .ovpHold (u.oN (Obj.phaseRail n))) = true)
      ((((((State.reset.setO (Obj.phaseRail 3) 0).setO (Obj.railState 0) 4).setO (Obj.phaseState 3) 3).setVar .offOld 1 3).setVar
      .offFrom 1 3).setVar .ovsHold 1 0) (3) (0) (0) (0)) ∧
    ((fun (s : State) (n at_ : Nat) => let u := slotsBy at_ s; phaseExists u n = true ∧ u.varB .pulse n = true ∧ u.varB .blanked n =
      true ∧ u.varN .lastOn n + u.oN (Obj.phaseBlank n) * 32 ≤ instant u at_) ((State.reset.setVar .pulse 1 3).setVar .blanked 1 3)
      (3) (12800)) ∧
    ((fun (s : State) (n at_ : Nat) (imon : Int) => let u := slotsBy at_ s; phaseExists u n = true ∧ u.varB .pulse n = true ∧ u.varB
      .blanked n = false ∧ u.varN .lastOn n ≤ instant u at_ ∧ peakThreshold u n (instant u at_ - u.varN .lastOn n) ≤ imon)
      (State.reset.setVar .pulse 1 3) (3) (12800) (900000)) ∧
    ((fun (s : State) (n at_ : Nat) => let u := slotsBy at_ s; phaseExists u n = true ∧ u.varB .pulse n = true ∧ u.varB .tripped n =
      true ∧ u.varN .lastOn n + minOn u n ≤ instant u at_) ((State.reset.setVar .pulse 1 3).setVar .tripped 1 3) (3) (12800)) ∧
    ((fun (s : State) (n at_ : Nat) => let u := slotsBy at_ s; phaseExists u n = true ∧ u.varB .pulse n = true ∧ u.oN (Obj.phaseRail
      n) < 12 ∧ u.varN .lastOn n + periodSteps u (u.oN (Obj.phaseRail n)) ≤ instant u at_ + minOff u n) ((State.reset.setVar .pulse
      1 3).setO (Obj.phaseRail 3) 0) (3) (64000)) ∧
    ((fun (s : State) (n at_ : Nat) (imon : Int) => let u := slotsBy at_ s; phaseExists u n = true ∧ u.varB .pulse n = true ∧ u.varB
      .blanked n = false ∧ u.varB .limHit n = false ∧ u.varN .lastOn n ≤ instant u at_ ∧ (u.var .ilimCode n - 128) * 1000 ≤ imon)
      ((State.reset.setVar .pulse 1 3).setVar .ilimCode 200 3) (3) (12800) (80000)) ∧
    ((fun (s : State) (n at_ : Nat) (imon : Int) => let u := slotsBy at_ s; phaseExists u n = true ∧ at_ < 12800 ∧ lowSideOn u n =
      true ∧ imon ≤ (u.var .inegCode n - 128) * 1000) ((State.reset.setVar .lastOff 1 3).setO (Obj.phaseState 3) 3) (3) (0)
      (-128000)) ∧
    ((fun (s : State) (n at_ : Nat) (imon : Int) => let u := slotsBy at_ s; phaseExists u n = true ∧ at_ < 12800 ∧ lowSideOn u n =
      true ∧ deInForce u n = true ∧ u.varN .lastOff n - 1 + u.oN (Obj.phaseBlank n) * 32 ≤ instant u at_ ∧ imon ≤ u.o
      (Obj.phaseZcdOffset n) * 1000 ∧ u.varB .ovpHold (u.oN (Obj.phaseRail n)) = false) ((((State.reset.setVar .lastOff 1 3).setVar
      .cycOpen 1 3).setO (Obj.phaseState 3) 3).setO (Obj.phaseDeEn 3) 1) (3) (12799) (-100000)) := by
  and_intros <;> decide +kernel

/-- States and operands that meet the hypotheses of each clause of RailComparatorEvents. -/
theorem test_hypotheses_RailComparatorEvents :
    ((fun (s : State) (r w : Nat) => railExists s r = true ∧ w < 4 ∧ s.metCond .winCnt (s.oN (winFilt r w)) r w = true)
      (State.reset.setVar .winCnt 100 5 1) (5) (1)) ∧
    ((fun (s : State) (m : Nat) => m < 12 ∧ railExists s m = true ∧ mayDrop s m = true ∧ s.metCond .shedDrop 1000 m = true)
      ((((State.reset.setO (Obj.railState 0) 4).setO (Obj.railShedEn 0) 1).setO (Obj.railShedLvl 0) 2).setVar .shedDrop 1000 0) (0)) ∧
    ((fun (s : State) (m : Nat) => m < 12 ∧ s.dueT .holdoffT m = true) (State.reset.setVar .holdoffT 1 3) (3)) ∧
    ((fun (s : State) (m at_ v : Nat) => let u := slotsBy at_ s; m < 12 ∧ railExists u m = true ∧ railOn u m = true ∧ u.varB
      .ovsHold m = false ∧ railTarget u m + u.o (Obj.railOvsThr m) < v) (State.reset.setO (Obj.railState 0) 4) (0) (0) (5000)) ∧
    ((fun (s : State) (m v : Nat) => m < 12 ∧ s.varB .ovsHold m = true ∧ 2 * (v : Int) < 2 * railTarget s m + s.o (Obj.railOvsThr
      m)) (State.reset.setVar .ovsHold 1 0) (0) (0)) ∧
    ((fun (s : State) (m at_ v : Nat) (samples : List (Int × Int)) => let u := slotsBy at_ s; m < 12 ∧ railExists u m = true ∧
      railOn u m = true ∧ u.varB .uvsFire m = false ∧ (v : Int) < railTarget u m - u.o (Obj.railUvsThr m)) ((State.reset.setO
      (Obj.railState 0) 4).setVar .targetNow 3000 0) (0) (0) (0) ([])) ∧
    ((fun (s : State) (m v : Nat) => m < 12 ∧ s.varB .uvsFire m = true ∧ railTarget s m - s.o (Obj.railUvsThr m) ≤ v)
      (State.reset.setVar .uvsFire 1 0) (0) (5000)) ∧
    ((fun (s : State) (r at_ v fall : Nat) (ma : Int) => let u := slotsBy at_ s; r < 20 ∧ railExists u r = true ∧ judged (railState
      u r) = true ∧ u.varB .ovpHold r = false ∧ winThreshold u r 0 ≤ v) (State.reset.setO (Obj.railState 0) 4) (0) (0) (22000) (0)
      (0)) ∧
    ((fun (s : State) (r v below : Nat) => r < 20 ∧ s.varB .ovpHold r = true ∧ (v : Int) < winThreshold s r 1 ∧ 12800 ≤ below)
      (State.reset.setVar .ovpHold 1 0) (0) (0) (12800)) ∧
    ((fun (s : State) (m : Nat) => m < 12 ∧ railExists s m = true ∧ s.metCond .ilimSust (s.oN (Obj.railIlimFilt m)) m = true)
      (State.reset.setVar .ilimSust 1000 0) (0)) ∧
    ((fun (s : State) (m : Nat) => m < 12 ∧ railExists s m = true ∧ s.metCond .senseCnt 8 m = true) (State.reset.setVar .senseCnt 8
      0) (0)) ∧
    ((fun (s : State) (m : Nat) => m < 12 ∧ railExists s m = true ∧ s.metCond .vinCnt 8 m = true) (State.reset.setVar .vinCnt 8 0)
      (0)) := by
  and_intros <;> decide +kernel

/-- States and operands that meet the hypotheses of each clause of RailStartAndLoopEvents. -/
theorem test_hypotheses_RailStartAndLoopEvents :
    ((fun (s : State) (r : Nat) => r < 20 ∧ holder s = true ∧ railState s r = 1 ∧ s.varB .waitT r = true ∧ s.varB .shtFailed r =
      false ∧ (decide (s.var .vMean r < 600) || s.dueT .waitT r) = true) (((State.reset.setO Obj.teamRole 1).setO (Obj.railState 0)
      1).setVar .waitT 1000 0) (0)) ∧
    ((fun (s : State) (r : Nat) => r < 20 ∧ holder s = true ∧ railState s r = 2 ∧ s.varB .shtFailed r = false ∧ s.varN .testStart r
      + 200 ≤ s.now + 1) (((State.reset.setO Obj.teamRole 1).setO (Obj.railState 0) 2).setVar .now 500) (0)) ∧
    ((fun (s : State) (m at_ sum cnt : Nat) (vins : List Int) => let u := slotsBy at_ s; m < 12 ∧ railExists u m = true ∧ railOn u m
      = true ∧ 0 < cnt ∧ at_ < 12800 ∧ u.oN (Obj.railUpdDiv m) ≤ u.varN .updCnt m) ((State.reset.setO (Obj.railState 0) 4).setVar
      .updCnt 8 0) (0) (0) (1000) (1) ([12000])) ∧
    ((fun (s : State) (b at_ demand rise fall edge : Nat) (i0 : Int) => let u := slotsBy at_ s; b < 8 ∧ at_ < 12800 ∧ buckDriven u b
      = true ∧ judged (railState u (12 + b)) = true ∧ u.varB .ovpHold (12 + b) = false ∧ u.o (Obj.abIlimEff b) ≠ 0 ∧ buckOffDone u b
      (instant u at_) = true ∧ buckInstant u b (instant u at_) edge = true ∧ u.varB .abLow b = false) ((((State.reset.setO
      Obj.teamRole 1).setVar .mainOn 1).setO (Obj.abState 0) 4).setO (Obj.abIlimEff 0) 4000) (0) (0) (1000) (100) (100) (0) (0)) ∧
    ((fun (s : State) (b at_ demand rise fall edge : Nat) (i0 : Int) => let u := slotsBy at_ s; b < 8 ∧ at_ < 12800 ∧ buckDriven u b
      = true ∧ judged (railState u (12 + b)) = true ∧ buckOffDone u b (instant u at_) = true ∧ buckInstant u b (instant u at_) edge
      = true ∧ (u.varB .ovpHold (12 + b) || u.varB .abLow b || decide (u.o (Obj.abIlimEff b) = 0)) = true) ((((State.reset.setO
      Obj.teamRole 1).setVar .mainOn 1).setO (Obj.abState 0) 4).setO (Obj.abIlimEff 0) 0) (0) (0) (1000) (100) (100) (0) (0)) ∧
    ((fun (s : State) (b at_ ma fall : Nat) => let u := slotsBy at_ s; b < 8 ∧ u.varB .abPulse b = true ∧ u.o (Obj.abIlimEff b) ≤ ma
      ∧ u.varN .abOn b ≤ instant u at_ ∧ instant u at_ + 1 < u.varN .abOff b) (((State.reset.setVar .abPulse 1 0).setVar .abOff
      99999 0).setO (Obj.abIlimEff 0) 4000) (0) (0) (4000) (0)) ∧
    ((fun (s : State) (b v : Nat) => b < 8 ∧ s.varB .abLow b = true ∧ 4400 < v) (State.reset.setVar .abLow 1 0) (0) (5000)) := by
  and_intros <;> decide +kernel

/-- States and operands that meet the hypotheses of each clause of PhaseHealthEvents. -/
theorem test_hypotheses_PhaseHealthEvents :
    ((fun (s : State) (n : Nat) => phaseExists s n = true ∧ s.oN (Obj.phaseRail n) < 12 ∧ settled s (s.oN (Obj.phaseRail n)) = true
      ∧ s.oN (Obj.phaseState n) = 3 ∧ s.oN (Obj.poolOpenCycles (s.oN (Obj.phaseRail n))) ≤ s.varN .openCnt n ∧ 2 ≤ (switching s
      (s.oN (Obj.phaseRail n))).length) (((((((State.reset.setO (Obj.phaseRail 3) 0).setO (Obj.railState 0) 4).setO (Obj.phaseState
      3) 3).setO (Obj.phaseState 4) 3).setVar .posPhase 4 0 0).setVar .posPhase 5 0 1).setVar .openCnt 2000 3) (3)) ∧
    ((fun (s : State) (n crit : Nat) (samples : List Int) => phaseExists s n = true ∧ s.oN (Obj.phaseRail n) < 12 ∧ detectorsOn s
      (s.oN (Obj.phaseRail n)) = true ∧ senseCriterion s (s.oN (Obj.phaseRail n)) n crit samples = true) ((((State.reset.setO
      (Obj.phaseRail 3) 0).setO (Obj.railState 0) 4).setO (Obj.phaseState 3) 3).setVar .rangeCnt 8 3) (3) (0) ([])) ∧
    ((fun (s : State) (m : Nat) => m < 12 ∧ railExists s m = true ∧ sfltOn s m = true ∧ 9 ≤ s.varN .sfltTicks m)
      ((State.reset.setVar .sfltTicks 9 2).setVar .sfltCnt 1000 2) (2)) ∧
    ((fun (s : State) (n : Nat) (samples : List Int) => phaseExists s n = true ∧ s.oN (Obj.phaseRail n) < 12 ∧ holder s = true ∧
      detectorsOn s (s.oN (Obj.phaseRail n)) = true ∧ s.oN (Obj.phaseState n) = 5 ∧ 8 ≤ samples.length ∧ (samples.take 8).all
      imonOut = true) ((((State.reset.setO Obj.teamRole 1).setO (Obj.phaseRail 3) 0).setO (Obj.railState 0) 4).setO (Obj.phaseState
      3) 5) (3) (List.replicate 8 (-100000000))) ∧
    ((fun (s : State) (n : Nat) => phaseExists s n = true ∧ wearDue s n = true) (State.reset) (0)) ∧
    ((fun (s : State) (n : Nat) => phaseExists s n = true ∧ s.varN .wearPushed n < s.oN Obj.sysOpSeconds / 86400) (State.reset.setO
      Obj.sysOpSeconds 86400) (5)) := by
  and_intros <;> decide +kernel

/-- States and operands that meet the hypotheses of each clause of RailSequenceEvents. -/
theorem test_hypotheses_RailSequenceEvents :
    ((fun (s : State) (ch : Nat) => ch < 32 ∧ s.oB (Obj.scPginEn ch) = true ∧ seqSt s (20 + ch) = 4 ∧ s.metCond .scPg (s.oN
      (Obj.scPginFilt ch)) ch = true) (((State.reset.setO (Obj.scPginEn 2) 1).setO (Obj.seqState 22) 4).setVar .scPg 200 2) (2)) ∧
    ((fun (s : State) (r : Nat) => deciding s = true ∧ sequenced s r = true ∧ seqSt s r = 1 ∧ s.dueT .onT r = true) (seqRail0.setO
      (Obj.seqState 0) 1 |>.setVar .onT 1 0) (0)) ∧
    ((fun (s : State) (r reason : Nat) => deciding s = true ∧ startDue s r = true ∧ startRefusal s r = some reason) ((seqRail0.setO
      (Obj.seqState 0) 2).setO Obj.testBscan 1) (0) (3)) ∧
    ((fun (s : State) (r : Nat) => deciding s = true ∧ startDue s r = true ∧ startRefusal s r = none) ((seqRail20.setO (Obj.seqState
      20) 2)) (20)) ∧
    ((fun (s : State) (r : Nat) => deciding s = true ∧ sequenced s r = true ∧ seqSt s r = 3 ∧ qualifyMet s r = true)
      ((seqRail20.setO (Obj.seqState 20) 3).setVar .pgCnt 1000 20) (20)) ∧
    ((fun (s : State) (r : Nat) => deciding s = true ∧ sequenced s r = true ∧ seqSt s r = 3 ∧ s.dueT .riseT r = true ∧ qualifyMet s
      r = false) ((seqRail20.setO (Obj.seqState 20) 3).setVar .riseT 1 20) (20)) ∧
    ((fun (s : State) (r : Nat) => deciding s = true ∧ sequenced s r = true ∧ seqSt s r = 9 ∧ s.oB (Obj.seqDepRestart r) = true ∧
      parentsUp s r = true ∧ s.varN .blockedAt r < s.now ∧ pdisHeld s r = false ∧ upOf s r ≤ yardAt s ∧ yardAt s ≤ 32 ∧ startRefusal
      s r = none) ((((seqRail20.setO Obj.sequencerYardState 32).setO (Obj.seqState 20) 9).setO (Obj.seqDepRestart 20) 1).setVar .now
      5) (20)) ∧
    ((fun (s : State) (r : Nat) => railExists s r = true ∧ railState s r = 8 ∧ s.dueTR .hicT r = true ∧ s.varB .offKind r = false ∧
      startRefusal s r = none) ((seqRail20.setVar .scState 8 0).setVar .hicT 1 20) (20)) ∧
    ((fun (s : State) (b v : Nat) => b < 8 ∧ v < 4200 ∧ judged (railState s (12 + b)) = true ∧ sequenced s (12 + b) = true)
      ((seqRail12.setO (Obj.abState 0) 4)) (0) (4199)) ∧
    ((fun (s : State) (r : Nat) => deciding s = true ∧ sequenced s r = true ∧ seqSt s r = 5 ∧ s.dueT .offT r = true)
      ((seqRail20.setO (Obj.seqState 20) 5).setVar .offT 1 20) (20)) ∧
    ((fun (s : State) (r : Nat) => deciding s = true ∧ sequenced s r = true ∧ s.varN .offKind r ≠ 0 ∧ s.varB .offGot r = false ∧
      predsDown s r = true ∧ (s.varN .offKind r ≠ 1 ∨ seqSt s r = 6 ∨ (seqSt s r = 5 ∧ s.dueT .offT r = true))) ((seqRail20.setO
      (Obj.seqState 20) 6).setVar .offKind 1 20) (20)) ∧
    ((fun (s : State) (r : Nat) => sequenced s r = true ∧ s.varB .disOn r = true ∧ s.var .vMean r < s.o (Obj.seqOffThr r))
      ((seqRail20.setVar .disOn 1 20)) (20)) ∧
    ((fun (s : State) (r : Nat) => deciding s = true ∧ sequenced s r = true ∧ s.varB .disOn r = true ∧ s.varB .dis r = false ∧
      s.dueT .disT r = true ∧ s.o (Obj.seqOffThr r) ≤ s.var .vMean r) (((seqRail20.setVar .disOn 1 20).setVar .disT 1 20).setVar
      .vMean 5000 20) (20)) := by
  and_intros <;> decide +kernel

/-- States and operands that meet the hypotheses of each clause of YardEvents. -/
theorem test_hypotheses_YardEvents :
    ((fun (s : State) => deciding s = true ∧ s.varB .yardGo = false ∧ s.oN Obj.sequencerState = 5 ∧ (yardAlone s = true ∨ (s.pinB
      .yardLow = false ∧ s.varB .yardHold = false)) ∧ (seqRails s).all (fun r => (!decide (s.varN .offKind r = 3) && !decide (seqSt
      s r = SS.discharging)) || s.varB .dis r) = true ∧ s.bit Obj.sequencerPending 0 = false) ((State.reset.setO Obj.teamRole
      1).setO Obj.sequencerState 5)) ∧
    ((fun (s : State) => deciding s = true ∧ s.varB .yardGo = false ∧ s.oN Obj.sequencerState ≠ 5 ∧ yardAlone s = true ∧ ((1 ≤
      yardAt s ∧ yardAt s ≤ 31) ∨ (33 ≤ yardAt s)) ∧ s.dueT .dwellT = true ∧ yardReady s = true) ((((State.reset.setO Obj.teamRole
      1).setO Obj.yardMembers 1).setO Obj.sequencerYardState 1).setVar .dwellT 1)) ∧
    ((fun (s : State) => deciding s = true ∧ s.varB .yardGo = false ∧ s.oN Obj.sequencerState ≠ 5 ∧ yardAlone s = false ∧ yardRank s
      = 0 ∧ s.pinB .yardLow = false ∧ s.varB .yardHold = false ∧ s.varB .yardPulse = false ∧ (if yardAt s = 0 ∨ yardAt s = 32 then
      s.varB .yardReq else s.dueT .dwellT && yardReady s && yardHighLong s) = true) (((State.reset.setO Obj.teamRole 1).setO
      Obj.yardMembers 3).setVar .yardReq 1)) ∧
    ((fun (s : State) => deciding s = true ∧ yardAlone s = true ∧ s.oN Obj.sequencerState ≠ 5 ∧ s.dueT .readyT = true ∧ yardReady s
      = false) (((((((State.reset.setO Obj.teamRole 1).setO Obj.yardMembers 1).setO Obj.sequencerYardState 1).setVar .readyT 1).setO
      (Obj.seqStall 20) 0).setO (Obj.seqState 20) 1).setO (Obj.stallYardUp 0) 1)) ∧
    ((fun (s : State) (low : Nat) => yardSteps s = true ∧ s.mgtOn = true ∧ 1000 ≤ low ∧ low ≤ 4000 ∧ s.oN Obj.sequencerState ≠ 5)
      (((State.reset.setO Obj.sysMode 4).setO Obj.teamRole 1).setO Obj.yardMembers 3) (2000)) ∧
    ((fun (s : State) (low : Nat) => s.mgtOn = true ∧ 1000 ≤ low ∧ low ≤ 4000 ∧ yardAlone s = false ∧ s.oN Obj.sequencerState ≠ 5 ∧
      deciding s = false ∧ holder s = false) ((State.reset.setO Obj.yardMembers 3).setVar .yardSeen 63) (2000)) ∧
    ((fun (s : State) (low : Nat) => yardSteps s = true ∧ s.mgtOn = true ∧ 6000 ≤ low ∧ low ≤ 10000 ∧ 1 ≤ yardAt s ∧ yardAt s ≤ 31 ∧
      s.oN Obj.sequencerState = 1) ((((State.reset.setO Obj.teamRole 1).setO Obj.yardMembers 3).setO Obj.sequencerState 1).setO
      Obj.sequencerYardState 31) (6000)) ∧
    ((fun (s : State) (low : Nat) => s.mgtOn = true ∧ 12000 < low ∧ low ≤ 1000000) (State.reset) (12001)) ∧
    ((fun (s : State) (low : Nat) => s.mgtOn = true ∧ (low < 1000 ∨ (4000 < low ∧ low < 6000) ∨ (10000 < low ∧ low ≤ 12000)))
      (State.reset) (4001)) ∧
    ((fun (s : State) (low : Nat) => deciding s = true ∧ s.mgtOn = true ∧ 1000000 < low ∧ (s.varN .yardHold < 2 ∨ 4 < s.varN
      .yardHold)) ((State.reset.setO Obj.teamRole 1).setO Obj.yardMembers 3) (1000001)) ∧
    ((fun (s : State) (high : Nat) => yardSteps s = true ∧ 0 < yardRank s ∧ 2000 + 50000 * yardRank s ≤ high ∧ s.varB .yardPulse =
      false ∧ (((1 ≤ yardAt s ∧ yardAt s ≤ 31 ∨ 33 ≤ yardAt s) ∧ s.dueT .dwellT = true) ∨ ((yardAt s = 0 ∨ yardAt s = 32) ∧ s.varB
      .yardReq = true)) ∧ s.oN Obj.sequencerState ≠ 5 ∧ s.varB .yardGo = false) (((((State.reset.setO Obj.sysMode 4).setO
      Obj.teamRole 1).setO Obj.yardMembers 3).setO Obj.yardAddr 1).setVar .yardReq 1) (52000)) := by
  and_intros <;> decide +kernel

/-- States and operands that meet the hypotheses of each clause of InsertionEvents. -/
theorem test_hypotheses_InsertionEvents :
    ((fun (s : State) => s.varB .hsActive = true ∧ hsNextSt s ≠ 0 ∧ (2 ≤ s.varN .hsRem ∨ (hsSt s = 1 ∧ s.varB .hsRem = true)))
      (((State.reset.setVar .hsActive 1).setO Obj.hsState 4).setVar .hsRem 2)) ∧
    ((fun (s : State) => s.varB .hsActive = true ∧ hsNextSt s = 0 ∧ hsSt s = 0 ∧ s.pinB .earlyN = false ∧ s.pinB .lateN = false ∧
      hsRankNow s < 4) (((State.reset.setVar .hsActive 1).setPin .earlyN 0).setPin .lateN 0)) ∧
    ((fun (s : State) => hsNextSt s = 1 ∧ hsSt s = 1 ∧ s.metCond .hsDeb (s.oN Obj.hsDebounce * 1000) = true) ((State.reset.setO
      Obj.hsState 1).setVar .hsDeb 500000000)) ∧
    ((fun (s : State) => hsNextSt s = 2 ∧ hsSt s = 2 ∧ s.oB Obj.hsAuto = true ∧ hsWindow s = true) ((State.reset.setO Obj.hsState
      2).setPin .hsVin 48000)) ∧
    ((fun (s : State) => s.varB .hsGoto = false ∧ hsSt s = 3 ∧ s.metCond .hsPg (s.oN Obj.hsPgQual) = true) ((State.reset.setO
      Obj.hsState 3).setVar .hsPg 1000)) ∧
    ((fun (s : State) => hsSt s = 4 ∧ s.dueTR .hsOnT = true) ((State.reset.setO Obj.hsState 4).setVar .hsOnT 1)) ∧
    ((fun (s : State) (i : Nat) => (hsSt s = 3 ∨ hsSt s = 4) ∧ 5 * s.oN Obj.hsIlim ≤ 4 * i) (State.reset.setO Obj.hsState 3)
      (1000000)) ∧
    ((fun (s : State) (i : Nat) => mayTrip s = true ∧ 2 * s.oN Obj.hsIlim ≤ i) (State.reset.setO Obj.hsState 3) (1000000)) ∧
    ((fun (s : State) (i : Nat) => tripState s = true ∧ s.varN .hsTripped ≠ 0 ∧ s.varN .hsTripped ≠ 1 ∧ 2 * s.oN Obj.hsIlim ≤ i)
      ((State.reset.setO Obj.hsState 3).setVar .hsTripped 2) (1000000)) ∧
    ((fun (s : State) => mayTrip s = true ∧ soaMet s = true) ((State.reset.setO Obj.hsState 3).setVar .hsSoa 1000000000000)) ∧
    ((fun (s : State) => mayTrip s = true ∧ s.metCond .hsCb (s.oN Obj.hsCbFilt) = true ∧ soaMet s = false) ((State.reset.setO
      Obj.hsState 3).setVar .hsCb 100000)) ∧
    ((fun (s : State) => mayTrip s = true ∧ hsSt s = 3 ∧ s.dueTR .hsT = true ∧ soaMet s = false ∧ s.metCond .hsCb (s.oN
      Obj.hsCbFilt) = false ∧ s.metCond .hsPg (s.oN Obj.hsPgQual) = false) ((State.reset.setO Obj.hsState 3).setVar .hsT 1)) ∧
    ((fun (s : State) => hsNextSt s = 5 ∧ hsSt s = 5 ∧ s.dueTR .hsT = true ∧ 2 * s.var .hsSoa ≤ s.o Obj.hsSoaLim * 1000)
      ((State.reset.setO Obj.hsState 5).setVar .hsT 1)) ∧
    ((fun (s : State) => s.varB .hsActive = true ∧ s.metCond .hsOv (s.oN Obj.hsVinFilt) = true ∧ (s.condOn 103 0 = false ∨ hsNextSt
      s ≠ 8) ∧ ¬ (hsNextSt s = 0 ∧ 2 ≤ s.varN .hsRem) ∧ hsRankNow s < 4) ((State.reset.setVar .hsActive 1).setVar .hsOv 100000)) ∧
    ((fun (s : State) => s.varB .hsActive = true ∧ s.metCond .hsUv (s.oN Obj.hsVinFilt) = true ∧ (s.condOn 103 2 = false ∨ hsNextSt
      s ≠ 8) ∧ ¬ (hsNextSt s = 0 ∧ 2 ≤ s.varN .hsRem) ∧ hsRankNow s < 4) ((State.reset.setVar .hsActive 1).setVar .hsUv 100000)) ∧
    ((fun (s : State) => s.varB .hsActive = true ∧ s.metCond .hsWarn (s.oN Obj.hsVinFilt) = true ∧ s.condOn 103 1 = false)
      ((State.reset.setVar .hsActive 1).setVar .hsWarn 100000)) ∧
    ((fun (s : State) => hsNextSt s = 8 ∧ s.varB .hsGoto = false ∧ (if s.var .hsFault = 1 then decide (s.pin .hsVin < (s.o
      Obj.hsVinOv - s.o Obj.hsVinHys) * 10) else decide ((s.o Obj.hsVinUv + s.o Obj.hsVinHys) * 10 < s.pin .hsVin)) = true)
      ((State.reset.setO Obj.hsState 8).setVar .hsFault 1)) ∧
    ((fun (s : State) => s.metCond .hsFet 64 = true ∧ s.condOn 106 0 = false) (State.reset.setVar .hsFet 64)) ∧
    ((fun (s : State) => s.metCond .hsSense 8 = true ∧ s.condOn 106 1 = false) ((State.reset.setO Obj.hsState 4).setVar .hsSense 8)) := by
  and_intros <;> decide +kernel

/-- States and operands that meet the hypotheses of each clause of InputMonitorEvents. -/
theorem test_hypotheses_InputMonitorEvents :
    ((fun (s : State) => s.oN Obj.mgtState = 0 ∧ s.metCond .mgtWarn (s.oN Obj.mgtVwarnFilt) = true) (State.reset.setVar .mgtWarn
      100000)) ∧
    ((fun (s : State) => s.oN Obj.mgtState = 1 ∧ s.metCond .mgtRec (s.oN Obj.mgtRecTime) = true) ((State.reset.setO Obj.mgtState
      1).setVar .mgtRec 1000000)) ∧
    ((fun (s : State) (v : Nat) => v < 4200 ∧ s.oN Obj.mgtState ≠ 2 ∧ s.mgtOn = true) (State.reset) (4199)) ∧
    ((fun (s : State) => s.oN Obj.mgtState = 2 ∧ s.varB .mgtRec = true) ((State.reset.setO Obj.mgtState 2).setVar .mgtRec 1)) := by
  and_intros <;> decide +kernel

/-- States and operands that meet the hypotheses of each clause of MarshalEvents. -/
theorem test_hypotheses_MarshalEvents :
    ((fun (s : State) (src : Nat) => src < 256 ∧ s.dueTR .winT src = true) ((State.reset.setVar .winT 1 77).setO (Obj.srcWinCount
      77) 4) (77)) ∧
    ((fun (s : State) (src : Nat) => (256 ≤ src ∨ s.dueTR .winT src = false)) ((State.reset.setVar .nowRound 5).setVar .winT 7 77)
      (77)) ∧
    ((fun (s : State) (src : Nat) => src < 256 ∧ s.o (Obj.srcUncleared src) ≠ 0 ∧ s.o (Obj.srcCond src) = 0 ∧ s.varN .quietStart src
      + s.oN (Obj.srcQuiet src) * 1000 ≤ s.nowRound ∧ restartsQuiet src s = false) (State.reset.setO (Obj.srcUncleared 5) 3
      |>.setVar .nowRound 100000000) (5)) ∧
    ((fun (s : State) (src : Nat) => (256 ≤ src ∨ s.o (Obj.srcUncleared src) = 0 ∨ s.o (Obj.srcCond src) ≠ 0 ∨ restartsQuiet src s =
      true ∨ s.nowRound < s.varN .quietStart src + s.oN (Obj.srcQuiet src) * 1000)) (State.reset.setO (Obj.srcUncleared 5) 3) (5)) := by
  and_intros <;> decide +kernel

/-- States and operands that meet the hypotheses of each clause of ThermalEvents. -/
theorem test_hypotheses_ThermalEvents :
    ((fun (s : State) => converterFailed s = true ∧ s.condOn 124 0 = false) (State.reset.setO Obj.hkCalRun 10)) ∧
    ((fun (s : State) (i : Nat) => (List.range 25).find? (restorable s) = some i) ((State.reset.setO Obj.thBroken 4).setVar .thGood
      100000 2) (2)) := by
  and_intros <;> decide +kernel

/-- States and operands that meet the hypotheses of each clause of TeamLinkEvents. -/
theorem test_hypotheses_TeamLinkEvents :
    ((fun (s : State) (e : SentDelta) (rest : List SentDelta) => s.dsent = e :: rest ∧ teamed s = true ∧ e.frame + 6 ≤ s.now ∧
      s.varB .dqResend = false) ({ (State.reset.setO Obj.teamEn 1).setVar .now 6 with dsent := [⟨7, 0, ⟨1, 2, 3⟩⟩] })
      (⟨7, 0, ⟨1, 2, 3⟩⟩) ([])) ∧
    ((fun (s : State) (rx : MirrorRx) => teamed s = true ∧ s.mgtOn = true ∧ s.oN Obj.testActive ≠ 8 ∧ (rx.lock0 = false ∨ rx.lock1 =
      false)) (State.reset.setO Obj.teamEn 1) (⟨false, true, true, [], false⟩)) ∧
    ((fun (s : State) (rx : MirrorRx) => teamed s = true ∧ s.mgtOn = true ∧ s.oN Obj.testActive ≠ 8 ∧ rx.lock0 = true ∧ rx.lock1 =
      true ∧ rx.marks = true ∧ rx.blocks.length = 8 ∧ rx.blocks.any (fun b => b.length ≠ 38) = false ∧ (mirrorDecode rx).2.2 = 0 ∧
      field (mirrorDecode rx).1 0 1 = 1 ∧ (s.varB .lastFrame = false ∨ s.varN .missCnt ≠ 0 ∨ field (mirrorDecode rx).1 2 4 = s.varN
      .lastFrame % 2 ^ 32)) (State.reset.setO Obj.teamEn 1)
      (⟨true, true, true, List.replicate 8 (rsEncode (1 :: List.replicate 31 0)), false⟩)) ∧
    ((fun (s : State) => teamed s = true ∧ s.bit Obj.teamLink 3 = false ∧ 100 ≤ s.varN .goodCnt) ((State.reset.setO Obj.teamEn
      1).setVar .goodCnt 100)) ∧
    ((fun (s : State) (lane skew : Nat) => lane < 2 ∧ s.mgtOn = true) (State.reset) (1) (300)) ∧
    ((fun (s : State) (lane : Nat) => lane < 2) (State.reset) (1)) ∧
    ((fun (s : State) => role s = Role.standby ∧ 1000 ≤ s.varN .cfgBad ∧ s.mainOn = true) (((State.reset.setO Obj.teamRole 2).setVar
      .cfgBad 1000).setVar .mainOn 1)) ∧
    ((fun (s : State) => role s = Role.standby ∧ 1000 ≤ s.varN .cfgBad ∧ s.mainOn = false) ((State.reset.setO Obj.teamRole 2).setVar
      .cfgBad 1000)) ∧
    ((fun (s : State) (kind num : Nat) (x : NetSeen) => role s = Role.standby ∧ s.oB Obj.teamDriveChk = true ∧ 1 ≤ kind ∧ kind < 4 ∧
      impliedLevel s kind num = some (!x.high) ∧ 64000 ≤ x.ns) ((State.reset.setO Obj.teamRole 2).setO Obj.teamDriveChk 1) (1) (4)
      (⟨64000, true⟩)) := by
  and_intros <;> decide +kernel

/-- States and operands that meet the hypotheses of each clause of TokenEvents. -/
theorem test_hypotheses_TokenEvents :
    ((fun (s : State) (trigger gap : Nat) => role s = Role.standby ∧ teamed s = true ∧ reinFree s = true ∧ triggerHolds s trigger =
      true ∧ s.varB .reinPend = false) (((State.reset.setO Obj.teamEn 1).setO Obj.teamRole 2).setVar .missCnt 2) (0) (5)) ∧
    ((fun (s : State) (load : Nat) => s.varB .reinPend = true ∧ load < 250) (State.reset.setVar .reinPend 1) (249)) ∧
    ((fun (s : State) (load : Nat) => s.varB .reinPend = true ∧ 250 ≤ load ∧ role s = Role.standby) ((State.reset.setVar .reinPend
      1).setO Obj.teamRole 2) (250)) ∧
    ((fun (s : State) => s.pinB .reinIn = true ∧ teamed s = true ∧ role s ≠ Role.out ∧ s.mainOn = true) ((((State.reset.setO
      Obj.teamEn 1).setO Obj.teamRole 2).setPin .reinIn 1).setVar .mainOn 1)) ∧
    ((fun (s : State) => s.pinB .reinIn = true ∧ teamed s = true ∧ role s ≠ Role.out ∧ s.mainOn = false) (((State.reset.setO
      Obj.teamEn 1).setO Obj.teamRole 2).setPin .reinIn 1)) ∧
    ((fun (s : State) => holder s = true ∧ teamed s = true ∧ s.dueT .lostT = true ∧ s.bit Obj.teamLink 3 = false ∧ s.pinB .reinIn =
      false) (((State.reset.setO Obj.teamEn 1).setO Obj.teamRole 3).setVar .lostT 1)) ∧
    ((fun (s : State) => s.varB .yieldOn = true ∧ s.varN .yieldAt + 5 ≤ s.now ∧ s.pinB .reinIn = false ∧ s.mainOn = true)
      (((State.reset.setVar .yieldOn 1).setVar .now 5).setVar .mainOn 1)) ∧
    ((fun (s : State) => s.varB .yieldOn = true ∧ s.varN .yieldAt + 5 ≤ s.now ∧ s.pinB .reinIn = false ∧ s.mainOn = false)
      ((State.reset.setVar .yieldOn 1).setVar .now 5)) ∧
    ((fun (s : State) => s.varB .swapOn = true ∧ holder s = true ∧ s.varB .yieldOn = false ∧ s.dq = [] ∧ s.dsent = [])
      ((State.reset.setVar .swapOn 3).setO Obj.teamRole 3)) ∧
    ((fun (s : State) => s.varB .swapOn = true ∧ holder s = true ∧ s.varB .yieldOn = false ∧ s.varN .swapAt + 32 ≤ s.now)
      (((State.reset.setVar .swapOn 3).setO Obj.teamRole 3).setVar .now 32)) ∧
    ((fun (s : State) => teamed s = true ∧ s.varB .electable = true ∧ role s = Role.out ∧ s.varB .joinT = true ∧ s.varN .joinT + (if
      position s = 1 then 1000 else 0) ≤ s.now + 1 ∧ reinFree s = true) (((((State.reset.setO Obj.teamEn 1).setO Obj.sysMode
      3).setVar .mainOn 1).setVar .joinT 1).setVar .electable 1)) ∧
    ((fun (s : State) => teamed s = true ∧ role s = Role.out ∧ (s.mode = .setup ∨ s.mode = .run) ∧ s.mainOn = true ∧ faultFree s =
      true ∧ s.bit Obj.teamLink 3 = true ∧ s.varN .linkUpAt + 100 ≤ s.now + 1 ∧ s.varB .twinTok = true ∧ s.varB .admReq = false ∧
      (s.varB .readmitOk || (s.oB Obj.teamAutoAdmit && !s.varB .readmitT)) = true) ((((((((State.reset.setO Obj.teamEn 1).setO
      Obj.sysMode 3).setVar .mainOn 1).setBit Obj.teamLink 3 true).setVar .now 99).setVar .twinTok 1).setVar .readmitOk 1).setO
      Obj.marshalLevel 255)) ∧
    ((fun (s : State) => (s.oN Obj.teamAdmState = 1 ∨ s.oN Obj.teamAdmState = 2) ∧ (role s = Role.out ∨ holder s = true) ∧ (s.bit
      Obj.teamLink 3 = false ∨ (role s = Role.out ∧ s.varB .twinTok = false) ∨ (s.oN Obj.teamAdmState = 1 ∧ s.dueT .admT = true) ∨
 
          (s.oN Obj.teamAdmState = 2 ∧ s.dueT .admT = true ∧ (if role s = Role.out then s.varB .admEnd = false else xferDone s =
      false)))) (State.reset.setO Obj.teamAdmState 1)) ∧
    ((fun (s : State) => s.oN Obj.teamAdmState = 2 ∧ s.dueT .admT = true ∧ holder s = true ∧ xferDone s = true) (((State.reset.setO
      Obj.teamAdmState 2).setVar .admT 1).setO Obj.teamRole 1)) ∧
    ((fun (s : State) => s.oN Obj.teamAdmState = 2 ∧ s.dueT .admT = true ∧ role s = Role.out ∧ s.varB .admEnd = true ∧ s.pinB
      .reinIn = false ∧ s.mainOn = true ∧ s.varB .admReq = true) (((((State.reset.setO Obj.teamAdmState 2).setVar .admT 1).setVar
      .admEnd 1).setVar .admReq 1).setVar .mainOn 1)) ∧
    ((fun (s : State) => s.dueTR .readmitT = true) (State.reset.setVar .readmitT 1)) := by
  and_intros <;> decide +kernel

/-- States and operands that meet the hypotheses of each clause of StudbookEvents. -/
theorem test_hypotheses_StudbookEvents :
    ((fun (s : State) (e : QEntry) (q : List QEntry) => let u := offerRecords (slotsBy slot30End s); s.queue ≠ [] ∧ u.queue = e :: q
      ∧ u.mgtOn = true ∧ u.buf.length < 128 ∧ u.varN .asmFrame ≠ u.now + 1 ∧ foldTarget u e = none ∧ expHolds u (u.oN Obj.sbHead) =
      false ∧ u.oN Obj.sbHead < 8192)
      ({ State.reset with queue := [⟨0x0101, some (5, 2, 3), [1, 2], 7, 0, false, 9, 0, 1, false⟩] })
      (⟨0x0101, some (5, 2, 3), [1, 2], 7, 0, false, 9, 0, 1, false⟩) ([])) ∧
    ((fun (s : State) (e : QEntry) (q : List QEntry) (p : Nat) (d : List Byte) => let u := offerRecords (slotsBy slot30End s);
      s.queue ≠ [] ∧ u.queue = e :: q ∧ u.mgtOn = true ∧ u.buf.length < 128 ∧ u.varN .asmFrame ≠ u.now + 1 ∧ foldTarget u e = some
      (p, d))
      ({ (State.reset.setO Obj.sbHead 1).setO Obj.sbFoldTime 60 with queue := [⟨0x0101, some (5, 2, 3), [1, 2], 7, 0, false, 9, 0, 1, false⟩], buf := [⟨ringAddr 0 / 32, recordBytes ⟨0x0101, some (5, 2, 3), [1, 2], 7, 0, false, 9, 0, 1, false⟩ 0, 0, false⟩] })
      (⟨0x0101, some (5, 2, 3), [1, 2], 7, 0, false, 9, 0, 1, false⟩) ([]) (0) (recordBytes
      ⟨0x0101, some (5, 2, 3), [1, 2], 7, 0, false, 9, 0, 1, false⟩ 0)) ∧
    ((fun (s : State) (e : QEntry) (q : List QEntry) => let u := offerRecords (slotsBy slot30End s); s.queue ≠ [] ∧ u.queue = e :: q
      ∧ foldTarget u e = none ∧ expHolds u (u.oN Obj.sbHead) = true)
      ({ ((State.reset.setO Obj.sbExpState 1).setVar .expCnt 8192) with queue := [⟨0x0101, some (5, 2, 3), [1, 2], 7, 0, false, 9, 0, 1, false⟩] })
      (⟨0x0101, some (5, 2, 3), [1, 2], 7, 0, false, 9, 0, 1, false⟩) ([])) ∧
    ((fun (s : State) => s.oN Obj.sbExpState = 2 ∧ s.var .jobDone JobFor.exportSign.slot = 1) ((State.reset.setO Obj.sbExpState
      2).setVar .jobDone 1 JobFor.exportSign.slot)) ∧
    ((fun (s : State) => ((s.oN Obj.sbExpState = 3 ∧ s.varN .expSince + 60000 ≤ s.nowRound) ∨ (s.oN Obj.sbExpState = 2 ∧ s.var
      .jobDone JobFor.exportSign.slot = 2))) ((State.reset.setO Obj.sbExpState 3).setVar .nowRound 60000)) ∧
    ((fun (s : State) => s.oN Obj.sbBbState = 1 ∧ s.varN .bbLine = 1024 ∧ s.buf.length < 128) ((State.reset.setO Obj.sbBbState
      1).setVar .bbLine 1024)) := by
  and_intros <;> decide +kernel

/-- States and operands that meet the hypotheses of each clause of CollieEvents. -/
theorem test_hypotheses_CollieEvents :
    ((fun (s : State) (g : Nat) => g < 16 ∧ s.dueT .holdT g = true) (State.reset.setVar .holdT 1 15) (15)) ∧
    ((fun (s : State) => s.oN Obj.frameNumber % 100 = 0 ∧ s.varN .collieFrame ≠ s.now + 1 ∧ collieSt s = 1) (State.reset.setO
      Obj.collieState 1)) ∧
    ((fun (s : State) => s.oN Obj.frameNumber % 100 = 0 ∧ s.varN .collieFrame ≠ s.now + 1 ∧ collieSt s = 2) (State.reset.setO
      Obj.collieState 2)) ∧
    ((fun (s : State) => s.oN Obj.frameNumber % 100 = 0 ∧ s.varN .collieFrame ≠ s.now + 1 ∧ collieSt s ≠ 1 ∧ collieSt s ≠ 2)
      (State.reset.setO Obj.collieState 3)) ∧
    ((fun (s : State) => (s.oN Obj.frameNumber % 100 ≠ 0 ∨ s.varN .collieFrame = s.now + 1)) (State.reset.setO Obj.frameNumber 199)) ∧
    ((fun (s : State) => collieSt s = 2 ∧ s.varB .collieHit = true) ((State.reset.setO Obj.collieState 2).setVar .collieHit 1)) := by
  and_intros <;> decide +kernel

/-- States and operands that meet the hypotheses of each clause of SuspensionExpires. -/
theorem test_hypotheses_SuspensionExpires :
    ((fun (s : State) => collieSt s = 3 ∧ s.dueTR .collieBusyT = true) ((State.reset.setO Obj.collieState 3).setVar .collieBusyT 1)) := by
  and_intros <;> decide +kernel

/-- States and operands that meet the hypotheses of each clause of LedgerEvents. -/
theorem test_hypotheses_LedgerEvents :
    ((fun (s : State) => s.ledTx ≠ [] ∧ (role s = Role.solo ∨ (role s = Role.active ∧ txCovered s = true)))
      ({ State.reset.setO Obj.teamRole 1 with ledTx := [(5, 70), (0xFF, 30)] })) ∧
    ((fun (s : State) (r v f : Nat) => r < 52 ∧ s.ledTx = [(r, v), (0xFF, f)] ∧ role s = Role.solo)
      ({ State.reset.setO Obj.teamRole 1 with ledTx := [(5, 70), (0xFF, 30)] }) (5) (70) (30)) ∧
    ((fun (s : State) => (s.ledTx = [] ∨ (role s ≠ Role.solo ∧ (role s ≠ Role.active ∨ txCovered s = false)))) (State.reset)) ∧
    ((fun (s : State) => s.varN .ledgerAt + s.oN Obj.ledgerCommitRounds ≤ s.nowRound ∧ s.var .wbStage 0 = 0 ∧ s.var .wbStage 1 = 0 ∧
      s.waiters = []) (State.reset.setVar .nowRound 4000000000)) ∧
    ((fun (s : State) => s.nowRound < s.varN .ledgerAt + s.oN Obj.ledgerCommitRounds ∧ s.varB .wbAgain 0 = false ∧ s.varB .wbAgain 1
      = false) (State.reset)) ∧
    ((fun (s : State) (vpp : Nat) => s.mgtOn = true ∧ (s.varB .closeDue = true ∨ (vpp < 4300 ∧ s.varB .closeOff = false ∧ closedNow
      s = false)) ∧ 270 ≤ s.pin .cres) (State.reset.setPin .cres 270) (4299)) ∧
    ((fun (s : State) (vpp : Nat) => s.mgtOn = true ∧ (s.varB .closeDue = true ∨ (vpp < 4300 ∧ s.varB .closeOff = false ∧ closedNow
      s = false)) ∧ s.pin .cres < 270) (State.reset) (4299)) ∧
    ((fun (s : State) (vpp : Nat) => (s.mgtOn = false ∨ (s.varB .closeDue = false ∧ (4300 ≤ vpp ∨ s.varB .closeOff = true))))
      (State.reset) (4300)) ∧
    ((fun (s : State) (vpp : Nat) => s.mgtOn = true ∧ s.varB .closeDue = false ∧ vpp < 4300 ∧ s.varB .closeOff = false ∧ closedNow s
      = true) (State.reset.setVar .closeAt 1) (4299)) ∧
    ((fun (s : State) => commitClosing s = true ∧ s.var .wbStage 0 = 0 ∧ s.var .wbStage 1 = 0 ∧ s.var .wbStage 2 = 0 ∧ s.varB
      .wbAgain 0 = false ∧ s.varB .wbAgain 1 = false ∧ s.varB .closeStands = false)
      ({ ((State.reset.setPin .cres 270).setVar .now 100).setVar .commitLast 98 with jobs := [⟨5, .commit, true⟩] })) ∧
    ((fun (s : State) => commitClosing s = true)
      ({ ((((State.reset.setPin .cres 270).setVar .now 100).setVar .commitLast 98).setVar .wbStage 2).setVar .closeStands 1 with jobs := [⟨5, .commit, true⟩] })) ∧
    ((fun (s : State) => commitClosing s = false) (State.reset)) := by
  and_intros <;> decide +kernel

/-- States and operands that meet the hypotheses of each clause of CommitEvents. -/
theorem test_hypotheses_CommitEvents :
    ((fun (s : State) (b : BufLine) (r : List BufLine) => (s.buf.filter fun b => !b.committing) = b :: r ∧ b.entered + s.oN
      Obj.nvmCommitAge ≤ s.nowRound ∧ s.varB .commitReq = false)
      ({ State.reset.setVar .nowRound 100000 with buf := [⟨7, [], 0, false⟩] }) (⟨7, [], 0, false⟩) ([])) ∧
    ((fun (s : State) => s.varB .commitReq = true ∧ (jobRunning s 5).isNone = true ∧ 420 ≤ s.oN Obj.nvmCres)
      ({ (State.reset.setVar .commitReq 1).setO Obj.nvmCres 420 with buf := [⟨7, [], 0, false⟩] })) ∧
    ((fun (s : State) => s.varB .commitReq = true ∧ (jobRunning s 5).isNone = true ∧ s.oN Obj.nvmCres < 420 ∧ s.varN .refusedAt ≠
      s.now + 1) ((State.reset.setVar .commitReq 1).setO Obj.nvmCres 419)) ∧
    ((fun (s : State) => s.varB .commitReq = true ∧ (jobRunning s 5).isNone = true ∧ s.oN Obj.nvmCres < 420 ∧ s.varN .refusedAt =
      s.now + 1) (((State.reset.setVar .commitReq 1).setO Obj.nvmCres 419).setVar .refusedAt 1)) ∧
    ((fun (s : State) (b : BufLine) => (s.buf.find? fun b => b.committing) = some b ∧ (jobRunning s 5).isSome = true ∧ s.var
      .commitLast + 2 ≤ s.now ∧ s.waiters = [] ∧ 270 ≤ s.pin .cres)
      ({ ((State.reset.setPin .cres 270).setVar .now 9).setVar .commitLast 7 with buf := [⟨7, List.replicate 32 1, 0, true⟩], jobs := [⟨5, .commit, true⟩] })
      (⟨7, List.replicate 32 1, 0, true⟩)) ∧
    ((fun (s : State) (r : Nat) => waitSince s = some r ∧ r + 100 ≤ s.nowRound)
      ({ State.reset.setVar .nowRound 100 with waiters := [⟨0, [1], 0, false, 0⟩] }) (0)) ∧
    ((fun (s : State) => s.bit Obj.nvmCresFlags 0 = true ∧ s.bit Obj.nvmCresFlags 1 = false ∧ 491 ≤ s.varN .cresRound)
      ((State.reset.setBit Obj.nvmCresFlags 0 true).setVar .cresRound 491)) ∧
    ((fun (s : State) => 1000 ≤ s.varN .cresLowCnt) (State.reset.setVar .cresLowCnt 1000)) ∧
    ((fun (s : State) => s.bit Obj.nvmCresFlags 0 = true ∧ (0 < s.varN .cresRound ∧ s.varN .cresFrom + 100 < s.nowRound ∧ s.varN
      .cresRound ≤ 100 ∨ 552 ≤ s.varN .cresRound)) (((State.reset.setBit Obj.nvmCresFlags 0 true).setVar .nowRound 101).setVar
      .cresRound 100)) := by
  and_intros <;> decide +kernel

/-- States and operands that meet the hypotheses of each clause of MramOtpEvents. -/
theorem test_hypotheses_MramOtpEvents :
    ((fun (s : State) (d : List Byte) (n : Nat) => s.mgtOn = true ∧ scrubDue s = true ∧ mramDecode s (s.varN .scrubLine) = (d, some
      n) ∧ (n = 0 ∨ n < s.oN Obj.nvmRewriteThr)) (State.reset) (List.replicate 32 0) (0)) ∧
    ((fun (s : State) => s.mgtOn = true ∧ scrubDue s = true ∧ (mramDecode s (s.varN .scrubLine)).2 = none)
      ({ State.reset with mram := (List.range 9).map fun i => (3 * i, (0xA7 + 13 * i : Byte)) })) ∧
    ((fun (s : State) (differ : Nat) => s.varB .otpBusy = true ∧ otpConditions s = true ∧ differ = 0) ((((State.reset.setVar
      .otpBusy 1).setO Obj.mgtVin 1200).setO Obj.sysMode 3).setVar .otpValue 255) (0)) ∧
    ((fun (s : State) (differ : Nat) => s.varB .otpBusy = true ∧ otpConditions s = true ∧ differ ≠ 0 ∧ s.varN .otpWord < 256)
      ((((State.reset.setVar .otpBusy 1).setO Obj.mgtVin 1200).setO Obj.sysMode 3).setVar .otpWord 200) (2)) ∧
    ((fun (s : State) => s.varB .otpBusy = true ∧ otpConditions s = false ∧ s.varN .otpWord < 256) (State.reset.setVar .otpBusy 1)) := by
  and_intros <;> decide +kernel

/-- States and operands that meet the hypotheses of each clause of PackStateEvents. -/
theorem test_hypotheses_PackStateEvents :
    ((fun (s : State) => 8 ≤ s.varN .cntFault ∧ s.condOn 176 0 = false) (State.reset.setVar .cntFault 8)) ∧
    ((fun (s : State) => (s.varN .cntFault < 8 ∨ s.condOn 176 0 = true)) (State.reset.setVar .cntFault 7)) ∧
    ((fun (s : State) => 10 ≤ s.varN .readyCnt ∧ s.condOn 174 0 = false) (State.reset.setVar .readyCnt 10)) ∧
    ((fun (s : State) (soc : Nat) (high : Bool) => s.varB .restDue = true ∧ socOfRest s (s.var .minSum2) (s.var .minN2) = some (soc,
      high) ∧ s.varB .restFirst = true ∧ (s.oN Obj.estExState ≠ 3 ∨ high = true)) ((((State.reset.setVar .restDue 1).setVar
      .restFirst 1).setVar .minSum2 (State.reset.o (Obj.estOcv 0))).setVar .minN2 1) (0) (false)) ∧
    ((fun (s : State) => s.varB .restDue = true ∧ socOfRest s (s.var .minSum2) (s.var .minN2) = none) (((State.reset.setVar .restDue
      1).setVar .minSum2 1).setVar .minN2 1)) ∧
    ((fun (s : State) (soc : Nat) => s.varB .restDue = true ∧ s.varB .exGoto = false ∧ socOfRest s (s.var .minSum2) (s.var .minN2) =
      some (soc, false) ∧ s.oN Obj.estExState = 3 ∧ s.varB .restFirst = true) (((((State.reset.setVar .restDue 1).setVar .restFirst
      1).setVar .minSum2 (State.reset.o (Obj.estOcv 0))).setVar .minN2 1).setO Obj.estExState 3) (0)) ∧
    ((fun (s : State) (soc : Nat) (high : Bool) => s.varB .restDue = true ∧ socOfRest s (s.var .minSum2) (s.var .minN2) = some (soc,
      high) ∧ s.varB .restFirst = false) ((((State.reset.setVar .restDue 1).setVar .minSum2 (State.reset.o (Obj.estOcv 0))).setVar
      .minN2 1)) (0) (false)) ∧
    ((fun (s : State) => s.varB .wbAgain 2 = true ∧ s.var .wbStage 2 = 0 ∧ s.waiters = []) (State.reset.setVar .wbAgain 1 2)) ∧
    ((fun (s : State) => (s.varB .wbAgain 2 = false ∨ s.varB .wbStage 2 = true)) (State.reset)) ∧
    ((fun (s : State) => s.varN .wbStage 2 = 1 ∧ wbCommitted s 2 = true) (State.reset.setVar .wbStage 1 2)) ∧
    ((fun (s : State) => (s.varN .wbStage 2 ≠ 1 ∨ wbCommitted s 2 = false)) (State.reset)) := by
  and_intros <;> decide +kernel

/-- States and operands that meet the hypotheses of each clause of PackExerciseEvents. -/
theorem test_hypotheses_PackExerciseEvents :
    ((fun (s : State) => s.varB .exGoto = false ∧ s.oN Obj.estExState = 0 ∧ s.oB Obj.estExAuto = true ∧ s.o Obj.estExPeriod ≤ s.o
      Obj.estLearnAge) ((State.reset.setO Obj.estExAuto 1).setO Obj.estLearnAge 4000000000)) ∧
    ((fun (s : State) => s.varB .exGoto = false ∧ s.oN Obj.estExState = 5 ∧ s.dueTR .exT = true) ((State.reset.setO Obj.estExState
      5).setVar .exT 1)) ∧
    ((fun (s : State) (us vlow : Nat) => s.varB .exGoto = false ∧ s.oN Obj.estExState = 1 ∧ exReady s = true ∧ readyAt s (10 * s.o
      Obj.estExTarget) < s.o Obj.estReadyMin) ((((((((State.reset.setO Obj.sysMode 3).setO Obj.pwrSrc 1).setBit Obj.pwrFlags 1
      true).setO Obj.pwrChgState 5).setVar .restA 1 0).setVar .restA 1 4).setBit Obj.estFlags 0 true).setO Obj.estExState 1) (20)
      (470)) ∧
    ((fun (s : State) (us vlow : Nat) => s.varB .exGoto = false ∧ s.oN Obj.estExState = 1 ∧ exReady s = true ∧ s.o Obj.estReadyMin ≤
      readyAt s (10 * s.o Obj.estExTarget)) (((((((((State.reset.setO Obj.sysMode 3).setO Obj.pwrSrc 1).setBit Obj.pwrFlags 1
      true).setO Obj.pwrChgState 5).setVar .restA 1 0).setVar .restA 1 4).setBit Obj.estFlags 0 true).setO Obj.estExState 1).setO
      Obj.estReadyMin 0) (20) (470)) ∧
    ((fun (s : State) (us vlow : Nat) => s.varB .exGoto = false ∧ s.oN Obj.estExState = 2 ∧ s.o Obj.estSocRaw ≤ 10 * s.o
      Obj.estExTarget) ((State.reset.setO Obj.estExState 2).setO Obj.pwrSrc 3) (60) (470)) ∧
    ((fun (s : State) (us vlow : Nat) => s.varB .exGoto = false ∧ s.oN Obj.estExState = 2 ∧ s.dueTR .exT = true) (((State.reset.setO
      Obj.estExState 2).setO Obj.pwrSrc 3).setVar .exT 1) (60) (470)) ∧
    ((fun (s : State) => s.varB .exGoto = false ∧ s.oN Obj.estExState = 3 ∧ s.dueTR .exT = true) ((State.reset.setO Obj.estExState
      3).setVar .exT 1)) ∧
    ((fun (s : State) (us vlow why : Nat) => exRuns s = true ∧ exReason s = some why ∧ s.varN .exGoto ≠ 7) (((State.reset.setO
      Obj.estExState 2).setO Obj.pwrSrc 3).setO Obj.mgtState 1) (60) (470) (0)) ∧
    ((fun (s : State) (us vlow : Nat) => (exRuns s = false ∨ exReason s = none ∨ s.varN .exGoto = 7)) (State.reset) (60) (470)) := by
  and_intros <;> decide +kernel

/-- States and operands that meet the hypotheses of each clause of PowerPathEvents. -/
theorem test_hypotheses_PowerPathEvents :
    ((fun (s : State) (us vlow k : Nat) => s.oN Obj.pwrSrc ≠ 0 ∧ srcValid s (s.oN Obj.pwrSrc) = false ∧ firstSource s (s.oN
      Obj.pwrSrc) = some k ∧ k ≠ 3 ∧ (s.oN Obj.pwrSrc ≠ 2 ∨ s.mode ≠ .holdup)) ((State.reset.setO Obj.pwrSrc 2)) (60) (470) (1)) ∧
    ((fun (s : State) (us vlow : Nat) => s.oN Obj.pwrSrc ≠ 0 ∧ srcValid s (s.oN Obj.pwrSrc) = false ∧ firstSource s (s.oN
      Obj.pwrSrc) = some 3 ∧ (s.oN Obj.pwrSrc ≠ 2 ∨ s.mode ≠ .holdup)) (((State.reset.setO Obj.pwrSrc 1).setO Obj.mgtState 2).setBit
      Obj.pwrFlags 1 true) (60) (470)) ∧
    ((fun (s : State) (us vlow : Nat) => s.oN Obj.pwrSrc ≠ 0 ∧ srcValid s (s.oN Obj.pwrSrc) = false ∧ firstSource s (s.oN
      Obj.pwrSrc) = none ∧ (s.oN Obj.pwrSrc ≠ 2 ∨ s.mode ≠ .holdup)) (((State.reset.setO Obj.pwrSrc 1).setO Obj.mgtState 2)) (60)
      (470)) ∧
    ((fun (s : State) (us vlow : Nat) => s.oN Obj.pwrSrc = 2 ∧ vbusValid s = false ∧ s.mode = .holdup ∧ ponrPassed s = false ∧
      (mainQualified s && vinValid s) = false) (((((((State.reset.setO Obj.sysMode 5)).setO Obj.pwrSrc 2).setO Obj.teamRole 1).setO
      (Obj.seqStall 18) 0).setO (Obj.abLastgasp 6) 1).setO (Obj.seqState 18) 4) (60) (470)) ∧
    ((fun (s : State) (us vlow : Nat) => (s.oN Obj.pwrSrc = 0 ∨ srcValid s (s.oN Obj.pwrSrc) = true)) (State.reset) (60) (470)) ∧
    ((fun (s : State) (us vlow k : Nat) => ((higherSources s).find? fun k => s.metCond .hbCnt 20000 k && srcValid s k) = some k ∧
      s.oN Obj.pwrSrc ≠ 0 ∧ k ≠ 3) ((State.reset.setO Obj.pwrSrc 2).setVar .hbCnt 20000 1) (60) (470) (1)) ∧
    ((fun (s : State) => s.bit Obj.pwrFlags 0 = false ∧ 100 ≤ s.varN .packCnt ∧ packThere s = true) (((State.reset.setVar .packCnt
      100).setPin .packPres 1).setPin .packP 4000)) ∧
    ((fun (s : State) => s.bit Obj.pwrFlags 0 = true ∧ 2 ≤ s.varN .packMiss) ((State.reset.setBit Obj.pwrFlags 0 true).setVar
      .packMiss 2)) ∧
    ((fun (s : State) => 8 ≤ s.varN .tdisOut ∧ s.varB .tdisBad = false ∧ (s.oN Obj.pwrSrc ≠ 3 ∨ s.mode ≠ .holdup))
      (State.reset.setVar .tdisOut 8)) ∧
    ((fun (s : State) => 8 ≤ s.varN .tdisOut ∧ s.varB .tdisBad = false ∧ s.oN Obj.pwrSrc = 3 ∧ s.mode = .holdup ∧ ponrPassed s =
      false ∧ (mainQualified s && vinValid s) = false) ((((((((State.reset.setO Obj.sysMode 5)).setVar .tdisOut 8).setO Obj.pwrSrc
      3).setO Obj.teamRole 1).setO (Obj.seqStall 18) 0).setO (Obj.abLastgasp 6) 1).setO (Obj.seqState 18) 4)) ∧
    ((fun (s : State) => 8 ≤ s.varN .ocCnt ∧ s.bit Obj.pwrFlags 12 = false ∧ s.mode ≠ .holdup) (State.reset.setVar .ocCnt 8)) ∧
    ((fun (s : State) => 8 ≤ s.varN .ocCnt ∧ s.bit Obj.pwrFlags 12 = false ∧ s.mode = .holdup ∧ ponrPassed s = false ∧
      (mainQualified s && vinValid s) = false) (((((((State.reset.setO Obj.sysMode 5)).setVar .ocCnt 8).setO Obj.teamRole 1).setO
      (Obj.seqStall 18) 0).setO (Obj.abLastgasp 6) 1).setO (Obj.seqState 18) 4)) ∧
    ((fun (s : State) => s.mode = .holdup ∧ s.bit Obj.pwrFlags 12 = true ∧ 1008 ≤ s.varN .ocCnt ∧ s.bit Obj.pwrFlags 3 = true)
      (((((State.reset.setO Obj.sysMode 5)).setVar .ocCnt 1008).setBit Obj.pwrFlags 12 true).setBit Obj.pwrFlags 3 true)) ∧
    ((fun (s : State) (us vlow : Nat) => 4 ≤ s.varN .cutCnt ∧ s.oN Obj.pwrSrc = 3 ∧ (s.mode = .setup ∨ s.mode = .safe) ∧
      externalValid s = false) ((((State.reset.setVar .cutCnt 4).setO Obj.pwrSrc 3).setO Obj.sysMode 3).setO Obj.mgtState 2) (60)
      (470)) ∧
    ((fun (s : State) (us vlow : Nat) => 4 ≤ s.varN .cutCnt ∧ s.oN Obj.pwrSrc = 3 ∧ s.mode = .holdup ∧ ponrPassed s = false ∧ s.varB
      .cutHeld = false ∧ (mainQualified s && vinValid s) = false ∧ mainInputValid s = false) (((((((((State.reset.setO Obj.sysMode
      5)).setVar .cutCnt 4).setO Obj.pwrSrc 3).setO Obj.mgtState 2).setO Obj.teamRole 1).setO (Obj.seqStall 18) 0).setO
      (Obj.abLastgasp 6) 1).setO (Obj.seqState 18) 4) (60) (470)) ∧
    ((fun (s : State) (us vlow : Nat) => 4 ≤ s.varN .cutCnt ∧ s.oN Obj.pwrSrc = 3 ∧ s.mode = .holdup ∧ ponrPassed s = false ∧ s.varB
      .cutHeld = false ∧ (mainQualified s && vinValid s) = false ∧ mainInputValid s = true) ((((((State.reset.setVar .mgtRec 1).setO
      Obj.sysMode 5)).setVar .cutCnt 4).setO Obj.pwrSrc 3)) (60) (470)) ∧
    ((fun (s : State) (us vlow : Nat) => 4 ≤ s.varN .cutCnt ∧ s.oN Obj.pwrSrc = 3 ∧ s.mode = .holdup ∧ ponrPassed s = false ∧ s.varB
      .cutHeld = false ∧ (mainQualified s && vinValid s) = true) (((((State.reset.setO Obj.sysMode 5)).setVar .cutCnt 4).setO
      Obj.pwrSrc 3).setBit Obj.pwrFlags 9 true) (60) (470)) ∧
    ((fun (s : State) (v : Nat) => s.mgtOn = false ∧ v < 4000 ∧ s.varB .bkpValid = true) ((State.reset.setVar .mgtLost 1).setVar
      .bkpValid 1) (3999)) := by
  and_intros <;> decide +kernel

/-- States and operands that meet the hypotheses of each clause of HoldupEvents. -/
theorem test_hypotheses_HoldupEvents :
    ((fun (s : State) => s.mode = .holdup ∧ s.dueT .lgT = true ∧ ponrPassed s = false ∧ (mainQualified s && vinValid s) = false)
      ((((((((((State.reset.setO Obj.sysMode 5)).setVar .lgT 1).setO (Obj.seqStall 19) 0).setO (Obj.abLastgasp 7) 1).setO
      (Obj.seqState 19) 4).setO Obj.teamRole 1).setO (Obj.seqStall 18) 0).setO (Obj.abLastgasp 6) 1).setO (Obj.seqState 18) 4)) ∧
    ((fun (s : State) => (s.mode ≠ .holdup ∨ s.dueT .lgT = false ∨ ponrPassed s = true ∨ (mainQualified s && vinValid s) = true))
      (State.reset)) ∧
    ((fun (s : State) (us vlow : Nat) => s.mode = .holdup ∧ ponrPassed s = false ∧ mainQualified s = false ∧ 20 ≤ s.varN .mainCnt ∧
      s.varB .cutHeld = false) (((State.reset.setO Obj.sysMode 5)).setVar .mainCnt 20) (60) (470)) ∧
    ((fun (s : State) (us vlow : Nat) => s.mode = .holdup ∧ ponrPassed s = false ∧ mainQualified s = false ∧ 20 ≤ s.varN .mainCnt ∧
      s.varB .cutHeld = true ∧ s.oN Obj.pwrSrc = 3) (((((State.reset.setO Obj.sysMode 5)).setVar .mainCnt 20).setVar .cutHeld
      1).setO Obj.pwrSrc 3) (60) (470)) ∧
    ((fun (s : State) => s.mode = .holdup ∧ ponrPassed s = true ∧ railsDischarged s = true ∧ commitRuns s = false ∧ s.varB .modeReq
      2 = false ∧ s.varB .modeReq 1 = false) (((State.reset.setO Obj.sysMode 5)).setBit Obj.pwrFlags 10 true)) := by
  and_intros <;> decide +kernel

/-- States and operands that meet the hypotheses of each clause of ChargerEvents. -/
theorem test_hypotheses_ChargerEvents :
    ((fun (s : State) => s.varB .chgGoto = false ∧ chgFails s = none ∧ (s.oN Obj.pwrChgState = 0 ∨ s.oN Obj.pwrChgState = 6 ∨ s.oN
      Obj.pwrChgState = 7 ∨ (s.oN Obj.pwrChgState = 5 ∧ 10 ≤ s.varN .rechCnt))) ((((State.reset.setO Obj.pwrSrc 1).setO Obj.sysMode
      3).setBit Obj.pwrFlags 0 true).setO Obj.pwrPackEn 1)) ∧
    ((fun (s : State) => s.varB .chgGoto = false ∧ s.oN Obj.pwrChgState = 1 ∧ 100 ≤ s.varN .vpreCnt) ((State.reset.setO
      Obj.pwrChgState 1).setVar .vpreCnt 100)) ∧
    ((fun (s : State) => s.varB .chgGoto = false ∧ s.oN Obj.pwrChgState = 1 ∧ s.dueTR .chgT = true) ((State.reset.setO
      Obj.pwrChgState 1).setVar .chgT 1)) ∧
    ((fun (s : State) => s.varB .chgGoto = false ∧ s.oN Obj.pwrChgState = 2 ∧ s.o Obj.pwrVchg ≤ packMv s) ((State.reset.setO
      Obj.pwrChgState 2).setO Obj.pwrVpack 65535)) ∧
    ((fun (s : State) => s.varB .chgGoto = false ∧ s.oN Obj.pwrChgState = 3 ∧ 1000 ≤ s.varN .cvCnt) ((State.reset.setO
      Obj.pwrChgState 3).setVar .cvCnt 1000)) ∧
    ((fun (s : State) => s.varB .chgGoto = false ∧ s.oN Obj.pwrChgState = 4 ∧ s.dueTR .chgT = true) ((State.reset.setO
      Obj.pwrChgState 4).setVar .chgT 1)) ∧
    ((fun (s : State) (why : Nat) => chgFails s = some why) (State.reset.setO Obj.pwrChgState 2) (3)) ∧
    ((fun (s : State) => chgFails s = none) ((((State.reset.setO Obj.pwrSrc 1).setO Obj.sysMode 3).setBit Obj.pwrFlags 0 true).setO
      Obj.pwrPackEn 1)) ∧
    ((fun (s : State) => 8 ≤ s.varN .chgOvCnt ∧ packEn s = true ∧ s.condOn 162 0 = false) ((State.reset.setVar .chgOvCnt 8).setO
      Obj.pwrPackEn 1)) ∧
    ((fun (s : State) => s.varB .chgGoto = false ∧ (s.oN Obj.pwrChgState = 1 ∨ s.oN Obj.pwrChgState = 2 ∨ s.oN Obj.pwrChgState = 3)
      ∧ (s.o Obj.pwrSafety * 3600 ≤ s.o Obj.pwrTEq ∨ 72000 ≤ s.o Obj.pwrTWall)) ((State.reset.setO Obj.pwrChgState 2).setO
      Obj.pwrTWall 72000)) ∧
    ((fun (s : State) => (s.oN Obj.pwrChgState = 0 ∨ 4 ≤ s.oN Obj.pwrChgState ∨ (s.o Obj.pwrTEq < s.o Obj.pwrSafety * 3600 ∧ s.o
      Obj.pwrTWall < 72000) ∨ s.varB .chgGoto = true)) ((State.reset.setO Obj.pwrChgState 2).setO Obj.pwrTWall 71999)) ∧
    ((fun (s : State) (c : Nat) (cap sag : Int) => inputLimit s = some (c, cap, some sag) ∧ s.bit Obj.pwrFlags 6 = true ∧ s.dueTR
      .searchT = true ∧ s.o Obj.pwrIlimIn + 50 < cap) (((State.reset.setO Obj.pwrSrc 2).setBit Obj.pwrFlags 6 true).setVar .searchT
      1) (4) (900) (4500)) ∧
    ((fun (s : State) (c : Nat) (cap sag : Int) => inputLimit s = some (c, cap, some sag) ∧ s.bit Obj.pwrFlags 6 = true ∧ s.dueTR
      .searchT = true ∧ cap ≤ s.o Obj.pwrIlimIn + 50) ((((State.reset.setO Obj.pwrSrc 2).setBit Obj.pwrFlags 6 true).setVar .searchT
      1).setO Obj.pwrIlimIn 850) (4) (900) (4500)) ∧
    ((fun (s : State) (c : Nat) (cap sag : Int) => inputLimit s = some (c, cap, some sag) ∧ sourceMv s ≤ sag ∧ s.varB .sagOn = false
      ∧ s.bit Obj.pwrFlags 6 = true) (((State.reset.setO Obj.pwrSrc 2).setBit Obj.pwrFlags 6 true).setO Obj.pwrIsrc 800) (4) (900)
      (4500)) ∧
    ((fun (s : State) (c : Nat) (cap sag : Int) => inputLimit s = some (c, cap, some sag) ∧ sourceMv s ≤ sag ∧ s.varB .sagOn = false
      ∧ s.bit Obj.pwrFlags 6 = false) ((State.reset.setO Obj.pwrSrc 2).setO Obj.pwrIlimIn 800) (4) (900) (4500)) := by
  and_intros <;> decide +kernel

/-- States and operands that meet the hypotheses of each clause of PortAttachEvents. -/
theorem test_hypotheses_PortAttachEvents :
    ((fun (s : State) (pin term : Nat) => (portSt s = 0 ∨ portSt s = 1) ∧ s.bit Obj.portFlags 5 = false ∧ 1 ≤ term ∧ term ≤ 3)
      (State.reset) (1) (2)) ∧
    ((fun (s : State) (pin term : Nat) => (portSt s = 0 ∨ portSt s = 1) ∧ s.bit Obj.portFlags 5 = true) ((State.reset.setO
      Obj.portState 1).setBit Obj.portFlags 5 true) (1) (0)) ∧
    ((fun (s : State) (pin term : Nat) => (portSt s = 0 ∨ portSt s = 1) ∧ s.bit Obj.portFlags 5 = false ∧ term = 4 ∧ s.oN
      Obj.portRoleCfg = 1 ∧ s.varN .trySnk = 0) (State.reset.setO Obj.portRoleCfg 1) (1) (4)) ∧
    ((fun (s : State) (pin term : Nat) => (portSt s = 0 ∨ portSt s = 1) ∧ s.bit Obj.portFlags 5 = false ∧ term = 4 ∧ s.oN
      Obj.portRoleCfg = 1 ∧ s.varN .trySnk = 2) ((State.reset.setO Obj.portRoleCfg 1).setVar .trySnk 2) (1) (4)) ∧
    ((fun (s : State) (pin term : Nat) => (portSt s = 0 ∨ portSt s = 1) ∧ s.bit Obj.portFlags 5 = false ∧ term = 0 ∧ s.varN .trySnk
      ≠ 1) (State.reset.setO Obj.portState 1) (1) (0)) ∧
    ((fun (s : State) (pin term : Nat) => (portSt s = 3 ∨ portSt s = 5) ∧ term = 0) (State.reset.setO Obj.portState 3) (1) (0)) ∧
    ((fun (s : State) (pin term : Nat) => portSt s = 2 ∧ s.bit Obj.portFlags 7 = false ∧ 1 ≤ term ∧ term ≤ 3 ∧ pdContract s = false
      ∧ s.bit Obj.portFlags 3 = false) (((State.reset.setO Obj.sysMode 3).setO Obj.portState 2).setO Obj.portPowerRole 1) (1) (3)) ∧
    ((fun (s : State) => portSt s = 1 ∧ s.dueT .debT = true ∧ 1 ≤ s.varN .ccTerm ∧ s.varN .ccTerm ≤ 3 ∧ 4400 ≤ s.pin .vbus ∧
      sinkAllowed s = true) (((((State.reset.setO Obj.portState 1).setVar .debT 1).setVar .ccTerm 2).setPin .vbus 4400).setO
      Obj.sysMode 3)) ∧
    ((fun (s : State) => portSt s = 1 ∧ s.dueT .debT = true ∧ s.varN .ccTerm = 4 ∧ s.bit Obj.portFlags 5 = false ∧ s.oN
      Obj.portRoleCfg = 1 ∧ s.varN .trySnk = 2 ∧ sourceAllowed s = true) (((((((State.reset.setO Obj.portState 1).setVar .debT
      1).setVar .ccTerm 4).setO Obj.portRoleCfg 1).setO Obj.sysMode 3).setO Obj.pwrSrc 1).setVar .trySnk 2)) ∧
    ((fun (s : State) => portSt s = 1 ∧ s.dueT .debT = true ∧ s.bit Obj.portFlags 5 = true ∧ s.mode ≠ .boot ∧ (s.pin .vbus < 4400 ∨
      s.varN .ccTerm = 0 ∨ 3 < s.varN .ccTerm)) (((((State.reset.setO Obj.portState 1).setVar .debT 1).setVar .ccTerm 2).setBit
      Obj.portFlags 5 true).setO Obj.sysMode 3)) ∧
    ((fun (s : State) => (portSt s ≠ 1 ∨ s.dueT .debT = false ∨ ((1 ≤ s.varN .ccTerm ∧ s.varN .ccTerm ≤ 3 ∨ s.bit Obj.portFlags 5 =
      true) ∧ sinkAllowed s = false))) ((State.reset.setO Obj.portState 1).setVar .debT 1 |>.setVar .ccTerm 2)) ∧
    ((fun (s : State) => portSt s = 2 ∧ s.bit Obj.portFlags 7 = false ∧ s.pin .vbus < 3670 ∧ s.bit Obj.portFlags 3 = false)
      (((State.reset.setO Obj.sysMode 3).setO Obj.portState 2).setO Obj.portPowerRole 1)) ∧
    ((fun (s : State) => portSt s = 2 ∧ s.pin .vbus < 3670 ∧ (s.bit Obj.portFlags 3 = true ∨ s.bit Obj.portFlags 7 = true))
      (((State.reset.setO Obj.portState 2).setBit Obj.portFlags 7 true))) ∧
    ((fun (s : State) => (portSt s = 3 ∨ portSt s = 5) ∧ s.dueT .openT = true) ((State.reset.setO Obj.portState 5).setVar .openT 1)) ∧
    ((fun (s : State) (v pin term : Nat) => s.mgtOn = false ∧ 4000 < v ∧ 1 ≤ term ∧ term ≤ 3) (State.reset.setVar .mgtLost 1) (4001)
      (2) (1)) ∧
    ((fun (s : State) => portSt s = 3 ∧ s.bit Obj.portFlags 2 = false ∧ sourceAllowed s = true ∧ s.now ≤ s.varN .attAt + 275000)
      (((State.reset.setO Obj.sysMode 3).setO Obj.pwrSrc 1).setO Obj.portState 3)) ∧
    ((fun (s : State) => (portSt s ≠ 3 ∨ s.bit Obj.portFlags 2 = true ∨ sourceAllowed s = false ∨ s.varN .attAt + 275000 < s.now))
      (State.reset)) ∧
    ((fun (s : State) (kind val : Nat) => ((kind = 1 ∧ s.bit Obj.portFlags 1 = true ∧ portSt s = 2 ∧ 11 * (if s.bit Obj.portFlags 3
      then max (s.oN Obj.portVContract) (s.varN .reqV) else s.oN Obj.portVContract) < 10 * val) ∨ (kind = 2 ∧ s.bit Obj.portFlags 1
      = true ∧ portSt s = 2 ∧ 5 * s.oN Obj.portIContract < 4 * val) ∨ (kind = 3 ∧ s.bit Obj.portFlags 2 = true ∧ 1875 < val) ∨ (kind
      = 4 ∧ s.bit Obj.portFlags 1 = true ∧ 50 < val) ∨ (kind = 5 ∧ s.varB .ccIsol = false ∧ 6000 < val)) ∧ portSt s ≠ 5 ∧ ((s.hist
      .hTrip).filter fun f => decide ((s.now : Int) < f + 10000000)).length + 1 < s.oN Obj.portTripMax) ((State.reset.setBit
      Obj.portFlags 2 true).setO Obj.portTripMax 3) (3) (1876)) ∧
    ((fun (s : State) (kind val : Nat) => ((kind = 1 ∧ s.bit Obj.portFlags 1 = true ∧ portSt s = 2 ∧ 11 * (if s.bit Obj.portFlags 3
      then max (s.oN Obj.portVContract) (s.varN .reqV) else s.oN Obj.portVContract) < 10 * val) ∨ (kind = 2 ∧ s.bit Obj.portFlags 1
      = true ∧ portSt s = 2 ∧ 5 * s.oN Obj.portIContract < 4 * val) ∨ (kind = 3 ∧ s.bit Obj.portFlags 2 = true ∧ 1875 < val) ∨ (kind
      = 4 ∧ s.bit Obj.portFlags 1 = true ∧ 50 < val) ∨ (kind = 5 ∧ s.varB .ccIsol = false ∧ 6000 < val)) ∧ portSt s ≠ 5 ∧ s.oN
      Obj.portTripMax ≤ ((s.hist .hTrip).filter fun f => decide ((s.now : Int) < f + 10000000)).length + 1) (((((State.reset.setO
      Obj.sysMode 3).setO Obj.portState 2).setO Obj.portPowerRole 1).setBit Obj.portFlags 1 true).setO Obj.portTripMax 1) (4) (51)) ∧
    ((fun (s : State) (kind val : Nat) => ((kind = 1 ∧ s.bit Obj.portFlags 1 = true ∧ portSt s = 2 ∧ 11 * (if s.bit Obj.portFlags 3
      then max (s.oN Obj.portVContract) (s.varN .reqV) else s.oN Obj.portVContract) < 10 * val) ∨ (kind = 2 ∧ s.bit Obj.portFlags 1
      = true ∧ portSt s = 2 ∧ 5 * s.oN Obj.portIContract < 4 * val) ∨ (kind = 3 ∧ s.bit Obj.portFlags 2 = true ∧ 1875 < val) ∨ (kind
      = 4 ∧ s.bit Obj.portFlags 1 = true ∧ 50 < val) ∨ (kind = 5 ∧ s.varB .ccIsol = false ∧ 6000 < val)) ∧ portSt s = 5)
      (State.reset.setO Obj.portState 5) (5) (6001)) ∧
    ((fun (s : State) (kind val : Nat) => ¬ ((kind = 1 ∧ s.bit Obj.portFlags 1 = true ∧ portSt s = 2 ∧ 11 * (if s.bit Obj.portFlags
      3 then max (s.oN Obj.portVContract) (s.varN .reqV) else s.oN Obj.portVContract) < 10 * val) ∨ (kind = 2 ∧ s.bit Obj.portFlags
      1 = true ∧ portSt s = 2 ∧ 5 * s.oN Obj.portIContract < 4 * val) ∨ (kind = 3 ∧ s.bit Obj.portFlags 2 = true ∧ 1875 < val) ∨
      (kind = 4 ∧ s.bit Obj.portFlags 1 = true ∧ 50 < val) ∨ (kind = 5 ∧ s.varB .ccIsol = false ∧ 6000 < val))) (State.reset.setBit
      Obj.portFlags 2 true) (3) (1875)) ∧
    ((fun (s : State) (gone : Bool) => portSt s = 4 ∧ s.dueT .errT = true ∧ gone = true) ((State.reset.setO Obj.portState 4).setVar
      .errT 1) (true)) ∧
    ((fun (s : State) (gone : Bool) => gone = false) ((State.reset.setO Obj.portState 4).setVar .errT 1) (false)) ∧
    ((fun (s : State) (cc v : Nat) => portSt s = 2 ∧ s.bit Obj.portFlags 3 = true ∧ (cc < 150 ∨ v < 3670)) ((((State.reset.setO
      Obj.sysMode 3).setO Obj.portState 2).setO Obj.portPowerRole 1).setBit Obj.portFlags 3 true) (149) (5000)) ∧
    ((fun (s : State) (cc v : Nat) => (portSt s ≠ 2 ∨ s.bit Obj.portFlags 3 = false ∨ (150 ≤ cc ∧ 3670 ≤ v))) ((State.reset.setO
      Obj.portState 2).setBit Obj.portFlags 3 true) (150) (3670)) ∧
    ((fun (s : State) => s.bit Obj.portFlags 7 = true ∧ s.pin .vbus < 800 ∧ portSt s ≠ 2) (State.reset.setBit Obj.portFlags 7 true)) ∧
    ((fun (s : State) => s.bit Obj.portFlags 7 = true ∧ s.pin .vbus < 800 ∧ portSt s = 2) ((((State.reset.setO Obj.sysMode 3).setO
      Obj.portState 2).setO Obj.portPowerRole 1).setBit Obj.portFlags 7 true)) ∧
    ((fun (s : State) (gone : Bool) => (portSt s ≠ 4 ∨ s.dueT .errT = false) ∧ gone = true) ((State.reset.setO Obj.portState
      5).setVar .ccIsol 1) (true)) := by
  and_intros <;> decide +kernel

/-- States and operands that meet the hypotheses of each clause of PdMessageEvents. -/
theorem test_hypotheses_PdMessageEvents :
    ((fun (s : State) (pdos : List Pdo) (p : Pdo) => portSt s = 2 ∧ s.bit Obj.portFlags 7 = false ∧ pdMode s = true ∧ choosePdo
      (snkVmax s) (s.oN Obj.portSnkImax) pdos = some p) (((State.reset.setO Obj.sysMode 3).setO Obj.portState 2).setO
      Obj.portPowerRole 1) ([⟨true, 5000, 3000⟩]) (⟨true, 5000, 3000⟩)) ∧
    ((fun (s : State) (pdos : List Pdo) => portSt s = 2 ∧ s.bit Obj.portFlags 7 = false ∧ pdMode s = true ∧ choosePdo (snkVmax s)
      (s.oN Obj.portSnkImax) pdos = none) (((State.reset.setO Obj.sysMode 3).setO Obj.portState 2).setO Obj.portPowerRole 1)
      ([⟨true, 20000, 2250⟩])) ∧
    ((fun (s : State) => portSt s = 2 ∧ s.bit Obj.portFlags 3 = true ∧ s.varB .reqV = true ∧ pdMode s = true) (((((State.reset.setO
      Obj.sysMode 3).setO Obj.portState 2).setO Obj.portPowerRole 1).setBit Obj.portFlags 3 true).setVar .reqV 9000)) ∧
    ((fun (s : State) => portSt s = 3 ∧ s.bit Obj.portFlags 2 = true ∧ pdMode s = true ∧ pdContract s = false) (((State.reset.setO
      Obj.sysMode 3).setO Obj.portState 3).setBit Obj.portFlags 2 true)) ∧
    ((fun (s : State) => ¬ (portSt s = 2 ∧ pdMode s = true ∧ s.bit Obj.portFlags 3 = true ∧ s.varB .reqV = true) ∧ ¬ (portSt s = 3 ∧
      s.bit Obj.portFlags 2 = true ∧ pdMode s = true ∧ pdContract s = false)) (State.reset)) ∧
    ((fun (s : State) => s.bit Obj.portFlags 3 = true ∧ s.dueT .transT = true) (((((State.reset.setO Obj.sysMode 3).setO
      Obj.portState 2).setO Obj.portPowerRole 1).setBit Obj.portFlags 3 true).setVar .transT 1)) ∧
    ((fun (s : State) => portAttached s = true ∧ pdMode s = true) (((State.reset.setO Obj.sysMode 3).setO Obj.portState 2).setO
      Obj.portPowerRole 1)) ∧
    ((fun (s : State) (sent : Bool) => portSt s = 2 ∧ s.bit Obj.portFlags 7 = false ∧ pdMode s = true ∧ (sent = false ∨ vbusValid s
      = false ∨ vinValid s = true ∨ packUsable s = true) ∧ 1 ≤ s.varN .ccTerm ∧ s.varN .ccTerm ≤ 3) ((((State.reset.setO Obj.sysMode
      3).setO Obj.portState 2).setO Obj.portPowerRole 1).setVar .ccTerm 3) (false)) ∧
    ((fun (s : State) (sent : Bool) => portSt s = 3 ∧ pdMode s = true ∧ (sent = false ∨ vbusValid s = false ∨ vinValid s = true ∨
      packUsable s = true)) ((State.reset.setO Obj.sysMode 3).setO Obj.portState 3) (false)) ∧
    ((fun (s : State) (sent : Bool) => portAttached s = true ∧ pdMode s = true ∧ sent = true ∧ vbusValid s = true ∧ vinValid s =
      false ∧ packUsable s = false) (((((State.reset.setO Obj.sysMode 3).setO Obj.portState 2).setO Obj.portPowerRole 1).setBit
      Obj.portFlags 0 true).setO Obj.mgtState 2) (true)) ∧
    ((fun (s : State) => prAllowed s = true ∧ s.oN Obj.portPowerRole = 1) (((((State.reset.setO Obj.sysMode 3).setO Obj.portState
      2).setO Obj.portPowerRole 1).setO Obj.portContract 4).setO Obj.pwrSrc 1)) ∧
    ((fun (s : State) => prAllowed s = true ∧ s.oN Obj.portPowerRole = 2) ((((State.reset.setO Obj.sysMode 3).setO Obj.portState
      3).setO Obj.portPowerRole 2).setO Obj.pwrSrc 1)) ∧
    ((fun (s : State) => portAttached s = true ∧ pdMode s = true ∧ prAllowed s = false) (((State.reset.setO Obj.sysMode 3).setO
      Obj.portState 2).setO Obj.portPowerRole 1)) ∧
    ((fun (s : State) => portAttached s = true ∧ pdMode s = true ∧ (s.oN Obj.portDataRole = 2 ∨ s.bit Obj.portFlags 4 = false))
      ((((State.reset.setO Obj.sysMode 3).setO Obj.portState 2).setO Obj.portPowerRole 1).setO Obj.portDataRole 1)) ∧
    ((fun (s : State) => portAttached s = true ∧ pdMode s = true ∧ s.oN Obj.portDataRole ≠ 2 ∧ s.bit Obj.portFlags 4 = true)
      (((((State.reset.setO Obj.sysMode 3).setO Obj.portState 2).setO Obj.portPowerRole 1).setO Obj.portDataRole 1).setBit
      Obj.portFlags 4 true)) ∧
    ((fun (s : State) => portSt s = 2 ∧ s.bit Obj.portFlags 7 = false ∧ pdMode s = true ∧ s.varB .ownReq = true ∧ s.varB .ownPref =
      false ∧ s.varN .ownHow ≠ 2) ((((((State.reset.setO Obj.sysMode 3).setO Obj.portState 2).setO Obj.portPowerRole 1).setO
      Obj.portDataRole 1).setO Obj.portContract 4).setVar .ownReq 2)) ∧
    ((fun (s : State) => portSt s = 2 ∧ s.bit Obj.portFlags 7 = false ∧ pdMode s = true ∧ s.varB .ownReq = true ∧ s.varB .ownPref =
      true ∧ s.varN .ownHow ≠ 2) (((((((State.reset.setO Obj.sysMode 3).setO Obj.portState 2).setO Obj.portPowerRole 1).setO
      Obj.portDataRole 1).setO Obj.portContract 4).setVar .ownReq 2).setVar .ownPref 1)) ∧
    ((fun (s : State) (a : SwapAnswer) => s.dueT .drT = true ∧ portAttached s = true ∧ pdContract s = true ∧ pdMode s = true ∧ s.oN
      Obj.portDrPref + 1 ≤ 2 ∧ s.oN Obj.portDrPref + 1 ≠ s.oN Obj.portDataRole ∧ (portSt s = 3 ∨ s.varN .ccTerm = 3) ∧ a = .reject)
      ((((((((State.reset.setO Obj.sysMode 3).setO Obj.portState 2).setO Obj.portPowerRole 1).setO Obj.portDataRole 1).setO
      Obj.portContract 4).setO Obj.portDrPref 1).setVar .drT 1).setVar .ccTerm 3) (.reject)) ∧
    ((fun (s : State) (a : SwapAnswer) => s.dueT .drT = true ∧ portAttached s = true ∧ pdContract s = true ∧ pdMode s = true ∧ s.oN
      Obj.portDrPref + 1 ≤ 2 ∧ s.oN Obj.portDrPref + 1 ≠ s.oN Obj.portDataRole ∧ (portSt s = 3 ∨ s.varN .ccTerm = 3) ∧ a = .accept ∧
      1 ≤ s.oN Obj.portDataRole ∧ s.oN Obj.portDataRole ≤ 2) ((((((((State.reset.setO Obj.sysMode 3).setO Obj.portState 2).setO
      Obj.portPowerRole 1).setO Obj.portDataRole 1).setO Obj.portContract 4).setO Obj.portDrPref 1).setVar .drT 1).setVar .ccTerm 3)
      (.accept)) ∧
    ((fun (s : State) (a : SwapAnswer) => s.dueT .drT = true ∧ portAttached s = true ∧ pdContract s = true ∧ pdMode s = true ∧ s.oN
      Obj.portDrPref + 1 ≤ 2 ∧ s.oN Obj.portDrPref + 1 ≠ s.oN Obj.portDataRole ∧ portSt s = 2 ∧ s.varN .ccTerm ≠ 3)
      ((((((((State.reset.setO Obj.sysMode 3).setO Obj.portState 2).setO Obj.portPowerRole 1).setO Obj.portDataRole 1).setO
      Obj.portContract 4).setO Obj.portDrPref 1).setVar .drT 1).setVar .ccTerm 2) (.reject)) ∧
    ((fun (s : State) (a : SwapAnswer) => s.dueT .drT = true ∧ portAttached s = true ∧ pdContract s = true ∧ pdMode s = true ∧ (2 <
      s.oN Obj.portDrPref + 1 ∨ s.oN Obj.portDrPref + 1 = s.oN Obj.portDataRole)) (((((((State.reset.setO Obj.sysMode 3).setO
      Obj.portState 2).setO Obj.portPowerRole 1).setO Obj.portDataRole 1).setO Obj.portContract 4).setO Obj.portDrPref 2).setVar
      .drT 1) (.accept)) ∧
    ((fun (s : State) (a : SwapAnswer) => s.varN .ownReq = 2 ∧ ((s.varN .ownHow = 2 ∧ s.dueT .resendT = true ∧ (portSt s = 3 ∨
      s.varN .ccTerm = 3)) ∨ (s.varN .ownHow = 1 ∧ (portSt s = 3 ∨ s.varN .ccTerm = 3))) ∧ portAttached s = true ∧ pdMode s = true ∧
      s.oN Obj.portDataRole = 1 ∧ a = .accept) (((((((((State.reset.setO Obj.sysMode 3).setO Obj.portState 2).setO Obj.portPowerRole
      1).setO Obj.portDataRole 1).setO Obj.portContract 4).setVar .ownReq 2).setVar .ownHow 2).setVar .resendT 1).setVar .ccTerm 3)
      (.accept)) ∧
    ((fun (s : State) (a : SwapAnswer) => s.varN .ownReq = 1 ∧ ((s.varN .ownHow = 2 ∧ s.dueT .resendT = true ∧ (portSt s = 3 ∨
      s.varN .ccTerm = 3)) ∨ (s.varN .ownHow = 1 ∧ (portSt s = 3 ∨ s.varN .ccTerm = 3))) ∧ prAllowed s = true ∧ s.oN
      Obj.portPowerRole = 1 ∧ a = .accept) (((((((((((State.reset.setO Obj.sysMode 3).setO Obj.portState 2).setO Obj.portPowerRole
      1).setO Obj.portDataRole 1).setO Obj.portContract 4).setVar .ownReq 2).setVar .ownHow 2).setVar .resendT 1).setVar .ccTerm
      3).setVar .ownReq 1).setO Obj.pwrSrc 1) (.accept)) ∧
    ((fun (s : State) (a : SwapAnswer) => s.varB .ownReq = true ∧ s.varN .ownHow = 2 ∧ s.dueT .resendT = true ∧ ((s.varN .ownReq = 1
      ∧ prAllowed s = false) ∨ portAttached s = false ∨ pdMode s = false)) (((State.reset.setVar .ownReq 2).setVar .resendT
      1).setVar .ownHow 2) (.accept)) ∧
    ((fun (s : State) (a : SwapAnswer) => (s.varB .ownReq = false ∨ (s.varN .ownHow ≠ 2 ∧ s.varN .ownHow ≠ 1) ∨ (s.varN .ownHow = 2
      ∧ s.dueT .resendT = false) ∨ (s.varN .ownHow = 1 ∧ portSt s ≠ 3 ∧ s.varN .ccTerm ≠ 3))) (State.reset) (.accept)) ∧
    ((fun (s : State) => answersVdm s = true) ((((State.reset.setO Obj.sysMode 3).setO Obj.portState 2).setO Obj.portPowerRole
      1).setO Obj.portDataRole 1)) ∧
    ((fun (s : State) => answersVdm s = true) ((((State.reset.setO Obj.sysMode 3).setO Obj.portState 2).setO Obj.portPowerRole
      1).setO Obj.portDataRole 1)) ∧
    ((fun (s : State) (svid : Nat) => answersVdm s = true) ((((State.reset.setO Obj.sysMode 3).setO Obj.portState 2).setO
      Obj.portPowerRole 1).setO Obj.portDataRole 1) (22949)) ∧
    ((fun (s : State) (svid pos : Nat) => answersVdm s = true ∧ svid = 0x59A5 ∧ pos = 1 ∧ pdContract s = true ∧ s.oB Obj.portBenchEn
      = true ∧ s.bit Obj.portFlags 4 = false) ((((((State.reset.setO Obj.sysMode 3).setO Obj.portState 2).setO Obj.portPowerRole
      1).setO Obj.portDataRole 1).setO Obj.portContract 4).setO Obj.portBenchEn 1) (22949) (1)) ∧
    ((fun (s : State) (svid pos : Nat) => answersVdm s = true ∧ svid = 0x59A5 ∧ pos = 1 ∧ pdContract s = true ∧ s.oB Obj.portBenchEn
      = true ∧ s.bit Obj.portFlags 4 = true) (((((((State.reset.setO Obj.sysMode 3).setO Obj.portState 2).setO Obj.portPowerRole
      1).setO Obj.portDataRole 1).setO Obj.portContract 4).setO Obj.portBenchEn 1).setBit Obj.portFlags 4 true) (22949) (1)) ∧
    ((fun (s : State) (svid pos : Nat) => answersVdm s = true ∧ (svid ≠ 0x59A5 ∨ pos ≠ 1 ∨ pdContract s = false ∨ s.oB
      Obj.portBenchEn = false)) ((((State.reset.setO Obj.sysMode 3).setO Obj.portState 2).setO Obj.portPowerRole 1).setO
      Obj.portDataRole 1) (22949) (1)) ∧
    ((fun (s : State) (svid pos : Nat) => answersVdm s = true ∧ svid = 0x59A5 ∧ pos = 1 ∧ s.bit Obj.portFlags 4 = true)
      (((((State.reset.setO Obj.sysMode 3).setO Obj.portState 2).setO Obj.portPowerRole 1).setO Obj.portDataRole 1).setBit
      Obj.portFlags 4 true) (22949) (1)) ∧
    ((fun (s : State) (svid pos : Nat) => answersVdm s = true ∧ svid = 0x59A5 ∧ pos = 1 ∧ s.bit Obj.portFlags 4 = false)
      (((((State.reset.setO Obj.sysMode 3).setO Obj.portState 2).setO Obj.portPowerRole 1).setO Obj.portDataRole 1).setBit
      Obj.portFlags 4 false) (22949) (1)) ∧
    ((fun (s : State) (svid pos : Nat) => answersVdm s = true ∧ (svid ≠ 0x59A5 ∨ pos ≠ 1)) (((((State.reset.setO Obj.sysMode 3).setO
      Obj.portState 2).setO Obj.portPowerRole 1).setO Obj.portDataRole 1).setBit Obj.portFlags 4 false) (22949) (2)) := by
  and_intros <;> decide +kernel

/-- States and operands that meet the hypotheses of each clause of LoopbackEvents. -/
theorem test_hypotheses_LoopbackEvents :
    ((fun (s : State) (reads : List Int) (x : Nat) => s.oN Obj.testActive = x ∧ (x = 8 ∨ x = 0x0C ∨ x = 0x10 ∨ x = 0x11 ∨ x = 0x18)
      ∧ lbDrives s x = true ∧ lbAbortWhy s x = none ∧ s.varN .lbFrom + lbFrames s x ≤ s.now) ((((State.reset.setO Obj.testActive
      0x0C).setVar .lbMode (State.reset.mode.code + 1)).setVar .lbRole 0).setO (Obj.lbCount 0x0C) 3) ([1, 0]) (0x0C)) ∧
    ((fun (s : State) (reads : List Int) (x : Nat) => s.oN Obj.testActive = x ∧ (x = 1 ∨ x = 2) ∧ lbDrives s x = true ∧ lbAbortWhy s
      x = none ∧ s.varN .lbFrom ≤ s.now) (((((((State.reset.setO Obj.testActive 0x0C).setVar .lbMode (State.reset.mode.code +
      1)).setVar .lbRole 0).setO Obj.testActive 1).setO (Obj.lbCount 1) 3).setO (Obj.lbDepth 1) 1).setO (Obj.canState 0) 1) ([1, 0])
      (1)) ∧
    ((fun (s : State) (reads : List Int) => s.oN Obj.testActive = 0x19 ∧ lbDrives s 0x19 = true ∧ lbAbortWhy s 0x19 = none ∧ s.varN
      .lbFrom ≤ s.now) ((((((((State.reset.setO Obj.testActive 0x0C).setVar .lbMode (State.reset.mode.code + 1)).setVar .lbRole
      0).setO Obj.testActive 0x19).setO (Obj.lbCount 0x19) 3).setO Obj.sysMode 3).setVar .lbMode 4).setO Obj.teamRole 3 |>.setVar
      .lbRole 3) ([0, 1, 1, 120])) ∧
    ((fun (s : State) (x : Nat) => s.oN Obj.testActive = x ∧ loopbacks.contains x = true ∧ s.o (Obj.lbCount x) ≤ s.o (Obj.lbDone x)
      ∧ lbAbortWhy s x = none ∧ s.varB .lbRes = false ∧ s.varB .lbWhy = false) (((((State.reset.setO Obj.testActive 0x0C).setVar
      .lbMode (State.reset.mode.code + 1)).setVar .lbRole 0).setO (Obj.lbCount 0x0C) 3).setO (Obj.lbDone 0x0C) 3) (0x0C)) ∧
    ((fun (s : State) (x why : Nat) => s.oN Obj.testActive = x ∧ loopbacks.contains x = true ∧ lbAbortWhy s x = some why)
      ((((State.reset.setO Obj.testActive 0x0C).setVar .lbMode (State.reset.mode.code + 1)).setVar .lbRole 0).setVar .lbStop 1 0x0C)
      (0x0C) (1)) ∧
    ((fun (s : State) => s.oN Obj.testActive = 0xFF) (State.reset.setO Obj.testActive 0xFF)) ∧
    ((fun (s : State) (frame : List Byte) => s.mgtOn = true ∧ role s = Role.out ∧ frame.head? = some 0xE1) (State.reset) ([0xE1,
      7])) ∧
    ((fun (s : State) (frame : List Byte) => (s.mgtOn = false ∨ role s ≠ Role.out ∨ frame.head? ≠ some 0xE1)) (State.reset) ([0xE0,
      7])) ∧
    ((fun (s : State) (on : Bool) => s.mgtOn = true ∧ s.varB .extest ≠ on) (State.reset.setO Obj.testBscanEn 1) (true)) ∧
    ((fun (s : State) (on : Bool) => (s.mgtOn = false ∨ s.varB .extest = on)) (State.reset) (false)) := by
  and_intros <;> decide +kernel

/-- States and operands that meet the hypotheses of each clause of SecurityEvents. -/
theorem test_hypotheses_SecurityEvents :
    ((fun (s : State) (bad trng : Nat) => s.oN Obj.keyIdState = 1 ∧ otpConditions s = true ∧ s.varB .otpBusy = false ∧ s.oN
      Obj.frameNumber % 1000 = 0 ∧ s.varB .idDraw = true ∧ bad % 16 = 0) (((((State.reset.setO Obj.mgtVin 1200).setO Obj.sysMode
      3)).setO Obj.keyIdState 1).setVar .idDraw 1) (0) (0)) ∧
    ((fun (s : State) (bad trng : Nat) => s.oN Obj.keyIdState = 1 ∧ otpConditions s = true ∧ s.varB .otpBusy = false ∧ s.oN
      Obj.frameNumber % 1000 = 0 ∧ s.varB .idDraw = true ∧ bad % 16 ≠ 0 ∧ bad / 16 % 16 = 0) (((((State.reset.setO Obj.mgtVin
      1200).setO Obj.sysMode 3)).setO Obj.keyIdState 1).setVar .idDraw 1) (4) (0)) ∧
    ((fun (s : State) (bad trng : Nat) => s.oN Obj.keyIdState = 1 ∧ otpConditions s = true ∧ s.varB .otpBusy = false ∧ s.oN
      Obj.frameNumber % 1000 = 0 ∧ s.varB .idDraw = true ∧ bad % 16 ≠ 0 ∧ bad / 16 % 16 ≠ 0) (((((State.reset.setO Obj.mgtVin
      1200).setO Obj.sysMode 3)).setO Obj.keyIdState 1).setVar .idDraw 1) (20) (0)) ∧
    ((fun (s : State) (bad trng : Nat) => (s.oN Obj.keyIdState ≠ 1 ∨ otpConditions s = false ∨ s.varB .otpBusy = true ∨ s.oN
      Obj.frameNumber % 1000 ≠ 0)) (State.reset.setO Obj.keyIdState 1) (0) (0)) ∧
    ((fun (s : State) => s.var .jobDone JobFor.publicKey.slot = 1) (State.reset.setVar .jobDone 1 JobFor.publicKey.slot)) ∧
    ((fun (s : State) => s.varB .unwrapTodo = true ∧ s.mode ≠ .boot ∧ s.mgtOn = true) ((State.reset.setVar .unwrapTodo 1).setO
      Obj.sysMode 3)) ∧
    ((fun (s : State) => s.dueTR .ppT = true) ((State.reset.setVar .ppT 1).setO Obj.keyPresence 1)) ∧
    ((fun (s : State) (q : Req) => (portOf s (s.varN .claimPort - 1)).txn = some q ∧ s.varB .claimPort = true ∧ s.varN .claimStage =
      2 ∧ commitRuns s = false ∧ (claimLines q).all (fun l => (bufFind s l).isNone) = true ∧ q.port = s.varN .claimPort - 1 ∧ s.varN
      .claimPort ≤ 5 ∧ bodyTarget q < 4 ∧ (q.port = 4 → s.bit Obj.portFlags 4 = true))
      ({ ((State.reset.setBit Obj.portFlags 4 true).setVar .claimPort 5).setVar .claimStage 2 with ports := State.reset.ports.set 4 { PortState.idle with txn := some (⟨4, 0x06, 9, 0x4C00, 0x40, 0, 132, 0, [], 0, [3, 1, 0, 0] ++ List.replicate 128 7, {}⟩ : Req) } })
      ((⟨4, 0x06, 9, 0x4C00, 0x40, 0, 132, 0, [], 0, [3, 1, 0, 0] ++ List.replicate 128 7, {}⟩ : Req))) ∧
    ((fun (s : State) => (s.varB .claimPort = false ∨ s.varN .claimStage ≠ 2 ∨ commitRuns s = true)) (State.reset)) ∧
    ((fun (s : State) => s.oN Obj.keySnapState = 2 ∧ s.var .jobDone JobFor.snapSign.slot = 1) ((State.reset.setO Obj.keySnapState
      2).setVar .jobDone 1 JobFor.snapSign.slot)) ∧
    ((fun (s : State) => s.oN Obj.keySnapState = 2 ∧ s.var .jobDone JobFor.snapSign.slot = 2) ((State.reset.setO Obj.keySnapState
      2).setVar .jobDone 2 JobFor.snapSign.slot)) := by
  and_intros <;> decide +kernel

/-- States and operands that meet the hypotheses of each clause of ImageEvents. -/
theorem test_hypotheses_ImageEvents :
    ((fun (s : State) => s.varN .imgVerdict = 3) (State.reset.setVar .imgVerdict 3)) ∧
    ((fun (s : State) => s.varB .imgVerdict = true ∧ s.varN .imgVerdict ≠ 3) (State.reset.setVar .imgVerdict 5)) ∧
    ((fun (s : State) => s.varB .imgVerdict = false) (State.reset)) ∧
    ((fun (s : State) => activationDue s = false) (State.reset.setO Obj.imgPending 0xFE)) ∧
    ((fun (s : State) => activationDue s = true ∧ activationOk s (s.oN Obj.imgPending) = false) (((State.reset.setO Obj.sysMode
      3).setO Obj.imgPending 0).setVar .imgDue 1)) ∧
    ((fun (s : State) => activationDue s = true ∧ activationOk s (s.oN Obj.imgPending) = true) ((((State.reset.setO Obj.sysMode
      3).setO Obj.imgPending 0).setO Obj.imgState 2).setVar .imgDue 1)) := by
  and_intros <;> decide +kernel

/-- States and operands that meet the hypotheses of each clause of FrameEvents. -/
theorem test_hypotheses_FrameEvents :
    ((fun (s : State) (samples : List Sample) => s.mgtOn = true ∧ s.varB .restartFrame = false) (State.reset.setO Obj.frameNumber
      998) ([⟨.vpp, 0, 4500⟩])) ∧
    ((fun (s : State) (samples : List Sample) => s.mgtOn = true ∧ s.mode ≠ .boot)
      ({ ((State.reset.setO Obj.sysMode 3).post 5) with intake := [⟨3, 1, [], false⟩], arrived := [⟨4, 1, [], false⟩], lines := [6, 9, 17] })
      ([])) ∧
    ((fun (s : State) (samples : List Sample) => s.mgtOn = true ∧ s.mode ≠ .boot ∧ ((List.range 5).all fun p => (portOf s
      p).txn.isNone) = true)
      ({ ((State.reset.setO Obj.sysMode 3).post 5) with intake := [⟨3, 1, [], false⟩], arrived := [⟨4, 1, [], false⟩], lines := [6, 9, 17] })
      ([])) ∧
    ((fun (s : State) (samples : List Sample) (d : Deferred) (r : Row) => s.mgtOn = true ∧ s.mode ≠ .boot ∧ s.deferred = [d] ∧
      d.point = .nextFrame ∧ objRow s (keyIndex d.key) (keySub d.key) = some r ∧ r.apply = .nextFrame ∧ ((List.range 5).all fun p =>
      (portOf s p).txn.isNone) = true) ({ (State.reset.setO Obj.sysMode 3) with deferred := [⟨Obj.railVset 0, 900, .nextFrame⟩] })
      ([]) (⟨Obj.railVset 0, 900, .nextFrame⟩) ((dictRow 0x1100 2).get (by decide +kernel))) ∧
    ((fun (s : State) (samples : List Sample) => s.mgtOn = true ∧ s.mode = .run ∧ s.varB .modeReq Mode.safe.code = true ∧ teamed s =
      false ∧ s.varB .yieldOn = false) ((State.reset.setO Obj.sysMode 4).setVar .modeReq 8 Mode.safe.code) ([])) ∧
    ((fun (s : State) (samples : List Sample) => s.mgtOn = true ∧ s.varB .restartFrame = true) (State.reset.setVar .restartFrame 1)
      ([])) ∧
    ((fun (s : State) (samples : List Sample) => s.mgtOn = false) (State.reset.setVar .mgtLost 1) ([])) ∧
    ((fun (s : State) => s.mgtOn = true ∧ s.mode ≠ .boot ∧ s.oN Obj.frameNumber % 1000 = 0 ∧ s.varB .roundDone = false)
      (State.reset.setO Obj.sysMode 3)) ∧
    ((fun (s : State) => (s.mgtOn = false ∨ s.mode = .boot ∨ s.oN Obj.frameNumber % 1000 ≠ 0 ∨ s.varB .roundDone = true))
      (State.reset.setO Obj.sysMode 2)) := by
  and_intros <;> decide +kernel

/-- States and operands that meet the hypotheses of each clause of BootEvents. -/
theorem test_hypotheses_BootEvents :
    ((fun (s : State) (b : BootIn) => (s.mgtOn = false ∨ s.varB .porCount = false) ∧ 3720 < b.vpp ∧ (s.varB .shelfLatch = false ∨
      s.varB .wakeWhy = true)) (State.reset) (⟨4000, 8000, 0, 5, false, 0, [], [], false⟩)) ∧
    ((fun (s : State) (b : BootIn) => ((s.mgtOn = true ∧ s.varB .porCount = true) ∨ b.vpp ≤ 3720 ∨ (s.varB .shelfLatch = true ∧
      s.varB .wakeWhy = false))) (State.reset.setVar .shelfLatch 1) (⟨4000, 8000, 0, 5, false, 0, [], [], false⟩)) ∧
    ((fun (s : State) => s.mgtOn = true ∧ s.mode = .boot ∧ s.varB .porCount = true ∧ s.varN .terrierRec = 1 ∧ recordWaits s 0x0D40 =
      false) ((((State.reset.setO Obj.sysMode 2).setVar .porCount 1)).setVar .terrierRec 1)) ∧
    ((fun (s : State) => s.mgtOn = true ∧ s.mode = .boot ∧ s.varB .porCount = true ∧ (s.varN .terrierRec = 1 ∧ recordWaits s 0x0D40
      = true ∨ s.varN .terrierRec ≠ 1 ∧ bootRecordsWait s = true))
      ({ (((State.reset.setO Obj.sysMode 2).setVar .porCount 1)) with offers := [⟨0x0320, [], false⟩] })) ∧
    ((fun (s : State) => s.mgtOn = true ∧ s.mode = .boot ∧ s.varB .porCount = true ∧ s.varN .terrierRec ≠ 1 ∧ bootRecordsWait s =
      false ∧ externalValid s = false ∧ (srcValid s 3 = false ∨ s.varB .bootHoldSafe = false)) ((((State.reset.setO Obj.sysMode
      2).setVar .porCount 1)).setO Obj.mgtState 2)) ∧
    ((fun (s : State) => s.mgtOn = true ∧ s.mode = .boot ∧ s.varB .porCount = true ∧ s.varN .terrierRec ≠ 1 ∧ bootRecordsWait s =
      false ∧ s.varB .bootHoldSafe = false ∧ vinValid s = true) ((((State.reset.setO Obj.sysMode 2).setVar .porCount 1)).setPin
      .vinMain 6900)) ∧
    ((fun (s : State) => s.mgtOn = true ∧ s.mode = .boot ∧ s.varB .porCount = true ∧ s.varN .terrierRec ≠ 1 ∧ bootRecordsWait s =
      false ∧ s.varB .bootHoldSafe = false ∧ vinValid s = false ∧ vbusValid s = true) (((((State.reset.setO Obj.sysMode 2).setVar
      .porCount 1)).setO Obj.mgtState 2).setBit Obj.portFlags 0 true)) ∧
    ((fun (s : State) => s.mgtOn = true ∧ s.mode = .boot ∧ s.varB .porCount = true ∧ s.varN .terrierRec ≠ 1 ∧ bootRecordsWait s =
      false ∧ s.varB .bootHoldSafe = true ∧ (externalValid s = true ∨ srcValid s 3 = true)) ((((State.reset.setO Obj.sysMode
      2).setVar .porCount 1)).setVar .bootHoldSafe 1)) ∧
    ((fun (s : State) (v : Nat) => s.mgtOn = true ∧ s.mainOn = true ∧ v < 6600 ∧ s.mode ≠ .holdup ∧ canYield s = false)
      ((State.reset.setVar .mainOn 1).setO Obj.sysMode 3) (6599)) ∧
    ((fun (s : State) (v : Nat) => (s.mgtOn = false ∨ s.mainOn = false ∨ 6600 ≤ v)) ((State.reset.setVar .mainOn 1)) (6600)) ∧
    ((fun (s : State) => s.mgtOn = true ∧ s.mode = .setup ∧ s.bit Obj.sysBootStatus 5 = false ∧ 6900 ≤ s.pin .vinMain ∧ s.varB
      .modeReq 2 = false) ((State.reset.setO Obj.sysMode 3).setPin .vinMain 6900)) := by
  and_intros <;> decide +kernel

/-- States and operands that meet the hypotheses of each clause of PowerDownEvents. -/
theorem test_hypotheses_PowerDownEvents :
    ((fun (s : State) (v packP : Nat) => s.mgtOn = true ∧ v < 3670) (State.reset) (3669) (4000)) ∧
    ((fun (s : State) => s.mode = .holdup ∧ s.varB .entryTodo 5 = true ∧ s.oN Obj.pwrLgTime ≠ 0) (((State.reset.setO Obj.sysMode
      5).setVar .entryTodo 1 5).setO Obj.pwrLgTime 1000)) ∧
    ((fun (s : State) => s.mode = .holdup ∧ s.varB .entryTodo 5 = true ∧ s.oN Obj.pwrLgTime = 0) (((State.reset.setO Obj.sysMode
      5).setVar .entryTodo 1 5).setO Obj.pwrLgTime 0)) ∧
    ((fun (s : State) => s.mgtOn = true ∧ s.mode = .backup ∧ s.varB .entryTodo 1 = true ∧ commitRuns s = false) ((State.reset.setO
      Obj.sysMode 1).setVar .entryTodo 1 1)) ∧
    ((fun (s : State) => s.mgtOn = true ∧ s.mode = .shelf ∧ s.varB .entryTodo 0 = true ∧ commitRuns s = false) ((State.reset.setO
      Obj.sysMode 0).setVar .entryTodo 1 0)) ∧
    ((fun (s : State) => s.mgtOn = true ∧ s.mode = .shelf ∧ s.varB .shelfReady = true ∧ externalValid s = false ∧ commitRuns s =
      false ∧ s.queue.any (fun e => decide (e.code = 0x070A)) = false ∧ s.offers.any (fun o => decide (o.code = 0x070A)) = false ∧
      s.varB .modeReq Mode.boot.code = false ∧ shelfWrites s = false) (((State.reset.setO Obj.sysMode 0).setVar .shelfReady 1).setO
      Obj.mgtState 2)) ∧
    ((fun (s : State) => s.mgtOn = true ∧ s.mode = .shelf ∧ s.varB .shelfReady = true ∧ externalValid s = false ∧ commitRuns s =
      false ∧ s.queue.any (fun e => decide (e.code = 0x070A)) = false ∧ s.offers.any (fun o => decide (o.code = 0x070A)) = false ∧
      s.varB .modeReq Mode.boot.code = false ∧ shelfWrites s = true) (((((State.reset.setO Obj.sysMode 0).setVar .shelfReady 1).setO
      Obj.mgtState 2).setO Obj.nvmCres 420).setVar .commitReq 1)) ∧
    ((fun (s : State) => s.mgtOn = true ∧ s.mode = .shelf ∧ externalValid s = true) ((State.reset.setO Obj.sysMode 0).setVar
      .shelfArmed 1)) ∧
    ((fun (s : State) (why low v : Nat) => s.varB .shelfLatch = true ∧ s.varB .wakeWhy = false ∧ ((why = 0 ∧ 50 ≤ low) ∨ (why = 1 ∧
      4500 < v) ∨ (why = 2 ∧ 4000 < v ∧ 1 ≤ s.varN .ccTerm ∧ s.varN .ccTerm ≤ 3))) (State.reset.setVar .shelfLatch 1) (1) (0)
      (4501)) ∧
    ((fun (s : State) (why low v : Nat) => ((why = 0 ∧ low < 50) ∨ (why = 1 ∧ v ≤ 4500) ∨ (why = 2 ∧ v ≤ 4000) ∨ 3 ≤ why))
      (State.reset.setVar .shelfLatch 1) (1) (0) (4500)) := by
  and_intros <;> decide +kernel

/-- States and operands that meet the hypotheses of each clause of ModeAndSequencerWrites. -/
theorem test_hypotheses_ModeAndSequencerWrites :
    ((fun (s : State) (c : Plain) => plainOk s c (Obj.sysModeReq) = true ∧ c.data = [4] ∧ s.mode = .setup ∧ s.varB .activeBank =
      true ∧ s.mainOn = true ∧ tableOk s = true) ((setupState.setVar .activeBank 1).setVar .mainOn 1) (⟨0, 7, [4], 0⟩)) ∧
    ((fun (s : State) (c : Plain) => plainOk s c (Obj.sysModeReq) = true ∧ c.data = [3] ∧ s.mode = .run) (State.reset.setO
      Obj.sysMode 4) (⟨0, 7, [3], 0⟩)) ∧
    ((fun (s : State) (c : Plain) => plainOk s c (Obj.sysModeReq) = true ∧ c.data = [3] ∧ s.mode = .setup ∧ modeWaits s = false)
      (setupState) (⟨0, 7, [3], 0⟩)) ∧
    ((fun (s : State) (c : Plain) => plainOk s c (Obj.sysModeReq) = true ∧ c.data = [4] ∧ s.mode = .setup ∧ s.varB .activeBank =
      false) (setupState) (⟨0, 7, [4], 0⟩)) ∧
    ((fun (s : State) (c : Plain) => plainOk s c (Obj.sequencerCmd) = true ∧ c.data = [1] ∧ s.mode = .run ∧ s.varB .swapOn = false ∧
      (s.oN Obj.sequencerState = 5 ∨ 33 ≤ yardAt s)) ((State.reset.setO Obj.sysMode 4).setO Obj.sequencerState 5) (⟨0, 7, [1], 0⟩)) ∧
    ((fun (s : State) (c : Plain) => plainOk s c (Obj.sequencerCmd) = true ∧ c.data = [1] ∧ s.mode = .run ∧ s.varB .swapOn = false ∧
      s.oN Obj.sequencerState ≠ 5 ∧ yardAt s = 0 ∧ yardAlone s = true) ((State.reset.setO Obj.sysMode 4).setO Obj.yardMembers 1)
      (⟨0, 7, [1], 0⟩)) ∧
    ((fun (s : State) (c : Plain) => plainOk s c (Obj.sequencerCmd) = true ∧ c.data = [2] ∧ s.mode = .run ∧ s.varB .swapOn = false ∧
      (s.oN Obj.sequencerState = 5 ∨ 33 ≤ yardAt s ∨ yardAt s = 0)) ((State.reset.setO Obj.sysMode 4).setO Obj.sequencerState 5)
      (⟨0, 7, [2], 0⟩)) ∧
    ((fun (s : State) (c : Plain) => plainOk s c (Obj.sequencerCmd) = true ∧ c.data = [2] ∧ s.mode = .run ∧ s.varB .swapOn = false ∧
      s.oN Obj.sequencerState ≠ 5 ∧ yardAt s = 32 ∧ yardAlone s = true) (((State.reset.setO Obj.sysMode 4).setO Obj.yardMembers
      1).setO Obj.sequencerYardState 32) (⟨0, 7, [2], 0⟩)) ∧
    ((fun (s : State) (src : Nat) (c : Plain) => plainOk s c (Obj.srcUnack src) = true ∧ src < 256 ∧ c.data.length = 4)
      (setupState.setO (Obj.srcUnack 5) 7) (5) (⟨0, 7, [3, 0, 0, 0], 0⟩)) ∧
    ((fun (s : State) (c : Plain) => plainOk s c (Obj.marshalAckAll) = true ∧ c.data = [1]) (setupState.setO (Obj.srcUnack 5) 7)
      (⟨0, 7, [1], 0⟩)) ∧
    ((fun (s : State) (x : Nat) (c : Plain) => plainOk s c (Obj.lbCmd x) = true ∧ c.data = [1] ∧ loopbacks.contains x = true ∧
      lbBusy s = false ∧ s.oB Obj.testBscan = false ∧ lbExists s x = true ∧ lbCond s x (some c.port) = true) (setupState.setO
      Obj.testActive 0xFF) (12) (⟨0, 7, [1], 0⟩)) ∧
    ((fun (s : State) (x : Nat) (c : Plain) => plainOk s c (Obj.lbCmd x) = true ∧ c.data = [2] ∧ loopbacks.contains x = true)
      (setupState.setO (Obj.lbState 12) 1) (12) (⟨0, 7, [2], 0⟩)) := by
  and_intros <;> decide +kernel

/-- States and operands that meet the hypotheses of each clause of PowerAndPortWrites. -/
theorem test_hypotheses_PowerAndPortWrites :
    ((fun (s : State) (c : Plain) => plainOk s c (Obj.pwrCmd) = true ∧ c.data = [1]) ((setupState.setBit Obj.pwrFlags 11
      true).setVar .susCmd 1) (⟨0, 7, [1], 0⟩)) ∧
    ((fun (s : State) (c : Plain) => plainOk s c (Obj.pwrCmd) = true ∧ c.data = [2]) (setupState) (⟨0, 7, [2], 0⟩)) ∧
    ((fun (s : State) (c : Plain) => plainOk s c (Obj.pwrLgDone) = true ∧ c.data = [1] ∧ s.mode = .holdup ∧ ponrPassed s = false ∧
      (mainQualified s && vinValid s) = false) (((((State.reset.setO Obj.sysMode 5).setO Obj.teamRole 1).setO (Obj.seqStall 18)
      0).setO (Obj.abLastgasp 6) 1).setO (Obj.seqState 18) 4) (⟨0, 7, [1], 0⟩)) ∧
    ((fun (s : State) (c : Plain) => plainOk s c (Obj.pwrLgDone) = true ∧ c.data = [1] ∧ s.mode ≠ .holdup) (((((setupState).setO
      Obj.teamRole 1).setO (Obj.seqStall 18) 0).setO (Obj.abLastgasp 6) 1).setO (Obj.seqState 18) 4) (⟨0, 7, [1], 0⟩)) ∧
    ((fun (s : State) (c : Plain) => plainOk s c (Obj.estCmd) = true ∧ c.data = [1] ∧ (s.mode = .setup ∨ s.mode = .run) ∧ s.oN
      Obj.estExState ≠ 5 ∧ s.varB .exGoto = false) (setupState) (⟨0, 7, [1], 0⟩)) ∧
    ((fun (s : State) (c : Plain) => plainOk s c (Obj.estCmd) = true ∧ c.data = [2]) (setupState.setO Obj.estExState 2)
      (⟨0, 7, [2], 0⟩)) ∧
    ((fun (s : State) (a : SwapAnswer) (c : Plain) => plainOk s c (Obj.portCmd) = true ∧ c.data = [1] ∧ prAllowed s = true ∧ s.oN
      Obj.portPowerRole = 1 ∧ a = .accept ∧ (portSt s = 3 ∨ s.varN .ccTerm = 3)) (((((setupState.setO Obj.portState 2).setO
      Obj.portPowerRole 1).setO Obj.portContract 4).setO Obj.pwrSrc 1).setVar .ccTerm 3) (.accept) (⟨0, 7, [1], 0⟩)) ∧
    ((fun (s : State) (a : SwapAnswer) (c : Plain) => plainOk s c (Obj.portCmd) = true ∧ c.data = [1] ∧ prAllowed s = true ∧ a =
      .reject ∧ (portSt s = 3 ∨ s.varN .ccTerm = 3)) (((((setupState.setO Obj.portState 2).setO Obj.portPowerRole 1).setO
      Obj.portContract 4).setO Obj.pwrSrc 1).setVar .ccTerm 3) (.reject) (⟨0, 7, [1], 0⟩)) ∧
    ((fun (s : State) (a : SwapAnswer) (c : Plain) => plainOk s c (Obj.portCmd) = true ∧ c.data = [1] ∧ prAllowed s = false)
      (setupState) (.reject) (⟨0, 7, [1], 0⟩)) ∧
    ((fun (s : State) (a : SwapAnswer) (c : Plain) => plainOk s c (Obj.portCmd) = true ∧ c.data = [2] ∧ portAttached s = true ∧
      pdMode s = true ∧ s.oN Obj.portDataRole = 1 ∧ a = .accept ∧ (portSt s = 3 ∨ s.varN .ccTerm = 3)) (((((setupState.setO
      Obj.portState 2).setO Obj.portPowerRole 1).setO Obj.portContract 4).setO Obj.portDataRole 1).setVar .ccTerm 3) (.accept)
      (⟨0, 7, [2], 0⟩)) ∧
    ((fun (s : State) (a : SwapAnswer) (c : Plain) => plainOk s c (Obj.portCmd) = true ∧ c.data = [2] ∧ portAttached s = true ∧
      pdMode s = true ∧ a = .preempted ∧ portSt s = 2 ∧ s.varN .ccTerm = 3) ((((setupState.setO Obj.portState 2).setO
      Obj.portPowerRole 1).setO Obj.portContract 4).setVar .ccTerm 3) (.preempted) (⟨0, 7, [2], 0⟩)) ∧
    ((fun (s : State) (a : SwapAnswer) (c : Plain) => plainOk s c (Obj.portCmd) = true ∧ portAttached s = true ∧ pdMode s = true ∧
      portSt s = 2 ∧ s.varN .ccTerm ≠ 3) ((((setupState.setO Obj.portState 2).setO Obj.portPowerRole 1).setO Obj.portContract
      4).setVar .ccTerm 2) (.preempted) (⟨0, 7, [2], 0⟩)) ∧
    ((fun (s : State) (c : Plain) => plainOk s c (Obj.portCmd) = true ∧ c.data = [3] ∧ portSt s = 5) (setupState.setO Obj.portState
      5) (⟨0, 7, [3], 0⟩)) ∧
    ((fun (s : State) (c : Plain) => plainOk s c (Obj.portCmd) = true ∧ c.data = [4] ∧ s.bit Obj.portFlags 4 = true ∧ c.port ≠ 4)
      (setupState.setBit Obj.portFlags 4 true) (⟨0, 7, [4], 0⟩)) ∧
    ((fun (s : State) (c : Plain) => plainOk s c (Obj.portCmd) = true ∧ c.data = [4] ∧ s.bit Obj.portFlags 4 = true ∧ c.port = 4)
      (setupState.setBit Obj.portFlags 4 true) (⟨4, 7, [4], 0⟩)) := by
  and_intros <;> decide +kernel

/-- States and operands that meet the hypotheses of each clause of ClockAndStoreWrites. -/
theorem test_hypotheses_ClockAndStoreWrites :
    ((fun (s : State) (sec : Nat) (c : Plain) => plainOk s c (Obj.rtcSetTime) = true ∧ c.data = leBytes 6 (1024 * sec) ∧ sec ≤
      rtcEnd ∧ s.oN Obj.rtcSetMode = 0) (setupState.setO Obj.rtcSetMode 0) (86400) (⟨0, 7, leBytes 6 (1024 * 86400), 0⟩)) ∧
    ((fun (s : State) (c : Plain) => plainOk s c (Obj.rtcSetTime) = true ∧ c.data.length = 6 ∧ s.bit Obj.rtcStatus 0 = false ∧ s.oN
      Obj.rtcSetMode = 1 ∧ s.bit Obj.rtcStatus 2 = false ∧ ofLeBytes c.data / 1024 ≤ rtcEnd ∧ ((((ofLeBytes c.data : Nat) : Int) -
      s.o Obj.rtcNow) * 32).natAbs ≤ 16384) ((setupState.setO Obj.rtcSetMode 1).setO Obj.rtcStatus 2)
      (⟨0, 7, [5, 0, 0, 0, 0, 0], 0⟩)) ∧
    ((fun (s : State) (c : Plain) => plainOk s c (Obj.rtcSetCal) = true ∧ c.data.length = 8 ∧ secondsOf (ofLeBytes c.data) = none)
      ((setupState.setO Obj.rtcSetMode 1)) (⟨0, 7, [0, 0, 0, 0, 0, 0, 0, 0], 0⟩)) ∧
    ((fun (s : State) (c : Plain) => plainOk s c (Obj.rtcShift) = true ∧ c.data.length = 2 ∧ s.bit Obj.rtcStatus 0 = false ∧ s.bit
      Obj.rtcStatus 2 = false ∧ -16384 ≤ ofTwos 16 (ofLeBytes c.data) ∧ ofTwos 16 (ofLeBytes c.data) ≤ 16384) (setupState.setO
      Obj.rtcStatus 2) (⟨0, 7, [255, 255], 0⟩)) ∧
    ((fun (s : State) (c : Plain) => plainOk s c (Obj.rtcCal) = true ∧ c.data.length = 1 ∧ -127 ≤ ofTwos 8 (ofLeBytes c.data))
      (setupState) (⟨0, 7, [129], 0⟩)) ∧
    ((fun (s : State) (c : Plain) => plainOk s c (Obj.nvmCmd) = true ∧ c.data = [1]) (setupState) (⟨0, 7, [1], 0⟩)) ∧
    ((fun (s : State) (c : Plain) => plainOk s c (Obj.sbExpCmd) = true ∧ c.data = [1] ∧ s.oN Obj.sbExpState ≠ 1 ∧ s.oN
      Obj.sbExpState ≠ 2) (setupState.setO Obj.sbExpCount 1) (⟨0, 7, [1], 0⟩)) ∧
    ((fun (s : State) (c : Plain) => plainOk s c (Obj.sbExpCmd) = true ∧ c.data = [2]) (setupState.setO Obj.sbExpState 3)
      (⟨0, 7, [2], 0⟩)) ∧
    ((fun (s : State) (c : Plain) => plainOk s c (Obj.sbBbCmd) = true ∧ c.data = [1] ∧ (s.oN Obj.sbBbState = 1 ∨ (bbProtected s 0 =
      true ∧ bbProtected s 1 = true))) (setupState.setO Obj.sbBbState 1) (⟨0, 7, [1], 0⟩)) ∧
    ((fun (s : State) (c : Plain) => plainOk s c (Obj.sbBbCmd) = true ∧ c.data = [1] ∧ s.oN Obj.sbBbState ≠ 1 ∧ bbProtected s 0 =
      false) (setupState) (⟨0, 7, [1], 0⟩)) ∧
    ((fun (s : State) (c : Plain) => plainOk s c (Obj.sbBbCmd) = true ∧ c.data = [2] ∧ bbProtected s 0 = false ∧ bbProtected s 1 =
      false ∧ s.oN Obj.sbBbState ≠ 1) (setupState) (⟨0, 7, [2], 0⟩)) ∧
    ((fun (s : State) (c : Plain) => plainOk s c (Obj.sbBbCmd) = true ∧ c.data = [2]) (setupState) (⟨0, 7, [2], 0⟩)) ∧
    ((fun (s : State) (c : Plain) => plainOk s c (Obj.keySnapCmd) = true ∧ c.data = [1] ∧ s.oN Obj.keySnapState ≠ 1 ∧ s.oN
      Obj.keySnapState ≠ 2) (setupState) (⟨0, 7, [1], 0⟩)) ∧
    ((fun (s : State) (c : Plain) => plainOk s c (Obj.keySnapCmd) = true ∧ c.data = [2]) (setupState.setO Obj.keySnapState 3)
      (⟨0, 7, [2], 0⟩)) ∧
    ((fun (s : State) (r : Nat) (c : Plain) => plainOk s c (Obj.budgetAlloc r) = true ∧ r < 52 ∧ c.data.length = 4 ∧ s.oN
      Obj.budgetState ≠ 1 ∧ budgetBusy s = false ∧ s.oN (Obj.budgetFloor r) ≤ ofLeBytes c.data ∧ ofLeBytes c.data < s.oN
      (Obj.budgetAlloc r) ∧ s.varB .swapOn = false) (setupState.setO (Obj.budgetAlloc 5) 10) (5) (⟨0, 7, [9, 0, 0, 0], 0⟩)) ∧
    ((fun (s : State) (r : Nat) (c : Plain) => plainOk s c (Obj.budgetAlloc r) = true ∧ r < 52 ∧ c.data.length = 4 ∧ s.oN
      Obj.budgetState ≠ 1 ∧ budgetBusy s = false ∧ role s ≠ Role.active ∧ s.oN (Obj.budgetAlloc r) < ofLeBytes c.data ∧ s.oN
      (Obj.budgetFloor r) ≤ ofLeBytes c.data ∧ ofLeBytes c.data ≤ s.oN Obj.budgetFree + s.oN (Obj.budgetAlloc r) ∧ s.varB .swapOn =
      false) (setupState.setO Obj.budgetFree 10) (5) (⟨0, 7, [9, 0, 0, 0], 0⟩)) ∧
    ((fun (s : State) (r : Nat) (c : Plain) => plainOk s c (Obj.budgetAlloc r) = true ∧ r < 52 ∧ c.data.length = 4 ∧ (s.oN
      Obj.budgetState = 1 ∨ budgetBusy s = true ∨ s.varB .swapOn = true) ∧ s.oN (Obj.budgetFloor r) ≤ ofLeBytes c.data ∧ ofLeBytes
      c.data ≤ s.oN Obj.budgetFree + s.oN (Obj.budgetAlloc r)) ((setupState.setO Obj.budgetState 1).setO (Obj.budgetAlloc 5) 10) (5)
      (⟨0, 7, [9, 0, 0, 0], 0⟩)) := by
  and_intros <;> decide +kernel

/-- States and operands that meet the hypotheses of each clause of CollieAndInterruptAccesses. -/
theorem test_hypotheses_CollieAndInterruptAccesses :
    ((fun (s : State) (c : Plain) => plainOk s c (Obj.collieServe) = true ∧ c.data.length = 4 ∧ ofLeBytes c.data % 65536 = 0xA5C3 ∧
      collieSt s = 2 ∧ s.o Obj.collieOpen ≤ s.o Obj.collieCount ∧ collieMissing s = 0) ((setupState.setO Obj.collieState 2).setO
      Obj.collieOpen 0) (⟨0, 7, [0xC3, 0xA5, 7, 0], 0⟩)) ∧
    ((fun (s : State) (c : Plain) => plainOk s c (Obj.collieServe) = true ∧ c.data.length = 4 ∧ ofLeBytes c.data % 65536 = 0xA5C3 ∧
      collieSt s = 2 ∧ s.o Obj.collieCount < s.o Obj.collieOpen) ((setupState.setO Obj.collieState 2).setO Obj.collieOpen 5)
      (⟨0, 7, [0xC3, 0xA5, 7, 0], 0⟩)) ∧
    ((fun (s : State) (c : Plain) => plainOk s c (Obj.collieServe) = true ∧ c.data.length = 4 ∧ ofLeBytes c.data % 65536 ≠ 0xA5C3 ∧
      collieSt s ≠ 0 ∧ collieSt s ≠ 4) (setupState.setO Obj.collieState 2) (⟨0, 7, [0xC3, 0xA4, 7, 0], 0⟩)) ∧
    ((fun (s : State) (c : Plain) => plainOk s c (Obj.collieServe) = true ∧ c.data.length = 4 ∧ ofLeBytes c.data % 65536 = 0xA5C3 ∧
      collieSt s = 1) (setupState.setO Obj.collieState 1) (⟨0, 7, [0xC3, 0xA5, 7, 0], 0⟩)) ∧
    ((fun (s : State) (c : Plain) => plainOk s c (Obj.collieServe) = true ∧ c.data.length = 4 ∧ ofLeBytes c.data % 65536 = 0xA5C3 ∧
      collieSt s = 2 ∧ s.o Obj.collieOpen ≤ s.o Obj.collieCount ∧ collieMissing s ≠ 0) (((setupState.setO Obj.collieState 2).setO
      Obj.collieOpen 0).setO Obj.collieTasks 3) (⟨0, 7, [0xC3, 0xA5, 7, 0], 0⟩)) ∧
    ((fun (s : State) (c : Plain) => plainOk s c (Obj.collieServe) = true ∧ c.data.length = 4 ∧ ofLeBytes c.data % 65536 = 0xA5C3 ∧
      collieSt s = 3) (setupState.setO Obj.collieState 3) (⟨0, 7, [0xC3, 0xA5, 7, 0], 0⟩)) ∧
    ((fun (s : State) (c : Plain) => plainOk s c (Obj.collieServe) = true ∧ c.data.length = 4 ∧ (collieSt s = 0 ∨ collieSt s = 4))
      (setupState.setO Obj.collieState 4) (⟨0, 7, [0xC3, 0xA5, 7, 0], 0⟩)) ∧
    ((fun (s : State) (c : Plain) => plainOk s c (Obj.collieCheckin) = true ∧ c.data.length = 1 ∧ ofLeBytes c.data ≤ 15 ∧ collieSt s
      ≠ 0 ∧ collieSt s ≠ 4 ∧ s.bit Obj.collieChecked (ofLeBytes c.data) = false) (setupState.setO Obj.collieState 2)
      (⟨0, 7, [15], 0⟩)) ∧
    ((fun (s : State) (c : Plain) => plainOk s c (Obj.collieCheckin) = true ∧ c.data.length = 1 ∧ ofLeBytes c.data ≤ 15 ∧ collieSt s
      ≠ 0 ∧ collieSt s ≠ 4 ∧ s.bit Obj.collieChecked (ofLeBytes c.data) = true) ((setupState.setO Obj.collieState 2).setO
      Obj.collieChecked 1) (⟨0, 7, [0], 0⟩)) ∧
    ((fun (s : State) (c : Plain) => plainOk s c (Obj.collieHostbusy) = true ∧ c.data = [1] ∧ collieSt s = 2) (setupState.setO
      Obj.collieState 2) (⟨0, 7, [1], 0⟩)) ∧
    ((fun (s : State) (c : Plain) => plainOk s c (Obj.collieHostbusy) = true ∧ c.data = [1] ∧ collieSt s ≠ 2 ∧ collieSt s ≠ 3)
      (setupState.setO Obj.collieState 1) (⟨0, 7, [1], 0⟩)) ∧
    ((fun (s : State) (c : Plain) => plainOk s c (Obj.collieHostbusy) = true ∧ c.data = [0] ∧ collieSt s = 3) (setupState.setO
      Obj.collieState 3) (⟨0, 7, [0], 0⟩)) ∧
    ((fun (s : State) (tid i : Nat) => freeFor s (readReq 0 tid Obj.irqClaimA) = true ∧ lowestFor s 0 = some i) ((setupState.setVar
      .irqPend 1 9).setO (Obj.irqSrc 9) 4) (3) (9)) ∧
    ((fun (s : State) (tid : Nat) => freeFor s (readReq 1 tid Obj.irqClaimB) = true ∧ lowestFor s 1 = none) (setupState) (3)) ∧
    ((fun (s : State) (b : Bool) (port tid : Nat) => freeFor s (readReq port tid (if b then Obj.irqClaimB else Obj.irqClaimA)) =
      true ∧ port ≠ (if b then 1 else 0)) (setupState) (true) (0) (3)) ∧
    ((fun (s : State) (c : Plain) => freeFor s { plainReq c Obj.irqClear with opcode := 5 } = true ∧ c.data.length = 16)
      (setupState.setVar .irqPend 1 9) (⟨0, 7, 0 :: 2 :: List.replicate 14 0, 0⟩)) := by
  and_intros <;> decide +kernel

/-- States and operands that meet the hypotheses of each clause of KeyedModeAndPoolWrites. -/
theorem test_hypotheses_KeyedModeAndPoolWrites :
    ((fun (s : State) (c : Keyed) => keyedOk s c (Obj.sysSafeRelease) = true ∧ c.data = [1] ∧ s.mode = .safe ∧ s.mainOn = true ∧
      dieLatched s = false) ((enrolled.setO Obj.sysMode 7).setVar .mainOn 1) (signed (Obj.sysSafeRelease) [1])) ∧
    ((fun (s : State) (c : Keyed) => keyedOk s c (Obj.sysSafeRelease) = true ∧ c.data = [1] ∧ (s.mode ≠ .safe ∨ s.mainOn = false ∨
      dieLatched s = true)) (enrolled) (signed (Obj.sysSafeRelease) [1])) ∧
    ((fun (s : State) (c : Keyed) => keyedOk s c (Obj.sysReboot) = true ∧ c.data = [1] ∧ (s.mode = .setup ∨ s.mode = .run ∨ s.mode =
      .safe ∨ s.mode = .bench) ∧ dieLatched s = false) (enrolled) (signed (Obj.sysReboot) [1])) ∧
    ((fun (s : State) (c : Keyed) => keyedOk s c (Obj.sysShip) = true ∧ c.data = [1] ∧ (s.mode = .setup ∨ s.mode = .bench))
      (enrolled) (signed (Obj.sysShip) [1])) ∧
    ((fun (s : State) (c : Keyed) => keyedOk s c (Obj.sysShip) = true ∧ c.data = [0] ∧ (s.mode = .setup ∨ s.mode = .bench))
      (enrolled.setVar .shelfArmed 1) (signed (Obj.sysShip) [0])) ∧
    ((fun (s : State) (m n : Nat) (c : Keyed) => keyedOk s c (Obj.poolRestore m) = true ∧ m < 12 ∧ c.data.length = 1 ∧ ofLeBytes
      c.data = n ∧ phaseExists s n = true ∧ (listOf s m).contains n = true ∧ (railState s m = RS.off ∨ railState s m = RS.failed) ∧
      phaseFailed s n = true ∧ s.o (Obj.srcUncleared n) = 0) ((((enrolled.setO (Obj.railPlist 0 0) 3).setO (Obj.phaseState 3)
      PS.failed).setBit (Obj.wearStatus 3) 0 true)) (0) (3) (signed (Obj.poolRestore 0) [3])) ∧
    ((fun (s : State) (n : Nat) (c : Keyed) => keyedOk s c (Obj.wearReset n) = true ∧ c.data = [1] ∧ phaseExists s n = true ∧ s.oN
      (Obj.phaseState n) ≠ PS.switching) (enrolled.setO (Obj.wearScore 3) 40) (3) (signed (Obj.wearReset 3) [1])) ∧
    ((fun (s : State) (p : Nat) (c : Keyed) => keyedOk s c (Obj.padCmd p) = true ∧ c.data = [1] ∧ p < 8) (enrolled) (2) (signed
      (Obj.padCmd 2) [1])) ∧
    ((fun (s : State) (p : Nat) (c : Keyed) => keyedOk s c (Obj.padCmd p) = true ∧ c.data = [2] ∧ p < 8 ∧ s.oN (Obj.padState p) = 1
      ∧ pdisFree s p = true) ((enrolled.setO (Obj.padState 2) 1).setVar .pdisT 1 2) (2) (signed (Obj.padCmd 2) [2])) ∧
    ((fun (s : State) (p : Nat) (c : Keyed) => keyedOk s c (Obj.padCmd p) = true ∧ c.data = [2] ∧ p < 8 ∧ s.oN (Obj.padState p) = 1
      ∧ pdisFree s p = false) (enrolled.setO (Obj.padState 2) 1) (2) (signed (Obj.padCmd 2) [2])) ∧
    ((fun (s : State) (src sub : Nat) (r : Row) (v : Int) (c : Keyed) => keyedOk s c (objKey (0x2400 + src) sub) = true ∧ src < 256
      ∧ sub < 256 ∧ objRow s (0x2400 + src) sub = some r ∧ r.access = .rwk ∧ c.data.length = r.ty.size ∧ decodeVal r.ty c.data = v ∧
      inRange s r v = true ∧ withoutReserved s (objKey (0x2400 + src) sub) v = v ∧ writeCheck (objKey (0x2400 + src) sub)
      ((newestState s).setO (objKey (0x2400 + src) sub) v) = true) (enrolled) (5) (1) (((objRow enrolled 0x2405 1).get
      (by decide +kernel))) (1) (signed (Obj.srcReact 5 0) [1, 0])) := by
  and_intros <;> first
    | (with_reducible refine keyedOk_signed _ _ _ ?_ ?_ ?_ ?_) <;> decide +kernel
    | (with_reducible refine freeFor_tag _ _ (signedReq_tag _) ?_ ?_) <;> decide +kernel
    | (with_reducible refine keyedPass_signed _ _ ?_ ?_ ?_) <;> decide +kernel
    | decide +kernel

/-- States and operands that meet the hypotheses of each clause of KeyedTeamAndInputWrites. -/
theorem test_hypotheses_KeyedTeamAndInputWrites :
    ((fun (s : State) (v : Nat) (c : Keyed) => keyedOk s c (Obj.teamSwap) = true ∧ c.data.length = 1 ∧ ofLeBytes c.data = v ∧ v < 2
      ∧ teamed s = true ∧ (s.oN Obj.teamTwinRole = Role.standby ∨ s.oN Obj.teamTwinRole = Role.active) ∧ holder s = true ∧ v ≠ s.oN
      Obj.teamPosition) (((enrolled.setO Obj.teamEn 1).setO Obj.teamRole 3).setO Obj.teamTwinRole 2) (1) (signed (Obj.teamSwap)
      [1])) ∧
    ((fun (s : State) (c : Keyed) => keyedOk s c (Obj.teamSwap) = true ∧ c.data.length = 1 ∧ ofLeBytes c.data < 2 ∧ teamed s =
      false) (enrolled) (signed (Obj.teamSwap) [1])) ∧
    ((fun (s : State) (c : Keyed) => keyedOk s c (Obj.teamRelease) = true ∧ c.data = [1] ∧ role s = Role.standby) ((enrolled.setO
      Obj.teamEn 1).setO Obj.teamRole 2) (signed (Obj.teamRelease) [1])) ∧
    ((fun (s : State) (c : Keyed) => keyedOk s c (Obj.teamRelease) = true ∧ c.data = [1] ∧ role s = Role.active) ((enrolled.setO
      Obj.teamEn 1).setO Obj.teamRole 3) (signed (Obj.teamRelease) [1])) ∧
    ((fun (s : State) (c : Keyed) => keyedOk s c (Obj.teamRelease) = true ∧ c.data = [1] ∧ role s ≠ Role.active ∧ role s ≠
      Role.standby) (enrolled) (signed (Obj.teamRelease) [1])) ∧
    ((fun (s : State) (c : Keyed) => keyedOk s c (Obj.teamAdmit) = true ∧ c.data = [1]) (enrolled) (signed (Obj.teamAdmit) [1])) ∧
    ((fun (s : State) (c : Keyed) => keyedOk s c (Obj.hsCmd) = true ∧ c.data = [1] ∧ s.varB .hsActive = true ∧ hsSt s = HS.off ∧
      s.varB .hsGoto = false ∧ hsMayStart s = true) ((enrolled.setVar .hsActive 1).setO Obj.hsState HS.off) (signed (Obj.hsCmd)
      [1])) ∧
    ((fun (s : State) (c : Keyed) => keyedOk s c (Obj.hsCmd) = true ∧ c.data = [1] ∧ s.varB .hsActive = true ∧ hsSt s = HS.off ∧
      hsMayStart s = false) (((enrolled.setVar .hsActive 1).setO Obj.hsState HS.off).setBit Obj.hsFlags 7 true) (signed (Obj.hsCmd)
      [1])) ∧
    ((fun (s : State) (c : Keyed) => keyedOk s c (Obj.hsCmd) = true ∧ c.data = [1] ∧ s.varB .hsActive = false) (enrolled) (signed
      (Obj.hsCmd) [1])) ∧
    ((fun (s : State) (c : Keyed) => keyedOk s c (Obj.hsCmd) = true ∧ c.data = [2] ∧ s.varB .hsGoto = false ∧ (hsSt s = HS.inrush ∨
      hsSt s = HS.on ∨ hsSt s = HS.ready ∨ hsSt s = HS.cooldown ∨ hsSt s = HS.latched)) (enrolled.setO Obj.hsState HS.on) (signed
      (Obj.hsCmd) [2])) ∧
    ((fun (s : State) (c : Keyed) => keyedOk s c (Obj.thScaleMask) = true ∧ c.data.length = 4 ∧ (∀ r, objRow s (keyIndex
      Obj.thScaleMask) (keySub Obj.thScaleMask) = some r → inRange s r ((ofLeBytes c.data : Nat) : Int) = true) ∧ withoutReserved s
      Obj.thScaleMask ((ofLeBytes c.data : Nat) : Int) = ((ofLeBytes c.data : Nat) : Int) ∧ writeCheck Obj.thScaleMask ((newestState
      s).setO Obj.thScaleMask ((ofLeBytes c.data : Nat) : Int)) = true) (enrolled) (signed (Obj.thScaleMask) [7, 0, 0, 0])) ∧
    ((fun (s : State) (c : Keyed) => keyedOk s c (Obj.portBenchEn) = true ∧ c.data = [1]) (enrolled) (signed (Obj.portBenchEn) [1])) ∧
    ((fun (s : State) (c : Keyed) => keyedOk s c (Obj.portBenchEn) = true ∧ c.data = [0] ∧ s.bit Obj.portFlags 4 = true ∧ c.port ≠
      4) ((enrolled.setO Obj.portBenchEn 1).setBit Obj.portFlags 4 true) (signed (Obj.portBenchEn) [0])) ∧
    ((fun (s : State) (c : Keyed) => keyedOk s c (Obj.portBenchEn) = true ∧ c.data = [0] ∧ s.bit Obj.portFlags 4 = true ∧ c.port =
      4) ((enrolled.setO Obj.portBenchEn 1).setBit Obj.portFlags 4 true) (signed (Obj.portBenchEn) [0] 4)) := by
  and_intros <;> first
    | (with_reducible refine keyedOk_signed _ _ _ ?_ ?_ ?_ ?_) <;> decide +kernel
    | (with_reducible refine freeFor_tag _ _ (signedReq_tag _) ?_ ?_) <;> decide +kernel
    | (with_reducible refine keyedPass_signed _ _ ?_ ?_ ?_) <;> decide +kernel
    | decide +kernel

/-- States and operands that meet the hypotheses of each clause of KeyedStoreWrites. -/
theorem test_hypotheses_KeyedStoreWrites :
    ((fun (s : State) (c : Keyed) => keyedOk s c (Obj.rtcFsoClear) = true ∧ c.data = [1]) (enrolled.setO Obj.rtcStatus 48) (signed
      (Obj.rtcFsoClear) [1])) ∧
    ((fun (s : State) (c : Keyed) => keyedOk s c (Obj.otpProgCmd) = true ∧ c.data = [1] ∧ otpConditions s = true ∧ (s.oN
      Obj.otpProgWord = 34 ∨ (128 ≤ s.oN Obj.otpProgWord ∧ s.oN Obj.otpProgWord ≤ 255)) ∧ otpMarginal s (s.oN Obj.otpProgWord) =
      false ∧ otpWordAt s (s.oN Obj.otpProgWord) = 0 ∧ s.varB .otpBusy = false) ((enrolled.setO Obj.mgtVin 1200).setO
      Obj.otpProgWord 34) (signed (Obj.otpProgCmd) [1])) ∧
    ((fun (s : State) (c : Keyed) => keyedOk s c (Obj.otpProgCmd) = true ∧ c.data = [1] ∧ otpConditions s = false) (enrolled)
      (signed (Obj.otpProgCmd) [1])) ∧
    ((fun (s : State) (c : Keyed) => keyedOk s c (Obj.collieEn) = true ∧ c.data = [0]) (enrolled.setO Obj.collieState 2) (signed
      (Obj.collieEn) [0])) ∧
    ((fun (s : State) (c : Keyed) => keyedOk s c (Obj.collieEn) = true ∧ c.data = [1] ∧ collieSt s = 0) (enrolled) (signed
      (Obj.collieEn) [1])) ∧
    ((fun (s : State) (v : Nat) (c : Keyed) => keyedOk s c (Obj.keyRevoke) = true ∧ c.data.length = 1 ∧ ofLeBytes c.data = v ∧ 1 ≤ v
      ∧ v ≤ 3 ∧ s.oN (Obj.keyState v) ≠ 0 ∧ c.counter < 0xFFFF0000) (enrolled.setO (Obj.keyState 2) 1) (2) (signed (Obj.keyRevoke)
      [2])) ∧
    ((fun (s : State) (copies : Nat) (c : Keyed) => keyedOk s c (Obj.keyRelease) = true ∧ c.data = [1] ∧ (genAdvance 2 copies s).1 =
      .ok ∧ c.counter < 0xFFFF0000) (enrolled.setO Obj.mgtVin 1200) (7) (signed (Obj.keyRelease) [1])) ∧
    ((fun (s : State) (c : Keyed) => keyedOk s c (Obj.imgCmd) = true ∧ c.data = [1] ∧ imgBusy s = false) (enrolled) (signed
      (Obj.imgCmd) [1])) ∧
    ((fun (s : State) (c : Keyed) => keyedOk s c (Obj.imgCmd) = true ∧ c.data = [2] ∧ imgBusy s = false) (enrolled.setO
      Obj.imgResult 2) (signed (Obj.imgCmd) [2])) ∧
    ((fun (s : State) (c : Keyed) => keyedOk s c (Obj.imgCmd) = true ∧ c.data = [2] ∧ imgBusy s = true) (enrolled.setO Obj.imgResult
      1) (signed (Obj.imgCmd) [2])) ∧
    ((fun (s : State) (c : Keyed) => keyedOk s c (Obj.imgCmd) = true ∧ c.data = [3]) (enrolled.setO Obj.imgPending 0) (signed
      (Obj.imgCmd) [3])) ∧
    ((fun (s : State) (c : Keyed) => keyedOk s c (Obj.imgActivate) = true ∧ c.data.length = 1 ∧ (ofLeBytes c.data ≤ 0x3F ∨ ofLeBytes
      c.data = 0xFF) ∧ activationOk s (ofLeBytes c.data) = true) (enrolled.setO Obj.imgState 2) (signed (Obj.imgActivate) [0xFF])) ∧
    ((fun (s : State) (c : Keyed) => keyedOk s c (Obj.imgActivate) = true ∧ c.data.length = 1 ∧ (ofLeBytes c.data ≤ 0x3F ∨ ofLeBytes
      c.data = 0xFF) ∧ activationOk s (ofLeBytes c.data) = false) (enrolled) (signed (Obj.imgActivate) [0xFF])) ∧
    ((fun (s : State) (c : Keyed) => keyedOk s c (Obj.budgetGrant) = true ∧ c.data.length = 4 ∧ ofLeBytes c.data = s.oN
      Obj.budgetGrant ∧ s.oN Obj.budgetState ≠ 1 ∧ budgetBusy s = false) (enrolled) (signed (Obj.budgetGrant) (leBytes 4
      (enrolled.oN Obj.budgetGrant)))) ∧
    ((fun (s : State) (v : Nat) (c : Keyed) => keyedOk s c (Obj.budgetGrant) = true ∧ c.data.length = 4 ∧ ofLeBytes c.data = v ∧
      s.oN Obj.budgetGrant < v ∧ s.oN Obj.budgetState ≠ 1 ∧ budgetBusy s = false ∧ role s ≠ Role.active) (enrolled.setO
      Obj.budgetGrant 7) (65536) (signed (Obj.budgetGrant) [0, 0, 1, 0])) ∧
    ((fun (s : State) (v : Nat) (c : Keyed) => keyedOk s c (Obj.budgetGrant) = true ∧ c.data.length = 4 ∧ ofLeBytes c.data = v ∧ v <
      s.oN Obj.budgetGrant ∧ floorSum s ≤ v ∧ s.oN Obj.budgetState ≠ 1 ∧ budgetBusy s = false) (((enrolled.setO Obj.budgetGrant
      7).setO Obj.budgetFree 7)) (6) (signed (Obj.budgetGrant) [6, 0, 0, 0])) ∧
    ((fun (s : State) (c : Keyed) => keyedOk s c (Obj.testBscanEn) = true ∧ c.data = [1] ∧ (s.mode = .setup ∨ s.mode = .safe) ∧
      (role s = Role.out ∨ role s = Role.solo) ∧ allRails.all (fun r => !railOn s r && !decide (railState s r = RS.wait ∨ railState
      s r = RS.test)) = true) (enrolled) (signed (Obj.testBscanEn) [1])) ∧
    ((fun (s : State) (c : Keyed) => keyedOk s c (Obj.testBscanEn) = true ∧ c.data = [1] ∧ s.mode ≠ .setup ∧ s.mode ≠ .safe)
      (enrolled.setO Obj.sysMode 4) (signed (Obj.testBscanEn) [1])) := by
  and_intros <;> first
    | (with_reducible refine keyedOk_signed _ _ _ ?_ ?_ ?_ ?_) <;> decide +kernel
    | (with_reducible refine freeFor_tag _ _ (signedReq_tag _) ?_ ?_) <;> decide +kernel
    | (with_reducible refine keyedPass_signed _ _ ?_ ?_ ?_) <;> decide +kernel
    | decide +kernel

/-- States and operands that meet the hypotheses of each clause of SmallRequests. -/
theorem test_hypotheses_SmallRequests :
    ((fun (s : State) (q : Req) (r : Row) => q.opcode = 1 ∧ freeFor s q = true ∧ objRow s q.index q.sub = some r ∧ mayRead q r =
      true ∧ [Obj.nvmBad, Obj.irqPending, Obj.keyPub, Obj.keyImgPub, Obj.keySnapData, Obj.sbExpData, Obj.imgActive, Obj.irqClaimA,
      Obj.irqClaimB].contains (objKey q.index q.sub) = false ∧ nvmHome s (objKey q.index q.sub) = none) (setupState)
      (⟨0, 1, 7, 0x2801, 1, 0, 0, 0, [], 0, [], {}⟩) (((dictRow 0x2801 1).get (by decide +kernel)))) ∧
    ((fun (s : State) (q : Req) (r : Row) => q.opcode = 1 ∧ freeFor s q = true ∧ objRow s q.index q.sub = some r ∧ mayRead q r =
      false) ((setupState.setBit Obj.portFlags 4 true))
      (⟨4, 1, 7, keyIndex Obj.irqClaimA, keySub Obj.irqClaimA, 0, 0, 0, [], 0, [], {}⟩) (((dictRow (keyIndex Obj.irqClaimA) (keySub
      Obj.irqClaimA)).get (by decide +kernel)))) ∧
    ((fun (s : State) (q : Req) (st : Status) => q.opcode = 1 ∧ portUsable s q.port = true ∧ canTaken q s = true ∧ (portOf s
      q.port).txn = none ∧ isReplay q s = false ∧ preCheck q (takeIn q.port s) = st ∧ st ≠ .ok ∧ slotFree s q.port = true)
      (setupState) (⟨0, 1, 7, 0x0FFF, 1, 0, 0, 0, [], 0, [], {}⟩) (.noObject)) ∧
    ((fun (s : State) (q : Req) => q.opcode = 1 ∧ portUsable s q.port = true ∧ canTaken q s = true ∧ (portOf s q.port).txn = none ∧
      isReplay q s = false ∧ (4 ≤ s.varN .dSlots ∨ dictionaryHead (backToQueue q.port s) ≠ some q.port)) (setupState.setVar .dSlots
      4) (⟨0, 1, 7, 0x2801, 1, 0, 0, 0, [], 0, [], {}⟩)) ∧
    ((fun (s : State) (q : Req) (r : Row) (k : Nat) (v : Int) => q.opcode = 2 ∧ freeFor s q = true ∧ k = objKey q.index q.sub ∧
      objRow s q.index q.sub = some r ∧ (r.access = .rw ∨ (r.access = .rws ∧ s.mode = .setup)) ∧ outsideMargins q r s = false ∧
      storeOk s k = true ∧ q.data.length = r.ty.size ∧ decodeVal r.ty q.data = v ∧ [Obj.sysModeReq, Obj.budgetGrant,
      Obj.portCmd].contains k = false ∧ commandA q.port k v.toNat (takeIn q.port s) = none ∧ commandB q.port q.slot 0 k v (takeIn
      q.port s) = none ∧ inRange (takeIn q.port s) r v = true ∧ lbLocked s k = false ∧ withoutReserved s k v = v ∧ writeCheck k
      ((newestState (takeIn q.port s)).setO k v) = true ∧ inForceOk k ((takeIn q.port s).setO k v) = true ∧ r.apply ≠ .immediate ∧
      r.apply ≠ .none) (setupState) (⟨0, 2, 7, 0x0100, 1, 0, 1, 0, [], 0, [1], {}⟩) (((dictRow 0x0100 1).get (by decide +kernel)))
      (0x010001) (1)) ∧
    ((fun (s : State) (q : Req) (r : Row) => q.opcode = 2 ∧ freeFor s q = true ∧ objRow s q.index q.sub = some r ∧ (r.access = .ro ∨
      r.access = .rwk)) (setupState) (⟨0, 2, 7, 0x2801, 1, 0, 1, 0, [], 0, [1], {}⟩) (((dictRow 0x2801 1).get (by decide +kernel)))) ∧
    ((fun (s : State) (q : Req) (r : Row) => q.opcode = 2 ∧ freeFor s q = true ∧ objRow s q.index q.sub = some r ∧ r.access = .rws ∧
      q.data.length = r.ty.size ∧ s.mode ≠ .setup) (State.reset.setO Obj.sysMode 4) (⟨0, 2, 7, 0x0100, 1, 0, 1, 0, [], 0, [1], {}⟩)
      (((dictRow 0x0100 1).get (by decide +kernel)))) ∧
    ((fun (s : State) (q : Req) (copies : Nat) => q.opcode = 3 ∧ q.index = keyIndex Obj.portBenchEn ∧ q.sub = keySub Obj.portBenchEn
      ∧ q.data = [1] ∧ freeFor s q = true ∧ keyedPass s q = true ∧ storeOk s Obj.portBenchEn = true ∧ engineFree s = true)
      (enrolled) (signedReq (keyedReq ⟨0, 7, 0, 1, [], [1], 0⟩ Obj.portBenchEn)) (0)) ∧
    ((fun (s : State) (q : Req) (copies : Nat) (r : Row) => q.opcode = 3 ∧ freeFor s q = true ∧ objRow s q.index q.sub = some r ∧
      r.access = .ro) (setupState) (⟨0, 3, 7, 0x2801, 1, 0, 1, 0, List.replicate 8 0, 0, [1], {}⟩) (0) (((dictRow 0x2801 1).get
      (by decide +kernel)))) ∧
    ((fun (s : State) (q : Req) (copies : Nat) (r : Row) => q.opcode = 3 ∧ freeFor s q = true ∧ objRow s q.index q.sub = some r ∧
      r.access ≠ .ro ∧ s.oN (Obj.keyState 0) = 1 ∧ s.bit Obj.keyStatus 0 = true ∧ q.slot < 4 ∧ s.oN (Obj.keyState q.slot) ≠ 1 ∧
      engineFree s = true) (enrolled)
      (⟨0, 3, 7, keyIndex Obj.portBenchEn, keySub Obj.portBenchEn, 2, 1, 5, List.replicate 8 0, 0, [1], {}⟩) (0) (((dictRow
      (keyIndex Obj.portBenchEn) (keySub Obj.portBenchEn)).get (by decide +kernel)))) ∧
    ((fun (s : State) (q : Req) (r : Row) => let u := beforeDictionary (backToQueue q.port (hold q {} (takeIn q.port s))); q.opcode
      = 1 ∧ portUsable s q.port = true ∧ canTaken q s = true ∧ (portOf s q.port).txn = none ∧ isReplay q s = false ∧ s.varB .jobDone
      (JobFor.tagCheck q.port).slot = false ∧ s.varN .dSlots < 4 ∧ dictionaryHead (backToQueue q.port s) = some q.port ∧ preCheck q
      u = .ok ∧ (q.port = 4 → u.bit Obj.portFlags 4 = true) ∧ objRow u q.index q.sub = some r ∧ mayRead q r = true ∧ [Obj.nvmBad,
      Obj.irqPending, Obj.keyPub, Obj.keyImgPub, Obj.keySnapData, Obj.sbExpData, Obj.imgActive, Obj.irqClaimA,
      Obj.irqClaimB].contains (objKey q.index q.sub) = false ∧ nvmHome u (objKey q.index q.sub) = none) (setupState.setVar .dSlots
      1) (⟨0, 1, 7, 0x2801, 1, 0, 0, 0, [], 0, [], {}⟩) (((dictRow 0x2801 1).get (by decide +kernel)))) := by
  and_intros <;> first
    | (with_reducible refine keyedOk_signed _ _ _ ?_ ?_ ?_ ?_) <;> decide +kernel
    | (with_reducible refine freeFor_tag _ _ (signedReq_tag _) ?_ ?_) <;> decide +kernel
    | (with_reducible refine keyedPass_signed _ _ ?_ ?_ ?_) <;> decide +kernel
    | decide +kernel

/-- States and operands that meet the hypotheses of each clause of BlockRequestsAndRetries. -/
theorem test_hypotheses_BlockRequestsAndRetries :
    ((fun (s : State) (q : Req) (r : Row) (d : List Byte) => q.opcode = 4 ∧ freeFor s q = true ∧ q.len ≤ 32 ∧ objRow s q.index q.sub
      = some r ∧ mayRead q r = true ∧ objKey q.index q.sub ≠ Obj.irqClaimA ∧ objKey q.index q.sub ≠ Obj.irqClaimB ∧ nvmHome s
      (objKey q.index q.sub) = none ∧ largeBytes (takeIn q.port s) (objKey q.index q.sub) r = (.ok, d)) (setupState)
      (⟨0, 4, 7, keyIndex Obj.nvmBad, keySub Obj.nvmBad, 0, 16, 0, [], 8, [], {}⟩) (((dictRow (keyIndex Obj.nvmBad) (keySub
      Obj.nvmBad)).get (by decide +kernel))) (List.replicate 64 0xFF)) ∧
    ((fun (s : State) (q : Req) (r : Row) (d : List Byte) => q.opcode = 4 ∧ freeFor s q = true ∧ 32 < q.len ∧ objRow s q.index q.sub
      = some r ∧ mayRead q r = true ∧ objKey q.index q.sub ≠ Obj.irqClaimA ∧ objKey q.index q.sub ≠ Obj.irqClaimB ∧ nvmHome s
      (objKey q.index q.sub) = none ∧ largeBytes (takeIn q.port s) (objKey q.index q.sub) r = (.ok, d)) (setupState)
      (⟨0, 4, 7, keyIndex Obj.nvmBad, keySub Obj.nvmBad, 0, 64, 0, [], 0, [], {}⟩) (((dictRow (keyIndex Obj.nvmBad) (keySub
      Obj.nvmBad)).get (by decide +kernel))) (List.replicate 64 0xFF)) ∧
    ((fun (s : State) (q : Req) (a : Nat) => q.opcode = 5 ∧ freeFor s q = true ∧ q.index = keyIndex Obj.nvmScratch ∧ q.sub = keySub
      Obj.nvmScratch ∧ a = 0x75000 + q.offset ∧ q.offset % 32 + q.len ≤ 32 ∧ s.waiters = [] ∧ s.buf.length < 128 ∧ (s.buf.all fun b
      => decide (b.line ≠ a / 32)) = true) (setupState)
      (⟨0, 5, 7, keyIndex Obj.nvmScratch, keySub Obj.nvmScratch, 0, 3, 0, [], 64, [1, 2, 3], {}⟩) (0x75040)) ∧
    ((fun (s : State) (q : Req) (r : Row) => q.opcode = 5 ∧ freeFor s q = true ∧ objRow s q.index q.sub = some r ∧ r.access ≠ .rw)
      (setupState) (⟨0, 5, 7, keyIndex Obj.nvmBad, keySub Obj.nvmBad, 0, 64, 0, [], 0, List.replicate 64 1, {}⟩) (((dictRow
      (keyIndex Obj.nvmBad) (keySub Obj.nvmBad)).get (by decide +kernel)))) ∧
    ((fun (s : State) (q : Req) => q.opcode = 5 ∧ q.index = keyIndex Obj.imgStage ∧ q.sub = keySub Obj.imgStage ∧ freeFor s q = true
      ∧ q.len ≤ 32 ∧ imgBusy s = false ∧ s.waiters = [] ∧ s.buf.length + 3 ≤ 128 ∧ q.offset ≤ s.varN .imgLen) (setupState)
      (⟨0, 5, 7, keyIndex Obj.imgStage, keySub Obj.imgStage, 0, 4, 0, [], 0, [1, 2, 3, 4], {}⟩)) ∧
    ((fun (s : State) (q : Req) => q.opcode = 5 ∧ q.index = keyIndex Obj.imgStage ∧ q.sub = keySub Obj.imgStage ∧ freeFor s q = true
      ∧ q.len ≤ 32 ∧ imgBusy s = true) (setupState.setO Obj.imgResult 1)
      (⟨0, 5, 7, keyIndex Obj.imgStage, keySub Obj.imgStage, 0, 4, 0, [], 0, [1, 2, 3, 4], {}⟩)) ∧
    ((fun (s : State) (p : Nat) (q : Req) (r : Row) (d : List Byte) => let u := beforeDictionary s; p < 5 ∧ s.mgtOn = true ∧
      dictionaryHead s = some p ∧ s.varN .dSlots < 4 ∧ 0 < (portOf u p).served ∧ u.varB .jobDone (JobFor.tagCheck p).slot = false ∧
      (portOf u p).txn = some q ∧ q.port = p ∧ q.opcode = 4 ∧ (portOf u p).served ≤ q.len / 32 ∧ q.len ≤ 32 * (portOf u p).served +
      32 ∧ objRow u q.index q.sub = some r ∧ objKey q.index q.sub ≠ Obj.irqClaimA ∧ objKey q.index q.sub ≠ Obj.irqClaimB ∧ nvmHome u
      (objKey q.index q.sub) = none ∧ largeBytes u (objKey q.index q.sub) r = (.ok, d)) (setPort 0
      ⟨some ⟨0, 4, 7, keyIndex Obj.nvmBad, keySub Obj.nvmBad, 0, 64, 0, [], 0, [], {}⟩, 1, List.replicate 32 0xFF, none, none, 0, none, [], []⟩
      setupState |>.setVar .dqAt 1 0) (0) (⟨0, 4, 7, keyIndex Obj.nvmBad, keySub Obj.nvmBad, 0, 64, 0, [], 0, [], {}⟩) (((dictRow
      (keyIndex Obj.nvmBad) (keySub Obj.nvmBad)).get (by decide +kernel))) (List.replicate 64 0xFF)) ∧
    ((fun (s : State) (p : Nat) (q : Req) (r : Row) => let u := beforeDictionary s; p < 5 ∧ s.mgtOn = true ∧ dictionaryHead s = some
      p ∧ s.varN .dSlots < 4 ∧ (portOf u p).served = 0 ∧ u.varB .jobDone (JobFor.tagCheck p).slot = false ∧ (portOf u p).txn = some
      q ∧ q.port = p ∧ q.opcode = 1 ∧ preCheck q u = .ok ∧ objRow u q.index q.sub = some r ∧ mayRead q r = true ∧ [Obj.nvmBad,
      Obj.irqPending, Obj.keyPub, Obj.keyImgPub, Obj.keySnapData, Obj.sbExpData, Obj.imgActive, Obj.irqClaimA,
      Obj.irqClaimB].contains (objKey q.index q.sub) = false ∧ nvmHome u (objKey q.index q.sub) = none) (setPort 1
      ⟨some ⟨1, 1, 7, 0x2801, 1, 0, 0, 0, [], 0, [], {}⟩, 0, [], none, none, 0, none, [], []⟩ setupState |>.setVar .dqAt 1 1) (1)
      (⟨1, 1, 7, 0x2801, 1, 0, 0, 0, [], 0, [], {}⟩) (((dictRow 0x2801 1).get (by decide +kernel)))) ∧
    ((fun (s : State) (p : Nat) => (s.mgtOn = false ∨ dictionaryHead s ≠ some p ∨ 4 ≤ s.varN .dSlots)) (State.reset) (1)) ∧
    ((fun (s : State) (q : Req) => q.opcode = 8 ∧ portUsable s q.port = true ∧ canTaken q s = true ∧ (portOf s q.port).txn = none ∧
      isReplay q s = false ∧ preCheck q s = .ok) (setupState) (⟨1, 8, 9, 0x0100, 1, 0, 3, 0, [], 0, [5, 6, 7], {}⟩)) ∧
    ((fun (s : State) (q : Req) => portUsable s q.port = true ∧ canTaken q s = true ∧ (portOf s q.port).txn ≠ none ∧ isReplay q s =
      false ∧ q.port < 2) (setPort 0
      ⟨some ⟨0, 4, 7, keyIndex Obj.nvmBad, keySub Obj.nvmBad, 0, 64, 0, [], 0, [], {}⟩, 1, List.replicate 32 0xFF, none, none, 0, none, [], []⟩
      setupState) (⟨0, 1, 7, 0x0100, 1, 0, 0, 0, [], 0, [], {}⟩)) ∧
    ((fun (s : State) (q : Req) => portUsable s q.port = true ∧ canTaken q s = true ∧ (portOf s q.port).txn ≠ none ∧ isReplay q s =
      false ∧ 2 ≤ q.port) ((setPort 4
      ⟨some ⟨0, 4, 7, keyIndex Obj.nvmBad, keySub Obj.nvmBad, 0, 64, 0, [], 0, [], {}⟩, 1, List.replicate 32 0xFF, none, none, 0, none, [], []⟩
      setupState).setBit Obj.portFlags 4 true) (⟨4, 1, 7, 0x0100, 1, 0, 0, 0, [], 0, [], {}⟩)) ∧
    ((fun (s : State) (q : Req) (a : Resp) => portUsable s q.port = true ∧ canTaken q s = true ∧ (portOf s q.port).kept = some (q,
      a)) (setPort 1
      ⟨none, 0, [], none, some (⟨1, 1, 7, 0x0100, 1, 0, 0, 0, [], 0, [], {}⟩, respOf ⟨1, 1, 7, 0x0100, 1, 0, 0, 0, [], 0, [], {}⟩ .ok [3]), 0, none, [], []⟩
      setupState) (⟨1, 1, 7, 0x0100, 1, 0, 0, 0, [], 0, [], {}⟩) (respOf ⟨1, 1, 7, 0x0100, 1, 0, 0, 0, [], 0, [], {}⟩ .ok [3])) := by
  and_intros <;> decide +kernel

/-- States and operands that meet the hypotheses of each clause of PortEvents. -/
theorem test_hypotheses_PortEvents :
    ((fun (s : State) (p : Nat) => p < 2 ∧ s.mgtOn = true ∧ s.oN (Obj.canState p) ≠ 0 ∧ canDetached s p = false) (State.reset.setO
      (Obj.canState 1) 1) (1)) ∧
    ((fun (s : State) (p i n : Nat) => p < 2 ∧ s.mgtOn = true ∧ canClaims s p = true ∧ s.notify = [(p, i, n)] ∧ canDetached s p =
      false) ({ State.reset.setO (Obj.canState 1) 1 with notify := [(1, 33, 5)] }) (1) (33) (5)) ∧
    ((fun (s : State) (p : Nat) => (s.notify = [] ∨ canClaims s p = false ∨ canDetached s p = true)) (State.reset) (0)) ∧
    ((fun (s : State) (p tec : Nat) => p < 2 ∧ s.mgtOn = true ∧ (s.oN (Obj.canState p) = 1 ∨ s.oN (Obj.canState p) = 2))
      (State.reset.setO (Obj.canState 0) 2) (0) (256)) ∧
    ((fun (s : State) (p : Nat) => p < 2 ∧ s.mgtOn = true ∧ s.oN (Obj.canState p) = 3) (State.reset.setO (Obj.canState 0) 3) (0)) ∧
    ((fun (s : State) (p tec er : Nat) => p < 2 ∧ s.mgtOn = true ∧ s.oN (Obj.canState p) = 1 ∧ (128 ≤ tec ∨ 128 ≤ er))
      (State.reset.setO (Obj.canState 0) 1) (0) (128) (0)) ∧
    ((fun (s : State) (p tec er : Nat) => p < 2 ∧ s.mgtOn = true ∧ s.oN (Obj.canState p) = 2 ∧ tec < 128 ∧ er < 128)
      (State.reset.setO (Obj.canState 0) 2) (0) (127) (127)) ∧
    ((fun (s : State) (q : Req) => s.oN Obj.budgetState = 1 ∧ holder s = true ∧ budgetBusy s = false ∧ s.var .wbStage 1 = 0 ∧ s.varB
      .wbAgain 1 = false ∧ (portOf s (s.varN .grantPort)).txn = some q ∧ objKey q.index q.sub = Obj.budgetGrant ∧ q.port = s.varN
      .grantPort) (setPort 0
      ⟨some (keyedReq ⟨0, 7, 0, 1, List.replicate 8 0, [6, 0, 0, 0], 0⟩ Obj.budgetGrant), 2, [], none, none, 0, none, [], []⟩
      ((setupState.setO Obj.budgetState 1).setO Obj.teamRole 1)) ((keyedReq ⟨0, 7, 0, 1, List.replicate 8 0, [6, 0, 0, 0], 0⟩
      Obj.budgetGrant))) ∧
    ((fun (s : State) (q : Req) => s.oN Obj.budgetState = 1 ∧ holder s = false ∧ (portOf s (s.varN .grantPort)).txn = some q ∧
      objKey q.index q.sub = Obj.budgetGrant ∧ q.port = s.varN .grantPort) (setPort 0
      ⟨some (keyedReq ⟨0, 7, 0, 1, List.replicate 8 0, [6, 0, 0, 0], 0⟩ Obj.budgetGrant), 2, [], none, none, 0, none, [], []⟩
      ((setupState.setO Obj.budgetState 1).setO Obj.teamRole 2)) ((keyedReq ⟨0, 7, 0, 1, List.replicate 8 0, [6, 0, 0, 0], 0⟩
      Obj.budgetGrant))) ∧
    ((fun (s : State) => s.oN Obj.budgetState ≠ 1) (State.reset)) := by
  and_intros <;> decide +kernel

/-- States and operands that meet the hypotheses of each clause of ClaimCommands. -/
theorem test_hypotheses_ClaimCommands :
    ((fun (s : State) (q : Req) => q.opcode = 6 ∧ q.sub = 1 ∧ freeFor s q = true ∧ claimAllowed q (takeIn q.port s) = .ok)
      (((setupState.setO Obj.keyIdState 2).setBit Obj.portFlags 4 true).setO Obj.mgtVin 1200)
      (⟨4, 6, 7, 0x40F0, 1, 0, 132, 0, [], 0, (claimBody 1 0 true), {}⟩)) ∧
    ((fun (s : State) (q : Req) (st : Status) => q.opcode = 6 ∧ q.sub = 1 ∧ freeFor s q = true ∧ claimAllowed q (takeIn q.port s) =
      st ∧ st ≠ .ok) (setupState) (⟨0, 6, 7, 0x40F0, 1, 0, 132, 0, [], 0, (claimBody 1 0 true), {}⟩) (.stateForbids)) ∧
    ((fun (s : State) (q : Req) => 2 ≤ q.sub ∧ q.sub ≤ 4) (State.reset)
      (⟨4, 6, 7, 0x40F0, 3, 0, 132, 0, [], 0, (claimBody 3 0 true), {}⟩)) ∧
    ((fun (s : State) (q : Req) (copies : Nat) => q.opcode = 6 ∧ q.sub = 2 ∧ freeFor s q = true ∧ claimAllowed q (takeIn q.port s) =
      .ok ∧ (genAdvance 0 copies (takeIn q.port s)).1 = .ok) (((setupState.setO Obj.keyIdState 2).setBit Obj.portFlags 4 true).setO
      Obj.mgtVin 1200) (⟨4, 6, 7, 0x40F0, 2, 0, 132, 0, [], 0, (claimBody 2 0 true), {}⟩) (7)) ∧
    ((fun (s : State) (q : Req) (copies : Nat) => q.sub ≠ 2) (State.reset)
      (⟨4, 6, 7, 0x40F0, 3, 0, 132, 0, [], 0, (claimBody 3 0 true), {}⟩) (7)) ∧
    ((fun (s : State) (q : Req) => q.opcode = 6 ∧ q.sub = 3 ∧ freeFor s q = true ∧ keyedPass s q = true ∧ claimAllowed q (takeIn
      q.port s) = .ok ∧ q.counter < 0xF0000000 ∧ engineFree s = true) ((enrolled.setO Obj.keyIdState 2).setBit Obj.portFlags 4 true)
      (signedReq ⟨4, 6, 7, 0x40F0, 3, 0, 132, 1, [], 0, (claimBody 3 2 false), {}⟩)) ∧
    ((fun (s : State) (q : Req) (copies : Nat) => q.opcode = 6 ∧ q.sub = 4 ∧ freeFor s q = true ∧ keyedPass s q = true ∧
      claimAllowed q (takeIn q.port s) = .ok ∧ q.counter < 0xF0000000 ∧ (genAdvance 1 copies (takeIn q.port s)).1 = .ok ∧ engineFree
      s = true) ((((enrolled.setO Obj.keyIdState 2).setBit Obj.portFlags 4 true).setO Obj.mgtVin 1200)) (signedReq
      ⟨4, 6, 7, 0x40F0, 4, 0, 132, 1, [], 0, (claimBody 4 0 true), {}⟩) (7)) ∧
    ((fun (s : State) (slot copies : Nat) => slot < 4 ∧ s.varB .hwmOn slot = true ∧ hwmCommitted s slot = true ∧ s.now < s.varN
      .hwmAt slot + 1000 ∧ s.keyQ = []) (((setupState.setVar .hwmOn 1 2).setVar .hwmVal 300 2)) (2) (0)) ∧
    ((fun (s : State) (slot copies p : Nat) (q : Req) => slot < 4 ∧ s.varB .hwmOn slot = true ∧ hwmCommitted s slot = true ∧ s.now <
      s.varN .hwmAt slot + 1000 ∧ s.keyQ = [(slot, p)] ∧ p < 5 ∧ (portOf s p).txn = some q ∧ q.port = p ∧ q.slot = slot ∧ q.opcode =
      3 ∧ objKey q.index q.sub = Obj.portBenchEn ∧ q.index = keyIndex Obj.portBenchEn ∧ q.sub = keySub Obj.portBenchEn ∧ q.data =
      [1] ∧ q.counter < 0xF0000000 ∧ s.varB .hwmWarn slot = false ∧ storeOk s Obj.portBenchEn = true ∧ s.oN (Obj.keyLast slot) ≤
      q.counter)
      ({ setPort 0 ⟨some (keyedReq ⟨0, 7, 2, 44, [], [1], 0⟩ Obj.portBenchEn), 1, [], none, none, 0, none, [], []⟩ ((setupState.setVar .hwmOn 1 2).setVar .hwmVal 300 2) with keyQ := [(2, 0)] })
      (2) (0) (0) (keyedReq ⟨0, 7, 2, 44, [], [1], 0⟩ Obj.portBenchEn)) ∧
    ((fun (s : State) (slot copies : Nat) => (s.varB .hwmOn slot = false ∨ hwmCommitted s slot = false)) (State.reset) (1) (0)) ∧
    ((fun (s : State) (slot p : Nat) (q : Req) => slot < 4 ∧ s.varB .hwmOn slot = true ∧ s.varN .hwmAt slot + 1000 ≤ s.now ∧ s.keyQ
      = [(slot, p)] ∧ p < 5 ∧ (portOf s p).txn = some q ∧ q.port = p ∧ q.opcode = 3)
      ({ setPort 0 ⟨some (keyedReq ⟨0, 7, 2, 44, [], [1], 0⟩ Obj.portBenchEn), 1, [], none, none, 0, none, [], []⟩ (((setupState.setVar .hwmOn 1 2).setVar .hwmVal 300 2).setVar .now 1000) with keyQ := [(2, 0)] })
      (2) (0) (keyedReq ⟨0, 7, 2, 44, [], [1], 0⟩ Obj.portBenchEn)) ∧
    ((fun (s : State) (slot : Nat) => (s.varB .hwmOn slot = false ∨ s.now < s.varN .hwmAt slot + 1000)) (State.reset) (1)) := by
  and_intros <;> first
    | (with_reducible refine keyedOk_signed _ _ _ ?_ ?_ ?_ ?_) <;> decide +kernel
    | (with_reducible refine freeFor_tag _ _ (signedReq_tag _) ?_ ?_) <;> decide +kernel
    | (with_reducible refine keyedPass_signed _ _ ?_ ?_ ?_) <;> decide +kernel
    | decide +kernel

/-- States and operands that meet the hypotheses of each clause of BootAnswersBusy. -/
theorem test_hypotheses_BootAnswersBusy :
    ((fun (s : State) (q : Req) => q.opcode = 1 ∧ portUsable s q.port = true ∧ canTaken q s = true ∧ (portOf s q.port).txn = none ∧
      isReplay q s = false ∧ formatOk q (takeIn q.port s) = true ∧ s.mode = .boot ∧ 0xFF < q.index ∧ slotFree s q.port = true)
      (State.reset.setO Obj.sysMode 2) (⟨0, 1, 7, 0x2801, 1, 0, 0, 0, [], 0, [], {}⟩)) ∧
    ((fun (s : State) (q : Req) => q.opcode = 2 ∧ portUsable s q.port = true ∧ canTaken q s = true ∧ (portOf s q.port).txn = none ∧
      isReplay q s = false ∧ formatOk q (takeIn q.port s) = true ∧ s.mode = .boot ∧ slotFree s q.port = true) (State.reset.setO
      Obj.sysMode 2) (⟨0, 2, 7, 0x0100, 1, 0, 1, 0, [], 0, [1], {}⟩)) ∧
    ((fun (s : State) (q : Req) (copies : Nat) => q.opcode = 3 ∧ portUsable s q.port = true ∧ canTaken q s = true ∧ (portOf s
      q.port).txn = none ∧ isReplay q s = false ∧ formatOk q (takeIn q.port s) = true ∧ s.mode = .boot ∧ slotFree s q.port = true)
      (State.reset.setO Obj.sysMode 2) (⟨0, 3, 7, 0x0100, 1, 0, 1, 0, List.replicate 8 0, 0, [1], {}⟩) (0)) ∧
    ((fun (s : State) (q : Req) => q.opcode = 4 ∧ portUsable s q.port = true ∧ canTaken q s = true ∧ (portOf s q.port).txn = none ∧
      isReplay q s = false ∧ formatOk q (takeIn q.port s) = true ∧ s.mode = .boot ∧ slotFree s q.port = true) (State.reset.setO
      Obj.sysMode 2) (⟨0, 4, 7, 0xFFFF, 1, 0, 1, 0, [], 0, [], {}⟩)) ∧
    ((fun (s : State) (q : Req) => q.opcode = 5 ∧ portUsable s q.port = true ∧ canTaken q s = true ∧ (portOf s q.port).txn = none ∧
      isReplay q s = false ∧ formatOk q (takeIn q.port s) = true ∧ s.mode = .boot ∧ slotFree s q.port = true) (State.reset.setO
      Obj.sysMode 2) (⟨0, 5, 7, 0xFFFF, 1, 0, 1, 0, [], 0, [1], {}⟩)) ∧
    ((fun (s : State) (q : Req) => q.opcode = 8 ∧ portUsable s q.port = true ∧ canTaken q s = true ∧ (portOf s q.port).txn = none ∧
      isReplay q s = false ∧ formatOk q (takeIn q.port s) = true ∧ s.mode = .boot) (State.reset.setO Obj.sysMode 2)
      (⟨0, 8, 7, 0, 1, 0, 1, 0, [], 0, [1], {}⟩)) ∧
    ((fun (s : State) (q : Req) => q.opcode = 6 ∧ q.sub = 1 ∧ portUsable s q.port = true ∧ canTaken q s = true ∧ (portOf s
      q.port).txn = none ∧ isReplay q s = false ∧ formatOk q (takeIn q.port s) = true ∧ s.mode = .boot ∧ slotFree s q.port = true)
      (State.reset.setO Obj.sysMode 2) (⟨0, 6, 7, 0x40F0, 1, 0, 132, 0, [], 0, claimBody 1 0 true, {}⟩)) ∧
    ((fun (s : State) (q : Req) (copies : Nat) => q.opcode = 6 ∧ q.sub = 2 ∧ portUsable s q.port = true ∧ canTaken q s = true ∧
      (portOf s q.port).txn = none ∧ isReplay q s = false ∧ formatOk q (takeIn q.port s) = true ∧ s.mode = .boot ∧ slotFree s q.port
      = true) (State.reset.setO Obj.sysMode 2) (⟨0, 6, 7, 0x40F0, 2, 0, 132, 0, [], 0, claimBody 2 0 true, {}⟩) (0)) ∧
    ((fun (s : State) (q : Req) => q.opcode = 6 ∧ q.sub = 3 ∧ portUsable s q.port = true ∧ canTaken q s = true ∧ (portOf s
      q.port).txn = none ∧ isReplay q s = false ∧ formatOk q (takeIn q.port s) = true ∧ s.mode = .boot ∧ slotFree s q.port = true)
      (State.reset.setO Obj.sysMode 2) (⟨0, 6, 7, 0x40F0, 3, 0, 132, 1, List.replicate 8 0, 0, claimBody 3 0 true, {}⟩)) ∧
    ((fun (s : State) (q : Req) (copies : Nat) => q.opcode = 6 ∧ q.sub = 4 ∧ portUsable s q.port = true ∧ canTaken q s = true ∧
      (portOf s q.port).txn = none ∧ isReplay q s = false ∧ formatOk q (takeIn q.port s) = true ∧ s.mode = .boot ∧ slotFree s q.port
      = true) (State.reset.setO Obj.sysMode 2) (⟨0, 6, 7, 0x40F0, 4, 0, 132, 1, List.replicate 8 0, 0, claimBody 4 0 true, {}⟩) (0)) := by
  and_intros <;> decide +kernel

/-- States and operands that meet the hypotheses of each clause of ReservedIndicesDoNotExist. -/
theorem test_hypotheses_ReservedIndicesDoNotExist :
    ((fun (s : State) (q : Req) => q.opcode = 1 ∧ portUsable s q.port = true ∧ canTaken q s = true ∧ (portOf s q.port).txn = none ∧
      isReplay q s = false ∧ formatOk q (takeIn q.port s) = true ∧ s.mode ≠ .boot ∧ 0xF000 ≤ q.index ∧ q.index ≤ 0xFFFF ∧ slotFree s
      q.port = true) (setupState) (⟨0, 1, 7, 0xF000, 1, 0, 0, 0, [], 0, [], {}⟩)) ∧
    ((fun (s : State) (q : Req) => q.opcode = 2 ∧ portUsable s q.port = true ∧ canTaken q s = true ∧ (portOf s q.port).txn = none ∧
      isReplay q s = false ∧ formatOk q (takeIn q.port s) = true ∧ s.mode ≠ .boot ∧ 0xF000 ≤ q.index ∧ q.index ≤ 0xFFFF ∧ slotFree s
      q.port = true) (setupState) (⟨0, 2, 7, 0xFFFF, 1, 0, 1, 0, [], 0, [1], {}⟩)) ∧
    ((fun (s : State) (q : Req) (copies : Nat) => q.opcode = 3 ∧ portUsable s q.port = true ∧ canTaken q s = true ∧ (portOf s
      q.port).txn = none ∧ isReplay q s = false ∧ formatOk q (takeIn q.port s) = true ∧ s.mode ≠ .boot ∧ 0xF000 ≤ q.index ∧ q.index
      ≤ 0xFFFF ∧ slotFree s q.port = true) (setupState) (⟨0, 3, 7, 0xF000, 1, 0, 1, 0, List.replicate 8 0, 0, [1], {}⟩) (0)) ∧
    ((fun (s : State) (q : Req) => q.opcode = 4 ∧ portUsable s q.port = true ∧ canTaken q s = true ∧ (portOf s q.port).txn = none ∧
      isReplay q s = false ∧ formatOk q (takeIn q.port s) = true ∧ s.mode ≠ .boot ∧ 0xF000 ≤ q.index ∧ q.index ≤ 0xFFFF ∧ slotFree s
      q.port = true) (setupState) (⟨0, 4, 7, 0xF000, 1, 0, 1, 0, [], 0, [], {}⟩)) ∧
    ((fun (s : State) (q : Req) => q.opcode = 5 ∧ portUsable s q.port = true ∧ canTaken q s = true ∧ (portOf s q.port).txn = none ∧
      isReplay q s = false ∧ formatOk q (takeIn q.port s) = true ∧ s.mode ≠ .boot ∧ 0xF000 ≤ q.index ∧ q.index ≤ 0xFFFF ∧ slotFree s
      q.port = true) (setupState) (⟨0, 5, 7, 0xFFFF, 1, 0, 1, 0, [], 0, [1], {}⟩)) ∧
    ((fun (s : State) (q : Req) => q.opcode = 8 ∧ portUsable s q.port = true ∧ canTaken q s = true ∧ (portOf s q.port).txn = none ∧
      isReplay q s = false ∧ formatOk q (takeIn q.port s) = true ∧ s.mode ≠ .boot ∧ 0xF000 ≤ q.index ∧ q.index ≤ 0xFFFF)
      (setupState) (⟨0, 8, 7, 0xFFFF, 1, 0, 1, 0, [], 0, [1], {}⟩)) := by
  and_intros <;> decide +kernel

/-- States and operands that meet the hypotheses of each clause of WrongLengthIsRejected. -/
theorem test_hypotheses_WrongLengthIsRejected :
    ((fun (s : State) (q : Req) (r : Row) => q.opcode = 2 ∧ freeFor s q = true ∧ objRow s q.index q.sub = some r ∧ (r.access = .rw ∨
      r.access = .rws) ∧ q.data.length ≠ r.ty.size) (setupState) (⟨0, 2, 7, 0x0100, 1, 0, 2, 0, [], 0, [1, 0], {}⟩) (((dictRow
      0x0100 1).get (by decide +kernel)))) ∧
    ((fun (s : State) (q : Req) (copies : Nat) (r : Row) => q.opcode = 3 ∧ freeFor s q = true ∧ keyedPass s q = true ∧ objRow s
      q.index q.sub = some r ∧ r.access ≠ .ro ∧ q.data.length ≠ r.ty.size ∧ q.counter < 0xF0000000 ∧ engineFree s = true) (enrolled)
      (signedReq (keyedReq ⟨0, 7, 0, 1, [], [1, 0], 0⟩ Obj.portBenchEn)) (0) (((dictRow (keyIndex Obj.portBenchEn) (keySub
      Obj.portBenchEn)).get (by decide +kernel)))) ∧
    ((fun (s : State) (q : Req) => q.opcode = 5 ∧ portUsable s q.port = true ∧ canTaken q s = true ∧ (portOf s q.port).txn = none ∧
      isReplay q s = false ∧ q.index = keyIndex Obj.irqClear ∧ q.sub = keySub Obj.irqClear ∧ q.slot = 0 ∧ q.data.length = q.len ∧
      q.len ≠ 16 ∧ 1 ≤ q.len ∧ q.len ≤ 32 ∧ s.mode ≠ .boot ∧ slotFree s q.port = true) (setupState)
      (⟨0, 5, 7, keyIndex Obj.irqClear, keySub Obj.irqClear, 0, 3, 0, [], 0, [1, 2, 3], {}⟩)) := by
  and_intros <;> first
    | (with_reducible refine keyedOk_signed _ _ _ ?_ ?_ ?_ ?_) <;> decide +kernel
    | (with_reducible refine freeFor_tag _ _ (signedReq_tag _) ?_ ?_) <;> decide +kernel
    | (with_reducible refine keyedPass_signed _ _ ?_ ?_ ?_) <;> decide +kernel
    | decide +kernel

/-- States and operands that meet the hypotheses of each clause of ReleaseRebootShipValues. -/
theorem test_hypotheses_ReleaseRebootShipValues :
    ((fun (s : State) (v : Byte) (c : Keyed) => keyedOk s c (Obj.sysSafeRelease) = true ∧ c.data = [v] ∧ v ≠ 1) (enrolled) (0)
      (signed (Obj.sysSafeRelease) [0])) ∧
    ((fun (s : State) (v : Byte) (c : Keyed) => keyedOk s c (Obj.sysReboot) = true ∧ c.data = [v] ∧ v ≠ 1) (enrolled) (2) (signed
      (Obj.sysReboot) [2])) ∧
    ((fun (s : State) (v : Byte) (c : Keyed) => keyedOk s c (Obj.sysShip) = true ∧ c.data = [v] ∧ v ≠ 0 ∧ v ≠ 1) (enrolled) (2)
      (signed (Obj.sysShip) [2])) ∧
    ((fun (s : State) (v : Byte) (c : Keyed) => keyedOk s c (Obj.sysShip) = true ∧ c.data = [v] ∧ (v = 0 ∨ v = 1) ∧ s.mode ≠ .setup
      ∧ s.mode ≠ .bench) (enrolled.setO Obj.sysMode 4) (1) (signed (Obj.sysShip) [1])) := by
  and_intros <;> first
    | (with_reducible refine keyedOk_signed _ _ _ ?_ ?_ ?_ ?_) <;> decide +kernel
    | (with_reducible refine freeFor_tag _ _ (signedReq_tag _) ?_ ?_) <;> decide +kernel
    | (with_reducible refine keyedPass_signed _ _ ?_ ?_ ?_) <;> decide +kernel
    | decide +kernel

/-- States and operands that meet the hypotheses of each clause of FramingFailureIsDiscarded. -/
theorem test_hypotheses_FramingFailureIsDiscarded :
    ((fun (s : State) (p cause : Nat) => s.mgtOn = true ∧ p < 2 ∧ cause ≤ 3) (State.reset) (1) (3)) ∧
    ((fun (s : State) (p cause : Nat) => s.mgtOn = true ∧ 2 ≤ p ∧ p < 4 ∧ cause ≤ 3) (State.reset) (3) (0)) ∧
    ((fun (s : State) (p cause : Nat) => s.mgtOn = true ∧ p = 4 ∧ s.bit Obj.portFlags 4 = true ∧ cause ≤ 3) (State.reset.setBit
      Obj.portFlags 4 true) (4) (1)) := by
  and_intros <;> decide +kernel

/-- States and operands that meet the hypotheses of each clause of SlopeBoundsChecked. -/
theorem test_hypotheses_SlopeBoundsChecked :
    ((fun (s : State) (q : Req) (n : Nat) => q.opcode = 2 ∧ freeFor s q = true ∧ n < 48 ∧ phaseExists s n = true ∧ s.mode = .setup ∧
      q.index = 0x1000 + n ∧ q.sub = keySub (Obj.phaseSlopeMin 0) ∧ storeOk s (Obj.phaseSlopeMin n) = true ∧ q.data.length = 2 ∧
      newestOf s (Obj.phaseSlopeMax n) < (ofLeBytes q.data : Nat)) (setupState)
      (⟨0, 2, 7, 0x1005, 10, 0, 2, 0, [], 0, [0xFF, 0xFF], {}⟩) (5)) ∧
    ((fun (s : State) (q : Req) (n : Nat) => q.opcode = 2 ∧ freeFor s q = true ∧ n < 48 ∧ phaseExists s n = true ∧ s.mode = .setup ∧
      q.index = 0x1000 + n ∧ q.sub = keySub (Obj.phaseSlopeMax 0) ∧ storeOk s (Obj.phaseSlopeMax n) = true ∧ q.data.length = 2 ∧
      (ofLeBytes q.data : Nat) < newestOf s (Obj.phaseSlopeMin n)) (setupState.setO (Obj.phaseSlopeMin 5) 300)
      (⟨0, 2, 7, 0x1005, 11, 0, 2, 0, [], 0, [43, 1], {}⟩) (5)) ∧
    ((fun (s : State) (q : Req) (n : Nat) (v : Int) => q.opcode = 2 ∧ freeFor s q = true ∧ n < 48 ∧ phaseExists s n = true ∧ s.mode
      = .setup ∧ q.index = 0x1000 + n ∧ q.sub = keySub (Obj.phaseIlim 0) ∧ storeOk s (Obj.phaseIlim n) = true ∧ q.data.length = 4 ∧
      decodeVal .icode q.data = v ∧ 1000 ≤ v ∧ v ≤ 250000 ∧ v < - newestOf s (Obj.phaseIneg n)) (setupState)
      (⟨0, 2, 7, 0x1005, 3, 0, 4, 0, [], 0, [0xD0, 0x07, 0, 0], {}⟩) (5) (2000)) := by
  and_intros <;> decide +kernel

/-- States and operands that meet the hypotheses of StepTakesFront. -/
theorem test_hypotheses_StepTakesFront :
    ((fun s : State => s.pending = []) State.reset) := by
  decide +kernel

/-- States and operands that meet the hypotheses of EveryStepKeepsForm. -/
theorem test_hypotheses_EveryStepKeepsForm :
    ((fun s t : State => s.wf = true ∧ step s = .next t) State.reset State.reset) ∧
    ((fun s t : State => s.wf = true ∧ step s = .next t)
      ({ State.reset with pending := [.spiFetch 0] } : State) State.reset) :=
  ⟨⟨by decide +kernel, rfl⟩, by decide +kernel, rfl⟩

/-- States and operands that meet the hypotheses of FusesOnlyBurn. -/
theorem test_hypotheses_FusesOnlyBurn :
    ((fun s t : State => step s = .next t) State.reset State.reset) :=
  rfl

/-- States and operands that meet the hypotheses of MemoriesWrittenByName. -/
theorem test_hypotheses_MemoriesWrittenByName :
    ((fun (c : Instr) (s t : State) => exec c s = .next t ∧ writesMram c = false ∧ burnsFuses c = false)
      (.spiFetch 0) State.reset State.reset) :=
  ⟨rfl, by decide +kernel, by decide +kernel⟩

/-- States and operands that meet the hypotheses of PortsAndPinsByName. -/
theorem test_hypotheses_PortsAndPinsByName :
    ((fun (c : Instr) (s t : State) => exec c s = .next t ∧ takesSamples c = false ∧ usesPorts c = false)
      (.spiFetch 0) State.reset State.reset) :=
  ⟨rfl, by decide +kernel, by decide +kernel⟩

/-- States and operands that meet the hypotheses of ValuesTravelWhole. -/
theorem test_hypotheses_ValuesTravelWhole :
    ((fun (ty : Ty) (v : Int) => if ty.signed then -2 ^ (8 * ty.size - 1) ≤ v ∧ v < 2 ^ (8 * ty.size - 1) ∧ 0 < ty.size
      else 0 ≤ v ∧ v < 2 ^ (8 * ty.size)) .s16 (-32768)) ∧
    ((fun (ty : Ty) (v : Int) => if ty.signed then -2 ^ (8 * ty.size - 1) ≤ v ∧ v < 2 ^ (8 * ty.size - 1) ∧ 0 < ty.size
      else 0 ≤ v ∧ v < 2 ^ (8 * ty.size)) .u32 4294967295) ∧
    ((fun (ty : Ty) (d : List Byte) => d.length = ty.size) .u16 [0xFF, 0x80]) := by
  decide +kernel

/-- States and operands that meet the hypotheses of WrittenLineReadsBack. -/
theorem test_hypotheses_WrittenLineReadsBack :
    ((fun (s : State) (a : Nat) (d : List Byte) => d ≠ [] ∧ a % 32 + d.length ≤ 32 ∧ s.waiters = [] ∧ s.buf.length < 128 ∧
      (∀ b ∈ s.buf, b.line ≠ a / 32) ∧ (nvmLine s (a / 32)).1.length = 32) State.reset 61 [1, 2, 3]) := by
  decide +kernel

/-- States and operands that meet the hypotheses of CalendarDates. -/
theorem test_hypotheses_CalendarDates :
    ((fun y m d : Nat => 2000 ≤ y ∧ y < 2400 ∧ 1 ≤ m ∧ m ≤ 12 ∧ 1 ≤ d ∧ d ≤ monthLen y m) 2000 2 29) ∧
    ((fun y m d : Nat => 2000 ≤ y ∧ y < 2400 ∧ 1 ≤ m ∧ m ≤ 12 ∧ 1 ≤ d ∧ d ≤ monthLen y m) 2399 12 31) ∧
    ((fun n : Nat => n < 146097) 146096) := by
  decide +kernel

end Sys2Proof.Machine
end

section
/-!
PROOFS. What holds of every step and of the state right after reset.
-/

namespace Sys2Proof.Machine

theorem step_idle {s : State} (h : s.pending = []) : step s = .next s := by rw [step, h]

theorem step_front {s : State} {c : Instr} {l : List Instr} (h : s.pending = c :: l) :
    step s = exec c { s with pending := l } := by rw [step, h]

/-- Settles O53: the front command keeps the canonical form (`exec_keeps`), and taking it from the queue touches no store. -/
theorem everyStepKeepsForm : Obligations.EveryStepKeepsForm := by
  unfold Obligations.EveryStepKeepsForm
  intro s t hwf hstep
  cases hp : s.pending with
  | nil =>
    rw [step_idle hp] at hstep
    cases hstep
    exact hwf
  | cons c l =>
    rw [step_front hp] at hstep
    obtain ⟨u, hu, hk⟩ := exec_keeps c { s with pending := l }
    rw [hu] at hstep
    cases hstep
    exact hk.wf hwf

/-- Settles O54: every command answers a next state and leaves the rest of the queue (`exec_keeps`). -/
theorem everyStepCompletes : Obligations.EveryStepCompletes := by
  unfold Obligations.EveryStepCompletes
  intro s
  cases hp : s.pending with
  | nil => exact ⟨s, step_idle hp, by rw [hp]; rfl⟩
  | cons c l =>
    obtain ⟨t, ht, hk⟩ := exec_keeps c { s with pending := l }
    exact ⟨t, (step_front hp).trans ht, hk.pending⟩

/-- Settles O52: every store is empty, so each read falls through to its default. -/
theorem resetState : Obligations.ResetState := by
  unfold Obligations.ResetState
  refine ⟨rfl, rfl, fun _ => rfl, fun _ => rfl, fun _ => rfl, rfl, rfl, rfl, ?_⟩
  decide

end Sys2Proof.Machine
end

section
/-!
PROOFS. The bytes of a value (R5, R8): little-endian packing and two's complement undo each other.
-/

namespace Sys2Proof

theorem leBytes_length (n v : Nat) : (leBytes n v).length = n := by
  induction n generalizing v with
  | zero => rfl
  | succ n ih => simp [leBytes, ih]

/-- Packing keeps the low `n` bytes of a number. -/
theorem ofLeBytes_leBytes (n v : Nat) : ofLeBytes (leBytes n v) = v % 2 ^ (8 * n) := by
  induction n generalizing v with
  | zero => simp [leBytes, ofLeBytes, Nat.mod_one]
  | succ n ih =>
    have hp : 2 ^ (8 * (n + 1)) = 256 * 2 ^ (8 * n) := by rw [Nat.mul_add, Nat.pow_add]; omega
    rw [leBytes, ofLeBytes, ih, BitVec.toNat_ofNat, hp, Nat.mod_mul]

theorem ofLeBytes_lt (d : List Byte) : ofLeBytes d < 2 ^ (8 * d.length) := by
  induction d with
  | nil => simp [ofLeBytes]
  | cons b d ih =>
    have hp : 2 ^ (8 * (b :: d).length) = 256 * 2 ^ (8 * d.length) := by
      rw [List.length_cons, Nat.mul_add, Nat.pow_add]; omega
    have hb := b.isLt
    rw [hp, ofLeBytes]
    omega

theorem leBytes_ofLeBytes (d : List Byte) : leBytes d.length (ofLeBytes d) = d := by
  induction d with
  | nil => rfl
  | cons b d ih =>
    have hb := b.isLt
    have hlow : BitVec.ofNat 8 (b.toNat + 256 * ofLeBytes d) = b := by
      apply BitVec.eq_of_toNat_eq
      rw [BitVec.toNat_ofNat]
      omega
    have hhigh : (b.toNat + 256 * ofLeBytes d) / 256 = ofLeBytes d := by omega
    rw [List.length_cons, ofLeBytes, leBytes, hlow, hhigh, ih]

theorem toTwos_lt (n : Nat) (v : Int) : toTwos n v < 2 ^ n := by
  have hpos : (0 : Int) < ((2 ^ n : Nat) : Int) := by exact_mod_cast Nat.two_pow_pos n
  have := Int.emod_nonneg v hpos.ne'
  have := Int.emod_lt_of_pos v hpos
  unfold toTwos
  omega

/-- A number below `2 ^ n` is its own two's complement. -/
theorem toTwos_natCast {n v : Nat} (h : v < 2 ^ n) : toTwos n (v : Int) = v := by
  rw [toTwos, ← Int.natCast_mod, Int.toNat_natCast, Nat.mod_eq_of_lt h]

/-- The representatives of a residue in the signed range are unique. -/
theorem ofTwos_toTwos {n : Nat} {v : Int} (hn : 0 < n) (hlo : -2 ^ (n - 1) ≤ v) (hhi : v < 2 ^ (n - 1)) :
    ofTwos n (toTwos n v) = v := by
  obtain ⟨m, rfl⟩ : ∃ m, n = m + 1 := ⟨n - 1, by omega⟩
  have hp : (2 : Nat) ^ (m + 1) = 2 * 2 ^ m := by rw [Nat.pow_succ]; omega
  have hc : ((2 : Int) ^ m) = ((2 ^ m : Nat) : Int) := by norm_cast
  rw [Nat.add_sub_cancel, hc] at hlo hhi
  have ht : toTwos (m + 1) v < 2 * 2 ^ m := hp ▸ toTwos_lt (m + 1) v
  have hv : (toTwos (m + 1) v : Int) = v % ((2 * 2 ^ m : Nat) : Int) := by
    unfold toTwos
    rw [hp]
    exact Int.toNat_of_nonneg (Int.emod_nonneg _ (by have := Nat.two_pow_pos m; omega))
  rw [ofTwos, hp, Nat.mod_eq_of_lt ht]
  generalize (2 : Nat) ^ m = M at *
  rcases Int.lt_or_le v 0 with hneg | hpos
  · have : v % ((2 * M : Nat) : Int) = v + (2 * M : Nat) := by
      rw [← Int.add_emod_right, Int.emod_eq_of_lt] <;> omega
    split <;> omega
  · have : v % ((2 * M : Nat) : Int) = v := Int.emod_eq_of_lt (by omega) (by omega)
    split <;> omega

theorem toTwos_ofTwos {n x : Nat} (h : x < 2 ^ n) : toTwos n (ofTwos n x) = x := by
  rw [ofTwos, Nat.mod_eq_of_lt h]
  split
  · exact toTwos_natCast h
  · rw [toTwos, Int.sub_emod_right, ← Int.natCast_mod, Int.toNat_natCast, Nat.mod_eq_of_lt h]

end Sys2Proof

namespace Sys2Proof.Machine

theorem encodeVal_length (ty : Ty) (v : Int) : (encodeVal ty v).length = ty.size := leBytes_length _ _

/-- The bytes of a value spell its two's complement. -/
theorem ofLeBytes_encodeVal (ty : Ty) (v : Int) : ofLeBytes (encodeVal ty v) = toTwos (8 * ty.size) v := by
  rw [encodeVal, ofLeBytes_leBytes, Nat.mod_eq_of_lt (toTwos_lt _ _)]

theorem decodeVal_encodeVal_signed {ty : Ty} {v : Int} (hs : ty.signed = true) (hpos : 0 < ty.size)
    (hlo : -2 ^ (8 * ty.size - 1) ≤ v) (hhi : v < 2 ^ (8 * ty.size - 1)) : decodeVal ty (encodeVal ty v) = v := by
  rw [decodeVal, if_pos hs, ofLeBytes_encodeVal, ofTwos_toTwos (by omega) hlo hhi]

theorem decodeVal_encodeVal_unsigned {ty : Ty} {v : Int} (hs : ty.signed = false) (hlo : 0 ≤ v)
    (hhi : v < 2 ^ (8 * ty.size)) : decodeVal ty (encodeVal ty v) = v := by
  obtain ⟨n, rfl⟩ := Int.eq_ofNat_of_zero_le hlo
  rw [decodeVal, if_neg (by simp [hs]), ofLeBytes_encodeVal, toTwos_natCast (by exact_mod_cast hhi)]

theorem encodeVal_decodeVal {ty : Ty} {d : List Byte} (h : d.length = ty.size) : encodeVal ty (decodeVal ty d) = d := by
  have hlt : ofLeBytes d < 2 ^ (8 * ty.size) := h ▸ ofLeBytes_lt d
  have htwos : toTwos (8 * ty.size) (decodeVal ty d) = ofLeBytes d := by
    unfold decodeVal
    split
    · exact toTwos_ofTwos hlt
    · exact toTwos_natCast hlt
  rw [encodeVal, htwos, ← h, leBytes_ofLeBytes]

/-- Settles O58, type by type: the signed types by two's complement, the others as plain numbers. -/
theorem valuesTravelWhole : Obligations.ValuesTravelWhole := by
  unfold Obligations.ValuesTravelWhole
  refine ⟨fun ty v h => ⟨?_, encodeVal_length ty v⟩, fun ty d h => encodeVal_decodeVal h⟩
  cases hs : ty.signed with
  | true =>
    rw [if_pos hs] at h
    obtain ⟨hlo, hhi, hpos⟩ := h
    exact decodeVal_encodeVal_signed hs hpos hlo hhi
  | false =>
    rw [if_neg (by simp [hs])] at h
    exact decodeVal_encodeVal_unsigned hs h.1 h.2

end Sys2Proof.Machine
end

section
/-!
PROOFS. Statements that fail, each with a state that the model runs to the refuting outcome.
-/

namespace Sys2Proof.Machine

/-- The parts of the state that the end of a frame may write. -/
abbrev frameTouch : Touch := ⟨false, true, true, true⟩

/-- The end of a frame keeps the fuses as its first dictionary slot leaves them. -/
theorem closeFrame_keeps_firstSlot (s : State) : Keeps frameTouch (dictionarySlot s) (closeFrame s) := by
  have hslots : Keeps frameTouch (dictionarySlot s) (dictionarySlots s) :=
    keeps_setVar (keeps_dictionarySlot rfl rfl (keeps_dictionarySlot rfl rfl (keeps_dictionarySlot rfl rfl Keeps.refl)))
  have hstages : Keeps frameTouch (dictionarySlot s)
      (slotCarry (mirrorAssembly (slotsTo 3 (if (dictionarySlots s).varB .slotsDone then evaluate (dictionarySlots s)
        else dictionarySlots s)))) :=
    keeps_slotCarry (keeps_mirrorAssembly (keeps_slotsTo rfl (ite_keeps (keeps_evaluate hslots) hslots)))
  exact keeps_setVar (ite_keeps hstages (keeps_irqSlot hstages))

/-- A tick keeps the fuses as the frame that it ends leaves them. -/
theorem execFrameTick_keeps_closeFrame {s : State} (samples : List Sample) (hm : s.mgtOn = true) :
    OutP (Keeps frameTouch (closeFrame s)) (execFrameTick samples s) := by
  rw [execFrameTick, if_pos hm]
  have hsampled : Keeps frameTouch (closeFrame s)
      (rtcTick (isolateMain (takeSamples samples (countFrame (closeFrame s))))) :=
    keeps_rtcTick (keeps_isolateMain rfl (keeps_takeSamples rfl (keeps_countFrame Keeps.refl)))
  refine out_next (keeps_dictionarySlot rfl rfl (keeps_imgTick (keeps_driveLines (keeps_quietTick (keeps_clearTick
    (keeps_faultNTick (keeps_grantTick rfl (keeps_blocksTick rfl (keeps_railsTick (keeps_thermalTick
    (keeps_applyDeferred (keeps_modeTick rfl (keeps_dueTick (keeps_sequencerEffects (keeps_budgetLimits
    (keeps_echoTick rfl rfl (keeps_takeArrived hsampled)))))))))))))))))

/-- A CLAIM with op 0x02 on the bench UART: the reclaim of a device by physical presence (R497, R498). -/
def reclaimReq : Req :=
  { port := 4, opcode := 6, tid := 1, index := 0x40F0, sub := 2, slot := 0, len := 132, counter := 0, tag := [], offset := 0,
    data := claimBody 2 0 true }

/-- SETUP in bench mode with the supply of R449 and a ready identity, and a reclaim that waits for a dictionary slot (R42). -/
def reclaimWaits : State :=
  (setPort 4 { PortState.idle with txn := some reclaimReq, copies := 7 }
    (((setupState.setO Obj.mgtVin 1200).setO Obj.portFlags 16).setO Obj.keyIdState 2)).setVar .dqAt 1 4

/-- The slot that serves the reclaim advances the thermometer of the ownership generation in OTP word 35 (R503). -/
theorem dictionarySlot_reclaimWaits_burns :
    (FMap.get 0 (dictionarySlot reclaimWaits).otp 35).testBit 0 = true := by decide +kernel

/-- Refutes O31 in its first clause, which has every FRAME_TICK leave the fuses as they were: the frame that ends serves a
reclaim that waits (R38, R42), and the reclaim burns fuses (R503). -/
theorem not_frameEvents : ¬ Obligations.FrameEvents := by
  unfold Obligations.FrameEvents
  intro h
  obtain ⟨hticks, -⟩ := h reclaimWaits
  obtain ⟨t, ht, -, -, -, -, -, -, hotp⟩ := hticks [] (by decide +kernel) (by decide +kernel)
  obtain ⟨u, hu, hkept⟩ := execFrameTick_keeps_closeFrame [] (s := reclaimWaits) (by decide +kernel)
  obtain rfl : u = t := Host.Outcome.next.inj (hu.symm.trans ht)
  have hburnt := hkept.fuses 35 0 ((closeFrame_keeps_firstSlot reclaimWaits).fuses 35 0 dictionarySlot_reclaimWaits_burns)
  rw [hotp] at hburnt
  exact absurd hburnt (by decide +kernel)

/-- A READ of sys.mode on SPI-A. -/
def readModeReq : Req := readReq 0 1 Obj.sysMode

/-- The row of sys.mode. -/
def sysModeRow : Row := ⟨0x0010, 1, 0x01, 1, 1, .enum8, .ro, .none, 0, 255, none, .val 2, false⟩

/-- SETUP before the last dictionary slot of a frame: SPI-A holds no transaction, but counts as the port of a CLAIM whose job
has failed. -/
def claimFailed : State :=
  ((((setupState.setVar .dSlots 3).setVar .slotsDone 2).setVar .claimStage 1).setVar .claimPort 1).setVar .jobDone 2
    (JobFor.claim 0).slot

/-- The security slots that run before the last dictionary slot answer the READ as if it were that CLAIM. -/
theorem request_claimFailed_busy :
    (portOf (request readModeReq {} claimFailed) 0).resp = some (respOf readModeReq .busy []) := by decide +kernel

/-- Refutes O41 in its last clause: the work before the dictionary slot answers the READ with status 0x08 where the port of the
READ is that of a CLAIM whose job has failed. The state is one that no reception makes: there the port still holds the CLAIM. -/
theorem not_smallRequests : ¬ Obligations.SmallRequests := by
  unfold Obligations.SmallRequests
  intro h
  obtain ⟨-, -, -, -, -, -, -, -, -, -, hread⟩ := h claimFailed
  obtain ⟨t, ht, hresp, -⟩ := hread readModeReq sysModeRow rfl (by decide +kernel) (by decide +kernel) (by decide +kernel)
    (by decide +kernel) (by decide +kernel) (by decide +kernel) (by decide +kernel) (by decide +kernel)
    (fun hport => absurd hport (by decide)) (by decide +kernel) (by decide +kernel) (by decide +kernel) (by decide +kernel)
  obtain rfl : request readModeReq {} claimFailed = t := Host.Outcome.next.inj ht
  have hstatus := congrArg (Option.map Resp.status) (request_claimFailed_busy.symm.trans hresp)
  exact absurd hstatus (by decide)

/-- A request for an ECHO of a reserved index on SPI-A. -/
def echoReserved : Req :=
  { port := 0, opcode := 8, tid := 1, index := 0xF000, sub := 0, slot := 0, len := 0, counter := 0, tag := [], offset := 0,
    data := [] }

/-- SETUP, with an ECHO on SPI-B that names SPI-A as its port. -/
def strayEcho : State := setPort 1 { PortState.idle with txn := some { echoReserved with tid := 2, index := 0 } } setupState

/-- Refutes O46 in its clause for ECHO: at the tick SPI-B's ECHO, whose port field names SPI-A, is answered after and over the
one of the reserved index. The state is one that no reception makes: there a port holds requests of its own only. -/
theorem not_reservedIndicesDoNotExist : ¬ Obligations.ReservedIndicesDoNotExist := by
  unfold Obligations.ReservedIndicesDoNotExist
  intro h
  obtain ⟨-, -, -, -, -, hecho⟩ := h strayEcho
  obtain ⟨t, ht, -, hans, -⟩ := hecho echoReserved rfl (by decide +kernel) (by decide +kernel) (by decide +kernel)
    (by decide +kernel) (by decide +kernel) (by decide +kernel) (by decide) (by decide)
  have hstray : answered (echoTick (request echoReserved {} strayEcho)) echoReserved .noObject = false := by decide +kernel
  obtain rfl : request echoReserved {} strayEcho = t := Host.Outcome.next.inj ht
  exact absurd hans (by simp [hstray])

end Sys2Proof.Machine
end

section
/-!
PROOFS. The layer below the requests: what ports hold after an update, work that changes only objects, hidden quantities and
ports, and what the reception and the answer of a request change.
-/

namespace Sys2Proof.Machine

/-! ## Addresses -/

@[simp] theorem keyIndex_objKey (i j : Nat) (h : j < 256) : keyIndex (objKey i j) = i := by
  unfold keyIndex objKey; omega

@[simp] theorem keySub_objKey (i j : Nat) (h : j < 256) : keySub (objKey i j) = j := by
  unfold keySub objKey; omega

@[simp] theorem objKey_keyIndex_keySub (k : Nat) : objKey (keyIndex k) (keySub k) = k := by
  unfold objKey keyIndex keySub; omega

/-! ## Ports -/

@[simp] theorem portOf_setPort_self {p : Nat} (h : p < 5) (v : PortState) (s : State) : portOf (setPort p v s) p = v := by
  simp [portOf, setPort, h]

theorem portOf_setPort_ne {p r : Nat} (h : r ≠ p) (v : PortState) (s : State) : portOf (setPort p v s) r = portOf s r := by
  unfold portOf setPort
  split
  · split
    · rename_i hp
      exact Vector.getElem_set_ne hp _ (Ne.symm h)
    · rfl
  · rfl

theorem setPort_rest (p : Nat) (v : PortState) (s : State) : setPort p v s = { s with ports := (setPort p v s).ports } := by
  unfold setPort; split <;> rfl

@[simp] theorem o_setPort (p : Nat) (v : PortState) (s : State) (k : Nat) : (setPort p v s).o k = s.o k := by
  rw [setPort_rest]; rfl

@[simp] theorem var_setPort (p : Nat) (v : PortState) (s : State) (k : VarKind) (i j : Nat) :
    (setPort p v s).var k i j = s.var k i j := by rw [setPort_rest]; rfl

@[simp] theorem portOf_bump (s : State) (k w p : Nat) : portOf (s.bump k w) p = portOf s p := rfl
@[simp] theorem portOf_setVar (s : State) (k : VarKind) (v : Int) (i j p : Nat) : portOf (s.setVar k v i j) p = portOf s p := rfl
@[simp] theorem portOf_lateEvents (f : State → State) (s : State) (p : Nat) : portOf (lateEvents f s) p = portOf (f s) p := rfl

@[simp] theorem answered_lateEvents (f : State → State) (s : State) (q : Req) (st : Status) :
    answered (lateEvents f s) q st = answered (f s) q st := rfl

theorem RegsWithin.lateEvents {ks : List Nat} {fs : List (Nat → Nat)} {vs : List VarKind} {s u : State} {f : State → State}
    (h : RegsWithin ks fs vs s (f u)) : RegsWithin ks fs vs s (lateEvents f u) := ⟨h.objs, h.vars⟩

/-! ## Work on objects, hidden quantities and ports -/

/-- Work that changes the objects and hidden quantities of its lists and what the ports hold, and nothing else. -/
structure PortWork (ks : List Nat) (fs : List (Nat → Nat)) (vs : List VarKind) (s t : State) : Prop where
  regs : RegsWithin ks fs vs s t
  rest : t = { s with objs := t.objs, vars := t.vars, ports := t.ports }

namespace PortWork
variable {ks : List Nat} {fs : List (Nat → Nat)} {vs : List VarKind} {s t u : State}

theorem refl : PortWork ks fs vs s s := ⟨RegsWithin.refl, rfl⟩

theorem trans (h : PortWork ks fs vs s t) (g : PortWork ks fs vs t u) : PortWork ks fs vs s u := by
  refine ⟨h.regs.trans g.regs, ?_⟩
  have hr := h.rest; have gr := g.rest
  rw [gr, hr]

theorem setO {k : Nat} {v : Int} (h : PortWork ks fs vs s t) (hk : k ∈ ks) : PortWork ks fs vs s (t.setO k v) :=
  h.trans ⟨RegsWithin.refl.setO hk, rfl⟩

theorem bump {k w : Nat} (h : PortWork ks fs vs s t) (hk : k ∈ ks) : PortWork ks fs vs s (t.bump k w) := h.setO hk

theorem bumpF {f : Nat → Nat} {n w : Nat} (h : PortWork ks fs vs s t) (hf : f ∈ fs) : PortWork ks fs vs s (t.bump (f n) w) :=
  h.trans ⟨RegsWithin.refl.setF hf, rfl⟩

theorem setVar {k : VarKind} {v : Int} {i j : Nat} (h : PortWork ks fs vs s t) (hk : k ∈ vs) :
    PortWork ks fs vs s (t.setVar k v i j) := h.trans ⟨RegsWithin.refl.setVar hk, rfl⟩

theorem setPort {p : Nat} {v : PortState} (h : PortWork ks fs vs s t) : PortWork ks fs vs s (setPort p v t) :=
  h.trans ⟨⟨fun _ _ _ => o_setPort _ _ _ _, fun _ _ _ _ => var_setPort _ _ _ _ _ _⟩, by rw [setPort_rest]⟩

theorem forEach {α : Type} {l : List α} {f : α → State → State} (h : PortWork ks fs vs s t)
    (hf : ∀ a u, PortWork ks fs vs s u → PortWork ks fs vs s (f a u)) : PortWork ks fs vs s (t.forEach l f) :=
  forEach_keeps h hf

theorem mono {ks' : List Nat} {fs' : List (Nat → Nat)} {vs' : List VarKind} (h : PortWork ks fs vs s t) (hk : ks ⊆ ks')
    (hf : fs ⊆ fs') (hv : vs ⊆ vs') : PortWork ks' fs' vs' s t := ⟨h.regs.mono hk hf hv, h.rest⟩

theorem mram (h : PortWork ks fs vs s t) : t.mram = s.mram := by rw [h.rest]
theorem deferred (h : PortWork ks fs vs s t) : t.deferred = s.deferred := by rw [h.rest]
theorem journal (h : PortWork ks fs vs s t) : t.journal = s.journal := by rw [h.rest]
theorem jobs (h : PortWork ks fs vs s t) : t.jobs = s.jobs := by rw [h.rest]
theorem slotKeys (h : PortWork ks fs vs s t) : t.slotKeys = s.slotKeys := by rw [h.rest]
theorem pin (h : PortWork ks fs vs s t) (g : Sig) (i : Nat) : t.pin g i = s.pin g i := by rw [h.rest]; rfl

end PortWork

/-! ## Answers (R547, R556) -/

theorem canFlush_work (p : Nat) (s : State) : PortWork [] [Obj.canTx] [] s (canFlush p s) := by
  unfold canFlush
  extract_lets v
  split
  · exact PortWork.refl.setPort.forEach fun _ _ h => h.bumpF (by simp)
  · exact PortWork.refl

theorem canAnswer_work (q : Req) (r : Resp) (s : State) : PortWork [] [Obj.canTx] [] s (canAnswer q r s) := by
  unfold canAnswer
  split
  · exact PortWork.refl.setPort.trans (canFlush_work _ _)
  · exact PortWork.refl

/-- An answer changes what its port holds and counts the frames it sends (R556, R565). -/
theorem respond_work (q : Req) (st : Status) (d : List Byte) (s : State) : PortWork [] [Obj.canTx] [] s (respond q st d s) := by
  unfold respond
  split
  · exact PortWork.refl.setPort
  · exact PortWork.refl.setPort.trans (canAnswer_work _ _ _)

theorem hold_work (q : Req) (aux : Aux) (s : State) : PortWork [] [] [] s (hold q aux s) := PortWork.refl.setPort

theorem portOf_forEach_bump {α : Type} (l : List α) (k p : Nat) (s : State) :
    portOf (s.forEach l fun _ s => s.bump k) p = portOf s p :=
  forEach_keeps (P := fun t => portOf t p = portOf s p) rfl fun _ _ h => h

/-- Sending leaves the transaction and the response of every port. -/
theorem canFlush_port (p r : Nat) (s : State) :
    (portOf (canFlush p s) r).txn = (portOf s r).txn ∧ (portOf (canFlush p s) r).resp = (portOf s r).resp := by
  unfold canFlush
  extract_lets v
  split
  · rw [portOf_forEach_bump]
    by_cases hr : r = p + 2
    · subst hr
      by_cases h5 : p + 2 < 5
      · rw [portOf_setPort_self h5]; exact ⟨rfl, rfl⟩
      · simp [setPort, h5]
    · rw [portOf_setPort_ne hr]; exact ⟨rfl, rfl⟩
  · exact ⟨rfl, rfl⟩

theorem canAnswer_port {q : Req} (hp : q.port < 5) (r : Resp) (s : State) :
    (portOf (canAnswer q r s) q.port).txn = (portOf s q.port).txn ∧
      (portOf (canAnswer q r s) q.port).resp = (portOf s q.port).resp := by
  unfold canAnswer
  split
  · obtain ⟨htxn, hresp⟩ := canFlush_port (q.port - 2) q.port
      (setPort q.port { portOf s q.port with waits := (portOf s q.port).waits ++ [(q.id.src, r)], sent := [] } s)
    rw [portOf_setPort_self hp] at htxn hresp
    exact ⟨htxn, hresp⟩
  · exact ⟨rfl, rfl⟩

/-- What a port holds once it has answered. -/
def answeredPort (q : Req) (r : Resp) (p : PortState) : PortState :=
  { txn := none, served := 0, gathered := [], resp := some r, kept := some (q, r), waits := p.waits, sent := p.sent }

theorem respond_eq {q : Req} {s : State} (hb : q.port = 4 → s.bit Obj.portFlags 4 = true) (st : Status) (d : List Byte) :
    respond q st d s = canAnswer q (respOf q st d) (setPort q.port (answeredPort q (respOf q st d) (portOf s q.port)) s) := by
  have hbench : ¬(q.port = 4 ∧ s.bit Obj.portFlags 4 = false) := fun ⟨h4, hf⟩ => by simp [hb h4] at hf
  rw [respond, if_neg hbench]
  rfl

/-- An answer frees its port and leaves the response there; the bench UART answers while bench mode lasts (R412, R554). -/
theorem respond_port {q : Req} {s : State} (hp : q.port < 5) (hb : q.port = 4 → s.bit Obj.portFlags 4 = true) (st : Status)
    (d : List Byte) : (portOf (respond q st d s) q.port).txn = none ∧
      (portOf (respond q st d s) q.port).resp = some (respOf q st d) := by
  rw [respond_eq hb]
  obtain ⟨htxn, hresp⟩ := canAnswer_port hp (respOf q st d)
    (setPort q.port (answeredPort q (respOf q st d) (portOf s q.port)) s)
  rw [portOf_setPort_self hp] at htxn hresp
  exact ⟨htxn, hresp⟩

theorem respond_answered {q : Req} {s : State} (hp : q.port < 5) (hb : q.port = 4 → s.bit Obj.portFlags 4 = true) (st : Status) :
    answered (respond q st [] s) q st = true := by
  obtain ⟨htxn, hresp⟩ := respond_port hp hb st []
  simp [answered, htxn, hresp]

theorem hold_port {q : Req} (hp : q.port < 5) (aux : Aux) (s : State) :
    (portOf (hold q aux s) q.port).txn = some q ∧ (portOf (hold q aux s) q.port).served = 0 ∧
      auxOf (hold q aux s) q.port = aux := by
  have hself := portOf_setPort_self hp { portOf s q.port with
    txn := some q, served := 0, gathered := [], copies := aux.copies, answer := aux.answer } s
  simp only [hold, auxOf, hself, and_self]

/-! ## The reception of a request (R42, R550 to R560) -/

/-- The objects that count the request frames of the ports (R558, R560). -/
def frameCounters : List Nat := [Obj.uartFrames, Obj.canRx 0, Obj.canRx 1, Obj.spiFrames 0, Obj.spiFrames 1]

/-- The hidden quantities that a reception writes: the frame error and busy flags of SPI, and the dictionary queue. -/
def receptionKinds : List VarKind := [.spiErr, .spiBusy, .dSlots, .dqAt]

/-- What a reception has changed by the time the checks of the request's object are reached. -/
abbrev Received (s u : State) : Prop := PortWork frameCounters [] receptionKinds s u

theorem frameCounters_split {k : Nat} (hk : k ∉ [Obj.uartFrames])
    (hf : ∀ f, f ∈ [Obj.canRx, Obj.canTx, Obj.spiFrames] → ∀ n, k ≠ f n) : k ∉ frameCounters := by
  simp only [List.mem_cons, List.not_mem_nil, or_false, forall_eq_or_imp, forall_eq] at hk hf
  obtain ⟨hrx, -, hspi⟩ := hf
  simp [frameCounters, hk, hrx, hspi]

theorem Received.within {s u : State} (h : Received s u) :
    RegsWithin [Obj.uartFrames] [Obj.canRx, Obj.canTx, Obj.spiFrames] [.spiErr, .spiBusy, .dSlots, .dqAt] s u :=
  ⟨fun k hk hf => h.regs.objs k (frameCounters_split hk hf) (by simp), h.regs.vars⟩

theorem takeIn_received {p : Nat} (hp : p < 5) (s : State) : Received s (takeIn p s) := by
  unfold takeIn
  split
  · rename_i h
    obtain rfl | rfl := h
    · exact PortWork.refl.bump (by decide)
    · exact PortWork.refl.bump (by decide)
  · split
    · exact PortWork.refl.bump (by decide)
    · rename_i h23 h4
      obtain rfl | rfl : p = 0 ∨ p = 1 := by omega
      · exact ((PortWork.refl.setPort.bump (by decide)).setVar (by decide)).setVar (by decide)
      · exact ((PortWork.refl.setPort.bump (by decide)).setVar (by decide)).setVar (by decide)

theorem takeIn_port {p : Nat} (hp : p < 5) (s : State) :
    (portOf (takeIn p s) p).txn = (portOf s p).txn ∧ (portOf (takeIn p s) p).kept = (portOf s p).kept := by
  unfold takeIn
  split
  · exact ⟨rfl, rfl⟩
  · split
    · exact ⟨rfl, rfl⟩
    · simp [hp]

/-- The state in which a request with what its row gives beside it reaches the checks of its object. -/
def atChecks (q : Req) (aux : Aux) (s : State) : State :=
  ((backToQueue q.port (hold q aux (takeIn q.port s))).setVar .dqAt 0 q.port).addVar .dSlots 1

theorem atChecks_received {q : Req} (hp : q.port < 5) (aux : Aux) (s : State) : Received s (atChecks q aux s) := by
  have hheld : Received s (hold q aux (takeIn q.port s)) :=
    (takeIn_received hp s).trans ((hold_work q aux _).mono (by simp) (by simp) (by simp))
  exact ((hheld.setVar (by decide)).setVar (by decide)).setVar (by decide)

/-- A request that its port takes in and serves at once, whatever its checks say (R42, R554 to R556, R560). -/
structure AtOnce (s : State) (q : Req) : Prop where
  usable : portUsable s q.port = true
  taken : canTaken q s = true
  idle : (portOf s q.port).txn = none
  slot : slotFree s q.port = true
  fresh : isReplay q s = false

theorem freeFor_iff {s : State} {q : Req} : freeFor s q = true ↔ AtOnce s q ∧ preCheck q s = .ok := by
  simp only [freeFor, Bool.and_eq_true, Bool.not_eq_true', decide_eq_true_eq, Option.isNone_iff_eq_none]
  exact ⟨fun ⟨⟨⟨⟨⟨a, b⟩, c⟩, d⟩, e⟩, f⟩ => ⟨⟨a, b, c, d, e⟩, f⟩, fun ⟨⟨a, b, c, d, e⟩, f⟩ => ⟨⟨⟨⟨⟨a, b⟩, c⟩, d⟩, e⟩, f⟩⟩

/-- A usable port is one of the five, and the bench UART is one in bench mode (R411). -/
theorem portUsable_port {s : State} {p : Nat} (h : portUsable s p = true) :
    p < 5 ∧ (p = 4 → s.bit Obj.portFlags 4 = true) := by
  simp only [portUsable, Bool.and_eq_true] at h
  obtain ⟨-, h⟩ := h
  split at h
  · omega
  · split at h
    · omega
    · simp only [Bool.and_eq_true, decide_eq_true_eq] at h
      obtain ⟨h4, hb⟩ := h
      exact ⟨by omega, fun _ => hb⟩

theorem AtOnce.port_lt {s : State} {q : Req} (h : AtOnce s q) : q.port < 5 := (portUsable_port h.usable).1

/-- The dictionary queue is read from the frames in which its transactions entered it. -/
theorem dictionaryHead_congr {s t : State} (h : ∀ p, t.var .dqAt p = s.var .dqAt p) : dictionaryHead t = dictionaryHead s := by
  simp only [dictionaryHead, State.varB, State.varN, h]
  rfl

theorem Received.now {s u : State} (h : Received s u) : u.now = s.now := by
  simp only [State.now, State.varN, h.regs.vars .now 0 0 (by decide)]

theorem slotFree_iff {s : State} {p : Nat} : slotFree s p = true ↔
    s.varN .dSlots < 4 ∧ dictionaryHead (backToQueue p s) = some p ∧ s.varB .jobDone (JobFor.tagCheck p).slot = false ∧
      s.varN .dSlots ≤ s.varN .slotsDone := by
  simp only [slotFree, Bool.and_eq_true, Bool.not_eq_true', decide_eq_true_eq]
  exact ⟨fun ⟨⟨⟨a, b⟩, c⟩, d⟩ => ⟨a, b, c, d⟩, fun ⟨a, b, c, d⟩ => ⟨⟨⟨a, b⟩, c⟩, d⟩⟩

/-- The hidden quantities of a held request are those before its reception, but for the flags of SPI. -/
theorem var_hold_takeIn (q : Req) (aux : Aux) (s : State) {v : VarKind} (i j : Nat) (h1 : v ≠ .spiErr) (h2 : v ≠ .spiBusy) :
    (hold q aux (takeIn q.port s)).var v i j = s.var v i j := by
  unfold hold takeIn
  split
  · simp [State.bump]
  · split
    · simp [State.bump]
    · simp [State.bump, State.var_setVar, h1, h2]

theorem lateEvents_congr {f g : State → State} {s : State} (h : f s = g s) : lateEvents f s = lateEvents g s := by
  unfold lateEvents; rw [h]

/-- A dictionary slot serves the transaction at the head of the queue, when none of its segments has been served. -/
theorem dictionarySlot_eq {s : State} {p : Nat} {q : Req} (hhead : dictionaryHead s = some p) (hslots : s.varN .dSlots < 4)
    (hbefore : beforeDictionary s = s) (htxn : (portOf s p).txn = some q)
    (hjob : ((s.setVar .dqAt 0 p).addVar .dSlots 1).varB .jobDone (JobFor.tagCheck p).slot = false)
    (hserved : (portOf s p).served = 0) : dictionarySlot s =
      lateEvents (serve q (auxOf s p)) ((s.setVar .dqAt 0 p).addVar .dSlots 1) := by
  have htxn' : (portOf ((s.setVar .dqAt 0 p).addVar .dSlots 1) p).txn = some q := htxn
  have hserved' : (portOf ((s.setVar .dqAt 0 p).addVar .dSlots 1) p).served = 0 := hserved
  rw [dictionarySlot, hhead]
  dsimp only
  rw [if_pos hslots, hbefore, htxn']
  refine lateEvents_congr ?_
  rw [hjob, if_neg (by decide), if_pos hserved']
  rfl

/-- A request that its port takes in and serves at once reaches the checks of its object in this frame (R42, R552). -/
theorem AtOnce.request_eq {s : State} {q : Req} (h : AtOnce s q) (hop : q.opcode ≠ 8) (aux : Aux) :
    request q aux s = lateEvents (serve q aux) (atChecks q aux s) := by
  have hp := h.port_lt
  obtain ⟨hslots, hhead, hjob, hdone⟩ := slotFree_iff.1 h.slot
  obtain ⟨htxn, hkept⟩ := takeIn_port hp s
  have hreplay : isReplay q (takeIn q.port s) = false := by
    have := h.fresh
    unfold isReplay at this ⊢
    rwa [hkept]
  have hfree : (portOf (takeIn q.port s) q.port).txn.isSome = false := by rw [htxn, h.idle]; rfl
  have hnow : (hold q aux (takeIn q.port s)).now = s.now := by
    simp only [State.now, State.varN, var_hold_takeIn q aux s (v := .now) 0 0 (by decide) (by decide)]
  have hqueue : dictionaryHead (backToQueue q.port (hold q aux (takeIn q.port s))) = some q.port := by
    rw [← hhead]
    refine dictionaryHead_congr fun p => ?_
    simp only [backToQueue, State.var_setVar, hnow, var_hold_takeIn q aux s (v := .dqAt) p 0 (by decide) (by decide)]
  have hvar (v : VarKind) (i : Nat) (h1 : v ≠ .spiErr) (h2 : v ≠ .spiBusy) (h3 : v ≠ .dqAt) :
      (backToQueue q.port (hold q aux (takeIn q.port s))).var v i 0 = s.var v i 0 := by
    rw [backToQueue, State.var_setVar_ne _ _ (fun e => h3 e.1), var_hold_takeIn q aux s i 0 h1 h2]
  have hslots' : (backToQueue q.port (hold q aux (takeIn q.port s))).varN .dSlots = s.varN .dSlots := by
    simp only [State.varN, hvar .dSlots 0 (by decide) (by decide) (by decide)]
  have hdone' : (backToQueue q.port (hold q aux (takeIn q.port s))).varN .slotsDone = s.varN .slotsDone := by
    simp only [State.varN, hvar .slotsDone 0 (by decide) (by decide) (by decide)]
  have hbefore : beforeDictionary (backToQueue q.port (hold q aux (takeIn q.port s))) =
      backToQueue q.port (hold q aux (takeIn q.port s)) := by
    rw [beforeDictionary, if_pos (by rw [hslots', hdone']; exact hdone)]
  obtain ⟨hheld, hserved, haux⟩ := hold_port hp aux (takeIn q.port s)
  have hjob' : (atChecks q aux s).varB .jobDone (JobFor.tagCheck q.port).slot = false := by
    rw [← hjob]
    simp only [State.varB, (atChecks_received hp aux s).regs.vars .jobDone _ 0 (by decide)]
  have haux' : auxOf (backToQueue q.port (hold q aux (takeIn q.port s))) q.port = aux := haux
  have hslot : dictionarySlot (backToQueue q.port (hold q aux (takeIn q.port s))) =
      lateEvents (serve q aux) (atChecks q aux s) := by
    rw [dictionarySlot_eq hqueue (by rw [hslots']; exact hslots) hbefore hheld hjob' hserved, haux']
    rfl
  rw [request]
  simp only [h.usable, h.taken, hreplay, hfree, hop, hqueue, hslot, if_true, Bool.not_true, Bool.false_eq_true, if_false]

end Sys2Proof.Machine
end

section
/-!
PROOFS. What the checks of a request read is as it was before its reception, the answers of requests that are served at once, and
the writes of a wrong length (R10).
-/

namespace Sys2Proof.Machine

/-! ## What the reception and the tag check leave alone -/

/-- The objects that may differ when the checks of a request's object begin: the counters of the ports, and those of the job
that checks tags (R45). -/
def requestKeys : List Nat := frameCounters ++ [Obj.jobState 3, Obj.jobStarted 3, Obj.jobStepsDone 3, Obj.jobStepsTotal 3]

/-- Reception and tag check have left every object and hidden quantity alone but their own. -/
abbrev Reached (s u : State) : Prop := RegsWithin requestKeys [] receptionKinds s u

theorem Received.reached {s u : State} (h : Received s u) : Reached s u :=
  h.regs.mono (List.subset_append_left _ _) (List.Subset.refl _) (List.Subset.refl _)

theorem tagJob_regs (s : State) :
    RegsWithin [Obj.jobState 3, Obj.jobStarted 3, Obj.jobStepsDone 3, Obj.jobStepsTotal 3] [] [] s (tagJob s) :=
  (((RegsWithin.refl.drawFree.setO (by decide)).setO (by decide)).setO (by decide)).setO (by decide)

theorem not_mem_requestKeys {k : Nat} : k ∉ requestKeys ↔ k ≠ 0x482020 ∧ k ≠ 0x480023 ∧ k ≠ 0x480123 ∧ k ≠ 0x481020 ∧
    k ≠ 0x481120 ∧ k ≠ 0x14301 ∧ k ≠ 0x14304 ∧ k ≠ 0x14302 ∧ k ≠ 0x14303 := by
  simp [requestKeys, frameCounters, Obj.uartFrames, Obj.canRx, Obj.spiFrames, Obj.jobState, Obj.jobStarted, Obj.jobStepsDone,
    Obj.jobStepsTotal, objKey]

/-- An object differs from each of them where its subindex is none of theirs. -/
theorem not_mem_requestKeys_of_sub {k : Nat} (h : 4 < keySub k) (h20 : keySub k ≠ 0x20) (h23 : keySub k ≠ 0x23) :
    k ∉ requestKeys := by
  unfold keySub at h h20 h23
  rw [not_mem_requestKeys]
  omega

namespace Reached
variable {s u : State} (h : Reached s u)
include h

theorem o_eq {k : Nat} (hk : k ∉ requestKeys) : u.o k = s.o k := h.objs k hk (by simp)
theorem oN_eq {k : Nat} (hk : k ∉ requestKeys) : u.oN k = s.oN k := by rw [State.oN, h.o_eq hk, State.oN]
theorem oB_eq {k : Nat} (hk : k ∉ requestKeys) : u.oB k = s.oB k := by rw [State.oB, h.o_eq hk, State.oB]
theorem bit_eq {k : Nat} (hk : k ∉ requestKeys) (b : Nat) : u.bit k b = s.bit k b := by rw [State.bit, h.oN_eq hk, State.bit]
theorem varB_eq {v : VarKind} (hv : v ∉ receptionKinds) (i j : Nat) : u.varB v i j = s.varB v i j := by
  rw [State.varB, h.vars v i j hv, State.varB]

theorem mode_eq : u.mode = s.mode := by rw [State.mode, h.oN_eq (by decide), State.mode]
theorem role_eq : role u = role s := h.oN_eq (by decide)
theorem teamed_eq : teamed u = teamed s := h.oB_eq (by decide)
theorem holder_eq : holder u = holder s := by rw [holder, h.oN_eq (by decide), holder]

theorem indexExists_eq (i : Nat) : indexExists u i = indexExists s i := by rw [indexExists, h.oN_eq (by decide), indexExists]

theorem objRow_eq (i j : Nat) : objRow u i j = objRow s i j := by
  rw [objRow, h.indexExists_eq, h.oN_eq (by decide), objRow]

theorem objSize_eq (k : Nat) (r : Row) : objSize u k r = objSize s k r := by rw [objSize, h.oN_eq (by decide), objSize]

theorem formatOk_eq (q : Req) : formatOk q u = formatOk q s := by
  simp only [formatOk, h.objRow_eq, h.objSize_eq]

/-- The checks before the object's own read the same before and after the reception (R550). -/
theorem preCheck_eq (q : Req) : preCheck q u = preCheck q s := by
  simp only [preCheck, h.formatOk_eq, h.mode_eq, h.indexExists_eq, h.objRow_eq]

theorem mayServe_eq (k : Nat) : mayServe u k = mayServe s k := by
  simp only [mayServe, teamMayWrite, h.role_eq, h.teamed_eq]

end Reached

/-- May this device store the object: unchanged while no write has entered the journal. -/
theorem Received.storeOk_eq {s u : State} (h : Received s u) (k : Nat) : storeOk u k = storeOk s k := by
  simp only [storeOk, journalRoom, h.reached.mayServe_eq, h.reached.teamed_eq, h.reached.holder_eq, h.journal]

/-! ## Serving a write -/

theorem serve_of_preCheck_ne {q : Req} {aux : Aux} {s : State} (h : preCheck q s ≠ .ok) :
    serve q aux s = respond q (preCheck q s) [] s := by
  rw [serve]
  split
  · exact absurd ‹_› h
  · rfl

/-- A plain WRITE of an object that its access code admits reaches the checks of the object (R11, R550). -/
theorem serve_write {q : Req} {r : Row} {aux : Aux} {s : State} (hop : q.opcode = 2) (hpre : preCheck q s = .ok)
    (hrow : objRow s q.index q.sub = some r) (hacc : r.access = .rw ∨ r.access = .rws) (hmargin : outsideMargins q r s = false) :
    serve q aux s = finish q aux (writeObject q aux r s).1 (writeObject q aux r s).2 := by
  have hplain : ¬(r.access = .ro ∨ r.access = .rwk ∨ r.access = .wok ∨ outsideMargins q r s = true) := by
    rcases hacc with h | h <;> simp [h, hmargin]
  simp only [serve, hpre, hrow, hop, serveSmall, if_neg hplain, or_self, if_false, Nat.reduceEqDiff]

/-- A write of another length than the object's stops there (R10). -/
theorem writeObject_mismatch {q : Req} {r : Row} {s : State} (aux : Aux) (h : q.data.length ≠ r.ty.size) :
    writeObject q aux r s = (some .mismatch, s) := by
  rw [writeObject]
  simp only [if_pos h]

/-! ## Requests that are answered at once -/

/-- A state in which a request has just been answered, from the state its work has left. -/
structure AnswersFrom (w : State) (q : Req) (st : Status) (t : State) : Prop where
  answered : answered t q st = true
  regs : RegsWithin [] [Obj.canTx] [] w t
  mram : t.mram = w.mram
  deferred : t.deferred = w.deferred

/-- A request that is served at once and whose service ends in an answer is answered (R547, R552). -/
theorem AtOnce.answersFrom {s w : State} {q : Req} {aux : Aux} {st : Status} (h : AtOnce s q) (hop : q.opcode ≠ 8)
    (hserve : serve q aux (atChecks q aux s) = respond q st [] w) (hflags : w.o Obj.portFlags = s.o Obj.portFlags) :
    AnswersFrom w q st (request q aux s) := by
  obtain ⟨hp, hbench⟩ := portUsable_port h.usable
  have hbit (b : Nat) : w.bit Obj.portFlags b = s.bit Obj.portFlags b := by simp only [State.bit, State.oN, hflags]
  have hwork := respond_work q st [] w
  have hanswered := respond_answered (st := st) hp (fun h4 => (hbit 4).trans (hbench h4))
  rw [h.request_eq hop]
  refine ⟨by rw [answered_lateEvents, hserve]; exact hanswered, ?_, ?_, ?_⟩
  · exact RegsWithin.lateEvents (by rw [hserve]; exact hwork.regs)
  · rw [← hwork.mram, ← hserve]; rfl
  · rw [← hwork.deferred, ← hserve]; rfl

/-- A request refused before its object's work changes what the reception of a request changes, and no more. -/
theorem AtOnce.refused {s : State} {q : Req} {aux : Aux} {st : Status} (h : AtOnce s q) (hop : q.opcode ≠ 8)
    (hserve : serve q aux (atChecks q aux s) = respond q st [] (atChecks q aux s)) :
    answered (request q aux s) q st = true ∧ (request q aux s).mram = s.mram ∧ (request q aux s).deferred = s.deferred ∧
      RegsWithin [Obj.uartFrames] [Obj.canRx, Obj.canTx, Obj.spiFrames] [.spiErr, .spiBusy, .dSlots, .dqAt] s (request q aux s) := by
  have hrec := atChecks_received h.port_lt aux s
  obtain ⟨hans, hregs, hmram, hdef⟩ := h.answersFrom hop hserve (hrec.reached.o_eq (by decide))
  exact ⟨hans, hmram.trans hrec.mram, hdef.trans hrec.deferred,
    hrec.within.trans (hregs.mono (by simp) (by simp) (by simp))⟩

/-! ## Writes of a wrong length (R10) -/

theorem write_wrongLength {s : State} {q : Req} {r : Row} (hop : q.opcode = 2) (hfree : freeFor s q = true)
    (hrow : objRow s q.index q.sub = some r) (hacc : r.access = .rw ∨ r.access = .rws) (hlen : q.data.length ≠ r.ty.size) :
    serve q {} (atChecks q {} s) = respond q .mismatch [] (atChecks q {} s) := by
  obtain ⟨hnow, hpre⟩ := freeFor_iff.1 hfree
  have hrec := (atChecks_received hnow.port_lt {} s).reached
  have hmargin : outsideMargins q r (atChecks q {} s) = false := by simp [outsideMargins, hlen]
  rw [serve_write hop (by rw [hrec.preCheck_eq, hpre]) (by rw [hrec.objRow_eq, hrow]) hacc hmargin,
    writeObject_mismatch {} hlen]
  rfl

/-- The checks of a keyed write read nothing that the reception or the tag check has written (R508). -/
theorem Reached.keyedPass_eq {s u : State} (h : Reached s u) (hkeys : u.slotKeys = s.slotKeys) {q : Req} (hslot : q.slot < 4) :
    keyedPass u q = keyedPass s q := by
  have hstate {i : Nat} (hi : i < 4) : u.oN (Obj.keyState i) = s.oN (Obj.keyState i) :=
    h.oN_eq (by rw [not_mem_requestKeys]; simp only [Obj.keyState, objKey]; omega)
  have hlast : u.oN (Obj.keyLast q.slot) = s.oN (Obj.keyLast q.slot) :=
    h.oN_eq (by rw [not_mem_requestKeys]; simp only [Obj.keyLast, objKey]; omega)
  have hhwm : u.oN (Obj.keyHwm q.slot) = s.oN (Obj.keyHwm q.slot) :=
    h.oN_eq (by rw [not_mem_requestKeys]; simp only [Obj.keyHwm, objKey]; omega)
  have hready : u.bit Obj.keyStatus 0 = s.bit Obj.keyStatus 0 := h.bit_eq (by decide) 0
  have hkey : slotKey u q.slot = slotKey s q.slot := by rw [slotKey, hkeys, slotKey]
  have huid : tagMessage q u = tagMessage q s := by rw [tagMessage, h.oN_eq (by decide), tagMessage]
  have hraise : u.varB .hwmOn q.slot = s.varB .hwmOn q.slot := h.varB_eq (by decide) _ _
  unfold keyedPass
  rw [hstate (i := 0) (by decide), hready, hstate hslot, hkey, huid, hraise, hlast, hhwm]

/-- A keyed command that passes its checks, with a counter that H covers, takes effect at once (R508, R509). -/
theorem keyedChecked_of_keyedPass {q : Req} {aux : Aux} {s : State} (h : keyedPass s q = true) :
    keyedChecked q aux s = keyedEffect q aux s := by
  simp only [keyedPass, Bool.and_eq_true, Bool.not_eq_true', decide_eq_true_eq] at h
  obtain ⟨⟨⟨⟨⟨⟨hmaster, hready⟩, hslot⟩, htag⟩, hraise⟩, hlast, hmax, hhwm⟩, -⟩ := h
  have hcheck : keyedCheck q s = (.ok, s) := by simp [keyedCheck, slotIs, hready, hmaster, hslot, htag]
  have hcounter : counterCheck q s = (.ok, s) := by simp [counterCheck, hlast, hmax]
  simp only [keyedChecked, hcheck, hraise, keyedGo, hcounter, hhwm, if_true, Bool.false_eq_true, if_false]

/-- A counter below the last block of its range, which H covers, takes effect without a write to MRAM (R508, R510). -/
theorem consumeCounter_keeps {q : Req} {s : State} (h : q.counter < 0xF0000000) :
    RegsWithin [] [Obj.keyLast] [.hwmWarn] s (consumeCounter q s) ∧ (consumeCounter q s).mram = s.mram ∧
      (consumeCounter q s).deferred = s.deferred := by
  have hset : RegsWithin [] [Obj.keyLast] [.hwmWarn] s (s.setO (Obj.keyLast q.slot) q.counter) := RegsWithin.refl.setF (by simp)
  unfold consumeCounter
  extract_lets k u
  split
  · exact ⟨(hset.setVar (by simp)).raiseActionLater, rfl, rfl⟩
  · rw [if_neg (by omega)]
    exact ⟨hset, rfl, rfl⟩

/-- A keyed write whose object's checks end in a refusal answers it; its counter is spent (R508). -/
theorem keyedEffect_refused {q : Req} {r : Row} {aux : Aux} {s : State} {st : Status} (hop : q.opcode = 3)
    (hpass : keyedPass s q = true) (hcounter : q.counter < 0xF0000000)
    (hrow : objRow (consumeCounter q s) q.index q.sub = some r)
    (hwrite : writeObject q aux r (consumeCounter q s) = (some st, consumeCounter q s)) :
    keyedEffect q aux s = respond q st [] (consumeCounter q s) := by
  simp only [keyedPass, Bool.and_eq_true, decide_eq_true_eq] at hpass
  obtain ⟨⟨-, hlast, -, -⟩, howner⟩ := hpass
  have hfall : ¬((q.counter : Int) - s.o (Obj.keyLast q.slot) < 0) := by unfold State.oN at hlast; omega
  have howner' : (ownerOnly q && decide (q.slot ≠ 0)) = false := by
    cases ho : ownerOnly q <;> simp_all
  have hretire (t : State) : retireIfSpent q t = t := if_neg (by omega)
  simp only [keyedEffect, if_neg hfall, hop, howner', hrow, hwrite, finish, hretire, Nat.reduceEqDiff, if_false, false_and,
    Bool.false_eq_true]

theorem serve_writek {q : Req} {r : Row} {aux : Aux} {s : State} (hop : q.opcode = 3) (hpre : preCheck q s = .ok)
    (hrow : objRow s q.index q.sub = some r) (hacc : r.access ≠ .ro) (hengine : engineFree s = true) :
    serve q aux s = keyedChecked q aux (tagJob s) := by
  have hjobs : (s.jobs.any fun j => jobSecurity j.kind) = false := by simpa [engineFree] using hengine
  have hwritable : writable r = true := by simpa [writable] using hacc
  simp only [serve, hpre, hrow, hop, hwritable, keyedServe, hjobs, if_true, if_false, Nat.reduceEqDiff, Bool.false_eq_true]

theorem keyedPass_slot {s : State} {q : Req} (h : keyedPass s q = true) : q.slot < 4 := by
  simp only [keyedPass, Bool.and_eq_true, decide_eq_true_eq] at h
  obtain ⟨⟨⟨⟨⟨-, hslot, -⟩, -⟩, -⟩, -⟩, -⟩ := h
  exact hslot

theorem atChecks_received_tagJob {q : Req} (hp : q.port < 5) (aux : Aux) (s : State) :
    Reached s (tagJob (atChecks q aux s)) :=
  (atChecks_received hp aux s).reached.trans ((tagJob_regs _).mono (List.subset_append_right _ _) (by simp) (by simp))

/-- The state in which a keyed write that passed its checks reaches those of its object: its tag checked, its counter spent. -/
def atKeyedChecks (q : Req) (aux : Aux) (s : State) : State := consumeCounter q (tagJob (atChecks q aux s))

theorem atKeyedChecks_o {s : State} {q : Req} {k : Nat} (aux : Aux) (hp : q.port < 5) (hcounter : q.counter < 0xF0000000)
    (hk : k ∉ requestKeys) (hlast : ∀ n, k ≠ Obj.keyLast n) : (atKeyedChecks q aux s).o k = s.o k := by
  obtain ⟨hspent, -, -⟩ := consumeCounter_keeps (s := tagJob (atChecks q aux s)) hcounter
  exact (hspent.objs k (by simp) (by simpa using hlast)).trans ((atChecks_received_tagJob hp aux s).o_eq hk)

theorem writek_wrongLength {s : State} {q : Req} {r : Row} (aux : Aux) (hop : q.opcode = 3) (hfree : freeFor s q = true)
    (hpass : keyedPass s q = true) (hrow : objRow s q.index q.sub = some r) (hacc : r.access ≠ .ro)
    (hlen : q.data.length ≠ r.ty.size) (hcounter : q.counter < 0xF0000000) (hengine : engineFree s = true) :
    serve q aux (atChecks q aux s) = respond q .mismatch [] (atKeyedChecks q aux s) := by
  obtain ⟨hnow, hpre⟩ := freeFor_iff.1 hfree
  have hrec := atChecks_received hnow.port_lt aux s
  have hpass' : keyedPass (tagJob (atChecks q aux s)) q = true := by
    rw [(atChecks_received_tagJob hnow.port_lt aux s).keyedPass_eq hrec.slotKeys (keyedPass_slot hpass), hpass]
  have hpart : (atKeyedChecks q aux s).oN Obj.idPart = s.oN Obj.idPart := by
    have hlast (n : Nat) : Obj.idPart ≠ Obj.keyLast n := by simp only [Obj.idPart, Obj.keyLast, objKey]; omega
    rw [State.oN, atKeyedChecks_o aux hnow.port_lt hcounter (by decide) hlast, State.oN]
  have hrow' : objRow (atKeyedChecks q aux s) q.index q.sub = some r := by
    rw [← hrow]; simp only [objRow, indexExists, hpart]
  rw [serve_writek hop (by rw [hrec.reached.preCheck_eq, hpre]) (by rw [hrec.reached.objRow_eq, hrow]) hacc
      (by rw [← hengine, engineFree, hrec.jobs, engineFree]), keyedChecked_of_keyedPass hpass',
    keyedEffect_refused hop hpass' hcounter hrow' (writeObject_mismatch aux hlen)]
  rfl

/-- A row of the dictionary serves an index that both parts have and whose access no rule of its own narrows. -/
theorem objRow_eq_dictRow {i j : Nat} (s : State) (hl : indexListed i = true) (ha : absent4824 i = false)
    (hsrc : ¬(0x2400 ≤ i ∧ i < 0x2500) ∨ (6 ≤ j ∧ j < 0x40)) (hstud : ¬(0x4411 ≤ i ∧ i ≤ 0x4413)) :
    objRow s i j = (dictRow i j).map (romRow (objKey i j)) := by
  have hexists : indexExists s i = true := by simp [indexExists, hl, ha]
  have hfixed : reactFixed (i - 0x2400) = true → i < 0x2500 := by simp only [reactFixed, decide_eq_true_eq]; omega
  rw [objRow, hexists, if_neg (by decide), if_neg (by omega), if_neg (by omega), if_neg]
  rintro ⟨hf, hi, hj⟩
  have := hfixed hf
  omega

@[simp] theorem romRow_ty (k : Nat) (r : Row) : (romRow k r).ty = r.ty := by unfold romRow; split <;> rfl
@[simp] theorem romRow_access (k : Nat) (r : Row) : (romRow k r).access = r.access := by unfold romRow; split <;> rfl
@[simp] theorem romRow_apply (k : Nat) (r : Row) : (romRow k r).apply = r.apply := by unfold romRow; split <;> rfl

/-- irq.clear is an object of 16 bytes on both parts. -/
theorem objRow_irqClear (s : State) : ∃ r, objRow s (keyIndex Obj.irqClear) (keySub Obj.irqClear) = some r ∧ r.ty.size = 16 := by
  have hdict : (dictRow (keyIndex Obj.irqClear) (keySub Obj.irqClear)).map (·.ty.size) = some 16 := by decide +kernel
  obtain ⟨r, hr, hsize⟩ := Option.map_eq_some_iff.1 hdict
  rw [objRow_eq_dictRow s (by decide +kernel) (by decide) (by decide) (by decide), hr]
  exact ⟨_, rfl, by rw [romRow_ty, hsize]⟩

/-- A BLOCKWRITE of irq.clear names all of its 16 bytes (R549). -/
theorem formatOk_irqClear {q : Req} (s : State) (hop : q.opcode = 5) (hi : q.index = keyIndex Obj.irqClear)
    (hj : q.sub = keySub Obj.irqClear) (hlen : q.len ≠ 16) : formatOk q s = false := by
  obtain ⟨r, hr, hsize⟩ := objRow_irqClear s
  have hkey : objKey q.index q.sub ≠ Obj.sbExpData := by rw [hi, hj]; decide
  have hobj : objSize s (objKey q.index q.sub) r = 16 := by rw [objSize, hi, hj, if_neg (by decide), hsize]
  rw [← hi, ← hj] at hr
  simp [formatOk, hop, hr, hobj, hlen]

theorem preCheck_of_not_formatOk {q : Req} {s : State} (h : formatOk q s = false) : preCheck q s = .mismatch := by
  simp [preCheck, h]

/-- Settles O47: the length is judged before the checks of the object itself. -/
theorem wrongLengthIsRejected : Obligations.WrongLengthIsRejected := by
  unfold Obligations.WrongLengthIsRejected
  intro s
  refine ⟨?write, ?writek, ?blockwrite⟩
  case write =>
    intro q r hop hfree hrow hacc hlen
    refine ⟨_, by rw [exec, execWrite], ?_⟩
    rw [show { q with opcode := 2 } = q from hop ▸ rfl]
    exact (freeFor_iff.1 hfree).1.refused (by omega) (write_wrongLength hop hfree hrow hacc hlen)
  case writek =>
    intro q copies r hop hfree hpass hrow hacc hlen hcounter hengine
    refine ⟨_, by rw [exec, execWritek], ?_⟩
    rw [show { q with opcode := 3 } = q from hop ▸ rfl]
    obtain ⟨hnow, -⟩ := freeFor_iff.1 hfree
    generalize haux : ({ copies := copies } : Aux) = aux
    have hserve := writek_wrongLength aux hop hfree hpass hrow hacc hlen hcounter hengine
    have hflags : (atKeyedChecks q aux s).o Obj.portFlags = s.o Obj.portFlags :=
      atKeyedChecks_o aux hnow.port_lt hcounter (by decide) fun n => by simp only [Obj.portFlags, Obj.keyLast, objKey]; omega
    have hrec := atChecks_received hnow.port_lt aux s
    have htag := tagJob_regs (atChecks q aux s)
    obtain ⟨hspent, hmram, hdef⟩ := consumeCounter_keeps (s := tagJob (atChecks q aux s)) hcounter
    obtain ⟨hans, hsent, hmram', hdef'⟩ := hnow.answersFrom (by omega) hserve hflags
    refine ⟨hans, (hmram'.trans hmram).trans hrec.mram, (hdef'.trans hdef).trans hrec.deferred, ?_⟩
    exact ((hrec.within.mono (by simp) (by simp) (by simp)).trans (htag.mono (by simp) (by simp) (by simp))).trans
      ((hspent.mono (by simp) (by simp) (by simp)).trans (hsent.mono (by simp) (by simp) (by simp)))
  case blockwrite =>
    intro q hop husable htaken hidle hfresh hi hj hslot hdata hlen hmin hmax hboot hfree
    refine ⟨_, by rw [exec, execBlockwrite], ?_⟩
    rw [show { q with opcode := 5 } = q from hop ▸ rfl]
    have hpre := preCheck_of_not_formatOk (formatOk_irqClear (atChecks q {} s) hop hi hj hlen)
    refine AtOnce.refused ⟨husable, htaken, hidle, hfree, hfresh⟩ (by omega) ?_
    rw [serve_of_preCheck_ne (by rw [hpre]; decide), hpre]

end Sys2Proof.Machine
end

section
/-!
PROOFS. Plain writes of command objects: what of the state they read, how their service ends, and what the modes, the sequencer,
the acknowledgements and the loop-backs do with them.
-/

namespace Sys2Proof.Machine

/-! ## Rows and acceptance of a plain write -/

theorem objRow_of_preCheck {q : Req} {s : State} (h : preCheck q s = .ok) (hop : q.opcode ≠ 6) :
    ∃ r, objRow s q.index q.sub = some r := by
  rw [← Option.isSome_iff_exists, ← Option.not_isNone, Bool.not_eq_true']
  by_contra hnone
  rw [Bool.not_eq_false] at hnone
  simp only [preCheck, hop, hnone, if_true, if_false] at h
  split at h
  · cases h
  · split at h
    · cases h
    · split at h <;> cases h

/-- A row that the dictionary gives and no rule of its own narrows has the dictionary's type, access and apply point. -/
theorem objRow_some {i j : Nat} {s : State} {r : Row} (h : objRow s i j = some r)
    (hsrc : ¬(0x2400 ≤ i ∧ i < 0x2500) ∨ (6 ≤ j ∧ j < 0x40)) :
    (dictRow i j).map (fun d => (d.ty, d.access, d.apply)) = some (r.ty, r.access, r.apply) := by
  have hfixed : reactFixed (i - 0x2400) = true → i < 0x2500 := by simp only [reactFixed, decide_eq_true_eq]; omega
  rw [objRow] at h
  split at h
  · cases h
  split at h
  · cases h
  split at h
  · cases h
  rw [if_neg (by rintro ⟨hf, hi, hj⟩; have := hfixed hf; omega)] at h
  obtain ⟨d, hd, rfl⟩ := Option.map_eq_some_iff.1 h
  simp [hd]

/-- An accepted plain write of an object whose row is writable at all times: what its parts say of the state. -/
structure PlainWrite (s : State) (c : Plain) (key : Nat) (r : Row) : Prop where
  now : AtOnce s (plainReq c key)
  pre : preCheck (plainReq c key) s = .ok
  store : storeOk s key = true
  row : objRow s (keyIndex key) (keySub key) = some r
  access : r.access = .rw
  length : c.data.length = r.ty.size

theorem plainWrite_of_plainOk {s : State} {c : Plain} {key : Nat} {ty : Ty} {ap : Apply} (h : plainOk s c key = true)
    (hsrc : ¬(0x2400 ≤ keyIndex key ∧ keyIndex key < 0x2500) ∨ (6 ≤ keySub key ∧ keySub key < 0x40))
    (hdict : (dictRow (keyIndex key) (keySub key)).map (fun d => (d.ty, d.access, d.apply)) = some (ty, .rw, ap))
    (hlen : c.data.length = ty.size) : ∃ r, PlainWrite s c key r ∧ r.ty = ty ∧ r.apply = ap := by
  rw [plainOk, Bool.and_eq_true] at h
  obtain ⟨hfree, hstore⟩ := h
  obtain ⟨hnow, hpre⟩ := freeFor_iff.1 hfree
  obtain ⟨r, hrow⟩ := objRow_of_preCheck hpre (show 2 ≠ 6 by decide)
  have hr : (dictRow (keyIndex key) (keySub key)).map _ = _ := objRow_some hrow hsrc
  rw [hdict, Option.some.injEq, Prod.mk.injEq, Prod.mk.injEq] at hr
  obtain ⟨hty, hacc, hap⟩ := hr
  exact ⟨r, ⟨hnow, hpre, hstore, hrow, hacc.symm, by rw [hlen, hty]⟩, hty.symm, hap.symm⟩

/-- The state in which a plain write reaches the checks of its object. -/
def atWrite (c : Plain) (key : Nat) (s : State) : State := atChecks (plainReq c key) {} s

namespace PlainWrite
variable {s : State} {c : Plain} {key : Nat} {r : Row} (h : PlainWrite s c key r)
include h

theorem received : Received s (atWrite c key s) := atChecks_received h.now.port_lt {} s

/-- What an accepted plain write does: the effect of its value, and the journal's entry where the twin gets it (R269, R550). -/
theorem writeObject_eq {o : Option Status} {t : State}
    (hv : writeValue (plainReq c key) {} r key (decodeVal r.ty c.data) (atWrite c key s) = (o, t)) :
    writeObject (plainReq c key) {} r (atWrite c key s) =
      (o, if (o = none ∨ o = some .ok) ∧ grouped key then forwardWrite key r.ty.size (decodeVal r.ty c.data) t else t) := by
  have hkey : objKey (plainReq c key).index (plainReq c key).sub = key := objKey_keyIndex_keySub key
  have hstore : storeOk (atWrite c key s) key = true := by rw [h.received.storeOk_eq, h.store]
  simp only [storeOk, Bool.and_eq_true, Bool.or_eq_true, Bool.not_eq_true'] at hstore
  obtain ⟨hserve, hroom⟩ := hstore
  have hroom' : (teamed (atWrite c key s) && holder (atWrite c key s) && grouped key &&
      !journalRoom (atWrite c key s) key) = false := by
    rcases hroom with hroom | hroom <;> simp [hroom]
  have hlen : ¬(plainReq c key).data.length ≠ r.ty.size := not_not.2 h.length
  have hop : decide ((plainReq c key).opcode = 3) = false := rfl
  have hv' : writeValue (plainReq c key) {} r key (decodeVal r.ty (plainReq c key).data) (atWrite c key s) = (o, t) := hv
  rw [writeObject]
  simp only [hkey, if_neg hlen, hop, h.access, hserve, hroom', reduceCtorEq, Bool.not_true, Bool.false_and, Bool.false_eq_true,
    false_and, if_false, hv']
  rfl

theorem serve_eq (hidx : ¬(0x1100 ≤ keyIndex key ∧ keyIndex key < 0x110C)) {o : Option Status} {w : State}
    (hw : writeObject (plainReq c key) {} r (atWrite c key s) = (o, w)) :
    serve (plainReq c key) {} (atWrite c key s) = finish (plainReq c key) {} o w := by
  have hrec := h.received.reached
  have hmargin : outsideMargins (plainReq c key) r (atWrite c key s) = false := by
    rw [outsideMargins, show decide (0x1100 ≤ (plainReq c key).index ∧ (plainReq c key).index < 0x110C) = false from
      decide_eq_false hidx]
    rfl
  rw [serve_write rfl (by rw [hrec.preCheck_eq, h.pre]) (by rw [hrec.objRow_eq]; exact h.row) (.inl h.access) hmargin, hw]

/-- A plain write that ends with a status is answered with it. -/
theorem answersFrom (hidx : ¬(0x1100 ≤ keyIndex key ∧ keyIndex key < 0x110C)) {st : Status} {w : State}
    (hw : writeObject (plainReq c key) {} r (atWrite c key s) = (some st, w)) (hflags : w.o Obj.portFlags = s.o Obj.portFlags) :
    AnswersFrom w (plainReq c key) st (request (plainReq c key) {} s) :=
  h.now.answersFrom (show 2 ≠ 8 by decide) (h.serve_eq hidx hw) hflags

/-- A plain write whose response waits stays on its port. -/
theorem waits (hidx : ¬(0x1100 ≤ keyIndex key ∧ keyIndex key < 0x110C)) {w : State}
    (hw : writeObject (plainReq c key) {} r (atWrite c key s) = (none, w)) :
    (portOf (request (plainReq c key) {} s) c.port).txn = some (plainReq c key) ∧
      RegsWithin [] [] [] w (request (plainReq c key) {} s) := by
  have hserve : serve (plainReq c key) {} (atChecks (plainReq c key) {} s) = hold (plainReq c key) {} w := h.serve_eq hidx hw
  rw [h.now.request_eq (show 2 ≠ 8 by decide)]
  refine ⟨?_, RegsWithin.lateEvents (by rw [hserve]; exact (hold_work _ _ _).regs)⟩
  rw [portOf_lateEvents, hserve]
  exact (hold_port h.now.port_lt _ _).1

end PlainWrite

end Sys2Proof.Machine
end

section
/-!
PROOFS. The plain writes of sys.mode_req, seq.cmd, the acknowledgements and the loop-backs: what each does to the state in which it
reaches its object, and from there to the state before the request.
-/

namespace Sys2Proof.Machine

/-- No object outside the family can.tx is one of its members. -/
theorem ne_canTx {k : Nat} (h : keySub k ≠ 0x24) (n : Nat) : k ≠ Obj.canTx n :=
  fun e => h (by rw [e, Obj.canTx, keySub_objKey _ _ (by decide)])

/-! ## What goes to the twin (R250, R268, R269) -/

theorem enqueue_regs (i : DqItem) (s : State) : RegsWithin [Obj.teamDqDepth, Obj.teamDqMax] [] [] s (enqueue i s) := by
  unfold enqueue
  extract_lets same q t t'
  have hdepth : RegsWithin [Obj.teamDqDepth, Obj.teamDqMax] [] [] s t' :=
    (show RegsWithin _ _ _ s t from ⟨fun _ _ _ => rfl, fun _ _ _ _ => rfl⟩).setO (by decide)
  exact RegsWithin.ite (hdepth.setO (by decide)) hdepth

theorem forwardWrite_regs (k len : Nat) (v : Int) (s : State) :
    RegsWithin [Obj.teamJournal, Obj.teamDqDepth, Obj.teamDqMax] [] [] s (forwardWrite k len v s) := by
  unfold forwardWrite
  split
  · extract_lets j t t'
    have hjournal : RegsWithin [Obj.teamJournal, Obj.teamDqDepth, Obj.teamDqMax] [] [] s t' :=
      (show RegsWithin _ _ _ s t from ⟨fun _ _ _ => rfl, fun _ _ _ _ => rfl⟩).setO (by decide)
    exact RegsWithin.ite (hjournal.trans ((enqueue_regs _ _).mono (by simp) (by simp) (by simp))) hjournal
  · exact RegsWithin.refl

theorem forwardAck_regs (src bits : Nat) (s : State) :
    RegsWithin [Obj.teamDqDepth, Obj.teamDqMax] [] [] s (forwardAck src bits s) :=
  RegsWithin.ite (enqueue_regs _ _) RegsWithin.refl

theorem forwardAckAll_regs (s : State) : RegsWithin [Obj.teamDqDepth, Obj.teamDqMax] [] [] s (forwardAckAll s) :=
  RegsWithin.ite (enqueue_regs _ _) RegsWithin.refl

/-! ## sys.mode_req (R14, R28, R30) -/

theorem writeValue_modeReq {q : Req} {aux : Aux} {r : Row} {v : Int} {s t : State} {o : Option Status}
    (h : modeReqWrite v.toNat (some q.port) s = (o, t)) :
    writeValue q aux r Obj.sysModeReq v s =
      (o, if o = none ∨ o = some .ok then storeValue r Obj.sysModeReq v t else t) := by
  rw [writeValue, if_pos rfl, h]

/-- A request for the other of SETUP and RUN whose conditions hold is asked for and answered later (R28, R30). -/
theorem modeReqWrite_asks {v p : Nat} {s : State} (hmode : s.mode = .setup ∨ s.mode = .run) (hv : v = 3 ∨ v = 4)
    (hother : v ≠ s.mode.code) (hrun : v = 4 → s.varB .activeBank = true ∧ s.mainOn = true ∧ tableOk s = true) :
    modeReqWrite v (some p) s = (none, (s.requestMode (Mode.ofCode v) 6).setFlag .modePort true p) := by
  rw [modeReqWrite, if_neg (by tauto), if_neg (by tauto), if_neg hother, if_neg (by tauto)]

theorem modeReqWrite_same {v : Nat} {o : Option Nat} {s : State} (hmode : s.mode = .setup ∨ s.mode = .run) (hv : v = 3 ∨ v = 4)
    (hsame : v = s.mode.code) (hwaits : modeWaits s = false) : modeReqWrite v o s = (some .ok, s) := by
  rw [modeReqWrite, if_neg (by tauto), if_neg (by tauto), if_pos hsame, hwaits, if_neg (by decide)]

theorem modeReqWrite_bankless {o : Option Nat} {s : State} (hmode : s.mode = .setup) (hbank : s.varB .activeBank = false) :
    modeReqWrite 4 o s = (some .stateForbids, s) := by
  rw [modeReqWrite, if_neg (by simp [hmode]), if_neg (by simp), if_neg (by rw [hmode]; decide), if_pos (by simp [hbank])]

theorem storeValue_nextFrame {r : Row} (h : r.apply = .nextFrame) (k : Nat) (v : Int) (s : State) :
    RegsWithin [] [] [] s (storeValue r k v s) := by
  rw [storeValue, if_neg (by simp [h])]
  exact ⟨fun _ _ _ => rfl, fun _ _ _ _ => rfl⟩

/-! ## seq.cmd (R210, R213, R214) -/

theorem seqCmd_run {v : Nat} {s : State} (hmode : s.mode = .run) (hswap : s.varB .swapOn = false) (hv : v = 1 ∨ v = 2) :
    seqCmd v s = (.ok, if v = 1 then onRequest 0 s else offRequest 0 s) := by
  rw [seqCmd, if_neg (by simp [hmode]), if_neg (by omega), hswap, if_neg (by decide)]
  split <;> rfl

theorem yardTo_of_yardGo {s : State} {k : Nat} (h : s.var .yardGo = ((k + 1 : Nat) : Int)) : yardTo s = k := by
  have hset : s.varB .yardGo = true := by rw [State.varB, h]; simp; omega
  rw [yardTo, hset, if_pos rfl, State.varN, h]
  omega

/-- A device alone in its yard takes a step as soon as it is asked for one (R213). -/
theorem raiseRequest_alone {s : State} (cause : Nat) (h : yardAlone s = true) :
    raiseRequest cause s = goYard (yardAt s + 1) s := by rw [raiseRequest, h, if_pos rfl]

theorem onRequest_latched {s : State} (cause : Nat) (h : s.oN Obj.sequencerState = 5 ∨ 33 ≤ yardAt s) :
    onRequest cause s = (s.setBit Obj.sequencerPending 0 true).record 0x030B (u8 (yardAt s)) := by
  rw [onRequest]; exact if_pos h

theorem onRequest_up {s : State} (cause : Nat) (hst : s.oN Obj.sequencerState ≠ 5) (hdown : yardAt s = 0)
    (hswap : s.varB .swapOn = false) (halone : yardAlone s = true) :
    onRequest cause s = goYard 1 (s.setVar .upCause cause) := by
  have hno : ¬(s.oN Obj.sequencerState = 5 ∨ 33 ≤ yardAt s) := by omega
  have halone' : yardAlone (s.setVar .upCause cause) = true := halone
  have hat : yardAt (s.setVar .upCause cause) = 0 := hdown
  unfold onRequest
  extract_lets k st
  rw [if_neg hno, if_pos hdown, hswap, if_neg (by decide), raiseRequest_alone cause halone', hat]

theorem offRequest_down {s : State} (cause : Nat) (hst : s.oN Obj.sequencerState ≠ 5) (hup : yardAt s = 32)
    (halone : yardAlone s = true) : offRequest cause s = goYard 33 (s.setVar .downCause cause) := by
  have hno : ¬(s.oN Obj.sequencerState = 5 ∨ 33 ≤ yardAt s ∨ yardAt s = 0) := by omega
  have halone' : yardAlone (s.setVar .downCause cause) = true := halone
  have hat : yardAt (s.setVar .downCause cause) = 32 := hup
  unfold offRequest
  extract_lets k st
  rw [if_neg hno, if_pos hup, raiseRequest_alone cause halone', hat]

/-- Where a down sequence runs or nothing is up, an off request drops the latched on request (R214). -/
theorem offRequest_drops {s : State} (cause : Nat)
    (h : s.oN Obj.sequencerState = 5 ∨ 33 ≤ yardAt s ∨ yardAt s = 0) :
    (offRequest cause s).bit Obj.sequencerPending 0 = false ∧
      RegsWithin [Obj.sequencerPending] [] [.yardReq, .yardGo] s (offRequest cause s) := by
  have hdrop : RegsWithin [Obj.sequencerPending] [] [.yardReq, .yardGo] s (s.setBit Obj.sequencerPending 0 false) :=
    RegsWithin.refl.setBit (by decide)
  have hbit : (s.setBit Obj.sequencerPending 0 false).bit Obj.sequencerPending 0 = false := by rw [State.bit_setBit, if_pos rfl]
  unfold offRequest
  extract_lets k st latched t
  rw [if_pos h]
  split
  · split
    · exact ⟨hbit, (hdrop.setVar (by simp)).setVar (by simp)⟩
    · exact ⟨hbit, hdrop.setVar (by simp)⟩
  · exact ⟨hbit, hdrop⟩

/-! ## Acknowledgements (R239) -/

/-- What marshal.ack_all does to the first `n` sources. -/
def ackFirst (n : Nat) (s : State) : State :=
  s.forRange n fun src s => if s.o (Obj.srcUnack src) = 0 then s else acknowledge src 0xFFFFFFFF s

theorem ackAllWrite_one (s : State) : ackAllWrite 1 s = (.ok, ackFirst 256 s) := if_pos rfl

theorem ackFirst_succ (n : Nat) (s : State) : ackFirst (n + 1) s =
    if (ackFirst n s).o (Obj.srcUnack n) = 0 then ackFirst n s else acknowledge n 0xFFFFFFFF (ackFirst n s) := rfl

theorem ackFirst_regs (n : Nat) (s : State) : RegsWithin [] [Obj.srcUnack] [] s (ackFirst n s) :=
  RegsWithin.refl.forRange fun _ _ h => RegsWithin.ite h (h.setF (by simp))

theorem ackFirst_rest (n : Nat) (s : State) {x : Nat} (h : n ≤ x) : (ackFirst n s).o (Obj.srcUnack x) = s.o (Obj.srcUnack x) := by
  induction n with
  | zero => rfl
  | succ n ih =>
    rw [← ih (by omega), ackFirst_succ]
    split
    · rfl
    · exact State.o_setO_ne _ _ (by simp only [Obj.srcUnack, objKey]; omega)

/-- Every source whose unacknowledged classes are a word of 32 bits ends with none (R239). -/
theorem ackFirst_clears (n : Nat) (s : State) {x : Nat} (h : x < n)
    (hword : s.o (Obj.srcUnack x) = ((s.oN (Obj.srcUnack x) % 2 ^ 32 : Nat) : Int)) : (ackFirst n s).o (Obj.srcUnack x) = 0 := by
  induction n with
  | zero => exact absurd h (Nat.not_lt_zero x)
  | succ n ih =>
    rw [ackFirst_succ]
    by_cases hxn : x = n
    · subst hxn
      have hword' : (ackFirst x s).oN (Obj.srcUnack x) = (ackFirst x s).oN (Obj.srcUnack x) % 2 ^ 32 := by
        rw [State.oN] at hword
        rw [State.oN, ackFirst_rest x s (Nat.le_refl x)]
        omega
      have hand : (ackFirst x s).oN (Obj.srcUnack x) &&& 0xFFFFFFFF = (ackFirst x s).oN (Obj.srcUnack x) % 2 ^ 32 :=
        Nat.and_two_pow_sub_one_eq_mod _ 32
      split
      · assumption
      · rw [acknowledge, State.o_setO_self, hand, ← hword', Nat.sub_self]; rfl
    · split
      · exact ih (by omega)
      · exact (State.o_setO_ne _ _ (by simp only [Obj.srcUnack, objKey]; omega)).trans (ih (by omega))

/-! ## What the conditions read (R191, R574, R577) -/

namespace Reached
variable {s u : State} (h : Reached s u)
include h

/-- The settings of a device that no frame counter and no job shares its index with. -/
theorem oN_objKey {i j : Nat} (hi : 0x143 < i) (hj : j < 0x20) : u.oN (objKey i j) = s.oN (objKey i j) :=
  h.oN_eq (by rw [not_mem_requestKeys]; simp only [objKey]; omega)

theorem yardAt_eq : yardAt u = yardAt s := h.oN_eq (by decide)
theorem yardAlone_eq : yardAlone u = yardAlone s := by
  rw [yardAlone, h.oN_eq (k := Obj.yardMembers) (by decide), h.oN_eq (k := Obj.yardAddr) (by decide), yardAlone]

theorem railExists_eq : railExists u = railExists s := by
  funext r; rw [railExists, h.oN_eq (by decide), railExists]

theorem stallOf_eq (r : Nat) : u.oN (Obj.seqStall r) = s.oN (Obj.seqStall r) := h.oN_objKey (by omega) (by decide)

theorem parentsOf_eq : parentsOf u = parentsOf s := by
  funext r
  have hparent (i : Nat) (hi : i < 4) : u.oN (Obj.seqParent r i) = s.oN (Obj.seqParent r i) := h.oN_objKey (by omega) (by omega)
  simp only [parentsOf, List.map_cons, List.map_nil, hparent 0 (by decide), hparent 1 (by decide), hparent 2 (by decide),
    hparent 3 (by decide)]

theorem sequenced_eq : sequenced u = sequenced s := by
  funext r; rw [sequenced, h.railExists_eq, h.stallOf_eq, sequenced]

theorem upOf_eq (r : Nat) : upOf u r = upOf s r := by
  rw [upOf, h.stallOf_eq]; exact h.oN_objKey (by omega) (by decide)

theorem downOf_eq (r : Nat) : downOf u r = downOf s r := by
  rw [downOf, h.stallOf_eq]; exact h.oN_objKey (by omega) (by decide)

theorem precedes_eq (q r : Nat) : precedes u q r = precedes s q r := by
  have hdelay (x : Nat) : u.oN (Obj.seqOffDelay x) = s.oN (Obj.seqOffDelay x) := h.oN_objKey (by omega) (by decide)
  simp only [precedes, h.downOf_eq, hdelay]

theorem ancestors_eq (n : Nat) (l : List Nat) : ancestors u n l = ancestors s n l := by
  induction n generalizing l with
  | zero => rfl
  | succ n ih => rw [ancestors, h.parentsOf_eq, ih, ancestors]

/-- The yard's table is read from settings alone. -/
theorem tableOk_eq : tableOk u = tableOk s := by
  have hmembers : u.oN Obj.yardMembers = s.oN Obj.yardMembers := h.oN_eq (by decide)
  have haddr : u.oN Obj.yardAddr = s.oN Obj.yardAddr := h.oN_eq (by decide)
  have hexist : seqParentsExist u = seqParentsExist s := by
    funext r; rw [seqParentsExist, h.railExists_eq, h.parentsOf_eq, seqParentsExist]
  simp only [tableOk, hexist, seqRails, isAncestor, h.railExists_eq, h.parentsOf_eq, h.sequenced_eq, h.upOf_eq,
    h.precedes_eq, h.ancestors_eq, hmembers, haddr]

theorem modeWaits_eq : modeWaits u = modeWaits s := by
  have hport (p : Nat) : u.varB .modePort p = s.varB .modePort p := h.varB_eq (by decide) _ _
  simp only [modeWaits, hport]

theorem lbBusy_eq : lbBusy u = lbBusy s := by
  have htodo (x : Nat) : u.varB .lbTodo x = s.varB .lbTodo x := h.varB_eq (by decide) _ _
  rw [lbBusy, h.oN_eq (by decide)]
  simp only [htodo, lbBusy]

theorem phaseExists_eq (n : Nat) : phaseExists u n = phaseExists s n := by rw [phaseExists, h.oN_eq (by decide), phaseExists]

theorem lbDepth_eq (x : Nat) : u.oN (Obj.lbDepth x) = s.oN (Obj.lbDepth x) := h.oN_objKey (by omega) (by decide)
theorem lbSel_eq (x : Nat) : u.oN (Obj.lbSel x) = s.oN (Obj.lbSel x) := h.oN_objKey (by omega) (by decide)

theorem lbExists_eq (x : Nat) : lbExists u x = lbExists s x := by
  simp only [lbExists, h.lbDepth_eq, h.lbSel_eq, h.phaseExists_eq]

end Reached

/-- The reception of a request changes what its own port holds, and no other's. -/
theorem portOf_atChecks_ne {q : Req} {r : Nat} (h : r ≠ q.port) (aux : Aux) (s : State) :
    portOf (atChecks q aux s) r = portOf s r := by
  have htaken : portOf (takeIn q.port s) r = portOf s r := by
    unfold takeIn
    split
    · rfl
    · split
      · rfl
      · simp only [portOf_setVar, portOf_bump]
        exact portOf_setPort_ne h _ _
  exact (portOf_setPort_ne h _ _).trans htaken

/-- The conditions of a loop-back's row read the same before and after the reception of its start (R577). -/
theorem lbCond_atWrite {s : State} {c : Plain} {key x : Nat} (hp : c.port < 5) (hexists : lbExists s x = true) :
    lbCond (atWrite c key s) x (some c.port) = lbCond s x (some c.port) := by
  have hrec : Received s (atWrite c key s) := atChecks_received hp {} s
  have h : Reached s (atWrite c key s) := hrec.reached
  have hcan (p : Nat) (hp1 : p < 2) : (atWrite c key s).oN (Obj.canState p) = s.oN (Obj.canState p) :=
    h.oN_eq (by rw [not_mem_requestKeys]; simp only [Obj.canState, objKey]; omega)
  have hfree (p : Nat) : ((portOf (atWrite c key s) (2 + p)).txn.isNone && decide (some c.port ≠ some (2 + p))) =
      ((portOf s (2 + p)).txn.isNone && decide (some c.port ≠ some (2 + p))) := by
    by_cases hport : c.port = 2 + p
    · simp [hport]
    · rw [atWrite, portOf_atChecks_ne (Ne.symm hport)]
  have hnode : (atWrite c key s).oN Obj.lopNodeId = s.oN Obj.lopNodeId := h.oN_eq (by decide)
  have htwin : (atWrite c key s).oN Obj.teamTwinRole = s.oN Obj.teamTwinRole := h.oN_eq (by decide)
  have hlast : (atWrite c key s).varB .lastFrame = s.varB .lastFrame := h.varB_eq (by decide) _ _
  have hportState : (atWrite c key s).oN Obj.portState = s.oN Obj.portState := h.oN_eq (by decide)
  have hphase (n : Nat) (hn : n < 48) : (atWrite c key s).oN (Obj.phaseState n) = s.oN (Obj.phaseState n) :=
    h.oN_eq (by rw [not_mem_requestKeys]; simp only [Obj.phaseState, objKey]; omega)
  have hrail (n : Nat) (hn : n < 48) : (atWrite c key s).oN (Obj.phaseRail n) = s.oN (Obj.phaseRail n) :=
    h.oN_eq (by rw [not_mem_requestKeys]; simp only [Obj.phaseRail, objKey]; omega)
  have hsense (n : Nat) : (atWrite c key s).varB .senOn n = s.varB .senOn n := h.varB_eq (by decide) _ _
  have hmain : (atWrite c key s).mainOn = s.mainOn := h.varB_eq (by decide) _ _
  have hhs : hsSt (atWrite c key s) = hsSt s := h.oN_eq (by decide)
  have hyard : (atWrite c key s).oN Obj.sequencerYardState = s.oN Obj.sequencerYardState := h.oN_eq (by decide)
  have hsel (hphaseRow : x = 0x10 ∨ x = 0x11) : s.oN (Obj.lbSel x) < 48 := by
    have hsel : phaseExists s (s.oN (Obj.lbSel x)) = true := by
      rcases hphaseRow with rfl | rfl <;> simp_all [lbExists]
    simp only [phaseExists, decide_eq_true_eq] at hsel
    split at hsel <;> omega
  simp only [lbCond, h.lbDepth_eq, h.lbSel_eq, h.role_eq, h.teamed_eq, h.holder_eq, h.mode_eq, hrec.pin, hfree, hnode, htwin,
    hlast, hportState, hmain, hhs, hyard, hsense]
  by_cases hcanRow : x = 1 ∨ x = 2
  · simp only [if_pos hcanRow, hcan (x - 1) (by omega)]
  · by_cases hphaseRow : x = 0x10 ∨ x = 0x11
    · simp only [if_neg hcanRow, hphase _ (hsel hphaseRow), hrail _ (hsel hphaseRow)]
    · obtain ⟨h10, h11⟩ := not_or.1 hphaseRow
      simp only [if_neg hcanRow, if_neg h10, if_neg h11]


end Sys2Proof.Machine
end

section
/-!
PROOFS. The plain writes of modes, sequencer, acknowledgements and loop-backs, from their acceptance to their answer.
-/

namespace Sys2Proof.Machine

/-- The objects that an accepted write's entry in the journal and the delta queue changes (R269). -/
def twinKeys (key : Nat) : List Nat := if grouped key then [Obj.teamJournal, Obj.teamDqDepth, Obj.teamDqMax] else []

/-- What an accepted value leaves of the effect of its object, once the twin's copy has been queued. -/
theorem forwarded_regs (key len : Nat) (v : Int) (s : State) :
    RegsWithin (twinKeys key) [] [] s (if grouped key then forwardWrite key len v s else s) := by
  unfold twinKeys
  split
  · exact forwardWrite_regs _ _ _ _
  · exact RegsWithin.refl

/-- The frame of a request: its reception, its object's work, and its answer. -/
theorem Received.frame {s u x t : State} {js ks : List Nat} {fs : List (Nat → Nat)} {vs : List VarKind} (hrec : Received s u)
    (hwork : RegsWithin ks fs vs u x) (hend : RegsWithin js [Obj.canTx] [] x t) :
    RegsWithin (Obj.uartFrames :: (js ++ ks)) ([Obj.canRx, Obj.canTx, Obj.spiFrames] ++ fs)
      ([.spiErr, .spiBusy, .dSlots, .dqAt] ++ vs) s t :=
  ((hrec.within.mono (by simp) (by simp) (by simp)).trans
    (hwork.mono (fun _ hk => List.mem_cons_of_mem _ (List.mem_append_right _ hk)) (List.subset_append_right _ _)
      (List.subset_append_right _ _))).trans
    (hend.mono (fun _ hk => List.mem_cons_of_mem _ (List.mem_append_left _ hk)) (by simp) (by simp))

theorem writeValue_commandA {q : Req} {aux : Aux} {r : Row} {k : Nat} {v : Int} {s t : State} {st : Status}
    (hk : k ∉ [Obj.sysModeReq, Obj.budgetGrant, Obj.portCmd]) (h : commandA q.port k v.toNat s = some (st, t)) :
    writeValue q aux r k v s = (some st, t) := by
  simp only [List.mem_cons, List.not_mem_nil, or_false, not_or] at hk
  obtain ⟨hmode, hgrant, hport⟩ := hk
  rw [writeValue, if_neg hmode, if_neg hgrant, if_neg hport, h]

/-- An accepted command of a command object is answered, and leaves what its effect has left but for the twin's copy. -/
theorem PlainWrite.command_answers {s x : State} {c : Plain} {key : Nat} {r : Row} {ks : List Nat} {fs : List (Nat → Nat)}
    {vs : List VarKind} (h : PlainWrite s c key r) (hk : key ∉ [Obj.sysModeReq, Obj.budgetGrant, Obj.portCmd])
    (hidx : ¬(0x1100 ≤ keyIndex key ∧ keyIndex key < 0x110C))
    (hcmd : commandA c.port key (decodeVal r.ty c.data).toNat (atWrite c key s) = some (.ok, x))
    (hwork : RegsWithin ks fs vs (atWrite c key s) x) (hflags : Obj.portFlags ∉ ks ∧ ∀ f, f ∈ fs → ∀ n, Obj.portFlags ≠ f n) :
    answered (request (plainReq c key) {} s) (plainReq c key) .ok = true ∧
      RegsWithin (twinKeys key) [Obj.canTx] [] x (request (plainReq c key) {} s) ∧
      RegsWithin (Obj.uartFrames :: (twinKeys key ++ ks)) ([Obj.canRx, Obj.canTx, Obj.spiFrames] ++ fs)
        ([.spiErr, .spiBusy, .dSlots, .dqAt] ++ vs) s (request (plainReq c key) {} s) := by
  have hwrite := h.writeObject_eq (writeValue_commandA hk hcmd)
  simp only [reduceCtorEq, or_true, true_and] at hwrite
  have htwin := forwarded_regs key r.ty.size (decodeVal r.ty c.data) x
  have hflags' : Obj.portFlags ∉ twinKeys key := by unfold twinKeys; split <;> decide
  have hans := h.answersFrom hidx hwrite
    (((htwin.objs _ hflags' (by simp)).trans (hwork.objs _ hflags.1 hflags.2)).trans (h.received.reached.o_eq (by decide)))
  have hend : RegsWithin (twinKeys key) [Obj.canTx] [] x (request (plainReq c key) {} s) :=
    (htwin.mono (List.Subset.refl _) (by simp) (by simp)).trans (hans.regs.mono (by simp) (by simp) (by simp))
  exact ⟨hans.answered, hend, h.received.frame hwork hend⟩

theorem plainOk_port {s : State} {c : Plain} {key : Nat} (h : plainOk s c key = true) : c.port < 5 := by
  rw [plainOk, Bool.and_eq_true] at h
  exact (freeFor_iff.1 h.1).1.port_lt

theorem atWrite_reached {s : State} {c : Plain} {key : Nat} (h : plainOk s c key = true) : Reached s (atWrite c key s) :=
  (atChecks_received (plainOk_port h) {} s).reached

/-! ## sys.mode_req -/

theorem twinKeys_modeReq : twinKeys Obj.sysModeReq = [Obj.teamJournal, Obj.teamDqDepth, Obj.teamDqMax] := rfl

theorem modeReq_row {s : State} {c : Plain} {v : Byte} (h : plainOk s c Obj.sysModeReq = true) (hdata : c.data = [v]) :
    ∃ r, PlainWrite s c Obj.sysModeReq r ∧ decodeVal r.ty c.data = (v.toNat : Int) ∧ r.apply = .nextFrame := by
  obtain ⟨r, hplain, hty, hap⟩ := plainWrite_of_plainOk (ty := .enum8) (ap := .nextFrame) h (by decide) (by decide +kernel)
    (by rw [hdata]; rfl)
  refine ⟨r, hplain, ?_, hap⟩
  rw [hty, hdata]
  simp [decodeVal, Ty.signed, ofLeBytes]

/-- An accepted value of sys.mode_req waits for the tick and is carried to the twin. -/
theorem modeReq_stored_regs {r : Row} (hap : r.apply = .nextFrame) (len : Nat) (v : Int) (x : State) :
    RegsWithin (twinKeys Obj.sysModeReq) [] [] x
      (if grouped Obj.sysModeReq then forwardWrite Obj.sysModeReq len v (storeValue r Obj.sysModeReq v x)
        else storeValue r Obj.sysModeReq v x) :=
  ((storeValue_nextFrame hap _ _ _).mono (by simp) (by simp) (by simp)).trans (forwarded_regs _ _ _ _)

/-- A write that asks for the other of SETUP and RUN waits on its port for the tick (R28, R30). -/
theorem modeReq_waits {s : State} {c : Plain} {v : Byte} (h : plainOk s c Obj.sysModeReq = true) (hdata : c.data = [v])
    (hmode : s.mode = .setup ∨ s.mode = .run) (hv : v.toNat = 3 ∨ v.toNat = 4) (hother : v.toNat ≠ s.mode.code)
    (hrun : v.toNat = 4 → s.varB .activeBank = true ∧ s.mainOn = true ∧ tableOk s = true) :
    (request (plainReq c Obj.sysModeReq) {} s).var .modeReq v.toNat = 7 ∧
      (request (plainReq c Obj.sysModeReq) {} s).varB .modePort c.port = true ∧
      (portOf (request (plainReq c Obj.sysModeReq) {} s) c.port).txn = some (plainReq c Obj.sysModeReq) ∧
      RegsWithin [Obj.uartFrames, Obj.teamJournal, Obj.teamDqDepth, Obj.teamDqMax, Obj.sysModeReq]
        [Obj.canRx, Obj.canTx, Obj.spiFrames] [.spiErr, .spiBusy, .dSlots, .dqAt, .modeReq, .modePort] s
        (request (plainReq c Obj.sysModeReq) {} s) := by
  obtain ⟨r, hplain, hval, hap⟩ := modeReq_row h hdata
  have hrec := hplain.received
  have hu : Reached s (atWrite c Obj.sysModeReq s) := hrec.reached
  have hask : modeReqWrite (decodeVal r.ty c.data).toNat (some (plainReq c Obj.sysModeReq).port) (atWrite c Obj.sysModeReq s) =
      (none, ((atWrite c Obj.sysModeReq s).requestMode (Mode.ofCode v.toNat) 6).setFlag .modePort true c.port) := by
    rw [hval, Int.toNat_natCast]
    refine modeReqWrite_asks (by rw [hu.mode_eq]; exact hmode) hv (by rw [hu.mode_eq]; exact hother) fun h4 => ?_
    rw [hu.varB_eq (by decide), State.mainOn, hu.varB_eq (by decide), hu.tableOk_eq]
    exact hrun h4
  have hwrite := hplain.writeObject_eq (writeValue_modeReq hask)
  simp only [reduceCtorEq, or_false, if_true, true_and] at hwrite
  obtain ⟨htxn, hheld⟩ := hplain.waits (by decide) hwrite
  generalize hx : ((atWrite c Obj.sysModeReq s).requestMode (Mode.ofCode v.toNat) 6).setFlag .modePort true c.port = x
    at hwrite hheld
  have hwork : RegsWithin [] [] [.modeReq, .modePort] (atWrite c Obj.sysModeReq s) x := by
    rw [← hx]
    exact (RegsWithin.refl.requestMode (by simp)).setFlag (by simp)
  have hend : RegsWithin (twinKeys Obj.sysModeReq) [Obj.canTx] [] x (request (plainReq c Obj.sysModeReq) {} s) :=
    ((modeReq_stored_regs hap _ _ _).mono (List.Subset.refl _) (by simp) (by simp)).trans
      (hheld.mono (by simp) (by simp) (by simp))
  have hcode : (Mode.ofCode v.toNat).code = v.toNat := by rcases hv with hv | hv <;> rw [hv] <;> rfl
  have hreq : x.var .modeReq (Mode.ofCode v.toNat).code = 7 := by
    rw [← hx]
    exact (State.var_setVar_ne _ _ (by simp)).trans (State.var_setVar_self _ _ _ _ _)
  rw [hcode] at hreq
  have hport : x.varB .modePort c.port = true := by
    rw [← hx, State.varB]
    simp [State.setFlag, State.ofBool]
  refine ⟨(hend.vars _ _ _ (by simp)).trans hreq, ?_, htxn, ?_⟩
  · rw [State.varB, hend.vars _ _ _ (by simp)]
    exact hport
  · exact (hrec.frame hwork hend).mono (by simp [twinKeys_modeReq]) (List.Subset.refl _) (List.Subset.refl _)

/-- A write of the mode in force is accepted and asks for nothing, where no other write waits (R14, R30). -/
theorem modeReq_same {s : State} {c : Plain} {v : Byte} (h : plainOk s c Obj.sysModeReq = true) (hdata : c.data = [v])
    (hmode : s.mode = .setup ∨ s.mode = .run) (hv : v.toNat = 3 ∨ v.toNat = 4) (hsame : v.toNat = s.mode.code)
    (hwaits : modeWaits s = false) :
    answered (request (plainReq c Obj.sysModeReq) {} s) (plainReq c Obj.sysModeReq) .ok = true ∧
      RegsWithin [Obj.uartFrames, Obj.teamJournal, Obj.teamDqDepth, Obj.teamDqMax, Obj.sysModeReq]
        [Obj.canRx, Obj.canTx, Obj.spiFrames] [.spiErr, .spiBusy, .dSlots, .dqAt] s
        (request (plainReq c Obj.sysModeReq) {} s) := by
  obtain ⟨r, hplain, hval, hap⟩ := modeReq_row h hdata
  have hrec := hplain.received
  have hu : Reached s (atWrite c Obj.sysModeReq s) := hrec.reached
  have hkeep : modeReqWrite (decodeVal r.ty c.data).toNat (some (plainReq c Obj.sysModeReq).port) (atWrite c Obj.sysModeReq s) =
      (some .ok, atWrite c Obj.sysModeReq s) := by
    rw [hval, Int.toNat_natCast]
    exact modeReqWrite_same (by rw [hu.mode_eq]; exact hmode) hv (by rw [hu.mode_eq]; exact hsame) (by rw [hu.modeWaits_eq, hwaits])
  have hwrite := hplain.writeObject_eq (writeValue_modeReq hkeep)
  simp only [reduceCtorEq, or_true, if_true, true_and] at hwrite
  have hstored := modeReq_stored_regs hap r.ty.size (decodeVal r.ty c.data) (atWrite c Obj.sysModeReq s)
  have hans := hplain.answersFrom (by decide) hwrite ((hstored.objs _ (by decide) (by simp)).trans (hu.o_eq (by decide)))
  exact ⟨hans.answered, (hrec.frame (RegsWithin.refl (ks := []) (fs := []) (vs := [])) ((hstored.mono (List.Subset.refl _)
    (by simp) (by simp)).trans (hans.regs.mono (by simp) (by simp) (by simp)))).mono (by simp [twinKeys_modeReq])
    (List.Subset.refl _) (List.Subset.refl _)⟩

/-- RUN is refused in SETUP while no bank is active (R30). -/
theorem modeReq_bankless {s : State} {c : Plain} {v : Byte} (h : plainOk s c Obj.sysModeReq = true) (hdata : c.data = [v])
    (hmode : s.mode = .setup) (hv : v.toNat = 4) (hbank : s.varB .activeBank = false) :
    answered (request (plainReq c Obj.sysModeReq) {} s) (plainReq c Obj.sysModeReq) .stateForbids = true ∧
      RegsWithin [Obj.uartFrames] [Obj.canRx, Obj.canTx, Obj.spiFrames] [.spiErr, .spiBusy, .dSlots, .dqAt] s
        (request (plainReq c Obj.sysModeReq) {} s) := by
  obtain ⟨r, hplain, hval, -⟩ := modeReq_row h hdata
  have hu : Reached s (atWrite c Obj.sysModeReq s) := hplain.received.reached
  have hrefuse : modeReqWrite (decodeVal r.ty c.data).toNat (some (plainReq c Obj.sysModeReq).port) (atWrite c Obj.sysModeReq s) =
      (some .stateForbids, atWrite c Obj.sysModeReq s) := by
    rw [hval, Int.toNat_natCast, hv]
    exact modeReqWrite_bankless (by rw [hu.mode_eq, hmode]) (by rw [hu.varB_eq (by decide), hbank])
  have hwrite := hplain.writeObject_eq (writeValue_modeReq hrefuse)
  simp only [reduceCtorEq, Option.some.injEq, or_false, if_false, false_and] at hwrite
  obtain ⟨hans, -, -, hregs⟩ := hplain.now.refused (show 2 ≠ 8 by decide) (hplain.serve_eq (by decide) hwrite)
  exact ⟨hans, hregs⟩

/-! ## seq.cmd -/

/-- An accepted seq.cmd in RUN carries out its request and is answered. -/
theorem sequencerCmd_answers {s x : State} {c : Plain} {v : Byte} {ks : List Nat} {vs : List VarKind}
    (h : plainOk s c Obj.sequencerCmd = true) (hdata : c.data = [v]) (hv : v.toNat = 1 ∨ v.toNat = 2) (hmode : s.mode = .run)
    (hswap : s.varB .swapOn = false)
    (hx : (if v.toNat = 1 then onRequest 0 (atWrite c Obj.sequencerCmd s) else offRequest 0 (atWrite c Obj.sequencerCmd s)) = x)
    (hwork : RegsWithin ks [] vs (atWrite c Obj.sequencerCmd s) x) (hflags : Obj.portFlags ∉ ks) :
    answered (request (plainReq c Obj.sequencerCmd) {} s) (plainReq c Obj.sequencerCmd) .ok = true ∧
      RegsWithin [Obj.teamJournal, Obj.teamDqDepth, Obj.teamDqMax] [Obj.canTx] [] x (request (plainReq c Obj.sequencerCmd) {} s) ∧
      RegsWithin (Obj.uartFrames :: Obj.teamJournal :: Obj.teamDqDepth :: Obj.teamDqMax :: ks)
        [Obj.canRx, Obj.canTx, Obj.spiFrames] (.spiErr :: .spiBusy :: .dSlots :: .dqAt :: vs) s
        (request (plainReq c Obj.sequencerCmd) {} s) := by
  obtain ⟨r, hplain, hty, -⟩ := plainWrite_of_plainOk (ty := .u8) (ap := .immediate) h (by decide) (by decide +kernel)
    (by rw [hdata]; rfl)
  have hu : Reached s (atWrite c Obj.sequencerCmd s) := hplain.received.reached
  have hval : (decodeVal r.ty c.data).toNat = v.toNat := by rw [hty, hdata]; simp [decodeVal, Ty.signed, ofLeBytes]
  have hcmd : commandA c.port Obj.sequencerCmd (decodeVal r.ty c.data).toNat (atWrite c Obj.sequencerCmd s) = some (.ok, x) := by
    rw [hval, ← hx, ← seqCmd_run (by rw [hu.mode_eq, hmode]) (by rw [hu.varB_eq (by decide), hswap]) hv]
    rfl
  exact hplain.command_answers (by decide) (by decide) hcmd hwork ⟨hflags, by simp⟩

/-- No object with a subindex below 0x20 counts frames. -/
theorem ne_portFamily {k : Nat} (h : keySub k < 0x20) :
    ∀ f, f ∈ [Obj.canRx, Obj.canTx, Obj.spiFrames] → ∀ n, k ≠ f n := by
  unfold keySub at h
  simp only [List.mem_cons, List.not_mem_nil, or_false, forall_eq_or_imp, forall_eq, Obj.canRx, Obj.canTx, Obj.spiFrames, objKey]
  refine ⟨?_, ?_, ?_⟩ <;> omega

/-- What the end of a seq.cmd leaves of an object of the sequencer. -/
theorem o_of_sequencerEnd {x t : State} (h : RegsWithin [Obj.teamJournal, Obj.teamDqDepth, Obj.teamDqMax] [Obj.canTx] [] x t)
    {k : Nat} (hk : k ∉ [Obj.teamJournal, Obj.teamDqDepth, Obj.teamDqMax]) (hsub : keySub k ≠ 0x24) : t.o k = x.o k :=
  h.objs k hk (by simpa using ne_canTx hsub)

theorem bit_congr {s t : State} {k : Nat} (h : t.o k = s.o k) (b : Nat) : t.bit k b = s.bit k b := by
  rw [State.bit, State.oN, h, State.bit, State.oN]

theorem yardAt_congr {s t : State} (h : t.o Obj.sequencerYardState = s.o Obj.sequencerYardState) : yardAt t = yardAt s := by
  rw [yardAt, State.oN, h, yardAt, State.oN]

theorem goYard_regs {cause : VarKind} (k : Nat) (v : Int) (s : State) :
    RegsWithin [] [] [cause, .yardGo, .yardPulse] s (goYard k (s.setVar cause v)) :=
  ((RegsWithin.refl.setVar (by simp)).setVar (by simp)).setVar (by simp)

/-- On while a down sequence runs: latched, to be served at its end (R214). -/
theorem seqCmdOn_latched {s : State} {c : Plain} (h : plainOk s c Obj.sequencerCmd = true) (hdata : c.data = [1])
    (hmode : s.mode = .run) (hswap : s.varB .swapOn = false) (hdown : s.oN Obj.sequencerState = 5 ∨ 33 ≤ yardAt s) :
    answered (request (plainReq c Obj.sequencerCmd) {} s) (plainReq c Obj.sequencerCmd) .ok = true ∧
      (request (plainReq c Obj.sequencerCmd) {} s).bit Obj.sequencerPending 0 = true ∧
      RegsWithin [Obj.uartFrames, Obj.teamJournal, Obj.teamDqDepth, Obj.teamDqMax, Obj.sequencerPending]
        [Obj.canRx, Obj.canTx, Obj.spiFrames] [.spiErr, .spiBusy, .dSlots, .dqAt] s
        (request (plainReq c Obj.sequencerCmd) {} s) := by
  have hu := atWrite_reached h
  have hon := onRequest_latched (s := atWrite c Obj.sequencerCmd s) 0
    (by rw [hu.oN_eq (k := Obj.sequencerState) (by decide), hu.yardAt_eq]; exact hdown)
  obtain ⟨hans, hend, hregs⟩ := sequencerCmd_answers (ks := [Obj.sequencerPending]) (vs := []) h hdata (.inl rfl) hmode hswap
    ((if_pos rfl).trans hon) (RegsWithin.refl.setBit (by simp)).record (by decide)
  refine ⟨hans, (bit_congr (o_of_sequencerEnd hend (by decide) (by decide)) 0).trans ?_, hregs⟩
  exact (State.bit_setBit _ Obj.sequencerPending 0 0 true).trans (if_pos rfl)

/-- On in state 0: a device alone goes to state 1 (R210, R213). -/
theorem seqCmdOn_up {s : State} {c : Plain} (h : plainOk s c Obj.sequencerCmd = true) (hdata : c.data = [1])
    (hmode : s.mode = .run) (hswap : s.varB .swapOn = false) (hst : s.oN Obj.sequencerState ≠ 5) (hat : yardAt s = 0)
    (halone : yardAlone s = true) :
    answered (request (plainReq c Obj.sequencerCmd) {} s) (plainReq c Obj.sequencerCmd) .ok = true ∧
      yardTo (request (plainReq c Obj.sequencerCmd) {} s) = 1 ∧
      yardAt (request (plainReq c Obj.sequencerCmd) {} s) = 0 ∧
      (request (plainReq c Obj.sequencerCmd) {} s).var .upCause = 0 ∧
      RegsWithin [Obj.uartFrames, Obj.teamJournal, Obj.teamDqDepth, Obj.teamDqMax] [Obj.canRx, Obj.canTx, Obj.spiFrames]
        [.spiErr, .spiBusy, .dSlots, .dqAt, .upCause, .yardGo, .yardPulse] s (request (plainReq c Obj.sequencerCmd) {} s) := by
  have hu := atWrite_reached h
  have hon := onRequest_up (s := atWrite c Obj.sequencerCmd s) 0 (by rw [hu.oN_eq (k := Obj.sequencerState) (by decide)]; exact hst)
    (hu.yardAt_eq.trans hat) ((hu.varB_eq (by decide) _ _).trans hswap) (hu.yardAlone_eq.trans halone)
  obtain ⟨hans, hend, hregs⟩ := sequencerCmd_answers (ks := []) h hdata (.inl rfl) hmode hswap
    ((if_pos rfl).trans hon) (goYard_regs 1 _ _) (by decide)
  refine ⟨hans, yardTo_of_yardGo ((hend.vars _ _ _ (by simp)).trans ?_), ?_, (hend.vars _ _ _ (by simp)).trans ?_, hregs⟩
  · simp [goYard, State.var_setVar]
  · exact ((yardAt_congr (hregs.objs _ (by decide) (ne_portFamily (by decide)))).trans hat)
  · simp [goYard, State.var_setVar]

/-- Off while a down sequence runs or in state 0: the latched on request is dropped (R214). -/
theorem seqCmdOff_drops {s : State} {c : Plain} (h : plainOk s c Obj.sequencerCmd = true) (hdata : c.data = [2])
    (hmode : s.mode = .run) (hswap : s.varB .swapOn = false)
    (hdown : s.oN Obj.sequencerState = 5 ∨ 33 ≤ yardAt s ∨ yardAt s = 0) :
    answered (request (plainReq c Obj.sequencerCmd) {} s) (plainReq c Obj.sequencerCmd) .ok = true ∧
      (request (plainReq c Obj.sequencerCmd) {} s).bit Obj.sequencerPending 0 = false ∧
      yardAt (request (plainReq c Obj.sequencerCmd) {} s) = yardAt s ∧
      RegsWithin [Obj.uartFrames, Obj.teamJournal, Obj.teamDqDepth, Obj.teamDqMax, Obj.sequencerPending]
        [Obj.canRx, Obj.canTx, Obj.spiFrames] [.spiErr, .spiBusy, .dSlots, .dqAt, .yardReq, .yardGo] s
        (request (plainReq c Obj.sequencerCmd) {} s) := by
  have hu := atWrite_reached h
  obtain ⟨hbit, hoff⟩ := offRequest_drops (s := atWrite c Obj.sequencerCmd s) 0
    (by rw [hu.oN_eq (k := Obj.sequencerState) (by decide), hu.yardAt_eq]; exact hdown)
  obtain ⟨hans, hend, hregs⟩ := sequencerCmd_answers h hdata (.inr rfl) hmode hswap (if_neg (by decide)) hoff (by decide)
  exact ⟨hans, (bit_congr (o_of_sequencerEnd hend (by decide) (by decide)) 0).trans hbit,
    yardAt_congr (hregs.objs _ (by decide) (ne_portFamily (by decide))), hregs⟩

/-- Off in state 32: a device alone goes to state 33 (R210, R213). -/
theorem seqCmdOff_down {s : State} {c : Plain} (h : plainOk s c Obj.sequencerCmd = true) (hdata : c.data = [2])
    (hmode : s.mode = .run) (hswap : s.varB .swapOn = false) (hst : s.oN Obj.sequencerState ≠ 5) (hat : yardAt s = 32)
    (halone : yardAlone s = true) :
    answered (request (plainReq c Obj.sequencerCmd) {} s) (plainReq c Obj.sequencerCmd) .ok = true ∧
      yardTo (request (plainReq c Obj.sequencerCmd) {} s) = 33 ∧
      yardAt (request (plainReq c Obj.sequencerCmd) {} s) = 32 ∧
      (request (plainReq c Obj.sequencerCmd) {} s).var .downCause = 0 ∧
      RegsWithin [Obj.uartFrames, Obj.teamJournal, Obj.teamDqDepth, Obj.teamDqMax] [Obj.canRx, Obj.canTx, Obj.spiFrames]
        [.spiErr, .spiBusy, .dSlots, .dqAt, .downCause, .yardGo, .yardPulse] s (request (plainReq c Obj.sequencerCmd) {} s) := by
  have hu := atWrite_reached h
  have hoff := offRequest_down (s := atWrite c Obj.sequencerCmd s) 0
    (by rw [hu.oN_eq (k := Obj.sequencerState) (by decide)]; exact hst) (hu.yardAt_eq.trans hat) (hu.yardAlone_eq.trans halone)
  obtain ⟨hans, hend, hregs⟩ := sequencerCmd_answers (ks := []) h hdata (.inr rfl) hmode hswap
    ((if_neg (by decide)).trans hoff) (goYard_regs 33 _ _) (by decide)
  refine ⟨hans, yardTo_of_yardGo ((hend.vars _ _ _ (by simp)).trans ?_), ?_, (hend.vars _ _ _ (by simp)).trans ?_, hregs⟩
  · simp [goYard, State.var_setVar]
  · exact (yardAt_congr (hregs.objs _ (by decide) (ne_portFamily (by decide)))).trans hat
  · simp [goYard, State.var_setVar]

/-! ## Acknowledgements (R239) -/

theorem keyIndex_srcUnack (src : Nat) : keyIndex (Obj.srcUnack src) = 0x2400 + src := keyIndex_objKey _ _ (by decide)

theorem keySub_srcUnack (src : Nat) : keySub (Obj.srcUnack src) = 0x21 := keySub_objKey (0x2400 + src) 0x21 (by decide)

theorem twinKeys_srcUnack {src : Nat} (h : src < 256) : twinKeys (Obj.srcUnack src) = [] := by
  have hi := keyIndex_srcUnack src
  have hj := keySub_srcUnack src
  have hack : keySub (Obj.srcUnack src) = 0x21 ∧ 0x2400 ≤ keyIndex (Obj.srcUnack src) ∧ keyIndex (Obj.srcUnack src) < 0x2500 :=
    ⟨hj, by omega, by omega⟩
  simp [twinKeys, grouped, hack]

theorem commandA_srcUnack {src : Nat} (h : src < 256) (p v : Nat) (s : State) :
    commandA p (Obj.srcUnack src) v s = some (.ok, forwardAck src v (acknowledge src v s)) := by
  have hi := keyIndex_srcUnack src
  have hj := keySub_srcUnack src
  have hkey : Obj.srcUnack src = 0x240021 + 256 * src := by simp only [Obj.srcUnack, objKey]; omega
  have hne (k : Nat) (hk : k < 0x240021) : ¬Obj.srcUnack src = k := by omega
  have hsrc : 0x2400 ≤ 0x2400 + src ∧ 0x2400 + src < 0x2500 := ⟨by omega, by omega⟩
  unfold commandA
  extract_lets i sub
  rw [if_neg (hne _ (by decide)), if_neg (hne _ (by decide)), if_neg (hne _ (by decide)), if_neg (by omega), if_neg (by omega),
    if_neg (by omega), if_neg (hne _ (by decide)), if_pos (by omega)]
  have hsub : i - 0x2400 = src := by omega
  rw [hsub]
  rfl

theorem srcUnack_dictRow : ∀ src < 256, (dictRow (keyIndex (Obj.srcUnack src)) (keySub (Obj.srcUnack src))).map
    (fun d => (d.ty, d.access, d.apply)) = some (.bits32, .rw, .immediate) := by decide +kernel

/-- Writing 1 to a bit of src[s].unack acknowledges it (R239). -/
theorem srcUnack_acknowledges {s : State} {c : Plain} {src : Nat} (h : plainOk s c (Obj.srcUnack src) = true) (hsrc : src < 256)
    (hdata : c.data.length = 4) :
    answered (request (plainReq c (Obj.srcUnack src)) {} s) (plainReq c (Obj.srcUnack src)) .ok = true ∧
      (request (plainReq c (Obj.srcUnack src)) {} s).oN (Obj.srcUnack src) =
        s.oN (Obj.srcUnack src) - (s.oN (Obj.srcUnack src) &&& ofLeBytes c.data) ∧
      RegsWithin [Obj.uartFrames, Obj.teamDqDepth, Obj.teamDqMax, Obj.srcUnack src] [Obj.canRx, Obj.canTx, Obj.spiFrames]
        [.spiErr, .spiBusy, .dSlots, .dqAt] s (request (plainReq c (Obj.srcUnack src)) {} s) := by
  have hi := keyIndex_srcUnack src
  have hj := keySub_srcUnack src
  have hkey : Obj.srcUnack src = 0x240021 + 256 * src := by simp only [Obj.srcUnack, objKey]; omega
  obtain ⟨r, hplain, hty, -⟩ := plainWrite_of_plainOk (ty := .bits32) (ap := .immediate) h (.inr (by omega))
    (srcUnack_dictRow src hsrc) hdata
  have hu := atWrite_reached h
  have hval : (decodeVal r.ty c.data).toNat = ofLeBytes c.data := by rw [hty]; exact Int.toNat_natCast _
  have hack : RegsWithin [Obj.teamDqDepth, Obj.teamDqMax, Obj.srcUnack src] [] [] (atWrite c (Obj.srcUnack src) s)
      (forwardAck src (decodeVal r.ty c.data).toNat
        (acknowledge src (decodeVal r.ty c.data).toNat (atWrite c (Obj.srcUnack src) s))) :=
    (RegsWithin.refl.setO (by simp)).trans ((forwardAck_regs _ _ _).mono (by simp) (by simp) (by simp))
  have hne (k : Nat) (hk : k < 0x240021 ∨ 0x250000 ≤ k) : Obj.srcUnack src ≠ k := by omega
  obtain ⟨hans, hend, hregs⟩ := hplain.command_answers (by simp [hne, Obj.sysModeReq, Obj.budgetGrant, Obj.portCmd, objKey])
    (by omega) (commandA_srcUnack hsrc _ _ _) hack
    ⟨by simp [(hne _ _).symm, Obj.portFlags, Obj.teamDqDepth, Obj.teamDqMax, objKey], by simp⟩
  rw [twinKeys_srcUnack hsrc] at hend hregs
  refine ⟨hans, ?_, hregs⟩
  rw [State.oN, hend.objs _ (by simp) (by simpa using ne_canTx (by omega)),
    (forwardAck_regs _ _ _).objs _ (by simp [hne, Obj.teamDqDepth, Obj.teamDqMax, objKey]) (by simp), acknowledge, State.o_setO_self,
    Int.toNat_natCast, hval, hu.oN_eq (not_mem_requestKeys_of_sub (by omega) (by omega) (by omega))]

theorem commandA_ackAll (p v : Nat) (s : State) : commandA p Obj.marshalAckAll v s =
    some ((ackAllWrite v s).1, if (ackAllWrite v s).1 = .ok then forwardAckAll (ackAllWrite v s).2 else (ackAllWrite v s).2) := rfl

/-- marshal.ack_all acknowledges every source (R239). -/
theorem ackAll_acknowledges {s : State} {c : Plain} (h : plainOk s c Obj.marshalAckAll = true) (hdata : c.data = [1]) :
    answered (request (plainReq c Obj.marshalAckAll) {} s) (plainReq c Obj.marshalAckAll) .ok = true ∧
      (∀ x < 256, s.o (Obj.srcUnack x) = ((s.oN (Obj.srcUnack x) % 2 ^ 32 : Nat) : Int) →
        (request (plainReq c Obj.marshalAckAll) {} s).o (Obj.srcUnack x) = 0) ∧
      RegsWithin [Obj.uartFrames, Obj.teamDqDepth, Obj.teamDqMax] [Obj.canRx, Obj.canTx, Obj.spiFrames, Obj.srcUnack]
        [.spiErr, .spiBusy, .dSlots, .dqAt] s (request (plainReq c Obj.marshalAckAll) {} s) := by
  obtain ⟨r, hplain, hty, -⟩ := plainWrite_of_plainOk (ty := .u8) (ap := .immediate) h (by decide) (by decide +kernel)
    (by rw [hdata]; rfl)
  have hu := atWrite_reached h
  have hval : (decodeVal r.ty c.data).toNat = 1 := by rw [hty, hdata]; rfl
  have hcmd : commandA c.port Obj.marshalAckAll (decodeVal r.ty c.data).toNat (atWrite c Obj.marshalAckAll s) =
      some (.ok, forwardAckAll (ackFirst 256 (atWrite c Obj.marshalAckAll s))) := by
    rw [hval, commandA_ackAll, ackAllWrite_one, if_pos rfl]
  have hack := ackFirst_regs 256 (atWrite c Obj.marshalAckAll s)
  have hforward := forwardAckAll_regs (ackFirst 256 (atWrite c Obj.marshalAckAll s))
  have hwork : RegsWithin [Obj.teamDqDepth, Obj.teamDqMax] [Obj.srcUnack] [] (atWrite c Obj.marshalAckAll s)
      (forwardAckAll (ackFirst 256 (atWrite c Obj.marshalAckAll s))) :=
    (hack.mono (by simp) (by simp) (by simp)).trans (hforward.mono (by simp) (by simp) (by simp))
  have hne {k x : Nat} (hk : keySub k ≠ 0x21) : k ≠ Obj.srcUnack x :=
    fun e => hk (e ▸ keySub_srcUnack x)
  obtain ⟨hans, hend, hregs⟩ := hplain.command_answers (by decide) (by decide) hcmd hwork
    ⟨by decide, by simpa using fun _ => hne (by decide)⟩
  refine ⟨hans, fun x hx hword => ?_, hregs⟩
  have hj := keySub_srcUnack x
  have hsame : (atWrite c Obj.marshalAckAll s).o (Obj.srcUnack x) = s.o (Obj.srcUnack x) :=
    hu.o_eq (not_mem_requestKeys_of_sub (by omega) (by omega) (by omega))
  rw [hend.objs _ (show _ ∉ [] by simp) (by simpa using ne_canTx (by omega)),
    hforward.objs _ (by simpa using ⟨(hne (by decide)).symm, (hne (by decide)).symm⟩) (by simp)]
  exact ackFirst_clears 256 (atWrite c Obj.marshalAckAll s) hx (by rw [State.oN, hsame, ← State.oN]; exact hword)

/-! ## Loop-backs (R574, R576) -/

theorem lbCmd_facts : ∀ x ∈ loopbacks, (dictRow (keyIndex (Obj.lbCmd x)) (keySub (Obj.lbCmd x))).map
      (fun d => (d.ty, d.access, d.apply)) = some (.u8, .rw, .immediate) ∧ twinKeys (Obj.lbCmd x) = [] ∧
      ¬(0x2400 ≤ keyIndex (Obj.lbCmd x) ∧ keyIndex (Obj.lbCmd x) < 0x2500) ∧
      ¬(0x1100 ≤ keyIndex (Obj.lbCmd x) ∧ keyIndex (Obj.lbCmd x) < 0x110C) ∧
      Obj.lbCmd x ∉ [Obj.sysModeReq, Obj.budgetGrant, Obj.portCmd] := by decide +kernel

theorem commandA_lbCmd {x : Nat} (hx : x ∈ loopbacks) (p v : Nat) (s : State) :
    commandA p (Obj.lbCmd x) v s = some (lbCmd x v p s) := by
  simp only [loopbacks, List.mem_cons, List.not_mem_nil, or_false] at hx
  rcases hx with rfl | rfl | rfl | rfl | rfl | rfl | rfl | rfl <;> rfl

/-- An accepted write of lb.x.cmd is answered, and leaves what its effect has left. -/
theorem lbCmd_answers {s w : State} {c : Plain} {x : Nat} {v : Byte} {vs : List VarKind} (h : plainOk s c (Obj.lbCmd x) = true)
    (hdata : c.data = [v]) (hx : x ∈ loopbacks) (hcmd : lbCmd x v.toNat c.port (atWrite c (Obj.lbCmd x) s) = (.ok, w))
    (hwork : RegsWithin [] [] vs (atWrite c (Obj.lbCmd x) s) w) :
    answered (request (plainReq c (Obj.lbCmd x)) {} s) (plainReq c (Obj.lbCmd x)) .ok = true ∧
      (∀ k i j, (request (plainReq c (Obj.lbCmd x)) {} s).var k i j = w.var k i j) ∧
      RegsWithin [Obj.uartFrames] [Obj.canRx, Obj.canTx, Obj.spiFrames] (.spiErr :: .spiBusy :: .dSlots :: .dqAt :: vs) s
        (request (plainReq c (Obj.lbCmd x)) {} s) := by
  obtain ⟨hdict, htwin, hsrc, hrail, hkey⟩ := lbCmd_facts x hx
  obtain ⟨r, hplain, hty, -⟩ := plainWrite_of_plainOk h (.inl hsrc) hdict (by rw [hdata]; rfl)
  have hval : (decodeVal r.ty c.data).toNat = v.toNat := by rw [hty, hdata]; simp [decodeVal, Ty.signed, ofLeBytes]
  obtain ⟨hans, hend, hregs⟩ := hplain.command_answers hkey hrail (by rw [commandA_lbCmd hx, hval, hcmd]) hwork (by simp)
  rw [htwin] at hregs
  exact ⟨hans, fun k i j => hend.vars k i j (by simp), hregs⟩

/-- A loop-back whose conditions hold is to start at the next tick (R574, R577). -/
theorem lbCmd_start {x p : Nat} {s : State} (hscan : s.oB Obj.testBscan = false) (hexists : lbExists s x = true)
    (hcond : lbCond s x (some p) = true) (hbusy : lbBusy s = false) :
    lbCmd x 1 p s = (.ok, (((s.setFlag .lbTodo true x).setVar .lbMode (s.mode.code + 1 : Nat)).setVar .lbRole (role s)).setVar
      .lbStop 0 x) := by
  rw [lbCmd, if_pos rfl, if_neg (by simp [hscan, hexists, hcond]), hbusy, if_neg (by decide)]

theorem lbCmd_stop (x p : Nat) (s : State) : lbCmd x 2 p s =
    (.ok, s.setFlag .lbStop (decide (s.oN (Obj.lbState x) = 1) || s.varB .lbTodo x) x) := by
  rw [lbCmd, if_neg (by decide), if_pos rfl]

theorem lbStart_starts {s : State} {c : Plain} {x : Nat} (h : plainOk s c (Obj.lbCmd x) = true) (hdata : c.data = [1])
    (hx : x ∈ loopbacks) (hbusy : lbBusy s = false) (hscan : s.oB Obj.testBscan = false) (hexists : lbExists s x = true)
    (hcond : lbCond s x (some c.port) = true) :
    answered (request (plainReq c (Obj.lbCmd x)) {} s) (plainReq c (Obj.lbCmd x)) .ok = true ∧
      (request (plainReq c (Obj.lbCmd x)) {} s).varB .lbTodo x = true ∧
      (request (plainReq c (Obj.lbCmd x)) {} s).varN .lbMode = s.mode.code + 1 ∧
      (request (plainReq c (Obj.lbCmd x)) {} s).varN .lbRole = role s ∧
      (request (plainReq c (Obj.lbCmd x)) {} s).var .lbStop x = 0 ∧
      RegsWithin [Obj.uartFrames] [Obj.canRx, Obj.canTx, Obj.spiFrames]
        [.spiErr, .spiBusy, .dSlots, .dqAt, .lbTodo, .lbMode, .lbRole, .lbStop] s (request (plainReq c (Obj.lbCmd x)) {} s) := by
  have hu := atWrite_reached h
  have hstart := lbCmd_start (p := c.port) ((hu.oB_eq (by decide)).trans hscan) ((hu.lbExists_eq x).trans hexists)
    ((lbCond_atWrite (plainOk_port h) hexists).trans hcond) (hu.lbBusy_eq.trans hbusy)
  rw [hu.mode_eq, hu.role_eq] at hstart
  obtain ⟨hans, hvar, hregs⟩ := lbCmd_answers (vs := [.lbTodo, .lbMode, .lbRole, .lbStop]) h hdata hx hstart
    ((((RegsWithin.refl.setFlag (by simp)).setVar (by simp)).setVar (by simp)).setVar (by simp))
  refine ⟨hans, ?_, ?_, ?_, ?_, hregs⟩
  · simp [State.varB, hvar, State.setFlag, State.ofBool, State.var_setVar]
  · simp [State.varN, hvar, State.setFlag, State.var_setVar]
  · simp [State.varN, hvar, State.setFlag, State.var_setVar]
  · simp [hvar]

theorem lbStop_stops {s : State} {c : Plain} {x : Nat} (h : plainOk s c (Obj.lbCmd x) = true) (hdata : c.data = [2])
    (hx : x ∈ loopbacks) :
    answered (request (plainReq c (Obj.lbCmd x)) {} s) (plainReq c (Obj.lbCmd x)) .ok = true ∧
      (request (plainReq c (Obj.lbCmd x)) {} s).varB .lbStop x = (decide (s.oN (Obj.lbState x) = 1) || s.varB .lbTodo x) ∧
      RegsWithin [Obj.uartFrames] [Obj.canRx, Obj.canTx, Obj.spiFrames] [.spiErr, .spiBusy, .dSlots, .dqAt, .lbStop] s
        (request (plainReq c (Obj.lbCmd x)) {} s) := by
  have hu := atWrite_reached h
  have hstate : (atWrite c (Obj.lbCmd x) s).oN (Obj.lbState x) = s.oN (Obj.lbState x) :=
    hu.oN_eq (by rw [not_mem_requestKeys]; simp only [Obj.lbState, objKey]; omega)
  have hstop := lbCmd_stop x c.port (atWrite c (Obj.lbCmd x) s)
  rw [hstate, hu.varB_eq (by decide)] at hstop
  obtain ⟨hans, hvar, hregs⟩ := lbCmd_answers (vs := [.lbStop]) h hdata hx hstop (RegsWithin.refl.setFlag (by simp))
  refine ⟨hans, ?_, hregs⟩
  rw [State.varB, hvar, State.setFlag, State.var_setVar_self]
  cases decide (s.oN (Obj.lbState x) = 1) || s.varB .lbTodo x <;> rfl

/-- Settles O34: each command reaches its object in the state before its reception, but for the counters of the ports. -/
theorem modeAndSequencerWrites : Obligations.ModeAndSequencerWrites := by
  unfold Obligations.ModeAndSequencerWrites
  intro s
  refine ⟨?runFromSetup, ?setupFromRun, ?sameMode, ?noBank, ?onLatched, ?onUp, ?offDrops, ?offDown, ?unack, ?ackAll,
    ?lbStart, ?lbStop⟩
  case runFromSetup =>
    intro c h hdata hmode hbank hmain htable
    refine ⟨_, by rw [exec, execSysModeReq, plainWrite], ?_⟩
    obtain ⟨hreq, hport, htxn, hregs⟩ := modeReq_waits h hdata (.inl hmode) (.inr rfl) (by rw [hmode]; decide)
      fun _ => ⟨hbank, hmain, htable⟩
    refine ⟨hreq, hport, htxn, ?_, hregs⟩
    rw [State.mode, State.oN, hregs.objs _ (by decide) (ne_portFamily (by decide)), ← State.oN, ← State.mode, hmode]
  case setupFromRun =>
    intro c h hdata hmode
    refine ⟨_, by rw [exec, execSysModeReq, plainWrite], ?_⟩
    exact modeReq_waits h hdata (.inr hmode) (.inl rfl) (by rw [hmode]; decide) (fun h4 => absurd h4 (by decide))
  case sameMode =>
    intro c h hdata hmode hwaits
    refine ⟨_, by rw [exec, execSysModeReq, plainWrite], ?_⟩
    exact modeReq_same h hdata (.inl hmode) (.inl rfl) (by rw [hmode]; rfl) hwaits
  case noBank =>
    intro c h hdata hmode hbank
    refine ⟨_, by rw [exec, execSysModeReq, plainWrite], ?_⟩
    exact modeReq_bankless h hdata hmode rfl hbank
  case onLatched =>
    intro c h hdata hmode hswap hdown
    exact ⟨_, by rw [exec, execSeqCmdOn, plainWrite], seqCmdOn_latched h hdata hmode hswap hdown⟩
  case onUp =>
    intro c h hdata hmode hswap hst hat halone
    exact ⟨_, by rw [exec, execSeqCmdOn, plainWrite], seqCmdOn_up h hdata hmode hswap hst hat halone⟩
  case offDrops =>
    intro c h hdata hmode hswap hdown
    exact ⟨_, by rw [exec, execSeqCmdOff, plainWrite], seqCmdOff_drops h hdata hmode hswap hdown⟩
  case offDown =>
    intro c h hdata hmode hswap hst hat halone
    exact ⟨_, by rw [exec, execSeqCmdOff, plainWrite], seqCmdOff_down h hdata hmode hswap hst hat halone⟩
  case unack =>
    intro src c h hsrc hdata
    refine ⟨_, by rw [exec, execAcknowledge, plainWrite], ?_⟩
    obtain ⟨hans, hval, hregs⟩ := srcUnack_acknowledges h hsrc hdata
    exact ⟨hans, hval, hregs.mono (by simp) (List.Subset.refl _) (List.Subset.refl _)⟩
  case ackAll =>
    intro c h hdata
    refine ⟨_, by rw [exec, execAckAll, plainWrite], ?_⟩
    obtain ⟨hans, hclear, hregs⟩ := ackAll_acknowledges h hdata
    exact ⟨hans, hclear, hregs.mono (by simp) (List.Subset.refl _) (List.Subset.refl _)⟩
  case lbStart =>
    intro x c h hdata hx hbusy hscan hexists hcond
    exact ⟨_, by rw [exec, execLbStart, plainWrite],
      lbStart_starts h hdata (List.contains_iff_mem.1 hx) hbusy hscan hexists hcond⟩
  case lbStop =>
    intro x c h hdata hx
    exact ⟨_, by rw [exec, execLbStop, plainWrite], lbStop_stops h hdata (List.contains_iff_mem.1 hx)⟩

end Sys2Proof.Machine
end

section
/-!
PROOFS. Keyed writes of command objects: what a spent counter writes, and the answer of a command that leaves the state as it is
(R508, R510).
-/

namespace Sys2Proof.Machine

/-! ## What reads and writes of NVM lines change (R436, R445) -/

/-- The objects that show the commit buffer and the lines lost. -/
def lineKeys : List Nat := [Obj.nvmBufLines, Obj.nvmState, Obj.nvmCorrected, Obj.nvmUncorr, Obj.nvmLastBad, Obj.ledgerStatus]

/-- Work on lines of NVM, as the objects and hidden quantities show it. -/
abbrev LineWork (s t : State) : Prop := RegsWithin lineKeys [] [.commitReq, .commitReqRound, .ledLost] s t

/-- Work on other parts of the state than its objects and hidden quantities. -/
theorem RegsWithin.of_eq {ks : List Nat} {fs : List (Nat → Nat)} {vs : List VarKind} {s t : State} (hobjs : t.objs = s.objs)
    (hvars : t.vars = s.vars) : RegsWithin ks fs vs s t :=
  ⟨fun k _ _ => by rw [State.o, hobjs, State.o], fun v i j _ => by rw [State.var, hvars, State.var]⟩

theorem commitAsk_lineWork (s : State) : LineWork s (commitAsk s) :=
  RegsWithin.ite RegsWithin.refl ((RegsWithin.refl.setFlag (by simp)).setVar (by simp))

theorem lineLost_lineWork (l : Nat) (scrub : Bool) (s : State) : LineWork s (lineLost l scrub s) := by
  unfold lineLost
  extract_lets a u v w x
  have hu : LineWork s u := RegsWithin.of_eq rfl rfl
  have hv : LineWork s v := (hu.setO (by decide)).bump (by decide)
  exact RegsWithin.ite ((hv.raiseActionLater.setFlag (by simp)).setBit (by decide)).raiseActionLater hv.raiseActionLater

theorem nvmReadEffect_lineWork (l : Nat) (s : State) : LineWork s (nvmReadEffect l s) := by
  unfold nvmReadEffect
  split
  · exact RegsWithin.refl
  · exact RegsWithin.refl.bump (by decide)
  · exact lineLost_lineWork _ _ _

theorem nvmRead_lineWork (addr n : Nat) (s : State) : LineWork s (nvmRead addr n s).2 :=
  RegsWithin.refl.forRange fun _ _ h => h.trans (nvmReadEffect_lineWork _ _)

theorem bufShow_lineWork (s : State) : LineWork s (bufShow s) := by
  have hlines : LineWork s (s.setO Obj.nvmBufLines s.buf.length) := RegsWithin.refl.setO (by decide)
  exact RegsWithin.ite (hlines.setO (by decide)) hlines

theorem bufEnter_lineWork (l off : Nat) (d : List Byte) (s : State) : LineWork s (bufEnter l off d s) := by
  unfold bufEnter
  split
  · exact RegsWithin.of_eq rfl rfl
  · extract_lets u entry v
    have hread : LineWork s u := RegsWithin.ite RegsWithin.refl (nvmReadEffect_lineWork _ _)
    have hentered : LineWork s v := by
      refine RegsWithin.trans ?_ (bufShow_lineWork _)
      exact hread.trans (RegsWithin.of_eq rfl rfl)
    exact RegsWithin.ite (hentered.trans (commitAsk_lineWork _)) hentered

theorem nvmWriteLine_lineWork (addr : Nat) (d : List Byte) (s : State) : LineWork s (nvmWriteLine addr d s) := by
  unfold nvmWriteLine
  split
  · exact bufEnter_lineWork _ _ _ _
  · refine RegsWithin.trans ?_ (commitAsk_lineWork _)
    exact RegsWithin.of_eq rfl rfl

theorem nvmWriteLoop_lineWork (fuel addr : Nat) (d : List Byte) (s : State) : LineWork s (nvmWriteLoop fuel addr d s) := by
  induction fuel generalizing addr d s with
  | zero => exact RegsWithin.refl
  | succ fuel ih => exact RegsWithin.ite RegsWithin.refl ((nvmWriteLine_lineWork _ _ _).trans (ih _ _ _))

theorem nvmWrite_lineWork (addr : Nat) (d : List Byte) (s : State) : LineWork s (nvmWrite addr d s) :=
  nvmWriteLoop_lineWork _ _ _ _

/-! ## The counter of a keyed command (R508, R510) -/

/-- What spending a counter, and the last of a slot's counters, may change. -/
abbrev CounterWork (s t : State) : Prop :=
  RegsWithin (Obj.keyOwned :: lineKeys) [Obj.keyLast, Obj.keyState] [.hwmWarn, .commitReq, .commitReqRound, .ledLost] s t

theorem RegsWithin.counterWork {s t : State} (h : LineWork s t) : CounterWork s t :=
  h.mono (List.subset_cons_self _ _) (by simp) (by simp)

theorem consumeCounter_counterWork (q : Req) (s : State) : CounterWork s (consumeCounter q s) := by
  have hset : CounterWork s (s.setO (Obj.keyLast q.slot) q.counter) := RegsWithin.refl.setF (by simp)
  unfold consumeCounter
  extract_lets k u
  refine RegsWithin.ite (hset.setVar (by simp)).raiseActionLater (RegsWithin.ite ?_ hset)
  exact (hset.trans (nvmWrite_lineWork _ _ _).counterWork).raiseActionLater

theorem clearSlot_counterWork (k st : Nat) (s : State) : CounterWork s (clearSlot k st s) := by
  unfold clearSlot
  extract_lets u v
  have hu : CounterWork s u := RegsWithin.of_eq rfl rfl
  have hv : CounterWork s v := hu.setF (by simp)
  exact RegsWithin.ite (hv.setOB (by simp)) hv

theorem retireIfSpent_counterWork (q : Req) (s : State) : CounterWork s (retireIfSpent q s) := by
  unfold retireIfSpent
  split
  · extract_lets k
    exact (((nvmRead_lineWork _ _ _).trans (nvmWrite_lineWork _ _ _)).counterWork.trans
      (clearSlot_counterWork _ _ _)).raiseActionLater
  · exact RegsWithin.refl

theorem retireIfSpent_ports (q : Req) (s : State) : (retireIfSpent q s).ports = s.ports :=
  (keeps_retireIfSpent (w := ⟨true, true, true, false⟩) Keeps.refl).ports rfl

/-! ## A keyed command on an idle engine -/

theorem keyedOk_port {s : State} {c : Keyed} {key : Nat} (h : keyedOk s c key = true) : c.port < 5 := by
  simp only [keyedOk, Bool.and_eq_true] at h
  obtain ⟨⟨⟨hfree, -⟩, -⟩, -⟩ := h
  exact (freeFor_iff.1 hfree).1.port_lt

/-- An accepted keyed command reaches its effect with its tag checked (R45, R508). -/
theorem serve_keyedOk {s : State} {c : Keyed} {key : Nat} {r : Row} (h : keyedOk s c key = true)
    (hrow : objRow s (keyIndex key) (keySub key) = some r) (hacc : r.access ≠ .ro) :
    AtOnce s (keyedReq c key) ∧ keyedPass (tagJob (atChecks (keyedReq c key) {} s)) (keyedReq c key) = true ∧
      serve (keyedReq c key) {} (atChecks (keyedReq c key) {} s) =
        keyedEffect (keyedReq c key) {} (tagJob (atChecks (keyedReq c key) {} s)) := by
  simp only [keyedOk, Bool.and_eq_true] at h
  obtain ⟨⟨⟨hfree, hengine⟩, hpass⟩, -⟩ := h
  obtain ⟨hnow, hpre⟩ := freeFor_iff.1 hfree
  have hrec := atChecks_received hnow.port_lt {} s
  have hpass' : keyedPass (tagJob (atChecks (keyedReq c key) {} s)) (keyedReq c key) = true := by
    rw [(atChecks_received_tagJob hnow.port_lt {} s).keyedPass_eq hrec.slotKeys (keyedPass_slot hpass), hpass]
  have hengine' : engineFree (atChecks (keyedReq c key) {} s) = true := by rw [engineFree, hrec.jobs]; exact hengine
  refine ⟨hnow, hpass', ?_⟩
  rw [serve_writek rfl (by rw [hrec.reached.preCheck_eq, hpre]) (by rw [hrec.reached.objRow_eq]; exact hrow) hacc hengine',
    keyedChecked_of_keyedPass hpass']

/-- A keyed command that passes its checks takes effect on its object's row; its slot is retired where the counter is its last (R508,
R510). -/
theorem keyedEffect_of_keyedPass {q : Req} {r : Row} {aux : Aux} {s t : State} {o : Option Status} (hop : q.opcode = 3)
    (hpass : keyedPass s q = true) (hrow : objRow (consumeCounter q s) q.index q.sub = some r)
    (hwrite : writeObject q aux r (consumeCounter q s) = (o, t)) :
    keyedEffect q aux s = retireIfSpent q (finish q aux o t) := by
  simp only [keyedPass, Bool.and_eq_true, decide_eq_true_eq] at hpass
  obtain ⟨⟨-, hlast, -, -⟩, howner⟩ := hpass
  have hfall : ¬((q.counter : Int) - s.o (Obj.keyLast q.slot) < 0) := by unfold State.oN at hlast; omega
  have howner' : (ownerOnly q && decide (q.slot ≠ 0)) = false := by
    cases ho : ownerOnly q <;> simp_all
  simp only [keyedEffect, if_neg hfall, hop, howner', hrow, hwrite, Nat.reduceEqDiff, if_false, false_and, Bool.false_eq_true]

/-- The write of a command object is its command, and the journal's entry where the twin gets it (R269). -/
theorem writeObject_command {q : Req} {aux : Aux} {r : Row} {s t : State} {k : Nat} {st : Status}
    (hkey : objKey q.index q.sub = k) (hlen : q.data.length = r.ty.size) (hacc : r.access ≠ .rws) (hserve : mayServe s k = true)
    (hroom : (teamed s && holder s && grouped k && !journalRoom s k) = false)
    (hk : k ∉ [Obj.sysModeReq, Obj.budgetGrant, Obj.portCmd])
    (hcmd : commandA q.port k (decodeVal r.ty q.data).toNat s = some (st, t)) :
    writeObject q aux r s =
      (some st, if st = .ok ∧ grouped k then forwardWrite k r.ty.size (decodeVal r.ty q.data) t else t) := by
  have hvalue := writeValue_commandA (aux := aux) (r := r) hk hcmd
  rw [writeObject]
  simp only [hkey, hlen, hacc, hserve, hroom, hvalue, ne_eq, not_true_eq_false, decide_false, Bool.and_false, Bool.not_true,
    Bool.false_and, Bool.false_eq_true, false_and, if_false, reduceCtorEq, false_or, Option.some.injEq]

/-- The state in which an accepted keyed command reaches its object: received, its tag checked, its counter spent. -/
def atCommand (c : Keyed) (key : Nat) (s : State) : State := atKeyedChecks (keyedReq c key) {} s

/-- The objects below those of the slots read as before the command, but for the counters of the ports, the tag check's job and the
lines of NVM. -/
theorem atCommand_o {s : State} {c : Keyed} {key k : Nat} (hp : c.port < 5) (hreq : k ∉ requestKeys)
    (hline : k ∉ lineKeys) (hslot : k < 0x400000) : (atCommand c key s).o k = s.o k := by
  have hspent := consumeCounter_counterWork (keyedReq c key) (tagJob (atChecks (keyedReq c key) {} s))
  have howned : k ≠ Obj.keyOwned := by simp only [Obj.keyOwned, objKey]; omega
  have hfamily : ∀ f, f ∈ [Obj.keyLast, Obj.keyState] → ∀ n, k ≠ f n := by
    simp only [List.mem_cons, List.not_mem_nil, or_false, forall_eq_or_imp, forall_eq, Obj.keyLast, Obj.keyState, objKey]
    exact ⟨fun n => by omega, fun n => by omega⟩
  exact (hspent.objs k (by simp [howned, hline]) hfamily).trans ((atChecks_received_tagJob hp {} s).o_eq hreq)

theorem atCommand_oN {s : State} {c : Keyed} {key k : Nat} (hp : c.port < 5) (hreq : k ∉ requestKeys)
    (hline : k ∉ lineKeys) (hslot : k < 0x400000) : (atCommand c key s).oN k = s.oN k := by
  rw [State.oN, atCommand_o hp hreq hline hslot, State.oN]

theorem atCommand_mode {s : State} {c : Keyed} (key : Nat) (hp : c.port < 5) : (atCommand c key s).mode = s.mode := by
  rw [State.mode, atCommand_oN hp (by decide) (by decide) (by decide), State.mode]

theorem atCommand_objRow {s : State} {c : Keyed} (key : Nat) (hp : c.port < 5) (i j : Nat) :
    objRow (atCommand c key s) i j = objRow s i j := by
  have hpart : (atCommand c key s).oN Obj.idPart = s.oN Obj.idPart := atCommand_oN hp (by decide) (by decide) (by decide)
  simp only [objRow, indexExists, hpart]

theorem atCommand_teamed {s : State} {c : Keyed} (key : Nat) (hp : c.port < 5) : teamed (atCommand c key s) = teamed s := by
  rw [teamed, State.oB, atCommand_o hp (by decide) (by decide) (by decide), teamed, State.oB]

theorem atCommand_role {s : State} {c : Keyed} (key : Nat) (hp : c.port < 5) : role (atCommand c key s) = role s :=
  atCommand_oN hp (by decide) (by decide) (by decide)

theorem atCommand_mayServe {s : State} {c : Keyed} (key : Nat) (hp : c.port < 5) (k : Nat) :
    mayServe (atCommand c key s) k = mayServe s k := by
  simp only [mayServe, teamMayWrite, atCommand_role key hp, atCommand_teamed key hp]

/-- An accepted keyed command whose object answers is answered; what it leaves is its object's work, and its slot's (R508, R510). -/
theorem keyedOk_answersFrom {s w : State} {c : Keyed} {key : Nat} {r : Row} {st : Status} (h : keyedOk s c key = true)
    (hrow : objRow s (keyIndex key) (keySub key) = some r) (hacc : r.access ≠ .ro)
    (hwrite : writeObject (keyedReq c key) {} r (atCommand c key s) = (some st, w))
    (hflags : w.o Obj.portFlags = s.o Obj.portFlags) :
    answered (request (keyedReq c key) {} s) (keyedReq c key) st = true ∧
      RegsWithin (Obj.keyOwned :: lineKeys) [Obj.canTx, Obj.keyLast, Obj.keyState]
        [.hwmWarn, .commitReq, .commitReqRound, .ledLost] w (request (keyedReq c key) {} s) := by
  obtain ⟨hnow, hpass, hserve⟩ := serve_keyedOk h hrow hacc
  obtain ⟨hp, hbench⟩ := portUsable_port hnow.usable
  have hrow' : objRow (atCommand c key s) (keyIndex key) (keySub key) = some r := (atCommand_objRow key hp _ _).trans hrow
  have heffect := keyedEffect_of_keyedPass (aux := {}) rfl hpass hrow' hwrite
  have hanswered := respond_answered (q := keyedReq c key) (s := w) hp
    (fun h4 => by rw [State.bit, State.oN, hflags]; exact hbench h4) st
  rw [hnow.request_eq (by decide : 3 ≠ 8)]
  constructor
  · rw [answered_lateEvents, hserve, heffect, answered, portOf, retireIfSpent_ports]
    exact hanswered
  · refine RegsWithin.lateEvents ?_
    rw [hserve, heffect]
    exact ((respond_work _ _ _ _).regs.mono (by simp) (by simp) (by simp)).trans
      ((retireIfSpent_counterWork _ _).mono (List.Subset.refl _) (by simp) (List.Subset.refl _))

/-- An accepted keyed command of a byte whose write no twin gets: it is answered with the command's status, and what the command
leaves is changed by the end of the request alone (R269, R508, R510). -/
theorem keyedOk_command {s w : State} {c : Keyed} {key : Nat} {v : Byte} {st : Status} (h : keyedOk s c key = true)
    (hdict : (dictRow (keyIndex key) (keySub key)).map (fun d => (d.ty, d.access, d.apply)) = some (.u8, .wok, .immediate))
    (hsrc : ¬(0x2400 ≤ keyIndex key ∧ keyIndex key < 0x2500)) (hown : key ∉ [Obj.sysModeReq, Obj.budgetGrant, Obj.portCmd])
    (htwin : (teamed s && grouped key) = false) (hdata : c.data = [v])
    (hcmd : commandA c.port key v.toNat (atCommand c key s) = some (st, w))
    (hflags : w.o Obj.portFlags = s.o Obj.portFlags) :
    answered (request (keyedReq c key) {} s) (keyedReq c key) st = true ∧
      RegsWithin (Obj.keyOwned :: (lineKeys ++ twinKeys key)) [Obj.canTx, Obj.keyLast, Obj.keyState]
        [.hwmWarn, .commitReq, .commitReqRound, .ledLost] w (request (keyedReq c key) {} s) := by
  have hparts := h
  simp only [keyedOk, storeOk, Bool.and_eq_true] at hparts
  obtain ⟨⟨⟨hfree, -⟩, -⟩, hserve, -⟩ := hparts
  obtain ⟨r, hrow⟩ := objRow_of_preCheck (freeFor_iff.1 hfree).2 (by decide : 3 ≠ 6)
  have hr : (dictRow (keyIndex key) (keySub key)).map _ = _ := objRow_some hrow (.inl hsrc)
  rw [hdict, Option.some.injEq, Prod.mk.injEq, Prod.mk.injEq] at hr
  obtain ⟨hty, hacc, -⟩ := hr
  have hp := keyedOk_port h
  have hdata' : (keyedReq c key).data = [v] := hdata
  have hlen : (keyedReq c key).data.length = r.ty.size := by rw [hdata', ← hty]; rfl
  have hval : (decodeVal r.ty (keyedReq c key).data).toNat = v.toNat := by
    rw [← hty, hdata']; simp [decodeVal, Ty.signed, ofLeBytes]
  have hroom : (teamed (atCommand c key s) && holder (atCommand c key s) && grouped key &&
      !journalRoom (atCommand c key s) key) = false := by
    rw [atCommand_teamed key hp, Bool.and_right_comm (teamed s), htwin, Bool.false_and, Bool.false_and]
  have hcmd' : commandA (keyedReq c key).port key (decodeVal r.ty (keyedReq c key).data).toNat (atCommand c key s) =
      some (st, w) := by rw [hval]; exact hcmd
  have hwrite := writeObject_command (q := keyedReq c key) (aux := {}) (r := r) (objKey_keyIndex_keySub key) hlen
    (by rw [← hacc]; decide) ((atCommand_mayServe key hp key).trans hserve) hroom hown hcmd'
  have hsent : RegsWithin (twinKeys key) [] [] w
      (if st = .ok ∧ grouped key then forwardWrite key r.ty.size (decodeVal r.ty (keyedReq c key).data) w else w) := by
    split
    next hok => simpa only [hok.2, if_true] using forwarded_regs key r.ty.size (decodeVal r.ty (keyedReq c key).data) w
    next => exact RegsWithin.refl
  have hflags' := (hsent.objs Obj.portFlags (by unfold twinKeys; split <;> decide) (by simp)).trans hflags
  obtain ⟨hans, hend⟩ := keyedOk_answersFrom h hrow (by rw [← hacc]; decide) hwrite hflags'
  exact ⟨hans, (hsent.mono (fun _ hk => List.mem_cons_of_mem _ (List.mem_append_right _ hk)) (by simp) (by simp)).trans
    (hend.mono (List.cons_subset_cons _ (List.subset_append_left _ _)) (List.Subset.refl _) (List.Subset.refl _))⟩

/-- What a keyed command changes besides its own effect: the counters of the ports, the tag check's job, its slot and the lines of
NVM that hold it. -/
abbrev KeyedFrame (s t : State) : Prop :=
  RegsWithin [Obj.uartFrames, Obj.jobState 3, Obj.jobStarted 3, Obj.jobStepsDone 3, Obj.jobStepsTotal 3, Obj.nvmBufLines,
    Obj.nvmState, Obj.keyOwned, Obj.nvmCorrected, Obj.nvmUncorr, Obj.nvmLastBad, Obj.ledgerStatus] [Obj.canRx, Obj.canTx,
    Obj.spiFrames, Obj.keyLast, Obj.keyState] [.spiErr, .spiBusy, .dSlots, .dqAt, .hwmWarn, .commitReq, .commitReqRound,
    .ledLost] s t

theorem atCommand_keyedFrame {s : State} {c : Keyed} (key : Nat) (hp : c.port < 5) : KeyedFrame s (atCommand c key s) := by
  have hrec := atChecks_received (q := keyedReq c key) hp {} s
  have htag := tagJob_regs (atChecks (keyedReq c key) {} s)
  have hspent := consumeCounter_counterWork (keyedReq c key) (tagJob (atChecks (keyedReq c key) {} s))
  exact ((hrec.within.mono (by simp) (by simp) (by simp)).trans (htag.mono (by simp) (by simp) (by simp))).trans
    (hspent.mono (by simp [lineKeys]) (by simp) (by simp))

/-! ## sys.safe_release, sys.reboot and sys.ship (R34) -/

theorem modeCommand_facts : ∀ key ∈ [Obj.sysSafeRelease, Obj.sysReboot, Obj.sysShip],
    (dictRow (keyIndex key) (keySub key)).map (fun d => (d.ty, d.access, d.apply)) = some (.u8, .wok, .immediate) ∧
      grouped key = false ∧ key ∉ [Obj.sysModeReq, Obj.budgetGrant, Obj.portCmd] ∧
      ¬(0x2400 ≤ keyIndex key ∧ keyIndex key < 0x2500) := by decide +kernel

/-- A keyed write of one of the three whose command changes nothing: it is answered with the command's status. -/
theorem modeCommand_answers {s : State} {c : Keyed} {key : Nat} {v : Byte} {st : Status}
    (hkey : key ∈ [Obj.sysSafeRelease, Obj.sysReboot, Obj.sysShip]) (h : keyedOk s c key = true) (hdata : c.data = [v])
    (hcmd : commandA c.port key v.toNat (atCommand c key s) = some (st, atCommand c key s)) :
    answered (request (keyedReq c key) {} s) (keyedReq c key) st = true ∧
      KeyedFrame s (request (keyedReq c key) {} s) := by
  obtain ⟨hdict, htwin, hown, hsrc⟩ := modeCommand_facts key hkey
  have hp := keyedOk_port h
  obtain ⟨hans, hwork⟩ := keyedOk_command h hdict hsrc hown (by rw [htwin, Bool.and_false]) hdata hcmd
    (atCommand_o hp (by decide) (by decide) (by decide))
  exact ⟨hans, (atCommand_keyedFrame key hp).trans (hwork.mono (by simp [lineKeys, twinKeys, htwin]) (by simp) (by simp))⟩

theorem commandA_sysSafeRelease (p v : Nat) (s : State) : commandA p Obj.sysSafeRelease v s = some (safeRelease v s) := rfl
theorem commandA_sysReboot (p v : Nat) (s : State) : commandA p Obj.sysReboot v s = some (sysReboot v s) := rfl
theorem commandA_sysShip (p v : Nat) (s : State) : commandA p Obj.sysShip v s = some (sysShip v s) := rfl

/-- Settles O48: the command of each object judges the value before the mode, and a refusal spends the counter alone. -/
theorem releaseRebootShipValues : Obligations.ReleaseRebootShipValues := by
  unfold Obligations.ReleaseRebootShipValues
  intro s
  refine ⟨?release, ?reboot, ?ship, ?shipMode⟩
  case release =>
    intro v c h hdata hv
    refine ⟨_, by rw [exec, execSysSafeRelease, keyedWrite], modeCommand_answers (by decide) h hdata ?_⟩
    rw [commandA_sysSafeRelease, safeRelease, if_pos (by bv_omega)]
  case reboot =>
    intro v c h hdata hv
    refine ⟨_, by rw [exec, execSysReboot, keyedWrite], modeCommand_answers (by decide) h hdata ?_⟩
    rw [commandA_sysReboot, sysReboot, if_pos (by bv_omega)]
  case ship =>
    intro v c h hdata hv0 hv1
    refine ⟨_, by rw [exec, execSysShip, keyedWrite], modeCommand_answers (by decide) h hdata ?_⟩
    rw [commandA_sysShip, sysShip, if_pos (by bv_omega)]
  case shipMode =>
    intro v c h hdata hv hsetup hbench
    refine ⟨_, by rw [exec, execSysShip, keyedWrite], modeCommand_answers (by decide) h hdata ?_⟩
    have hlisted : ¬1 < v.toNat := by rcases hv with rfl | rfl <;> decide
    have hmode := atCommand_mode (s := s) Obj.sysShip (keyedOk_port h)
    rw [commandA_sysShip, sysShip, if_neg hlisted, hmode, if_neg (by tauto)]

end Sys2Proof.Machine
end

section
/-!
PROOFS. Statements of chapter 01 that fail, each with a state that the model runs to the refuting outcome.
-/

namespace Sys2Proof.Machine

/-! ## A loss of MAIN with a failed rail (R17, R25) -/

/-- SETUP with MAIN powered and its first rail failed. -/
def failedRail : State := ((State.reset.setVar .mainOn 1).setO Obj.sysMode 3).setO (Obj.railState 0) RS.failed

/-- What MAIN_SUPPLY_LOSS finds outside HOLDUP: the condition of source 100, MAIN gone. -/
def mainGone (s : State) : State := (s.setFlag .mainOn false).raiseLater 100 0 (u8 s.mode.code ++ u8 (s.o Obj.hsState))

theorem mainSupplyLoss_alone {s : State} {v : Nat} (hmgt : s.mgtOn = true) (hmain : s.mainOn = true) (hv : v < 6600)
    (hmode : s.mode ≠ .holdup) (hyield : canYield (mainGone s) = false) :
    exec (.mainSupplyLoss v) s = .next (mainRailsOff (mainGone s)) := by
  have hmode' : ¬(s.setFlag .mainOn false).mode = .holdup := hmode
  rw [exec, execMainSupplyLoss, if_pos (by simp [hmgt, hmain, hv])]
  simp only [if_neg hmode']
  exact congrArg Host.Outcome.next (if_neg (by rw [← Bool.not_eq_true] at hyield; exact hyield))

/-- A rail that has failed stays so where MAIN's rails go off: only a start leaves that state (R142). -/
theorem mainRailsOff_failedRail : railState (mainRailsOff (mainGone failedRail)) 0 = RS.failed := by decide +kernel

/-- Refutes O32 in its clause for MAIN_SUPPLY_LOSS, which has every rail of MAIN off: one that has failed stays failed. -/
theorem not_bootEvents : ¬ Obligations.BootEvents := by
  unfold Obligations.BootEvents
  intro h
  obtain ⟨-, -, -, -, -, -, -, -, hloss, -, -⟩ := h failedRail
  obtain ⟨t, ht, -, -, hoff, -⟩ := hloss 6599 (by decide +kernel) (by decide +kernel) (by decide) (by decide +kernel)
    (by decide +kernel)
  rw [mainSupplyLoss_alone (by decide +kernel) (by decide +kernel) (by decide) (by decide +kernel) (by decide +kernel)] at ht
  obtain rfl : mainRailsOff (mainGone failedRail) = t := Host.Outcome.next.inj ht
  have hstate := hoff 0 (by decide) (by decide +kernel) (by decide) (by decide)
  exact absurd (mainRailsOff_failedRail.symm.trans hstate) (by decide)

/-! ## SHELF abandoned with its close still due (R345, R528) -/

/-- SHELF as its entry leaves it, the close still due, with CRES charged and an external source valid. -/
def shelfEntered : State :=
  (((State.reset.setO Obj.sysMode 0).setVar .shelfArmed 1).setVar .closeDue 2).setPin .cres 490

theorem shelfAbandon_closeDue {s : State} (hmgt : s.mgtOn = true) (hmode : s.mode = .shelf) (hext : externalValid s = true)
    (hdue : s.varB .closeDue = true) :
    exec .shelfAbandon s = .next (((closeNow (s.varN .closeDue - 1) s).setVar .shelfWord 0).requestMode .boot 0x11) := by
  rw [exec, execShelfAbandon, if_pos (by simp [hmgt, hmode, hext]), if_pos hdue]

/-- The close that was due is written, and stamped with its frame. -/
theorem closeNow_shelfEntered : (closeNow (shelfEntered.varN .closeDue - 1) shelfEntered).var .closeAt = 1 := by decide +kernel

/-- Refutes O33 in its clause for SHELF_ABANDON, whose frame has no room for the close: the close that SHELF entry has made due is
written (R528), and the frame in which it was is kept. -/
theorem not_powerDownEvents : ¬ Obligations.PowerDownEvents := by
  unfold Obligations.PowerDownEvents
  intro h
  obtain ⟨-, -, -, -, -, -, -, habandon, -, -⟩ := h shelfEntered
  obtain ⟨t, ht, -, -, -, -, -, -, hframe⟩ := habandon (by decide +kernel) (by decide +kernel) (by decide +kernel)
  rw [shelfAbandon_closeDue (by decide +kernel) (by decide +kernel) (by decide +kernel) (by decide +kernel)] at ht
  obtain rfl := Host.Outcome.next.inj ht
  have hsame := hframe.vars .closeAt 0 0 (by decide)
  rw [State.requestMode, State.var_setVar_ne _ _ (by decide), State.var_setVar_ne _ _ (by decide), closeNow_shelfEntered] at hsame
  exact absurd hsame (by decide +kernel)

/-! ## An ECHO in BOOT (R23, R552) -/

/-- BOOT, with an ECHO on SPI-B that names SPI-A as its port. -/
def strayBootEcho : State := setPort 1 { PortState.idle with txn := some { echoReserved with tid := 2 } } State.reset

/-- Refutes O45 in its clause for ECHO: at the tick SPI-B's ECHO, whose port field names SPI-A, is answered after and over the one
that has come in on SPI-A. The state is one that no reception makes: there a port holds requests of its own only. -/
theorem not_bootAnswersBusy : ¬ Obligations.BootAnswersBusy := by
  unfold Obligations.BootAnswersBusy
  intro h
  obtain ⟨-, -, -, -, -, hecho, -⟩ := h strayBootEcho
  obtain ⟨t, ht, -, hans, -⟩ := hecho echoReserved rfl (by decide +kernel) (by decide +kernel) (by decide +kernel)
    (by decide +kernel) (by decide +kernel) (by decide +kernel)
  have hstray : answered (echoTick (request echoReserved {} strayBootEcho)) echoReserved .busy = false := by decide +kernel
  obtain rfl : request echoReserved {} strayBootEcho = t := Host.Outcome.next.inj ht
  exact absurd hans (by simp [hstray])

/-! ## A restored phase and what its pool shows (R172) -/

/-- Where no phase of the list below 32 has failed, pool[m].failed_lo shows none. -/
theorem showPool_failedLo {m : Nat} {s : State} (h : ∀ n ∈ listOf s m, phaseFailed s n = false) :
    (showPool m s).o (Obj.poolFailedLo m) = 0 := by
  have hnone : ((listOf s m).filter fun n => decide (0 ≤ n ∧ n < 32) && phaseFailed s n) = [] := by
    rw [List.filter_eq_nil_iff]
    intro n hn
    simp [h n hn]
  have hoffsets : Obj.poolFailedLo m ≠ Obj.railBalOffsets m := by simp only [Obj.poolFailedLo, Obj.railBalOffsets, objKey]; omega
  have hhi : Obj.poolFailedLo m ≠ Obj.poolFailedHi m := by simp only [Obj.poolFailedLo, Obj.poolFailedHi, objKey]; omega
  rw [showPool, showOffsets, State.o_setO_ne _ _ hoffsets, State.o_setO_ne _ _ hhi, State.o_setO_self]
  simp only [hnone, List.foldl_nil, Nat.cast_zero]

/-- An accepted pool[m].restore: the phase is off and no longer failed, and its pool shows it (R172). -/
theorem poolRestore_accepted {m n : Nat} {s : State} (hexists : phaseExists s n = true) (hlist : (listOf s m).contains n = true)
    (hrail : railState s m = RS.off ∨ railState s m = RS.failed) (hfailed : phaseFailed s n = true)
    (hclear : s.o (Obj.srcUncleared n) = 0) :
    ∃ w, poolRestore m n s = (.ok, showPool m w) ∧ phaseFailed w n = false ∧
      ∀ k, k ∉ [Obj.wearStatus n, Obj.wearFailCause n, Obj.phaseState n] → w.o k = s.o k := by
  have hcause : Obj.wearStatus n ≠ Obj.wearFailCause n := by simp only [Obj.wearStatus, Obj.wearFailCause, objKey]; omega
  have hstate : Obj.wearStatus n ≠ Obj.phaseState n := by simp only [Obj.wearStatus, Obj.phaseState, objKey]; omega
  unfold poolRestore
  rw [if_neg (by rw [hexists, hlist]; decide), if_neg (by simp [hrail, hfailed, hclear])]
  refine ⟨_, rfl, ?_, fun k hk => ?_⟩
  · have hbit : (s.setBit (Obj.wearStatus n) 0 false).bit (Obj.wearStatus n) 0 = false := by rw [State.bit_setBit, if_pos rfl]
    simp only [phaseFailed, State.bit, State.oN, State.o_raiseActionLater, State.o_setVar, State.setFlag,
      State.o_setO_ne _ _ hcause, State.o_setO_ne _ _ hstate] at hbit ⊢
    exact hbit
  · simp only [List.mem_cons, List.not_mem_nil, or_false, not_or] at hk
    obtain ⟨hk1, hk2, hk3⟩ := hk
    simp only [State.o_raiseActionLater, State.o_setVar, State.setFlag, State.o_setO_ne _ _ hk3, State.o_setO_ne _ _ hk2]
    exact State.o_setO_ne _ _ hk1

/-- SETUP with slot 0 enrolled; phase 3, the one phase of the first rail's list, has failed, and its pool shows it. -/
def failedPhase : State :=
  (((enrolled.setO (Obj.railPlist 0 0) 3).setO (Obj.phaseState 3) PS.failed).setBit (Obj.wearStatus 3) 0 true).setO
    (Obj.poolFailedLo 0) 8

/-- The keyed write of pool[0].restore that names phase 3. -/
def restorePhase : Keyed := signed (Obj.poolRestore 0) [3]

theorem keyedOk_restorePhase : keyedOk failedPhase restorePhase (Obj.poolRestore 0) = true :=
  keyedOk_signed _ _ _ (by decide +kernel) (by decide +kernel) (by decide +kernel) (by decide +kernel)

/-- The state in which that write reaches its object. -/
def atRestore : State := atCommand restorePhase (Obj.poolRestore 0) failedPhase

theorem atRestore_o {k : Nat} (hreq : k ∉ requestKeys) (hline : k ∉ lineKeys) (hslot : k < 0x400000) :
    atRestore.o k = failedPhase.o k := atCommand_o (by decide) hreq hline hslot

theorem listOf_of_railPlist {w : State} (h : ∀ i < 48, w.o (Obj.railPlist 0 i) = failedPhase.o (Obj.railPlist 0 i)) :
    listOf w 0 = [3] := by
  have hlist : listOf w 0 = listOf failedPhase 0 := by
    unfold listOf
    congr 1
    exact List.map_congr_left fun i hi => by rw [State.oN, h i (List.mem_range.1 hi), State.oN]
  rw [hlist]
  decide +kernel

theorem atRestore_railPlist {i : Nat} (hi : i < 48) : atRestore.o (Obj.railPlist 0 i) = failedPhase.o (Obj.railPlist 0 i) := by
  refine atRestore_o ?_ ?_ ?_
  · rw [not_mem_requestKeys]; simp only [Obj.railPlist, objKey]; omega
  · simp only [lineKeys, List.mem_cons, List.not_mem_nil, or_false, Obj.railPlist, Obj.nvmBufLines, Obj.nvmState,
      Obj.nvmCorrected, Obj.nvmUncorr, Obj.nvmLastBad, Obj.ledgerStatus, objKey]
    omega
  · simp only [Obj.railPlist, objKey]; omega

theorem commandA_poolRestore (p v : Nat) (s : State) : commandA p (Obj.poolRestore 0) v s = some (poolRestore 0 v s) := rfl

/-- The command restores phase 3, and pool[0].failed_lo shows it no more. -/
theorem commandA_restorePhase : ∃ w, commandA restorePhase.port (Obj.poolRestore 0) (3 : Byte).toNat atRestore = some (.ok, w) ∧
    w.o (Obj.poolFailedLo 0) = 0 ∧ w.o Obj.portFlags = failedPhase.o Obj.portFlags := by
  have hexists : phaseExists atRestore 3 = true := by
    rw [phaseExists, State.oN, atRestore_o (by decide) (by decide) (by decide)]; decide +kernel
  have hlist : (listOf atRestore 0).contains 3 = true := by
    rw [listOf_of_railPlist fun i hi => atRestore_railPlist hi]; rfl
  have hrail : railState atRestore 0 = RS.off ∨ railState atRestore 0 = RS.failed := by
    left
    rw [railState, if_pos (by decide), State.oN, atRestore_o (by decide) (by decide) (by decide)]; decide +kernel
  have hfailed : phaseFailed atRestore 3 = true := by
    rw [phaseFailed, State.bit, State.oN, atRestore_o (by decide) (by decide) (by decide)]; decide +kernel
  have hclear : atRestore.o (Obj.srcUncleared 3) = 0 := by
    rw [atRestore_o (by decide) (by decide) (by decide)]; decide +kernel
  obtain ⟨w, heq, hrestored, hkept⟩ := poolRestore_accepted hexists hlist hrail hfailed hclear
  have hlistw : listOf w 0 = [3] := listOf_of_railPlist fun i hi => by
    rw [hkept _ (by simp only [List.mem_cons, List.not_mem_nil, or_false, Obj.railPlist, Obj.wearStatus, Obj.wearFailCause,
      Obj.phaseState, objKey]; omega), atRestore_railPlist hi]
  refine ⟨showPool 0 w, by rw [commandA_poolRestore]; exact congrArg some heq, showPool_failedLo fun n hn => ?_, ?_⟩
  · rw [hlistw, List.mem_singleton] at hn
    rw [hn, hrestored]
  · have hshown : (showPool 0 w).o Obj.portFlags = w.o Obj.portFlags := by
      simp only [showPool, showOffsets]
      iterate 5 rw [State.o_setO_ne _ _ (by decide)]
    rw [hshown, hkept _ (by decide), atRestore_o (by decide) (by decide) (by decide)]

theorem request_restorePhase : (request (keyedReq restorePhase (Obj.poolRestore 0)) {} failedPhase).o (Obj.poolFailedLo 0) = 0 := by
  obtain ⟨w, hcmd, hlo, hflags⟩ := commandA_restorePhase
  obtain ⟨-, hend⟩ := keyedOk_command (v := 3) keyedOk_restorePhase (by decide +kernel) (by decide) (by decide)
    (by decide +kernel) rfl hcmd hflags
  rw [hend.objs (Obj.poolFailedLo 0) (by decide) ?family, hlo]
  case family =>
    simp only [List.mem_cons, List.not_mem_nil, or_false, forall_eq_or_imp, forall_eq, Obj.poolFailedLo, Obj.canTx,
      Obj.keyLast, Obj.keyState, objKey]
    exact ⟨fun n => by omega, fun n => by omega, fun n => by omega⟩

/-- Refutes O38 in its clause for POOL_RESTORE, whose frame leaves out pool[m].failed_lo and pool[m].failed_hi: the phase restored is
shown there as failed before the command and no more after it. -/
theorem not_keyedModeAndPoolWrites : ¬ Obligations.KeyedModeAndPoolWrites := by
  unfold Obligations.KeyedModeAndPoolWrites
  intro h
  obtain ⟨-, -, -, -, -, hrestore, -⟩ := h failedPhase
  obtain ⟨t, ht, -, -, -, -, -, -, -, -, hframe⟩ := hrestore 0 3 restorePhase keyedOk_restorePhase (by decide) (by decide)
    (by decide) (by decide +kernel) (by decide +kernel) (by decide +kernel) (by decide +kernel) (by decide +kernel)
  obtain rfl : request (keyedReq restorePhase (Obj.poolRestore 0)) {} failedPhase = t := Host.Outcome.next.inj ht
  have hsame := hframe.objs (Obj.poolFailedLo 0) (by decide) ?family
  case family =>
    simp only [List.mem_cons, List.not_mem_nil, or_false, forall_eq_or_imp, forall_eq, Obj.poolFailedLo, Obj.canRx, Obj.canTx,
      Obj.spiFrames, Obj.keyLast, Obj.keyState, objKey]
    exact ⟨fun n => by omega, fun n => by omega, fun n => by omega, fun n => by omega, fun n => by omega⟩
  rw [request_restorePhase] at hsame
  exact absurd hsame (by decide +kernel)

end Sys2Proof.Machine
end

section
/-!
PROOFS. The front of the queue, and the frame of the sampled inputs and the protocol ports over every command.
-/

namespace Sys2Proof.Machine

theorem pin_of_pins {s t : State} (h : t.pins = s.pins) (g : Sig) (i : Nat) : t.pin g i = s.pin g i := by
  rw [State.pin, State.pin, h]

theorem portOf_of_ports {s t : State} (h : t.ports = s.ports) (p : Nat) : portOf t p = portOf s p := by
  simp only [portOf, h]

/-- Settles O51, by the two cases of a step: a command waits, or none does. -/
theorem stepTakesFront : Obligations.StepTakesFront := by
  unfold Obligations.StepTakesFront
  exact ⟨fun _ _ _ => step_front rfl, fun _ => step_idle⟩

/-- Settles O57: what a command may touch is `touched`, and `exec_keeps` has every command keep the rest. -/
theorem portsAndPinsByName : Obligations.PortsAndPinsByName := by
  unfold Obligations.PortsAndPinsByName
  intro c s t hexec
  obtain ⟨u, hu, hkeeps⟩ := exec_keeps c s
  obtain rfl : u = t := Host.Outcome.next.inj (hu.symm.trans hexec)
  exact ⟨fun hsamples => pin_of_pins (hkeeps.pins hsamples), fun hports => portOf_of_ports (hkeeps.ports hports)⟩

end Sys2Proof.Machine
end

section
/-!
PROOFS. Statements of chapter 02 that fail, each with a state that the model runs to the refuting outcome.
-/

namespace Sys2Proof.Machine

/-! ## The end of a slew toward a SYNC_IN outside the range of R37 -/

/-- A slew toward a SYNC_IN outside the range of R37 does not end: FCLK does not follow it (R36, R37). -/
theorem syncInSlewComplete_outOfRange {s : State} (h : syncInRange (s.oN Obj.clkSyncDiv) (s.pin .syncHz).toNat = false) :
    exec .syncInSlewComplete s = .next s := by
  rw [exec, execSyncInSlewComplete, h, Bool.and_false]
  rfl

/-- FCLK and 400 times SYNC_IN both 3 % above 400 MHz, as after following the harness (R57), and the slew to SYNC_IN begun. -/
def slewOutOfRange : State := ((State.reset.setO Obj.clkRefState 2).setVar .clkPpb 30000000).setPin .syncHz 1030000

/-- Refutes O1 in its clause for SYNC_IN_SLEW_COMPLETE, which does not ask that SYNC_IN be in the range of R37: with FCLK at N
times a SYNC_IN outside it, no phase pull-in starts. -/
theorem not_clockReferenceEvents : ¬ Obligations.ClockReferenceEvents := by
  unfold Obligations.ClockReferenceEvents
  intro h
  obtain ⟨-, -, -, -, -, hslew, -⟩ := h slewOutOfRange
  obtain ⟨t, ht, hpull, -⟩ := hslew (by decide +kernel) (by decide +kernel) (by decide +kernel)
  rw [syncInSlewComplete_outOfRange (by decide +kernel)] at ht
  obtain rfl := Host.Outcome.next.inj ht
  exact absurd hpull (by decide +kernel)

/-! ## A failure of the 32.768 kHz oscillator with MGT off (R426) -/

/-- What any failure of the oscillator does at once: it is declared, and the calendar is no longer valid (R426, R427). -/
def oscillatorFailed (s : State) : State := rtcValidity ((s.setFlag .rtcFailed true).setBit Obj.rtcStatus 0 true)

theorem oscillatorFailed_mgtOn (s : State) : (oscillatorFailed s).mgtOn = s.mgtOn := by
  simp [oscillatorFailed, rtcValidity, State.mgtOn, State.varB, State.setFlag, State.setBit, State.var_setVar_ne]

theorem oscillatorFailed_rtcStops (s : State) : (oscillatorFailed s).o Obj.rtcStops = s.o Obj.rtcStops := by
  rw [oscillatorFailed, rtcValidity, State.o_setBit_ne _ _ _ (by decide), State.o_setBit_ne _ _ _ (by decide), State.setFlag,
    State.o_setVar]

/-- With MGT off the failure is kept for the next BOOT to record. -/
theorem oscillatorFailure_mgtOff {s : State} (hoff : s.mgtOn = false) (hfed : s.varB .bkpValid = true) :
    exec .oscillatorFailure s = .next ((oscillatorFailed s).addVar .rtcFailTodo 1) := by
  have hfails : (if s.mgtOn then decide (1000 ≤ s.varN .rtcQuiet) && !s.varB .rtcFailed else s.varB .bkpValid) = true := by
    rw [hoff]; exact hfed
  have hoff' : ¬(oscillatorFailed s).mgtOn = true := by rw [oscillatorFailed_mgtOn, hoff]; decide
  rw [exec, execOscillatorFailure, if_pos hfails]
  exact if_neg hoff'

/-- MGT off, with BKP fed and its contents held. -/
def backupFed : State := (State.reset.setVar .mgtLost 1).setVar .bkpValid 1

/-- Refutes O2 in its clause for OSCILLATOR_FAILURE, which has rtc.stops count every failure: one with MGT off leaves rtc.stops as
it was, and is counted apart until the next BOOT (R426). -/
theorem not_scheduleAndCalendarEvents : ¬ Obligations.ScheduleAndCalendarEvents := by
  unfold Obligations.ScheduleAndCalendarEvents
  intro h
  obtain ⟨-, -, -, -, -, hfailure, -⟩ := h backupFed
  obtain ⟨t, ht, -, -, hstops, -⟩ := hfailure (by decide +kernel) (by decide +kernel)
  rw [oscillatorFailure_mgtOff (by decide +kernel) (by decide +kernel)] at ht
  obtain rfl := Host.Outcome.next.inj ht
  rw [State.addVar, State.o_setVar, oscillatorFailed_rtcStops] at hstops
  exact absurd hstops (by decide +kernel)

end Sys2Proof.Machine
end

section
/-!
PROOFS. A phase's switching cycle: the frame of each of its parts (R70 to R72, R81, R87, R161, R162), what a pulse that begins leaves
(R68, R73, R74, R78), and what one that ends does (R67, R75).
-/

namespace Sys2Proof.Machine

@[simp] theorem State.varB_setFlag_self (s : State) (k : VarKind) (b : Bool) (i j : Nat) : (s.setFlag k b i j).varB k i j = b := by
  cases b <;> simp [State.varB, State.setFlag, State.ofBool]

theorem State.varB_congr {s t : State} {k : VarKind} {i j : Nat} (h : t.var k i j = s.var k i j) : t.varB k i j = s.varB k i j := by
  rw [State.varB, h, State.varB]

theorem State.varN_congr {s t : State} {k : VarKind} {i j : Nat} (h : t.var k i j = s.var k i j) : t.varN k i j = s.varN k i j := by
  rw [State.varN, h, State.varN]

@[simp] theorem State.var_setBit (s : State) (k b : Nat) (v : Bool) (q : VarKind) (i j : Nat) :
    (s.setBit k b v).var q i j = s.var q i j := rfl

theorem phaseExists_lt {s : State} {n : Nat} (h : phaseExists s n = true) : n < 48 := by
  simp only [phaseExists, decide_eq_true_eq] at h
  split at h <;> omega

/-! ## The period that ends -/

theorem limitCycle_within (n : Nat) (s : State) :
    Within [Obj.srcCond n] [.ilimCnt, .inegCnt, .limHit, .negHit] s (limitCycle n s) := by
  unfold limitCycle
  extract_lets a b
  have ha : Within [Obj.srcCond n] [.ilimCnt, .inegCnt, .limHit, .negHit] s a :=
    .ite .refl ((WithinAll.refl.setVar (by decide)).condOff (by simp))
  have hb : Within [Obj.srcCond n] [.ilimCnt, .inegCnt, .limHit, .negHit] s b :=
    .ite ha ((ha.setVar (by decide)).condOff (by simp))
  exact (hb.setFlag (by decide)).setFlag (by decide)

theorem learnCycle_within (n m : Nat) (s : State) :
    Within [] [.ripSum, .ripCnt, .qualSeen, .learnTaken, .learnLs] s (learnCycle n m s) := by
  unfold learnCycle
  refine .ite ?_ .refl
  extract_lets d g q ton a b
  have ha : Within [] [.ripSum, .ripCnt, .qualSeen, .learnTaken, .learnLs] s a :=
    .ite ((WithinAll.refl.addVar (by decide)).addVar (by decide)) .refl
  have hb : Within [] [.ripSum, .ripCnt, .qualSeen, .learnTaken, .learnLs] s b := ha.setFlag (by decide)
  exact .ite (.ite hb ((hb.setFlag (by decide)).setVar (by decide))) ha

theorem countMean_within (n : Nat) (s : State) : Within [] [.cycSum, .cycCnt, .frSum, .frCnt] s (countMean n s) := by
  unfold countMean
  exact (((WithinAll.refl.addVar (by decide)).addVar (by decide)).addVar (by decide)).addVar (by decide)

theorem openPeriod_within (n m : Nat) (s : State) : Within [] [.openSkip, .openCnt] s (openPeriod n m s) := by
  unfold openPeriod
  extract_lets st isOpen
  exact .ite .refl (.ite (WithinAll.refl.addVar (by decide)) (.ite .refl (WithinAll.refl.countCond (by decide))))

/-- The hidden quantities that what a pulse leaves is kept in. -/
abbrev pulseLeftKinds : List VarKind :=
  [.ripSum, .ripCnt, .qualSeen, .learnTaken, .learnLs, .cycMean, .cycSum, .cycCnt, .frSum, .frCnt, .openSkip, .openCnt]

theorem closePulse_within (n m : Nat) (c : Int) (s : State) : Within [] pulseLeftKinds s (closePulse n m c s) := by
  unfold closePulse
  extract_lets w learned centred timed counted
  have hlearned : Within [] pulseLeftKinds s learned := (learnCycle_within n m s).mono (by simp) (by simp) (by simp)
  have htimed : Within [] pulseLeftKinds s timed := hlearned.setHist.setHist
  have hmean (u : State) : Within [] pulseLeftKinds u (countMean n u) := (countMean_within n u).mono (by simp) (by simp) (by simp)
  have hcounted : Within [] pulseLeftKinds s counted :=
    .ite (htimed.trans (hmean _)) (.ite htimed ((htimed.setVar (by decide)).trans (hmean _)))
  exact hcounted.trans ((openPeriod_within n m _).mono (by simp) (by simp) (by simp))

/-- The hidden quantities that the end of a switching period changes. -/
abbrev periodKinds : List VarKind :=
  [.ilimCnt, .inegCnt, .limHit, .negHit, .rangeCnt, .outSeen, .cycOpen, .cycBadPrev, .valley] ++ pulseLeftKinds

theorem closeCycle_within (n m : Nat) (valley centre : Int) (s : State) :
    Within [Obj.phaseFlags n, Obj.srcCond n] periodKinds s (closeCycle n m valley centre s) := by
  unfold closeCycle
  extract_lets v c limited out ranged seen closed shut
  have hlimited : Within [Obj.phaseFlags n, Obj.srcCond n] periodKinds s limited :=
    (limitCycle_within n s).mono (by simp) (by simp) (by simp)
  have hranged : Within [Obj.phaseFlags n, Obj.srcCond n] periodKinds s ranged :=
    (hlimited.setBit (by simp)).countCond (by decide)
  have hseen : Within [Obj.phaseFlags n, Obj.srcCond n] periodKinds s seen := .ite (hranged.setFlag (by decide)) hranged
  have hclosed : Within [Obj.phaseFlags n, Obj.srcCond n] periodKinds s closed :=
    .ite (hseen.trans ((closePulse_within n m c seen).mono (by simp) (by simp) (by simp))) hseen
  exact ((hclosed.setFlag (by decide)).setVar (by decide)).setVar (by decide)

theorem closeCycle_valley (n m : Nat) (valley centre : Int) (s : State) :
    (closeCycle n m valley centre s).var .valley n = sampled valley := by
  unfold closeCycle
  exact State.var_setVar_self _ _ _ _ _

theorem closeCycle_cycOpen (n m : Nat) (valley centre : Int) (s : State) :
    (closeCycle n m valley centre s).varB .cycOpen n = false := by
  unfold closeCycle
  extract_lets v c limited out ranged seen closed shut
  rw [State.varB_congr (s := shut) (by simp [State.var_setVar])]
  exact State.varB_setFlag_self _ _ _ _ _

/-! ## A pulse that begins -/

/-- The hidden quantities that a turn-on sets. -/
abbrev turnOnKinds : List VarKind :=
  [.rampCode, .pulse, .fresh, .lastOn, .cycOpen, .truncated, .blanked, .tripped, .uvsPend, .deHit, .zHold, .ipkMax, .ipkSeen, .cycBad,
    .updCnt]

theorem startPulse_within (n m t : Nat) (s : State) : Within [Obj.phaseDacCode n] turnOnKinds s (startPulse n m t s) := by
  unfold startPulse
  extract_lets latched on opened blanked held ipk peaked
  have hlatched : Within [Obj.phaseDacCode n] turnOnKinds s latched := (WithinAll.refl.setO (by simp)).setVar (by decide)
  have hon : Within [Obj.phaseDacCode n] turnOnKinds s on := ((hlatched.setFlag (by decide)).setFlag (by decide)).setVar (by decide)
  have hopened : Within [Obj.phaseDacCode n] turnOnKinds s opened := (hon.setFlag (by decide)).setFlag (by decide)
  have hblanked : Within [Obj.phaseDacCode n] turnOnKinds s blanked :=
    ((hopened.setFlag (by decide)).setFlag (by decide)).setFlag (by decide)
  have hheld : Within [Obj.phaseDacCode n] turnOnKinds s held := (hblanked.setFlag (by decide)).setFlag (by decide)
  have hpeaked : Within [Obj.phaseDacCode n] turnOnKinds s peaked :=
    (WithinAll.ite hheld (hheld.setVar (by decide))).setFlag (by decide)
  exact (hpeaked.setFlag (by decide)).addVar (by decide)

/-- What a pulse that begins leaves in the quantities of its phase. -/
structure PulseBegun (n t : Nat) (s u : State) : Prop where
  pulse : u.varB .pulse n = true
  reference : u.o (Obj.phaseDacCode n) = refCode s n
  ramp : u.var .rampCode n = s.o (Obj.phaseSlopeCode n)
  since : u.var .lastOn n = t
  blanked : u.varB .blanked n = true
  cycOpen : u.varB .cycOpen n = true

/-- Work outside the quantities of a pulse that has begun leaves it as it began. -/
theorem PulseBegun.within {n t : Nat} {s u w : State} {ks : List Nat} {vs : List VarKind} (h : PulseBegun n t s u)
    (g : Within ks vs u w) (hk : Obj.phaseDacCode n ∉ ks)
    (hv : ∀ k ∈ [VarKind.pulse, .rampCode, .lastOn, .blanked, .cycOpen], k ∉ vs) : PulseBegun n t s w where
  pulse := (State.varB_congr (g.vars _ _ _ (hv _ (by simp)))).trans h.pulse
  reference := (g.objs _ hk (by simp)).trans h.reference
  ramp := (g.vars _ _ _ (hv _ (by simp))).trans h.ramp
  since := (g.vars _ _ _ (hv _ (by simp))).trans h.since
  blanked := (State.varB_congr (g.vars _ _ _ (hv _ (by simp)))).trans h.blanked
  cycOpen := (State.varB_congr (g.vars _ _ _ (hv _ (by simp)))).trans h.cycOpen

theorem startPulse_begun (n m t : Nat) (s : State) : PulseBegun n t s (startPulse n m t s) := by
  unfold startPulse
  extract_lets latched on opened blanked held ipk peaked
  have hheld : PulseBegun n t s held := by
    constructor
    case reference => exact State.o_setO_self _ _ _
    all_goals simp [held, blanked, opened, on, latched, State.varB, State.setFlag, State.ofBool, State.var_setVar]
  have hpeaked : Within [] [.ipkMax, .ipkSeen, .cycBad, .updCnt] held peaked :=
    (WithinAll.ite .refl (WithinAll.refl.setVar (by decide))).setFlag (by decide)
  exact hheld.within ((hpeaked.setFlag (by decide)).addVar (by decide)) (by simp) (by decide)

theorem substituteOn_within (n m t : Nat) (s : State) : Within [] [.subPhase] s (substituteOn n m t s) := by
  unfold substituteOn
  exact .ite (WithinAll.refl.setVar (by decide)).raiseActionLater .refl

/-- What came before a pulse began is of no account, where it left the reference and the slope of the phase alone. -/
theorem PulseBegun.of_within {n t : Nat} {s u w : State} {ks : List Nat} {vs : List VarKind} (h : PulseBegun n t u w)
    (g : Within ks vs s u) (hk : Obj.phaseSlopeCode n ∉ ks) (hv : VarKind.refNext ∉ vs) : PulseBegun n t s w := by
  have hcode : refCode u n = refCode s n := by
    have hnext := g.vars .refNext n 0 hv
    rw [refCode, State.varB_congr hnext, State.varN_congr hnext, refCode]
  exact { h with reference := h.reference.trans (by rw [hcode]), ramp := h.ramp.trans (g.objs _ hk (by simp)) }

/-- A turn-on latches the reference and starts blanking and ramp (R68, R73, R74, R78). -/
theorem turnOn_begun (n m t : Nat) (valley centre : Int) (s : State) : PulseBegun n t s (turnOn n m t valley centre s) := by
  refine ((startPulse_begun n m t _).within (substituteOn_within n m t _) (by simp) (by decide)).of_within
    (closeCycle_within n m valley centre s) ?slope (by decide)
  case slope => simp only [List.mem_cons, List.not_mem_nil, or_false, Obj.phaseSlopeCode, Obj.phaseFlags, Obj.srcCond, objKey]; omega

theorem turnOn_within (n m t : Nat) (valley centre : Int) (s : State) :
    Within [Obj.phaseDacCode n, Obj.phaseFlags n, Obj.srcCond n] (.subPhase :: (turnOnKinds ++ periodKinds)) s
      (turnOn n m t valley centre s) :=
  (((closeCycle_within n m valley centre s).mono (by simp) (by simp) (by decide)).trans
    ((startPulse_within n m t _).mono (by simp) (by simp) (by decide))).trans
    ((substituteOn_within n m t _).mono (by simp) (by simp) (by simp))

/-! ## A pulse that ends -/

/-- The hidden quantities that the end of a pulse changes. -/
abbrev pulseEndKinds : List VarKind := [.pulse, .lastOff, .tonLast, .tripped, .blanked]

theorem endPulse_within (n t : Nat) (s : State) :
    Within [Obj.phaseTon n, Obj.phaseFlags n] pulseEndKinds s (endPulse n t s) := by
  unfold endPulse
  extract_lets ton off cleared
  have hoff : Within [Obj.phaseTon n, Obj.phaseFlags n] pulseEndKinds s off :=
    ((WithinAll.refl.setFlag (by decide)).setVar (by decide)).setVar (by decide)
  have hcleared : Within [Obj.phaseTon n, Obj.phaseFlags n] pulseEndKinds s cleared :=
    (hoff.setFlag (by decide)).setFlag (by decide)
  exact (hcleared.setO (by simp)).setBit (by simp)

/-- What a pulse that ends leaves in the quantities of its phase: its on-time, and since when the low side conducts (R67). -/
structure PulseEnded (n t : Nat) (s u : State) : Prop where
  pulse : u.varB .pulse n = false
  off : u.var .lastOff n = (t + 1 : Nat)
  onTime : u.var .tonLast n = (t - s.varN .lastOn n : Nat)

theorem endPulse_ended (n t : Nat) (s : State) : PulseEnded n t s (endPulse n t s) := by
  constructor <;> simp [endPulse, State.varB, State.setFlag, State.ofBool, State.var_setVar]

/-- A trip before the end of the effective minimum on-time lets the pulse go on until then (R75). -/
theorem tripPulse_early {n t : Nat} {s : State} (h : t ≤ s.varN .lastOn n + minOn s n) :
    tripPulse n t s = s.setFlag .tripped true n := if_pos h

theorem tripPulse_late {n t : Nat} {s : State} (h : s.varN .lastOn n + minOn s n < t) : tripPulse n t s = endPulse n t s :=
  if_neg (Nat.not_le.2 h)

theorem tripPulse_within (n t : Nat) (s : State) :
    Within [Obj.phaseTon n, Obj.phaseFlags n] pulseEndKinds s (tripPulse n t s) :=
  .ite (WithinAll.refl.setFlag (by decide)) (endPulse_within n t s)

/-- A pulse that trips goes on to the end of its effective minimum on-time (R75). -/
theorem tripPulse_pulse {n t : Nat} {s : State} (h : s.varB .pulse n = true) :
    (tripPulse n t s).varB .pulse n = true ↔ t ≤ s.varN .lastOn n + minOn s n := by
  rcases Nat.lt_or_ge (s.varN .lastOn n + minOn s n) t with hlate | hearly
  · rw [tripPulse_late hlate, (endPulse_ended n t s).pulse]
    simp [hlate]
  · have hgoes : (s.setFlag .tripped true n).varB .pulse n = s.varB .pulse n := State.varB_congr (State.var_setVar_ne _ _ (by simp))
    rw [tripPulse_early hearly, hgoes, h]
    simp [hearly]

theorem tripPulse_arrived (n t : Nat) (s : State) : (tripPulse n t s).arrived = s.arrived := by
  unfold tripPulse; split <;> rfl

end Sys2Proof.Machine
end

section
/-!
PROOFS. The events of a phase's pulse (R66 to R68, R73 to R76, R85 to R88).
-/

namespace Sys2Proof.Machine

/-! ## PHASE_TURN_ON -/

/-- A turn-on instant of a phase that is off (R66, R76, R91, R110, R111): its pulse or, in a hold, a period without one begins there. -/
structure TurnOnEdge (u : State) (n m at_ t : Nat) : Prop where
  phase : phaseExists u n = true
  inFrame : at_ < 12800
  rail : m < 12
  on : railOn u m = true
  state : u.oN (Obj.phaseState n) = 3 ∨ u.oN (Obj.phaseState n) = 4
  idle : u.varB .pulse n = false
  off : offDone u n t = true
  edge : (alignsGrid u n m || isInterleave u n m t || isDelayed u n m t || isFired u n m) = true

/-- On a device that does not drive, the edge of the rail's first phase has aligned the grid (R111). -/
def edgeAligned (n m t : Nat) (s : State) : State :=
  if alignsGrid s n m then s.setVar .grid (t - (offsetAt s n t - 1) : Nat) m else s

theorem edgeAligned_within (n m t : Nat) (s : State) : Within [] [.grid] s (edgeAligned n m t s) :=
  .ite (WithinAll.refl.setVar (by decide)) .refl

/-- Whether an edge aligns the grid does not depend on the grid. -/
theorem alignsGrid_setGrid (s : State) (v : Int) (n m i : Nat) : alignsGrid (s.setVar .grid v i) n m = alignsGrid s n m := by
  have hpos (j : Nat) : (s.setVar .grid v i).varN .posPhase m j = s.varN .posPhase m j :=
    State.varN_congr (State.var_setVar_ne _ _ (by simp))
  have hfires : (s.setVar .grid v i).varB .uvsFire m = s.varB .uvsFire m := State.varB_congr (State.var_setVar_ne _ _ (by simp))
  have hmembers : membersOf (s.setVar .grid v i) m = membersOf s m := by simp only [membersOf, hpos]
  rw [alignsGrid, switching, hmembers, hfires]
  rfl

/-- An edge is one also once it has aligned the grid. -/
theorem edgeAligned_edge {s : State} {n m t : Nat}
    (h : (alignsGrid s n m || isInterleave s n m t || isDelayed s n m t || isFired s n m) = true) :
    (alignsGrid (edgeAligned n m t s) n m || isInterleave (edgeAligned n m t s) n m t || isDelayed (edgeAligned n m t s) n m t ||
      isFired (edgeAligned n m t s) n m) = true := by
  unfold edgeAligned
  split
  · rename_i haligns
    simp [alignsGrid_setGrid, haligns]
  · exact h

/-- At its edge a phase begins a pulse; in a hold its period ends without another (R90, R140). -/
theorem exec_phaseTurnOn {s u : State} {n m at_ t : Nat} {valley centre : Int} (hu : slotsBy at_ s = u)
    (hm : u.oN (Obj.phaseRail n) = m) (ht : instant u at_ = t) (h : TurnOnEdge u n m at_ t) :
    exec (.phaseTurnOn n at_ valley centre) s = .next (if u.varB .ovsHold m || u.varB .ovpHold m
      then closeCycle n m valley centre (edgeAligned n m t u) else turnOn n m t valley centre (edgeAligned n m t u)) := by
  obtain ⟨hphase, hframe, hrail, hon, hstate, hidle, hoff, hedge⟩ := h
  have haligned := (edgeAligned_within n m t u).vars
  have hovs := State.varB_congr (haligned .ovsHold m 0 (by decide))
  have hovp := State.varB_congr (haligned .ovpHold m 0 (by decide))
  have hperiod : (if (edgeAligned n m t u).varB .ovsHold m || (edgeAligned n m t u).varB .ovpHold m ||
        !(alignsGrid (edgeAligned n m t u) n m || isInterleave (edgeAligned n m t u) n m t || isDelayed (edgeAligned n m t u) n m t ||
          isFired (edgeAligned n m t u) n m)
      then Host.Outcome.next (closeCycle n m valley centre (edgeAligned n m t u))
      else (.next (turnOn n m t valley centre (edgeAligned n m t u)) : Out)) =
      .next (if u.varB .ovsHold m || u.varB .ovpHold m
        then closeCycle n m valley centre (edgeAligned n m t u) else turnOn n m t valley centre (edgeAligned n m t u)) := by
    rw [edgeAligned_edge hedge, hovs, hovp, Bool.not_true, Bool.or_false]
    split <;> rfl
  subst hu hm ht
  rw [exec, execPhaseTurnOn]
  refine (if_pos ?guard).trans hperiod
  case guard => simp [hphase, hrail, hon, hidle, hoff, hedge, stepsPerFrame, hframe, hstate]

/-- The frame of a turn-on or of a period without a pulse, its edge included. -/
theorem turnOn_edge_within (n m t : Nat) (valley centre : Int) (s : State) :
    Within [Obj.phaseDacCode n, Obj.phaseFlags n, Obj.srcCond n] (.grid :: .subPhase :: (turnOnKinds ++ periodKinds)) s
      (turnOn n m t valley centre (edgeAligned n m t s)) :=
  ((edgeAligned_within n m t s).mono (by simp) (by simp) (by simp)).trans
    ((turnOn_within n m t valley centre _).mono (by simp) (by simp) (List.subset_cons_self _ _))

theorem closeCycle_edge_within (n m t : Nat) (valley centre : Int) (s : State) :
    Within [Obj.phaseFlags n, Obj.srcCond n] (.grid :: periodKinds) s (closeCycle n m valley centre (edgeAligned n m t s)) :=
  ((edgeAligned_within n m t s).mono (by simp) (by simp) (by simp)).trans
    ((closeCycle_within n m valley centre _).mono (by simp) (by simp) (List.subset_cons_self _ _))

/-! ## The end of a pulse -/

theorem exec_blankingEnd {s u : State} {n at_ : Nat} (hu : slotsBy at_ s = u) (hphase : phaseExists u n = true)
    (hpulse : u.varB .pulse n = true) (hblanked : u.varB .blanked n = true)
    (hend : u.varN .lastOn n + u.oN (Obj.phaseBlank n) * 32 ≤ instant u at_) :
    exec (.blankingEnd n at_) s = .next (u.setFlag .blanked false n) := by
  subst hu
  rw [exec, execBlankingEnd]
  exact if_pos (by simp [hphase, hpulse, hblanked, stepsPerCycle, hend])

theorem exec_peakComparatorTrip {s u : State} {n at_ : Nat} {imon : Int} (hu : slotsBy at_ s = u) (hphase : phaseExists u n = true)
    (hpulse : u.varB .pulse n = true) (hblanked : u.varB .blanked n = false) (hsince : u.varN .lastOn n ≤ instant u at_)
    (htrip : peakThreshold u n (instant u at_ - u.varN .lastOn n) ≤ imon) :
    exec (.peakComparatorTrip n at_ imon) s = .next (tripPulse n (instant u at_) u) := by
  subst hu
  rw [exec, execPeakComparatorTrip]
  exact if_pos (by simp [hphase, hpulse, hblanked, hsince, htrip])

theorem exec_minOnTimeEnd {s u : State} {n at_ : Nat} (hu : slotsBy at_ s = u) (hphase : phaseExists u n = true)
    (hpulse : u.varB .pulse n = true) (htripped : u.varB .tripped n = true)
    (hend : u.varN .lastOn n + minOn u n ≤ instant u at_) :
    exec (.minOnTimeEnd n at_) s = .next (endPulse n (instant u at_) u) := by
  subst hu
  rw [exec, execMinOnTimeEnd]
  exact if_pos (by simp [hphase, hpulse, htripped, hend])

theorem exec_forcedTurnOff {s u : State} {n at_ : Nat} (hu : slotsBy at_ s = u) (hphase : phaseExists u n = true)
    (hpulse : u.varB .pulse n = true) (hrail : u.oN (Obj.phaseRail n) < 12)
    (hend : u.varN .lastOn n + periodSteps u (u.oN (Obj.phaseRail n)) ≤ instant u at_ + minOff u n) :
    exec (.forcedTurnOff n at_) s = .next ((endPulse n (instant u at_) u).setBit (Obj.phaseFlags n) 3 true) := by
  subst hu
  rw [exec, execForcedTurnOff]
  exact if_pos (by simp [hphase, hpulse, hrail, hend])

/-! ## Current limits (R85 to R87) -/

/-- A cycle with a limit event: marked and counted. -/
def limitMarked (hit seen cnt : VarKind) (key n : Nat) (s : State) : State :=
  ((((s.setFlag hit true n).setFlag .cycBad true n).setFlag seen true n).addVar cnt 1 n).bumpSat key

/-- A limit event: from the 64th consecutive cycle on its class is present (R87). -/
def limitCounted (hit seen cnt : VarKind) (key n cls : Nat) (data : State → List Byte) (s : State) : State :=
  if 64 ≤ (limitMarked hit seen cnt key n s).varN cnt n then
    (limitMarked hit seen cnt key n s).raiseLater n cls (data (limitMarked hit seen cnt key n s))
  else limitMarked hit seen cnt key n s

section
variable {hit seen cnt : VarKind} {key n cls : Nat} {data : State → List Byte}

theorem limitMarked_within (s : State) :
    Within [key] [hit, .cycBad, seen, cnt] s (limitMarked hit seen cnt key n s) :=
  ((((WithinAll.refl.setFlag (by simp)).setFlag (by simp)).setFlag (by simp)).addVar (by simp)).bumpSat (by simp)

theorem limitCounted_within (s : State) :
    Within [key, Obj.srcCond n] [hit, .cycBad, seen, cnt] s (limitCounted hit seen cnt key n cls data s) := by
  have hmarked : Within [key, Obj.srcCond n] [hit, .cycBad, seen, cnt] s (limitMarked hit seen cnt key n s) :=
    (limitMarked_within s).mono (by simp) (by simp) (by simp)
  exact .ite (hmarked.raiseLater (by simp)) hmarked

/-- The event of a limit changes no hidden quantity. -/
theorem limitCounted_var (s : State) (k : VarKind) (i j : Nat) :
    (limitCounted hit seen cnt key n cls data s).var k i j = (limitMarked hit seen cnt key n s).var k i j :=
  (WithinAll.ite (ks := [Obj.srcCond n]) (fs := []) (vs := []) (WithinAll.refl.raiseLater (by simp)) .refl).vars k i j (by simp)

variable (hcnt : cnt ∉ [hit, .cycBad, seen]) (hhit : hit ∉ [.cycBad, seen])
include hcnt

theorem limitMarked_cnt (s : State) : (limitMarked hit seen cnt key n s).var cnt n = s.var cnt n + 1 := by
  simp only [List.mem_cons, List.not_mem_nil, or_false, not_or] at hcnt
  obtain ⟨h1, h2, h3⟩ := hcnt
  simp [limitMarked, State.bumpSat, State.addVar, State.setFlag, State.var_setVar, h1, h2, h3]

theorem limitCounted_cnt (s : State) : (limitCounted hit seen cnt key n cls data s).var cnt n = s.var cnt n + 1 :=
  (limitCounted_var s cnt n 0).trans (limitMarked_cnt hcnt s)

theorem limitCounted_condOn {s : State} (h : 64 ≤ (s.var cnt n + 1).toNat) :
    (limitCounted hit seen cnt key n cls data s).condOn n cls = true := by
  rw [limitCounted, if_pos (by rw [State.varN, limitMarked_cnt hcnt]; exact h)]
  exact State.raiseLater_condOn _ _ _ _

theorem limitCounted_arrived {s : State} (h : (s.var cnt n + 1).toNat < 64) :
    (limitCounted hit seen cnt key n cls data s).arrived = s.arrived := by
  rw [limitCounted, if_neg (by rw [State.varN, limitMarked_cnt hcnt]; omega)]
  rfl

include hhit

theorem limitCounted_hit (s : State) : (limitCounted hit seen cnt key n cls data s).varB hit n = true := by
  simp only [List.mem_cons, List.not_mem_nil, or_false, not_or] at hcnt hhit
  obtain ⟨h1, -, -⟩ := hcnt
  obtain ⟨h2, h3⟩ := hhit
  rw [State.varB_congr (limitCounted_var s hit n 0)]
  simp [limitMarked, State.bumpSat, State.addVar, State.setFlag, State.ofBool, State.varB, State.var_setVar, Ne.symm h1, h2, h3]

end

/-- The record of class 0x00 of a phase (R87). -/
def ilimData (n : Nat) (s : State) : List Byte :=
  u8 n ++ u16 (dA (s.o (Obj.phaseIlimEff n))) ++ u32 (s.var .ilimCnt n) ++ u8 (s.o (Obj.phaseRail n))

/-- The record of class 0x01 of a phase (R87). -/
def inegData (n : Nat) (s : State) : List Byte :=
  u8 n ++ u16 (dA (s.o (Obj.phaseIneg n))) ++ u32 (s.var .inegCnt n) ++ u8 (s.o (Obj.phaseRail n))

/-- What POSITIVE_CURRENT_LIMIT counts. -/
abbrev ilimCounted (n : Nat) (s : State) : State :=
  limitCounted .limHit .ilimSeen .ilimCnt (Obj.phaseIlimCycles n) n 0 (ilimData n) s

/-- What NEGATIVE_CURRENT_LIMIT counts. -/
abbrev inegCounted (n : Nat) (s : State) : State :=
  limitCounted .negHit .inegSeen .inegCnt (Obj.phaseInegCycles n) n 1 (inegData n) s

theorem exec_positiveCurrentLimit {s u : State} {n at_ : Nat} {imon : Int} (hu : slotsBy at_ s = u) (hphase : phaseExists u n = true)
    (hpulse : u.varB .pulse n = true) (hblanked : u.varB .blanked n = false) (hfirst : u.varB .limHit n = false)
    (hsince : u.varN .lastOn n ≤ instant u at_) (hlimit : (u.var .ilimCode n - 128) * 1000 ≤ imon) :
    exec (.positiveCurrentLimit n at_ imon) s = .next (ilimCounted n (tripPulse n (instant u at_) u)) := by
  subst hu
  rw [exec, execPositiveCurrentLimit]
  refine (if_pos ?guard).trans (apply_ite Host.Outcome.next _ _ _).symm
  case guard => simp [hphase, hpulse, hblanked, hfirst, hsince, hlimit]

theorem exec_negativeCurrentLimit {s u : State} {n at_ : Nat} {imon : Int} (hu : slotsBy at_ s = u) (hphase : phaseExists u n = true)
    (hframe : at_ < 12800) (hlow : lowSideOn u n = true) (hlimit : imon ≤ (u.var .inegCode n - 128) * 1000) :
    exec (.negativeCurrentLimit n at_ imon) s = .next (inegCounted n u) := by
  subst hu
  rw [exec, execNegativeCurrentLimit]
  refine (if_pos ?guard).trans (apply_ite Host.Outcome.next _ _ _).symm
  case guard => simp [hphase, stepsPerFrame, hframe, hlow, hlimit]

/-! ## The pad of a phase at its negative limit (R86, R93) -/

/-- The negative limit keeps the pad of a phase at high impedance, unless the overvoltage fast path holds it low. -/
theorem pwmWanted_negHit {s : State} {n : Nat} (hhit : s.varB .negHit n = true)
    (hovp : s.varB .ovpHold (s.oN (Obj.phaseRail n)) = false) : pwmWanted s n = 0 := by
  simp [pwmWanted, hhit, hovp]

theorem pwmPad_of_wanted {s : State} {n : Nat} (hscan : s.oB Obj.testBscan = false) (hloop : lbPwm s n = none)
    (hwanted : pwmWanted s n = 0) : pwmPad s n = 0 := by
  have hcell : extestCell s 0 n = none := by rw [extestCell, hscan]; rfl
  simp [pwmPad, hcell, hloop, hwanted]

/-- A limit event leaves the pad to what the phase wants of it. -/
theorem inegCounted_pad {s : State} {n : Nat} (hn : n < 48) (hscan : s.oB Obj.testBscan = false) (hloop : lbPwm s n = none)
    (hovp : s.varB .ovpHold (s.oN (Obj.phaseRail n)) = false) : pwmPad (inegCounted n s) n = 0 := by
  have hframe := limitCounted_within (hit := .negHit) (seen := .inegSeen) (cnt := .inegCnt) (key := Obj.phaseInegCycles n) (n := n)
    (cls := 1) (data := inegData n) s
  have hobj (k : Nat) (hk : k ∉ [Obj.phaseInegCycles n, Obj.srcCond n]) : (inegCounted n s).o k = s.o k := hframe.objs k hk (by simp)
  have hscan' : (inegCounted n s).o Obj.testBscan = s.o Obj.testBscan :=
    hobj _ (by simp only [List.mem_cons, List.not_mem_nil, or_false, Obj.testBscan, Obj.phaseInegCycles, Obj.srcCond, objKey]; omega)
  have hactive : (inegCounted n s).o Obj.testActive = s.o Obj.testActive :=
    hobj _ (by simp only [List.mem_cons, List.not_mem_nil, or_false, Obj.testActive, Obj.phaseInegCycles, Obj.srcCond, objKey]; omega)
  have hsel : (inegCounted n s).o (Obj.lbSel 0x10) = s.o (Obj.lbSel 0x10) :=
    hobj _ (by simp only [List.mem_cons, List.not_mem_nil, or_false, Obj.lbSel, Obj.phaseInegCycles, Obj.srcCond, objKey]; omega)
  have hrail : (inegCounted n s).o (Obj.phaseRail n) = s.o (Obj.phaseRail n) :=
    hobj _ (by simp only [List.mem_cons, List.not_mem_nil, or_false, Obj.phaseRail, Obj.phaseInegCycles, Obj.srcCond, objKey]; omega)
  refine pwmPad_of_wanted (by rw [State.oB, hscan', ← State.oB, hscan]) ?loop
    (pwmWanted_negHit (limitCounted_hit (by decide) (by decide) s) ?ovp)
  case loop =>
    rw [lbPwm, ite_eq_right_iff] at hloop ⊢
    rw [State.oN, State.oN, hactive, hsel]
    exact fun h => absurd (hloop h) (by simp)
  case ovp => rw [State.oN, hrail, State.varB_congr (hframe.vars .ovpHold _ 0 (by decide))]; exact hovp

/-! ## The zero crossing (R88, R89) -/

/-- The mean of a cycle that diode emulation ends at an instant (R72). -/
def crossedMean (s : State) (n t : Nat) : Int :=
  divNearest (phaseCurrent s n (refUv s n) * (s.var .tonLast n + (t - (s.varN .lastOff n - 1) : Nat)))
    (2 * (periodSteps s (s.oN (Obj.phaseRail n)) : Int))

/-- A phase whose low-side conduction the zero-crossing detector ends. -/
def crossed (n : Nat) (s : State) : State := ((s.setFlag .zHold true n).setFlag .cycBad true n).setFlag .deSeen true n

theorem exec_zeroCrossing {s u : State} {n at_ : Nat} {imon : Int} (hu : slotsBy at_ s = u) (hphase : phaseExists u n = true)
    (hframe : at_ < 12800) (hlow : lowSideOn u n = true) (hde : deInForce u n = true)
    (hblank : u.varN .lastOff n - 1 + u.oN (Obj.phaseBlank n) * 32 ≤ instant u at_)
    (hzero : imon ≤ u.o (Obj.phaseZcdOffset n) * 1000) (hovp : u.varB .ovpHold (u.oN (Obj.phaseRail n)) = false) :
    exec (.zeroCrossing n at_ imon) s = .next (if u.varB .cycOpen n
      then ((crossed n u).setFlag .deHit true n).setVar .cycMean (crossedMean u n (instant u at_)) n else crossed n u) := by
  have hopen : (crossed n u).varB .cycOpen n = u.varB .cycOpen n := by simp [crossed, State.setFlag, State.varB, State.var_setVar]
  rw [← hopen]
  subst hu
  rw [exec, execZeroCrossing]
  refine (if_pos ?guard).trans rfl
  case guard => simp [hphase, stepsPerFrame, hframe, hlow, hde, hovp, stepsPerCycle, hblank, hzero]

theorem crossed_within (n : Nat) (s : State) : Within [] [.zHold, .cycBad, .deSeen] s (crossed n s) :=
  ((WithinAll.refl.setFlag (by decide)).setFlag (by decide)).setFlag (by decide)

theorem crossed_zHold (n : Nat) (s : State) : (crossed n s).varB .zHold n = true := by
  simp [crossed, State.setFlag, State.ofBool, State.varB, State.var_setVar]

theorem crossed_deSeen (n : Nat) (s : State) : (crossed n s).varB .deSeen n = true := State.varB_setFlag_self _ _ _ _ _

/-- Settles O3: each event's hypotheses are the conditions of its command; what it leaves is what a pulse that begins or ends, a period
that ends or a limit event leaves. -/
theorem pulseEvents : Obligations.PulseEvents := by
  unfold Obligations.PulseEvents
  intro s
  refine ⟨?turnOn, ?held, ?blanking, ?peak, ?minOn, ?forced, ?positive, ?negative, ?zero⟩
  case turnOn =>
    intro n at_ valley centre u hphase hframe hrail hon hstate hidle hoff hedge hovs hovp
    refine ⟨_, exec_phaseTurnOn rfl rfl rfl ⟨hphase, hframe, hrail, hon, hstate, hidle, hoff, hedge⟩, ?_⟩
    rw [if_neg (by simp [u, hovs, hovp])]
    obtain ⟨hpulse, href, hramp, hsince, hblanked, hopen⟩ := (turnOn_begun n (u.oN (Obj.phaseRail n)) (instant u at_) valley centre
      _).of_within (edgeAligned_within n (u.oN (Obj.phaseRail n)) (instant u at_) u) (by simp) (by decide)
    exact ⟨hpulse, href, hramp, hsince, hblanked, hopen,
      (turnOn_edge_within _ _ _ _ _ _).mono (List.Subset.refl _) (List.Subset.refl _) (by decide)⟩
  case held =>
    intro n at_ valley centre u hphase hframe hrail hon hstate hidle hoff hedge hheld
    refine ⟨_, exec_phaseTurnOn rfl rfl rfl ⟨hphase, hframe, hrail, hon, hstate, hidle, hoff, hedge⟩, ?_⟩
    rw [if_pos hheld]
    have hwithin := closeCycle_edge_within n (u.oN (Obj.phaseRail n)) (instant u at_) valley centre u
    exact ⟨(State.varB_congr (hwithin.vars .pulse n 0 (by decide))).trans hidle,
      State.varB_congr (hwithin.vars .zHold n 0 (by decide)), closeCycle_cycOpen _ _ _ _ _, closeCycle_valley _ _ _ _ _,
      hwithin.mono (List.Subset.refl _) (List.Subset.refl _) (by decide)⟩
  case blanking =>
    intro n at_ u hphase hpulse hblanked hend
    exact ⟨_, exec_blankingEnd rfl hphase hpulse hblanked hend, State.varB_setFlag_self _ _ _ _ _, WithinAll.refl.setFlag (by simp)⟩
  case peak =>
    intro n at_ imon u hphase hpulse hblanked hsince htrip
    refine ⟨_, exec_peakComparatorTrip rfl hphase hpulse hblanked hsince htrip, fun hlate => ?_, fun hearly => ?_,
      tripPulse_within _ _ _⟩
    · rw [tripPulse_late hlate]
      have hended := endPulse_ended n (instant u at_) u
      exact ⟨hended.pulse, hended.onTime⟩
    · rw [tripPulse_early hearly]
      exact ⟨(State.varB_congr (State.var_setVar_ne _ _ (by simp))).trans hpulse, State.varB_setFlag_self _ _ _ _ _⟩
  case minOn =>
    intro n at_ u hphase hpulse htripped hend
    have hended := endPulse_ended n (instant u at_) u
    exact ⟨_, exec_minOnTimeEnd rfl hphase hpulse htripped hend, hended.pulse, hended.off, hended.onTime, endPulse_within _ _ _⟩
  case forced =>
    intro n at_ u hphase hpulse hrail hend
    have hended := endPulse_ended n (instant u at_) u
    refine ⟨_, exec_forcedTurnOff rfl hphase hpulse hrail hend, (State.varB_congr (State.var_setBit ..)).trans hended.pulse, ?_,
      (State.var_setBit ..).trans hended.onTime, (endPulse_within _ _ _).setBit (by simp)⟩
    rw [State.bit_setBit, if_pos rfl]
  case positive =>
    intro n at_ imon u hphase hpulse hblanked hfirst hsince hlimit
    have htrip := tripPulse_within n (instant u at_) u
    have hcounted : Within _ _ _ (ilimCounted n (tripPulse n (instant u at_) u)) := limitCounted_within _
    have hcnt : (tripPulse n (instant u at_) u).var .ilimCnt n = u.var .ilimCnt n := htrip.vars _ _ _ (by decide)
    refine ⟨_, exec_positiveCurrentLimit rfl hphase hpulse hblanked hfirst hsince hlimit, ?pulse,
      limitCounted_hit (by decide) (by decide) _, ?count, fun h64 => limitCounted_condOn (by decide) (by rw [hcnt]; exact h64),
      fun hfew => ?quiet, ?frame⟩
    case pulse =>
      rw [State.varB_congr (hcounted.vars .pulse n 0 (by decide))]
      exact tripPulse_pulse hpulse
    case count => rw [limitCounted_cnt (by decide), hcnt]
    case quiet => rw [limitCounted_arrived (by decide) (by rw [hcnt]; exact hfew), tripPulse_arrived]
    case frame => exact (htrip.mono (by simp) (by simp) (by decide)).trans (hcounted.mono (by simp) (by simp) (by decide))
  case negative =>
    intro n at_ imon u hphase hframe hlow hlimit
    exact ⟨_, exec_negativeCurrentLimit rfl hphase hframe hlow hlimit, limitCounted_hit (by decide) (by decide) _,
      fun hscan hloop hovp => inegCounted_pad (phaseExists_lt hphase) hscan hloop hovp, limitCounted_cnt (by decide) _,
      limitCounted_condOn (by decide), limitCounted_arrived (by decide), limitCounted_within _⟩
  case zero =>
    intro n at_ imon u hphase hframe hlow hde hblank hzero hovp
    refine ⟨_, exec_zeroCrossing rfl hphase hframe hlow hde hblank hzero hovp, ?_⟩
    have hcrossed := crossed_within n u
    by_cases hopen : u.varB .cycOpen n = true
    · rw [if_pos hopen]
      have hmean : Within [] [.deHit, .cycMean] (crossed n u)
          (((crossed n u).setFlag .deHit true n).setVar .cycMean (crossedMean u n (instant u at_)) n) :=
        (WithinAll.refl.setFlag (by decide)).setVar (by decide)
      refine ⟨(State.varB_congr (hmean.vars _ _ _ (by decide))).trans (crossed_zHold n u),
        (State.varB_congr (hmean.vars _ _ _ (by decide))).trans (crossed_deSeen n u),
        fun _ => ⟨(State.varB_congr (State.var_setVar_ne _ _ (by simp))).trans (State.varB_setFlag_self _ _ _ _ _),
          State.var_setVar_self _ _ _ _ _⟩,
        fun hshut => absurd hopen (by simp [hshut]), ?_⟩
      exact (hcrossed.mono (by simp) (by simp) (by decide)).trans (hmean.mono (by simp) (by simp) (by decide))
    · rw [if_neg hopen]
      exact ⟨crossed_zHold n u, crossed_deSeen n u, fun hopen' => absurd hopen' hopen, fun _ => hcrossed.vars _ _ _ (by decide),
        hcrossed.mono (by simp) (by simp) (by decide)⟩

end Sys2Proof.Machine
end

section
/-!
PROOFS. Statements of chapters 03 and 04 that fail, each with a state that the model runs to the refuting outcome.
-/

namespace Sys2Proof.Machine

/-! ## A move to a lower shed level shows the balance offsets (R129, R133) -/

/-- Rail 0 regulates at shed level 2 with its current below i_drop for 1,000 ticks. Its one phase has Cb 40, which rail[0].bal_offsets
shows; rail[0].bal_max has since come down to 8. -/
def balMaxLowered : State :=
  ((((((((State.reset.setO (Obj.railState 0) RS.regulating).setO (Obj.railShedEn 0) 1).setO (Obj.railShedLvl 0) 2).setO
    (Obj.railShedNph 0 1) 1).setO (Obj.phaseState 0) PS.switching).setVar .posPhase 1 0 0).setVar .cb 40 0).setO
    (Obj.railBalOffsets 0) 40).setO (Obj.railBalMax 0) 8 |>.setVar .shedDrop 1000 0

/-- The offset shown before the move is that of the old bound, and after it that of the bound in force (R129). -/
theorem balOffsets_balMaxLowered : balMaxLowered.o (Obj.railBalOffsets 0) = 40 ∧
    (toLevel 0 (instant balMaxLowered 7936) (balMaxLowered.oN (Obj.railShedLvl 0) - 1) balMaxLowered).o (Obj.railBalOffsets 0) = 8 := by
  decide +kernel

/-- Refutes O4 in its clause for SHED_MOVE_DOWN, whose frame leaves out rail[m].bal_offsets: a new switching set shows the offsets afresh,
and so under a bal_max that has applied since they were shown last. -/
theorem not_railComparatorEvents : ¬ Obligations.RailComparatorEvents := by
  unfold Obligations.RailComparatorEvents
  intro h
  obtain ⟨-, hdown, -⟩ := h balMaxLowered
  obtain ⟨t, ht, -, -, hframe⟩ := hdown 0 (by decide) (by decide +kernel) (by decide +kernel) (by decide +kernel)
  rw [exec, execShedMoveDown, if_pos (by decide +kernel)] at ht
  obtain rfl := Host.Outcome.next.inj ht
  have hsame := hframe.objs (Obj.railBalOffsets 0) (by decide) ?family
  case family =>
    simp only [List.mem_cons, List.not_mem_nil, or_false, forall_eq, Obj.railBalOffsets, Obj.phaseState, objKey]
    omega
  obtain ⟨hbefore, hafter⟩ := balOffsets_balMaxLowered
  rw [hbefore, hafter] at hsame
  exact absurd hsame (by decide)

/-! ## A loop update that ends the soft start (R122) -/

/-- Frame 7: rail 0 is in its soft start, Vramp has reached vset, and a loop update is due. -/
def softStartDone : State :=
  (((State.reset.setVar .now 7).setO (Obj.railState 0) RS.softStart).setVar .vramp (3200000 * 3200) 0).setVar .updCnt 4 0

/-- The rail enters its next state in this frame, and the frame of the entry is kept (R266). -/
theorem railSince_loopUpdate {t : State} (h : exec (.loopUpdate 0 0 6400 1 [12000]) softStartDone = .next t) :
    t.var .railSince 0 = 7 := by
  rw [exec, execLoopUpdate] at h
  rw [← Host.Outcome.next.inj ((if_pos (by decide +kernel)).symm.trans h)]
  decide +kernel

/-- Refutes O5 in its clause for LOOP_UPDATE, whose frame leaves out the frame of a rail's last entry into a state: the update that
finds Vramp at its goal ends the soft start. -/
theorem not_railStartAndLoopEvents : ¬ Obligations.RailStartAndLoopEvents := by
  unfold Obligations.RailStartAndLoopEvents
  intro h
  obtain ⟨-, -, hupdate, -⟩ := h softStartDone
  obtain ⟨t, ht, -, -, hframe⟩ := hupdate 0 0 6400 1 [12000] (by decide) (by decide +kernel) (by decide +kernel) (by decide)
    (by decide) (by decide +kernel)
  have hsame := (railSince_loopUpdate ht).symm.trans (hframe.vars .railSince 0 0 (by decide))
  exact absurd hsame (by decide +kernel)

/-! ## A patched minimum of phase[n].ilim (R21, R571) -/

/-- SETUP, with a patch of the rule ROM that raises the least value of phase[n].ilim to 10 A. -/
def ilimMinPatched : State := setupState.setVar .romMin (2 ^ 64 + 10000) (Obj.phaseIlim 0)

/-- A WRITE of 2 A to phase[5].ilim on SPI-A. -/
def ilimLowReq : Req :=
  { port := 0, opcode := 2, tid := 7, index := 0x1005, sub := 3, slot := 0, len := 4, counter := 0, tag := [], offset := 0,
    data := [0xD0, 0x07, 0, 0] }

theorem request_ilimLowReq : answered (request ilimLowReq {} ilimMinPatched) ilimLowReq .ok = false := by decide +kernel

/-- Refutes O50 in its clause for phase[n].ilim, which takes the range from 1 A to 250 A for the one in force: below a patched minimum
the write is out of range, whatever phase[n].ineg is. -/
theorem not_slopeBoundsChecked : ¬ Obligations.SlopeBoundsChecked := by
  unfold Obligations.SlopeBoundsChecked
  intro h
  obtain ⟨-, -, hilim⟩ := h ilimMinPatched
  obtain ⟨t, ht, hans, -⟩ := hilim ilimLowReq 5 2000 rfl (by decide +kernel) (by decide) (by decide +kernel) (by decide +kernel)
    rfl rfl (by decide +kernel) rfl (by decide +kernel) (by decide) (by decide) (by decide +kernel)
  obtain rfl : request ilimLowReq {} ilimMinPatched = t := Host.Outcome.next.inj ht
  exact absurd hans (by simp [request_ilimLowReq])

end Sys2Proof.Machine
end

section
/-!
PROOFS. A hiccup wait that expires on a device that takes no sequencer decisions (R143, R218, R285).
-/

namespace Sys2Proof.Machine

/-- The restart is a decision of the sequencer's: a device that takes none leaves the rail as it is (R218, R285). -/
theorem hiccupWaitExpiry_notDeciding {s : State} (r : Nat) (h : deciding s = false) : exec (.hiccupWaitExpiry r) s = .next s := by
  rw [exec, execHiccupWaitExpiry, h]
  rfl

/-- A STANDBY, as after a swap, whose channel 0 is as a hiccup reaction leaves a rail: on its way up again, with no start due. The wait
is at its end, and nothing refuses a start. -/
def hiccupInStandby : State :=
  ((((State.reset.setO Obj.teamRole Role.standby).setO (Obj.seqStall 20) 0).setO (Obj.seqState 20) SS.rising).setVar .scState
    RS.hiccup 0).setVar .hicT 1 20

/-- Refutes O7 in its clause for HICCUP_WAIT_EXPIRY, which does not ask that the device take sequencer decisions: on a STANDBY no
start falls due, for the holder of the token restarts the rail (R202, R218). -/
theorem not_railSequenceEvents : ¬ Obligations.RailSequenceEvents := by
  unfold Obligations.RailSequenceEvents
  intro h
  obtain ⟨-, -, -, -, -, -, -, hrestart, -⟩ := h hiccupInStandby
  obtain ⟨t, ht, -, hdue, -⟩ := hrestart 20 (by decide +kernel) (by decide +kernel) (by decide +kernel) (by decide +kernel)
    (by decide +kernel)
  rw [hiccupWaitExpiry_notDeciding 20 (by decide +kernel)] at ht
  obtain rfl := Host.Outcome.next.inj ht
  exact absurd hdue (by decide +kernel)

end Sys2Proof.Machine
end

section
/-!
PROOFS. A plausibility verdict on a STANDBY, which runs the detectors of a phase without acting (R162, R169, R186).
-/

namespace Sys2Proof.Machine

variable {s : State} {n : Nat}

/-- A tick that samples one phase on a device that decides no removals only withdraws that phase's detectors (R186). -/
theorem sampleDetectors_notHolder (m : Nat) (hholder : holder s = false) (hnow : s.varB .detNow n = false) :
    sampleDetectors m [n] s = ((s.setFlag .detOpen false n).setVar .detSense 0 n).setVar .detStage 0 n := by
  simp [sampleDetectors, hholder, coverPlan, State.forEach, hnow]

/-- A phase that this tick has raised nothing for has no open phase to withdraw (R167). -/
theorem withdrawOpen_of_detNow (hnow : s.varB .detNow n = false) : withdrawOpen n s = s := by
  have hzero : s.var .detNow n = 0 := by simpa [State.varB] using hnow
  simp [withdrawOpen, State.varN, hzero]

/-- The tick that gives a plausibility verdict samples it as well (R169), so that a STANDBY keeps none (R186). -/
theorem senseFailure_plausibility_notHolder {samples : List Int} {t : State} (hphase : phaseExists s n = true)
    (hrail : s.oN (Obj.phaseRail n) < 12) (hon : detectorsOn s (s.oN (Obj.phaseRail n)) = true)
    (hcrit : senseCriterion s (s.oN (Obj.phaseRail n)) n 2 samples = true) (hholder : holder s = false)
    (hnow : s.varB .detNow n = false) (h : exec (.senseFailure n 2 samples) s = .next t) : t.var .detSense n = 0 := by
  rw [exec, execSenseFailure, if_pos (by simp [hphase, hrail, hon, hcrit])] at h
  dsimp only at h
  rw [if_pos rfl, withdrawOpen_of_detNow, sampleDetectors_notHolder] at h
  · rw [← Host.Outcome.next.inj h, State.var_setVar_ne _ _ (by simp), State.var_setVar_self]
  · exact hholder
  all_goals simpa [State.varB, State.var_setVar] using hnow

/-- A STANDBY whose rail 0 regulates with phases 3, 4 and 5; phase 3 has disagreed with its peers in current and in ripple for as many
counting frames as pool[0].plaus_filt asks. -/
def implausibleOnStandby : State :=
  ((((((((State.reset.setO Obj.teamRole Role.standby).setO (Obj.railState 0) RS.regulating).setO (Obj.phaseState 3)
    PS.switching).setO (Obj.phaseState 4) PS.switching).setO (Obj.phaseState 5) PS.switching).setVar .posPhase 4 0 0).setVar
    .posPhase 5 0 1).setVar .posPhase 6 0 2).setO (Obj.phaseRail 3) 0 |>.setVar .plausCnt
    (State.reset.oN (Obj.poolPlausFilt 0)) 3

/-- Refutes O6 in its clause for SENSE_FAILURE, which has the verdict of every criterion stand until a later tick: that of the
plausibility criterion is sampled at once, and a device without the role token withdraws it there. -/
theorem not_phaseHealthEvents : ¬ Obligations.PhaseHealthEvents := by
  unfold Obligations.PhaseHealthEvents
  intro h
  obtain ⟨-, hsense, -⟩ := h implausibleOnStandby
  have hphase : phaseExists implausibleOnStandby 3 = true := by decide +kernel
  have hrail : implausibleOnStandby.oN (Obj.phaseRail 3) < 12 := by decide +kernel
  have hon : detectorsOn implausibleOnStandby (implausibleOnStandby.oN (Obj.phaseRail 3)) = true := by decide +kernel
  have hcrit : senseCriterion implausibleOnStandby (implausibleOnStandby.oN (Obj.phaseRail 3)) 3 2 [] = true := by decide +kernel
  obtain ⟨t, ht, hverdict, -⟩ := hsense 3 2 [] hphase hrail hon hcrit
  have hwithdrawn := senseFailure_plausibility_notHolder hphase hrail hon hcrit (by decide +kernel) (by decide +kernel) ht
  exact absurd (hverdict.symm.trans hwithdrawn) (by decide)

end Sys2Proof.Machine
end

section
/-!
PROOFS. A hold on YARD whose length is not a whole number of frames (R9, R216).
-/

namespace Sys2Proof.Machine

/-- A request on the yard line leaves the longest hold of the yard state as it was. -/
theorem varN_holdMax_setVar_yardReq (s : State) (v : Int) : (s.setVar .yardReq v).varN .holdMax = s.varN .holdMax :=
  congrArg Int.toNat (State.var_setVar_ne s v (by simp))

/-- A quantity that is set to a natural number reads that number. -/
theorem varN_setVar_self (s : State) (k : VarKind) (n : Nat) : (s.setVar k n).varN k = n :=
  congrArg Int.toNat (State.var_setVar_self s k n 0 0)

/-- A hold counts for yard.hold_max with its length in frames, to the nearest one (R9), and a longer one of the same yard state stands. -/
theorem yardHold_holdMax {s t : State} {low : Nat} (hon : s.mgtOn = true) (hover : 12000 < low) (hupto : low ≤ 1000000)
    (h : exec (.yardHold low) s = .next t) : t.varN .holdMax = max (s.varN .holdMax) (divNearest low 1000).toNat := by
  rw [exec, execYardHold, if_pos (by simp [hon, hover, hupto])] at h
  rw [← Host.Outcome.next.inj h, max_def_lt]
  simp only [apply_ite (State.varN · .holdMax), varN_holdMax_setVar_yardReq, varN_setVar_self, ite_self]

/-- Refutes O8 in its clause for YARD_HOLD, which drops the part of the low that is not a whole frame, where R9 takes the nearest code: a
hold of 12.501 µs counts as 13 frames and not as 12. -/
theorem not_yardEvents : ¬ Obligations.YardEvents := by
  unfold Obligations.YardEvents
  intro h
  obtain ⟨-, -, -, -, -, -, -, hhold, -⟩ := h State.reset
  have hon : State.reset.mgtOn = true := by decide +kernel
  obtain ⟨t, ht, hfloor, -⟩ := hhold 12501 hon (by decide) (by decide)
  have hnearest := yardHold_holdMax hon (by decide) (by decide) ht
  exact absurd (hfloor.symm.trans hnearest) (by decide +kernel)

end Sys2Proof.Machine
end

section
/-!
PROOFS. A quiet period that began before this device powered on, as a STANDBY takes it from its twin (R241, R250, R266).
-/

namespace Sys2Proof.Machine

/-- A class cleared without an acknowledgement posts nothing (R240, R241). -/
theorem clearClass_posts (src cls : Nat) (s : State) : (clearClass src cls false s).posts = s.posts := by
  simp [clearClass, showLevel, apply_ite State.posts, State.setBit, State.setFlag]

/-- Clearing every uncleared class of a source at the end of its quiet period posts nothing. -/
theorem clearClasses_posts (src n : Nat) (s : State) :
    (s.forRange n fun c u => if u.bit (Obj.srcUncleared src) c then clearClass src c false u else u).posts = s.posts :=
  forRange_keeps (P := fun u => u.posts = s.posts) rfl fun c u hu => by
    split
    · exact (clearClass_posts src c u).trans hu
    · exact hu

/-- A quiet period that is over posts source 26: the round in which it began counts as it stands, one before the power-on too. -/
theorem quietPeriodExpiry_posts {src : Nat} {s t : State} (hsrc : src < 256) (huncleared : s.o (Obj.srcUncleared src) ≠ 0)
    (habsent : s.o (Obj.srcCond src) = 0) (hquiet : restartsQuiet src s = false)
    (hover : s.var .quietStart src + s.o (Obj.srcQuiet src) * 1000 ≤ s.nowRound)
    (h : exec (.quietPeriodExpiry src) s = .next t) : t.posts = s.posts ++ [26] := by
  rw [exec, execQuietPeriodExpiry, if_pos (by simp [hsrc, huncleared, habsent, hquiet, hover])] at h
  rw [← Host.Outcome.next.inj h]
  simp only [State.record_posts, State.post_posts, State.bump, State.setO_posts, showDevice, clearClasses_posts]

/-- A STANDBY 20,000 rounds after its power-on, which takes in two marshal deltas of its twin, 100,000 rounds after that one's: classes 0
and 1 of source 5 are uncleared, and their quiet period runs since the twin's round 30,000. -/
def quietOlderThanPowerOn : State :=
  acceptDeltas 100000000 0 [⟨0x11, 5, 3⟩, ⟨0x13, 5, 64 + 256 * 30000⟩]
    ((State.reset.setO Obj.teamRole Role.standby).setVar .nowRound 20000)

/-- The quiet period began 50,000 rounds before the STANDBY's power-on, and its 60,000 rounds are over. -/
theorem quietStart_quietOlderThanPowerOn : quietOlderThanPowerOn.var .quietStart 5 = -50000 := by decide +kernel

/-- Refutes O11 in its clause for a QUIET_PERIOD_EXPIRY that changes nothing, which counts a quiet period that began before the power-on
from the power-on: a STANDBY has the timer of its twin (R250), and the period is over after src[s].quiet all the same. -/
theorem not_marshalEvents : ¬ Obligations.MarshalEvents := by
  unfold Obligations.MarshalEvents
  intro h
  obtain ⟨-, -, -, hrunning, -⟩ := h quietOlderThanPowerOn
  obtain ⟨t, ht, hsame⟩ := hrunning 5 (.inr (.inr (.inr (.inr (by decide +kernel)))))
  have hover : quietOlderThanPowerOn.var .quietStart 5 + quietOlderThanPowerOn.o (Obj.srcQuiet 5) * 1000 ≤
      quietOlderThanPowerOn.nowRound := by
    rw [quietStart_quietOlderThanPowerOn]
    decide +kernel
  have hposts := quietPeriodExpiry_posts (by decide) (by decide +kernel) (by decide +kernel) (by decide +kernel) hover ht
  rw [hsame] at hposts
  exact absurd hposts (by simp)

end Sys2Proof.Machine
end

section
/-!
PROOFS. Statements of chapters 08 and 19 that fail, each with a state that the model runs to the refuting outcome.
-/

namespace Sys2Proof.Machine

/-! ## Sending again while a harness loop-back runs (R267, R579) -/

/-- While a harness loop-back runs the device sends no mirror frame, and no entry again (R579). -/
theorem deltaResend_loopback {s : State} (h : s.oN Obj.testActive = 8) : exec .deltaResend s = .next s := by
  rw [exec, execDeltaResend]
  split
  · exact if_neg (by simp [h])
  · rfl

/-- The first identity entry that a holder sends to the twin it admits, in frame 0. -/
def identityEntry : SentDelta := ⟨0, 0, ⟨0x06, 0, 0⟩⟩

/-- Frame 6: a SOLO holder that admits its twin runs the remote harness loop-back, with an entry of frame 0 still uncovered. -/
def admittingInLoopback : State :=
  { (((((State.reset.setO Obj.teamEn 1).setO Obj.teamRole Role.solo).setO Obj.teamAdmState 1).setO (Obj.lbDepth 8) 2).setO
      Obj.testActive 8).setVar .now 6 with
    dsent := [identityEntry] }

/-- Refutes O13 in its clause for DELTA_RESEND, which does not ask that no harness loop-back run: while one does, hl.resends is not
incremented (R579). -/
theorem not_teamLinkEvents : ¬ Obligations.TeamLinkEvents := by
  unfold Obligations.TeamLinkEvents
  intro h
  obtain ⟨hresend, -⟩ := h admittingInLoopback
  obtain ⟨t, ht, -, hcount, -⟩ := hresend identityEntry [] rfl (by decide +kernel) (by decide +kernel) (by decide +kernel)
  rw [deltaResend_loopback (by decide +kernel)] at ht
  obtain rfl := Host.Outcome.next.inj ht
  exact absurd hcount (by decide +kernel)

/-! ## A swap that fails with an on request latched (R210, R285) -/

/-- A holder that resumes in yard state 0 with an on request latched takes that up: alone in its yard it goes to state 1 (R210, R213). -/
theorem resumeLatched_alone {s : State} (hdec : deciding s = true) (hlatched : s.bit Obj.sequencerPending 0 = true)
    (hdown : yardAt s = 0) (hst : s.oN Obj.sequencerState ≠ 5) (hgo : s.varB .yardGo = false) (hrun : s.mode = .run)
    (halone : yardAlone s = true) : resumeLatched s = goYard 1 (s.setVar .upCause 2) := by
  have halone' : yardAlone (s.setVar .upCause 2) = true := halone
  have hat : yardAt (s.setVar .upCause 2) = 0 := hdown
  rw [resumeLatched, if_pos (by simp [hdec, hlatched, hdown, hst, hgo, hrun]), raiseRequest_alone 2 halone', hat]

/-- What a swap leaves that has not been drained in time: its request is cleared, and class 0x01 of source 147 raised (R285). -/
def swapFailed (s : State) : State :=
  ((s.raiseAction 147 1 (u8 1 ++ u8 (s.var .swapTo - 1))).setVar .swapOn 0).setVar .swapReq 0

theorem exec_swapTimeout {s : State} (hswap : s.varB .swapOn = true) (hholder : holder s = true) (hyield : s.varB .yieldOn = false)
    (hover : s.varN .swapAt + 32 ≤ s.now) : exec .swapTimeout s = .next (resumeLatched (swapFailed s)) := by
  rw [exec, execSwapTimeout, if_pos (by simp [hswap, hholder, hyield, hover])]
  rfl

/-- RUN, 32 frames after a swap toward position 1 began on an ACTIVE device alone in its yard, with an on request latched in state 0. -/
def latchedInSwap : State :=
  ((((((State.reset.setO Obj.sysMode 4).setO Obj.teamRole Role.active).setBit Obj.sequencerPending 0 true).setO Obj.yardMembers
    1).setVar .swapOn 3).setVar .swapTo 2).setVar .now 32

/-- Refutes O14 in its clause for SWAP_TIMEOUT, whose frame leaves out the decision of a yard state: the holder resumes, and with an on
request latched in yard state 0 that is a power-up. -/
theorem not_tokenEvents : ¬ Obligations.TokenEvents := by
  unfold Obligations.TokenEvents
  intro h
  obtain ⟨-, -, -, -, -, -, -, -, -, htimeout, -⟩ := h latchedInSwap
  have hswap : latchedInSwap.varB .swapOn = true := by decide +kernel
  have hholder : holder latchedInSwap = true := by decide +kernel
  have hyield : latchedInSwap.varB .yieldOn = false := by decide +kernel
  have hover : latchedInSwap.varN .swapAt + 32 ≤ latchedInSwap.now := by decide +kernel
  obtain ⟨t, ht, -, -, -, hframe⟩ := htimeout hswap hholder hyield hover
  rw [exec_swapTimeout hswap hholder hyield hover, resumeLatched_alone (by decide +kernel) (by decide +kernel) (by decide +kernel)
    (by decide +kernel) (by decide +kernel) (by decide +kernel) (by decide +kernel)] at ht
  obtain rfl := Host.Outcome.next.inj ht
  have hsame := hframe.vars .yardGo 0 0 (by decide)
  rw [goYard, State.var_setVar_ne _ _ (by decide), State.var_setVar_self] at hsame
  exact absurd hsame (by decide +kernel)

/-! ## A transaction that raises the grant (R270, R545) -/

theorem setTokens_vars (k v : Nat) (s : State) : (setTokens k v s).vars = s.vars := by
  unfold setTokens
  split_ifs <;> rfl

/-- A transaction that raises the grant is recorded as it is applied, and waits for its record no more (R270, R545). -/
theorem txApply_grantTx {s : State} (h : s.varN .grantTx = 2) : (txApply s).var .grantTx = 0 := by
  unfold txApply
  extract_lets u v w
  have hvars : v.vars = s.vars := foldl_keeps (P := fun x => x.vars = s.vars) rfl fun e x hx => (setTokens_vars e.1 e.2 x).trans hx
  have hkept : w.var .grantTx = s.var .grantTx := by
    have hasked : RegsWithin [Obj.budgetGen, Obj.budgetAllocated] [] [.wbAgain] v w :=
      ((RegsWithin.refl.bump (by simp)).setO (by simp)).setFlag (by simp)
    rw [hasked.vars .grantTx 0 0 (by decide), State.var, hvars, ← State.var]
  rw [if_pos (by rw [State.varN, hkept, ← State.varN, h]), grantRecord, State.var_record, State.var_setVar_self]

theorem exec_ledgerTransactionApply {s : State} (htx : s.ledTx ≠ []) (hactive : role s = Role.active) (hcovered : txCovered s = true) :
    exec .ledgerTransactionApply s = .next (txApply s) := by
  rw [exec, execLedgerTransactionApply, if_pos (by simp [htx, hactive, hcovered])]

/-- An ACTIVE device that has raised the grant to 1,000 tokens, the free pool with it, once its twin has acknowledged the transaction. -/
def grantRiseCovered : State :=
  { (State.reset.setO Obj.teamRole Role.active).setVar .grantTx 2 with ledTx := [(0xFE, 1000), (0xFF, 1000)] }

/-- Refutes O18 in its first clause for LEDGER_TRANSACTION_APPLY, whose frame leaves out the mark of a rise of the grant that is still to
be recorded: the transaction that applies the rise clears it. -/
theorem not_ledgerEvents : ¬ Obligations.LedgerEvents := by
  unfold Obligations.LedgerEvents
  intro h
  obtain ⟨happly, -⟩ := h grantRiseCovered
  have htx : grantRiseCovered.ledTx ≠ [] := by decide
  have hactive : role grantRiseCovered = Role.active := by decide +kernel
  have hcovered : txCovered grantRiseCovered = true := by decide +kernel
  obtain ⟨t, ht, -, -, -, -, hframe⟩ := happly htx (.inr ⟨hactive, hcovered⟩)
  rw [exec_ledgerTransactionApply htx hactive hcovered] at ht
  obtain rfl := Host.Outcome.next.inj ht
  have hsame := hframe.vars .grantTx 0 0 (by decide)
  rw [txApply_grantTx (by decide +kernel)] at hsame
  exact absurd hsame (by decide +kernel)

/-! ## A swap toward the position at which the holder acts (R258, R285) -/

/-- A holder that is told to swap toward the position at which it acts stays the holder (R258, R285). -/
theorem teamSwap_ownPosition {s : State} {v : Nat} (hv : v < 2) (hteam : teamed s = true)
    (htwin : s.oN Obj.teamTwinRole = Role.standby ∨ s.oN Obj.teamTwinRole = Role.active) (hholder : holder s = true)
    (hown : v = position s) : teamSwap v s = (.ok, s.raiseActionLater 147 0 (u8 2 ++ u8 v)) := by
  rw [teamSwap, if_neg (by omega), if_neg (by rw [hteam]; simpa using or_iff_not_imp_left.1 htwin), if_pos hholder, if_pos hown]

theorem commandA_teamSwap (p v : Nat) (s : State) : commandA p Obj.teamSwap v s = some (teamSwap v s) := rfl

/-- Where an accepted team.swap names the position at which the holder acts, no swap starts. -/
theorem request_teamSwap_ownPosition {s : State} {c : Keyed} {v : Byte} (h : keyedOk s c Obj.teamSwap = true) (hdata : c.data = [v])
    (hv : v.toNat < 2) (hteam : teamed s = true)
    (htwin : s.oN Obj.teamTwinRole = Role.standby ∨ s.oN Obj.teamTwinRole = Role.active) (hholder : holder s = true)
    (hown : v.toNat = position s) : (request (keyedReq c Obj.teamSwap) {} s).var .swapOn = s.var .swapOn := by
  have hp := keyedOk_port h
  have hreached := atCommand_keyedFrame (s := s) (c := c) Obj.teamSwap hp
  have hobj {k : Nat} (hreq : k ∉ requestKeys) (hline : k ∉ lineKeys) (hslot : k < 0x400000) :
      (atCommand c Obj.teamSwap s).oN k = s.oN k := atCommand_oN hp hreq hline hslot
  have hposition : position (atCommand c Obj.teamSwap s) = position s := by
    rw [position, State.varB, State.varN, hreached.vars .posConf 0 0 (by decide), hreached.vars .effPos 0 0 (by decide),
      hobj (by decide) (by decide) (by decide), ← State.varB, ← State.varN, ← position]
  have hcmd := teamSwap_ownPosition (s := atCommand c Obj.teamSwap s) hv (by rw [atCommand_teamed _ hp, hteam])
    (by rw [hobj (by decide) (by decide) (by decide)]; exact htwin)
    (by rw [holder, hobj (by decide) (by decide) (by decide), ← holder, hholder]) (by rw [hposition, hown])
  obtain ⟨-, hend⟩ := keyedOk_command h (by decide +kernel) (by decide) (by decide)
    (by rw [show grouped Obj.teamSwap = false by decide +kernel, Bool.and_false]) hdata
    ((commandA_teamSwap c.port v.toNat _).trans (congrArg some hcmd)) (atCommand_o hp (by decide) (by decide) (by decide))
  rw [hend.vars .swapOn 0 0 (by decide), State.var_raiseActionLater, hreached.vars .swapOn 0 0 (by decide)]

/-- SETUP with slot 0 enrolled: an ACTIVE device whose TPOS gives position 1, like its twin's, and which acts as position 0 for its lower
id.uid. -/
def actsAsPosition0 : State :=
  (((((enrolled.setO Obj.teamEn 1).setO Obj.teamRole Role.active).setO Obj.teamTwinRole Role.standby).setO Obj.teamPosition 1).setVar
    .posConf 1).setVar .effPos 0

/-- The keyed write of team.swap that names position 0. -/
def swapToPosition0 : Keyed := signed Obj.teamSwap [0]

theorem keyedOk_swapToPosition0 : keyedOk actsAsPosition0 swapToPosition0 Obj.teamSwap = true :=
  keyedOk_signed _ _ _ (by decide +kernel) (by decide +kernel) (by decide +kernel) (by decide +kernel)

/-- Refutes O39 in its first clause for TEAM_SWAP, which takes the position that TPOS gives for the one at which the device acts: under a
position conflict a swap toward the latter has no effect. -/
theorem not_keyedTeamAndInputWrites : ¬ Obligations.KeyedTeamAndInputWrites := by
  unfold Obligations.KeyedTeamAndInputWrites
  intro h
  obtain ⟨hswap, -⟩ := h actsAsPosition0
  have hteam : teamed actsAsPosition0 = true := by decide +kernel
  have htwin : actsAsPosition0.oN Obj.teamTwinRole = Role.standby := by decide +kernel
  have hholder : holder actsAsPosition0 = true := by decide +kernel
  obtain ⟨t, ht, -, -, hstarted, -⟩ := hswap 0 swapToPosition0 keyedOk_swapToPosition0 rfl rfl (by decide) hteam (.inl htwin)
    hholder (by decide +kernel)
  obtain rfl : request (keyedReq swapToPosition0 Obj.teamSwap) {} actsAsPosition0 = t := Host.Outcome.next.inj ht
  rw [request_teamSwap_ownPosition keyedOk_swapToPosition0 rfl (by decide) hteam (.inl htwin) hholder (by decide +kernel)] at hstarted
  exact absurd hstarted (by decide +kernel)

end Sys2Proof.Machine
end

section
/-!
PROOFS. Trips that meet in one frame: a sense fault that qualifies as the inrush ends at hs.inrush_max (R303, R304, R307).
-/

namespace Sys2Proof.Machine

/-- Where a sense fault qualifies, its trip comes first, as a breaker trip does: the inrush timeout of that tick does not trip (R304, R307). -/
theorem inrushTimeout_senseFault {s : State} (h : s.metCond .hsSense 8 = true) : exec .inrushTimeout s = .next s := by
  rw [exec, execInrushTimeout]
  exact if_neg (by simp [h])

/-- A tick in RUN: an inrush whose hs.inrush_max rounds are over, as the shunt voltage reads −10.001 mV for the 8th tick. -/
def senseFaultAtTimeout : State :=
  hsTick (((((((State.reset.setO Obj.sysMode 4).setVar .mainOn 1).setVar .hsActive 1).setO Obj.hsState HS.inrush).setVar .hsT
    1).setVar .hsSense 7).setPin .hsShunt (-10001))

/-- Refutes O9 in its clause for INRUSH_TIMEOUT, which does not ask that no sense fault qualify at the same tick: that one trips as a
breaker trip, before the timeout, and INRUSH_TIMEOUT counts no trip. -/
theorem not_insertionEvents : ¬ Obligations.InsertionEvents := by
  unfold Obligations.InsertionEvents
  intro h
  obtain ⟨-, -, -, -, -, -, -, -, -, -, -, htimeout, -⟩ := h senseFaultAtTimeout
  obtain ⟨t, ht, -, htrips, -⟩ := htimeout (by decide +kernel) (by decide +kernel) (by decide +kernel) (by decide +kernel)
    (by decide +kernel)
  rw [inrushTimeout_senseFault (by decide +kernel)] at ht
  obtain rfl := Host.Outcome.next.inj ht
  exact absurd htrips (by decide +kernel)

end Sys2Proof.Machine
end

section
/-!
PROOFS. The VIN_MGT monitor: what holdup preparation leaves, and what its four events do (R309 to R312).
-/

namespace Sys2Proof.Machine

/-! ## Counters and conditions -/

/-- A counter is counted from its own value alone. -/
theorem State.bump_congr {s t : State} {k w : Nat} (h : t.o k = s.o k) : (t.bump k w).o k = (s.bump k w).o k := by
  simp [State.bump, h]

/-- A class that is off stays off as another of its source ends. -/
theorem State.condOff_condOn_of_off {s : State} {a c : Nat} (d : Nat) (h : s.condOn a c = false) :
    (s.condOff a d).condOn a c = false := by
  by_cases hd : c = d
  · rw [hd]; exact s.condOff_condOn a d
  · unfold State.condOff
    split
    · rw [State.condOn, State.bit_setBit, if_neg hd]; exact h
    · exact h

@[simp] theorem State.condOff_posts (s : State) (a c : Nat) : (s.condOff a c).posts = s.posts := by
  unfold State.condOff; split <;> rfl

@[simp] theorem State.condOff_offers (s : State) (a c : Nat) : (s.condOff a c).offers = s.offers := by
  unfold State.condOff; split <;> rfl

/-- The end of a condition changes no other object than the one that shows it. -/
theorem State.o_condOff_ne {s : State} {a c k : Nat} (h : k ≠ Obj.srcCond a) : (s.condOff a c).o k = s.o k :=
  (WithinAll.refl (fs := []) (vs := [])).condOff (List.mem_singleton_self _) |>.objs k (by simpa using h) (by simp)

/-! ## Holdup preparation (R310) -/

theorem commitAsk_within (s : State) : Within [] [.commitReq, .commitReqRound] s (commitAsk s) :=
  .ite .refl ((WithinAll.refl.setFlag (by simp)).setVar (by simp))

theorem prepStart_within (s : State) : Within [Obj.mgtPrep] [.commitReq, .commitReqRound] s (prepStart s) := by
  have harm : Within [Obj.mgtPrep] [.commitReq, .commitReqRound] s (s.setBit Obj.mgtPrep 0 true) := WithinAll.refl.setBit (by simp)
  exact .ite .refl (.ite ((harm.trans ((commitAsk_within _).mono (by simp) (by simp) (by simp))).setBit (by simp))
    (harm.setBit (by simp)))

/-- Once preparation has started, the pack path is armed. -/
theorem prepStart_armed (s : State) : (prepStart s).bit Obj.mgtPrep 0 = true := by
  have hask (u : State) : (commitAsk u).bit Obj.mgtPrep 0 = u.bit Obj.mgtPrep 0 :=
    bit_congr ((commitAsk_within u).objs _ (by simp) (by simp)) 0
  unfold prepStart
  split
  · assumption
  · dsimp only
    split <;> simp [State.bit_setBit, hask]

/-! ## The warning (R309) -/

/-- A dip of VIN_MGT below VWARN has qualified. -/
def dipBegun (s : State) : State :=
  let u := (s.setO Obj.mgtState 1).bump Obj.mgtDips
  (u.setO Obj.mgtVmin (u.o Obj.mgtVin)).setVar .mgtAt u.now

theorem exec_vinMgtWarning {s : State} (hnormal : s.oN Obj.mgtState = 0)
    (hmet : s.metCond .mgtWarn (s.oN Obj.mgtVwarnFilt) = true) :
    ∃ data, exec .vinMgtWarning s = .next ((prepStart (dipBegun s)).raise 105 0 data) := by
  rw [exec, execVinMgtWarning, if_pos (by simp [hnormal, hmet])]
  exact ⟨_, rfl⟩

theorem dipBegun_within (s : State) : Within [Obj.mgtState, Obj.mgtDips, Obj.mgtVmin] [.mgtAt] s (dipBegun s) :=
  (((WithinAll.refl.setO (by simp)).bump (by simp)).setO (by simp)).setVar (by simp)

theorem dipBegun_state (s : State) : (dipBegun s).o Obj.mgtState = 1 := by
  rw [dipBegun, State.o_setVar, State.o_setO_ne _ _ (by decide), State.bump, State.o_setO_ne _ _ (by decide), State.o_setO_self]

theorem dipBegun_dips (s : State) : (dipBegun s).o Obj.mgtDips = (s.bump Obj.mgtDips).o Obj.mgtDips := by
  rw [dipBegun, State.o_setVar, State.o_setO_ne _ _ (by decide), State.bump_congr (State.o_setO_ne _ _ (by decide))]

theorem dipBegun_vmin (s : State) : (dipBegun s).o Obj.mgtVmin = s.o Obj.mgtVin := by
  rw [dipBegun, State.o_setVar, State.o_setO_self, State.bump, State.o_setO_ne _ _ (by decide), State.o_setO_ne _ _ (by decide)]

theorem exec_vinMgtWarningEnd {s : State} (hwarning : s.oN Obj.mgtState = 1)
    (hmet : s.metCond .mgtRec (s.oN Obj.mgtRecTime) = true) :
    exec .vinMgtWarningEnd s = .next (((prepEnd (s.record 0x0605
      (u16 (s.o Obj.mgtVmin) ++ u32 (s.now - s.varN .mgtAt : Nat) ++ u8 (s.o Obj.mgtPrep)))).setO Obj.mgtState 0).condOff 105 0) := by
  rw [exec, execVinMgtWarningEnd, if_pos (by simp [hwarning, hmet])]

/-! ## Loss and return of the main input (R311, R312) -/

/-- VIN_MGT has fallen below VRST. -/
def inputLost (s : State) : State :=
  ((((s.setO Obj.mgtState 2).bump Obj.mgtLosses).setVar .mgtLostAt s.now).setVar .mgtValidAt 0).setVar .mgtRec 0

theorem exec_mainInputLost {s : State} {v : Nat} (hv : v < 4200) (hstate : s.oN Obj.mgtState ≠ 2) (hon : s.mgtOn = true) :
    ∃ data, exec (.mainInputLost v) s = .next ((prepStart (inputLost s)).raiseLater 105 1 data) := by
  rw [exec, execMainInputLost, if_pos (by simp [hv, hstate, hon])]
  exact ⟨_, rfl⟩

theorem inputLost_within (s : State) :
    Within [Obj.mgtState, Obj.mgtLosses] [.mgtLostAt, .mgtValidAt, .mgtRec] s (inputLost s) :=
  ((((WithinAll.refl.setO (by simp)).bump (by simp)).setVar (by simp)).setVar (by simp)).setVar (by simp)

theorem inputLost_state (s : State) : (inputLost s).o Obj.mgtState = 2 := by
  simp only [inputLost, State.o_setVar]
  rw [State.bump, State.o_setO_ne _ _ (by decide), State.o_setO_self]

theorem inputLost_losses (s : State) : (inputLost s).o Obj.mgtLosses = (s.bump Obj.mgtLosses).o Obj.mgtLosses :=
  State.bump_congr (State.o_setO_ne _ _ (by decide))

/-- What a valid main input leaves of a loss: preparation has ended, and the state is normal. -/
def inputBack (s : State) : State := ((prepEnd s).setO Obj.mgtState 0).setFlag .mgtEver true

theorem exec_mainInputValid {s : State} (hlost : s.oN Obj.mgtState = 2) (hvalid : s.varB .mgtRec = true) :
    ∃ data, exec .mainInputValid s = .next ((((inputBack (s.record 0x0607 data)).condOff 105 0).condOff 105 1).post 44) := by
  rw [exec, execMainInputValid, if_pos (by simp [hlost, hvalid])]
  exact ⟨_, rfl⟩

theorem inputBack_within (s : State) : Within [Obj.mgtState, Obj.mgtPrep] [.mgtEver] s (inputBack s) :=
  ((WithinAll.refl.setO (by simp)).setO (by simp)).setFlag (by simp)

theorem inputBack_state (s : State) : (inputBack s).o Obj.mgtState = 0 := by
  rw [inputBack, State.setFlag, State.o_setVar, State.o_setO_self]

theorem inputBack_prep (s : State) : (inputBack s).o Obj.mgtPrep = 0 := by
  rw [inputBack, State.setFlag, State.o_setVar, State.o_setO_ne _ _ (by decide), prepEnd, State.o_setO_self]

/-- Settles O10: each event's hypotheses are the conditions of its command; preparation, which a warning and a loss start, writes no object
but mgt.prep. -/
theorem inputMonitorEvents : Obligations.InputMonitorEvents := by
  unfold Obligations.InputMonitorEvents
  intro s
  refine ⟨?warning, ?warningEnd, ?lost, ?valid⟩
  case warning =>
    intro hnormal hmet
    obtain ⟨data, hexec⟩ := exec_vinMgtWarning hnormal hmet
    have hafter : Within [Obj.mgtPrep, Obj.srcCond 105] [.commitReq, .commitReqRound] (dipBegun s)
        ((prepStart (dipBegun s)).raise 105 0 data) :=
      ((prepStart_within _).mono (by simp) (by simp) (by simp)).raise (by simp)
    have hraised : Within [Obj.srcCond 105] [] (prepStart (dipBegun s)) ((prepStart (dipBegun s)).raise 105 0 data) :=
      WithinAll.refl.raise (by simp)
    refine ⟨_, hexec, ?_, ?_, ?_, ?_, State.raise_condOn _ _ _ _, ?_⟩
    · exact (hafter.objs _ (by decide) (by simp)).trans (dipBegun_state s)
    · exact (hafter.objs _ (by decide) (by simp)).trans (dipBegun_dips s)
    · exact (hafter.objs _ (by decide) (by simp)).trans (dipBegun_vmin s)
    · exact (bit_congr (hraised.objs _ (by decide) (by simp)) 0).trans (prepStart_armed _)
    · exact ((dipBegun_within s).mono (by simp) (by simp) (by simp)).trans (hafter.mono (by simp) (by simp) (by simp))
  case warningEnd =>
    intro hwarning hmet
    refine ⟨_, exec_vinMgtWarningEnd hwarning hmet, ?_, ?_, State.condOff_condOn _ _ _, State.condOff_offers _ _ _, ?_⟩
    · rw [State.o_condOff_ne (by decide), State.o_setO_self]
    · rw [State.o_condOff_ne (by decide), State.o_setO_ne _ _ (by decide), prepEnd, State.o_setO_self]
    · exact ((WithinAll.refl.record.setO (by simp)).setO (by simp)).condOff (by simp)
  case lost =>
    intro v hv hstate hon
    obtain ⟨data, hexec⟩ := exec_mainInputLost hv hstate hon
    have hafter : Within [Obj.mgtPrep, Obj.srcCond 105] [.commitReq, .commitReqRound] (inputLost s)
        ((prepStart (inputLost s)).raiseLater 105 1 data) :=
      ((prepStart_within _).mono (by simp) (by simp) (by simp)).raiseLater (by simp)
    have hraised : Within [Obj.srcCond 105] [] (prepStart (inputLost s)) ((prepStart (inputLost s)).raiseLater 105 1 data) :=
      WithinAll.refl.raiseLater (by simp)
    refine ⟨_, hexec, ?_, ?_, ?_, State.raiseLater_condOn _ _ _ _, ?_⟩
    · exact (hafter.objs _ (by decide) (by simp)).trans (inputLost_state s)
    · exact (hafter.objs _ (by decide) (by simp)).trans (inputLost_losses s)
    · exact (bit_congr (hraised.objs _ (by decide) (by simp)) 0).trans (prepStart_armed _)
    · exact ((inputLost_within s).mono (by simp) (by simp) (by simp)).trans (hafter.mono (by simp) (by simp) (by simp))
  case valid =>
    intro hlost hvalid
    obtain ⟨data, hexec⟩ := exec_mainInputValid hlost hvalid
    have hended : Within [Obj.srcCond 105] [] (inputBack (s.record 0x0607 data))
        ((((inputBack (s.record 0x0607 data)).condOff 105 0).condOff 105 1).post 44) :=
      ((WithinAll.refl.condOff (by simp)).condOff (by simp)).post
    refine ⟨_, hexec, ?_, ?_, State.condOff_condOn_of_off 1 (State.condOff_condOn _ _ _), State.condOff_condOn _ _ _, ?_, ?_, ?_⟩
    · exact (hended.objs _ (by decide) (by simp)).trans (inputBack_state _)
    · exact (hended.objs _ (by decide) (by simp)).trans (inputBack_prep _)
    · rw [State.post_posts, State.condOff_posts, State.condOff_posts]
      rfl
    · exact (State.varB_congr (hended.vars .mgtEver 0 0 (by simp))).trans (State.varB_setFlag_self _ _ _ _ _)
    · exact ((WithinAll.refl.record.trans (inputBack_within _)).mono (by simp) (by simp) (by simp)).trans
        (hended.mono (by simp) (by simp) (by simp))

end Sys2Proof.Machine
end

section
/-!
PROOFS. The charger: the end of an input-limit search, the entry of a charge phase, and what a tick makes of a phase that the frame
before it has decided (R328 to R334, R359).
-/

namespace Sys2Proof.Machine

/-! ## What a tick or a search adds to the state's own operations -/

@[simp] theorem State.countCond_posts (s : State) (k : VarKind) (c : Bool) (i j : Nat) : (s.countCond k c i j).posts = s.posts := by
  unfold State.countCond; split <;> rfl

theorem State.oN_congr {s t : State} {k : Nat} (h : t.o k = s.o k) : t.oN k = s.oN k := congrArg Int.toNat h

/-- An object that is set to a natural number reads that number. -/
theorem State.oN_setO_self (s : State) (k n : Nat) : (s.setO k n).oN k = n := congrArg Int.toNat (s.o_setO_self k n)

theorem State.metCond_of_le {s : State} {k : VarKind} {n : Nat} (hpos : 1 ≤ n) (h : n ≤ s.varN k) : s.metCond k n = true := by
  rw [State.metCond, Nat.max_eq_left hpos, decide_eq_true h]

theorem packRaise_within (src cls : Nat) (data : List Byte) (s : State) : Within [] [] s (packRaise src cls data s) :=
  .ite WithinAll.refl.raiseAction .refl

/-- A source of the pack raises its event where a pack is configured (R318). -/
theorem packRaise_intake (src cls : Nat) (data : List Byte) (s : State) :
    (packRaise src cls data s).intake = s.intake ++ (if packEn s then [⟨src, cls, data, false⟩] else []) := by
  unfold packRaise
  split
  · rfl
  · exact (List.append_nil _).symm

/-! ## The end and the start of a search (R330) -/

/-- Record data of 0x0709: the limit found, where the source sagged to `mv`. -/
def searchData (mv : Int) (s : State) : List Byte :=
  u8 (s.o Obj.pwrIlimSrc) ++ u16 (s.o Obj.pwrIlimIn) ++ u16 (cV mv) ++ u16 (s.var .searchSteps)

/-- A search that no longer runs, with its interrupt posted. -/
def searchStopped (s : State) : State := ((s.setBit Obj.pwrFlags 6 false).stopT .searchT).post 55

theorem searchStopped_within (s : State) : Within [Obj.pwrFlags] [.searchT] s (searchStopped s) :=
  ((WithinAll.refl.setBit (by simp)).stopT (by simp)).post

theorem searchEnd_eq (mv : Int) (s : State) :
    searchEnd mv s = if s.o Obj.pwrIlimIn < 500 then (searchStopped s).raiseAction 168 0 (searchData mv s)
      else (searchStopped s).record 0x0709 (searchData mv s) := by
  have hlim : (searchStopped s).o Obj.pwrIlimIn = s.o Obj.pwrIlimIn := (searchStopped_within s).objs _ (by decide) (by simp)
  have hsrc : (searchStopped s).o Obj.pwrIlimSrc = s.o Obj.pwrIlimSrc := (searchStopped_within s).objs _ (by decide) (by simp)
  have hsteps : (searchStopped s).var .searchSteps = s.var .searchSteps := (searchStopped_within s).vars _ 0 0 (by decide)
  rw [searchData, ← hlim, ← hsrc, ← hsteps]
  rfl

theorem searchEnd_within (mv : Int) (s : State) : Within [Obj.pwrFlags] [.searchT] s (searchEnd mv s) := by
  rw [searchEnd_eq]
  exact .ite (searchStopped_within s).raiseAction (searchStopped_within s).record

/-- What the end of a search leaves. -/
structure SearchEnded (mv : Int) (s t : State) : Prop where
  off : t.bit Obj.pwrFlags 6 = false
  timer : t.var .searchT = 0
  posts : t.posts = s.posts ++ [55]
  found : 500 ≤ s.o Obj.pwrIlimIn → t.offers = s.offers ++ [⟨0x0709, searchData mv s, false⟩]
  low : s.o Obj.pwrIlimIn < 500 → t.intake = s.intake ++ [⟨168, 0, searchData mv s, false⟩]

theorem searchEnd_ended (mv : Int) (s : State) : SearchEnded mv s (searchEnd mv s) := by
  have hoff : (searchStopped s).bit Obj.pwrFlags 6 = false := State.bit_setBit s Obj.pwrFlags 6 6 false
  have htimer : (searchStopped s).var .searchT = 0 := State.var_setVar_self _ .searchT 0 0 0
  rw [searchEnd_eq]
  split
  case isTrue hlow => exact ⟨hoff, htimer, rfl, fun h => absurd hlow (by omega), fun _ => rfl⟩
  case isFalse hfound => exact ⟨hoff, htimer, rfl, fun _ => rfl, fun h => absurd h hfound⟩

theorem searchStart_within (cap : Int) (s : State) :
    Within [Obj.pwrIlimIn, Obj.pwrFlags] [.searchSteps, .sagOn, .searchT] s (searchStart cap s) := by
  unfold searchStart
  extract_lets u v
  have hv : Within [Obj.pwrIlimIn, Obj.pwrFlags] [.searchSteps, .sagOn, .searchT] s v :=
    ((((WithinAll.refl.setO (by simp)).setBit (by simp)).setVar (by simp)).setVar (by simp)).startTR (by simp)
  exact .ite (hv.trans ((searchEnd_within 0 v).mono (by simp) (by simp) (by simp))) hv

/-- A search starts from the source current and 50 mA, up to its cap. -/
theorem searchStart_limit (cap : Int) (s : State) : (searchStart cap s).o Obj.pwrIlimIn = min cap (s.o Obj.pwrIsrc + 50) := by
  unfold searchStart
  extract_lets u v
  have hv : v.o Obj.pwrIlimIn = min cap (s.o Obj.pwrIsrc + 50) :=
by
    simp only [v, u, State.startTR, State.o_setVar, State.o_setBit_ne _ _ _ (show Obj.pwrIlimIn ≠ Obj.pwrFlags by decide),
      State.o_setO_self]
  split
  · exact ((searchEnd_within 0 v).objs _ (by decide) (by simp)).trans hv
  · exact hv

/-! ## The entry of a charge phase (R330, R332, R334, R359) -/

/-- A charge phase is entered: its counts begin anew, its timer runs, and done has synchronised the estimate. -/
def phaseEntered (st : Nat) (s : State) : State :=
  let u := (((s.setO Obj.pwrChgState st).setVar .vpreCnt 0).setVar .cvCnt 0).setVar .rechCnt 0
  let u := if st = 1 then u.startTR .chgT 3600000
    else if st = 4 then u.startTR .chgT (u.oN Obj.pwrTopoff * 60000) else u.stopT .chgT
  let u := if st = 5 ∨ st = 7 then u.post 49 else u
  if st = 5 then socSync (u.o Obj.estCap) u else u

/-- The safety timer is reset. -/
def safetyReset (s : State) : State :=
  ((((s.setO Obj.pwrTEq 0).setO Obj.pwrTWall 0).setVar .teqFrac 0).setVar .twallFrac 0).setVar .teqDen 0

/-- A charge starts: the safety timer is reset, and the input limit searched where the source asks for it. -/
def chargeStarted (s : State) : State :=
  match inputLimit (safetyReset s) with
  | some (_, cap, some _) => searchStart cap (safetyReset s)
  | _ => safetyReset s

theorem setChg_same {st : Nat} {s : State} (h : s.oN Obj.pwrChgState = st) : setChg st s = s.setVar .chgGoto 0 := if_pos h

/-- The phase that has been left, with the record 0x0705 of the change. -/
theorem setChg_enters {st : Nat} {s : State} (h : s.oN Obj.pwrChgState ≠ st) :
    ∃ n data, setChg st s = (let u := (phaseEntered st (s.setVar .chgGoto 0)).recordPer 0x0705 0 n data
      if (st = 1 ∨ st = 2) ∧ s.oN Obj.pwrChgState ≠ 1 then chargeStarted u else u) :=
  ⟨_, _, if_neg h⟩

/-- The objects and kinds of hidden quantities that the entry of a phase writes before a charge starts. -/
abbrev phaseObjs : List Nat := [Obj.pwrChgState, Obj.estQCorr, Obj.estQRem, Obj.estFlags]
abbrev phaseKinds : List VarKind := [.vpreCnt, .cvCnt, .rechCnt, .chgT]

theorem phaseEntered_within (st : Nat) (s : State) : Within phaseObjs phaseKinds s (phaseEntered st s) := by
  unfold phaseEntered
  extract_lets a b c
  have ha : Within phaseObjs phaseKinds s a := (((WithinAll.refl.setO (by simp)).setVar (by simp)).setVar (by simp)).setVar (by simp)
  have hb : Within phaseObjs phaseKinds s b := .ite (ha.startTR (by simp)) (.ite (ha.startTR (by simp)) (ha.stopT (by simp)))
  have hc : Within phaseObjs phaseKinds s c := .ite hb.post hb
  exact .ite (((hc.setO (by simp)).setO (by simp)).setBit (by simp)) hc

/-- What a phase that is entered leaves: its state and timer, an interrupt for done and latched, and in done the estimate synchronised
to a full pack. -/
structure PhaseEntered (st : Nat) (s t : State) : Prop where
  state : t.oN Obj.pwrChgState = st
  timer : t.var .chgT = if st = 1 then ((s.nowRound + 3600001 : Nat) : Int)
    else if st = 4 then ((s.nowRound + s.oN Obj.pwrTopoff * 60000 + 1 : Nat) : Int) else 0
  posts : st = 5 ∨ st = 7 → 49 ∈ t.posts
  full : st = 5 → t.o Obj.estQRem = s.o Obj.estCap ∧ t.o Obj.estQCorr = s.o Obj.estCap - s.o Obj.chgStored ∧
    t.bit Obj.estFlags 0 = true

theorem socSync_within (q : Int) (s : State) : Within [Obj.estQCorr, Obj.estQRem, Obj.estFlags] [] s (socSync q s) :=
  ((WithinAll.refl.setO (by simp)).setO (by simp)).setBit (by simp)

theorem phaseEntered_entered (st : Nat) (s : State) : PhaseEntered st s (phaseEntered st s) := by
  unfold phaseEntered
  extract_lets a b c
  have ha : Within [Obj.pwrChgState] [.vpreCnt, .cvCnt, .rechCnt] s a :=
    (((WithinAll.refl.setO (by simp)).setVar (by simp)).setVar (by simp)).setVar (by simp)
  have hround : a.nowRound = s.nowRound := State.varN_congr (ha.vars .nowRound 0 0 (by decide))
  have htopoff : a.oN Obj.pwrTopoff = s.oN Obj.pwrTopoff := State.oN_congr (ha.objs _ (by decide) (by simp))
  have hb : Within [] [.chgT] a b :=
    .ite (WithinAll.refl.startTR (by simp)) (.ite (WithinAll.refl.startTR (by simp)) (WithinAll.refl.stopT (by simp)))
  have hbtimer : b.var .chgT = if st = 1 then ((s.nowRound + 3600001 : Nat) : Int)
      else if st = 4 then ((s.nowRound + s.oN Obj.pwrTopoff * 60000 + 1 : Nat) : Int) else 0 := by
    rw [← hround, ← htopoff]
    simp only [b, apply_ite (State.var · .chgT 0 0), State.startTR, State.stopT, State.var_setVar_self]
  have hc : Within [] [] b c := .ite WithinAll.refl.post .refl
  have hcposts : st = 5 ∨ st = 7 → 49 ∈ c.posts := fun h => by
    simp only [c, if_pos h, State.post_posts, List.mem_append, List.mem_singleton, or_true]
  have hobj (k : Nat) : c.o k = a.o k := (hc.objs k (by simp) (by simp)).trans (hb.objs k (by simp) (by simp))
  have hstate : c.oN Obj.pwrChgState = st := (State.oN_congr (hobj _)).trans (State.oN_setO_self _ _ _)
  have htimer := (hc.vars .chgT 0 0 (by simp)).trans hbtimer
  have hcap : c.o Obj.estCap = s.o Obj.estCap := (hobj _).trans (ha.objs _ (by decide) (by simp))
  have hstored : c.o Obj.chgStored = s.o Obj.chgStored := (hobj _).trans (ha.objs _ (by decide) (by simp))
  split
  case isTrue hdone =>
    refine ⟨(State.oN_congr ((socSync_within _ _).objs _ (by decide) (by simp))).trans hstate,
      ((socSync_within _ _).vars _ 0 0 (by simp)).trans htimer, hcposts, fun _ => ?_⟩
    rw [← hcap, ← hstored]
    refine ⟨?_, ?_, ?_⟩
    · exact (State.o_setBit_ne _ _ _ (by decide)).trans (State.o_setO_self _ _ _)
    · exact (State.o_setBit_ne _ _ _ (by decide)).trans
        ((State.o_setO_ne _ _ (by decide)).trans (State.o_setO_self _ _ _))
    · exact State.bit_setBit _ _ 0 0 true
  case isFalse hother => exact ⟨hstate, htimer, hcposts, fun h => absurd h hother⟩

theorem safetyReset_within (s : State) :
    Within [Obj.pwrTEq, Obj.pwrTWall] [.teqFrac, .twallFrac, .teqDen] s (safetyReset s) :=
  ((((WithinAll.refl.setO (by simp)).setO (by simp)).setVar (by simp)).setVar (by simp)).setVar (by simp)

/-- The two counts of the safety timer stand at 0, with nothing of a second counted (R334). -/
structure SafetyZero (s : State) : Prop where
  teq : s.o Obj.pwrTEq = 0
  twall : s.o Obj.pwrTWall = 0
  teqFrac : s.var .teqFrac = 0
  twallFrac : s.var .twallFrac = 0
  teqDen : s.var .teqDen = 0

theorem safetyReset_zero (s : State) : SafetyZero (safetyReset s) := by
  constructor <;> simp [safetyReset, State.o_setO, State.var_setVar]

/-- Work on other quantities leaves the safety timer at 0. -/
theorem SafetyZero.of_within {ks : List Nat} {vs : List VarKind} {s t : State} (h : SafetyZero s) (hw : Within ks vs s t)
    (hteq : Obj.pwrTEq ∉ ks) (htwall : Obj.pwrTWall ∉ ks)
    (hkinds : ∀ v ∈ vs, v ≠ .teqFrac ∧ v ≠ .twallFrac ∧ v ≠ .teqDen) : SafetyZero t :=
  ⟨(hw.objs _ hteq (by simp)).trans h.teq, (hw.objs _ htwall (by simp)).trans h.twall,
    (hw.vars _ 0 0 fun hm => (hkinds _ hm).1 rfl).trans h.teqFrac, (hw.vars _ 0 0 fun hm => (hkinds _ hm).2.1 rfl).trans h.twallFrac,
    (hw.vars _ 0 0 fun hm => (hkinds _ hm).2.2 rfl).trans h.teqDen⟩

/-- The objects and kinds of hidden quantities that the start of a charge writes. -/
abbrev startObjs : List Nat := [Obj.pwrTEq, Obj.pwrTWall, Obj.pwrIlimIn, Obj.pwrFlags]
abbrev startKinds : List VarKind := [.teqFrac, .twallFrac, .teqDen, .searchSteps, .sagOn, .searchT]

/-- The input limit is the same while its source, its contract and its settings are. -/
theorem inputLimit_congr {s t : State} (hsrc : t.o Obj.pwrSrc = s.o Obj.pwrSrc) (hbus : t.o Obj.pwrIlimBus = s.o Obj.pwrIlimBus)
    (hwarn : t.o Obj.mgtVwarn = s.o Obj.mgtVwarn) (hcontract : t.o Obj.portContract = s.o Obj.portContract)
    (hcurrent : t.o Obj.portIContract = s.o Obj.portIContract) : inputLimit t = inputLimit s := by
  unfold inputLimit vwarnMv State.oN
  rw [hsrc, hbus, hwarn, hcontract, hcurrent]

theorem chargeStarted_within (s : State) : Within startObjs startKinds s (chargeStarted s) := by
  have hreset : Within startObjs startKinds s (safetyReset s) := (safetyReset_within s).mono (by simp) (by simp) (by simp)
  unfold chargeStarted
  split
  · exact hreset.trans ((searchStart_within _ _).mono (by simp) (by simp) (by simp))
  · exact hreset

theorem chargeStarted_zero (s : State) : SafetyZero (chargeStarted s) := by
  unfold chargeStarted
  split
  · exact (safetyReset_zero s).of_within (searchStart_within _ _) (by decide) (by decide) (by decide)
  · exact safetyReset_zero s

/-- Where the limit of the source is searched, the search starts with the charge. -/
theorem chargeStarted_limit {s : State} {c : Nat} {cap sag : Int} (h : inputLimit s = some (c, cap, some sag)) :
    (chargeStarted s).o Obj.pwrIlimIn = min cap (s.o Obj.pwrIsrc + 50) := by
  have hobj {k : Nat} (hk : k ∉ [Obj.pwrTEq, Obj.pwrTWall]) : (safetyReset s).o k = s.o k := (safetyReset_within s).objs k hk (by simp)
  have hlimit : inputLimit (safetyReset s) = inputLimit s :=
    inputLimit_congr (hobj (by decide)) (hobj (by decide)) (hobj (by decide)) (hobj (by decide)) (hobj (by decide))
  rw [chargeStarted, hlimit, h, ← hobj (by decide : Obj.pwrIsrc ∉ _)]
  exact searchStart_limit _ _

/-- Beyond what a phase itself writes, its entry writes the record 0x0705 and what a charge start writes. -/
theorem setChg_within {st : Nat} {s : State} (h : s.oN Obj.pwrChgState ≠ st) :
    Within startObjs (.limitStamp :: startKinds) (phaseEntered st (s.setVar .chgGoto 0)) (setChg st s) := by
  obtain ⟨n, data, heq⟩ := setChg_enters h
  rw [heq]
  extract_lets u
  have hu : Within startObjs (.limitStamp :: startKinds) (phaseEntered st (s.setVar .chgGoto 0)) u :=
    WithinAll.refl.recordPer (by simp)
  exact .ite (hu.trans ((chargeStarted_within u).mono (by simp) (by simp) (by simp))) hu

theorem setChg_state (st : Nat) (s : State) : (setChg st s).oN Obj.pwrChgState = st := by
  by_cases h : s.oN Obj.pwrChgState = st
  · rw [setChg_same h]; exact h
  · exact (State.oN_congr ((setChg_within h).objs _ (by decide) (by simp))).trans (phaseEntered_entered st _).state

theorem setChg_timer {st : Nat} {s : State} (h : s.oN Obj.pwrChgState ≠ st) :
    (setChg st s).var .chgT = if st = 1 then ((s.nowRound + 3600001 : Nat) : Int)
      else if st = 4 then ((s.nowRound + s.oN Obj.pwrTopoff * 60000 + 1 : Nat) : Int) else 0 := by
  have hround : (s.setVar .chgGoto 0).nowRound = s.nowRound := State.varN_congr (State.var_setVar_ne _ _ (by decide))
  rw [← hround]
  exact ((setChg_within h).vars _ 0 0 (by decide)).trans (phaseEntered_entered st _).timer

theorem setChg_posts {st : Nat} {s : State} (h : s.oN Obj.pwrChgState ≠ st) (hst : st = 5 ∨ st = 7) : 49 ∈ (setChg st s).posts := by
  obtain ⟨n, data, heq⟩ := setChg_enters h
  rw [heq]
  extract_lets u
  rw [if_neg (by omega)]
  have hu : u.posts = (phaseEntered st (s.setVar .chgGoto 0)).posts := by
    simp only [u, State.recordPer]; split <;> rfl
  rw [hu]
  exact (phaseEntered_entered st _).posts hst

/-- A charge that starts resets the safety timer, and searches the limit of its source where that has none of its own. -/
theorem setChg_starts {st : Nat} {s : State} (h : s.oN Obj.pwrChgState ≠ st) (hst : st = 1 ∨ st = 2)
    (hold : s.oN Obj.pwrChgState ≠ 1) : SafetyZero (setChg st s) ∧ ∀ c cap sag, inputLimit s = some (c, cap, some sag) →
      (setChg st s).o Obj.pwrIlimIn = min cap (s.o Obj.pwrIsrc + 50) := by
  obtain ⟨n, data, heq⟩ := setChg_enters h
  rw [heq]
  extract_lets u
  rw [if_pos ⟨hst, hold⟩]
  have hu : Within phaseObjs (.chgGoto :: .limitStamp :: phaseKinds) s u :=
    ((WithinAll.refl.setVar (by simp)).trans ((phaseEntered_within st _).mono (by simp) (by simp) (by simp))).recordPer (by simp)
  have hobj {k : Nat} (hk : k ∉ phaseObjs) : u.o k = s.o k := hu.objs k hk (by simp)
  refine ⟨chargeStarted_zero u, fun c cap sag hlim => ?_⟩
  have hlimit : inputLimit u = inputLimit s :=
    inputLimit_congr (hobj (by decide)) (hobj (by decide)) (hobj (by decide)) (hobj (by decide)) (hobj (by decide))
  rw [chargeStarted_limit (hlimit.trans hlim), hobj (by decide)]

/-! ## The charger at a tick (R329, R332, R334) -/

/-- The charge phase that the frame before a tick has decided is entered. -/
def phaseTaken (s : State) : State := if s.varB .chgGoto then setChg (s.varN .chgGoto - 1) s else s

/-- One frame of the two counts of the safety timer. -/
def safetyTick (s : State) : State :=
  let u := teqTick s
  (u.setVar .twallFrac ((u.var .twallFrac + 1) % 1000000)).addO Obj.pwrTWall ((u.var .twallFrac + 1) / 1000000)

/-- The conditions and counts of a tick. -/
abbrev CountWork (s t : State) : Prop :=
  Within [Obj.srcCond 162, Obj.srcCond 163] [.chgHot, .chgOvCnt, .chgCeil, .vpreCnt, .cvCnt] s t

/-- The conditions and counts of a tick come between the phase that it enters and the safety timer. -/
theorem chargerTick_counts (s : State) :
    ∃ u, CountWork (phaseTaken s) u ∧ u.posts = (phaseTaken s).posts ∧ (chargerTick s = safetyTick u ∨ chargerTick s = u) := by
  unfold chargerTick
  extract_lets a st t hot b c ov d e scaled ceil phase f g held w
  refine ⟨w, ?_, ?_, ?_⟩
  · have hc : CountWork a c := .ite (WithinAll.refl.setFlag (by simp)) ((WithinAll.refl.setFlag (by simp)).condOff (by simp))
    have he : CountWork a e := .ite (hc.countCond (by simp)) ((hc.countCond (by simp)).condOff (by simp))
    have hg : CountWork a g := (he.setVar (by simp)).countCond (by simp)
    exact .ite hg (hg.countCond (by simp))
  · simp only [w, g, f, e, d, c, b, apply_ite State.posts, State.countCond_posts, State.condOff_posts, State.setFlag,
      State.setVar_posts, ite_self]
    rfl
  · split
    · exact .inl rfl
    · exact .inr rfl

theorem teqTick_within (s : State) : Within [Obj.pwrTEq] [.teqDen, .teqFrac] s (teqTick s) :=
  ((WithinAll.refl.setVar (by simp)).setVar (by simp)).setO (by simp)

/-- A frame counts for pwr.t_eq at most as one: a count that begins at 0 shows no second after it (R334). -/
theorem teqTick_zero {s : State} (h : SafetyZero s) : (teqTick s).o Obj.pwrTEq = 0 := by
  have hden : s.varB .teqDen = false := by rw [State.varB, h.teqDen]; rfl
  have hfrac : s.varN .teqFrac = 0 := by rw [State.varN, h.teqFrac]; rfl
  unfold teqTick
  extract_lets d n
  have hle : (if d = 0 then ((1 : Nat), (1 : Nat)) else (n, d)).1 ≤ (if d = 0 then ((1 : Nat), (1 : Nat)) else (n, d)).2 ∧
      0 < (if d = 0 then ((1 : Nat), (1 : Nat)) else (n, d)).2 := by
    split
    · decide
    · exact ⟨Nat.min_le_left _ _, by omega⟩
  generalize (if d = 0 then ((1 : Nat), (1 : Nat)) else (n, d)) = p at hle ⊢
  obtain ⟨num, den⟩ := p
  obtain ⟨hnum, hpos⟩ := hle
  have hcarry : num / (den * 1000000) = 0 := Nat.div_eq_of_lt (by omega)
  simp only [hden, hfrac, Bool.false_eq_true, if_false, Nat.zero_mul, Nat.zero_add, Nat.div_self hpos, Nat.mul_one, hcarry,
    State.addO, State.o_setO_self, State.o_setVar, h.teq]
  rfl

theorem safetyTick_within (s : State) : Within [Obj.pwrTEq, Obj.pwrTWall] [.teqDen, .teqFrac, .twallFrac] s (safetyTick s) :=
  (((teqTick_within s).mono (by simp) (by simp) (by simp)).setVar (by simp)).addO (by simp)

theorem safetyTick_zero {s : State} (h : SafetyZero s) :
    (safetyTick s).o Obj.pwrTEq = 0 ∧ (safetyTick s).o Obj.pwrTWall = 0 := by
  have hwall : (teqTick s).o Obj.pwrTWall = 0 := ((teqTick_within s).objs _ (by decide) (by simp)).trans h.twall
  have hfrac : (teqTick s).var .twallFrac = 0 := ((teqTick_within s).vars _ 0 0 (by decide)).trans h.twallFrac
  refine ⟨(State.o_setO_ne _ _ (by decide)).trans (teqTick_zero h), ?_⟩
  rw [safetyTick, State.addO, State.o_setO_self, State.o_setVar, hwall, hfrac]
  decide

/-- The objects and kinds of hidden quantities that a tick of the charger writes, its phase once entered. -/
abbrev tickObjs : List Nat := [Obj.srcCond 162, Obj.srcCond 163, Obj.pwrTEq, Obj.pwrTWall]
abbrev tickKinds : List VarKind := [.chgHot, .chgOvCnt, .chgCeil, .vpreCnt, .cvCnt, .teqDen, .teqFrac, .twallFrac]

theorem chargerTick_within (s : State) : Within tickObjs tickKinds (phaseTaken s) (chargerTick s) := by
  obtain ⟨u, hu, -, heq | heq⟩ := chargerTick_counts s
  all_goals rw [heq]
  · exact (hu.mono (by simp) (by simp) (by simp)).trans ((safetyTick_within u).mono (by simp) (by simp) (by simp))
  · exact hu.mono (by simp) (by simp) (by simp)

theorem chargerTick_posts (s : State) : (chargerTick s).posts = (phaseTaken s).posts := by
  obtain ⟨u, -, hposts, heq | heq⟩ := chargerTick_counts s
  · rw [heq]; exact hposts
  · rw [heq, hposts]

theorem chargerTick_zero {s : State} (h : SafetyZero (phaseTaken s)) :
    (chargerTick s).o Obj.pwrTEq = 0 ∧ (chargerTick s).o Obj.pwrTWall = 0 := by
  obtain ⟨u, hu, -, heq | heq⟩ := chargerTick_counts s
  all_goals have hzero : SafetyZero u := h.of_within hu (by decide) (by decide) (by decide)
  all_goals rw [heq]
  · exact safetyTick_zero hzero
  · exact ⟨hzero.teq, hzero.twall⟩

/-! ## A phase that has been decided (R332) -/

theorem chgNext_within (st : Nat) (s : State) : Within [] [.chgGoto] s (chgNext st s) := WithinAll.refl.setVar (by simp)

theorem chgNext_goto (st : Nat) (s : State) : (chgNext st s).varN .chgGoto = st + 1 :=
  varN_setVar_self s .chgGoto (st + 1)

/-- The tick after a decision enters the phase decided. -/
theorem phaseTaken_chgNext (st : Nat) (s : State) : phaseTaken (chgNext st s) = setChg st (chgNext st s) := by
  have hgoto := chgNext_goto st s
  have hset : (chgNext st s).varB .chgGoto = true := by
    simp only [State.varN] at hgoto
    exact decide_eq_true (by omega)
  rw [phaseTaken, if_pos hset, hgoto, Nat.add_sub_cancel]

theorem chargerTick_o {st k : Nat} (s : State) (hk : k ∉ tickObjs) :
    (chargerTick (chgNext st s)).o k = (setChg st (chgNext st s)).o k := by
  rw [← phaseTaken_chgNext]
  exact (chargerTick_within _).objs k hk (by simp)

theorem chargerTick_state (st : Nat) (s : State) : (chargerTick (chgNext st s)).oN Obj.pwrChgState = st :=
  (State.oN_congr (chargerTick_o s (by decide))).trans (setChg_state st _)

section
variable {st : Nat} {s : State} (h : s.oN Obj.pwrChgState ≠ st)
include h

theorem chargerTick_timer :
    (chargerTick (chgNext st s)).var .chgT = if st = 1 then ((s.nowRound + 3600001 : Nat) : Int)
      else if st = 4 then ((s.nowRound + s.oN Obj.pwrTopoff * 60000 + 1 : Nat) : Int) else 0 := by
  have hround : (chgNext st s).nowRound = s.nowRound := State.varN_congr ((chgNext_within st s).vars _ 0 0 (by decide))
  rw [← hround, (chargerTick_within _).vars _ 0 0 (by decide), phaseTaken_chgNext]
  exact setChg_timer h

theorem chargerTick_post49 (hst : st = 5 ∨ st = 7) : 49 ∈ (chargerTick (chgNext st s)).posts := by
  rw [chargerTick_posts, phaseTaken_chgNext]
  exact setChg_posts h hst

/-- Done synchronises the estimate to a full pack (R359). -/
theorem chargerTick_full (hst : st = 5) : (chargerTick (chgNext st s)).o Obj.estQRem = s.o Obj.estCap ∧
    (chargerTick (chgNext st s)).o Obj.estQCorr = s.o Obj.estCap - s.o Obj.chgStored ∧
    (chargerTick (chgNext st s)).bit Obj.estFlags 0 = true := by
  have hobj {k : Nat} (htick : k ∉ tickObjs) (hstart : k ∉ startObjs) : (chargerTick (chgNext st s)).o k =
      (phaseEntered st ((chgNext st s).setVar .chgGoto 0)).o k :=
    (chargerTick_o s htick).trans ((setChg_within (s := chgNext st s) h).objs k hstart (by simp))
  have hnext (k : Nat) : ((chgNext st s).setVar .chgGoto 0).o k = s.o k :=
    ((chgNext_within st s).setVar (by simp)).objs k (by simp) (by simp)
  obtain ⟨hrem, hcorr, hsync⟩ := (phaseEntered_entered st ((chgNext st s).setVar .chgGoto 0)).full hst
  rw [hnext] at hrem
  rw [hnext, hnext] at hcorr
  exact ⟨(hobj (by decide) (by decide)).trans hrem, (hobj (by decide) (by decide)).trans hcorr,
    (bit_congr (hobj (by decide) (by decide)) 0).trans hsync⟩

/-- A charge that starts has its safety timer at 0, and the limit of its source searched where that has none of its own (R330, R334). -/
theorem chargerTick_starts (hst : st = 1 ∨ st = 2) (hold : s.oN Obj.pwrChgState ≠ 1) :
    (chargerTick (chgNext st s)).o Obj.pwrTEq = 0 ∧ (chargerTick (chgNext st s)).o Obj.pwrTWall = 0 ∧
      ∀ c cap sag, inputLimit s = some (c, cap, some sag) →
        (chargerTick (chgNext st s)).o Obj.pwrIlimIn = min cap (s.o Obj.pwrIsrc + 50) := by
  obtain ⟨hzero, hlimit⟩ := setChg_starts (s := chgNext st s) h hst hold
  obtain ⟨hteq, htwall⟩ := chargerTick_zero (by rw [phaseTaken_chgNext]; exact hzero)
  refine ⟨hteq, htwall, fun c cap sag hlim => (chargerTick_o s (by decide)).trans (hlimit c cap sag ?_)⟩
  rw [← hlim]
  have hobj (k : Nat) : (chgNext st s).o k = s.o k := (chgNext_within st s).objs k (by simp) (by simp)
  exact inputLimit_congr (hobj _) (hobj _) (hobj _) (hobj _) (hobj _)

end

end Sys2Proof.Machine
end

section
/-!
PROOFS. The events of the charger, each under the conditions of its command (R328 to R334, R359).
-/

namespace Sys2Proof.Machine

variable {s : State}

/-! ## Commands under their conditions -/

theorem chgIs_of {st : Nat} (hgoto : s.varB .chgGoto = false) (hst : s.oN Obj.pwrChgState = st) : chgIs s st = true := by
  rw [chgIs, hgoto, decide_eq_true hst]
  rfl

theorem packRaise_chgNext (src cls st : Nat) (data : List Byte) (s : State) :
    packRaise src cls data (chgNext st s) = chgNext st (packRaise src cls data s) := by
  have hpack : packEn (chgNext st s) = packEn s := rfl
  unfold packRaise
  rw [hpack]
  split <;> rfl

theorem exec_chargeStart (hgoto : s.varB .chgGoto = false) (hfails : chgFails s = none)
    (hst : s.oN Obj.pwrChgState = 0 ∨ s.oN Obj.pwrChgState = 6 ∨ s.oN Obj.pwrChgState = 7 ∨
      (s.oN Obj.pwrChgState = 5 ∧ 10 ≤ s.varN .rechCnt)) :
    exec .chargeStart s = .next (chgNext (if packMv s < s.o Obj.pwrVpre then 1 else 2) (s.setO Obj.pwrSusp 0)) := by
  have hcond : (chgIs s 0 || chgIs s 6 || chgIs s 7 || (chgIs s 5 && s.metCond .rechCnt 10)) = true := by
    rcases hst with h | h | h | ⟨h, hcnt⟩
    · simp [chgIs_of hgoto h]
    · simp [chgIs_of hgoto h]
    · simp [chgIs_of hgoto h]
    · simp [chgIs_of hgoto h, State.metCond_of_le (by decide) hcnt]
  rw [exec, execChargeStart, if_pos (by rw [hfails, hcond]; rfl)]

theorem exec_prechargeDone (hgoto : s.varB .chgGoto = false) (hst : s.oN Obj.pwrChgState = 1) (hcnt : 100 ≤ s.varN .vpreCnt) :
    exec .prechargeDone s = .next (chgNext 2 s) := by
  rw [exec, execPrechargeDone, chgIs_of hgoto hst, State.metCond_of_le (by decide) hcnt]
  rfl

theorem exec_prechargeTimeout (hgoto : s.varB .chgGoto = false) (hst : s.oN Obj.pwrChgState = 1) (hdue : s.dueTR .chgT = true) :
    exec .prechargeTimeout s = .next (chgNext 7 (packRaise 161 1 (timerData 1 0 s) (s.setBit Obj.pwrFlags 11 true))) := by
  rw [exec, execPrechargeTimeout, chgIs_of hgoto hst, hdue, ← packRaise_chgNext]
  rfl

theorem exec_cvEntry (hgoto : s.varB .chgGoto = false) (hst : s.oN Obj.pwrChgState = 2) (hmv : s.o Obj.pwrVchg ≤ packMv s) :
    exec .cvEntry s = .next (chgNext 3 s) := by
  rw [exec, execCvEntry, chgIs_of hgoto hst, decide_eq_true hmv]
  rfl

theorem exec_topoffEntry (hgoto : s.varB .chgGoto = false) (hst : s.oN Obj.pwrChgState = 3) (hcnt : 1000 ≤ s.varN .cvCnt) :
    exec .topoffEntry s = .next (chgNext 4 s) := by
  rw [exec, execTopoffEntry, chgIs_of hgoto hst, State.metCond_of_le (by decide) hcnt]
  rfl

theorem exec_topoffExpiry (hgoto : s.varB .chgGoto = false) (hst : s.oN Obj.pwrChgState = 4) (hdue : s.dueTR .chgT = true) :
    exec .topoffExpiry s = .next (chgNext 5 s) := by
  rw [exec, execTopoffExpiry, chgIs_of hgoto hst, hdue]
  rfl

/-- A suspension with its reason, and the condition of class 0x00 of source 163 where it is the temperature (R328, R332). -/
def suspended (why : Nat) (s : State) : State :=
  let u := s.setO Obj.pwrSusp why
  if why = 2 ∧ packEn u then u.raise 163 0 (protData 163 0 u) else u

theorem exec_chargeSuspend {why : Nat} (hfails : chgFails s = some why) :
    exec .chargeSuspend s = .next (if (suspended why s).oN Obj.pwrChgState = chgIdle (suspended why s)
      then (suspended why s).setVar .chgGoto 0 else chgNext (chgIdle (suspended why s)) (suspended why s)) := by
  rw [exec, execChargeSuspend, hfails]
  rfl

theorem exec_chargeSuspend_none (hfails : chgFails s = none) : exec .chargeSuspend s = .next s := by
  rw [exec, execChargeSuspend, hfails]

theorem exec_packOvervoltage (hcnt : 8 ≤ s.varN .chgOvCnt) (hpack : packEn s = true) (hoff : s.condOn 162 0 = false) :
    exec .packOvervoltage s = .next (chgLatch (s.raise 162 0 (protData 162 0 s))) := by
  rw [exec, execPackOvervoltage, hpack, hoff, State.metCond_of_le (by decide) hcnt]
  rfl

/-- Which limits of the safety timer its record names: 0 the equivalent one, 1 the absolute one, 2 both (R334, R349). -/
def safetyWhich (s : State) : Nat :=
  if s.o Obj.pwrTWall < 72000 then 0 else if s.o Obj.pwrTEq < s.o Obj.pwrSafety * 3600 then 1 else 2

theorem safetyReached_which (s : State) :
    (if ((safetyReached s).1 && (safetyReached s).2) = true then 2 else if (safetyReached s).2 = true then 1 else 0) =
      safetyWhich s := by
  simp only [safetyReached, safetyWhich, ← Int.not_le, Bool.and_eq_true, decide_eq_true_eq, ite_not]
  split_ifs <;> simp_all

theorem exec_safetyTimerExpiry (hgoto : s.varB .chgGoto = false)
    (hst : s.oN Obj.pwrChgState = 1 ∨ s.oN Obj.pwrChgState = 2 ∨ s.oN Obj.pwrChgState = 3)
    (hover : s.o Obj.pwrSafety * 3600 ≤ s.o Obj.pwrTEq ∨ 72000 ≤ s.o Obj.pwrTWall) :
    exec .safetyTimerExpiry s = 
      .next (chgNext 7 (packRaise 161 0 (timerData 0 (safetyWhich s) s) (s.setBit Obj.pwrFlags 11 true))) := by
  have hst' : decide (s.oN Obj.pwrChgState = 1 ∨ s.oN Obj.pwrChgState = 2 ∨ s.oN Obj.pwrChgState = 3) = true := decide_eq_true hst
  have hover' : (decide (s.o Obj.pwrSafety * 3600 ≤ s.o Obj.pwrTEq) || decide (72000 ≤ s.o Obj.pwrTWall)) = true := by
    simpa using hover
  rw [exec, ← packRaise_chgNext, ← safetyReached_which]
  exact if_pos (by rw [hgoto, hst', hover']; rfl)

theorem exec_safetyTimerExpiry_none (h : s.oN Obj.pwrChgState = 0 ∨ 4 ≤ s.oN Obj.pwrChgState ∨
    (s.o Obj.pwrTEq < s.o Obj.pwrSafety * 3600 ∧ s.o Obj.pwrTWall < 72000) ∨ s.varB .chgGoto = true) :
    exec .safetyTimerExpiry s = .next s := by
  rw [exec, execSafetyTimerExpiry]
  refine if_neg ?_
  simp only [Bool.and_eq_true, Bool.not_eq_true', Bool.or_eq_true, decide_eq_true_eq]
  rintro ⟨⟨hgoto, hst⟩, hover⟩
  rcases h with h | h | h | h
  · omega
  · omega
  · omega
  · rw [hgoto] at h; exact absurd h (by decide)

/-- The input limit after one step of a search (R330). -/
def limitStepped (cap : Int) (s : State) : State :=
  (s.setO Obj.pwrIlimIn (min cap (s.o Obj.pwrIlimIn + 50))).addVar .searchSteps 1

/-- The limit at the level to which a sag takes a search back: 90 % of the source current, in steps of 10 mA (R330). -/
def sagBack (s : State) : State := (s.setFlag .sagOn true).setO Obj.pwrIlimIn (s.o Obj.pwrIsrc * 90 / 1000 * 10)

section
variable {c : Nat} {cap sag : Int} (hlim : inputLimit s = some (c, cap, some sag))
include hlim

theorem exec_inputLimitSearchStep (hon : s.bit Obj.pwrFlags 6 = true) (hdue : s.dueTR .searchT = true) :
    exec .inputLimitSearchStep s = .next (if (limitStepped cap s).o Obj.pwrIlimIn = cap then searchEnd 0 (limitStepped cap s)
      else (limitStepped cap s).startTR .searchT 10) := by
  rw [exec, execInputLimitSearchStep, hlim]
  exact if_pos (by rw [hon, hdue]; rfl)

theorem exec_inputLimitSag (hsag : sourceMv s ≤ sag) (hfirst : s.varB .sagOn = false) (hon : s.bit Obj.pwrFlags 6 = true) :
    exec .inputLimitSag s = .next (searchEnd (sourceMv s) (sagBack s)) := by
  rw [exec, execInputLimitSag, hlim]
  exact (if_pos (by rw [hfirst, decide_eq_true hsag]; rfl)).trans (if_pos hon)

theorem exec_inputLimitSag_settled (hsag : sourceMv s ≤ sag) (hfirst : s.varB .sagOn = false) (hoff : s.bit Obj.pwrFlags 6 = false) :
    exec .inputLimitSag s = .next ((s.setFlag .sagOn true).setO Obj.pwrIlimIn (divNearest (s.o Obj.pwrIlimIn * 9) 10)) := by
  have hoff' : ¬(s.setFlag .sagOn true).bit Obj.pwrFlags 6 = true := Bool.eq_false_iff.1 hoff
  rw [exec, execInputLimitSag, hlim]
  exact (if_pos (by rw [hfirst, decide_eq_true hsag]; rfl)).trans (if_neg hoff')

end

theorem limitStepped_within (cap : Int) (s : State) : Within [Obj.pwrIlimIn] [.searchSteps] s (limitStepped cap s) :=
  (WithinAll.refl.setO (by simp)).addVar (by simp)

theorem limitStepped_limit (cap : Int) (s : State) : (limitStepped cap s).o Obj.pwrIlimIn = min cap (s.o Obj.pwrIlimIn + 50) :=
  State.o_setO_self _ _ _

theorem limitStepped_steps (cap : Int) (s : State) : (limitStepped cap s).var .searchSteps = s.var .searchSteps + 1 :=
  State.var_setVar_self _ _ _ _ _

theorem sagBack_within (s : State) : Within [Obj.pwrIlimIn] [.sagOn] s (sagBack s) :=
  (WithinAll.refl.setFlag (by simp)).setO (by simp)

theorem sagBack_limit (s : State) : (sagBack s).o Obj.pwrIlimIn = s.o Obj.pwrIsrc * 90 / 1000 * 10 := State.o_setO_self _ _ _

/-- Record data of 0x0709 for a limit and a number of steps. -/
theorem searchData_eq {u : State} {mv src lim steps : Int} (hsrc : u.o Obj.pwrIlimSrc = src) (hlim : u.o Obj.pwrIlimIn = lim)
    (hsteps : u.var .searchSteps = steps) : searchData mv u = u8 src ++ u16 lim ++ u16 (divNearest mv 10) ++ u16 steps := by
  rw [searchData, hsrc, hlim, hsteps, cV]

/-! ## What a suspension leaves (R328, R332) -/

theorem suspended_within (why : Nat) (s : State) : Within [Obj.pwrSusp, Obj.srcCond 163] [] s (suspended why s) := by
  have hset : Within [Obj.pwrSusp, Obj.srcCond 163] [] s (s.setO Obj.pwrSusp why) := WithinAll.refl.setO (by simp)
  exact .ite (hset.raise (by simp)) hset

theorem suspended_susp (why : Nat) (s : State) : (suspended why s).o Obj.pwrSusp = why := by
  have hraise (d : List Byte) : Within [Obj.srcCond 163] [] (s.setO Obj.pwrSusp why) ((s.setO Obj.pwrSusp why).raise 163 0 d) :=
    WithinAll.refl.raise (by simp)
  unfold suspended
  extract_lets u
  split
  · exact ((hraise _).objs _ (by decide) (by simp)).trans (State.o_setO_self _ _ _)
  · exact State.o_setO_self _ _ _

theorem packEn_congr {s t : State} (h : t.o Obj.pwrPackEn = s.o Obj.pwrPackEn) : packEn t = packEn s := by
  rw [packEn, State.oB, h, packEn, State.oB]

theorem suspended_hot (hpack : packEn s = true) : (suspended 2 s).condOn 163 0 = true := by
  have hpack' : packEn (s.setO Obj.pwrSusp (2 : Nat)) = true :=
    (packEn_congr (State.o_setO_ne _ _ (by decide))).trans hpack
  rw [suspended, if_pos ⟨rfl, hpack'⟩]
  exact State.raise_condOn _ _ _ _

theorem mode_congr {s t : State} (h : t.o Obj.sysMode = s.o Obj.sysMode) : t.mode = s.mode := by
  rw [State.mode, State.oN_congr h, State.mode]

theorem chgIdle_congr {s t : State} (hflags : t.o Obj.pwrFlags = s.o Obj.pwrFlags) (hpack : t.o Obj.pwrPackEn = s.o Obj.pwrPackEn)
    (hmode : t.o Obj.sysMode = s.o Obj.sysMode) : chgIdle t = chgIdle s := by
  unfold chgIdle chgMode
  rw [bit_congr hflags, bit_congr hflags, packEn_congr hpack, mode_congr hmode]

/-- A tick at which no phase has been decided keeps the one in force. -/
theorem chargerTick_kept (s : State) : (chargerTick (s.setVar .chgGoto 0)).oN Obj.pwrChgState = s.oN Obj.pwrChgState := by
  have hnone : phaseTaken (s.setVar .chgGoto 0) = s.setVar .chgGoto 0 := by
    rw [phaseTaken, State.varB, State.var_setVar_self]
    rfl
  have htick := (chargerTick_within (s.setVar .chgGoto 0)).objs Obj.pwrChgState (by decide) (by simp)
  rw [hnone] at htick
  exact State.oN_congr htick

/-- The work of an event that decides a phase. -/
theorem WithinAll.chgNext {ks : List Nat} {s u : State} (st : Nat) (h : Within ks [] s u) : Within ks [.chgGoto] s (chgNext st u) :=
  (h.mono (by simp) (by simp) (by simp)).trans ((chgNext_within st u).mono (by simp) (by simp) (by simp))

/-- What a latch leaves whose event is raised where a pack is configured (R318, R332 to R334). -/
structure LatchRaised (src cls : Nat) (data : List Byte) (s t : State) : Prop where
  goto : t.varN .chgGoto = 8
  state : (chargerTick t).oN Obj.pwrChgState = 7
  latch : t.bit Obj.pwrFlags 11 = true
  intake : t.intake = s.intake ++ (if packEn s then [⟨src, cls, data, false⟩] else [])
  posts : 49 ∈ (chargerTick t).posts
  frame : Within [Obj.pwrFlags] [.chgGoto] s t

theorem latch_raised (src cls : Nat) (data : List Byte) (h : s.oN Obj.pwrChgState ≠ 7) :
    LatchRaised src cls data s (chgNext 7 (packRaise src cls data (s.setBit Obj.pwrFlags 11 true))) := by
  have hraise := packRaise_within src cls data (s.setBit Obj.pwrFlags 11 true)
  have hset : Within [Obj.pwrFlags] [] s (s.setBit Obj.pwrFlags 11 true) := WithinAll.refl.setBit (by simp)
  have hwork := hset.trans (hraise.mono (by simp) (by simp) (by simp))
  have hpack : packEn (s.setBit Obj.pwrFlags 11 true) = packEn s := packEn_congr (hset.objs _ (by decide) (by simp))
  refine ⟨chgNext_goto _ _, chargerTick_state _ _, ?_, ?_, chargerTick_post49 ?_ (.inr rfl), hwork.chgNext _⟩
  · exact (bit_congr (hraise.objs _ (by simp) (by simp)) 11).trans (State.bit_setBit s Obj.pwrFlags 11 11 true)
  · rw [← hpack]; exact packRaise_intake _ _ _ _
  · rwa [State.oN_congr (hwork.objs _ (by decide) (by simp))]

/-- Settles O25: each event's hypotheses are the conditions of its command; a phase that is decided is entered at the next tick
(`chargerTick_state`), and a search ends in the same way at its cap and at a sag (`searchEnd_ended`). -/
theorem chargerEvents : Obligations.ChargerEvents := by
  unfold Obligations.ChargerEvents
  intro s
  refine ⟨?start, ?prechargeDone, ?prechargeTimeout, ?cvEntry, ?topoffEntry, ?topoffExpiry, ?suspend, ?kept, ?overvoltage, ?safety,
    ?notOver, ?step, ?stepToCap, ?sag, ?sagSettled⟩
  case start =>
    intro hgoto hfails hst
    have hobj {k : Nat} (hk : k ≠ Obj.pwrSusp) : (s.setO Obj.pwrSusp 0).o k = s.o k := State.o_setO_ne _ _ hk
    have hold : (s.setO Obj.pwrSusp 0).oN Obj.pwrChgState = s.oN Obj.pwrChgState := State.oN_congr (hobj (by decide))
    have hphase : (if packMv s < s.o Obj.pwrVpre then 1 else 2) = 1 ∨ (if packMv s < s.o Obj.pwrVpre then 1 else 2) = 2 := by
      split <;> simp
    have hleft : (s.setO Obj.pwrSusp 0).oN Obj.pwrChgState ≠ (if packMv s < s.o Obj.pwrVpre then 1 else 2) := by
      rw [hold]; omega
    have hlimit : inputLimit (s.setO Obj.pwrSusp 0) = inputLimit s :=
      inputLimit_congr (hobj (by decide)) (hobj (by decide)) (hobj (by decide)) (hobj (by decide)) (hobj (by decide))
    obtain ⟨hteq, htwall, hsearch⟩ := chargerTick_starts hleft hphase (by rw [hold]; omega)
    refine ⟨_, exec_chargeStart hgoto hfails hst, ?_, ?_, chargerTick_state _ _, ?_, by omega, hteq, htwall, ?_,
      (WithinAll.refl.setO (by simp)).chgNext _⟩
    · rw [chgNext_goto]; split <;> rfl
    · exact State.o_setO_self s Obj.pwrSusp 0
    · intro hlow
      rw [State.varN, chargerTick_timer hleft, if_pos (if_pos hlow), Int.toNat_natCast]
      rfl
    · cases hlim : inputLimit s with
      | none => rfl
      | some x =>
        obtain ⟨c, cap, sag⟩ := x
        cases sag with
        | none => rfl
        | some sag =>
          have hstart := (hsearch c cap sag (hlimit.trans hlim)).trans (by rw [hobj (by decide)])
          simp [hstart]
  case prechargeDone =>
    intro hgoto hst hcnt
    exact ⟨_, exec_prechargeDone hgoto hst hcnt, chgNext_goto _ _, chargerTick_state _ _, chargerTick_timer (by omega),
      chgNext_within _ _⟩
  case prechargeTimeout =>
    intro hgoto hst hdue
    obtain ⟨hnext, hstate, hlatch, hintake, hposts, hframe⟩ := latch_raised 161 1 (timerData 1 0 s) (s := s) (by omega)
    exact ⟨_, exec_prechargeTimeout hgoto hst hdue, hnext, hstate, hlatch, hintake, hposts, hframe⟩
  case cvEntry =>
    intro hgoto hst hmv
    exact ⟨_, exec_cvEntry hgoto hst hmv, chgNext_goto _ _, chargerTick_state _ _, chgNext_within _ _⟩
  case topoffEntry =>
    intro hgoto hst hcnt
    refine ⟨_, exec_topoffEntry hgoto hst hcnt, chgNext_goto _ _, chargerTick_state _ _, ?_, chgNext_within _ _⟩
    exact congrArg Int.toNat (chargerTick_timer (by omega))
  case topoffExpiry =>
    intro hgoto hst hdue
    obtain ⟨hrem, hcorr, hsync⟩ := chargerTick_full (st := 5) (s := s) (by omega) rfl
    exact ⟨_, exec_topoffExpiry hgoto hst hdue, chgNext_goto _ _, chargerTick_state _ _, hrem, hcorr, hsync,
      chargerTick_post49 (by omega) (.inl rfl), chgNext_within _ _⟩
  case suspend =>
    intro why hfails
    have hwork := suspended_within why s
    have hidle : chgIdle (suspended why s) = chgIdle s :=
      chgIdle_congr (hwork.objs _ (by decide) (by simp)) (hwork.objs _ (by decide) (by simp)) (hwork.objs _ (by decide) (by simp))
    refine ⟨_, exec_chargeSuspend hfails, ?_, ?_, ?_, ?_⟩
    · split <;> exact suspended_susp why s
    · rintro rfl hpack
      split <;> exact suspended_hot hpack
    · split
      · exact ((chargerTick_kept _).trans ‹_›).trans hidle
      · exact (chargerTick_state _ _).trans hidle
    · split
      · exact (hwork.mono (by simp) (by simp) (by simp)).setVar (by simp)
      · exact hwork.chgNext _
  case kept =>
    intro hfails
    exact ⟨_, exec_chargeSuspend_none hfails, rfl⟩
  case overvoltage =>
    intro hcnt hpack hoff
    have hraise : Within [Obj.srcCond 162] [] s (s.raise 162 0 (protData 162 0 s)) := WithinAll.refl.raise (by simp)
    have hset : Within [Obj.pwrFlags] [] (s.raise 162 0 (protData 162 0 s))
        ((s.raise 162 0 (protData 162 0 s)).setBit Obj.pwrFlags 11 true) := WithinAll.refl.setBit (by simp)
    refine ⟨_, exec_packOvervoltage hcnt hpack hoff, State.bit_setBit _ Obj.pwrFlags 11 11 true, ?_, s.raise_intake hoff,
      chgNext_goto _ _, chargerTick_state _ _, ?_⟩
    · exact (bit_congr (hset.objs _ (by decide) (by simp)) 0).trans (State.raise_condOn s 162 0 _)
    · exact ((hraise.mono (by simp) (by simp) (by simp)).trans (hset.mono (by simp) (by simp) (by simp))).chgNext _
  case safety =>
    intro hgoto hst hover
    obtain ⟨hnext, hstate, hlatch, hintake, hposts, hframe⟩ :=
      latch_raised 161 0 (timerData 0 (safetyWhich s) s) (s := s) (by omega)
    exact ⟨_, exec_safetyTimerExpiry hgoto hst hover, hlatch, hintake, hnext, hstate, hposts, hframe⟩
  case notOver =>
    intro h
    exact ⟨_, exec_safetyTimerExpiry_none h, rfl⟩
  case step =>
    intro c cap sag hlim hon hdue hbelow
    have hlimit : (limitStepped cap s).o Obj.pwrIlimIn = s.o Obj.pwrIlimIn + 50 :=
      (limitStepped_limit cap s).trans (by omega)
    have hround : (limitStepped cap s).nowRound = s.nowRound := State.varN_congr ((limitStepped_within cap s).vars _ 0 0 (by decide))
    refine ⟨_, (exec_inputLimitSearchStep hlim hon hdue).trans (congrArg _ (if_neg (by omega))), hlimit, ?_, ?_, ?_⟩
    · rw [← hround]; exact varN_setVar_self _ _ _
    · exact (State.var_setVar_ne _ _ (by decide)).trans (limitStepped_steps cap s)
    · exact ((limitStepped_within cap s).mono (by simp) (by simp) (by simp)).startTR (by simp)
  case stepToCap =>
    intro c cap sag hlim hon hdue hreached
    have hlimit : (limitStepped cap s).o Obj.pwrIlimIn = cap := (limitStepped_limit cap s).trans (by omega)
    have hdata : searchData 0 (limitStepped cap s) = u8 (s.o Obj.pwrIlimSrc) ++ u16 cap ++ u16 0 ++ u16 (s.var .searchSteps + 1) :=
      searchData_eq ((limitStepped_within cap s).objs _ (by decide) (by simp)) hlimit (limitStepped_steps cap s)
    obtain ⟨hoff, htimer, hposts, hfound, hlow⟩ := searchEnd_ended 0 (limitStepped cap s)
    rw [hlimit, hdata] at hfound hlow
    refine ⟨_, (exec_inputLimitSearchStep hlim hon hdue).trans (congrArg _ (if_pos hlimit)), ?_, hoff, htimer, hposts, hfound, hlow, ?_⟩
    · exact ((searchEnd_within 0 _).objs _ (by decide) (by simp)).trans hlimit
    · exact ((limitStepped_within cap s).mono (by simp) (by simp) (by simp)).trans
        ((searchEnd_within 0 _).mono (by simp) (by simp) (by simp))
  case sag =>
    intro c cap sag hlim hsag hfirst hon
    have hwork := sagBack_within s
    have hend := searchEnd_within (sourceMv s) (sagBack s)
    have hlimit : (searchEnd (sourceMv s) (sagBack s)).o Obj.pwrIlimIn = (sagBack s).o Obj.pwrIlimIn :=
      hend.objs _ (by decide) (by simp)
    have hdata := searchData_eq (mv := sourceMv s) (hwork.objs Obj.pwrIlimSrc (by decide) (by simp)) hlimit.symm
      (hwork.vars .searchSteps 0 0 (by decide))
    obtain ⟨hoff, -, hposts, hfound, hlow⟩ := searchEnd_ended (sourceMv s) (sagBack s)
    rw [← hlimit, hdata] at hfound hlow
    refine ⟨_, exec_inputLimitSag hlim hsag hfirst hon, hlimit.trans (sagBack_limit s), hoff, ?_, hposts, hfound, hlow, ?_⟩
    · exact (State.varB_congr (hend.vars .sagOn 0 0 (by decide))).trans (State.varB_setFlag_self s .sagOn true 0 0)
    · exact (hwork.mono (by simp) (by simp) (by simp)).trans (hend.mono (by simp) (by simp) (by simp))
  case sagSettled =>
    intro c cap sag hlim hsag hfirst hoff
    refine ⟨_, exec_inputLimitSag_settled hlim hsag hfirst hoff, State.o_setO_self _ _ _, rfl, ?_, ?_⟩
    · exact State.varB_setFlag_self s .sagOn true 0 0
    · exact (WithinAll.refl.setFlag (by simp)).setO (by simp)

end Sys2Proof.Machine
end

section
/-!
PROOFS. Statements of chapters 10 and 13 that fail, each with a state that the model runs to the refuting outcome.
-/

namespace Sys2Proof.Machine

/-! ## VBUS lost in HOLDUP while the main input is valid but not yet qualified (R322, R337, R340) -/

theorem handOver_within (new us vlow kind : Nat) (s : State) :
    Within [Obj.pwrSrc, Obj.pwrHoTime, Obj.pwrHandovers] [.hbCnt, .gateOff, .handRound] s (handOver new us vlow kind s) := by
  unfold handOver changeSource
  extract_lets u old data v w x
  have hu : Within [Obj.pwrSrc, Obj.pwrHoTime, Obj.pwrHandovers] [.hbCnt, .gateOff, .handRound] s u :=
    WithinAll.refl.forRange fun _ _ h => h.setVar (by simp)
  have hv : Within [Obj.pwrSrc, Obj.pwrHoTime, Obj.pwrHandovers] [.hbCnt, .gateOff, .handRound] s v :=
    (((hu.setVar (by simp)).setO (by simp)).setO (by simp)).setVar (by simp)
  have hx : Within [Obj.pwrSrc, Obj.pwrHoTime, Obj.pwrHandovers] [.hbCnt, .gateOff, .handRound] s x :=
    (WithinAll.ite hv (hv.bump (by simp))).post
  exact .ite hx.raiseActionLater hx.record

/-- A loss of VBUS that meets a main input still in its 20 µs is held, as a cutoff is (R337, R340). -/
theorem vbusGone_held {s : State} (hmode : s.mode = .holdup) (hponr : ponrPassed s = false)
    (hmain : (mainQualified s && vinValid s) = false) (hvalid : mainInputValid s = true) : vbusGone s = s.setVar .cutHeld 6 := by
  rw [vbusGone, if_neg (by simp [hmode, hponr]), if_neg (by simp [hmain]), if_pos hvalid]

theorem exec_sourceHandover_vbus {s : State} (us vlow : Nat) (hsrc : s.oN Obj.pwrSrc = 2) (hgone : vbusValid s = false)
    (hnext : firstSource s 2 = some 1) :
    exec (.sourceHandover us vlow) s = .next (vbusGone (handOver 1 us vlow 0 s)) := by
  have hinvalid : srcValid s 2 = false := hgone
  rw [exec, execSourceHandover, hsrc, if_pos ⟨by decide, hinvalid⟩]
  simp only [hnext]
  rfl

/-- HOLDUP on VBUS, which has just gone, with VIN_MGT valid again and its 20 µs still running. -/
def vbusGoneAsMainReturns : State := ((State.reset.setO Obj.sysMode 5).setO Obj.pwrSrc 2).setVar .mgtRec 1

/-- VPP goes to VIN_MGT, and the point of no return is not taken. -/
theorem sourceHandover_vbusGoneAsMainReturns {us vlow : Nat} {t : State}
    (h : exec (.sourceHandover us vlow) vbusGoneAsMainReturns = .next t) : ponrPassed t = false := by
  have hwithin := handOver_within 1 us vlow 0 vbusGoneAsMainReturns
  have hflags := hwithin.objs Obj.pwrFlags (by decide) (by simp)
  have hmode : (handOver 1 us vlow 0 vbusGoneAsMainReturns).o Obj.sysMode = 5 := hwithin.objs Obj.sysMode (by decide) (by simp)
  have hrec := hwithin.vars .mgtRec 0 0 (by decide)
  have hponr : ponrPassed (handOver 1 us vlow 0 vbusGoneAsMainReturns) = false := (bit_congr hflags 10).trans (by decide +kernel)
  have hqual : mainQualified (handOver 1 us vlow 0 vbusGoneAsMainReturns) = false := (bit_congr hflags 9).trans (by decide +kernel)
  rw [exec_sourceHandover_vbus us vlow (by decide +kernel) (by decide +kernel) (by decide +kernel),
    vbusGone_held (by rw [State.mode, State.oN, hmode]; decide) hponr (by rw [hqual]; rfl)
      ((State.varB_congr hrec).trans (by decide +kernel))] at h
  obtain rfl := Host.Outcome.next.inj h
  exact hponr

/-- Refutes O23 in its clause for a SOURCE_HANDOVER that loses VBUS in HOLDUP, which does not ask that the main input be invalid: where
it is valid and not yet qualified, the loss is held as the cutoff of a pack is, and no point of no return is taken (R340). -/
theorem not_powerPathEvents : ¬ Obligations.PowerPathEvents := by
  unfold Obligations.PowerPathEvents
  intro h
  obtain ⟨-, -, -, hvbus, -⟩ := h vbusGoneAsMainReturns
  obtain ⟨t, ht, hponr, -⟩ := hvbus 10 1100 (by decide +kernel) (by decide +kernel) (by decide +kernel) (by decide +kernel)
    (by decide +kernel)
  exact absurd (hponr.symm.trans (sourceHandover_vbusGoneAsMainReturns ht)) (by decide)

/-! ## The main input qualified while the rails still go down (R26, R210, R339) -/

/-- The main input has qualified in HOLDUP with no cutoff held: the last-gasp timer has stopped. -/
def mainReturned (s : State) : State :=
  let u := ((s.setBit Obj.pwrFlags 9 true).stopT .lgT).setVar .cutHeld 0
  u.record 0x0704 (mainBackData 0 u)

theorem mainReturned_within (s : State) : Within [Obj.pwrFlags] [.lgT, .cutHeld] s (mainReturned s) :=
  (((WithinAll.refl.setBit (by simp)).stopT (by simp)).setVar (by simp)).record

theorem exec_mainReturnQualified {s : State} (us vlow : Nat) (hmode : s.mode = .holdup) (hponr : ponrPassed s = false)
    (hqual : mainQualified s = false) (hmet : 20 ≤ s.varN .mainCnt) (hheld : s.varB .cutHeld = false)
    (hdown : 33 ≤ yardAt s) : exec (.mainReturnQualified us vlow) s = .next (onRequest 2 (mainReturned s)) := by
  have hyard : yardAt (mainReturned s) = yardAt s := yardAt_congr ((mainReturned_within s).objs _ (by decide) (by simp))
  have hmet' : s.metCond .mainCnt 20 = true := State.metCond_of_le (by decide) hmet
  rw [exec, execMainReturnQualified, if_pos (by simp [hmode, hponr, hqual, hmet']), hheld]
  exact congrArg Host.Outcome.next (if_neg (by omega : ¬ yardAt (mainReturned s) = 0))

/-- HOLDUP in yard state 40, on its way down, as the main input has been valid for 20 µs. -/
def mainBackGoingDown : State := ((State.reset.setO Obj.sysMode 5).setO Obj.sequencerYardState 40).setVar .mainCnt 20

/-- Refutes O24 in its first clause for MAIN_RETURN_QUALIFIED, whose frame leaves out seq.pending: with the rails on their way down the
return is latched as an on request (R26). -/
theorem not_holdupEvents : ¬ Obligations.HoldupEvents := by
  unfold Obligations.HoldupEvents
  intro h
  obtain ⟨-, -, hreturn, -⟩ := h mainBackGoingDown
  have hmode : mainBackGoingDown.mode = .holdup := by decide +kernel
  have hponr : ponrPassed mainBackGoingDown = false := by decide +kernel
  have hqual : mainQualified mainBackGoingDown = false := by decide +kernel
  have hmet : 20 ≤ mainBackGoingDown.varN .mainCnt := by decide +kernel
  have hheld : mainBackGoingDown.varB .cutHeld = false := by decide +kernel
  obtain ⟨t, ht, -, -, -, -, hframe⟩ := hreturn 10 1100 hmode hponr hqual hmet hheld
  rw [exec_mainReturnQualified 10 1100 hmode hponr hqual hmet hheld (by decide +kernel), onRequest_latched 2 (.inr (by decide +kernel))]
    at ht
  obtain rfl := Host.Outcome.next.inj ht
  have hsame := bit_congr (hframe.objs Obj.sequencerPending (by decide) (by simp)) 0
  exact absurd hsame (by decide +kernel)

/-! ## A value that port.cmd does not have (R416) -/

/-- SETUP, with the port attached as a sink under an explicit contract, and Rp at SinkTxNG. -/
def sinkWaiting : State :=
  (((setupState.setO Obj.portState 2).setO Obj.portPowerRole 1).setO Obj.portContract 4).setVar .ccTerm 2

/-- A WRITE of 0x00 to port.cmd on SPI-A. -/
def portCmdZero : Plain := ⟨0, 7, [0], 0⟩

theorem request_portCmdZero : answered (request (plainReq portCmdZero Obj.portCmd) { answer := some .accept } sinkWaiting)
    (plainReq portCmdZero Obj.portCmd) .ok = false := by decide +kernel

/-- Refutes O35 in its clause for a PORT_CMD_DR_SWAP that waits for SinkTxOk, which does not ask that the value written be 0x02: a
write of 0x00 is out of range. -/
theorem not_powerAndPortWrites : ¬ Obligations.PowerAndPortWrites := by
  unfold Obligations.PowerAndPortWrites
  intro h
  obtain ⟨-, -, -, -, -, -, -, -, -, -, -, hwaits, -⟩ := h sinkWaiting
  obtain ⟨t, ht, hans, -⟩ := hwaits .accept portCmdZero (by decide +kernel) (by decide +kernel) (by decide +kernel)
    (by decide +kernel) (by decide +kernel)
  obtain rfl : request (plainReq portCmdZero Obj.portCmd) { answer := some .accept } sinkWaiting = t := Host.Outcome.next.inj ht
  exact absurd hans (by simp [request_portCmdZero])

end Sys2Proof.Machine
end

section
/-!
PROOFS. The fuses and the MRAM array over every step and every command.
-/

namespace Sys2Proof.Machine

theorem OtpKept.refl (s : State) : OtpKept s s := fun _ _ h => h

/-- Settles O55: every command keeps the programmed fuses (`exec_keeps`), and taking it from the queue touches no fuse. -/
theorem fusesOnlyBurn : Obligations.FusesOnlyBurn := by
  unfold Obligations.FusesOnlyBurn
  intro s t hstep
  cases hp : s.pending with
  | nil =>
    rw [step_idle hp] at hstep
    cases hstep
    exact OtpKept.refl s
  | cons c l =>
    rw [step_front hp] at hstep
    obtain ⟨u, hu, hkeeps⟩ := exec_keeps c { s with pending := l }
    obtain rfl : u = t := Host.Outcome.next.inj (hu.symm.trans hstep)
    exact hkeeps.fuses

/-- Settles O56: what a command may touch is `touched`, and `exec_keeps` has every command keep the rest. -/
theorem memoriesWrittenByName : Obligations.MemoriesWrittenByName := by
  unfold Obligations.MemoriesWrittenByName
  intro c s t hexec
  obtain ⟨u, hu, hkeeps⟩ := exec_keeps c s
  obtain rfl : u = t := Host.Outcome.next.inj (hu.symm.trans hexec)
  exact ⟨fun hmram a => by rw [hkeeps.mram hmram], fun hfuses w => by rw [hkeeps.otp hfuses]⟩

end Sys2Proof.Machine
end

section
/-!
PROOFS. The calendar (R417 to R419): the year of a day is found from its number as the count of days grows year by year from 1 March,
and the month from the day of that year.
-/

namespace Sys2Proof.Machine

/-! ## Years from 1 March -/

/-- The days from 1 March of year 0 of an era of 400 years to 1 March of a year of it. -/
def marchDays (y : Nat) : Nat := 365 * y + y / 4 - y / 100

/-- The last day of a year from 1 March, counted like `marchDays`: the last year of an era ends with the leap day of its 400th. -/
def marchEnd (y : Nat) : Nat := if y = 399 then 146096 else marchDays (y + 1) - 1

/-- The year from 1 March in which a day of an era lies, as `dateOf` takes it. -/
def marchYear (e : Nat) : Nat := (e - e / 1460 + e / 36524 - e / 146096) / 365

theorem marchYear_mono {e f : Nat} (h : e ≤ f) : marchYear e ≤ marchYear f := by
  have hquad (n : Nat) : n / 146096 = n / 36524 / 4 := by rw [Nat.div_div_eq_div_mul]
  have hcent : e / 36524 ≤ f / 36524 := Nat.div_le_div_right h
  have hleap : e - e / 1460 ≤ f - f / 1460 := by omega
  unfold marchYear
  rw [hquad, hquad]
  refine Nat.div_le_div_right ?_
  omega

/-- The formula of `dateOf` is right at both ends of each of the 400 years. -/
theorem marchYear_ends : ∀ y < 400, marchYear (marchDays y) = y ∧ marchYear (marchEnd y) = y := by decide +kernel

theorem marchYear_of_between {y e : Nat} (hy : y < 400) (hlo : marchDays y ≤ e) (hhi : e ≤ marchEnd y) : marchYear e = y := by
  obtain ⟨hfirst, hlast⟩ := marchYear_ends y hy
  exact le_antisymm (hlast ▸ marchYear_mono hhi) (hfirst ▸ marchYear_mono hlo)

theorem marchYear_lt {e : Nat} (he : e < 146097) : marchYear e < 400 := by
  have hlast := (marchYear_ends 399 (by decide)).2
  have := marchYear_mono (show e ≤ marchEnd 399 by simp only [marchEnd, if_pos]; omega)
  omega

/-- A day of an era lies between the ends of its year. -/
theorem marchYear_between {e : Nat} (he : e < 146097) : marchDays (marchYear e) ≤ e ∧ e ≤ marchEnd (marchYear e) := by
  have hlt := marchYear_lt he
  constructor
  · by_contra hbefore
    have hpos : marchYear e ≠ 0 := fun h0 => by rw [h0] at hbefore; exact hbefore (Nat.zero_le e)
    have hend : e ≤ marchEnd (marchYear e - 1) := by
      rw [marchEnd, if_neg (by omega), Nat.sub_add_cancel (by omega)]
      omega
    have := marchYear_mono hend
    rw [(marchYear_ends (marchYear e - 1) (by omega)).2] at this
    omega
  · by_contra hafter
    have hnot : marchYear e ≠ 399 := fun h => by rw [h, marchEnd, if_pos rfl] at hafter; omega
    rw [marchEnd, if_neg hnot] at hafter
    have := marchYear_mono (show marchDays (marchYear e + 1) ≤ e by omega)
    rw [(marchYear_ends (marchYear e + 1) (by omega)).1] at this
    omega

/-! ## Months from March -/

/-- The day of a year from 1 March on which a month begins, the months counted from March. -/
def monthStart (mp : Nat) : Nat := (153 * mp + 2) / 5

/-- The month, counted from March, in which a day of the year lies. -/
def marchMonth (doy : Nat) : Nat := (5 * doy + 2) / 153

/-- A month counted from January is this one counted from March. -/
def fromMarch (m : Nat) : Nat := if m > 2 then m - 3 else m + 9

theorem marchMonth_lt {doy : Nat} (h : doy < 366) : marchMonth doy < 12 := by unfold marchMonth; omega

theorem monthStart_marchMonth (doy : Nat) : monthStart (marchMonth doy) ≤ doy := by unfold monthStart marchMonth; omega

theorem lt_monthStart_succ (doy : Nat) : doy < monthStart (marchMonth doy + 1) := by unfold monthStart marchMonth; omega

theorem marchMonth_of_between {mp doy : Nat} (hlo : monthStart mp ≤ doy) (hhi : doy < monthStart (mp + 1)) :
    marchMonth doy = mp := by unfold monthStart at hlo hhi; unfold marchMonth; omega

/-- A month counted from January, of one counted from March. -/
def toMarch (mp : Nat) : Nat := if mp < 10 then mp + 3 else mp - 9

/-! ## Dates -/

theorem daysOf_eq (y m d : Nat) : daysOf y m d =
    (if m ≤ 2 then y - 1 else y) / 400 * 146097 +
      (marchDays ((if m ≤ 2 then y - 1 else y) % 400) + (monthStart (fromMarch m) + d - 1)) - 730425 := by
  unfold daysOf marchDays monthStart fromMarch
  dsimp only
  congr 2
  omega

theorem dateOf_eq (n : Nat) {e y mp d : Nat} (he : (n + 730425) % 146097 = e) (hy : marchYear e = y)
    (hm : marchMonth (e - marchDays y) = mp) (hd : e - marchDays y - monthStart mp + 1 = d) :
    dateOf n = (y + (n + 730425) / 146097 * 400 + (if toMarch mp ≤ 2 then 1 else 0), toMarch mp, d) := by
  subst he hy hm hd
  rfl

theorem monthStart_add_monthLen {y m : Nat} (h1 : 1 ≤ m) (h12 : m ≤ 12) :
    monthStart (fromMarch m) + monthLen y m ≤ monthStart (fromMarch m + 1) ∧
      (m ≠ 2 → monthStart (fromMarch m) + monthLen y m = monthStart (fromMarch m + 1)) := by
  have hfeb : monthLen y 2 ≤ 29 := by rw [monthLen, if_pos rfl]; split <;> decide
  interval_cases m <;> simp [monthStart, fromMarch, monthLen] at hfeb ⊢
  omega

/-- February ends with its year from March. -/
theorem marchDays_add_february {y : Nat} (hy : 2000 ≤ y) :
    marchDays ((y - 1) % 400) + (monthStart 11 + monthLen y 2) = marchEnd ((y - 1) % 400) + 1 := by
  have hleap : isLeap y = true ↔ (y % 4 = 0 ∧ y % 100 ≠ 0) ∨ y % 400 = 0 := by rw [isLeap, decide_eq_true_iff]
  simp only [marchDays, marchEnd, monthStart, monthLen, if_true, hleap]
  split <;> split <;> omega

/-- Every year from March has the 337 days before February, and 28 after. -/
theorem marchDays_add_year (yoe : Nat) (h : yoe < 400) : marchDays yoe + 364 ≤ marchEnd yoe := by
  unfold marchDays marchEnd marchDays
  split <;> omega

theorem marchEnd_le_add {yoe : Nat} (h : yoe < 400) : marchEnd yoe ≤ marchDays yoe + 365 := by
  unfold marchDays marchEnd marchDays
  split <;> omega

theorem marchEnd_lt {yoe : Nat} (h : yoe < 400) : marchEnd yoe < 146097 := by
  unfold marchEnd marchDays
  split <;> omega

/-- The day of its year from March of a date lies in that year. -/
theorem dayOfYear_le {y m d : Nat} (hy : 2000 ≤ y) (h1 : 1 ≤ m) (h12 : m ≤ 12) (hd1 : 1 ≤ d) (hd : d ≤ monthLen y m) :
    marchDays ((if m ≤ 2 then y - 1 else y) % 400) + (monthStart (fromMarch m) + d - 1) ≤
      marchEnd ((if m ≤ 2 then y - 1 else y) % 400) := by
  by_cases hm : m = 2
  · subst hm
    have hfeb := marchDays_add_february hy
    have hmp : fromMarch 2 = 11 := rfl
    rw [if_pos (Nat.le_refl 2), hmp]
    omega
  · obtain ⟨hlen, -⟩ := monthStart_add_monthLen (y := y) h1 h12
    have hmp : fromMarch m + 1 ≤ 11 := by unfold fromMarch; split <;> omega
    have hstart : monthStart (fromMarch m + 1) ≤ 337 := by unfold monthStart; omega
    have hyear := marchDays_add_year ((if m ≤ 2 then y - 1 else y) % 400) (Nat.mod_lt _ (by decide))
    omega

/-- The last 60 days of an era are January and February after its last year from March. -/
theorem le_marchDays_iff {yoe e : Nat} (hyoe : yoe < 400) (hlo : marchDays yoe ≤ e) (hhi : e ≤ marchEnd yoe) :
    146037 ≤ e ↔ yoe = 399 ∧ 10 ≤ marchMonth (e - marchDays yoe) := by
  unfold marchDays at hlo ⊢
  unfold marchEnd marchDays at hhi
  unfold marchMonth
  split at hhi <;> omega

/-- The years 2000 to 2399 are the 146,097 days from 2000-01-01. -/
theorem year_bounds {era yoe e : Nat} (hyoe : yoe < 400) (hlo : marchDays yoe ≤ e) (hhi : e ≤ marchEnd yoe) :
    (2000 ≤ yoe + era * 400 + (if 10 ≤ marchMonth (e - marchDays yoe) then 1 else 0) ↔ 730425 ≤ era * 146097 + e) ∧
      (yoe + era * 400 + (if 10 ≤ marchMonth (e - marchDays yoe) then 1 else 0) < 2400 ↔ era * 146097 + e < 876522) := by
  have hlast := le_marchDays_iff hyoe hlo hhi
  have hend := marchEnd_lt hyoe
  split at * <;> omega

theorem toMarch_fromMarch {m : Nat} (h1 : 1 ≤ m) (h12 : m ≤ 12) : toMarch (fromMarch m) = m := by
  unfold toMarch fromMarch; split <;> split <;> omega

/-- A date gives back its day number (R417). -/
theorem dateOf_daysOf {y m d : Nat} (hy : 2000 ≤ y) (hy' : y < 2400) (h1 : 1 ≤ m) (h12 : m ≤ 12) (hd1 : 1 ≤ d)
    (hd : d ≤ monthLen y m) : dateOf (daysOf y m d) = (y, m, d) ∧ daysOf y m d < 146097 := by
  have hin := dayOfYear_le hy h1 h12 hd1 hd
  obtain ⟨hlen, -⟩ := monthStart_add_monthLen (y := y) h1 h12
  have hjan : m ≤ 2 ↔ 10 ≤ fromMarch m := by unfold fromMarch; split <;> omega
  have hm := toMarch_fromMarch h1 h12
  have hdays := daysOf_eq y m d
  generalize hY : (if m ≤ 2 then y - 1 else y) = Y at hin hdays
  generalize fromMarch m = mp at hin hlen hdays hjan hm
  have hyoe : Y % 400 < 400 := Nat.mod_lt _ (by decide)
  have hend := marchEnd_lt hyoe
  have hyear := marchYear_of_between hyoe (Nat.le_add_right _ _) hin
  have hmonth : marchMonth (marchDays (Y % 400) + (monthStart mp + d - 1) - marchDays (Y % 400)) = mp := by
    rw [Nat.add_sub_cancel_left]
    exact marchMonth_of_between (by omega) (by omega)
  have hy0 : Y % 400 + Y / 400 * 400 + (if 10 ≤ mp then 1 else 0) = y := by
    rw [Nat.mod_add_div', ← hY]
    split <;> split <;> omega
  obtain ⟨hfrom, hto⟩ := year_bounds (era := Y / 400) hyoe (Nat.le_add_right _ (monthStart mp + d - 1)) hin
  rw [hmonth, hy0] at hfrom hto
  have hsum : daysOf y m d + 730425 = Y / 400 * 146097 + (marchDays (Y % 400) + (monthStart mp + d - 1)) := by omega
  have he : (daysOf y m d + 730425) % 146097 = marchDays (Y % 400) + (monthStart mp + d - 1) := by omega
  have hera : (daysOf y m d + 730425) / 146097 = Y / 400 := by omega
  have hd' : marchDays (Y % 400) + (monthStart mp + d - 1) - marchDays (Y % 400) - monthStart mp + 1 = d := by omega
  refine ⟨?_, by omega⟩
  rw [dateOf_eq (daysOf y m d) he hyear hmonth hd', hera, hm]
  simp only [hjan, hy0]

theorem fromMarch_toMarch {mp : Nat} (h : mp < 12) : fromMarch (toMarch mp) = mp := by
  unfold toMarch fromMarch; split <;> split <;> omega

/-- A day number gives back its date (R417, R418). -/
theorem daysOf_dateOf {n : Nat} (h : n < 146097) : ∃ y m d, dateOf n = (y, m, d) ∧ daysOf y m d = n ∧ 2000 ≤ y ∧ y < 2400 ∧
    1 ≤ m ∧ m ≤ 12 ∧ 1 ≤ d ∧ d ≤ monthLen y m := by
  obtain ⟨e, he⟩ : ∃ e, (n + 730425) % 146097 = e := ⟨_, rfl⟩
  obtain ⟨era, hera⟩ : ∃ era, (n + 730425) / 146097 = era := ⟨_, rfl⟩
  have hdate := dateOf_eq n he rfl rfl rfl
  rw [hera] at hdate
  have helt : e < 146097 := by omega
  obtain ⟨hlo, hhi⟩ := marchYear_between helt
  have hyoe := marchYear_lt helt
  obtain ⟨hfrom, hto⟩ := year_bounds (era := era) hyoe hlo hhi
  generalize marchYear e = yoe at *
  have hmp : marchMonth (e - marchDays yoe) < 12 := marchMonth_lt (by have := marchEnd_le_add hyoe; omega)
  have hmlo := monthStart_marchMonth (e - marchDays yoe)
  have hmhi := lt_monthStart_succ (e - marchDays yoe)
  generalize marchMonth (e - marchDays yoe) = mp at *
  have hm := fromMarch_toMarch hmp
  have hjan : toMarch mp ≤ 2 ↔ 10 ≤ mp := by unfold toMarch; split <;> omega
  have h1 : 1 ≤ toMarch mp := by unfold toMarch; split <;> omega
  have h12 : toMarch mp ≤ 12 := by unfold toMarch; split <;> omega
  simp only [← hjan] at hfrom hto
  have hy : 2000 ≤ yoe + era * 400 + (if toMarch mp ≤ 2 then 1 else 0) := by omega
  have hmarch : (if toMarch mp ≤ 2 then yoe + era * 400 + (if toMarch mp ≤ 2 then 1 else 0) - 1
      else yoe + era * 400 + (if toMarch mp ≤ 2 then 1 else 0)) = yoe + era * 400 := by split <;> rfl
  have hmod : (yoe + era * 400) % 400 = yoe := by omega
  have hdiv : (yoe + era * 400) / 400 = era := by omega
  refine ⟨_, toMarch mp, _, hdate, ?_, hy, by omega, h1, h12, Nat.le_add_left 1 _, ?_⟩
  · rw [daysOf_eq, hmarch, hm, hmod, hdiv]
    omega
  · by_cases hfeb : toMarch mp = 2
    · have hend := marchDays_add_february hy
      have hmp11 : mp = 11 := by rw [← hm, hfeb]; rfl
      rw [hfeb] at hend ⊢
      subst hmp11
      rw [if_pos (Nat.le_refl 2), Nat.add_sub_cancel, hmod] at hend
      rw [if_pos (Nat.le_refl 2)]
      omega
    · have hlen := (monthStart_add_monthLen (y := yoe + era * 400 + (if toMarch mp ≤ 2 then 1 else 0)) h1 h12).2 hfeb
      rw [hm] at hlen
      omega

/-- Settles O60: `dateOf` finds the year of a day as the years from 1 March begin and end (`marchYear_ends`), and the month as the months
of such a year do. -/
theorem calendarDates : Obligations.CalendarDates := by
  unfold Obligations.CalendarDates
  exact ⟨fun y m d hy hy' h1 h12 hd1 hd => dateOf_daysOf hy hy' h1 h12 hd1 hd, fun n h => daysOf_dateOf h, by decide, by decide⟩

end Sys2Proof.Machine
end

section
/-!
PROOFS. The commit buffer: what a read leaves of it, what a write that finds room adds to it, and what the lines read afterwards
(R436, R445).
-/

namespace Sys2Proof.Machine

/-! ## The stores behind the lines -/

/-- The MRAM array, the commit buffer and its waiters are as they were. -/
structure StoreSame (s t : State) : Prop where
  mram : t.mram = s.mram
  buf : t.buf = s.buf
  waiters : t.waiters = s.waiters

namespace StoreSame
variable {s t u : State}

theorem refl : StoreSame s s := ⟨rfl, rfl, rfl⟩

theorem trans (h : StoreSame s t) (g : StoreSame t u) : StoreSame s u :=
  ⟨g.mram.trans h.mram, g.buf.trans h.buf, g.waiters.trans h.waiters⟩

theorem ite {c : Prop} {inst : Decidable c} {a b : State} (ha : StoreSame s a) (hb : StoreSame s b) :
    StoreSame s (if c then a else b) := by split <;> assumption

/-- Work within a frame leaves the stores alone. -/
theorem of_within {ks : List Nat} {fs : List (Nat → Nat)} {vs : List VarKind} (h : WithinAll ks fs vs s t) : StoreSame s t := by
  rw [h.rest]; exact ⟨rfl, rfl, rfl⟩

/-- Lines read alike from the same stores. -/
theorem nvmLine_eq (h : StoreSame s t) (l : Nat) : nvmLine t l = nvmLine s l := by
  simp only [nvmLine, bufFind, mramDecode, mramLine, h.buf, h.mram]

theorem nvmBytes_eq (h : StoreSame s t) (a n : Nat) : nvmBytes t a n = nvmBytes s a n := by
  simp only [nvmBytes, h.nvmLine_eq]

end StoreSame

theorem lineLost_store (l : Nat) (scrub : Bool) (s : State) : StoreSame s (lineLost l scrub s) := .ite ⟨rfl, rfl, rfl⟩ ⟨rfl, rfl, rfl⟩

theorem nvmReadEffect_store (l : Nat) (s : State) : StoreSame s (nvmReadEffect l s) := by
  unfold nvmReadEffect
  split
  · exact .refl
  · exact ⟨rfl, rfl, rfl⟩
  · exact lineLost_store _ _ _

theorem commitAsk_store (s : State) : StoreSame s (commitAsk s) := .ite .refl ⟨rfl, rfl, rfl⟩

theorem bufShow_store (s : State) : StoreSame s (bufShow s) := .ite ⟨rfl, rfl, rfl⟩ ⟨rfl, rfl, rfl⟩

/-! ## A write that finds room -/

/-- The entry that bytes of one line make, where the buffer has none for the line. -/
def lineEntry (a : Nat) (d : List Byte) (s : State) : BufLine :=
  ⟨a / 32, overlay (nvmLine s (a / 32)).1 (a % 32) d, s.nowRound, false⟩

/-- The bytes lie in one line that the buffer has no entry for, and the buffer has room. -/
structure FindsRoom (s : State) (a : Nat) (d : List Byte) : Prop where
  bytes : d ≠ []
  oneLine : a % 32 + d.length ≤ 32
  first : s.waiters = []
  room : s.buf.length < 128
  fresh : ∀ b ∈ s.buf, b.line ≠ a / 32

/-- Work on a line's bytes adds its entry at the end of the buffer, and leaves the array and the waiters. -/
structure Enters (a : Nat) (d : List Byte) (s t : State) : Prop where
  mram : t.mram = s.mram
  buf : t.buf = s.buf ++ [lineEntry a d s]
  waiters : t.waiters = s.waiters

theorem nvmReadEffect_nowRound (l : Nat) (s : State) : (nvmReadEffect l s).nowRound = s.nowRound :=
  State.varN_congr ((nvmReadEffect_lineWork l s).vars .nowRound 0 0 (by decide))

/-- A write that finds room enters the buffer, and nothing waits (R436). -/
theorem FindsRoom.enters {s : State} {a : Nat} {d : List Byte} (h : FindsRoom s a d) : Enters a d s (nvmWrite a d s) := by
  obtain ⟨hd, hone, hfirst, hroom, hfresh⟩ := h
  have hcut : d.take (32 - a % 32) = d ∧ d.drop (32 - a % 32) = [] :=
    ⟨List.take_of_length_le (by omega), List.drop_of_length_le (by omega)⟩
  have hnone : (s.buf.any fun b => decide (b.line = a / 32) && !b.committing) = false := by
    rw [List.any_eq_false]
    intro b hb
    simp [hfresh b hb]
  have hwrite : nvmWrite a d s = bufEnter (a / 32) (a % 32) d s := by
    rw [nvmWrite, nvmWriteLoop, if_neg hd]
    simp only [hcut]
    rw [nvmWriteLoop, if_pos rfl, nvmWriteLine, if_pos ⟨hfirst, by simp [bufRoom, hroom]⟩]
  rw [hwrite, bufEnter, hnone, if_neg (by decide)]
  extract_lets u entry v
  have hu : StoreSame s u := .ite .refl (nvmReadEffect_store _ _)
  have hround : u.nowRound = s.nowRound := by
    dsimp only [u]; split
    · rfl
    · exact nvmReadEffect_nowRound _ _
  have hentry : entry = lineEntry a d s := by simp only [entry, lineEntry, hu.nvmLine_eq, hround]
  have hv : Enters a d s v := by
    have hshow := bufShow_store { u with buf := u.buf ++ [entry] }
    exact ⟨hshow.mram.trans hu.mram, hshow.buf.trans (by rw [hu.buf, hentry]), hshow.waiters.trans hu.waiters⟩
  split
  · have hask := commitAsk_store v
    exact ⟨hask.mram.trans hv.mram, hask.buf.trans hv.buf, hask.waiters.trans hv.waiters⟩
  · exact hv

theorem bufFind_append_same {s t : State} {b : BufLine} (h : t.buf = s.buf ++ [b]) : bufFind t b.line = some b := by
  simp [bufFind, h]

theorem bufFind_append_ne {s t : State} {b : BufLine} {l : Nat} (h : t.buf = s.buf ++ [b]) (hl : l ≠ b.line) :
    bufFind t l = bufFind s l := by
  simp [bufFind, h, Ne.symm hl]

theorem Enters.nvmLine_same {s t : State} {a : Nat} {d : List Byte} (h : Enters a d s t) :
    nvmLine t (a / 32) = (overlay (nvmLine s (a / 32)).1 (a % 32) d, some 0) := by
  have hfind : bufFind t (a / 32) = some (lineEntry a d s) := bufFind_append_same h.buf
  rw [nvmLine, hfind]
  rfl

theorem Enters.nvmLine_ne {s t : State} {a : Nat} {d : List Byte} (h : Enters a d s t) {l : Nat} (hl : l ≠ a / 32) :
    nvmLine t l = nvmLine s l := by
  have hfind : bufFind t l = bufFind s l := bufFind_append_ne h.buf hl
  rw [nvmLine, hfind, mramDecode, mramLine, h.mram]
  rfl

/-! ## Bytes laid over a line -/

theorem overlay_drop_take {old d : List Byte} {off : Nat} (h : off ≤ old.length) :
    ((overlay old off d).drop off).take d.length = d := by
  have hlen : (old.take off).length = off := List.length_take_of_le h
  rw [overlay, List.append_assoc, List.drop_append_of_le_length (by omega), List.drop_of_length_le (by omega), List.nil_append,
    List.take_left]

theorem overlay_getElem? {old d : List Byte} {off i : Nat} (h : off ≤ old.length) (hi : i < off ∨ off + d.length ≤ i) :
    (overlay old off d)[i]? = old[i]? := by
  have hlen : (old.take off).length = off := List.length_take_of_le h
  rw [overlay, List.append_assoc]
  rcases hi with hi | hi
  · rw [List.getElem?_append_left (by omega), List.getElem?_take_of_lt hi]
  · rw [List.getElem?_append_right (by omega), List.getElem?_append_right (by omega), List.getElem?_drop]
    congr 1
    omega

/-- Bytes that lie in one line. -/
theorem nvmBytes_oneLine {s : State} {a n : Nat} (hn : 0 < n) (h : a % 32 + n ≤ 32) :
    nvmBytes s a n = ((nvmLine s (a / 32)).1.drop (a % 32)).take n := by
  have hlines : (a % 32 + n + 31) / 32 = 1 := by omega
  simp [nvmBytes, hlines]

/-- The bytes of an entered write read back at once. -/
theorem Enters.nvmBytes_self {s t : State} {a : Nat} {d : List Byte} (h : Enters a d s t) (hd : d ≠ []) (hone : a % 32 + d.length ≤ 32)
    (hline : (nvmLine s (a / 32)).1.length = 32) : nvmBytes t a d.length = d := by
  rw [nvmBytes_oneLine (List.length_pos_iff.2 hd) hone, h.nvmLine_same]
  exact overlay_drop_take (by omega)

/-- Settles O59: the write enters the buffer (`FindsRoom.enters`), whose newest entry of a line is what the line reads. -/
theorem writtenLineReadsBack : Obligations.WrittenLineReadsBack := by
  unfold Obligations.WrittenLineReadsBack
  intro s a d hd hone hfirst hroom hfresh hline
  have henter := FindsRoom.enters ⟨hd, hone, hfirst, hroom, hfresh⟩
  refine ⟨henter.nvmBytes_self hd hone hline, fun i _ hi => ?_, fun l hl => henter.nvmLine_ne hl, henter.mram⟩
  rw [henter.nvmLine_same]
  exact overlay_getElem? (by rw [hline]; omega) hi

end Sys2Proof.Machine
end


section
/-!
PROOFS. Statements of chapters 11 and 13 to 16 that fail, each with a state that the model runs to the refuting outcome.
-/

namespace Sys2Proof.Machine

/-! ## A hand-over over 50 µs raises its class beside the rings (R349, R366) -/

theorem exec_exerciseStart {s : State} (us vlow : Nat) (hgoto : s.varB .exGoto = false) (hstate : s.oN Obj.estExState = 1)
    (hready : exReady s = true) (henough : s.o Obj.estReadyMin ≤ readyAt s (10 * s.o Obj.estExTarget)) :
    exec (.exerciseStart us vlow) s = .next (exStep 2 us vlow 0 s) := by
  rw [exec, execExerciseStart, if_pos (by simp [exIs, hgoto, hstate, hready]), if_neg (by omega)]

/-- SETUP on VIN_MGT, with a requested exercise and a pack that is full and rested. -/
def exerciseReady : State :=
  let s := (((setupState.setO Obj.estExState 1).setO Obj.pwrSrc 1).setO Obj.mgtState 0).setBit Obj.pwrFlags 1 true
  ((((s.setO Obj.pwrChgState 5).setVar .restA 1 0).setVar .restA 1 4).setO Obj.estFlags 1).setO Obj.estReadyMin 0

/-- Refutes O22 in its clause for an EXERCISE_START that is accepted: class 0x00 of source 165, which a hand-over of 51 µs raises, waits
among the events that arrive and not among those taken in. -/
theorem not_packExerciseEvents : ¬ Obligations.PackExerciseEvents := by
  unfold Obligations.PackExerciseEvents
  intro h
  obtain ⟨-, -, -, hstart, -⟩ := h exerciseReady
  have hgoto : exerciseReady.varB .exGoto = false := by decide +kernel
  have hstate : exerciseReady.oN Obj.estExState = 1 := by decide +kernel
  have hready : exReady exerciseReady = true := by decide +kernel
  have henough : exerciseReady.o Obj.estReadyMin ≤ readyAt exerciseReady (10 * exerciseReady.o Obj.estExTarget) := by decide +kernel
  obtain ⟨t, ht, -, -, -, -, -, -, -, -, -, -, hintake, -⟩ := hstart 51 1100 hgoto hstate hready henough
  rw [exec_exerciseStart 51 1100 hgoto hstate hready henough] at ht
  obtain rfl := Host.Outcome.next.inj ht
  exact absurd (congrArg List.length hintake) (by decide +kernel)

end Sys2Proof.Machine
end


section
/-!
PROOFS. Chapter 12: a failed calibration breaks every remote diode and every judged TMON, and a restored sensor reads as it last did.
-/

namespace Sys2Proof.Machine

/-! ## Frames -/

/-- A frame that lists members of families one by one is a frame that lists the families. -/
theorem WithinAll.of_members {ks ls : List Nat} {fs : List (Nat → Nat)} {vs : List VarKind} {s t : State} (h : Within ls vs s t)
    (hls : ∀ k ∈ ls, k ∈ ks ∨ ∃ f ∈ fs, ∃ n, k = f n) : WithinAll ks fs vs s t :=
  ⟨fun k hk hf => h.objs k (fun hm => (hls k hm).elim hk fun ⟨f, hfs, n, e⟩ => hf f hfs n e) (by simp), h.vars, h.rest⟩

/-- A property that holds of the first `k` indices once the work has been done for them. -/
theorem forRange_upTo {P : Nat → State → Prop} {n : Nat} {f : Nat → State → State} {s : State} (h : P 0 s)
    (hf : ∀ i < n, ∀ t, P i t → P (i + 1) (f i t)) : P n (s.forRange n f) := by
  induction n with
  | zero => exact h
  | succ n ih => exact hf n (by omega) _ (ih fun i hi => hf i (by omega))

theorem condOn_congr {s t : State} {a : Nat} (h : t.o (Obj.srcCond a) = s.o (Obj.srcCond a)) (c : Nat) :
    t.condOn a c = s.condOn a c := bit_congr h c

/-! ## What the readings give -/

/-- What th.t_die to th.limiter follow from (R379, R383, R384). -/
def shownKeys : List Nat :=
  [Obj.thTDie, Obj.thTDieMax, Obj.thTPack, Obj.thFlags, Obj.thChgCeiling, Obj.thScaleTarget, Obj.thLimiter]

theorem thermalShow_within (s : State) : Within shownKeys [] s (thermalShow s) := by
  unfold thermalShow
  extract_lets die u v p w room x
  have hu : Within shownKeys [] s u := .ite (.setO .refl (by simp [shownKeys])) .refl
  have hv : Within shownKeys [] s v := .ite (hu.setO (by simp [shownKeys])) hu
  have hx : Within shownKeys [] s x := ((hv.setO (by simp [shownKeys])).setBit (by simp [shownKeys])).setO (by simp [shownKeys])
  exact (hx.setO (by simp [shownKeys])).setO (by simp [shownKeys])

theorem thermalShow_posts (s : State) : (thermalShow s).posts = s.posts := by
  unfold thermalShow
  extract_lets die u v p w room x
  have hu : u.posts = s.posts := by unfold u; split <;> rfl
  have hv : v.posts = u.posts := by unfold v; split <;> rfl
  exact hv.trans hu

/-! ## The key of a sensor -/

/-- The sensors' keys are no other object that a break or a restoration reads or writes. -/
theorem thKey_free : ∀ i < 25, thKey i ∉ shownKeys ∧ thKey i ≠ Obj.thBroken ∧ thKey i ≠ Obj.srcCond 122 ∧
    thKey i ≠ Obj.srcCond 124 ∧ thKey i ≠ Obj.teamRole := by decide +kernel

/-- The key of a remote diode or of a TMON. -/
theorem thKey_remote (j : Nat) : thKey (9 + j) = Obj.thDT j ∨ ∃ n, thKey (9 + j) = Obj.tmT n := by
  unfold thKey
  rw [if_neg (by omega)]
  split
  · exact .inl (by rw [Nat.add_sub_cancel_left])
  · exact .inr ⟨_, rfl⟩

/-! ## A sensor breaks (R382) -/

theorem sensorBreak_within (i crit : Nat) (s : State) :
    Within [thKey i, Obj.thBroken, Obj.srcCond 122] [.thGood, .thSince] s (sensorBreak i crit s) := by
  have hread : Within [thKey i, Obj.thBroken, Obj.srcCond 122] [.thGood, .thSince] s ((s.setO (thKey i) 2400).setVar .thGood 0 i) :=
    (WithinAll.refl.setO (by simp)).setVar (by simp)
  exact .ite hread (((hread.setBit (by simp)).setVar (by simp)).raise (by simp))

theorem thBroken_raise (i a c : Nat) (d : List Byte) (s : State) (ha : Obj.thBroken ≠ Obj.srcCond a) :
    thBroken (s.raise a c d) i = thBroken s i :=
  bit_congr ((WithinAll.refl.raise (ks := [Obj.srcCond a]) (fs := []) (vs := []) (by simp)).objs _ (by simpa using ha) (by simp)) i

theorem thBroken_sensorBreak {i : Nat} (hi : i < 25) (crit : Nat) (s : State) (j : Nat) :
    thBroken (sensorBreak i crit s) j = (decide (j = i) || thBroken s j) := by
  have hread (k : Nat) : thBroken ((s.setO (thKey i) 2400).setVar .thGood 0 i) k = thBroken s k :=
    bit_congr (State.o_setO_ne _ _ (thKey_free i hi).2.1.symm) k
  rw [sensorBreak]
  split
  · next h =>
    by_cases hj : j = i
    · simpa [hj] using h
    · simp [hj, hread]
  · rw [thBroken_raise _ _ _ _ _ (by decide)]
    have hset (u : State) (v : Int) : thBroken ((u.setBit Obj.thBroken i true).setVar .thSince v i) j =
        if j = i then true else thBroken u j := (bit_congr rfl j).trans (State.bit_setBit u _ _ _ _)
    rw [hset, hread]
    by_cases hj : j = i
    · simp [hj]
    · simp [hj]

/-! ## Ten failed calibrations (R377) -/

/-- The objects that the break of the sensors 9 to 24 may write. -/
def remoteKeys : List Nat := [Obj.thBroken, Obj.srcCond 122] ++ (List.range 16).map fun j => thKey (9 + j)

theorem teamRole_not_mem_remoteKeys : Obj.teamRole ∉ remoteKeys := by decide +kernel

/-- The remote sensors, each broken where it is judged. -/
def breakRemotes (s : State) : State := s.forRange 16 fun j s => if thJudged s (9 + j) then sensorBreak (9 + j) 5 s else s

theorem thJudged_congr {ks : List Nat} {vs : List VarKind} {s t : State} (h : Within ks vs s t) (hkeys : Obj.teamRole ∉ ks)
    (hvars : .senOn ∉ vs) (i : Nat) : thJudged t i = thJudged s i := by
  have hpins : t.pins = s.pins := by rw [h.rest]
  have hrole : t.oN Obj.teamRole = s.oN Obj.teamRole := congrArg Int.toNat (h.objs _ hkeys (by simp))
  have hon : t.varB .senOn (i - 13) = s.varB .senOn (i - 13) := State.varB_congr (h.vars _ _ _ hvars)
  rw [thJudged, thJudged, senAsserted, senAsserted, hrole, hon, State.pinB, State.pinB, State.pin, State.pin, hpins]

theorem breakRemotes_spec (s : State) : Within remoteKeys [.thGood, .thSince] s (breakRemotes s) ∧
    ∀ j < 16, thJudged s (9 + j) = true → thBroken (breakRemotes s) (9 + j) = true := by
  refine forRange_upTo (P := fun k t => Within remoteKeys [.thGood, .thSince] s t ∧
    ∀ j < k, thJudged s (9 + j) = true → thBroken t (9 + j) = true) ⟨.refl, by simp⟩ fun i hi t ⟨hwithin, hbroken⟩ => ?_
  have hkey : thKey (9 + i) ∈ remoteKeys :=
    List.mem_append_right _ (List.mem_map.mpr ⟨i, List.mem_range.mpr hi, rfl⟩)
  split
  · refine ⟨hwithin.trans ((sensorBreak_within _ _ _).mono ?_ (by simp) (by simp)), fun j hj hjudged => ?_⟩
    · simp only [List.cons_subset, List.nil_subset, and_true]
      exact ⟨hkey, by simp [remoteKeys], by simp [remoteKeys]⟩
    · rw [thBroken_sensorBreak (by omega)]
      by_cases hji : j = i
      · simp [hji]
      · simp [hbroken j (by omega) hjudged]
  · next hnot =>
    refine ⟨hwithin, fun j hj hjudged => ?_⟩
    by_cases hji : j = i
    · exact absurd ((thJudged_congr hwithin teamRole_not_mem_remoteKeys (by decide) _).trans (hji ▸ hjudged)) hnot
    · exact hbroken j (by omega) hjudged

/-- CALIBRATION_FAILURE raises its class and breaks the remote sensors. -/
def calibrationLost (s : State) : State :=
  s.raise 124 0 (u16 (s.o Obj.hkCalRun) ++ u16 (s.pin .calOff) ++ u16 (s.pin .calGain))

theorem exec_calibrationFailure {s : State} (hfailed : converterFailed s = true) (hoff : s.condOn 124 0 = false) :
    exec .calibrationFailure s = .next (thermalShow (breakRemotes (calibrationLost s))) := by
  rw [exec, execCalibrationFailure, if_pos (by simp [hfailed, hoff])]; rfl

/-! ## A sensor is restored (R382, R393) -/

/-- The sensor counts again, and reads its last valid reading. -/
def sensorBack (i : Nat) (s : State) : State :=
  let t := ((s.setBit Obj.thBroken i false).condOff 122 i).setO (thKey i) (s.var .thLast i)
  (t.post 66).record 0x0904 (u8 i ++ u16 (t.var .thLast i) ++ u32 (t.nowRound - t.varN .thSince i : Nat))

theorem exec_sensorRestored {s : State} {i : Nat} (hfind : (List.range 25).find? (restorable s) = some i) :
    exec .sensorRestored s = .next (thermalShow (sensorBack i s)) := by
  rw [exec, execSensorRestored, hfind]; rfl

theorem sensorBack_within (i : Nat) (s : State) : Within [Obj.srcCond 122, Obj.thBroken, thKey i] [] s (sensorBack i s) :=
  ((((WithinAll.refl.setBit (by simp)).condOff (by simp)).setO (by simp)).post).record

theorem thBroken_sensorBack {i : Nat} (hi : i < 25) (s : State) : thBroken (sensorBack i s) i = false := by
  obtain ⟨-, hbroken, -⟩ := thKey_free i hi
  have hcond : ((s.setBit Obj.thBroken i false).condOff 122 i).o Obj.thBroken = (s.setBit Obj.thBroken i false).o Obj.thBroken :=
    (WithinAll.refl.condOff (ks := [Obj.srcCond 122]) (fs := []) (vs := []) (by simp)).objs _ (by decide) (by simp)
  have hkey : (sensorBack i s).o Obj.thBroken = (s.setBit Obj.thBroken i false).o Obj.thBroken :=
    (State.o_setO_ne _ _ hbroken.symm).trans hcond
  exact (bit_congr hkey i).trans ((State.bit_setBit _ _ _ _ _).trans (if_pos rfl))

theorem condOn_sensorBack {i : Nat} (hi : i < 25) (s : State) : (sensorBack i s).condOn 122 i = false := by
  obtain ⟨-, -, hcond, -⟩ := thKey_free i hi
  have hkey : (sensorBack i s).o (Obj.srcCond 122) = ((s.setBit Obj.thBroken i false).condOff 122 i).o (Obj.srcCond 122) :=
    State.o_setO_ne _ _ hcond.symm
  exact (condOn_congr hkey i).trans (State.condOff_condOn _ _ _)

theorem posts_sensorBack (i : Nat) (s : State) : (sensorBack i s).posts = s.posts ++ [66] := by
  have hcond : ((s.setBit Obj.thBroken i false).condOff 122 i).posts = s.posts := by
    unfold State.condOff; split <;> rfl
  exact congrArg (· ++ [66]) hcond

/-- Settles O12, each clause by the command's next state, whose readings follow from what the break or the restoration wrote. -/
theorem thermalEvents : Obligations.ThermalEvents := by
  unfold Obligations.ThermalEvents
  intro s
  and_intros
  case refine_1 =>
    intro hfailed hoff
    obtain ⟨hremote, hbroken⟩ := breakRemotes_spec (calibrationLost s)
    have hshow := thermalShow_within (breakRemotes (calibrationLost s))
    have hlost : Within [Obj.srcCond 124] [] s (calibrationLost s) := WithinAll.refl.raise (by simp)
    refine ⟨_, exec_calibrationFailure hfailed hoff, ?_, fun j hj hjudged => ?_, ?_⟩
    · rw [condOn_congr (hshow.objs _ (by decide +kernel) (by simp)), condOn_congr (hremote.objs _ (by decide +kernel) (by simp))]
      exact State.raise_condOn _ _ _ _
    · have hsame := thJudged_congr hlost (by decide) (by simp) (9 + j)
      exact (bit_congr (hshow.objs Obj.thBroken (by decide +kernel) (by simp)) _).trans (hbroken j hj (hsame.trans hjudged))
    · have hall : Within (shownKeys ++ Obj.srcCond 124 :: remoteKeys) [.thGood, .thSince] s
          (thermalShow (breakRemotes (calibrationLost s))) :=
        ((hlost.mono (by simp) (by simp) (by simp)).trans (hremote.mono (by simp) (by simp) (by simp))).trans
          (hshow.mono (by simp) (by simp) (by simp))
      refine WithinAll.of_members hall fun k hk => ?_
      simp only [List.mem_append, List.mem_cons, remoteKeys, List.mem_map, shownKeys, List.not_mem_nil, or_false] at hk ⊢
      rcases hk with hk | rfl | (rfl | rfl) | ⟨j, -, rfl⟩
      · left; tauto
      · simp
      · simp
      · simp
      · exact .inr ((thKey_remote j).elim (fun e => ⟨_, .inl rfl, j, e⟩) fun ⟨n, e⟩ => ⟨_, .inr rfl, n, e⟩)
  case refine_2 =>
    intro i hfind
    have hi : i < 25 := List.mem_range.mp (List.mem_of_find?_eq_some hfind)
    obtain ⟨hkey, -⟩ := thKey_free i hi
    have hshow := thermalShow_within (sensorBack i s)
    refine ⟨_, exec_sensorRestored hfind, ?_, ?_, ?_, ?_, ?_⟩
    · exact (bit_congr (hshow.objs Obj.thBroken (by decide) (by simp)) i).trans (thBroken_sensorBack hi s)
    · exact (condOn_congr (hshow.objs _ (by decide) (by simp)) i).trans (condOn_sensorBack hi s)
    · exact (hshow.objs _ hkey (by simp)).trans (State.o_setO_self _ _ _)
    · exact (thermalShow_posts _).trans (posts_sensorBack i s)
    · exact ((sensorBack_within i s).mono (by simp) (by simp) (by simp)).trans
        (hshow.mono (by simp [shownKeys]) (by simp) (by simp))

end Sys2Proof.Machine
end


section
/-!
PROOFS. Statements of chapter 13 that fail, each with a state that the model runs to the refuting outcome: both leave out the voltage of
the old contract, which counts until a transition has ended (R404, R406).
-/

namespace Sys2Proof.Machine

/-- A sink whose contract has come down from 15 V to 5 V, in the 10 ms after the PS_RDY. -/
def portStepDown : State :=
  let s := (((setupState.setO Obj.portState 2).setBit Obj.portFlags 1 true).setBit Obj.portFlags 3 true).setO Obj.portContract 4
  ((s.setO Obj.portVContract 5000).setO Obj.portIContract 900).setVar .oldV 15000 |>.setVar .transT 1

/-! ## An overvoltage is judged against the higher of the old and the new voltage (R404) -/

theorem exec_vbusProtectionTrip_below {s : State} {kind val : Nat} (h : 20 * val ≤ tripLimit20 s kind) :
    exec (.vbusProtectionTrip kind val) s = .next s := by
  rw [exec, execVbusProtectionTrip, if_neg (by simp only [Bool.and_eq_true, decide_eq_true_eq, not_and]; omega)]

/-- Refutes O26 in its clause for a VBUS_PROTECTION_TRIP with an error recovery: 6 V on the way from 15 V to 5 V is over 110 % of the
new voltage and not of the old one, and no trip. -/
theorem not_portAttachEvents : ¬ Obligations.PortAttachEvents := by
  unfold Obligations.PortAttachEvents
  intro h
  obtain ⟨-, -, -, -, -, -, -, -, -, -, -, -, -, -, -, -, -, htrip, -⟩ := h portStepDown
  obtain ⟨t, ht, hstate, -⟩ := htrip 1 6000 (by decide +kernel) (by decide +kernel) (by decide +kernel)
  rw [exec_vbusProtectionTrip_below (by decide +kernel)] at ht
  obtain rfl := Host.Outcome.next.inj ht
  exact absurd hstate (by decide +kernel)

/-! ## The end of a transition forgets the old voltage (R404) -/

theorem exec_transitionEnd {s : State} (hon : s.bit Obj.portFlags 3 = true) (hdue : s.dueT .transT = true) :
    exec .transitionEnd s = .next (clearTransition s) := by
  rw [exec, execTransitionEnd, if_pos (by rw [hon, hdue]; rfl)]

/-- Refutes O27 in its clause for a TRANSITION_END, whose frame leaves out the old voltage. -/
theorem not_pdMessageEvents : ¬ Obligations.PdMessageEvents := by
  unfold Obligations.PdMessageEvents
  intro h
  obtain ⟨-, -, -, -, -, hend, -⟩ := h portStepDown
  have hon : portStepDown.bit Obj.portFlags 3 = true := by decide +kernel
  have hdue : portStepDown.dueT .transT = true := by decide +kernel
  obtain ⟨t, ht, -, -, hframe⟩ := hend hon hdue
  rw [exec_transitionEnd hon hdue] at ht
  obtain rfl := Host.Outcome.next.inj ht
  exact absurd (hframe.vars .oldV 0 0 (by decide)) (by decide +kernel)

end Sys2Proof.Machine
end


section
/-!
PROOFS. A keyed command of chapters 14 to 19 that succeeds and leaves more than its statement's frame allows.
-/

namespace Sys2Proof.Machine

theorem writeValue_commandB {q : Req} {aux : Aux} {r : Row} {k : Nat} {v : Int} {s t : State} {st : Status}
    (hk : k ∉ [Obj.sysModeReq, Obj.budgetGrant, Obj.portCmd]) (hother : commandA q.port k v.toNat s = none)
    (h : commandB q.port q.slot aux.copies k v s = some (st, t)) : writeValue q aux r k v s = (some st, t) := by
  simp only [List.mem_cons, List.not_mem_nil, or_false, not_or] at hk
  obtain ⟨hmode, hgrant, hport⟩ := hk
  rw [writeValue, if_neg hmode, if_neg hgrant, if_neg hport, hother]
  simp only [h]

/-- An accepted write of an object that the twin does not share does what its value does. -/
theorem writeObject_alone {q : Req} {aux : Aux} {r : Row} {s t : State} {k : Nat} {st : Option Status}
    (hkey : objKey q.index q.sub = k) (hlen : q.data.length = r.ty.size) (hacc : r.access ≠ .rws) (hserve : mayServe s k = true)
    (halone : grouped k = false) (hvalue : writeValue q aux r k (decodeVal r.ty q.data) s = (st, t)) :
    writeObject q aux r s = (st, t) := by
  rw [writeObject]
  simp only [hkey, hlen, hacc, hserve, halone, hvalue, ne_eq, not_true_eq_false, decide_false, Bool.and_false, Bool.not_true,
    Bool.false_and, Bool.false_eq_true, false_and, and_false, if_false]

/-- What an accepted keyed command of one byte finds: its row, and the right to be served. -/
theorem keyedOk_row {s : State} {c : Keyed} {key : Nat} {a : Access} {ap : Apply} (h : keyedOk s c key = true)
    (hdict : (dictRow (keyIndex key) (keySub key)).map (fun d => (d.ty, d.access, d.apply)) = some (.u8, a, ap))
    (hsrc : ¬(0x2400 ≤ keyIndex key ∧ keyIndex key < 0x2500)) :
    mayServe s key = true ∧ ∃ r, objRow s (keyIndex key) (keySub key) = some r ∧ r.ty = .u8 ∧ r.access = a := by
  have hparts := h
  simp only [keyedOk, storeOk, Bool.and_eq_true] at hparts
  obtain ⟨⟨⟨hfree, -⟩, -⟩, hserve, -⟩ := hparts
  obtain ⟨r, hrow⟩ := objRow_of_preCheck (freeFor_iff.1 hfree).2 (by decide : 3 ≠ 6)
  have hr : (dictRow (keyIndex key) (keySub key)).map _ = _ := objRow_some hrow (.inl hsrc)
  rw [hdict, Option.some.injEq, Prod.mk.injEq, Prod.mk.injEq] at hr
  obtain ⟨hty, hacc, -⟩ := hr
  exact ⟨hserve, r, hrow, hty.symm, hacc.symm⟩

theorem decodeVal_byte (v : Byte) : (decodeVal .u8 [v]).toNat = v.toNat := by simp [decodeVal, Ty.signed, ofLeBytes]

/-! ## The activation remembers the yard's state at its write (R518) -/

theorem commandB_imgActivate (p slot copies : Nat) (v : Int) (s : State) :
    commandB p slot copies Obj.imgActivate v s = some (imgActivate v.toNat s) := rfl

/-- What an accepted activation leaves, but for the end of its request. -/
def activated (v : Nat) (s : State) : State :=
  ((s.setO Obj.imgPending v).setVar .imgDue 0).setVar .imgYard (s.o Obj.sequencerYardState)

theorem commandA_imgActivate (p v : Nat) (s : State) : commandA p Obj.imgActivate v s = none := rfl

theorem imgActivate_accepted {s : State} {v : Nat} (hv : v ≤ 0x3F) (hmode : s.mode ≠ .run) (hok : activationOk s v = true) :
    imgActivate v s = (.ok, activated v s) := by
  rw [imgActivate, if_neg (by omega)]
  simp [hmode, hok, activated]

/-- The state of the staging bank is no counter of a slot's. -/
theorem atCommand_o_imgState {s : State} {c : Keyed} (key : Nat) (hp : c.port < 5) (hslot : c.slot < 4)
    (hcounter : c.counter < 0xF0000000) : (atCommand c key s).o Obj.imgState = s.o Obj.imgState := by
  have hspent (u : State) : (consumeCounter (keyedReq c key) u).o Obj.imgState = u.o Obj.imgState := by
    have hne : Obj.imgState ≠ Obj.keyLast c.slot := by simp only [Obj.imgState, Obj.keyLast, objKey]; omega
    have hset := u.o_setO_ne (c.counter : Int) hne
    unfold consumeCounter
    extract_lets k v
    split
    · exact hset
    · rw [if_neg (by simp only [keyedReq]; omega)]; exact hset
  exact (hspent _).trans ((atChecks_received_tagJob (q := keyedReq c key) hp {} s).o_eq (by decide))

theorem writeObject_imgActivate {s : State} {c : Keyed} {r : Row} {v : Byte} (hty : r.ty = .u8) (hacc : r.access = .wok)
    (hdata : c.data = [v]) (hserve : mayServe s Obj.imgActivate = true) (hcmd : imgActivate v.toNat s = (.ok, activated v.toNat s)) :
    writeObject (keyedReq c Obj.imgActivate) {} r s = (some .ok, activated v.toNat s) := by
  have hdata' : (keyedReq c Obj.imgActivate).data = [v] := hdata
  have hval : (decodeVal r.ty (keyedReq c Obj.imgActivate).data).toNat = v.toNat := by rw [hty, hdata', decodeVal_byte]
  refine writeObject_alone (k := Obj.imgActivate) (objKey_keyIndex_keySub _) (by rw [hty, hdata']; rfl) (by rw [hacc]; decide) hserve
    (by decide) (writeValue_commandB (by decide) (commandA_imgActivate _ _ _) ?_)
  rw [commandB_imgActivate, hval, hcmd]

/-- An accepted activation leaves the yard's state in the hidden quantity of its own, whatever the counter's end does. -/
theorem request_imgActivate_yard {s : State} {c : Keyed} {v : Byte} (h : keyedOk s c Obj.imgActivate = true) (hdata : c.data = [v])
    (hv : v.toNat ≤ 0x3F) (hmode : s.mode ≠ .run) (hstage : s.oN Obj.imgState = 2) (hslot : c.slot < 4)
    (hcounter : c.counter < 0xF0000000) :
    (request (keyedReq c Obj.imgActivate) {} s).var .imgYard = s.o Obj.sequencerYardState := by
  have hp := keyedOk_port h
  obtain ⟨hserve, r, hrow, hty, hacc⟩ := keyedOk_row h (a := .wok) (ap := .immediate) (by decide +kernel) (by decide)
  have hmode' : (atCommand c Obj.imgActivate s).mode ≠ .run := by rwa [atCommand_mode _ hp]
  have hstage' : (atCommand c Obj.imgActivate s).oN Obj.imgState = 2 := by
    rwa [State.oN, atCommand_o_imgState _ hp hslot hcounter]
  have hok : activationOk (atCommand c Obj.imgActivate s) v.toNat = true := by simp [activationOk, hstage', hmode']
  have hyard : (atCommand c Obj.imgActivate s).o Obj.sequencerYardState = s.o Obj.sequencerYardState :=
    atCommand_o hp (by decide) (by decide) (by decide)
  have hflags : (activated v.toNat (atCommand c Obj.imgActivate s)).o Obj.portFlags = s.o Obj.portFlags :=
    (State.o_setO_ne _ _ (by decide)).trans (atCommand_o hp (by decide) (by decide) (by decide))
  have hwrite := writeObject_imgActivate hty hacc hdata ((atCommand_mayServe _ hp _).trans hserve) (imgActivate_accepted hv hmode' hok)
  obtain ⟨-, hend⟩ := keyedOk_answersFrom h hrow (by rw [hacc]; decide) hwrite hflags
  exact (hend.vars .imgYard 0 0 (by decide)).trans ((State.var_setVar_self _ _ _ _ _).trans hyard)

/-- SETUP with slot 0 enrolled and an image that is ready, and the rails up. -/
def imgReady : State := (enrolled.setO Obj.imgState 2).setO Obj.sequencerYardState 32

/-- The keyed write of img.activate that names 0x3F. -/
def activateAll : Keyed := signed Obj.imgActivate [0x3F]

theorem keyedOk_activateAll : keyedOk imgReady activateAll Obj.imgActivate = true :=
  keyedOk_signed _ _ _ (by decide +kernel) (by decide +kernel) (by decide +kernel) (by decide +kernel)

/-- Refutes O40 in its clause for an IMG_ACTIVATE that is accepted, whose frame leaves out the state of the yard that the activation
remembers. -/
theorem not_keyedStoreWrites : ¬ Obligations.KeyedStoreWrites := by
  unfold Obligations.KeyedStoreWrites
  intro h
  obtain ⟨-, -, -, -, -, -, -, -, -, -, -, hactivate, -⟩ := h imgReady
  obtain ⟨t, ht, -, -, -, hframe⟩ := hactivate activateAll keyedOk_activateAll (by decide) (by decide) (by decide +kernel)
  obtain rfl : request (keyedReq activateAll Obj.imgActivate) {} imgReady = t := Host.Outcome.next.inj ht
  have hsame := hframe.vars .imgYard 0 0 (by decide)
  rw [request_imgActivate_yard (v := 0x3F) keyedOk_activateAll rfl (by decide) (by decide +kernel) (by decide +kernel) (by decide)
    (by decide)] at hsame
  exact absurd hsame (by decide +kernel)

/-! ## A capture remembers whether the time is valid (R467) -/

/-- An accepted command of the clock, memory, recorder, watchdog, security and ledger chapters is answered, and leaves what its effect
has left. -/
theorem PlainWrite.commandB_answers {s x : State} {c : Plain} {key : Nat} {r : Row} {st : Status} (h : PlainWrite s c key r)
    (hk : key ∉ [Obj.sysModeReq, Obj.budgetGrant, Obj.portCmd]) (hidx : ¬(0x1100 ≤ keyIndex key ∧ keyIndex key < 0x110C))
    (halone : grouped key = false) (hother : commandA c.port key (decodeVal r.ty c.data).toNat (atWrite c key s) = none)
    (hcmd : commandB c.port 0 0 key (decodeVal r.ty c.data) (atWrite c key s) = some (st, x))
    (hflags : x.o Obj.portFlags = (atWrite c key s).o Obj.portFlags) :
    AnswersFrom x (plainReq c key) st (request (plainReq c key) {} s) := by
  have hwrite := h.writeObject_eq (writeValue_commandB (q := plainReq c key) (aux := {}) hk hother hcmd)
  rw [halone] at hwrite
  exact h.answersFrom hidx (by simpa using hwrite) (hflags.trans (h.received.reached.o_eq (by decide)))

theorem nvmTouch_lineWork (addr n : Nat) (s : State) : LineWork s (nvmTouch addr n s) :=
  RegsWithin.refl.forRange fun _ _ h => h.trans (nvmReadEffect_lineWork _ _)

/-- A trigger is missed, or the capture it starts remembers whether the time is valid. -/
theorem bbTrigger_valid (trig : Nat) (s : State) : (bbTrigger trig s).o Obj.portFlags = s.o Obj.portFlags ∧
    ((bbTrigger trig s).o Obj.sbBbState = s.o Obj.sbBbState ∨ (bbTrigger trig s).varB .bbValid = s.rtcValid) := by
  have htouch : LineWork s (if decide (s.oN Obj.sbBbState = 1) = true then s else nvmTouch (bbAddr 0) 65536 s) :=
    RegsWithin.ite RegsWithin.refl (nvmTouch_lineWork _ _ _)
  unfold bbTrigger
  extract_lets busy u g0 g1 k image v w x y z
  have hu (q : Nat) (hq : q ∉ lineKeys) : u.o q = s.o q := htouch.objs q hq (by simp)
  split
  · have hmissed : Within [Obj.sbBbMissed] [] u (((u.bump Obj.sbBbMissed).post 99).record 0x0C43
        (u8 trig ++ u8 (if busy = true then 1 else 0))) := ((WithinAll.refl.bump (by simp)).post).record
    exact ⟨(hmissed.objs _ (by decide) (by simp)).trans (hu _ (by decide)),
      .inl ((hmissed.objs _ (by decide) (by simp)).trans (hu _ (by decide)))⟩
  · have hv : RegsWithin [] [] [] u v := RegsWithin.of_eq rfl rfl
    have hset : RegsWithin [] [] [.bbSlot, .bbLine, .bbTrig, .bbGen] v w :=
      (((RegsWithin.refl.setVar (by simp)).setVar (by simp)).setVar (by simp)).setVar (by simp)
    have hlater : RegsWithin [Obj.sbBbState] [] [.bbTime, .bbCause, .bbOp, .bbFrame]
        ((w.setFlag .bbFree false).setFlag .bbValid w.rtcValid) z :=
      ((((RegsWithin.refl.setVar (by simp)).setVar (by simp)).setVar (by simp)).setVar (by simp)).setO (by simp)
    have hwrite := nvmWrite_lineWork (bbAddr k) (bbHead z ++ u16 0 ++ u16 0) z
    have hkept (q : Nat) (hq : q ∉ lineKeys) : w.o q = s.o q :=
      ((hset.objs q (by simp) (by simp)).trans (hv.objs q (by simp) (by simp))).trans (hu q hq)
    have hend : RegsWithin [Obj.sbBbState] [] [.bbFree, .bbValid, .bbTime, .bbCause, .bbOp, .bbFrame] w z :=
      ((RegsWithin.refl.setFlag (by simp)).setFlag (by simp)).trans (hlater.mono (by simp) (by simp) (by simp))
    refine ⟨(hwrite.objs _ (by decide) (by simp)).trans ((hend.objs _ (by decide) (by simp)).trans (hkept _ (by decide))), .inr ?_⟩
    have hvalid : z.varB .bbValid = w.rtcValid :=
      (State.varB_congr (hlater.vars .bbValid 0 0 (by decide))).trans (State.varB_setFlag_self _ _ _ _ _)
    exact (State.varB_congr (hwrite.vars .bbValid 0 0 (by decide))).trans (hvalid.trans (bit_congr (hkept _ (by decide)) 1))

/-- SETUP with a valid time, and no capture so far. -/
def timeKnown : State := setupState.setBit Obj.rtcStatus 1 true

/-- A WRITE of 0x01 to sb.bb_cmd on SPI-A. -/
def captureNow : Plain := ⟨0, 7, [1], 0⟩

theorem commandA_sbBbCmd (p v : Nat) (s : State) : commandA p Obj.sbBbCmd v s = none := rfl

theorem commandB_sbBbCmd (p slot copies : Nat) (v : Int) (s : State) :
    commandB p slot copies Obj.sbBbCmd v s = some (bbCmd v.toNat s) := rfl

/-- Refutes O36 in its clause for a BB_CMD_CAPTURE that begins, whose frame leaves out that the capture's time is valid. -/
theorem not_clockAndStoreWrites : ¬ Obligations.ClockAndStoreWrites := by
  unfold Obligations.ClockAndStoreWrites
  intro h
  obtain ⟨-, -, -, -, -, -, -, -, -, hcapture, -⟩ := h timeKnown
  have hok : plainOk timeKnown captureNow Obj.sbBbCmd = true := by decide +kernel
  obtain ⟨t, ht, -, hbegun, -, -, hframe⟩ := hcapture captureNow hok rfl (by decide +kernel) (by decide +kernel)
  obtain rfl : request (plainReq captureNow Obj.sbBbCmd) {} timeKnown = t := Host.Outcome.next.inj ht
  obtain ⟨r, hwrite, hty, -⟩ := plainWrite_of_plainOk (ty := .u8) (ap := .immediate) hok (.inl (by decide)) (by decide +kernel) rfl
  have hreached := hwrite.received.reached
  obtain ⟨hflags, hcases⟩ := bbTrigger_valid 3 (atWrite captureNow Obj.sbBbCmd timeKnown)
  have hcmd : bbCmd (decodeVal r.ty captureNow.data).toNat (atWrite captureNow Obj.sbBbCmd timeKnown) =
      (.ok, bbTrigger 3 (atWrite captureNow Obj.sbBbCmd timeKnown)) := by rw [hty]; rfl
  have hans := hwrite.commandB_answers (by decide) (by decide) (by decide) (commandA_sbBbCmd _ _ _)
    ((commandB_sbBbCmd _ _ _ _ _).trans (congrArg some hcmd)) hflags
  rcases hcases with hidle | hvalid
  · have hstate := (hans.regs.objs Obj.sbBbState (by simp) (by simpa using ne_canTx (by decide))).trans
      (hidle.trans (hreached.o_eq (by decide)))
    rw [State.oN, hstate] at hbegun
    exact absurd hbegun (by decide +kernel)
  · have hsame := hvalid.symm.trans ((State.varB_congr (hans.regs.vars .bbValid 0 0 (by simp))).symm.trans
      (State.varB_congr (hframe.vars .bbValid 0 0 (by decide))))
    have htime : (atWrite captureNow Obj.sbBbCmd timeKnown).rtcValid = true :=
      (bit_congr (hreached.o_eq (by decide)) 1).trans (by decide +kernel)
    exact absurd (htime.symm.trans hsame) (by decide +kernel)

end Sys2Proof.Machine
end


section
/-!
PROOFS. Statements of chapters 19 and 20 that fail, each with a state that the model runs to the refuting outcome.
-/

namespace Sys2Proof.Machine

/-! ## The job of a CLAIM begins at once (R45, R499) -/

/-- SETUP in bench mode, frame 1,000, with the identity key programmed and no owner. -/
def claimable : State := (((setupState.setO Obj.keyIdState 2).setBit Obj.portFlags 4 true).setO Obj.mgtVin 1200).setVar .now 1000

/-- A first CLAIM through the bench UART. -/
def firstClaim : Req := ⟨4, 6, 7, 0x40F0, 1, 0, 132, 0, [], 0, claimBody 1 0 true, {}⟩

theorem request_firstClaim : (request firstClaim {} claimable).varN .jobBegan = 1000 := by decide +kernel

/-- Refutes O44 in its clause for a CLAIM that is accepted, whose frame leaves out the frame in which the job begins. -/
theorem not_claimCommands : ¬ Obligations.ClaimCommands := by
  unfold Obligations.ClaimCommands
  intro h
  obtain ⟨hclaim, -⟩ := h claimable
  obtain ⟨t, ht, -, -, -, -, -, -, hframe⟩ := hclaim firstClaim rfl rfl (by decide +kernel) (by decide +kernel)
  obtain rfl : request firstClaim {} claimable = t := Host.Outcome.next.inj ht
  have hsame := congrArg Int.toNat (hframe.vars .jobBegan 0 0 (by decide))
  exact absurd (request_firstClaim.symm.trans hsame) (by decide +kernel)

end Sys2Proof.Machine
end


section
/-!
PROOFS. A BLOCKREAD of the image key, whose lines are decoded with the effects of a read (R445, R495).
-/

namespace Sys2Proof.Machine

/-- SETUP, with a byte in error in the array's first line of the image key. -/
def imageKeyWorn : State := { setupState with mram := FMap.set 0 setupState.mram (38 * (Ledger.image / 32)) 1 }

/-- A BLOCKREAD of the first 32 bytes of key.img_pub on SPI-A. -/
def readImageKey : Req := ⟨0, 4, 7, keyIndex Obj.keyImgPub, keySub Obj.keyImgPub, 0, 32, 0, [], 0, [], {}⟩

theorem request_readImageKey : (request readImageKey {} imageKeyWorn).o Obj.nvmCorrected = 1 := by decide +kernel

/-- The row of key.img_pub. -/
def imgPubRow : Row := ⟨0x4000, 1, 0x08, 1, 1, .oct 64, .ro, .none, 0, 0, none, .val 0, false⟩

theorem exists_snd {α β : Type} {p : α × β} {a : α} (h : p.1 = a) : ∃ b, p = (a, b) := ⟨p.2, by rw [← h]⟩

/-- Refutes O42 in its clause for a BLOCKREAD of one segment, which has every object outside NVM read without an effect: the image key
is read from its lines, and a byte corrected there is counted. -/
theorem not_blockRequestsAndRetries : ¬ Obligations.BlockRequestsAndRetries := by
  unfold Obligations.BlockRequestsAndRetries
  intro h
  obtain ⟨hread, -⟩ := h imageKeyWorn
  have hkey : objKey readImageKey.index readImageKey.sub = Obj.keyImgPub := objKey_keyIndex_keySub _
  obtain ⟨d, hd⟩ : ∃ d, largeBytes (takeIn readImageKey.port imageKeyWorn) Obj.keyImgPub imgPubRow = (.ok, d) :=
    exists_snd (by decide +kernel)
  obtain ⟨t, ht, -, -, -, hframe⟩ := hread readImageKey imgPubRow d rfl (by decide +kernel) (by decide) (by decide +kernel)
    (by decide +kernel) (by rw [hkey]; decide) (by rw [hkey]; decide) (by rw [hkey]; decide +kernel) (by rw [hkey]; exact hd)
  obtain rfl : request readImageKey {} imageKeyWorn = t := Host.Outcome.next.inj ht
  have hsame := hframe.objs Obj.nvmCorrected (by decide) ?family
  case family =>
    simp only [List.mem_cons, List.not_mem_nil, or_false, forall_eq_or_imp, forall_eq, Obj.nvmCorrected, Obj.canRx, Obj.canTx,
      Obj.spiFrames, objKey]
    exact ⟨fun n => by omega, fun n => by omega, fun n => by omega⟩
  exact absurd (request_readImageKey.symm.trans hsame) (by decide +kernel)

end Sys2Proof.Machine
end


section
/-!
PROOFS. Chapter 15: a commit that starts, the scrubber's step, and the end of an OTP programming.
-/

namespace Sys2Proof.Machine

/-! ## The job of a commit begins with it (R45, R438) -/

/-- What COMMIT_START leaves where CRES carries a commit. -/
def commitStarted (s : State) : State :=
  let t := jobRequest 5 .commit { s with buf := s.buf.map fun b => { b with committing := true }, saving := countersNow s }
  let u := (t.setFlag .commitReq false).setVar .commitMarker ((t.buf.length + 1 : Nat) : Int)
  ((u.setVar .commitStart u.now).setVar .commitLast ((u.now : Int) - 2)).setO Obj.nvmState 3

theorem exec_commitStart {s : State} (hreq : s.varB .commitReq = true) (hfree : (jobRunning s 5).isNone = true)
    (hcres : 420 ≤ s.oN Obj.nvmCres) : exec .commitStart s = .next (commitStarted s) := by
  rw [exec, execCommitStart, if_pos (by rw [commitWanted, hreq, hfree]; rfl), if_pos hcres]
  rfl

/-- SETUP at frame 1,000 with a commit requested, CRES at 4.2 V and no job. -/
def commitReady : State := ((setupState.setO Obj.nvmCres 420).setVar .commitReq 1).setVar .now 1000

theorem commitStarted_began : (commitStarted commitReady).varN .jobBegan 5 = 1000 := by decide +kernel

/-- Refutes O19 in its clause for a COMMIT_START that starts, whose frame leaves out the frame in which the job begins. -/
theorem not_commitEvents : ¬ Obligations.CommitEvents := by
  unfold Obligations.CommitEvents
  intro h
  obtain ⟨-, hstart, -⟩ := h commitReady
  have hreq : commitReady.varB .commitReq = true := by decide +kernel
  have hfree : (jobRunning commitReady 5).isNone = true := by decide +kernel
  have hcres : 420 ≤ commitReady.oN Obj.nvmCres := by decide +kernel
  obtain ⟨t, ht, -, -, -, -, -, -, -, -, hframe⟩ := hstart hreq hfree hcres
  rw [exec_commitStart hreq hfree hcres] at ht
  obtain rfl := Host.Outcome.next.inj ht
  have hsame := congrArg Int.toNat (hframe.vars .jobBegan 5 0 (by decide))
  exact absurd (commitStarted_began.symm.trans hsame) (by decide +kernel)

/-! ## Burning fuses (R448 to R450) -/

/-- The objects that show the fuses' maps. -/
abbrev mapKeys : List Nat := [Obj.otpMarginal, Obj.otpRevoked, Obj.otpDefaults]

theorem otpShow_within (s : State) : Within mapKeys [] s (otpShow s) :=
  ((WithinAll.refl.setO (by simp)).setO (by simp)).setO (by simp)

theorem otpBurn_regs (w v : Nat) (s : State) : RegsWithin mapKeys [] [] s (otpBurn w v s) :=
  (RegsWithin.of_eq rfl rfl : RegsWithin mapKeys [] [] s (s.burnFuse w v)).trans
    (RegsWithin.ofAll (otpShow_within _))

theorem otpShow_eq (s : State) : ∃ m r, otpShow s =
    ((s.setO Obj.otpMarginal m).setO Obj.otpRevoked r).setO Obj.otpDefaults (shadowWord s 34) := ⟨_, _, rfl⟩

theorem otpBurn_eq (w v : Nat) (s : State) : ∃ m r d, otpBurn w v s =
    (((s.burnFuse w v).setO Obj.otpMarginal m).setO Obj.otpRevoked r).setO Obj.otpDefaults d := by
  obtain ⟨m, r, h⟩ := otpShow_eq (s.burnFuse w v)
  exact ⟨m, r, _, h⟩

theorem otpBurn_arrived (w v : Nat) (s : State) : (otpBurn w v s).arrived = s.arrived := by
  obtain ⟨m, r, d, h⟩ := otpBurn_eq w v s
  rw [h]; rfl

theorem otpBurn_posts (w v : Nat) (s : State) : (otpBurn w v s).posts = s.posts := by
  obtain ⟨m, r, d, h⟩ := otpBurn_eq w v s
  rw [h]; rfl

theorem otpBurn_free (w v : Nat) (s : State) : (otpBurn w v s).free = s.free := by
  obtain ⟨m, r, d, h⟩ := otpBurn_eq w v s
  rw [h]; rfl

theorem otpWordAt_otpBurn (w v x : Nat) (s : State) :
    otpWordAt (otpBurn w v s) x = if x = w then otpWordAt s w ||| v else otpWordAt s x := by
  have hotp : (otpBurn w v s).otp = FMap.set 0 s.otp w (FMap.get 0 s.otp w ||| v) := by
    obtain ⟨m, r, d, h⟩ := otpBurn_eq w v s
    rw [h]; rfl
  rw [otpWordAt, hotp]
  split
  · next h => rw [h, FMap.get_set_self]; rfl
  · next h => exact FMap.get_set_ne _ _ _ _ h

theorem shadowWord_otpBurn (w v x : Nat) (s : State) :
    shadowWord (otpBurn w v s) x = if x = w then shadowWord s w ||| v else shadowWord s x := by
  have hshadow : (otpBurn w v s).shadow = FMap.set 0 s.shadow w (FMap.get 0 s.shadow w ||| v) := by
    obtain ⟨m, r, d, h⟩ := otpBurn_eq w v s
    rw [h]; rfl
  rw [shadowWord, hshadow]
  split
  · next h => rw [h, FMap.get_set_self]; rfl
  · next h => exact FMap.get_set_ne _ _ _ _ h

theorem otpDefaults_otpBurn (w v : Nat) (s : State) : (otpBurn w v s).o Obj.otpDefaults = shadowWord (otpBurn w v s) 34 := by
  obtain ⟨m, r, h⟩ := otpShow_eq (s.burnFuse w v)
  rw [otpBurn, h]
  exact State.o_setO_self _ _ _

theorem otpWordAt_congr {s t : State} (h : t.otp = s.otp) (w : Nat) : otpWordAt t w = otpWordAt s w := by
  rw [otpWordAt, otpWordAt, h]

theorem shadowWord_congr {s t : State} (h : t.shadow = s.shadow) (w : Nat) : shadowWord t w = shadowWord s w := by
  rw [shadowWord, shadowWord, h]

theorem otpMarginal_congr {s t : State} (h : t.shadow = s.shadow) (w : Nat) : otpMarginal t w = otpMarginal s w := by
  rw [otpMarginal, otpMarginal, shadowWord_congr h, shadowWord_congr h]

/-- A result is entered and reported: the fuses and their maps stay. -/
structure OtpEnd (r : Int) (s t : State) : Prop where
  result : t.o Obj.otpResult = r
  busy : t.varB .otpBusy = s.varB .otpBusy
  word (w : Nat) : otpWordAt t w = otpWordAt s w
  shadow (w : Nat) : shadowWord t w = shadowWord s w
  marginal (w : Nat) : otpMarginal t w = otpMarginal s w
  defaults : t.o Obj.otpDefaults = s.o Obj.otpDefaults

theorem OtpEnd.of_eq {r : Int} {s t : State} (hobjs : t.objs = (s.setO Obj.otpResult r).objs) (hvars : t.vars = s.vars)
    (hotp : t.otp = s.otp) (hshadow : t.shadow = s.shadow) : OtpEnd r s t := by
  have ho (k : Nat) : t.o k = (s.setO Obj.otpResult r).o k := by rw [State.o, State.o, hobjs]
  exact ⟨(ho _).trans (State.o_setO_self _ _ _), State.varB_congr (by rw [State.var, State.var, hvars]), otpWordAt_congr hotp,
    shadowWord_congr hshadow, otpMarginal_congr hshadow, (ho _).trans (State.o_setO_ne _ _ (by decide))⟩

theorem otpEnd_setO (r : Int) (s : State) : OtpEnd r s (s.setO Obj.otpResult r) := .of_eq rfl rfl rfl rfl

theorem otpEnd_recorded (r : Int) (c i : Nat) (d : List Byte) (s : State) :
    OtpEnd r s (((s.setO Obj.otpResult r).record c d).post i) := .of_eq rfl rfl rfl rfl

theorem otpEnd_reported (r : Int) (w differ : Nat) (s : State) :
    OtpEnd r s (otpReportMarginal w differ (s.setO Obj.otpResult r)) := .of_eq rfl rfl rfl rfl

/-! ## Marking a word (R450) -/

theorem otpMark_regs (w : Nat) (s : State) : RegsWithin mapKeys [] [] s (otpMark w s) :=
  (otpBurn_regs _ _ _).trans (otpBurn_regs _ _ _)

theorem otpDefaults_otpMark (w : Nat) (s : State) : (otpMark w s).o Obj.otpDefaults = shadowWord (otpMark w s) 34 :=
  otpDefaults_otpBurn _ _ _

theorem otpWordAt_otpMark {w x : Nat} (h46 : x ≠ 46 + w / 64) (h50 : x ≠ 50 + w / 64) (s : State) :
    otpWordAt (otpMark w s) x = otpWordAt s x := by
  rw [otpMark, otpWordAt_otpBurn, if_neg h50, otpWordAt_otpBurn, if_neg h46]

theorem otpMark_arrived (w : Nat) (s : State) : (otpMark w s).arrived = s.arrived := by
  rw [otpMark, otpBurn_arrived, otpBurn_arrived]

theorem otpMark_free (w : Nat) (s : State) : (otpMark w s).free = s.free := by rw [otpMark, otpBurn_free, otpBurn_free]

theorem otpMarginal_otpMark (w : Nat) (s : State) : otpMarginal (otpMark w s) w = true := by
  have hmarked : shadowWord (otpMark w s) (50 + w / 64) = shadowWord s (50 + w / 64) ||| 2 ^ (w % 64) := by
    rw [otpMark, shadowWord_otpBurn, if_pos rfl, shadowWord_otpBurn, if_neg (by omega)]
  rw [otpMarginal, hmarked]
  simp [Nat.testBit_or, Nat.testBit_two_pow_self]

/-! ## The end of a programming (R449, R450) -/

/-- The word of a programming, burnt, with the programming at its end. -/
def otpBurnt (s : State) : State := (otpBurn (s.varN .otpWord) (s.varN .otpValue) s).setFlag .otpBusy false

theorem exec_otpProgramDone {s : State} (differ : Nat) (hbusy : s.varB .otpBusy = true) (hcond : otpConditions s = true) :
    exec (.otpProgramDone differ) s = .next (if differ = 0 then
      (((otpBurnt s).setO Obj.otpResult 1).record 0x0C03 (u8 (s.varN .otpWord) ++ u32 (s.varN .otpValue))).post 92
      else otpReportMarginal (s.varN .otpWord) differ ((otpMark (s.varN .otpWord) (otpBurnt s)).setO Obj.otpResult 3)) := by
  rw [exec, execOtpProgramDone, if_pos (by rw [hbusy, hcond]; rfl)]
  exact (apply_ite Host.Outcome.next (differ = 0) _ _).symm

/-- The word of a programming that stopped, burnt in part, with the programming at its end. -/
def otpStopped (s : State) : State :=
  otpBurn (s.varN .otpWord) (s.varN .otpValue &&& s.drawFree.1) (s.drawFree.2.setFlag .otpBusy false)

theorem exec_otpProgramStopped {s : State} (hbusy : s.varB .otpBusy = true) (hcond : otpConditions s = false) :
    exec .otpProgramStopped s = .next ((otpMark (s.varN .otpWord) (otpStopped s)).setO Obj.otpResult 4) := by
  rw [exec, execOtpProgramStopped, if_pos (by rw [hbusy, hcond]; rfl)]
  rfl

theorem otpBurnt_regs (s : State) : RegsWithin mapKeys [] [.otpBusy] s (otpBurnt s) :=
  ((otpBurn_regs _ _ _).mono (by simp) (by simp) (by simp)).setFlag (by simp)

theorem otpBurnt_idle (s : State) : (otpBurnt s).varB .otpBusy = false := State.varB_setFlag_self _ _ _ _ _

theorem otpBurnt_posts (s : State) : (otpBurnt s).posts = s.posts := by
  rw [otpBurnt, State.setFlag, State.setVar_posts, otpBurn_posts]

theorem otpBurnt_arrived (s : State) : (otpBurnt s).arrived = s.arrived := by
  rw [otpBurnt, State.setFlag, State.setVar_arrived, otpBurn_arrived]

theorem otpWordAt_otpBurnt (w : Nat) (s : State) : otpWordAt (otpBurnt s) w =
    if w = s.varN .otpWord then otpWordAt s (s.varN .otpWord) ||| s.varN .otpValue else otpWordAt s w := by
  rw [← otpWordAt_otpBurn]
  exact otpWordAt_congr (by rw [otpBurnt, State.setFlag, State.setVar_otp]) w

theorem shadowWord_otpBurnt (w : Nat) (s : State) : shadowWord (otpBurnt s) w =
    if w = s.varN .otpWord then shadowWord s (s.varN .otpWord) ||| s.varN .otpValue else shadowWord s w := by
  rw [← shadowWord_otpBurn]
  exact shadowWord_congr (by rw [otpBurnt, State.setFlag, State.setVar_shadow]) w

theorem otpDefaults_otpBurnt (s : State) : (otpBurnt s).o Obj.otpDefaults = shadowWord (otpBurnt s) 34 := by
  rw [otpBurnt, State.setFlag, State.o_setVar, otpDefaults_otpBurn]
  exact congrArg Nat.cast (shadowWord_congr (State.setVar_shadow _ _ _ _ _) 34).symm

theorem otpStopped_free (s : State) : (otpStopped s).free = s.free + 1 := by rw [otpStopped, otpBurn_free]; rfl

theorem otpStopped_regs (s : State) : RegsWithin mapKeys [] [.otpBusy] s (otpStopped s) :=
  (RegsWithin.refl.drawFree.setFlag (by simp)).trans ((otpBurn_regs _ _ _).mono (by simp) (by simp) (by simp))

theorem otpStopped_idle (s : State) : (otpStopped s).varB .otpBusy = false :=
  (State.varB_congr ((otpBurn_regs _ _ _).vars .otpBusy 0 0 (by simp))).trans (State.varB_setFlag_self _ _ _ _ _)

/-! ## The scrubber's step (R445, R446) -/

/-- The scrubber goes on to the next line, or starts a pass. -/
def scrubNext (l : Nat) (s : State) : State :=
  if l + 1 = nvmLines then
    ((s.setVar .scrubLine 0).setVar .scrubStart (s.varN .scrubStart + s.oN Obj.nvmScrubPeriod : Nat)).post 94
  else s.setVar .scrubLine (l + 1 : Nat)

theorem scrubNext_spec (l : Nat) (s : State) : (scrubNext l s).varN .scrubLine = (if l + 1 = nvmLines then 0 else l + 1) ∧
    (scrubNext l s).posts = s.posts ++ (if l + 1 = nvmLines then [94] else []) ∧
    Within [] [.scrubLine, .scrubStart] s (scrubNext l s) := by
  unfold scrubNext
  split
  · refine ⟨?_, rfl, ((WithinAll.refl.setVar (by simp)).setVar (by simp)).post⟩
    have hline : ((s.setVar .scrubLine 0).setVar .scrubStart (s.varN .scrubStart + s.oN Obj.nvmScrubPeriod : Nat)).var .scrubLine = 0 :=
      (State.var_setVar_ne _ _ (by decide)).trans (State.var_setVar_self _ _ _ _ _)
    exact congrArg Int.toNat hline
  · exact ⟨congrArg Int.toNat (State.var_setVar_self _ _ _ _ _), (List.append_nil _).symm, WithinAll.refl.setVar (by simp)⟩

theorem exec_scrubStep {s : State} {d : List Byte} {n : Nat} (hmgt : s.mgtOn = true) (hdue : scrubDue s = true)
    (hline : mramDecode s (s.varN .scrubLine) = (d, some n)) (hfew : n = 0 ∨ n < s.oN Obj.nvmRewriteThr) :
    exec .scrubStep s = .next (scrubNext (s.varN .scrubLine) (if n = 0 then s else s.bump Obj.nvmCorrected)) := by
  have hthr (h0 : n ≠ 0) : n < (s.bump Obj.nvmCorrected).oN Obj.nvmRewriteThr := by
    rw [State.oN, State.bump, State.o_setO_ne _ _ (by decide)]
    exact hfew.resolve_left h0
  rw [exec, execScrubStep, if_pos (by rw [hmgt, hdue]; rfl)]
  simp only [hline]
  by_cases h0 : n = 0
  · simp only [h0, if_true, ne_eq, not_true_eq_false, false_and, and_false, if_false, scrubNext]
    split <;> rfl
  · have hkeep : ¬(s.bump Obj.nvmCorrected).oN Obj.nvmRewriteThr ≤ n := by have := hthr h0; omega
    simp only [h0, if_false, hkeep, false_and, scrubNext]
    split <;> rfl

theorem exec_scrubStep_lost {s : State} (hmgt : s.mgtOn = true) (hdue : scrubDue s = true)
    (hlost : (mramDecode s (s.varN .scrubLine)).2 = none) :
    exec .scrubStep s = .next (scrubNext (s.varN .scrubLine) (lineLost (s.varN .scrubLine) true s)) := by
  obtain ⟨d, hd⟩ : ∃ d, mramDecode s (s.varN .scrubLine) = (d, none) := ⟨_, Prod.ext rfl hlost⟩
  rw [exec, execScrubStep, if_pos (by rw [hmgt, hdue]; rfl)]
  simp only [hd, scrubNext]
  split <;> rfl

/-- What the report of a lost line leaves (R445, R542). -/
theorem lineLost_spec (l : Nat) (scrub : Bool) (s : State) :
    (lineLost l scrub s).o Obj.nvmUncorr = (s.bump Obj.nvmUncorr).o Obj.nvmUncorr ∧
    (lineLost l scrub s).o Obj.nvmLastBad = ((32 * l : Nat) : Int) ∧ (lineLost l scrub s).bad = (32 * l :: s.bad).take 16 ∧
    (lineLost l scrub s).mram = s.mram ∧ (lineLost l scrub s).buf = s.buf ∧
    RegsWithin [Obj.nvmUncorr, Obj.nvmLastBad, Obj.ledgerStatus] [] [.ledLost] s (lineLost l scrub s) := by
  unfold lineLost
  extract_lets a u v w x
  have hu : RegsWithin [Obj.nvmUncorr, Obj.nvmLastBad, Obj.ledgerStatus] [] [.ledLost] s u := RegsWithin.of_eq rfl rfl
  have hw : RegsWithin [Obj.nvmUncorr, Obj.nvmLastBad, Obj.ledgerStatus] [] [.ledLost] s w :=
    ((hu.setO (by simp)).bump (by simp)).raiseActionLater
  have huncorr : w.o Obj.nvmUncorr = (s.bump Obj.nvmUncorr).o Obj.nvmUncorr := by
    have hsame : (u.setO Obj.nvmLastBad a).o Obj.nvmUncorr = s.o Obj.nvmUncorr := State.o_setO_ne _ _ (by decide)
    have hbump : w.o Obj.nvmUncorr = ((u.setO Obj.nvmLastBad a).bump Obj.nvmUncorr).o Obj.nvmUncorr := rfl
    rw [hbump, State.bump, State.o_setO_self, State.bump, State.o_setO_self, hsame]
  have hlast : w.o Obj.nvmLastBad = a := (State.o_setO_ne _ _ (by decide)).trans (State.o_setO_self _ _ _)
  split
  · have hx : RegsWithin [Obj.ledgerStatus] [] [.ledLost] w x := (RegsWithin.refl.setFlag (by simp)).setBit (by simp)
    exact ⟨(hx.objs _ (by decide) (by simp)).trans huncorr, (hx.objs _ (by decide) (by simp)).trans hlast, rfl, rfl, rfl,
      (hw.trans (hx.mono (by simp) (by simp) (by simp))).raiseActionLater⟩
  · exact ⟨huncorr, hlast, rfl, rfl, rfl, hw⟩

/-- Settles O20, each clause from what its command does to the line, the word and the maps. -/
theorem mramOtpEvents : Obligations.MramOtpEvents := by
  unfold Obligations.MramOtpEvents
  intro s
  refine ⟨?scrubbed, ?lost, ?programmed, ?marked, ?stopped⟩
  case scrubbed =>
    intro d n hmgt hdue hline hfew
    refine ⟨_, exec_scrubStep hmgt hdue hline hfew, ?_⟩
    have hread : Within [Obj.nvmCorrected] [] s (if n = 0 then s else s.bump Obj.nvmCorrected) :=
      .ite .refl (WithinAll.refl.bump (by simp))
    obtain ⟨hnext, hposts, hwithin⟩ := scrubNext_spec (s.varN .scrubLine) (if n = 0 then s else s.bump Obj.nvmCorrected)
    have hall := (hread.mono (by simp) (by simp) (by simp)).trans
      (hwithin.mono (ks' := [Obj.nvmCorrected]) (fs' := []) (vs' := [.scrubLine, .scrubStart]) (by simp) (by simp) (by simp))
    refine ⟨hnext, ?_, ?_, by rw [hall.rest], by rw [hall.rest], .ofAll hall⟩
    · rw [hposts]; split <;> rfl
    · rw [hwithin.objs _ (by simp) (by simp)]; split <;> rfl
  case lost =>
    intro hmgt hdue hlost
    refine ⟨_, exec_scrubStep_lost hmgt hdue hlost, ?_⟩
    obtain ⟨huncorr, hlast, hbad, hmram, hbuf, hregs⟩ := lineLost_spec (s.varN .scrubLine) true s
    obtain ⟨hnext, -, hwithin⟩ := scrubNext_spec (s.varN .scrubLine) (lineLost (s.varN .scrubLine) true s)
    refine ⟨hnext, (hwithin.objs _ (by simp) (by simp)).trans huncorr, (hwithin.objs _ (by simp) (by simp)).trans hlast, ?_, ?_, ?_, ?_⟩
    · rw [hwithin.rest]; exact hbad
    · rw [hwithin.rest]; exact hmram
    · rw [hwithin.rest]; exact hbuf
    · exact (hregs.mono (by simp) (by simp) (by simp)).trans ((RegsWithin.ofAll hwithin).mono (by simp) (by simp) (by simp))
  case programmed =>
    rintro differ hbusy hcond rfl
    refine ⟨_, exec_otpProgramDone 0 hbusy hcond, ?_⟩
    rw [if_pos rfl]
    have hend := otpEnd_recorded 1 0x0C03 92 (u8 (s.varN .otpWord) ++ u32 (s.varN .otpValue)) (otpBurnt s)
    refine ⟨hend.busy.trans (otpBurnt_idle s), hend.result, ?_, (hend.word _).trans ?_, (hend.shadow _).trans ?_,
      fun w hw => (hend.word w).trans ?_, ?_, ?_⟩
    · rw [State.post_posts, State.record_posts, State.setO_posts, otpBurnt_posts]
    · exact (otpWordAt_otpBurnt _ s).trans (if_pos rfl)
    · exact (shadowWord_otpBurnt _ s).trans (if_pos rfl)
    · exact (otpWordAt_otpBurnt _ s).trans (if_neg hw)
    · rw [hend.defaults, hend.shadow, otpDefaults_otpBurnt]
    · exact ((((otpBurnt_regs s).mono (by simp) (by simp) (by simp)).setO (by simp)).record).post
  case marked =>
    intro differ hbusy hcond hdiffer hw
    refine ⟨_, exec_otpProgramDone differ hbusy hcond, ?_⟩
    rw [if_neg hdiffer]
    have hmark := otpMark_regs (s.varN .otpWord) (otpBurnt s)
    have hregs := (otpBurnt_regs s).trans (hmark.mono (by simp) (by simp) (by simp))
    have hend := otpEnd_reported 3 (s.varN .otpWord) differ (otpMark (s.varN .otpWord) (otpBurnt s))
    refine ⟨hend.busy.trans ?_, hend.result, (hend.marginal _).trans (otpMarginal_otpMark _ _),
      fun w hne h46 h50 => (hend.word w).trans ?_, ?_, ?_, ?_⟩
    · exact (State.varB_congr (hmark.vars .otpBusy 0 0 (by simp))).trans (otpBurnt_idle s)
    · exact (otpWordAt_otpMark h46 h50 _).trans ((otpWordAt_otpBurnt _ s).trans (if_neg hne))
    · have harrived : (otpMark (s.varN .otpWord) (otpBurnt s)).arrived = s.arrived :=
        (otpMark_arrived _ _).trans (otpBurnt_arrived s)
      have hkept (k : Nat) (hk : k ∉ Obj.otpResult :: mapKeys) :
          ((otpMark (s.varN .otpWord) (otpBurnt s)).setO Obj.otpResult 3).o k = s.o k := by
        rw [List.mem_cons, not_or] at hk
        exact (State.o_setO_ne _ _ hk.1).trans (hregs.objs k hk.2 (by simp))
      rw [otpReportMarginal, hkept Obj.mgtVin (by decide), hkept Obj.thTDie (by decide), State.raiseActionLater_arrived,
        State.setO_arrived, harrived]
    · rw [hend.defaults, hend.shadow]; exact otpDefaults_otpMark _ _
    · exact ((hregs.mono (by simp) (by simp) (by simp)).setO (by simp)).raiseActionLater
  case stopped =>
    intro hbusy hcond hw
    refine ⟨_, exec_otpProgramStopped hbusy hcond, ?_⟩
    have hmark := otpMark_regs (s.varN .otpWord) (otpStopped s)
    have hend := otpEnd_setO 4 (otpMark (s.varN .otpWord) (otpStopped s))
    refine ⟨hend.busy.trans ?_, hend.result, (hend.marginal _).trans (otpMarginal_otpMark _ _), ?_, ?_, ?_⟩
    · exact (State.varB_congr (hmark.vars .otpBusy 0 0 (by simp))).trans (otpStopped_idle s)
    · rw [State.setO_free, otpMark_free, otpStopped_free]
    · rw [hend.defaults, hend.shadow]; exact otpDefaults_otpMark _ _
    · exact (((otpStopped_regs s).mono (by simp) (by simp) (by simp)).trans (hmark.mono (by simp) (by simp) (by simp))).setO (by simp)

end Sys2Proof.Machine
end


section
/-!
PROOFS. Chapter 16: the studbook stops waiting for buffer room while a range that is read out holds the head.
-/

namespace Sys2Proof.Machine

/-! ## The wait for buffer room ends with the room (R442, R465) -/

/-- A record of one occurrence of class 2 of source 5. -/
def oneRecord : QEntry := ⟨0x0101, some (5, 2, 3), [1, 2], 7, 0, false, 9, 0, 1, false⟩

/-- A range read out that holds every position; the studbook has waited for room since round 4, and the buffer is empty again. -/
def roomAgain : State := { ((State.reset.setO Obj.sbExpState 1).setVar .expCnt 8192).setVar .sbHeld 5 with queue := [oneRecord] }

theorem exec_recordAssembly {s : State} (h : s.queue.isEmpty = false) :
    exec .recordAssembly s = .next (assemblySlot (offerRecords (slotsBy slot30End s))) := by
  rw [exec, execRecordAssembly, h]; rfl

theorem assemblySlot_roomAgain : (assemblySlot (offerRecords (slotsBy slot30End roomAgain))).varN .sbHeld = 0 := by decide +kernel

/-- Refutes O15 in its clause for a RECORD_ASSEMBLY at a head that a range read out holds, whose frame leaves out that the studbook's wait for
buffer room ends. -/
theorem not_studbookEvents : ¬ Obligations.StudbookEvents := by
  unfold Obligations.StudbookEvents
  intro h
  obtain ⟨-, -, hheld, -⟩ := h roomAgain
  obtain ⟨t, ht, -, -, -, hframe⟩ := hheld oneRecord [] (by decide +kernel) (by decide +kernel) (by decide +kernel) (by decide +kernel)
  rw [exec_recordAssembly (by decide +kernel)] at ht
  obtain rfl := Host.Outcome.next.inj ht
  have hsame := congrArg Int.toNat (hframe.vars .sbHeld 0 0 (by decide))
  exact absurd (assemblySlot_roomAgain.symm.trans hsame) (by decide +kernel)

end Sys2Proof.Machine
end


section
/-!
PROOFS. Chapter 17: the collie's ticks and expiries, and the end of a hold-off.
-/

namespace Sys2Proof.Machine

/-! ## A state of the collie is entered (R471) -/

theorem collieGo_within (st : Nat) (s : State) : Within [Obj.collieState, Obj.collieHostbusy] [.collieHit] s (collieGo st s) :=
  ((WithinAll.refl.setO (by simp)).setOB (by simp)).setVar (by simp)

theorem collieSt_collieGo (st : Nat) (s : State) : collieSt (collieGo st s) = st := by
  have hstate : (collieGo st s).o Obj.collieState = st := (State.o_setO_ne _ _ (by decide)).trans (State.o_setO_self _ _ _)
  rw [collieSt, State.oN, hstate, Int.toNat_natCast]

theorem hostbusy_collieGo (st : Nat) (s : State) :
    (collieGo st s).o Obj.collieHostbusy = State.ofBool (decide (st = CS.suspended)) := State.o_setO_self _ _ _

theorem collieMissing_congr {s t : State} (htasks : t.o Obj.collieTasks = s.o Obj.collieTasks)
    (hchecked : t.o Obj.collieChecked = s.o Obj.collieChecked) : collieMissing t = collieMissing s := by
  rw [collieMissing, collieMissing, State.oN, State.oN, htasks, hchecked, State.oN, State.oN]

/-! ## An expiry (R480) -/

/-- The objects that an expiry captures, and those that it starts anew. -/
abbrev expiryKeys : List Nat := [Obj.collieState, Obj.collieHostbusy, Obj.collieEvCause, Obj.collieEvChecked, Obj.collieEvMissing,
  Obj.collieEvTag, Obj.collieEvFrame, Obj.collieEvTime, Obj.collieChecked, Obj.collieExpiries]

/-- What an expiry leaves. -/
structure Expired (cause : Nat) (s t : State) : Prop where
  waiting : collieSt t = 1
  hostbusy : t.o Obj.collieHostbusy = 0
  evCause : t.o Obj.collieEvCause = cause
  evChecked : t.o Obj.collieEvChecked = s.o Obj.collieChecked
  evMissing : t.o Obj.collieEvMissing = ((collieMissing s : Nat) : Int)
  evTag : t.o Obj.collieEvTag = s.o Obj.collieLastTag
  evFrame : t.o Obj.collieEvFrame = s.o Obj.collieLastFrame
  evTime : t.o Obj.collieEvTime = s.o Obj.collieLastTime
  checked : t.o Obj.collieChecked = 0
  expiries : t.o Obj.collieExpiries = (s.bump Obj.collieExpiries).o Obj.collieExpiries
  arrived : t.arrived = s.arrived ++
    [⟨240, 0, u8 cause ++ u16 (s.o Obj.collieChecked) ++ u16 (collieMissing s) ++ u16 (s.o Obj.collieLastTag), false⟩]
  within : Within expiryKeys [.collieHit] s t
  posts : t.posts = s.posts
  offers : t.offers = s.offers

/-- An expiry captures what the collie held, and starts it anew. -/
theorem collieExpire_expired (cause : Nat) (s : State) : Expired cause s (collieExpire cause s) := by
  have hreads : (collieExpire cause s).o Obj.collieEvCause = cause ∧
      (collieExpire cause s).o Obj.collieEvChecked = s.o Obj.collieChecked ∧
      (collieExpire cause s).o Obj.collieEvMissing = ((collieMissing s : Nat) : Int) ∧
      (collieExpire cause s).o Obj.collieEvTag = s.o Obj.collieLastTag ∧
      (collieExpire cause s).o Obj.collieEvFrame = s.o Obj.collieLastFrame ∧
      (collieExpire cause s).o Obj.collieEvTime = s.o Obj.collieLastTime ∧ (collieExpire cause s).o Obj.collieChecked = 0 := by
    simp [collieExpire, collieGo, State.setOB, State.bump, State.o_setO, collieMissing, State.oN, Obj.collieEvChecked,
      Obj.collieEvMissing, Obj.collieEvTag, Obj.collieEvFrame, Obj.collieEvTime, Obj.collieEvCause, Obj.collieChecked,
      Obj.collieExpiries, Obj.collieState, Obj.collieHostbusy, Obj.collieLastTag, Obj.collieLastFrame, Obj.collieLastTime,
      Obj.collieTasks, objKey]
  have hexpiries : (collieExpire cause s).o Obj.collieExpiries = (s.bump Obj.collieExpiries).o Obj.collieExpiries := by
    simp only [State.bump, State.o_setO_self]
    simp [collieExpire, collieGo, State.setOB, State.bump, State.o_setO, collieMissing, State.oN, Obj.collieEvChecked,
      Obj.collieEvMissing, Obj.collieEvTag, Obj.collieEvFrame, Obj.collieEvTime, Obj.collieEvCause, Obj.collieChecked,
      Obj.collieExpiries, Obj.collieState, Obj.collieHostbusy, objKey]
    rfl
  obtain ⟨hcause, hchecked, hmissing, htag, hframe, htime, hclear⟩ := hreads
  have hstate : collieSt (collieExpire cause s) = 1 := by
    unfold collieExpire
    exact collieSt_collieGo CS.waiting _
  have hbusy : (collieExpire cause s).o Obj.collieHostbusy = 0 := by
    unfold collieExpire
    exact hostbusy_collieGo CS.waiting _
  have hposts : (collieExpire cause s).posts = s.posts := by
    simp [collieExpire, collieGo, State.setOB, State.bump]
  have hoffers : (collieExpire cause s).offers = s.offers := by
    simp [collieExpire, collieGo, State.setOB, State.bump]
  refine ⟨hstate, hbusy, hcause, hchecked, hmissing, htag, hframe, htime, hclear, hexpiries, ?_, ?_, hposts, hoffers⟩
  · simp [collieExpire, collieGo, State.setOB, State.bump, State.o_setO, collieMissing, State.oN, Obj.collieEvChecked,
      Obj.collieEvMissing, Obj.collieEvTag, Obj.collieEvFrame, Obj.collieEvTime, Obj.collieEvCause, Obj.collieChecked,
      Obj.collieExpiries, Obj.collieLastTag, Obj.collieTasks, objKey]
  · unfold collieExpire
    extract_lets u v w x
    have hu : Within expiryKeys [.collieHit] s u := (WithinAll.refl.setO (by simp)).setO (by simp)
    have hv : Within expiryKeys [.collieHit] s v := (hu.setO (by simp)).setO (by simp)
    have hw : Within expiryKeys [.collieHit] s w := (hv.setO (by simp)).setO (by simp)
    have hx : Within expiryKeys [.collieHit] s x := ((hw.setO (by simp)).bump (by simp)).raiseActionLater
    exact hx.trans ((collieGo_within _ _).mono (by simp) (by simp) (by simp))

/-! ## The tick of the collie (R472) -/

/-- A tick of a tick's frame in which none has been counted. -/
abbrev CollieTickDue (s : State) : Prop := s.oN Obj.frameNumber % 100 = 0 ∧ s.varN .collieFrame ≠ s.now + 1

/-- The frame's tick is marked as counted. -/
def tickMarked (s : State) : State := s.setVar .collieFrame (s.now + 1 : Nat)

theorem tickMarked_within (s : State) : Within [] [.collieFrame] s (tickMarked s) := WithinAll.refl.setVar (by simp)

theorem collieFrame_tickMarked (s : State) : (tickMarked s).varN .collieFrame = s.now + 1 := by
  rw [tickMarked, State.varN, State.var_setVar_self, Int.toNat_natCast]

/-- The first tick after a wait: counting begins. -/
def collieBegins (s : State) : State := (collieGo CS.counting (tickMarked s)).setO Obj.collieCount 0

/-- A tick is counted. -/
def collieCounts (s : State) : State :=
  let t := (tickMarked s).bumpSat Obj.collieCount 65535
  t.setFlag .collieHit (decide (t.o Obj.collieClose ≤ t.o Obj.collieCount))

theorem exec_collieTick_waiting {s : State} (hdue : CollieTickDue s) (hst : collieSt s = 1) :
    exec .collieTick s = .next (collieBegins s) := by
  have hst' : collieSt (tickMarked s) = CS.waiting := hst
  rw [exec, execCollieTick, if_pos (by simp [hdue.1, hdue.2])]
  exact if_pos hst'

theorem exec_collieTick_counting {s : State} (hdue : CollieTickDue s) (hst : collieSt s = 2) :
    exec .collieTick s = .next (collieCounts s) := by
  have hst' : collieSt (tickMarked s) = 2 := hst
  rw [exec, execCollieTick, if_pos (by simp [hdue.1, hdue.2])]
  exact (if_neg (by rw [← tickMarked, hst']; decide)).trans (if_pos hst')

theorem exec_collieTick_other {s : State} (hdue : CollieTickDue s) (hst : collieSt s ≠ 1 ∧ collieSt s ≠ 2) :
    exec .collieTick s = .next (tickMarked s) := by
  have hwait : ¬ collieSt (tickMarked s) = CS.waiting := hst.1
  have hcount : ¬ collieSt (tickMarked s) = CS.counting := hst.2
  rw [exec, execCollieTick, if_pos (by simp [hdue.1, hdue.2])]
  exact (if_neg hwait).trans (if_neg hcount)

theorem exec_collieTick_idle {s : State} (h : s.oN Obj.frameNumber % 100 ≠ 0 ∨ s.varN .collieFrame = s.now + 1) :
    exec .collieTick s = .next s := by
  have hnot : ¬ (decide (s.oN Obj.frameNumber % 100 = 0) && decide (s.varN .collieFrame ≠ s.now + 1)) = true := by
    simpa [imp_iff_not_or] using h
  rw [exec, execCollieTick, if_neg hnot]

theorem collieBegins_within (s : State) :
    Within [Obj.collieState, Obj.collieCount, Obj.collieHostbusy] [.collieFrame, .collieHit] s (collieBegins s) :=
  (((tickMarked_within s).mono (by simp) (by simp) (by simp)).trans
    ((collieGo_within _ _).mono (by simp) (by simp) (by simp))).setO (by simp)

theorem collieBegins_began (s : State) : collieSt (collieBegins s) = 2 ∧ (collieBegins s).o Obj.collieCount = 0 ∧
    (collieBegins s).o Obj.collieHostbusy = 0 ∧ (collieBegins s).varN .collieFrame = s.now + 1 := by
  have hstate : (collieBegins s).oN Obj.collieState = (collieGo CS.counting (tickMarked s)).oN Obj.collieState :=
    congrArg Int.toNat (State.o_setO_ne _ _ (by decide))
  have hbusy : (collieBegins s).o Obj.collieHostbusy = (collieGo CS.counting (tickMarked s)).o Obj.collieHostbusy :=
    State.o_setO_ne _ _ (by decide)
  have hframe : (collieBegins s).varN .collieFrame = (tickMarked s).varN .collieFrame :=
    congrArg Int.toNat ((collieGo_within CS.counting (tickMarked s)).vars .collieFrame 0 0 (by decide))
  exact ⟨hstate.trans (collieSt_collieGo _ _), State.o_setO_self _ _ _, hbusy.trans (hostbusy_collieGo _ _),
    hframe.trans (collieFrame_tickMarked s)⟩

theorem collieCounts_within (s : State) : Within [Obj.collieCount] [.collieFrame, .collieHit] s (collieCounts s) :=
  (((tickMarked_within s).mono (by simp) (by simp) (by simp)).setO (by simp)).setVar (by simp)

theorem collieCounts_counted (s : State) : (collieCounts s).o Obj.collieCount =
      (if s.o Obj.collieCount < 65535 then s.o Obj.collieCount + 1 else 65535) ∧
    (collieCounts s).varB .collieHit = decide (s.o Obj.collieClose ≤ (collieCounts s).o Obj.collieCount) ∧
    (collieCounts s).varN .collieFrame = s.now + 1 := by
  have hclose : ((tickMarked s).bumpSat Obj.collieCount 65535).o Obj.collieClose = s.o Obj.collieClose :=
    State.o_setO_ne _ _ (by decide)
  have hframe : (collieCounts s).varN .collieFrame = (tickMarked s).varN .collieFrame :=
    congrArg Int.toNat (State.var_setVar_ne _ _ (by decide))
  refine ⟨State.o_setO_self _ _ _, ?_, hframe.trans (collieFrame_tickMarked s)⟩
  rw [← hclose]
  exact State.varB_setFlag_self _ _ _ _ _

/-! ## The obligations -/

theorem exec_holdoffExpiry {g : Nat} {s : State} (hg : g < 16) (hdue : s.dueT .holdT g = true) :
    exec (.holdoffExpiry g) s = .next (s.stopT .holdT g) := by
  rw [exec, execHoldoffExpiry, if_pos (by simp [hg, hdue])]

theorem exec_collieExpiry {s : State} (hst : collieSt s = 2) (hhit : s.varB .collieHit = true) :
    exec .collieExpiry s = .next (collieExpire 0 s) := by
  rw [exec, execCollieExpiry, if_pos (by simp [hst, hhit, CS.counting])]

theorem exec_suspensionExpiry {s : State} (hst : collieSt s = 3) (hdue : s.dueTR .collieBusyT = true) :
    exec .suspensionExpiry s = .next (collieExpire 1 (suspensionEnd 1 s)) := by
  rw [exec, execSuspensionExpiry, if_pos (by simp [hst, hdue, CS.suspended])]

/-- Settles O16: each clause's command has one next state, and its tick or its expiry is read off it. -/
theorem collieEvents : Obligations.CollieEvents := by
  unfold Obligations.CollieEvents
  intro s
  refine ⟨fun g hg hdue => ⟨_, exec_holdoffExpiry hg hdue, ?_⟩, fun hfr hnew hst => ⟨_, exec_collieTick_waiting ⟨hfr, hnew⟩ hst, ?_⟩,
    fun hfr hnew hst => ⟨_, exec_collieTick_counting ⟨hfr, hnew⟩ hst, ?_⟩,
    fun hfr hnew hst => ⟨_, exec_collieTick_other ⟨hfr, hnew⟩ hst, tickMarked_within s⟩,
    fun h => ⟨s, exec_collieTick_idle h, rfl⟩, fun hst hhit => ⟨_, exec_collieExpiry hst hhit, ?_⟩⟩
  case refine_1 => exact ⟨State.var_setVar_self _ _ _ _ _, WithinAll.refl.setVar (by simp)⟩
  case refine_2 =>
    obtain ⟨hstate, hcount, hbusy, hframe⟩ := collieBegins_began s
    exact ⟨hstate, hcount, hbusy, hframe, collieBegins_within s⟩
  case refine_3 =>
    obtain ⟨hcount, hhit, hframe⟩ := collieCounts_counted s
    have hstate : collieSt (collieCounts s) = collieSt s :=
      congrArg Int.toNat ((collieCounts_within s).objs _ (by decide) (by simp))
    exact ⟨hstate.trans hst, hcount, hhit, hframe, collieCounts_within s⟩
  case refine_4 =>
    have h := collieExpire_expired 0 s
    exact ⟨h.waiting, h.evCause, h.evChecked, h.evMissing, h.evTag, h.evFrame, h.evTime, h.checked, h.expiries, h.arrived,
      h.within⟩

theorem busyT_suspensionEnd (why : Nat) (s : State) : (suspensionEnd why s).var .collieBusyT = 0 :=
  State.var_setVar_self s .collieBusyT 0 0 0

theorem suspensionEnd_within (why : Nat) (s : State) : Within [] [.collieBusyT] s (suspensionEnd why s) :=
  ((WithinAll.refl.setVar (by simp)).post).record

/-- Settles O17: the end of the suspension changes its timer alone, so the expiry after it captures what the collie held. -/
theorem suspensionExpires : Obligations.SuspensionExpires := by
  unfold Obligations.SuspensionExpires
  intro s hst hdue
  refine ⟨_, exec_suspensionExpiry hst hdue, ?_⟩
  have h := collieExpire_expired 1 (suspensionEnd 1 s)
  exact ⟨h.waiting, h.hostbusy, h.evCause, h.evChecked, h.evMissing, h.evTag, h.evFrame, h.evTime, h.checked, h.expiries,
    (h.within.vars .collieBusyT 0 0 (by decide)).trans (busyT_suspensionEnd 1 s), h.posts, h.arrived, h.offers,
    ((suspensionEnd_within 1 s).mono (by simp) (by simp) (by simp)).trans (h.within.mono (by simp) (by simp) (by simp))⟩

end Sys2Proof.Machine
end


section
/-!
PROOFS. Chapter 18: the programming of the identity key begins the public key's job.
-/

namespace Sys2Proof.Machine

/-! ## The public key's job begins with its request (R45, R495) -/

/-- What a programming of the identity key whose primary words all verify leaves. -/
def identityProgrammed (bad : Nat) (s : State) : State :=
  identityDone 0 (fingerprint (publicKey (s.varN .idDraw))) (burnCopy 38 bad (s.varN .idDraw) s)

theorem exec_identityProgram {bad trng : Nat} {s : State} (hstate : s.oN Obj.keyIdState = 1) (hotp : otpConditions s = true)
    (hidle : s.varB .otpBusy = false) (hframe : s.oN Obj.frameNumber % 1000 = 0) (hdraw : s.varB .idDraw = true)
    (hbad : bad % 16 = 0) : exec (.identityProgram bad trng) s = .next (identityProgrammed bad s) := by
  rw [exec, execIdentityProgram, if_pos (by simp [hstate, hotp, hidle, hframe])]
  exact (if_pos (by rw [if_pos hdraw]; exact hdraw)).trans ((if_pos hbad).trans (by rw [if_pos hdraw]; rfl))

/-- SETUP at frame 1,000 with the scalar 1 drawn, at a supply and a temperature at which R449 allows a programming. -/
def scalarDrawn : State :=
  ((((setupState.setO Obj.keyIdState 1).setO Obj.mgtVin 1200).setO Obj.thTDie 300).setVar .idDraw 1).setVar .now 1000

theorem identityProgrammed_began : (identityProgrammed 0 scalarDrawn).varN .jobBegan 0 = 1000 := by decide +kernel

/-- Refutes O29 in its clause for a programming whose primary words verify, whose frame leaves out the frame in which the public key's
job begins. -/
theorem not_securityEvents : ¬ Obligations.SecurityEvents := by
  unfold Obligations.SecurityEvents
  intro h
  obtain ⟨hprogram, -⟩ := h scalarDrawn
  have hstate : scalarDrawn.oN Obj.keyIdState = 1 := by decide +kernel
  have hotp : otpConditions scalarDrawn = true := by decide +kernel
  have hidle : scalarDrawn.varB .otpBusy = false := by decide +kernel
  have hround : scalarDrawn.oN Obj.frameNumber % 1000 = 0 := by decide +kernel
  have hdraw : scalarDrawn.varB .idDraw = true := by decide +kernel
  obtain ⟨t, ht, -, -, -, -, -, -, hframe⟩ := hprogram 0 0 hstate hotp hidle hround hdraw (by decide)
  rw [exec_identityProgram hstate hotp hidle hround hdraw (by decide)] at ht
  obtain rfl := Host.Outcome.next.inj ht
  have hsame := congrArg Int.toNat (hframe.vars .jobBegan 0 0 (by decide))
  exact absurd (identityProgrammed_began.symm.trans hsame) (by decide +kernel)

end Sys2Proof.Machine
end


section
/-!
PROOFS. Chapter 20: a grant reduction whose write came over the bench UART, once bench mode has ended.
-/

namespace Sys2Proof.Machine

/-! ## A bench UART out of bench mode answers nothing (R412) -/

/-- A write of budget.grant on the bench UART. -/
def grantOnBench : Req := ⟨4, 2, 7, keyIndex Obj.budgetGrant, keySub Obj.budgetGrant, 0, 0, 0, [], 0, [], {}⟩

/-- SETUP of a device alone, with a reduction under way, which the bench UART asked for before bench mode ended. -/
def benchEnded : State := (setPort 4 { PortState.idle with txn := some grantOnBench } 
    ((setupState.setO Obj.teamRole 3).setO Obj.budgetState 1)).setVar .grantPort 4

theorem exec_grantReductionDone {s : State} (hstate : s.oN Obj.budgetState = 1) (hholder : holder s = true)
    (hidle : budgetBusy s = false) (hstage : s.var .wbStage 1 = 0) (hagain : s.varB .wbAgain 1 = false) :
    exec .grantReductionDone s =
      .next (grantAnswer (portOf s (s.varN .grantPort)).txn .ok (grantRecord (s.setO Obj.budgetState 0))) := by
  rw [exec, execGrantReductionDone, if_pos (decide_eq_true hstate), hholder, if_neg (by decide),
    if_pos (by simp [hidle, State.varN, hstage, hagain])]

/-- Refutes O43 in its clause for an answered grant reduction: a bench UART whose bench mode has ended gives no response. -/
theorem not_portEvents : ¬ Obligations.PortEvents := by
  unfold Obligations.PortEvents
  intro h
  obtain ⟨-, -, -, -, -, -, -, hgrant, -⟩ := h benchEnded
  have hstate : benchEnded.oN Obj.budgetState = 1 := by decide +kernel
  have hholder : holder benchEnded = true := by decide +kernel
  have hidle : budgetBusy benchEnded = false := by decide +kernel
  have hstage : benchEnded.var .wbStage 1 = 0 := by decide +kernel
  have hagain : benchEnded.varB .wbAgain 1 = false := by decide +kernel
  obtain ⟨t, ht, -, hanswered, -⟩ := hgrant grantOnBench hstate hholder hidle hstage hagain (by decide +kernel) (by decide +kernel)
    (by decide +kernel)
  rw [exec_grantReductionDone hstate hholder hidle hstage hagain] at ht
  obtain rfl := Host.Outcome.next.inj ht
  exact absurd hanswered (by decide +kernel)

end Sys2Proof.Machine
end


section
/-!
PROOFS. Chapter 21: a request that fails its framing check.
-/

namespace Sys2Proof.Machine

/-! ## A framing failure is counted on its port and noted (R551, R569) -/

/-- The failure is counted for the port's record of a round, with the cause of the first. -/
def failNoted (p cause : Nat) (s : State) : State :=
  let s := s.addVar .failCnt 1 p
  let s := if s.varB .failCause p then s else s.setVar .failCause (cause + 1 : Nat) p
  let s := if s.varB .failSeen then s else (s.setFlag .failSeen true).post 122
  s.recordPer 0x1003 0 s.nowRound (u8 p ++ u16 (s.var .failCnt p) ++ u8 (s.varN .failCause p - 1 : Nat))

/-- What a failure does on an SPI port: the response that waited is dropped. -/
def spiFails (p : Nat) (s : State) : State :=
  (setPort p { portOf s p with resp := none } (s.bump (Obj.spiFrameErr p))).setFlag .spiErr true p

/-- The hidden quantities of a failure's note. -/
abbrev noteVars : List VarKind := [.failCnt, .failCause, .failSeen, .limitStamp]

theorem failNoted_within (p cause : Nat) (s : State) : Within [] noteVars s (failNoted p cause s) := by
  unfold failNoted
  extract_lets u v w
  have hu : Within [] noteVars s u := WithinAll.refl.setVar (by simp)
  have hv : Within [] noteVars s v := .ite hu (hu.setVar (by simp))
  have hw : Within [] noteVars s w := .ite hv (hv.setFlag (by simp)).post
  exact hw.recordPer (by simp)

theorem exec_framingFailure_spi {p cause : Nat} {s : State} (hmgt : s.mgtOn = true) (hp : p < 2) (hcause : cause ≤ 3) :
    exec (.framingFailure p cause) s = .next (failNoted p cause (spiFails p s)) := by
  rw [exec, execFramingFailure, if_pos (by simp [hmgt, hcause, show p < 5 by omega, show p < 4 by omega])]
  simp only [if_neg (show ¬(p = 2 ∨ p = 3) by omega), if_neg (show ¬p = 4 by omega)]
  rfl

theorem exec_framingFailure_can {p cause : Nat} {s : State} (hmgt : s.mgtOn = true) (hp : 2 ≤ p ∧ p < 4) (hcause : cause ≤ 3) :
    exec (.framingFailure p cause) s = .next (failNoted p cause (s.bump (Obj.canErrors (p - 2)))) := by
  rw [exec, execFramingFailure, if_pos (by simp [hmgt, hcause, hp.2, show p < 5 by omega])]
  simp only [if_pos (show p = 2 ∨ p = 3 by omega)]
  rfl

theorem exec_framingFailure_uart {cause : Nat} {s : State} (hmgt : s.mgtOn = true) (hbench : s.bit Obj.portFlags 4 = true)
    (hcause : cause ≤ 3) : exec (.framingFailure 4 cause) s = .next (failNoted 4 cause (s.bump Obj.uartFrameErr)) := by
  rw [exec, execFramingFailure, if_pos (by simp [hmgt, hcause, hbench])]
  rfl

/-- An SPI port that fails a request holds what it held, without its response. -/
theorem portOf_spiFails {p : Nat} (hp : p < 2) (s : State) : portOf (spiFails p s) p = { portOf s p with resp := none } :=
  portOf_setPort_self (by omega) _ _

theorem spiFails_regs (p : Nat) (s : State) : RegsWithin [Obj.spiFrameErr p] [] [.spiErr] s (spiFails p s) := by
  have hcount : RegsWithin [Obj.spiFrameErr p] [] [.spiErr] s (s.bump (Obj.spiFrameErr p)) := RegsWithin.refl.bump (by simp)
  have hport (v : PortState) : RegsWithin [Obj.spiFrameErr p] [] [.spiErr] s (setPort p v (s.bump (Obj.spiFrameErr p))) :=
    hcount.trans ⟨fun _ _ _ => o_setPort _ _ _ _, fun _ _ _ _ => var_setPort _ _ _ _ _ _⟩
  exact (hport _).setFlag (by simp)

/-- Settles O49: the note of a failure leaves what the failure did on its port. -/
theorem framingFailureIsDiscarded : Obligations.FramingFailureIsDiscarded := by
  unfold Obligations.FramingFailureIsDiscarded
  intro s
  refine ⟨fun p cause hmgt hp hcause => ⟨_, exec_framingFailure_spi hmgt hp hcause, ?_⟩,
    fun p cause hmgt h2 h4 hcause => ⟨_, exec_framingFailure_can hmgt ⟨h2, h4⟩ hcause, ?_⟩, ?_⟩
  case refine_1 =>
    have hnote := failNoted_within p cause (spiFails p s)
    have hport : portOf (failNoted p cause (spiFails p s)) p = { portOf s p with resp := none } :=
      (congrArg (portOf · p) hnote.rest).trans (portOf_spiFails hp s)
    have hstores : (spiFails p s).deferred = s.deferred ∧ (spiFails p s).mram = s.mram := by
      rw [spiFails, State.setFlag, State.setVar_deferred, State.setVar_mram, setPort_rest]
      exact ⟨rfl, rfl⟩
    refine ⟨by rw [hport], by rw [hport], ?_, ?_, ?_, ?_, ?_⟩
    · exact (hnote.objs _ (by simp) (by simp)).trans (o_setPort _ _ _ _)
    · exact (State.varB_congr (hnote.vars _ _ _ (by decide))).trans (State.varB_setFlag_self _ _ _ _ _)
    · rw [hnote.rest]; exact hstores.1
    · rw [hnote.rest]; exact hstores.2
    · exact ((spiFails_regs p s).mono (by simp) (by simp) (by simp)).trans ((RegsWithin.ofAll hnote).mono (by simp) (by simp) (by simp))
  case refine_2 =>
    have hnote := failNoted_within p cause (s.bump (Obj.canErrors (p - 2)))
    exact ⟨by rw [hnote.rest]; rfl, hnote.objs _ (by simp) (by simp),
      (WithinAll.refl.bump (by simp)).trans (hnote.mono (by simp) (by simp) (by simp))⟩
  case refine_3 =>
    rintro p cause hmgt rfl hbench hcause
    have hnote := failNoted_within 4 cause (s.bump Obj.uartFrameErr)
    exact ⟨_, exec_framingFailure_uart hmgt hbench hcause, by rw [hnote.rest]; rfl, hnote.objs _ (by simp) (by simp),
      (WithinAll.refl.bump (by simp)).trans (hnote.mono (by simp) (by simp) (by simp))⟩

end Sys2Proof.Machine
end


section
/-!
PROOFS. Chapter 22: an iteration, the end and the abort of a loop-back, the harness test frames and EXTEST.
-/

namespace Sys2Proof.Machine

/-! ## What a run's conditions read (R576, R577) -/

/-- The counters of what an iteration sends. -/
abbrev sentKeys : List Nat := [Obj.canTx 0, Obj.canTx 1, Obj.canIgnored 0, Obj.canIgnored 1, Obj.yardGlitches]

/-- What an iteration changes at most, and the mark of a run's end. -/
abbrev LbWork (s t : State) : Prop := Within sentKeys [.lbRes, .lbVal, .lbEnd, .glitchRound, .limitStamp] s t

/-- An object with another sub-index than the counters' is none of them. -/
theorem not_sent {i b : Nat} (hb : b ≠ 0x24 ∧ b ≠ 0x27 ∧ b < 256) (hi : b = 0x05 → i ≠ 0x2090) : objKey i b ∉ sentKeys := by
  simp only [List.mem_cons, List.not_mem_nil, or_false, Obj.canTx, Obj.canIgnored, Obj.yardGlitches, objKey]
  omega

theorem LbWork.oN_eq {s t : State} (h : LbWork s t) {i b : Nat} (hb : b ≠ 0x24 ∧ b ≠ 0x27 ∧ b ≠ 0x05 ∧ b < 256) :
    t.oN (objKey i b) = s.oN (objKey i b) :=
  congrArg Int.toNat (h.objs _ (not_sent ⟨hb.1, hb.2.1, hb.2.2.2⟩ fun h5 => absurd h5 hb.2.2.1) (by simp))

/-- An iteration changes nothing that the conditions of a loop-back read. -/
theorem lbCond_congr {s t : State} (h : LbWork s t) (x : Nat) : lbCond t x none = lbCond s x none := by
  have hdepth : t.oN (Obj.lbDepth x) = s.oN (Obj.lbDepth x) := h.oN_eq (by decide)
  have hsel : t.oN (Obj.lbSel x) = s.oN (Obj.lbSel x) := h.oN_eq (by decide)
  have hcan (p : Nat) : t.oN (Obj.canState p) = s.oN (Obj.canState p) := h.oN_eq (by decide)
  have hnode : t.oN Obj.lopNodeId = s.oN Obj.lopNodeId := h.oN_eq (by decide)
  have hteam : teamed t = teamed s := congrArg (fun v => decide (v ≠ 0)) (h.objs Obj.teamEn (by decide) (by simp))
  have hrole : role t = role s := h.oN_eq (by decide)
  have htwin : t.oN Obj.teamTwinRole = s.oN Obj.teamTwinRole := h.oN_eq (by decide)
  have hport : t.oN Obj.portState = s.oN Obj.portState := h.oN_eq (by decide)
  have hphase (n : Nat) : t.oN (Obj.phaseState n) = s.oN (Obj.phaseState n) := h.oN_eq (by decide)
  have hrail (n : Nat) : t.oN (Obj.phaseRail n) = s.oN (Obj.phaseRail n) := h.oN_eq (by decide)
  have hmode : t.mode = s.mode := congrArg Mode.ofCode (h.oN_eq (i := 0x0010) (by decide))
  have hhs : hsSt t = hsSt s := h.oN_eq (by decide)
  have hyard : t.oN Obj.sequencerYardState = s.oN Obj.sequencerYardState := h.oN_eq (by decide)
  have hholder : holder t = holder s := by
    have hteamRole : t.oN Obj.teamRole = s.oN Obj.teamRole := hrole
    rw [holder, holder, hteamRole]
  have hvar (k : VarKind) (i : Nat) (hk : k ∉ [VarKind.lbRes, .lbVal, .lbEnd, .glitchRound, .limitStamp]) : t.varB k i = s.varB k i :=
    State.varB_congr (h.vars k i 0 hk)
  have hparts (p : Nat) : portOf t p = portOf s p := by rw [h.rest]; rfl
  have hpin : t.pin .hsVin = s.pin .hsVin := by rw [h.rest]; rfl
  have hmain : t.mainOn = s.mainOn := hvar .mainOn 0 (by decide)
  simp only [lbCond, hdepth, hsel, hcan, hnode, hteam, hrole, htwin, hport, hphase, hrail, hmode, hhs, hyard, hholder, hparts, hpin, hmain,
    hvar .lastFrame 0 (by decide), hvar .senOn _ (by decide)]

/-- An iteration gives no reason for an abort, and takes none away. -/
theorem lbAbortWhy_congr {s t : State} (h : LbWork s t) (x : Nat) : lbAbortWhy t x = lbAbortWhy s x := by
  have hmode : t.mode = s.mode := congrArg Mode.ofCode (h.oN_eq (i := 0x0010) (by decide))
  have hrole : role t = role s := h.oN_eq (by decide)
  have hpin : t.pinB .reinIn = s.pinB .reinIn := by rw [h.rest]; rfl
  have hgate : t.varB .lbGate = s.varB .lbGate := State.varB_congr (h.vars .lbGate 0 0 (by decide))
  have hstop : t.varB .lbStop x = s.varB .lbStop x := State.varB_congr (h.vars .lbStop x 0 (by decide))
  have hbegun : t.varN .lbMode = s.varN .lbMode := State.varN_congr (h.vars .lbMode 0 0 (by decide))
  have hheld : t.varN .lbRole = s.varN .lbRole := State.varN_congr (h.vars .lbRole 0 0 (by decide))
  rw [lbAbortWhy, lbAbortWhy, lbCond_congr h, hmode, hrole, hpin, hgate, hstop, hbegun, hheld]

/-! ## The tick after an iteration (R575) -/

/-- A run of loop-back x that goes on: it is the active one, and nothing aborts it. -/
structure LbRuns (x : Nat) (s : State) : Prop where
  active : s.oN Obj.testActive = x
  known : loopbacks.contains x = true
  goesOn : lbAbortWhy s x = none

theorem LbRuns.congr {x : Nat} {s t : State} (h : LbRuns x s) (hwork : LbWork s t) : LbRuns x t :=
  ⟨(hwork.oN_eq (i := 0x7C00) (b := 0x20) (by decide)).trans h.active, h.known, (lbAbortWhy_congr hwork x).trans h.goesOn⟩

/-- The tick of a run that goes on shows its iteration, and ends the run where the end was reached. -/
theorem lbRunTick_goesOn {x : Nat} {s : State} (h : LbRuns x s) (hwhy : s.varB .lbWhy = false) :
    lbRunTick s = if (lbShow x s).varB .lbEnd then lbEnded x (lbShow x s) else lbShow x s := by
  unfold lbRunTick
  simp only [h.active, h.known, hwhy, h.goesOn, if_true, Bool.false_eq_true, if_false]

/-- The tick of a run that is aborted. -/
theorem lbRunTick_aborts {x : Nat} {s : State} (hx : s.oN Obj.testActive = x) (hknown : loopbacks.contains x = true)
    (hwhy : s.varB .lbWhy = true) : lbRunTick s = lbAbort x (s.varN .lbWhy - 1) s := by
  unfold lbRunTick
  simp only [hx, hknown, hwhy, if_true]

/-- The hidden quantities that the end of a run clears. -/
abbrev overVars : List VarKind := [.lbStop, .lbRes, .lbEnd, .lbWhy]

theorem lbOver_within (x st : Nat) (s : State) : Within [Obj.lbState x, Obj.testActive] overVars s (lbOver x st s) :=
  ((((((WithinAll.refl.setO (by simp)).setO (by simp)).setVar (by simp)).setVar (by simp)).setVar (by simp)).setVar (by simp))

theorem lbEnded_within (x : Nat) (s : State) :
    Within [Obj.lbState x, Obj.testActive, Obj.testRuns] overVars s (lbEnded x s) :=
  (((((lbOver_within x _ s).mono (by simp) (by simp) (by simp)).bump (by simp)).post).record)

theorem lbAbort_within (x why : Nat) (s : State) : Within [Obj.lbState x, Obj.testActive] overVars s (lbAbort x why s) :=
  (lbOver_within x 4 s).post.record

/-- The result and the value of an iteration are shown, and the errors counted. -/
theorem lbShow_counts {x : Nat} {s : State} (hres : s.varB .lbRes = true) :
    (lbShow x s).o (Obj.lbDone x) = s.o (Obj.lbDone x) + 1 ∧
    (lbShow x s).o (Obj.lbErrors x) = s.o (Obj.lbErrors x) + (if s.varN .lbRes = 1 then 0 else 1) ∧
    (lbShow x s).o (Obj.lbValue x) = s.var .lbVal := by
  rw [lbShow, if_pos hres]
  simp [State.addO, State.o_setO, Obj.lbDone, Obj.lbErrors, Obj.lbValue, objKey]

/-- What the tick shows of an iteration. -/
structure Counted (x : Nat) (ok : Bool) (v : Int) (s t : State) : Prop where
  done : (lbRunTick t).o (Obj.lbDone x) = s.o (Obj.lbDone x) + 1
  errors : (lbRunTick t).o (Obj.lbErrors x) = s.o (Obj.lbErrors x) + (if ok then 0 else 1)
  value : (lbRunTick t).o (Obj.lbValue x) = v

/-- The tick after an iteration counts it (R575). -/
theorem lbRunTick_counts {x : Nat} {ok : Bool} {s t : State} (hruns : LbRuns x s) (hwork : LbWork s t)
    (hwhy : s.varB .lbWhy = false) (hres : t.varN .lbRes = if ok then 1 else 2) : Counted x ok (t.var .lbVal) s t := by
  have hshown : t.varB .lbRes = true := by
    have hne : t.var .lbRes ≠ 0 := fun h0 => by rw [State.varN, h0] at hres; cases ok <;> exact absurd hres (by decide)
    simpa [State.varB] using hne
  have hok : (t.varN .lbRes = 1) = (ok = true) := by rw [hres]; cases ok <;> simp
  obtain ⟨hdone, herrors, hvalue⟩ := lbShow_counts (x := x) hshown
  have htick := lbRunTick_goesOn (hruns.congr hwork) ((State.varB_congr (hwork.vars .lbWhy 0 0 (by decide))).trans hwhy)
  have hkept (b : Nat) (hb : b = 0x21 ∨ b = 0x22 ∨ b = 0x23) :
      (lbRunTick t).o (objKey (0x7C00 + x) b) = (lbShow x t).o (objKey (0x7C00 + x) b) := by
    have hx : x ≠ 0 := by rintro rfl; exact absurd hruns.known (by decide)
    rw [htick]
    split
    · refine (lbEnded_within x _).objs _ ?_ (by simp)
      simp only [List.mem_cons, List.not_mem_nil, or_false, Obj.lbState, Obj.testActive, Obj.testRuns, objKey]
      omega
    · rfl
  have hbefore (b : Nat) (hb : b = 0x21 ∨ b = 0x22) : t.o (objKey (0x7C00 + x) b) = s.o (objKey (0x7C00 + x) b) :=
    hwork.objs _ (not_sent (by omega) (by omega)) (by simp)
  refine ⟨?_, ?_, (hkept 0x23 (by omega)).trans hvalue⟩
  · rw [Obj.lbDone, hkept 0x21 (by omega), ← Obj.lbDone, hdone, Obj.lbDone, hbefore 0x21 (by omega)]
  · rw [Obj.lbErrors, hkept 0x22 (by omega), ← Obj.lbErrors, herrors, Obj.lbErrors, hbefore 0x22 (by omega)]
    simp only [hok]

/-! ## An iteration (R575 to R583) -/

/-- The iteration's judgement and value are left for the tick. -/
def lbFound (x : Nat) (reads : List Int) (s : State) : State :=
  (s.setVar .lbRes (if (lbJudge s x reads).1 then 1 else 2)).setVar .lbVal (lbJudge s x reads).2

theorem lbFound_within (x : Nat) (reads : List Int) (s : State) : Within [] [.lbRes, .lbVal] s (lbFound x reads s) :=
  (WithinAll.refl.setVar (by simp)).setVar (by simp)

theorem lbRes_lbFound (x : Nat) (reads : List Int) (s : State) :
    (lbFound x reads s).varN .lbRes = if (lbJudge s x reads).1 then 1 else 2 := by
  have hres : (lbFound x reads s).var .lbRes = if (lbJudge s x reads).1 then 1 else 2 :=
    (State.var_setVar_ne _ _ (by decide)).trans (State.var_setVar_self _ _ _ _ _)
  rw [State.varN, hres]; split <;> rfl

theorem lbVal_lbFound (x : Nat) (reads : List Int) (s : State) : (lbFound x reads s).var .lbVal = (lbJudge s x reads).2 :=
  State.var_setVar_self _ _ _ _ _

/-- The frame of a CAN loop-back is counted where it is sent, and where the port ignores it as its own. -/
def lbSends (p d : Nat) (ok : Bool) (s : State) : State :=
  let t := if d ≠ 0 then s.bump (Obj.canTx p) else s
  if d = 1 ∧ ok then t.bump (Obj.canIgnored p) else t

/-- An iteration of the yard line's loop-back that could not drive it reads a free value. -/
def lbUndriven (reads : List Int) (s : State) : State :=
  (((s.setVar .lbRes (if (lbJudge s 0x19 reads).1 then 1 else 2)).drawFree).2).setVar .lbVal
    (ofTwos 32 ((s.setVar .lbRes (if (lbJudge s 0x19 reads).1 then 1 else 2)).drawFree.1 % 2 ^ 32))

/-- The hypotheses under which an iteration takes place. -/
structure LbDue (x : Nat) (s : State) : Prop where
  runs : LbRuns x s
  drives : lbDrives s x = true
  due : s.varN .lbFrom + lbFrames s x ≤ s.now

theorem LbDue.guard {x : Nat} {s : State} (h : LbDue x s) : (loopbacks.contains x && lbDrives s x && (lbAbortWhy s x).isNone &&
    decide (s.varN .lbFrom + lbFrames s x ≤ s.now)) = true := by
  simp only [h.runs.known, h.drives, h.runs.goesOn, h.due, Option.isNone_none, decide_true, Bool.and_self]

theorem exec_lbIteration_plain {x : Nat} {reads : List Int} {s : State} (h : LbDue x s) (hx : x ≠ 1 ∧ x ≠ 2 ∧ x ≠ 0x19) :
    exec (.lbIteration reads) s = .next (lbFound x reads s) := by
  rw [exec, execLbIteration, h.runs.active, if_pos h.guard]
  simp [hx.1, hx.2.1, hx.2.2, lbFound]

theorem exec_lbIteration_can {x : Nat} {reads : List Int} {s : State} (h : LbDue x s) (hx : x = 1 ∨ x = 2) :
    exec (.lbIteration reads) s = .next (lbSends (x - 1) (s.oN (Obj.lbDepth x)) (lbJudge s x reads).1 (lbFound x reads s)) := by
  have hyard : x ≠ 0x19 := by omega
  rw [exec, execLbIteration, h.runs.active, if_pos h.guard]
  simp [hx, hyard, lbFound, lbSends]

theorem exec_lbIteration_yard {reads : List Int} {s : State} (h : LbDue 0x19 s) :
    exec (.lbIteration reads) s = .next (if reads.getD 0 0 = 0 then glitch 500 (lbFound 0x19 reads s) else lbUndriven reads s) := by
  rw [exec, execLbIteration, h.runs.active, if_pos h.guard]
  by_cases h0 : reads.getD 0 0 = 0
  · simp [-List.getD_eq_getElem?_getD, h0, lbFound]
  · simp [-List.getD_eq_getElem?_getD, h0, lbUndriven]

theorem lbSends_within {x d : Nat} {ok : Bool} {s : State} :
    Within [Obj.canTx (x - 1), Obj.canIgnored (x - 1)] [.lbRes, .lbVal] s (lbSends (x - 1) d ok s) := by
  unfold lbSends
  extract_lets t
  have ht : Within [Obj.canTx (x - 1), Obj.canIgnored (x - 1)] [.lbRes, .lbVal] s t := .ite (WithinAll.refl.bump (by simp)) .refl
  exact .ite (ht.bump (by simp)) ht

/-- The frame is counted as sent where it leaves the controller, and as ignored where the port hears it as its own (R577). -/
theorem lbSends_counts (p d : Nat) (ok : Bool) (s : State) :
    (lbSends p d ok s).o (Obj.canTx p) = (if d = 0 then s.o (Obj.canTx p) else (s.bump (Obj.canTx p)).o (Obj.canTx p)) ∧
    (lbSends p d ok s).o (Obj.canIgnored p) =
      (if d = 1 ∧ ok then (s.bump (Obj.canIgnored p)).o (Obj.canIgnored p) else s.o (Obj.canIgnored p)) := by
  have hne : Obj.canTx p ≠ Obj.canIgnored p := by simp [Obj.canTx, Obj.canIgnored, objKey]
  by_cases h0 : d = 0 <;> by_cases h1 : d = 1 ∧ ok = true <;>
    simp [lbSends, h0, h1, State.bump, State.o_setO, hne, hne.symm]

theorem glitch_within (low : Nat) (s : State) : Within [Obj.yardGlitches] [.glitchRound, .limitStamp] s (glitch low s) :=
  (((WithinAll.refl.bump (by simp)).addVar (by simp)).post).recordPer (by simp)

/-- The work of an iteration of the yard line's loop-back. -/
abbrev YardWork (s t : State) : Prop := Within [Obj.yardGlitches] [.lbRes, .lbVal, .glitchRound, .limitStamp] s t

theorem yardIteration_within (reads : List Int) (s : State) :
    YardWork s (if reads.getD 0 0 = 0 then glitch 500 (lbFound 0x19 reads s) else lbUndriven reads s) :=
  .ite (((lbFound_within _ _ _).mono (by simp) (by simp) (by simp)).trans ((glitch_within _ _).mono (by simp) (by simp) (by simp)))
    (((WithinAll.refl.setVar (by simp)).drawFree).setVar (by simp))

theorem yardIteration_leaves (reads : List Int) (s : State) :
    (if reads.getD 0 0 = 0 then glitch 500 (lbFound 0x19 reads s) else lbUndriven reads s).varN .lbRes =
        (if (lbJudge s 0x19 reads).1 then 1 else 2) ∧
    (reads.getD 0 0 = 0 →
      (if reads.getD 0 0 = 0 then glitch 500 (lbFound 0x19 reads s) else lbUndriven reads s).var .lbVal = reads.getD 3 0) := by
  have hglitch := glitch_within 500 (lbFound 0x19 reads s)
  refine ⟨?_, fun h0 => ?_⟩
  · split
    · exact (State.varN_congr (hglitch.vars .lbRes 0 0 (by decide))).trans (lbRes_lbFound _ _ _)
    · have hres : (lbUndriven reads s).var .lbRes = (s.setVar .lbRes (if (lbJudge s 0x19 reads).1 then 1 else 2)).var .lbRes :=
        State.var_setVar_ne _ _ (by decide)
      rw [State.varN, hres, State.var_setVar_self]; split <;> rfl
  · rw [if_pos h0]
    exact (hglitch.vars .lbVal 0 0 (by decide)).trans (lbVal_lbFound _ _ _)

/-! ## The end, the abort, and the others -/

theorem exec_lbRunEnd {x : Nat} {s : State} (h : LbRuns x s) (hall : s.o (Obj.lbCount x) ≤ s.o (Obj.lbDone x)) :
    exec .lbRunEnd s = .next (s.setFlag .lbEnd true) := by
  rw [exec, execLbRunEnd, h.active, if_pos]
  simp only [h.known, hall, h.goesOn, Option.isNone_none, decide_true, Bool.and_self]

theorem exec_lbAbort {x why : Nat} {s : State} (hx : s.oN Obj.testActive = x) (hknown : loopbacks.contains x = true)
    (hwhy : lbAbortWhy s x = some why) : exec .lbAbort s = .next (s.setVar .lbWhy (why + 1 : Nat)) := by
  rw [exec, execLbAbort, hx]
  simp only [hknown, if_true, hwhy]

theorem exec_lbAbort_idle {s : State} (hx : s.oN Obj.testActive = 0xFF) : exec .lbAbort s = .next s := by
  rw [exec, execLbAbort, hx]
  rfl

theorem exec_extestLoad {on : Bool} {s : State} (hmgt : s.mgtOn = true) (hnew : s.varB .extest ≠ on) :
    exec (.extestLoad on) s = .next (((showBscan (s.setFlag .extest on)).post 127).record 0x1101
      (u8 ((showBscan (s.setFlag .extest on)).o Obj.testBscan) ++ u8 ((showBscan (s.setFlag .extest on)).o Obj.sysMode))) := by
  rw [exec, execExtestLoad, if_pos (by simp [hmgt, hnew])]
  rfl

/-- The objects of a loop-back's run and the active one are different objects. -/
theorem lbState_ne {x : Nat} (hx : x ≠ 0) : Obj.lbState x ≠ Obj.testActive ∧ Obj.lbState x ≠ Obj.testRuns := by
  simp only [Obj.lbState, Obj.testActive, Obj.testRuns, objKey]
  omega

theorem State.oB_setOB_self (s : State) (k : Nat) (b : Bool) : (s.setOB k b).oB k = b := by
  rw [State.oB, State.setOB, State.o_setO_self]
  cases b <;> rfl

/-- An object of loop-back x that its end does not write. -/
theorem o_lbOver {x b : Nat} (hb : b ≠ 0x20 ∧ b < 256) (st : Nat) (s : State) :
    (lbOver x st s).o (objKey (0x7C00 + x) b) = s.o (objKey (0x7C00 + x) b) := by
  refine (lbOver_within x st s).objs _ ?_ (by simp)
  simp only [List.mem_cons, List.not_mem_nil, or_false, Obj.lbState, Obj.testActive, objKey]
  omega

theorem lbOver_over {x : Nat} (hx : x ≠ 0) (st : Nat) (s : State) :
    (lbOver x st s).o (Obj.lbState x) = st ∧ (lbOver x st s).o Obj.testActive = 0xFF ∧ (lbOver x st s).var .lbStop x = 0 := by
  simp [lbOver, State.o_setO, (lbState_ne hx).1, State.var_setVar]

/-- The record of a run's end. -/
def endRecord (x : Nat) (s : State) : List Byte :=
  u8 x ++ u8 (s.o (Obj.lbDepth x)) ++ u8 (s.o (Obj.lbSel x)) ++ u8 (State.ofBool (decide (s.o (Obj.lbErrors x) ≠ 0))) ++
    u32 (s.o (Obj.lbErrors x))

theorem lbEnded_ends {x : Nat} (hx : x ≠ 0) (s : State) :
    (lbEnded x s).o (Obj.lbState x) = (if s.o (Obj.lbErrors x) ≠ 0 then 3 else 2) ∧ (lbEnded x s).o Obj.testActive = 0xFF ∧
    (lbEnded x s).o Obj.testRuns = (s.bump Obj.testRuns).o Obj.testRuns ∧
    (lbEnded x s).posts = s.posts ++ [if s.o (Obj.lbErrors x) ≠ 0 then 125 else 124] ∧
    (lbEnded x s).offers = s.offers ++ [⟨0x1100, endRecord x s, false⟩] := by
  have hover (st : Nat) := lbOver_over hx st s
  have hruns (st : Nat) : (lbOver x st s).o Obj.testRuns = s.o Obj.testRuns :=
    (lbOver_within x st s).objs _ (by simpa using ⟨(lbState_ne hx).2.symm, by decide⟩) (by simp)
  have hkept (b st : Nat) (hb : b ≠ 0x20 ∧ b < 256) : ((lbOver x st s).bump Obj.testRuns).o (objKey (0x7C00 + x) b) =
      s.o (objKey (0x7C00 + x) b) :=
    (State.o_setO_ne _ _ (by simp only [Obj.testRuns, objKey]; omega)).trans (o_lbOver hb st s)
  unfold lbEnded
  extract_lets bad u
  refine ⟨(State.o_setO_ne _ _ (lbState_ne hx).2).trans ((hover _).1.trans ?_),
    (State.o_setO_ne _ _ (by decide)).trans (hover _).2.1, ?_, ?_, ?_⟩
  · by_cases h : s.o (Obj.lbErrors x) = 0 <;> simp [bad, h]
  · exact (State.o_setO_self _ _ _).trans (by rw [hruns]; exact (State.o_setO_self _ _ _).symm)
  · by_cases h : s.o (Obj.lbErrors x) = 0 <;> simp [u, bad, h, State.bump, lbOver]
  · have hu (b : Nat) (hb : b ≠ 0x20 ∧ b < 256) : u.o (objKey (0x7C00 + x) b) = s.o (objKey (0x7C00 + x) b) :=
      (State.o_post _ _ _).trans (hkept b (if bad then 3 else 2) hb)
    rw [State.record_offers, Obj.lbDepth, Obj.lbSel, Obj.lbErrors, hu 0x01 (by omega), hu 0x03 (by omega), hu 0x22 (by omega)]
    rfl

theorem lbAbort_aborts {x : Nat} (hx : x ≠ 0) (why : Nat) (s : State) :
    (lbAbort x why s).o (Obj.lbState x) = 4 ∧ (lbAbort x why s).o Obj.testActive = 0xFF ∧ (lbAbort x why s).var .lbStop x = 0 ∧
    (lbAbort x why s).posts = s.posts ++ [126] ∧ (lbAbort x why s).offers = s.offers ++
      [⟨0x1102, u8 x ++ u8 (s.o (Obj.lbDepth x)) ++ u8 why ++ u32 (s.o (Obj.lbDone x)), false⟩] := by
  obtain ⟨hstate, hactive, hstop⟩ := lbOver_over hx 4 s
  refine ⟨hstate, hactive, hstop, rfl, ?_⟩
  have hdepth : (lbOver x 4 s).o (Obj.lbDepth x) = s.o (Obj.lbDepth x) := o_lbOver (by omega) 4 s
  have hdone : (lbOver x 4 s).o (Obj.lbDone x) = s.o (Obj.lbDone x) := o_lbOver (by omega) 4 s
  rw [lbAbort, State.record_offers, State.o_post, State.o_post, hdepth, hdone]
  rfl

/-- Settles O28: an iteration leaves its result to the tick, whose work the counters show; an end and an abort are marked, and the tick
does them. -/
theorem loopbackEvents : Obligations.LoopbackEvents := by
  unfold Obligations.LoopbackEvents
  intro s
  refine ⟨?plain, ?can, ?yard, ?ended, ?aborted, fun hx => ⟨s, exec_lbAbort_idle hx, rfl⟩, ?reflected, ?unreflected, ?extest, ?loaded⟩
  case plain =>
    intro reads x hx hone hdrives hgo hdue
    have hruns : LbRuns x s := ⟨hx, by rcases hone with rfl | rfl | rfl | rfl | rfl <;> decide, hgo⟩
    have hwork : LbWork s (lbFound x reads s) := (lbFound_within x reads s).mono (by simp) (by simp) (by simp)
    have hcounted (hwhy : s.varB .lbWhy = false) := lbRunTick_counts hruns hwork hwhy (lbRes_lbFound x reads s)
    exact ⟨_, exec_lbIteration_plain ⟨hruns, hdrives, hdue⟩ (by omega), lbRes_lbFound x reads s, lbVal_lbFound x reads s,
      fun hwhy => (hcounted hwhy).done, fun hwhy => (hcounted hwhy).errors,
      fun hwhy => (hcounted hwhy).value.trans (lbVal_lbFound x reads s), lbFound_within x reads s⟩
  case can =>
    intro reads x hx hone hdrives hgo hdue
    have hruns : LbRuns x s := ⟨hx, by rcases hone with rfl | rfl <;> decide, hgo⟩
    have hframes : lbFrames s x = 0 := by rcases hone with rfl | rfl <;> rfl
    have hsends := lbSends_within (x := x) (d := s.oN (Obj.lbDepth x)) (ok := (lbJudge s x reads).1) (s := lbFound x reads s)
    have hall : Within [Obj.canTx (x - 1), Obj.canIgnored (x - 1)] [.lbRes, .lbVal] s
        (lbSends (x - 1) (s.oN (Obj.lbDepth x)) (lbJudge s x reads).1 (lbFound x reads s)) :=
      ((lbFound_within x reads s).mono (by simp) (by simp) (by simp)).trans hsends
    have hwork : LbWork s (lbSends (x - 1) (s.oN (Obj.lbDepth x)) (lbJudge s x reads).1 (lbFound x reads s)) :=
      hall.mono (by rcases hone with rfl | rfl <;> simp) (by simp) (by simp)
    have hsent (k : VarKind) : (lbSends (x - 1) (s.oN (Obj.lbDepth x)) (lbJudge s x reads).1 (lbFound x reads s)).var k =
        (lbFound x reads s).var k := by
      unfold lbSends
      split <;> split <;> rfl
    have hres := (congrArg Int.toNat (hsent .lbRes)).trans (lbRes_lbFound x reads s)
    have hval := (hsent .lbVal).trans (lbVal_lbFound x reads s)
    have hcounted (hwhy : s.varB .lbWhy = false) := lbRunTick_counts hruns hwork hwhy hres
    obtain ⟨htx, hignored⟩ := lbSends_counts (x - 1) (s.oN (Obj.lbDepth x)) (lbJudge s x reads).1 (lbFound x reads s)
    exact ⟨_, exec_lbIteration_can ⟨hruns, hdrives, by omega⟩ hone, hres, hval, fun hwhy => (hcounted hwhy).done,
      fun hwhy => (hcounted hwhy).errors, fun hwhy => (hcounted hwhy).value.trans hval, htx, hignored, hall⟩
  case yard =>
    intro reads hx hdrives hgo hdue
    have hruns : LbRuns 0x19 s := ⟨hx, by decide, hgo⟩
    have hall := yardIteration_within reads s
    obtain ⟨hres, hval⟩ := yardIteration_leaves reads s
    have hcounted (hwhy : s.varB .lbWhy = false) :=
      lbRunTick_counts hruns (hall.mono (by simp) (by simp) (by simp)) hwhy hres
    exact ⟨_, exec_lbIteration_yard ⟨hruns, hdrives, hdue⟩, hres, hval, fun hwhy => (hcounted hwhy).done,
      fun hwhy => (hcounted hwhy).errors, fun h0 hwhy => (hcounted hwhy).value.trans (hval h0), hall⟩
  case ended =>
    intro x hx hknown hdone hgo hres hwhy
    have hruns : LbRuns x s := ⟨hx, hknown, hgo⟩
    have hx0 : x ≠ 0 := by rintro rfl; exact absurd hknown (by decide)
    have hmark : Within [] [.lbEnd] s (s.setFlag .lbEnd true) := WithinAll.refl.setFlag (by simp)
    have hnone : (s.setFlag .lbEnd true).varB .lbRes = false :=
      (State.varB_congr (State.var_setVar_ne _ _ (by decide))).trans hres
    have hshow : lbShow x (s.setFlag .lbEnd true) = s.setFlag .lbEnd true := by rw [lbShow, if_neg (by simp [hnone])]
    have htick : lbRunTick (s.setFlag .lbEnd true) = lbEnded x (s.setFlag .lbEnd true) := by
      rw [lbRunTick_goesOn (hruns.congr (hmark.mono (by simp) (by simp) (by simp)))
        ((State.varB_congr (State.var_setVar_ne _ _ (by decide))).trans hwhy), hshow, if_pos (State.varB_setFlag_self _ _ _ _ _)]
    refine ⟨_, exec_lbRunEnd hruns hdone, State.varB_setFlag_self _ _ _ _ _, ?_⟩
    rw [htick]
    obtain ⟨hstate, hactive, hcount, hposts, hoffers⟩ := lbEnded_ends hx0 (s.setFlag .lbEnd true)
    exact ⟨hstate, hactive, hcount, hposts, hoffers, hmark,
      (hmark.mono (by simp) (by simp) (by simp)).trans (lbEnded_within x _)⟩
  case aborted =>
    intro x why hx hknown hwhy
    have hx0 : x ≠ 0 := by rintro rfl; exact absurd hknown (by decide)
    have hmark : Within [] [.lbWhy] s (s.setVar .lbWhy (why + 1 : Nat)) := WithinAll.refl.setVar (by simp)
    have hset : (s.setVar .lbWhy (why + 1 : Nat)).varN .lbWhy = why + 1 := by
      rw [State.varN, State.var_setVar_self, Int.toNat_natCast]
    have hcause : (s.setVar .lbWhy (why + 1 : Nat)).varB .lbWhy = true := by
      rw [State.varB, State.var_setVar_self]
      exact decide_eq_true (by omega)
    have htick : lbRunTick (s.setVar .lbWhy (why + 1 : Nat)) = lbAbort x why (s.setVar .lbWhy (why + 1 : Nat)) := by
      rw [lbRunTick_aborts (s := s.setVar .lbWhy (why + 1 : Nat)) hx hknown hcause, hset, Nat.add_sub_cancel]
    refine ⟨_, exec_lbAbort hx hknown hwhy, hset, ?_⟩
    rw [htick]
    obtain ⟨hstate, hactive, hstop, hposts, hoffers⟩ := lbAbort_aborts hx0 why (s.setVar .lbWhy (why + 1 : Nat))
    exact ⟨hstate, hactive, hstop, hposts, hoffers, hmark,
      (hmark.mono (by simp) (by simp) (by simp)).trans (lbAbort_within x why _)⟩
  case reflected =>
    intro frame hmgt hrole hhead
    exact ⟨_, by rw [exec, execHarnessReflection, if_pos (by simp [hmgt, hrole, hhead])], rfl⟩
  case unreflected =>
    intro frame h
    have hnot : ¬(s.mgtOn && decide (role s = Role.out) && decide (frame.head? = some 0xE1)) = true := by
      rcases h with h | h | h
      · simp [h]
      · simp [h]
      · rw [decide_eq_false h, Bool.and_false]
        exact Bool.false_ne_true
    exact ⟨s, by rw [exec, execHarnessReflection, if_neg hnot], rfl⟩
  case extest =>
    intro on hmgt hnew
    have hscan : (showBscan (s.setFlag .extest on)).oB Obj.testBscan = (on && s.oB Obj.testBscanEn) := by
      rw [showBscan, State.varB_setFlag_self, State.oB_setOB_self]
      rfl
    have hmode : (showBscan (s.setFlag .extest on)).o Obj.sysMode = s.o Obj.sysMode := State.o_setO_ne _ _ (by decide)
    refine ⟨_, exec_extestLoad hmgt hnew, State.varB_setFlag_self _ _ _ _ _, hscan, rfl, ?_, ?_⟩
    · rw [State.record_offers, hmode]
      rfl
    · exact (((WithinAll.refl.setFlag (by simp)).setOB (by simp)).post).record
  case loaded =>
    intro on h
    have hnot : ¬(s.mgtOn && decide (s.varB .extest ≠ on)) = true := by
      rcases h with h | h <;> simp [h]
    exact ⟨s, by rw [exec, execExtestLoad, if_neg hnot], rfl⟩

end Sys2Proof.Machine
end


section
/-!
PROOFS. Chapter 19: the verdict of a validation, and an activation.
-/

namespace Sys2Proof.Machine

/-! ## What the lines' reads and writes leave of the rest (R436, R445) -/

/-- Work on NVM lines that shows in objects, hidden quantities, the commit buffer and the losses it reports. -/
structure StoreWork (s t : State) : Prop where
  arrived : s.arrived <+: t.arrived
  rest : t = { s with objs := t.objs, vars := t.vars, bad := t.bad, arrived := t.arrived, buf := t.buf, waiters := t.waiters }

namespace StoreWork
variable {s t u : State}

theorem refl : StoreWork s s := ⟨List.prefix_refl _, rfl⟩

theorem trans (h : StoreWork s t) (g : StoreWork t u) : StoreWork s u := by
  refine ⟨h.arrived.trans g.arrived, ?_⟩
  have hr := h.rest
  have gr := g.rest
  rw [gr, hr]

theorem ite {c : Prop} {inst : Decidable c} {a b : State} (ha : StoreWork s a) (hb : StoreWork s b) :
    StoreWork s (if c then a else b) := by split <;> assumption

end StoreWork

theorem lineLost_work (l : Nat) (scrub : Bool) (s : State) : StoreWork s (lineLost l scrub s) := by
  unfold lineLost
  extract_lets a u v w x
  have hw : StoreWork s w := ⟨List.prefix_append _ _, rfl⟩
  exact .ite (hw.trans ⟨List.prefix_append _ _, rfl⟩) hw

theorem nvmReadEffect_work (l : Nat) (s : State) : StoreWork s (nvmReadEffect l s) := by
  unfold nvmReadEffect
  split
  · exact .refl
  · exact ⟨List.prefix_refl _, rfl⟩
  · exact lineLost_work _ _ _

theorem commitAsk_work (s : State) : StoreWork s (commitAsk s) := .ite .refl ⟨List.prefix_refl _, rfl⟩

theorem bufShow_work (s : State) : StoreWork s (bufShow s) := .ite ⟨List.prefix_refl _, rfl⟩ ⟨List.prefix_refl _, rfl⟩

theorem bufEnter_work (l off : Nat) (d : List Byte) (s : State) : StoreWork s (bufEnter l off d s) := by
  unfold bufEnter
  split
  · exact ⟨List.prefix_refl _, rfl⟩
  · extract_lets u entry v
    have hu : StoreWork s u := .ite .refl (nvmReadEffect_work _ _)
    have hentry : StoreWork u { u with buf := u.buf ++ [entry] } := ⟨List.prefix_refl _, rfl⟩
    have hv : StoreWork s v := (hu.trans hentry).trans (bufShow_work _)
    exact .ite (hv.trans (commitAsk_work _)) hv

theorem nvmWriteLine_work (addr : Nat) (d : List Byte) (s : State) : StoreWork s (nvmWriteLine addr d s) := by
  have hwaits : StoreWork s { s with waiters := s.waiters ++ [{ addr := addr, data := d, since := s.nowRound }] } :=
    ⟨List.prefix_refl _, rfl⟩
  exact .ite (bufEnter_work _ _ _ _) (hwaits.trans (commitAsk_work _))

theorem nvmWriteLoop_work (fuel addr : Nat) (d : List Byte) (s : State) : StoreWork s (nvmWriteLoop fuel addr d s) := by
  induction fuel generalizing addr d s with
  | zero => exact .refl
  | succ fuel ih => exact .ite .refl ((nvmWriteLine_work _ _ _).trans (ih _ _ _))

theorem nvmWrite_work (addr : Nat) (d : List Byte) (s : State) : StoreWork s (nvmWrite addr d s) := nvmWriteLoop_work _ _ _ _

theorem nvmTouch_work (addr n : Nat) (s : State) : StoreWork s (nvmTouch addr n s) :=
  forRange_keeps (P := StoreWork s) .refl fun _ _ h => h.trans (nvmReadEffect_work _ _)

theorem bankTouch_work (b : Nat) (s : State) : StoreWork s (bankTouch b s) := (nvmTouch_work _ _ s).trans (nvmTouch_work _ _ _)

theorem nvmTogether_work (w : List (Nat × List Byte)) (s : State) : StoreWork s (nvmTogether w s) := by
  unfold nvmTogether
  split
  · exact forEach_keeps (P := StoreWork s) .refl fun _ _ h => h.trans (nvmWrite_work _ _ _)
  · extract_lets l
    refine StoreWork.trans ?_ (commitAsk_work _)
    exact ⟨List.prefix_refl _, rfl⟩

/-! ## What a read alone changes (R445) -/

/-- The objects and hidden quantities that a read of lines changes. -/
abbrev ReadWork (s t : State) : Prop := RegsWithin [Obj.nvmCorrected, Obj.nvmUncorr, Obj.nvmLastBad, Obj.ledgerStatus] [] [.ledLost] s t

theorem lineLost_read (l : Nat) (scrub : Bool) (s : State) : ReadWork s (lineLost l scrub s) := by
  unfold lineLost
  extract_lets a u v w x
  have hu : ReadWork s u := RegsWithin.of_eq rfl rfl
  have hw : ReadWork s w := ((hu.setO (by simp)).bump (by simp)).raiseActionLater
  exact .ite ((hw.setFlag (by simp)).setBit (by simp)).raiseActionLater hw

theorem nvmReadEffect_read (l : Nat) (s : State) : ReadWork s (nvmReadEffect l s) := by
  unfold nvmReadEffect
  split
  · exact .refl
  · exact RegsWithin.refl.bump (by simp)
  · exact lineLost_read _ _ _

theorem nvmTouch_read (addr n : Nat) (s : State) : ReadWork s (nvmTouch addr n s) :=
  RegsWithin.refl.forRange fun _ _ h => h.trans (nvmReadEffect_read _ _)

theorem bankTouch_read (b : Nat) (s : State) : ReadWork s (bankTouch b s) := (nvmTouch_read _ _ s).trans (nvmTouch_read _ _ _)

theorem nvmTouch_store (addr n : Nat) (s : State) : StoreSame s (nvmTouch addr n s) :=
  forRange_keeps (P := StoreSame s) .refl fun _ _ h => h.trans (nvmReadEffect_store _ _)

theorem bankTouch_store (b : Nat) (s : State) : StoreSame s (bankTouch b s) := (nvmTouch_store _ _ s).trans (nvmTouch_store _ _ _)

theorem validationData_congr {s t : State} (h : StoreSame s t) (r i b : Nat) : validationData r i b t = validationData r i b s := by
  rw [validationData, validationData, bankBytes, bankBytes, h.nvmBytes_eq]

/-! ## The verdict of a validation (R517) -/

/-- The objects and hidden quantities that a verdict changes. -/
abbrev VerdictWork (s t : State) : Prop :=
  RegsWithin [Obj.imgResult, Obj.imgResultEntry, Obj.imgStageBank, Obj.imgState, Obj.imgStageDigest, Obj.nvmBufLines, Obj.nvmState,
    Obj.nvmCorrected, Obj.nvmUncorr, Obj.nvmLastBad, Obj.ledgerStatus] [] [.imgVerdict, .commitReq, .commitReqRound, .ledLost] s t

/-- The verdict is shown: result and entry. -/
def verdictShown (s : State) : State :=
  ((s.setVar .imgVerdict 0).setO Obj.imgResult (s.varN .imgVerdict - 1 : Nat)).setO Obj.imgResultEntry (s.varN .imgVerdict 0 1 : Nat)

theorem verdictShown_within (s : State) : Within [Obj.imgResult, Obj.imgResultEntry] [.imgVerdict] s (verdictShown s) :=
  ((WithinAll.refl.setVar (by simp)).setO (by simp)).setO (by simp)

theorem verdictShown_shows (s : State) : (verdictShown s).var .imgVerdict = 0 ∧
    (verdictShown s).o Obj.imgResult = (s.varN .imgVerdict - 1 : Nat) ∧
    (verdictShown s).o Obj.imgResultEntry = (s.varN .imgVerdict 0 1 : Nat) :=
  ⟨State.var_setVar_self s .imgVerdict 0 0 0, (State.o_setO_ne _ _ (by decide)).trans (State.o_setO_self _ _ _), State.o_setO_self _ _ _⟩

/-- The trailer is written, and the stage shown with its state and digest. -/
def stageWritten (b st version length digest : Nat) (bytes : List Byte) (s : State) : State :=
  setStage st digest (writeTrailer b st 0 version length bytes 0 s)

/-- What a written trailer leaves of the state before it. -/
structure StageWritten (st : Nat) (s t : State) : Prop where
  state : t.o Obj.imgState = st
  regs : RegsWithin [Obj.imgStageBank, Obj.imgState, Obj.imgStageDigest, Obj.nvmBufLines, Obj.nvmState, Obj.nvmCorrected,
    Obj.nvmUncorr, Obj.nvmLastBad, Obj.ledgerStatus] [] [.commitReq, .commitReqRound, .ledLost] s t
  work : StoreWork s t

theorem setStage_within (st digest : Nat) (s : State) :
    Within [Obj.imgStageBank, Obj.imgState, Obj.imgStageDigest] [] s (setStage st digest s) :=
  ((WithinAll.refl.setO (by simp)).setO (by simp)).setO (by simp)

theorem imgState_setStage (st digest : Nat) (s : State) : (setStage st digest s).o Obj.imgState = st :=
  (State.o_setO_ne _ _ (by decide)).trans (State.o_setO_self _ _ _)

theorem setStage_work (st digest : Nat) (s : State) : StoreWork s (setStage st digest s) := ⟨List.prefix_refl _, rfl⟩

theorem stageWritten_writes (b st version length digest : Nat) (bytes : List Byte) (s : State) :
    StageWritten st s (stageWritten b st version length digest bytes s) := by
  have hline : LineWork s (writeTrailer b st 0 version length bytes 0 s) := nvmWrite_lineWork _ _ s
  exact ⟨imgState_setStage _ _ _, (hline.mono (by simp [lineKeys]) (by simp) (by simp)).trans
    ((RegsWithin.ofAll (setStage_within st digest _)).mono (by simp) (by simp) (by simp)), (nvmWrite_work _ _ s).trans (setStage_work _ _ _)⟩

/-- A pass is posted and recorded, and the stage shown as validated. -/
def passShown (digest : Nat) (data : List Byte) (s : State) : State := setStage 2 digest ((s.post 115).record 0x0E05 data)

theorem passShown_within (digest : Nat) (data : List Byte) (s : State) :
    Within [Obj.imgStageBank, Obj.imgState, Obj.imgStageDigest] [] s (passShown digest data s) :=
  (WithinAll.refl.post.record).trans (setStage_within _ _ _)

theorem passShown_posts (digest : Nat) (data : List Byte) (s : State) : (passShown digest data s).posts = s.posts ++ [115] := rfl

/-- A pass: the trailer is written as validated, with the digest. -/
def verdictPassed (s : State) : State :=
  let v := verdictShown s
  let h := bankBytes v (stageBank s) 64
  let digest := bankDigest v (stageBank s)
  passShown (ofLeBytes digest) (validationData 2 (s.varN .imgVerdict 0 1) (stageBank s) v)
    (writeTrailer (stageBank s) 2 0 (recField h 4 4) (recField h 8 4) digest 0 v)

/-- A failure is reported. -/
def failReported (s : State) : State :=
  (verdictShown s).raiseActionLater 235 0
    (validationData (s.varN .imgVerdict - 1) (s.varN .imgVerdict 0 1) (stageBank s) (verdictShown s))

/-- A failure leaves the bank staged, one that was validated before among them. -/
def verdictFailed (s : State) : State :=
  if (failReported s).oN Obj.imgState = 2 then stageWritten (stageBank s) 1 0 ((failReported s).varN .imgLen) 0 [] (failReported s)
  else failReported s

theorem exec_imgValidationDone_pass {s : State} (hpass : s.varN .imgVerdict = 3) :
    exec .imgValidationDone s = .next (verdictPassed s) := by
  have hany : s.varB .imgVerdict = true := decide_eq_true fun h0 => by rw [State.varN, h0] at hpass; exact absurd hpass (by decide)
  rw [exec, execImgValidationDone, if_pos hany, verdictPassed, verdictShown, hpass]
  exact if_pos rfl

theorem exec_imgValidationDone_fail {s : State} (hany : s.varB .imgVerdict = true) (hfail : s.varN .imgVerdict ≠ 3) :
    exec .imgValidationDone s = .next (verdictFailed s) := by
  have hne : ¬s.varN .imgVerdict - 1 = 2 := by omega
  rw [exec, execImgValidationDone, if_pos hany]
  exact if_neg hne

theorem exec_imgValidationDone_idle {s : State} (hnone : s.varB .imgVerdict = false) : exec .imgValidationDone s = .next s := by
  rw [exec, execImgValidationDone, hnone]
  rfl

/-- What a pass does after the verdict is shown. -/
theorem verdictPassed_written (s : State) : RegsWithin (Obj.imgStageBank :: Obj.imgState :: Obj.imgStageDigest :: lineKeys) []
      [.commitReq, .commitReqRound, .ledLost] (verdictShown s) (verdictPassed s) ∧
    (verdictPassed s).posts = s.posts ++ [115] ∧ (verdictPassed s).mram = s.mram := by
  unfold verdictPassed
  extract_lets v h digest
  have hline : LineWork v (writeTrailer (stageBank s) 2 0 (recField h 4 4) (recField h 8 4) digest 0 v) := nvmWrite_lineWork _ _ _
  have hwork : StoreWork v (writeTrailer (stageBank s) 2 0 (recField h 4 4) (recField h 8 4) digest 0 v) := nvmWrite_work _ _ _
  have hshown := passShown_within (ofLeBytes digest) (validationData 2 (s.varN .imgVerdict 0 1) (stageBank s) v)
    (writeTrailer (stageBank s) 2 0 (recField h 4 4) (recField h 8 4) digest 0 v)
  refine ⟨(hline.mono (by simp [lineKeys]) (by simp) (by simp)).trans ((RegsWithin.ofAll hshown).mono (by simp) (by simp) (by simp)), ?_, ?_⟩
  · rw [passShown_posts, hwork.rest]
    rfl
  · rw [hshown.rest, hwork.rest]
    rfl

theorem failReported_arrived (s : State) : (failReported s).arrived = s.arrived ++
    [⟨235, 0, validationData (s.varN .imgVerdict - 1) (s.varN .imgVerdict 0 1) (stageBank s) s, false⟩] := by
  rw [← validationData_congr (StoreSame.of_within (verdictShown_within s))]
  rfl

theorem failReported_within (s : State) : Within [Obj.imgResult, Obj.imgResultEntry] [.imgVerdict] s (failReported s) :=
  (verdictShown_within s).raiseActionLater

/-- What follows the report of a failure: nothing, or the trailer of a bank that was validated before. -/
theorem verdictFailed_written (s : State) :
    (s.oN Obj.imgState ≠ 2 ∧ verdictFailed s = failReported s) ∨
    (s.oN Obj.imgState = 2 ∧ StageWritten 1 (failReported s) (verdictFailed s)) := by
  have hstate : (failReported s).oN Obj.imgState = s.oN Obj.imgState :=
    congrArg Int.toNat ((failReported_within s).objs _ (by decide) (by simp))
  by_cases h : s.oN Obj.imgState = 2
  · refine .inr ⟨h, ?_⟩
    rw [verdictFailed, if_pos (hstate.trans h)]
    exact stageWritten_writes _ _ _ _ _ _ _
  · exact .inl ⟨h, if_neg (hstate.trans_ne h)⟩

/-! ## The journal and the deferred writes (R14, R269) -/

/-- The journal and the deferred writes are as they were. -/
def Held (s t : State) : Prop := t.journal = s.journal ∧ t.deferred = s.deferred

theorem Held.refl (s : State) : Held s s := ⟨rfl, rfl⟩

theorem Held.trans {s t u : State} (h : Held s t) (g : Held t u) : Held s u := ⟨g.1.trans h.1, g.2.trans h.2⟩

theorem Held.ite {s : State} {c : Prop} {inst : Decidable c} {a b : State} (ha : Held s a) (hb : Held s b) :
    Held s (if c then a else b) := by split <;> assumption

theorem Held.of_within {ks : List Nat} {fs : List (Nat → Nat)} {vs : List VarKind} {s t : State} (h : WithinAll ks fs vs s t) :
    Held s t := by
  rw [h.rest]
  exact ⟨rfl, rfl⟩

theorem StoreWork.held {s t : State} (h : StoreWork s t) : Held s t := by
  rw [h.rest]
  exact ⟨rfl, rfl⟩

theorem raise_held (a c : Nat) (d : List Byte) (s : State) : Held s (s.raise a c d) := .ite ⟨rfl, rfl⟩ ⟨rfl, rfl⟩

theorem condOff_held (a c : Nat) (s : State) : Held s (s.condOff a c) :=
  .of_within (WithinAll.refl.condOff (ks := [Obj.srcCond a]) (fs := []) (vs := []) (by simp))

theorem showPool_held (m : Nat) (s : State) : Held s (showPool m s) := ⟨rfl, rfl⟩

theorem listApplied_held (m : Nat) (s : State) : Held s (listApplied m s) := by
  unfold listApplied
  extract_lets l t
  have ht : Held s t := forRange_keeps (P := Held s) (.refl s) fun _ _ h => .ite (.ite h h) (.ite h h)
  exact ht.trans (showPool_held _ _)

theorem gridApplied_held (m : Nat) (s : State) : Held s (gridApplied m s) := by
  unfold gridApplied respread
  extract_lets t from_ period
  have ht : Held s t := ⟨rfl, rfl⟩
  exact .ite (forEach_keeps (P := Held s) ht fun _ _ h => h) ht

theorem slewFlag_held (r : Nat) (s : State) : Held s (slewFlag r s) := by
  unfold slewFlag
  extract_lets slew t
  exact .ite (.ite ⟨rfl, rfl⟩ ⟨rfl, rfl⟩) (.refl s)

theorem wearRescore_held (n m : Nat) (s : State) : Held s (wearRescore n m s) := by
  unfold wearRescore wearAlarm
  extract_lets w data t
  have ht : Held s t := ⟨rfl, rfl⟩
  have hclear : Held s ((showLife n (s.setO (Obj.wearScore n) (wearScore s n m))).setBit (Obj.wearStatus n) 1 false) := ⟨rfl, rfl⟩
  exact .ite (.ite ht (ht.trans (raise_held _ _ _ _))) (hclear.trans (condOff_held _ _ _))

theorem enterHoldover_held (s : State) : Held s (enterHoldover s) := .ite ⟨rfl, rfl⟩ ⟨rfl, rfl⟩

theorem judgeSync_held (s : State) : Held s (judgeSync s) := by
  have hlost : Held s (((s.setBit Obj.clkStatus 2 false).setBit Obj.clkStatus 3 false).bump Obj.clkSyncLosses) := ⟨rfl, rfl⟩
  have hgone : Held s (syncGone s) := .ite (hlost.trans (enterHoldover_held _)) hlost
  exact .ite (hgone.trans (raise_held _ _ _ _)) (.refl s)

theorem referenceChange_held (a b : Nat) (s : State) : Held s (referenceChange a b s) := by
  unfold referenceChange
  extract_lets t u
  have ht : Held s t := .ite (.refl s) ⟨rfl, rfl⟩
  have hu : Held s u := ht.trans (judgeSync_held t)
  exact .ite hu (.ite (.ite hu hu) (.ite (.ite (hu.trans (enterHoldover_held u)) hu) hu))

theorem collieMode_held (s : State) : Held s (collieMode s) := by
  have hgo (st : Nat) (t : State) (h : Held s t) : Held s (collieGo st t) := h
  exact .ite (.refl s) (.ite (.ite (hgo _ _ (.refl s)) (.refl s)) (.ite (.refl s) (hgo _ _ (.ite ⟨rfl, rfl⟩ (.refl s)))))

theorem setSeq_held (r v : Nat) (s : State) : Held s (setSeq r v s) := by
  unfold setSeq
  extract_lets t u
  have ht : Held s t := .ite (.refl s) ⟨rfl, rfl⟩
  exact ht

theorem showTable_held (s : State) : Held s (showTable s) := by
  unfold showTable
  extract_lets t u
  have hu : Held s u := forRange_keeps (P := Held s) ⟨rfl, rfl⟩ fun _ _ h => h
  exact forEach_keeps (P := Held s) hu fun r t h =>
    .ite (.ite (h.trans (setSeq_held _ _ _)) h) (h.trans (setSeq_held _ _ _))

/-- The effects of a configuration change leave both (R573). -/
theorem configEffects_held (old : State) (ks : List Nat) (s : State) : Held s (configEffects old ks s) := by
  unfold configEffects
  extract_lets idx t u v w x y z a
  have ht : Held s t := by
    refine forRange_keeps (P := Held s) (.refl s) fun m b hb => ?_
    extract_lets p q r
    have hp : Held s p := .ite (hb.trans (listApplied_held _ _)) hb
    have hq : Held s q := .ite (hp.trans (gridApplied_held _ _)) hp
    have hr : Held s r := .ite (hq.trans (slewFlag_held _ _)) hq
    exact .ite (forEach_keeps (P := Held s) hr fun _ _ h => h.trans (wearRescore_held _ _ _)) hr
  have hu : Held s u := by
    refine forRange_keeps (P := Held s) ht fun b c hc => ?_
    extract_lets p
    have hp : Held s p := .ite (hc.trans (slewFlag_held _ _)) hc
    exact .ite hp hp
  have hv : Held s v := .ite (hu.trans (referenceChange_held _ _ _)) hu
  have hw : Held s w := .ite (.ite hv hv) hv
  have hx : Held s x := .ite (hw.trans (collieMode_held _)) hw
  have hy : Held s y := .ite hx hx
  have hz : Held s z := .ite (.ite hy hy) hy
  have ha : Held s a := .ite hz hz
  exact .ite (ha.trans (showTable_held _)) ha

/-! ## An activation (R518, R519) -/

/-- What stands of the state at a due activation: no activation is pending, and the bank's lines have been read. -/
def activationRead (s : State) : State := bankTouch (stageBank s) (s.setO Obj.imgPending 0xFE)

theorem exec_activation_idle {s : State} (h : activationDue s = false) : exec .activation s = .next s := by
  rw [exec, execActivation, h]
  rfl

theorem exec_activation_cancelled {s : State} (hdue : activationDue s = true) (hnot : activationOk s (s.oN Obj.imgPending) = false) :
    exec .activation s = .next ((activationRead s).record 0x0E05 (validationData 0x07 0 (stageBank s) (activationRead s))) := by
  rw [exec, execActivation, if_pos hdue]
  exact if_neg (by rw [hnot]; exact Bool.false_ne_true)

/-- What an activation that takes effect leaves. -/
structure Activated (s t : State) : Prop where
  bank : t.varN .activeBank = stageBank s + 1
  posts : t.posts.getLast? = some 116
  asked : t.varB .commitReq = true
  journal : t.journal = []
  deferred : t.deferred.any (fun d => decide (d.point = .nextActivation)) = false

theorem varB_commitReq_commitAsk (s : State) : (commitAsk s).varB .commitReq = true := by
  unfold commitAsk
  split
  · assumption
  · exact (State.varB_congr (State.var_setVar_ne _ _ (by decide))).trans (State.varB_setFlag_self _ _ _ _ _)

theorem showStage_within (s : State) : Within [Obj.imgStageBank, Obj.imgState, Obj.imgStageDigest] [.imgLen] s (showStage s) :=
  ((WithinAll.refl.setVar (by simp))).trans ((setStage_within _ _ _).mono (by simp) (by simp) (by simp))

/-- The objects that an activation shows at its end. -/
abbrev activeKeys : List Nat :=
  [Obj.imgVersion, Obj.imgActSeq, Obj.imgDigest, Obj.imgStageBank, Obj.imgState, Obj.imgStageDigest]

/-- An activation takes effect: what follows its commit's request shows it and posts it, and changes nothing else. -/
theorem exec_activation {s : State} (hdue : activationDue s = true) (hok : activationOk s (s.oN Obj.imgPending) = true) :
    ∃ t, exec .activation s = .next t ∧ Activated s t := by
  rw [exec, execActivation, if_pos hdue]
  extract_lets v b ok read u old es c f w a seq h digest new tr past x y z p q
  refine ⟨_, if_pos hok, ?_⟩
  have hjournal : f.journal = [] := rfl
  have hdeferred : f.deferred.any (fun d => decide (d.point = .nextActivation)) = false := by simp [f]
  clear_value f
  have hw : Held f w := .trans (t := f.setO Obj.teamJournal 0) ⟨rfl, rfl⟩ (configEffects_held _ _ _)
  clear_value w
  have hx : Held w x := .trans (.ite (.refl w) (nvmTouch_work _ _ w).held) (nvmTogether_work _ _).held
  clear_value x
  have hy : Held x y := .trans (t := x.setVar .activeBank (b + 1 : Nat)) ⟨rfl, rfl⟩ (commitAsk_work _).held
  have hasked : y.varB .commitReq = true := varB_commitReq_commitAsk _
  have hbank : y.var .activeBank = ((b + 1 : Nat) : Int) :=
    ((commitAsk_lineWork _).vars .activeBank 0 0 (by decide)).trans (State.var_setVar_self x .activeBank _ 0 0)
  clear_value y
  have hz : Within activeKeys [.imgLen] y z := ((WithinAll.refl.setO (by simp)).setO (by simp)).setO (by simp)
  clear_value z
  have hp : Within activeKeys [.imgLen] y p :=
    .ite (hz.trans ((showStage_within z).mono (by simp) (by simp) (by simp)))
      ((hz.trans ((setStage_within 4 0 z).mono (by simp) (by simp) (by simp))).setVar (by simp))
  clear_value p
  have hq : Within activeKeys [.imgLen] y (q.post 116) := hp.record.post
  have hheld : Held f (q.post 116) := ((hw.trans hx).trans hy).trans (.of_within hq)
  refine ⟨?_, ?_, (State.varB_congr (hq.vars .commitReq 0 0 (by decide))).trans hasked, hheld.1.trans hjournal, ?_⟩
  · rw [State.varN, hq.vars .activeBank 0 0 (by decide), hbank, Int.toNat_natCast]
  · rw [State.post_posts, List.getLast?_concat]
  · rw [hheld.2, hdeferred]

/-! ## The obligation -/

/-- Settles O30: a verdict shows its result and writes the trailer, and an activation is cancelled or takes effect. -/
theorem imageEvents : Obligations.ImageEvents := by
  unfold Obligations.ImageEvents
  intro s
  refine ⟨fun hpass => ⟨_, exec_imgValidationDone_pass hpass, ?pass⟩,
    fun hany hfail => ⟨_, exec_imgValidationDone_fail hany hfail, ?fail⟩,
    fun hnone => ⟨s, exec_imgValidationDone_idle hnone, rfl⟩, fun hdue => ⟨s, exec_activation_idle hdue, rfl⟩,
    fun hdue hnot => ⟨_, exec_activation_cancelled hdue hnot, ?cancelled⟩, ?activated⟩
  case pass =>
    obtain ⟨hverdict, hresult, hentry⟩ := verdictShown_shows s
    obtain ⟨hregs, hposts, hmram⟩ := verdictPassed_written s
    refine ⟨(hregs.vars .imgVerdict 0 0 (by decide)).trans hverdict, ?_, (hregs.objs _ (by decide) (by simp)).trans hentry, hposts,
      hmram, ?_⟩
    · rw [hregs.objs _ (by decide) (by simp), hresult, hpass]
      rfl
    · exact ((RegsWithin.ofAll (verdictShown_within s)).mono (by simp) (by simp) (by simp)).trans
        (hregs.mono (by simp [lineKeys]) (by simp) (by simp))
  case fail =>
    have hreport := failReported_within s
    have hshown : (failReported s).o Obj.imgResult = (s.varN .imgVerdict - 1 : Nat) := (verdictShown_shows s).2.1
    have harrived := failReported_arrived s
    have hmram : (failReported s).mram = s.mram := by rw [hreport.rest]
    have hregs : VerdictWork s (failReported s) := (RegsWithin.ofAll hreport).mono (by simp) (by simp) (by simp)
    rcases verdictFailed_written s with ⟨hstate, heq⟩ | ⟨hstate, hwritten⟩
    · rw [heq]
      refine ⟨hshown, ?_, hmram, fun _ => ⟨by rw [hreport.rest], hreport.objs _ (by decide) (by simp)⟩, fun h => absurd h hstate, hregs⟩
      rw [harrived, List.take_of_length_le (by simp)]
    · obtain ⟨rest, hrest⟩ := hwritten.work.arrived
      refine ⟨(hwritten.regs.objs _ (by decide) (by simp)).trans hshown, ?_, ?_, fun h => absurd hstate h,
        fun _ => congrArg Int.toNat hwritten.state, hregs.trans (hwritten.regs.mono (by simp) (by simp) (by simp))⟩
      · rw [← hrest, harrived, List.take_left' (by simp)]
      · rw [hwritten.work.rest]
        exact hmram
  case cancelled =>
    have hcleared : Within [Obj.imgPending] [] s (s.setO Obj.imgPending 0xFE) := WithinAll.refl.setO (by simp)
    have hwork : StoreWork (s.setO Obj.imgPending 0xFE) (activationRead s) := bankTouch_work _ _
    have hread : ReadWork (s.setO Obj.imgPending 0xFE) (activationRead s) := bankTouch_read _ _
    refine ⟨(hread.objs Obj.imgPending (by decide) (by simp)).trans (State.o_setO_self _ _ _), ?_, ?_, ?_, ?_, ?_⟩
    · have hdata : validationData 0x07 0 (stageBank s) (activationRead s) =
          validationData 0x07 0 (stageBank s) (s.setO Obj.imgPending 0xFE) := validationData_congr (bankTouch_store _ _) _ _ _
      rw [State.record_offers, hdata, hwork.rest]
      rfl
    · rw [State.record_mram, hwork.rest]
      rfl
    · rw [State.record_otp, hwork.rest]
      rfl
    · rw [State.record_pins, hwork.rest]
      rfl
    · exact (((RegsWithin.ofAll hcleared).mono (by simp) (by simp) (by simp)).trans (hread.mono (by simp) (by simp) (by simp))).record
  case activated =>
    intro hdue hok
    obtain ⟨t, ht, hactivated⟩ := exec_activation hdue hok
    obtain ⟨u, hu, hkeeps⟩ := exec_keeps .activation s
    obtain rfl : u = t := Host.Outcome.next.inj (hu.symm.trans ht)
    exact ⟨u, ht, hactivated.bank, hactivated.posts, hactivated.asked, hactivated.journal, hactivated.deferred,
      hkeeps.mram rfl, hkeeps.otp rfl, hkeeps.pins rfl⟩

end Sys2Proof.Machine
end


section
/-!
PROOFS. Chapter 17: a service, a check-in, a suspension, a claim read and a clear of pending bits.
-/

namespace Sys2Proof.Machine

/-! ## What a request served at once leaves of its command's work (R552) -/

/-- A state in which a request has been answered with the events of its work: those of the state `x` that the work has left. -/
structure Wrote (ks : List Nat) (vs : List VarKind) (s x : State) (q : Req) (st : Status) (t : State) : Prop where
  answered : answered t q st = true
  objs : ∀ k, (∀ n, k ≠ Obj.canTx n) → t.o k = x.o k
  vars : ∀ v i j, t.var v i j = x.var v i j
  posts : t.posts = x.posts
  arrived : t.arrived = x.arrived
  regs : RegsWithin (Obj.uartFrames :: ks) [Obj.canRx, Obj.canTx, Obj.spiFrames] ([.spiErr, .spiBusy, .dSlots, .dqAt] ++ vs) s t

/-- A request whose service ends in its response has no events but those of its work. -/
theorem AtOnce.request_events {s x : State} {q : Req} {st : Status} {d : List Byte} (h : AtOnce s q) (hop : q.opcode ≠ 8)
    (hserve : serve q {} (atChecks q {} s) = respond q st d x) (hintake : x.intake = (atChecks q {} s).intake) :
    (request q {} s).posts = x.posts ∧ (request q {} s).arrived = x.arrived := by
  have hrest := (respond_work q st d x).rest
  have hposts : (respond q st d x).posts = x.posts := by rw [hrest]
  have harrived : (respond q st d x).arrived = x.arrived := by rw [hrest]
  have hsame : (respond q st d x).intake = x.intake := by rw [hrest]
  rw [h.request_eq hop, lateEvents, hserve]
  refine ⟨hposts, ?_⟩
  simp only [hsame, hintake, List.drop_length, List.append_nil, harrived]

theorem AtOnce.wrote {ks : List Nat} {vs : List VarKind} {s x : State} {q : Req} {st : Status} (h : AtOnce s q) (hop : q.opcode ≠ 8)
    (hserve : serve q {} (atChecks q {} s) = respond q st [] x) (hx : Within ks vs (atChecks q {} s) x)
    (hflags : Obj.portFlags ∉ ks) (hintake : x.intake = (atChecks q {} s).intake) : Wrote ks vs s x q st (request q {} s) := by
  have hrec := atChecks_received h.port_lt {} s
  obtain ⟨hans, hregs, -, -⟩ := h.answersFrom hop hserve
    ((hx.objs _ hflags (by simp)).trans (hrec.reached.o_eq (by decide)))
  obtain ⟨hposts, harrived⟩ := h.request_events hop hserve hintake
  refine ⟨hans, fun k hk => hregs.objs k (by simp) (by simpa using hk), fun v i j => hregs.vars v i j (by simp), hposts, harrived, ?_⟩
  have hwork : RegsWithin (Obj.uartFrames :: ks) [Obj.canRx, Obj.canTx, Obj.spiFrames] ([.spiErr, .spiBusy, .dSlots, .dqAt] ++ vs)
      (atChecks q {} s) x :=
    (RegsWithin.ofAll hx).mono (by simp) (by simp) (List.subset_append_right _ _)
  exact ((hrec.within.mono (by simp) (by simp) (by simp)).trans hwork).trans (hregs.mono (by simp) (by simp) (by simp))

/-- A plain write of a command object that the twin does not share is its command. -/
theorem PlainWrite.wrote {ks : List Nat} {vs : List VarKind} {s x : State} {c : Plain} {key : Nat} {r : Row} {st : Status}
    (h : PlainWrite s c key r) (hk : key ∉ [Obj.sysModeReq, Obj.budgetGrant, Obj.portCmd])
    (hidx : ¬(0x1100 ≤ keyIndex key ∧ keyIndex key < 0x110C)) (halone : grouped key = false)
    (hother : commandA c.port key (decodeVal r.ty c.data).toNat (atWrite c key s) = none)
    (hcmd : commandB c.port 0 0 key (decodeVal r.ty c.data) (atWrite c key s) = some (st, x))
    (hx : Within ks vs (atWrite c key s) x) (hflags : Obj.portFlags ∉ ks) (hintake : x.intake = (atWrite c key s).intake) :
    Wrote ks vs s x (plainReq c key) st (request (plainReq c key) {} s) := by
  have hwrite := h.writeObject_eq (writeValue_commandB (q := plainReq c key) (aux := {}) hk hother hcmd)
  rw [halone] at hwrite
  have hserve : serve (plainReq c key) {} (atWrite c key s) = respond (plainReq c key) st [] x :=
    h.serve_eq hidx (o := some st) (w := x) (by simpa using hwrite)
  exact h.now.wrote (show 2 ≠ 8 by decide) hserve hx hflags hintake

theorem toNat_decodeVal {ty : Ty} (h : ty.signed = false) (d : List Byte) : (decodeVal ty d).toNat = ofLeBytes d := by
  rw [decodeVal, if_neg (by simp [h]), Int.toNat_natCast]

/-! ## The collie's command objects (R473 to R478) -/

/-- A command's write as its status and the state it leaves, where the command is the one of the key and leaves the intake alone. -/
structure Commands (ks : List Nat) (vs : List VarKind) (c : Plain) (key : Nat) (s x : State) : Prop where
  within : Within ks vs (atWrite c key s) x
  flags : Obj.portFlags ∉ ks
  intake : x.intake = (atWrite c key s).intake

theorem collieServe_wrote {ks : List Nat} {vs : List VarKind} {s x : State} {c : Plain} {st : Status}
    (hok : plainOk s c Obj.collieServe = true) (hlen : c.data.length = 4)
    (hcmd : collieServe (ofLeBytes c.data) c.port (atWrite c Obj.collieServe s) = (st, x))
    (hx : Commands ks vs c Obj.collieServe s x) :
    Wrote ks vs s x (plainReq c Obj.collieServe) st (request (plainReq c Obj.collieServe) {} s) := by
  obtain ⟨r, h, hty, -⟩ := plainWrite_of_plainOk (ty := .u32) (ap := .immediate) hok (.inl (by decide)) (by decide +kernel) hlen
  have hval : (decodeVal r.ty c.data).toNat = ofLeBytes c.data := toNat_decodeVal (by rw [hty]; rfl) _
  refine h.wrote (by decide) (by decide) (by decide) rfl ?_ hx.within hx.flags hx.intake
  exact congrArg some ((congrArg (collieServe · c.port (atWrite c Obj.collieServe s)) hval).trans hcmd)

theorem collieCheckin_wrote {ks : List Nat} {vs : List VarKind} {s x : State} {c : Plain} {st : Status}
    (hok : plainOk s c Obj.collieCheckin = true) (hlen : c.data.length = 1)
    (hcmd : collieCheckin (ofLeBytes c.data) (atWrite c Obj.collieCheckin s) = (st, x))
    (hx : Commands ks vs c Obj.collieCheckin s x) :
    Wrote ks vs s x (plainReq c Obj.collieCheckin) st (request (plainReq c Obj.collieCheckin) {} s) := by
  obtain ⟨r, h, hty, -⟩ := plainWrite_of_plainOk (ty := .u8) (ap := .immediate) hok (.inl (by decide)) (by decide +kernel) hlen
  have hval : (decodeVal r.ty c.data).toNat = ofLeBytes c.data := toNat_decodeVal (by rw [hty]; rfl) _
  refine h.wrote (by decide) (by decide) (by decide) rfl ?_ hx.within hx.flags hx.intake
  exact congrArg some ((congrArg (collieCheckin · (atWrite c Obj.collieCheckin s)) hval).trans hcmd)

theorem collieHostbusy_wrote {ks : List Nat} {vs : List VarKind} {s x : State} {c : Plain} {st : Status} {v : Byte}
    (hok : plainOk s c Obj.collieHostbusy = true) (hdata : c.data = [v])
    (hcmd : hostbusyWrite v.toNat (atWrite c Obj.collieHostbusy s) = (st, x))
    (hx : Commands ks vs c Obj.collieHostbusy s x) :
    Wrote ks vs s x (plainReq c Obj.collieHostbusy) st (request (plainReq c Obj.collieHostbusy) {} s) := by
  obtain ⟨r, h, hty, -⟩ := plainWrite_of_plainOk (ty := .u8) (ap := .immediate) hok (.inl (by decide)) (by decide +kernel)
    (by rw [hdata]; rfl)
  have hval : (decodeVal r.ty c.data).toNat = v.toNat := by rw [hty, hdata, decodeVal_byte]
  refine h.wrote (by decide) (by decide) (by decide) rfl ?_ hx.within hx.flags hx.intake
  exact congrArg some ((congrArg (hostbusyWrite · (atWrite c Obj.collieHostbusy s)) hval).trans hcmd)

/-! ### A service (R473, R474) -/

/-- What an accepted service keeps: its tag, frame and time, and the value written; no task has checked in after it. -/
def collieKept (v : Nat) (s : State) : State :=
  let u := ((s.setO Obj.collieLastTag (v / 65536 : Nat)).setO Obj.collieLastFrame (s.o Obj.frameNumber)).setO Obj.collieLastTime s.timeNow
  (u.setO Obj.collieServe v).setO Obj.collieChecked 0

/-- An accepted service is counted, and the wait begins. -/
def collieServed (v : Nat) (s : State) : State := collieGo CS.waiting ((collieKept v s).bump Obj.collieServices)

theorem collieServe_served {v p : Nat} {s : State} (hkey : v % 65536 = 0xA5C3) (hst : collieSt s = 2)
    (hopen : s.o Obj.collieOpen ≤ s.o Obj.collieCount) (hall : collieMissing s = 0) :
    collieServe v p s = (.ok, collieServed v s) := by
  simp [collieServe, hkey, hst, hopen, hall, CS.off, CS.held, CS.suspended, CS.waiting, collieServed, collieKept]

theorem collieServe_early {v p : Nat} {s : State} (hkey : v % 65536 = 0xA5C3) (hst : collieSt s = 2)
    (hclosed : s.o Obj.collieCount < s.o Obj.collieOpen) : collieServe v p s = (.stateForbids, s.raiseActionLater 240 1
      (u16 (s.o Obj.collieCount) ++ u16 (s.o Obj.collieOpen) ++ u16 (v / 65536 : Nat) ++ u8 0)) := by
  simp [collieServe, hkey, hst, hclosed, CS.off, CS.held, CS.suspended, CS.waiting]

theorem collieServe_wrongKey {v p : Nat} {s : State} (hkey : v % 65536 ≠ 0xA5C3) (hst : collieSt s ≠ 0 ∧ collieSt s ≠ 4) :
    collieServe v p s = (.outOfRange, s.raiseActionLater 240 4
      (u16 (v % 65536 : Nat) ++ u16 (v / 65536 : Nat) ++ u8 p)) := by
  simp [collieServe, hkey, hst, CS.off, CS.held]

theorem collieServe_waiting {v p : Nat} {s : State} (hkey : v % 65536 = 0xA5C3) (hst : collieSt s = 1) :
    collieServe v p s = (.stateForbids, s.raiseActionLater 240 1
      (u16 (s.o Obj.collieCount) ++ u16 (s.o Obj.collieOpen) ++ u16 (v / 65536 : Nat) ++ u8 1)) := by
  simp [collieServe, hkey, hst, CS.off, CS.held, CS.suspended, CS.waiting]

theorem collieServe_missing {v p : Nat} {s : State} (hkey : v % 65536 = 0xA5C3) (hst : collieSt s = 2)
    (hopen : s.o Obj.collieOpen ≤ s.o Obj.collieCount) (hmissing : collieMissing s ≠ 0) :
    collieServe v p s = (.stateForbids, s.raiseActionLater 240 2
      (u16 (collieMissing s) ++ u16 (s.o Obj.collieChecked) ++ u16 (v / 65536 : Nat) ++ u16 (s.o Obj.collieCount))) := by
  simp [collieServe, hkey, hst, hopen, hmissing, CS.off, CS.held, CS.suspended, CS.waiting]

theorem collieServe_suspended {v p : Nat} {s : State} (hkey : v % 65536 = 0xA5C3) (hst : collieSt s = 3) :
    collieServe v p s = (.stateForbids, s) := by
  simp [collieServe, hkey, hst, CS.off, CS.held, CS.suspended]

theorem collieServe_off {v p : Nat} {s : State} (hst : collieSt s = 0 ∨ collieSt s = 4) :
    collieServe v p s = (.stateForbids, s) := by
  rw [collieServe]
  exact if_pos hst

/-- A refused service changes nothing but its port's; its event, where it has one, is among those arrived. -/
theorem collieServe_refused {s x : State} {c : Plain} {st : Status} (hok : plainOk s c Obj.collieServe = true)
    (hlen : c.data.length = 4) (hcmd : collieServe (ofLeBytes c.data) c.port (atWrite c Obj.collieServe s) = (st, x))
    (hx : Within [] [] (atWrite c Obj.collieServe s) x) (hintake : x.intake = (atWrite c Obj.collieServe s).intake) :
    answered (request (plainReq c Obj.collieServe) {} s) (plainReq c Obj.collieServe) st = true ∧
    (request (plainReq c Obj.collieServe) {} s).arrived = x.arrived ∧
    RegsWithin [Obj.uartFrames] [Obj.canRx, Obj.canTx, Obj.spiFrames] [.spiErr, .spiBusy, .dSlots, .dqAt] s
      (request (plainReq c Obj.collieServe) {} s) := by
  have h := collieServe_wrote hok hlen hcmd ⟨hx, by simp, hintake⟩
  exact ⟨h.answered, h.arrived, h.regs⟩

/-- The objects that an accepted service writes. -/
abbrev servedKeys : List Nat := [Obj.collieState, Obj.collieHostbusy, Obj.collieLastTag, Obj.collieLastFrame, Obj.collieLastTime,
  Obj.collieServe, Obj.collieChecked, Obj.collieServices]

theorem collieKept_within (v : Nat) (s : State) :
    Within [Obj.collieLastTag, Obj.collieLastFrame, Obj.collieLastTime, Obj.collieServe, Obj.collieChecked] [] s
      (collieKept v s) :=
  ((((WithinAll.refl.setO (by simp)).setO (by simp)).setO (by simp)).setO (by simp)).setO (by simp)

theorem collieServed_within (v : Nat) (s : State) : Within servedKeys [.collieHit] s (collieServed v s) :=
  (((collieKept_within v s).mono (by simp) (by simp) (by simp)).bump (by simp)).trans
    ((collieGo_within _ _).mono (by simp) (by simp) (by simp))

theorem collieServed_reads (v : Nat) (s : State) : (collieServed v s).o Obj.collieLastTag = ((v / 65536 : Nat) : Int) ∧
    (collieServed v s).o Obj.collieLastFrame = s.o Obj.frameNumber ∧ (collieServed v s).o Obj.collieChecked = 0 ∧
    (collieServed v s).o Obj.collieServices = (s.bump Obj.collieServices).o Obj.collieServices ∧ collieSt (collieServed v s) = 1 := by
  have hstate : collieSt (collieServed v s) = 1 := collieSt_collieGo CS.waiting _
  have hservices : (collieServed v s).o Obj.collieServices = (s.bump Obj.collieServices).o Obj.collieServices :=
    ((collieGo_within CS.waiting _).objs _ (by decide) (by simp)).trans (State.bump_congr ((collieKept_within v s).objs _ (by decide) (by simp)))
  refine ⟨?_, ?_, ?_, hservices, hstate⟩ <;>
    simp [collieServed, collieKept, collieGo, State.setOB, State.bump, State.o_setO, Obj.collieLastTag, Obj.collieLastFrame, Obj.collieLastTime,
      Obj.collieServe, Obj.collieChecked, Obj.collieServices, Obj.collieState, Obj.collieHostbusy, objKey]

/-! ### A check-in (R476) -/

theorem collieCheckin_first {t : Nat} {s : State} (ht : t ≤ 15) (hst : collieSt s ≠ 0 ∧ collieSt s ≠ 4)
    (hnew : s.bit Obj.collieChecked t = false) : collieCheckin t s = (.ok, s.setBit Obj.collieChecked t true) := by
  simp [collieCheckin, hst, hnew, Nat.not_lt.2 ht, CS.off, CS.held]

theorem collieCheckin_again {t : Nat} {s : State} (ht : t ≤ 15) (hst : collieSt s ≠ 0 ∧ collieSt s ≠ 4)
    (hold : s.bit Obj.collieChecked t = true) : collieCheckin t s = (.ok, (s.bump Obj.collieAnomalies).raiseActionLater 240 3
      (u8 t ++ u16 (s.o Obj.collieCount) ++ u16 (s.o Obj.collieChecked))) := by
  have hcount : (s.bump Obj.collieAnomalies).o Obj.collieCount = s.o Obj.collieCount := State.o_setO_ne _ _ (by decide)
  have hchecked : (s.bump Obj.collieAnomalies).o Obj.collieChecked = s.o Obj.collieChecked := State.o_setO_ne _ _ (by decide)
  simp [collieCheckin, hst, hold, Nat.not_lt.2 ht, CS.off, CS.held]

/-! ### A suspension (R478) -/

/-- The state of a suspension, with its timer and its first round. -/
def suspensionTimed (s : State) : State :=
  ((collieGo CS.suspended s).startTR .collieBusyT (s.oN Obj.collieBusyMax)).setVar .collieBusyAt s.nowRound

/-- A suspension begins, and is posted and recorded. -/
def collieSuspended (s : State) : State :=
  ((suspensionTimed s).post 107).record 0x0D05
    (u16 ((suspensionTimed s).o Obj.collieCount) ++ u32 ((suspensionTimed s).o Obj.collieBusyMax))

theorem suspensionTimed_within (s : State) :
    Within [Obj.collieState, Obj.collieHostbusy] [.collieHit, .collieBusyT, .collieBusyAt] s (suspensionTimed s) :=
  (((collieGo_within _ s).mono (by simp) (by simp) (by simp)).startTR (by simp)).setVar (by simp)

theorem suspensionTimed_times (s : State) : collieSt (suspensionTimed s) = 3 ∧ (suspensionTimed s).o Obj.collieHostbusy = 1 ∧
    (suspensionTimed s).varN .collieBusyT = s.nowRound + s.oN Obj.collieBusyMax + 1 ∧
    (suspensionTimed s).varN .collieBusyAt = s.nowRound := by
  have hround : (collieGo CS.suspended s).nowRound = s.nowRound :=
    State.varN_congr ((collieGo_within CS.suspended s).vars .nowRound 0 0 (by decide))
  have htimer : (suspensionTimed s).var .collieBusyT =
      (((collieGo CS.suspended s).nowRound + s.oN Obj.collieBusyMax + 1 : Nat) : Int) :=
    (State.var_setVar_ne ((collieGo CS.suspended s).startTR .collieBusyT (s.oN Obj.collieBusyMax)) _ (by decide)).trans
      (State.var_setVar_self (collieGo CS.suspended s) .collieBusyT _ 0 0)
  have hat : (suspensionTimed s).var .collieBusyAt = s.nowRound :=
    State.var_setVar_self ((collieGo CS.suspended s).startTR .collieBusyT (s.oN Obj.collieBusyMax)) .collieBusyAt _ 0 0
  exact ⟨collieSt_collieGo CS.suspended s, hostbusy_collieGo CS.suspended s, by rw [State.varN, htimer, Int.toNat_natCast, hround],
    by rw [State.varN, hat, Int.toNat_natCast]⟩

theorem suspensionTimed_events (s : State) : (suspensionTimed s).posts = s.posts ∧ (suspensionTimed s).intake = s.intake := by
  simp [suspensionTimed, collieGo, State.setOB, State.startTR]

theorem collieSuspended_within (s : State) : Within [] [] (suspensionTimed s) (collieSuspended s) := WithinAll.refl.post.record

theorem collieSuspended_times (s : State) : collieSt (collieSuspended s) = 3 ∧ (collieSuspended s).o Obj.collieHostbusy = 1 ∧
    (collieSuspended s).varN .collieBusyT = s.nowRound + s.oN Obj.collieBusyMax + 1 ∧
    (collieSuspended s).varN .collieBusyAt = s.nowRound := by
  obtain ⟨hstate, hbusy, htimer, hat⟩ := suspensionTimed_times s
  have h := collieSuspended_within s
  exact ⟨(congrArg Int.toNat (h.objs Obj.collieState (by simp) (by simp))).trans hstate, (h.objs _ (by simp) (by simp)).trans hbusy,
    (State.varN_congr (h.vars .collieBusyT 0 0 (by simp))).trans htimer,
    (State.varN_congr (h.vars .collieBusyAt 0 0 (by simp))).trans hat⟩

theorem collieSuspended_events (s : State) :
    (collieSuspended s).posts = s.posts ++ [107] ∧ (collieSuspended s).intake = s.intake := by
  obtain ⟨hposts, hintake⟩ := suspensionTimed_events s
  rw [collieSuspended, State.record_posts, State.post_posts, State.record_intake, State.post_intake, hposts, hintake]
  exact ⟨rfl, rfl⟩

theorem hostbusyWrite_begins {s : State} (hst : collieSt s = 2) : hostbusyWrite 1 s = (.ok, collieSuspended s) := by
  rw [hostbusyWrite, if_pos rfl, if_pos hst]
  rfl

theorem hostbusyWrite_refused {s : State} (h2 : collieSt s ≠ 2) (h3 : collieSt s ≠ 3) : hostbusyWrite 1 s = (.stateForbids, s) := by
  rw [hostbusyWrite, if_pos rfl, if_neg h2, if_neg h3]

/-- A suspension ends, and the wait begins. -/
def collieResumed (s : State) : State := collieGo CS.waiting (suspensionEnd 0 s)

theorem collieResumed_within (s : State) :
    Within [Obj.collieState, Obj.collieHostbusy] [.collieHit, .collieBusyT] s (collieResumed s) :=
  ((suspensionEnd_within 0 s).mono (by simp) (by simp) (by simp)).trans
    ((collieGo_within CS.waiting (suspensionEnd 0 s)).mono (by simp) (by simp) (by simp))

theorem collieResumed_waits (s : State) : collieSt (collieResumed s) = 1 ∧ (collieResumed s).o Obj.collieHostbusy = 0 ∧
    (collieResumed s).var .collieBusyT = 0 := by
  have htimer := (collieGo_within CS.waiting (suspensionEnd 0 s)).vars .collieBusyT 0 0 (by decide)
  exact ⟨collieSt_collieGo CS.waiting (suspensionEnd 0 s), hostbusy_collieGo CS.waiting (suspensionEnd 0 s),
    htimer.trans (busyT_suspensionEnd 0 s)⟩

theorem collieResumed_events (s : State) : (collieResumed s).posts = s.posts ++ [107] ∧ (collieResumed s).intake = s.intake := by
  simp [collieResumed, collieGo, State.setOB, suspensionEnd, State.stopT]

theorem hostbusyWrite_ends {s : State} (hst : collieSt s = 3) : hostbusyWrite 0 s = (.ok, collieResumed s) := by
  rw [hostbusyWrite, if_neg (by decide), if_pos rfl, if_pos hst]
  rfl

/-! ## A claim read (R484) -/

/-- A read reaches the bytes of its object, unless the object refuses it (R550). -/
theorem serve_read {q : Req} {r : Row} {aux : Aux} {s : State} (hop : q.opcode = 1) (hpre : preCheck q s = .ok)
    (hrow : objRow s q.index q.sub = some r) : serve q aux s = if mayRead q r then
      respond q (readBytes (objKey q.index q.sub) r 0 r.ty.size s).1 (readBytes (objKey q.index q.sub) r 0 r.ty.size s).2.1
        (readBytes (objKey q.index q.sub) r 0 r.ty.size s).2.2 else respond q .denied [] s := by
  simp only [serve, hpre, hrow, hop, serveSmall, or_self, if_true, if_false, Nat.reduceEqDiff]
  cases mayRead q r <;> rfl

/-- What the delivery of interrupts reads is as it was before a request's reception. -/
theorem Reached.lowestFor_eq {s u : State} (h : Reached s u) (t : Nat) : lowestFor u t = lowestFor s t := by
  have hdeliver : ∀ i ∈ List.range 128, deliverable u t i = deliverable s t i := by
    intro i hi
    have hsrc : u.oN (Obj.irqSrc i) = s.oN (Obj.irqSrc i) := by
      refine h.oN_eq (not_mem_requestKeys.2 ?_)
      have := List.mem_range.1 hi
      simp only [Obj.irqSrc, objKey]
      omega
    have hnow : u.now = s.now := State.varN_congr (h.vars .now 0 0 (by decide))
    have hholds : holdRuns u (i / 8) = holdRuns s (i / 8) := by
      rw [holdRuns, holdRuns, State.dueT, State.dueT, State.varN, State.varN, h.varB_eq (by decide), h.vars .holdT (i / 8) 0 (by decide),
        hnow]
    rw [deliverable, deliverable, irqCfg, irqCfg, hsrc, hholds, h.varB_eq (by decide)]
  exact List.find?_congr hdeliver

/-- Interrupt i is no longer pending but claimed, and the claim counted. -/
def claimTaken (i : Nat) (s : State) : State := ((s.setFlag .irqPend false i).setFlag .irqClaimed true i).bump Obj.irqClaims

/-- The hold-off of interrupt i's group starts, where it has one. -/
def holdStarted (i : Nat) (s : State) : State :=
  if s.oN (Obj.irqHoldoff (i / 8)) = 0 then s else s.startT .holdT (s.oN (Obj.irqHoldoff (i / 8))) (i / 8)

/-- The claim of interrupt i by target t. -/
def claimedBy (t i : Nat) (s : State) : State := (holdStarted i (claimTaken i s)).setO (irqLast t) i

theorem claimBy_some {t i : Nat} {s : State} (h : lowestFor s t = some i) : claimBy t s = (i, claimedBy t i s) := by
  rw [claimBy, h]
  rfl

theorem claimBy_none {t : Nat} {s : State} (h : lowestFor s t = none) :
    claimBy t s = (0xFF, (s.bump (Obj.irqSpurious t)).setO (irqLast t) 0xFF) := by rw [claimBy, h]

theorem claimTaken_within (i : Nat) (s : State) : Within [Obj.irqClaims] [.irqPend, .irqClaimed] s (claimTaken i s) :=
  ((WithinAll.refl.setFlag (by simp)).setFlag (by simp)).bump (by simp)

theorem claimTaken_takes (i : Nat) (s : State) : (claimTaken i s).varB .irqPend i = false ∧ (claimTaken i s).varB .irqClaimed i = true ∧
    ∀ j, j ≠ i → (claimTaken i s).var .irqPend j = s.var .irqPend j := by
  have hclaimed (j : Nat) : (claimTaken i s).var .irqPend j = (s.setFlag .irqPend false i).var .irqPend j := by
    simp [claimTaken, State.setFlag, State.bump, State.var_setVar]
  refine ⟨(State.varB_congr (hclaimed i)).trans (State.varB_setFlag_self _ _ _ _ _), 
    State.varB_setFlag_self (s.setFlag .irqPend false i) .irqClaimed true i 0,
    fun j hj => (hclaimed j).trans (State.var_setVar_ne s _ (by simp [hj]))⟩

theorem holdStarted_within (i : Nat) (s : State) : Within [] [.holdT] s (holdStarted i s) :=
  .ite .refl (WithinAll.refl.startT (by simp))

theorem claimedBy_within (t i : Nat) (s : State) :
    Within [irqLast t, Obj.irqClaims] [.irqPend, .irqClaimed, .holdT] s (claimedBy t i s) :=
  (((claimTaken_within i s).mono (by simp) (by simp) (by simp)).trans
    ((holdStarted_within i _).mono (by simp) (by simp) (by simp))).setO (by simp)

/-- A claim takes the interrupt's pending bit, and no other. -/
theorem claimedBy_claims (i : Nat) (s : State) : (claimedBy 0 i s).varB .irqPend i = false ∧
    (claimedBy 0 i s).varB .irqClaimed i = true ∧ (claimedBy 0 i s).o Obj.irqLastA = i ∧
    (claimedBy 0 i s).o Obj.irqClaims = (s.bump Obj.irqClaims).o Obj.irqClaims ∧
    ∀ j, j ≠ i → (claimedBy 0 i s).var .irqPend j = s.var .irqPend j := by
  have hrest : Within [Obj.irqLastA] [.holdT] (claimTaken i s) (claimedBy 0 i s) :=
    ((holdStarted_within i _).mono (by simp) (by simp) (by simp)).setO (by simp [irqLast])
  obtain ⟨hpend, hclaimed, hothers⟩ := claimTaken_takes i s
  exact ⟨(State.varB_congr (hrest.vars .irqPend i 0 (by decide))).trans hpend,
    (State.varB_congr (hrest.vars .irqClaimed i 0 (by decide))).trans hclaimed, State.o_setO_self _ _ _,
    hrest.objs _ (by decide) (by simp), fun j hj => (hrest.vars .irqPend j 0 (by decide)).trans (hothers j hj)⟩

/-! ### A read on SPI -/

/-- The reception of a request on SPI counts its frame there, and on no other port. -/
theorem atChecks_spi {q : Req} (hspi : q.port < 2) (s : State) :
    RegsWithin [Obj.spiFrames q.port] [] [.spiErr, .spiBusy, .dSlots, .dqAt] s (atChecks q {} s) := by
  have htaken : RegsWithin [Obj.spiFrames q.port] [] [.spiErr, .spiBusy, .dSlots, .dqAt] s (takeIn q.port s) := by
    rw [takeIn, if_neg (by omega), if_neg (by omega)]
    have hport (v : PortState) : RegsWithin [Obj.spiFrames q.port] [] [.spiErr, .spiBusy, .dSlots, .dqAt] s (setPort q.port v s) :=
      ⟨fun _ _ _ => o_setPort _ _ _ _, fun _ _ _ _ => var_setPort _ _ _ _ _ _⟩
    exact (((hport _).bump (by simp)).setVar (by simp)).setVar (by simp)
  have hheld := htaken.trans ((hold_work q {} (takeIn q.port s)).regs.mono (by simp) (by simp) (by simp))
  exact ((hheld.setVar (by simp)).setVar (by simp)).setVar (by simp)

/-- An answer on SPI is the port's, and changes no object. -/
theorem AtOnce.spiAnswers {s x : State} {q : Req} {st : Status} {d : List Byte} (h : AtOnce s q) (hspi : q.port < 2)
    (hop : q.opcode ≠ 8) (hserve : serve q {} (atChecks q {} s) = respond q st d x) :
    (portOf (request q {} s) q.port).resp = some (respOf q st d) ∧ RegsWithin [] [] [] x (request q {} s) := by
  have hbench : q.port = 4 → x.bit Obj.portFlags 4 = true := fun h4 => by omega
  have hport := (respond_port (s := x) h.port_lt hbench st d).2
  have hregs : RegsWithin [] [] [] x (respond q st d x) := by
    rw [respond_eq hbench, canAnswer, if_neg (by omega)]
    exact ⟨fun _ _ _ => o_setPort _ _ _ _, fun _ _ _ _ => var_setPort _ _ _ _ _ _⟩
  rw [h.request_eq hop]
  exact ⟨by rw [portOf_lateEvents, hserve]; exact hport, RegsWithin.lateEvents (by rw [hserve]; exact hregs)⟩

/-! ### The claim objects -/

/-- The key of a target's claim object, and its row. -/
abbrev claimKey (b : Bool) : Nat := if b then Obj.irqClaimB else Obj.irqClaimA

/-- A claim read that is served at once finds its object, which only its own port may read. -/
theorem claim_row {b : Bool} {port tid : Nat} {s : State} (h : freeFor s (readReq port tid (claimKey b)) = true) :
    ∃ r, objRow s (keyIndex (claimKey b)) (keySub (claimKey b)) = some r ∧
      mayRead (readReq port tid (claimKey b)) r = decide (port = if b then 1 else 0) := by
  obtain ⟨r, hrow⟩ := objRow_of_preCheck (freeFor_iff.1 h).2 (show 1 ≠ 6 by decide)
  refine ⟨r, hrow, ?_⟩
  have hr : (dictRow (keyIndex (claimKey b)) (keySub (claimKey b))).map _ = _ := objRow_some hrow (.inl (by cases b <;> decide))
  have hdict : (dictRow (keyIndex (claimKey b)) (keySub (claimKey b))).map (fun d => (d.ty, d.access, d.apply)) =
      some (.u8, .ro, .none) := by cases b <;> decide +kernel
  rw [hdict, Option.some.injEq, Prod.mk.injEq, Prod.mk.injEq] at hr
  have hkey : objKey (readReq port tid (claimKey b)).index (readReq port tid (claimKey b)).sub = claimKey b := objKey_keyIndex_keySub _
  have hne : Obj.irqClaimA ≠ Obj.irqClaimB := by decide
  simp only [mayRead, hkey, ← hr.2.1]
  cases b <;> simp [claimKey, hne, hne.symm, readReq]

/-- A claim as the bytes of a read. -/
def claimAnswer (p : Nat × State) : Status × List Byte × State := (.ok, u8 p.1, p.2)

theorem readBytes_claimA (r : Row) (off n : Nat) (s : State) : readBytes Obj.irqClaimA r off n s = claimAnswer (claimBy 0 s) := by
  rw [readBytes, if_pos rfl]
  rfl

theorem readBytes_claimB (r : Row) (off n : Nat) (s : State) : readBytes Obj.irqClaimB r off n s = claimAnswer (claimBy 1 s) := by
  rw [readBytes, if_neg (by decide), if_pos rfl]
  rfl

/-- A claim read on its own port delivers the claim (R484). -/
theorem claimRead_serves {b : Bool} {port tid i : Nat} {s x : State} (h : freeFor s (readReq port tid (claimKey b)) = true)
    (hport : port = if b then 1 else 0)
    (hclaim : claimBy (if b then 1 else 0) (atChecks (readReq port tid (claimKey b)) {} s) = (i, x)) :
    serve (readReq port tid (claimKey b)) {} (atChecks (readReq port tid (claimKey b)) {} s) =
      respond (readReq port tid (claimKey b)) .ok (u8 i) x := by
  obtain ⟨hnow, hpre⟩ := freeFor_iff.1 h
  have hrec := (atChecks_received hnow.port_lt {} s).reached
  obtain ⟨r, hrow, hmay⟩ := claim_row h
  have hkey : objKey (readReq port tid (claimKey b)).index (readReq port tid (claimKey b)).sub = claimKey b := objKey_keyIndex_keySub _
  have hbytes : readBytes (claimKey b) r 0 r.ty.size (atChecks (readReq port tid (claimKey b)) {} s) = (.ok, u8 i, x) := by
    cases b with
    | false => exact (readBytes_claimA _ _ _ _).trans (congrArg claimAnswer hclaim)
    | true => exact (readBytes_claimB _ _ _ _).trans (congrArg claimAnswer hclaim)
  rw [serve_read rfl (by rw [hrec.preCheck_eq, hpre]) (by rw [hrec.objRow_eq]; exact hrow), hmay, decide_eq_true hport, if_pos rfl, hkey,
    hbytes]

/-- A claim read on another port is denied (R484). -/
theorem claimRead_denied {b : Bool} {port tid : Nat} {s : State} (h : freeFor s (readReq port tid (claimKey b)) = true)
    (hport : port ≠ if b then 1 else 0) :
    serve (readReq port tid (claimKey b)) {} (atChecks (readReq port tid (claimKey b)) {} s) =
      respond (readReq port tid (claimKey b)) .denied [] (atChecks (readReq port tid (claimKey b)) {} s) := by
  obtain ⟨hnow, hpre⟩ := freeFor_iff.1 h
  have hrec := (atChecks_received hnow.port_lt {} s).reached
  obtain ⟨r, hrow, hmay⟩ := claim_row h
  rw [serve_read rfl (by rw [hrec.preCheck_eq, hpre]) (by rw [hrec.objRow_eq]; exact hrow), hmay, decide_eq_false hport]
  exact if_neg Bool.false_ne_true

/-! ## A clear of pending bits (R487) -/

/-- A write of irq.clear. -/
abbrev clearReq (c : Plain) : Req := { plainReq c Obj.irqClear with opcode := 5 }

/-- The pending bits that a clear leaves. -/
theorem irqClear_clears (v : Nat) (s : State) : RegsWithin [] [] [.irqPend] s (irqClear v s).2 ∧
    ∀ j < 128, (irqClear v s).2.varB .irqPend j = (s.varB .irqPend j && !v.testBit j) := by
  refine ⟨RegsWithin.refl.forRange fun i u h => .ite (h.setFlag (by simp)) h, ?_⟩
  have hall := forRange_upTo (P := fun n u => ∀ j, u.varB .irqPend j = (s.varB .irqPend j && !(decide (j < n) && v.testBit j)))
    (n := 128) (f := fun i s => if v.testBit i then s.setFlag .irqPend false i else s) (s := s) (by simp) ?step
  case step =>
    intro i _ u hu j
    by_cases hji : j = i
    · subst hji
      by_cases hbit : v.testBit j = true
      · simp [hbit]
      · simp [hbit, hu]
    · have hkept : (if v.testBit i = true then u.setFlag .irqPend false i else u).varB .irqPend j = u.varB .irqPend j := by
        split
        · exact State.varB_congr (State.var_setVar_ne u _ (by simp [hji]))
        · rfl
      have hlt : (j < i + 1) = (j < i) := propext ⟨fun h => by omega, fun h => by omega⟩
      rw [hkept, hu, decide_eq_decide.2 (iff_of_eq hlt)]
  exact fun j hj => (hall j).trans (by simp [hj])

theorem commandA_irqClear (p v : Nat) (s : State) : commandA p Obj.irqClear v s = none := rfl

theorem commandB_irqClear (p slot copies : Nat) (v : Int) (s : State) :
    commandB p slot copies Obj.irqClear v s = some (irqClear v.toNat s) := rfl

theorem mayServe_irqClear (s : State) : mayServe s Obj.irqClear = true := by
  have hindex : keyIndex Obj.irqClear = 0x3D02 := by decide
  have hkeys : Obj.irqClear ≠ Obj.marshalAckAll ∧ Obj.irqClear ≠ Obj.sysModeReq := by decide
  simp [mayServe, teamMayWrite, hindex, hkeys.1, hkeys.2]

/-- The one segment of a block write of irq.clear writes the object. -/
theorem serve_clearReq {c : Plain} {s : State} (h : freeFor s (clearReq c) = true) (hlen : c.data.length = 16) :
    serve (clearReq c) {} (atChecks (clearReq c) {} s) = respond (clearReq c) .ok []
      (irqClear (ofLeBytes c.data) (hold (clearReq c) {} (atChecks (clearReq c) {} s))).2 := by
  obtain ⟨hnow, hpre⟩ := freeFor_iff.1 h
  have hrec := (atChecks_received hnow.port_lt {} s).reached
  obtain ⟨r, hrow⟩ := objRow_of_preCheck hpre (show 5 ≠ 6 by decide)
  have hr : (dictRow (keyIndex Obj.irqClear) (keySub Obj.irqClear)).map _ = _ := objRow_some hrow (.inl (by decide))
  rw [show (dictRow (keyIndex Obj.irqClear) (keySub Obj.irqClear)).map (fun d => (d.ty, d.access, d.apply)) =
    some (.oct 16, .rw, .immediate) by decide +kernel, Option.some.injEq, Prod.mk.injEq, Prod.mk.injEq] at hr
  obtain ⟨hty, hacc, -⟩ := hr
  have hheld : Reached s (hold (clearReq c) {} (atChecks (clearReq c) {} s)) :=
    hrec.trans ((hold_work _ _ _).regs.mono (by simp) (by simp) (by simp))
  obtain ⟨htxn, hserved, -⟩ := hold_port (q := clearReq c) hnow.port_lt {} (atChecks (clearReq c) {} s)
  have hkey : objKey (clearReq c).index (clearReq c).sub = Obj.irqClear := objKey_keyIndex_keySub _
  have hne : Obj.irqClear ≠ Obj.nvmScratch ∧ Obj.irqClear ≠ Obj.imgStage := by decide
  have hval : (decodeVal r.ty (clearReq c).data).toNat = ofLeBytes c.data := toNat_decodeVal (by rw [← hty]; rfl) _
  have hwrite : writeObject (clearReq c) {} r (hold (clearReq c) {} (atChecks (clearReq c) {} s)) =
      (some .ok, (irqClear (ofLeBytes c.data) (hold (clearReq c) {} (atChecks (clearReq c) {} s))).2) := by
    refine writeObject_alone hkey (hlen.trans (by rw [← hty]; rfl)) (by rw [← hacc]; decide) (mayServe_irqClear _) (by decide)
      (writeValue_commandB (by decide) (commandA_irqClear _ _ _) ?_)
    rw [commandB_irqClear, hval]
    rfl
  have hlast : decide ((clearReq c).len ≤ 32 * 0 + 32) = true := decide_eq_true (hlen.trans_le (by decide))
  have hrow' : objRow (hold (clearReq c) {} (atChecks (clearReq c) {} s)) (clearReq c).index (clearReq c).sub = some r := by
    rw [hheld.objRow_eq]; exact hrow
  have hsegment : serveSegment (clearReq c).port (hold (clearReq c) {} (atChecks (clearReq c) {} s)) = respond (clearReq c) .ok []
      (irqClear (ofLeBytes c.data) (hold (clearReq c) {} (atChecks (clearReq c) {} s))).2 := by
    rw [serveSegment]
    simp only [htxn, hrow', hserved, hkey, hlast, hne.1, hne.2, hwrite, Bool.not_true,
      Bool.false_eq_true, if_false, Nat.reduceEqDiff]
    rfl
  have hpre' : preCheck (clearReq c) (atChecks (clearReq c) {} s) = .ok := by rw [hrec.preCheck_eq, hpre]
  have hrowChecks : objRow (atChecks (clearReq c) {} s) (clearReq c).index (clearReq c).sub = some r := by
    rw [hrec.objRow_eq]; exact hrow
  rw [serve]
  simp only [hpre', hrowChecks, serveBlock, ← hacc, ne_eq, not_true_eq_false, or_true, if_true,
    if_false, Nat.reduceEqDiff]
  exact hsegment

/-! ## The commands at their writes -/

/-- No object of the collie counts frames. -/
theorem collie_ne_canTx {b : Nat} (hb : b < 256) (n : Nat) : objKey 0x3C00 b ≠ Obj.canTx n := by
  simp only [Obj.canTx, objKey]
  omega

theorem Wrote.collie {ks : List Nat} {vs : List VarKind} {s x t : State} {q : Req} {st : Status} (h : Wrote ks vs s x q st t) {b : Nat}
    (hb : b < 256) : t.o (objKey 0x3C00 b) = x.o (objKey 0x3C00 b) := h.objs _ (collie_ne_canTx hb)

theorem Wrote.collieSt {ks : List Nat} {vs : List VarKind} {s x t : State} {q : Req} {st : Status} (h : Wrote ks vs s x q st t) :
    collieSt t = collieSt x := congrArg Int.toNat (h.collie (b := 0x20) (by decide))

theorem collieServed_intake (v : Nat) (s : State) : (collieServed v s).intake = s.intake := by
  simp [collieServed, collieKept, collieGo, State.setOB, State.bump]

theorem Reached.collieSt_eq {s u : State} (h : Reached s u) : collieSt u = collieSt s := h.oN_eq (by decide)

theorem Reached.collieMissing_eq {s u : State} (h : Reached s u) : collieMissing u = collieMissing s :=
  collieMissing_congr (h.o_eq (by decide)) (h.o_eq (by decide))

theorem atWrite_arrived {s : State} {c : Plain} {key : Nat} (h : plainOk s c key = true) : (atWrite c key s).arrived = s.arrived := by
  have hrec : Received s (atWrite c key s) := atChecks_received (plainOk_port h) {} s
  rw [hrec.rest]

theorem atWrite_posts {s : State} {c : Plain} {key : Nat} (h : plainOk s c key = true) : (atWrite c key s).posts = s.posts := by
  have hrec : Received s (atWrite c key s) := atChecks_received (plainOk_port h) {} s
  rw [hrec.rest]

/-- A refused service that is reported. -/
theorem collieServe_reported {s : State} {c : Plain} {st : Status} {cls : Nat} {data : List Byte} (hok : plainOk s c Obj.collieServe = true)
    (hlen : c.data.length = 4) (hcmd : collieServe (ofLeBytes c.data) c.port (atWrite c Obj.collieServe s) =
      (st, (atWrite c Obj.collieServe s).raiseActionLater 240 cls data)) :
    answered (request (plainReq c Obj.collieServe) {} s) (plainReq c Obj.collieServe) st = true ∧
    (request (plainReq c Obj.collieServe) {} s).arrived = s.arrived ++ [⟨240, cls, data, false⟩] ∧
    RegsWithin [Obj.uartFrames] [Obj.canRx, Obj.canTx, Obj.spiFrames] [.spiErr, .spiBusy, .dSlots, .dqAt] s
      (request (plainReq c Obj.collieServe) {} s) := by
  obtain ⟨hans, harrived, hregs⟩ := collieServe_refused hok hlen hcmd WithinAll.refl.raiseActionLater (State.raiseActionLater_intake _ _ _ _)
  exact ⟨hans, by rw [harrived, State.raiseActionLater_arrived, atWrite_arrived hok], hregs⟩

/-- A refused service that is not reported. -/
theorem collieServe_silent {s : State} {c : Plain} (hok : plainOk s c Obj.collieServe = true) (hlen : c.data.length = 4)
    (hcmd : collieServe (ofLeBytes c.data) c.port (atWrite c Obj.collieServe s) = (.stateForbids, atWrite c Obj.collieServe s)) :
    answered (request (plainReq c Obj.collieServe) {} s) (plainReq c Obj.collieServe) .stateForbids = true ∧
    (request (plainReq c Obj.collieServe) {} s).arrived = s.arrived ∧
    RegsWithin [Obj.uartFrames] [Obj.canRx, Obj.canTx, Obj.spiFrames] [.spiErr, .spiBusy, .dSlots, .dqAt] s
      (request (plainReq c Obj.collieServe) {} s) := by
  obtain ⟨hans, harrived, hregs⟩ := collieServe_refused hok hlen hcmd WithinAll.refl rfl
  exact ⟨hans, harrived.trans (atWrite_arrived hok), hregs⟩

theorem collieServe_serves {s : State} : ∀ c : Plain, plainOk s c Obj.collieServe = true → c.data.length = 4 →
    ofLeBytes c.data % 65536 = 0xA5C3 → collieSt s = 2 → s.o Obj.collieOpen ≤ s.o Obj.collieCount → collieMissing s = 0 →
    Completes (.collieServe c) s fun t =>
      answered t (plainReq c Obj.collieServe) .ok = true ∧ collieSt t = 1 ∧
      t.o Obj.collieLastTag = ((ofLeBytes c.data / 65536 : Nat) : Int) ∧ t.o Obj.collieLastFrame = s.o Obj.frameNumber ∧
      t.o Obj.collieChecked = 0 ∧ t.o Obj.collieServices = (s.bump Obj.collieServices).o Obj.collieServices ∧
      RegsWithin (Obj.uartFrames :: servedKeys) [Obj.canRx, Obj.canTx, Obj.spiFrames] [.spiErr, .spiBusy, .dSlots, .dqAt, .collieHit]
        s t := by
  intro c hok hlen hkey hst hopen hall
  have hr := atWrite_reached hok
  have hcmd := collieServe_served (p := c.port) hkey (hr.collieSt_eq.trans hst) (by rwa [hr.o_eq (by decide), hr.o_eq (by decide)])
    (hr.collieMissing_eq.trans hall)
  have h := collieServe_wrote hok hlen hcmd ⟨collieServed_within _ _, by decide, collieServed_intake _ _⟩
  obtain ⟨htag, hframe, hchecked, hservices, hstate⟩ := collieServed_reads (ofLeBytes c.data) (atWrite c Obj.collieServe s)
  exact ⟨_, rfl, h.answered, h.collieSt.trans hstate, (h.collie (by decide)).trans htag,
    (h.collie (by decide)).trans (hframe.trans (hr.o_eq (by decide))), (h.collie (by decide)).trans hchecked,
    (h.collie (by decide)).trans (hservices.trans (State.bump_congr (hr.o_eq (by decide)))), h.regs⟩

theorem collieCheckin_repeats {s : State} : ∀ c : Plain, plainOk s c Obj.collieCheckin = true → c.data.length = 1 →
    ofLeBytes c.data ≤ 15 → collieSt s ≠ 0 → collieSt s ≠ 4 → s.bit Obj.collieChecked (ofLeBytes c.data) = true →
    Completes (.collieCheckin c) s fun t =>
      answered t (plainReq c Obj.collieCheckin) .ok = true ∧
      t.o Obj.collieAnomalies = (s.bump Obj.collieAnomalies).o Obj.collieAnomalies ∧
      t.arrived = s.arrived ++ [⟨240, 3, u8 (ofLeBytes c.data) ++ u16 (s.o Obj.collieCount) ++ u16 (s.o Obj.collieChecked), false⟩] ∧
      RegsWithin [Obj.uartFrames, Obj.collieAnomalies] [Obj.canRx, Obj.canTx, Obj.spiFrames] [.spiErr, .spiBusy, .dSlots, .dqAt] s t := by
  intro c hok hlen ht h0 h4 hold
  have hr := atWrite_reached hok
  have hcmd := collieCheckin_again ht (by rw [hr.collieSt_eq]; exact ⟨h0, h4⟩) ((hr.bit_eq (by decide) _).trans hold)
  rw [hr.o_eq (k := Obj.collieCount) (by decide), hr.o_eq (k := Obj.collieChecked) (by decide)] at hcmd
  have h := collieCheckin_wrote (ks := [Obj.collieAnomalies]) (vs := []) hok hlen hcmd
    ⟨(WithinAll.refl.bump (by simp)).raiseActionLater, by decide, rfl⟩
  have hcount : ((atWrite c Obj.collieCheckin s).bump Obj.collieAnomalies).o Obj.collieAnomalies =
      (s.bump Obj.collieAnomalies).o Obj.collieAnomalies := State.bump_congr (hr.o_eq (by decide))
  refine ⟨_, rfl, h.answered, (h.collie (b := 0x28) (by decide)).trans ((State.o_raiseActionLater _ _ _ _ _).trans hcount), ?_, h.regs⟩
  rw [h.arrived, State.raiseActionLater_arrived, ← atWrite_arrived hok]
  rfl

theorem hostbusySet_begins {s : State} : ∀ c : Plain, plainOk s c Obj.collieHostbusy = true → c.data = [1] → collieSt s = 2 →
    Completes (.hostbusySet c) s fun t =>
      answered t (plainReq c Obj.collieHostbusy) .ok = true ∧ collieSt t = 3 ∧ t.o Obj.collieHostbusy = 1 ∧
      t.varN .collieBusyT = s.nowRound + s.oN Obj.collieBusyMax + 1 ∧ t.varN .collieBusyAt = s.nowRound ∧
      t.posts = s.posts ++ [107] ∧
      RegsWithin [Obj.uartFrames, Obj.collieState, Obj.collieHostbusy] [Obj.canRx, Obj.canTx, Obj.spiFrames]
        [.spiErr, .spiBusy, .dSlots, .dqAt, .collieHit, .collieBusyT, .collieBusyAt] s t := by
  intro c hok hdata hst
  have hr := atWrite_reached hok
  have hcmd := hostbusyWrite_begins (hr.collieSt_eq.trans hst)
  have hframe : Within [Obj.collieState, Obj.collieHostbusy] [.collieHit, .collieBusyT, .collieBusyAt] (atWrite c Obj.collieHostbusy s)
      (collieSuspended (atWrite c Obj.collieHostbusy s)) :=
    (suspensionTimed_within _).trans ((collieSuspended_within _).mono (by simp) (by simp) (by simp))
  obtain ⟨hposts, hintake⟩ := collieSuspended_events (atWrite c Obj.collieHostbusy s)
  obtain ⟨hstate, hbusy, htimer, hat⟩ := collieSuspended_times (atWrite c Obj.collieHostbusy s)
  have h := collieHostbusy_wrote hok hdata hcmd ⟨hframe, by decide, hintake⟩
  have hround : (atWrite c Obj.collieHostbusy s).nowRound = s.nowRound := State.varN_congr (hr.vars .nowRound 0 0 (by decide))
  refine ⟨_, rfl, h.answered, h.collieSt.trans hstate, (h.collie (b := 0x09) (by decide)).trans hbusy, ?_, ?_, ?_, h.regs⟩
  · rw [State.varN_congr (h.vars .collieBusyT 0 0), htimer, hround, hr.oN_eq (by decide)]
  · rw [State.varN_congr (h.vars .collieBusyAt 0 0), hat, hround]
  · rw [h.posts, hposts, atWrite_posts hok]

theorem hostbusyClear_ends {s : State} : ∀ c : Plain, plainOk s c Obj.collieHostbusy = true → c.data = [0] → collieSt s = 3 →
    Completes (.hostbusyClear c) s fun t =>
      answered t (plainReq c Obj.collieHostbusy) .ok = true ∧ collieSt t = 1 ∧ t.o Obj.collieHostbusy = 0 ∧
      t.var .collieBusyT = 0 ∧ t.posts = s.posts ++ [107] ∧
      RegsWithin [Obj.uartFrames, Obj.collieState, Obj.collieHostbusy] [Obj.canRx, Obj.canTx, Obj.spiFrames]
        [.spiErr, .spiBusy, .dSlots, .dqAt, .collieHit, .collieBusyT] s t := by
  intro c hok hdata hst
  have hr := atWrite_reached hok
  have hcmd := hostbusyWrite_ends (hr.collieSt_eq.trans hst)
  obtain ⟨hstate, hbusy, htimer⟩ := collieResumed_waits (atWrite c Obj.collieHostbusy s)
  obtain ⟨hposts, hintake⟩ := collieResumed_events (atWrite c Obj.collieHostbusy s)
  have h := collieHostbusy_wrote hok hdata hcmd ⟨collieResumed_within (atWrite c Obj.collieHostbusy s), by decide, hintake⟩
  exact ⟨_, rfl, h.answered, h.collieSt.trans hstate, (h.collie (b := 0x09) (by decide)).trans hbusy, (h.vars .collieBusyT 0 0).trans htimer,
    by rw [h.posts, hposts, atWrite_posts hok], h.regs⟩

theorem claimRead_claims {s : State} : ∀ tid i : Nat, freeFor s (readReq 0 tid Obj.irqClaimA) = true → lowestFor s 0 = some i →
    Completes (.claimRead false 0 tid) s fun t =>
      t.varB .irqPend i = false ∧ t.varB .irqClaimed i = true ∧ t.o Obj.irqLastA = ((i : Nat) : Int) ∧
      t.o Obj.irqClaims = (s.bump Obj.irqClaims).o Obj.irqClaims ∧
      (portOf t 0).resp = some (respOf (readReq 0 tid Obj.irqClaimA) .ok (u8 i)) ∧
      (∀ j < 128, j ≠ i → t.var .irqPend j = s.var .irqPend j) ∧
      RegsWithin [Obj.irqLastA, Obj.irqClaims, Obj.spiFrames 0] [] [.irqPend, .irqClaimed, .holdT, .spiErr, .spiBusy, .dSlots, .dqAt]
        s t := by
  intro tid i hfree hlowest
  have hnow := (freeFor_iff.1 hfree).1
  have hr := (atChecks_received hnow.port_lt {} s).reached
  have hchecks := atChecks_spi (q := readReq 0 tid Obj.irqClaimA) (show 0 < 2 by decide) s
  have hserve := claimRead_serves (b := false) hfree rfl (claimBy_some ((hr.lowestFor_eq 0).trans hlowest))
  obtain ⟨hresp, hregs⟩ := hnow.spiAnswers (show 0 < 2 by decide) (show 1 ≠ 8 by decide) hserve
  obtain ⟨hpend, hclaimed, hlast, hclaims, hothers⟩ := claimedBy_claims i (atChecks (readReq 0 tid Obj.irqClaimA) {} s)
  have hclaim := RegsWithin.ofAll (claimedBy_within 0 i (atChecks (readReq 0 tid Obj.irqClaimA) {} s))
  have hcount : ((atChecks (readReq 0 tid Obj.irqClaimA) {} s).bump Obj.irqClaims).o Obj.irqClaims =
      (s.bump Obj.irqClaims).o Obj.irqClaims := State.bump_congr (hr.o_eq (by decide))
  have hframe : RegsWithin [Obj.irqLastA, Obj.irqClaims, Obj.spiFrames 0] []
      [.irqPend, .irqClaimed, .holdT, .spiErr, .spiBusy, .dSlots, .dqAt] s (request (readReq 0 tid Obj.irqClaimA) {} s) :=
    ((hchecks.mono (by simp [readReq]) (by simp) (by simp)).trans (hclaim.mono (by simp [irqLast]) (by simp) (by simp))).trans
      (hregs.mono (by simp) (by simp) (by simp))
  refine ⟨request (readReq 0 tid Obj.irqClaimA) {} s, rfl, (State.varB_congr (hregs.vars .irqPend i 0 (by simp))).trans hpend,
    (State.varB_congr (hregs.vars .irqClaimed i 0 (by simp))).trans hclaimed, (hregs.objs Obj.irqLastA (by simp) (by simp)).trans hlast,
    (hregs.objs Obj.irqClaims (by simp) (by simp)).trans (hclaims.trans hcount), hresp, fun j _ hj => ?_, hframe⟩
  exact (hregs.vars .irqPend j 0 (by simp)).trans ((hothers j hj).trans (hr.vars .irqPend j 0 (by decide)))

theorem claimRead_spurious {s : State} : ∀ tid : Nat, freeFor s (readReq 1 tid Obj.irqClaimB) = true → lowestFor s 1 = none →
    Completes (.claimRead true 1 tid) s fun t =>
      t.o Obj.irqLastB = 0xFF ∧ (portOf t 1).resp = some (respOf (readReq 1 tid Obj.irqClaimB) .ok [0xFF]) ∧
      RegsWithin [Obj.irqLastB, Obj.irqSpurious 1, Obj.spiFrames 1] [] [.spiErr, .spiBusy, .dSlots, .dqAt] s t := by
  intro tid hfree hnone
  have hnow := (freeFor_iff.1 hfree).1
  have hr := (atChecks_received hnow.port_lt {} s).reached
  have hserve := claimRead_serves (b := true) hfree rfl (claimBy_none ((hr.lowestFor_eq 1).trans hnone))
  obtain ⟨hresp, hregs⟩ := hnow.spiAnswers (show 1 < 2 by decide) (show 1 ≠ 8 by decide) hserve
  have hchecks := atChecks_spi (q := readReq 1 tid Obj.irqClaimB) (show 1 < 2 by decide) s
  have hclaim : RegsWithin [Obj.irqLastB, Obj.irqSpurious 1] [] [] (atChecks (readReq 1 tid Obj.irqClaimB) {} s)
      (((atChecks (readReq 1 tid Obj.irqClaimB) {} s).bump (Obj.irqSpurious 1)).setO (irqLast 1) 0xFF) :=
    (RegsWithin.refl.bump (by simp)).setO (by simp [irqLast])
  exact ⟨_, rfl, (hregs.objs _ (by simp) (by simp)).trans (State.o_setO_self _ _ _), hresp,
    ((hchecks.mono (by simp [readReq]) (by simp) (by simp)).trans (hclaim.mono (by simp) (by simp) (by simp))).trans
      (hregs.mono (by simp) (by simp) (by simp))⟩

theorem irqClear_taken {s : State} : ∀ c : Plain, freeFor s (clearReq c) = true → c.data.length = 16 →
    Completes (.irqClear c) s fun t =>
      answered t (clearReq c) .ok = true ∧
      (∀ i < 128, t.varB .irqPend i = (s.varB .irqPend i && !(ofLeBytes c.data).testBit i)) ∧
      RegsWithin [Obj.uartFrames] [Obj.canRx, Obj.canTx, Obj.spiFrames] [.irqPend, .spiErr, .spiBusy, .dSlots, .dqAt] s t := by
  intro c hfree hlen
  have hnow := (freeFor_iff.1 hfree).1
  have hrec := atChecks_received hnow.port_lt {} s
  have hwork := hold_work (clearReq c) {} (atChecks (clearReq c) {} s)
  obtain ⟨hclear, hpend⟩ := irqClear_clears (ofLeBytes c.data) (hold (clearReq c) {} (atChecks (clearReq c) {} s))
  have hflags := (hclear.objs Obj.portFlags (by simp) (by simp)).trans
    ((hwork.regs.objs Obj.portFlags (by simp) (by simp)).trans (hrec.reached.o_eq (by decide)))
  obtain ⟨hans, hregs, -, -⟩ := hnow.answersFrom (show 5 ≠ 8 by decide) (serve_clearReq hfree hlen) hflags
  refine ⟨_, rfl, hans, fun i hi => ?_, ?_⟩
  · rw [State.varB_congr (hregs.vars .irqPend i 0 (by simp)), hpend i hi, State.varB_congr (hwork.regs.vars .irqPend i 0 (by simp)),
      hrec.reached.varB_eq (by decide)]
  · have hheld := hrec.within.trans (hwork.regs.mono (by simp) (by simp) (by simp))
    exact ((hheld.mono (by simp) (by simp) (by simp)).trans (hclear.mono (by simp) (by simp) (by simp))).trans
      (hregs.mono (by simp) (by simp) (by simp))

/-! ## The obligation -/

/-- Settles O37: each command's write is answered with its effect, a claim is read on its own port alone, and a clear takes the bits of
its one segment. -/
theorem collieAndInterruptAccesses : Obligations.CollieAndInterruptAccesses := by
  unfold Obligations.CollieAndInterruptAccesses
  intro s
  refine ⟨collieServe_serves, ?early, ?wrongKey, ?waiting, ?missing, ?suspended, ?off, ?first, collieCheckin_repeats,
    hostbusySet_begins, ?refused, hostbusyClear_ends, claimRead_claims, claimRead_spurious, ?denied, irqClear_taken⟩
  case early =>
    intro c hok hlen hkey hst hclosed
    have hr := atWrite_reached hok
    have hcmd := collieServe_early (p := c.port) hkey (hr.collieSt_eq.trans hst) (by rwa [hr.o_eq (by decide), hr.o_eq (by decide)])
    rw [hr.o_eq (k := Obj.collieCount) (by decide), hr.o_eq (k := Obj.collieOpen) (by decide)] at hcmd
    exact ⟨_, rfl, collieServe_reported hok hlen hcmd⟩
  case wrongKey =>
    intro c hok hlen hkey h0 h4
    have hr := atWrite_reached hok
    exact ⟨_, rfl, collieServe_reported hok hlen (collieServe_wrongKey hkey (by rw [hr.collieSt_eq]; exact ⟨h0, h4⟩))⟩
  case waiting =>
    intro c hok hlen hkey hst
    have hr := atWrite_reached hok
    have hcmd := collieServe_waiting (p := c.port) hkey (hr.collieSt_eq.trans hst)
    rw [hr.o_eq (k := Obj.collieCount) (by decide), hr.o_eq (k := Obj.collieOpen) (by decide)] at hcmd
    exact ⟨_, rfl, collieServe_reported hok hlen hcmd⟩
  case missing =>
    intro c hok hlen hkey hst hopen hmissing
    have hr := atWrite_reached hok
    have hcmd := collieServe_missing (p := c.port) hkey (hr.collieSt_eq.trans hst) (by rwa [hr.o_eq (by decide), hr.o_eq (by decide)])
      (by rwa [hr.collieMissing_eq])
    rw [hr.o_eq (k := Obj.collieCount) (by decide), hr.o_eq (k := Obj.collieChecked) (by decide), hr.collieMissing_eq] at hcmd
    exact ⟨_, rfl, collieServe_reported hok hlen hcmd⟩
  case suspended =>
    intro c hok hlen hkey hst
    exact ⟨_, rfl, collieServe_silent hok hlen (collieServe_suspended hkey ((atWrite_reached hok).collieSt_eq.trans hst))⟩
  case off =>
    intro c hok hlen hst
    exact ⟨_, rfl, collieServe_silent hok hlen (collieServe_off (by rwa [(atWrite_reached hok).collieSt_eq]))⟩
  case first =>
    intro c hok hlen ht h0 h4 hnew
    have hr := atWrite_reached hok
    have hcmd := collieCheckin_first ht (by rw [hr.collieSt_eq]; exact ⟨h0, h4⟩) ((hr.bit_eq (by decide) _).trans hnew)
    have h := collieCheckin_wrote (ks := [Obj.collieChecked]) (vs := []) hok hlen hcmd
      ⟨WithinAll.refl.setBit (by simp), by decide, State.setO_intake _ _ _⟩
    exact ⟨_, rfl, h.answered, (bit_congr (h.collie (b := 0x22) (by decide)) _).trans ((State.bit_setBit _ _ _ _ _).trans (if_pos rfl)), h.regs⟩
  case refused =>
    intro c hok hdata h2 h3
    have hr := atWrite_reached hok
    have hcmd := hostbusyWrite_refused (s := atWrite c Obj.collieHostbusy s) (by rwa [hr.collieSt_eq]) (by rwa [hr.collieSt_eq])
    have h := collieHostbusy_wrote (ks := []) (vs := []) hok hdata hcmd ⟨WithinAll.refl, by simp, rfl⟩
    exact ⟨_, rfl, h.answered, h.regs⟩
  case denied =>
    intro b port tid hfree hport
    obtain ⟨hans, -, -, hregs⟩ := (freeFor_iff.1 hfree).1.refused (show 1 ≠ 8 by decide) (claimRead_denied hfree hport)
    exact ⟨_, rfl, hans, hregs⟩

end Sys2Proof.Machine
end
